-- ==== Sys2Proof/Word.lean ====
section
/-! DEFINITION. Bytes, and the little-endian order in which the FV68 stores and sends every value (R13). -/

namespace Sys2Proof

/-- One byte on a port, in a record or in MRAM. -/
abbrev Byte := BitVec 8

/-- A run of bytes: the value of a VIS or DOMAIN object, a record, a frame payload. -/
abbrev Bytes := List Byte

/-- `n` bytes of a number, least significant first (R13). -/
def toLE : Nat → Nat → Bytes
  | 0, _ => []
  | n + 1, v => BitVec.ofNat 8 v :: toLE n (v / 256)

/-- The number that bytes spell, least significant first (R13). -/
def ofLE : Bytes → Nat
  | [] => 0
  | b :: bs => b.toNat + 256 * ofLE bs

/-- The two's complement reading of `v`, a number of `w` bits (R12). -/
def signed (w v : Nat) : Int := if v < 2 ^ (w - 1) then v else (v : Int) - 2 ^ w

/-- A number reduced to `w` bits, negative numbers in two's complement (R12). -/
def unsigned (w : Nat) (v : Int) : Nat := (v % 2 ^ w).toNat

/-- Limit `v` to the closed range `lo`–`hi`. -/
def clampInt (lo hi v : Int) : Int := max lo (min hi v)

/-- Bit `k` of a number. -/
def bitOf (v : Int) (k : Nat) : Bool := (v.toNat).testBit k

/-- A number with bit `k` set. -/
def setBit (v : Int) (k : Nat) : Int := ((v.toNat ||| 2 ^ k : Nat) : Int)

/-- A field of a packed object: one Boolean at bit `k`. -/
def flagAt (k : Nat) (b : Bool) : Int := if b then 2 ^ k else 0

@[simp] theorem toLE_length (n v : Nat) : (toLE n v).length = n := by
  induction n generalizing v with
  | zero => rfl
  | succ n ih => simp [toLE, ih]

theorem ofLE_toLE (n v : Nat) : ofLE (toLE n v) = v % 256 ^ n := by
  induction n generalizing v with
  | zero => simp [toLE, ofLE, Nat.mod_one]
  | succ n ih =>
    have h : v % 256 ^ (n + 1) = v % 256 + 256 * (v / 256 % 256 ^ n) := by
      rw [pow_succ', Nat.mod_mul]
    rw [h]
    simp [toLE, ofLE, ih]

end Sys2Proof
end

