-- ==== Sys2Proof/Machine/Operands.lean ====
section
/-! DEFINITION. The operand forms of the commands: who sends an access, in what role, with what outcome, and the
values of the state machines that a command names. -/

namespace Sys2Proof.Machine

/-- The party and path of an access to the dictionary: a local port, the debug port, or a network partner by slot
(R352, R358, R462). -/
inductive Accessor
  | spi | tw | debug | partner (slot : Fin 64)
  deriving DecidableEq, Repr

/-- The roles of R352. -/
inductive Role
  | host | peer | installer | metrologist | vendor
  deriving DecidableEq, Repr

/-- The role code of R352. -/
def Role.code : Role → Nat
  | .host => 1 | .peer => 2 | .installer => 3 | .metrologist => 4 | .vendor => 5

/-- INSTALLER or a higher role; HOST counts (R352). -/
def Role.installerUp : Role → Bool
  | .peer => false | _ => true

/-- The abort codes of R353. -/
inductive Abort
  | noSuchObject | noSuchSubindex | roleDenied | sealed | typeMismatch | outOfRange | unitAbsent | busy
  | stagedConflict | versionNotNegotiated | passwordRequired | modeForbids | operationsFull | leaseRevoked
  | debugForbids
  deriving DecidableEq, Repr

/-- The code of an abort (R353). -/
def Abort.code : Abort → Nat
  | .noSuchObject => 1 | .noSuchSubindex => 2 | .roleDenied => 3 | .sealed => 4 | .typeMismatch => 5
  | .outOfRange => 6 | .unitAbsent => 7 | .busy => 8 | .stagedConflict => 9 | .versionNotNegotiated => 10
  | .passwordRequired => 11 | .modeForbids => 12 | .operationsFull => 13 | .leaseRevoked => 14
  | .debugForbids => 15

/-- What the latest access was answered: nothing (the port is silent), done, done with an operation tag, the bytes
read, an abort code, or the port's own BUSY (R44). -/
inductive Answer
  | silent | done | tag (t : Nat) | data (bs : Bytes) | abort (a : Abort) | portBusy
  deriving DecidableEq, Repr

/-- The twelve modes (R44). -/
inductive Mode
  | vault | ship | dormant | boot | idle | ramp | run | constrained | ride | seal | failsafe | service
  deriving DecidableEq, Repr

/-- The mode codes of R44. -/
def Mode.code : Mode → Nat
  | .vault => 1 | .ship => 2 | .dormant => 3 | .boot => 4 | .idle => 5 | .ramp => 6 | .run => 7
  | .constrained => 8 | .ride => 9 | .seal => 10 | .failsafe => 11 | .service => 12

/-- The history reasons of R55. -/
inductive Reason
  | supplyReturn | hrst | wake | bootDone | bootFault | hostRequest | seqUp | seqDone | ledgerConstrain
  | ledgerRelease | vinLost | vinQualified | railFault | supplyLoss | sealDone | fsRetry | fsClearPb
  | fsClearCommand | fsClearVin | shipEntry | dormantAbandoned | vaultAbandoned
  deriving DecidableEq, Repr

/-- The reason codes of R55. -/
def Reason.code : Reason → Nat
  | .supplyReturn => 1 | .hrst => 2 | .wake => 3 | .bootDone => 4 | .bootFault => 5 | .hostRequest => 6
  | .seqUp => 7 | .seqDone => 8 | .ledgerConstrain => 9 | .ledgerRelease => 10 | .vinLost => 11
  | .vinQualified => 12 | .railFault => 13 | .supplyLoss => 14 | .sealDone => 15 | .fsRetry => 16
  | .fsClearPb => 17 | .fsClearCommand => 18 | .fsClearVin => 19 | .shipEntry => 20
  | .dormantAbandoned => 21 | .vaultAbandoned => 22

/-- The operation statuses of R355. -/
inductive OpStatus
  | none | pending | running | completed | aborted | failed | superseded | refused
  deriving DecidableEq, Repr

/-- The status codes of R355. -/
def OpStatus.code : OpStatus → Nat
  | .none => 0 | .pending => 1 | .running => 2 | .completed => 3 | .aborted => 4 | .failed => 5
  | .superseded => 6 | .refused => 7

/-- The kinds of tagged operation (R407, R425, R458). -/
inductive OpKind
  | none | railVoltage | groupUp | groupDown | sessionOpen | sessionClose | commit | cfgSave
  | dma | otp | lifecycle
  deriving DecidableEq, Repr

/-- Who issued an operation (R404 byte 2): HOST, a partner slot, or the device itself. -/
inductive Issuer
  | host | slot (n : Fin 64) | internal
  deriving DecidableEq, Repr

/-- The issuer byte of R404. -/
def Issuer.code : Issuer → Nat
  | .host => 1 | .slot n => 0x10 + n.val | .internal => 0xFE

/-- The state of an abort request (R404 byte 3). -/
inductive AbortMark
  | none | requested | won | lost
  deriving DecidableEq, Repr

/-- The abort mark byte of R404. -/
def AbortMark.code : AbortMark → Nat
  | .none => 0 | .requested => 1 | .won => 2 | .lost => 3

/-- The phase states of R84. -/
inductive PhState
  | off | prebias | active | shed | spare | isolated
  deriving DecidableEq, Repr

/-- The codes of `PH_STATE` (R89). -/
def PhState.code : PhState → Nat
  | .off => 0 | .prebias => 1 | .active => 2 | .shed => 3 | .spare => 4 | .isolated => 5

/-- A phase's role in its rail (R89). -/
inductive PhRole
  | none | member | spare
  deriving DecidableEq, Repr

/-- The codes of `PH_ROLE` (R89). -/
def PhRole.code : PhRole → Nat
  | .none => 0 | .member => 1 | .spare => 2

/-- Why a phase is isolated (R79, R89). -/
inductive IsoReason
  | none | senseLoss | openPhase | cfFault | fenced | host | prebiasTimeout
  deriving DecidableEq, Repr

/-- The codes of `PH_ISO_REASON` (R89). -/
def IsoReason.code : IsoReason → Nat
  | .none => 0 | .senseLoss => 1 | .openPhase => 2 | .cfFault => 3 | .fenced => 4 | .host => 5
  | .prebiasTimeout => 6

/-- The rail states of R107. -/
inductive RailState
  | unbuilt | off | onDelay | prebias | rampUp | up | offDelay | rampDown | discharge | quenched | pullIn | hold
  deriving DecidableEq, Repr

/-- The codes of `RAIL_STATE` (R118). -/
def RailState.code : RailState → Nat
  | .unbuilt => 0 | .off => 1 | .onDelay => 2 | .prebias => 3 | .rampUp => 4 | .up => 5 | .offDelay => 6
  | .rampDown => 7 | .discharge => 8 | .quenched => 9 | .pullIn => 10 | .hold => 11

/-- The AUX output states of R121. -/
inductive AuxState
  | off | ramping | on | limit
  deriving DecidableEq, Repr

/-- The codes of `AUX_STATE` (R121). -/
def AuxState.code : AuxState → Nat
  | .off => 0 | .ramping => 1 | .on => 2 | .limit => 3

/-- The group states of R159. -/
inductive GrpState
  | down | held | rising | up | falling
  deriving DecidableEq, Repr

/-- The codes of `GRP_STATE` (R168). -/
def GrpState.code : GrpState → Nat
  | .down => 0 | .held => 1 | .rising => 2 | .up => 3 | .falling => 4

/-- What a group waits for (`GRP_WAIT`, R168). -/
inductive GrpWait
  | none | toffmin | fog | after | coop | ledger | stepDelay | qualify | bell | legacy | railsDown
  deriving DecidableEq, Repr

/-- The codes of `GRP_WAIT` (R168). -/
def GrpWait.code : GrpWait → Nat
  | .none => 0 | .toffmin => 1 | .fog => 2 | .after => 3 | .coop => 4 | .ledger => 5 | .stepDelay => 6
  | .qualify => 7 | .bell => 8 | .legacy => 9 | .railsDown => 10

/-- The group results of R159. -/
inductive GrpResult
  | none | upDone | downDone | reversed | cancelled | pgTimeout | stepTimeout | bellTimeout | legacyFault
  | legacyLost | railUnbuilt | quenched | fogExternal
  deriving DecidableEq, Repr

/-- The codes of `GRP_RESULT` (R159). -/
def GrpResult.code : GrpResult → Nat
  | .none => 0 | .upDone => 1 | .downDone => 2 | .reversed => 3 | .cancelled => 4 | .pgTimeout => 0x10
  | .stepTimeout => 0x11 | .bellTimeout => 0x12 | .legacyFault => 0x13 | .legacyLost => 0x14
  | .railUnbuilt => 0x15 | .quenched => 0x16 | .fogExternal => 0x17

/-- The source of a rail fault (R186 byte 29). -/
inductive FaultKind
  | rail | phase | aux | group | keeper | none
  deriving DecidableEq, Repr

/-- The source-kind codes of R186. -/
def FaultKind.code : FaultKind → Nat
  | .rail => 0 | .phase => 1 | .aux => 2 | .group => 3 | .keeper => 4 | .none => 0xFF

/-- A trigger of everything-off: its fault code (R173, R177), source kind and index, and detecting tile. -/
structure Trigger where
  code : Nat
  kind : FaultKind
  index : Nat
  tile : Nat
  deriving DecidableEq, Repr

/-- One measured value that a tick brings in: an object's key and its new value. -/
structure Sample where
  key : Nat
  value : Int
  deriving DecidableEq, Repr

/-- What a management tick brings in beside the values of other commands: the newest value of a measured object; the
pre-regulator's input power in mW (R123); whether FOG and BELL read low; whether an AUX output is at its current limit; the
NTC's and the BID pin's readings in mV (R237, R261); VHK in mV (R49); whether INFET and BATPATH conduct; the fraction of the RTC;
the voltage across the charger's sense resistor in µV (R235). -/
inductive Measure
  | obj (key : Nat) (value : Int)
  | preRegulator (mw : Int)
  | lines (fog bell : Bool)
  | auxLimit (k : Fin 4) (limit : Bool)
  | ntc (mv : Int)
  | bid (mv : Int)
  | vhk (mv : Nat)
  | gates (infet batpath : Bool)
  | rtcFraction (f : Nat)
  | chargeSense (uv : Int)
  deriving DecidableEq, Repr

/-- A sample with the beacon time at which it was taken (R184). -/
abbrev Stamped := Nat × Int

/-- What a phase measures over one switching cycle (R68, R78): its rail-sense samples in mV and its current samples in mA, oldest
first and before the bias offset is taken off; VBUS and the flying-capacitor voltage in mV; whether the cycle ended at the peak
limit; and `demand`, the cycle-mean current in mA that the duty of the voltage loop would bring if nothing reduced it (R105,
R106, R108). -/
structure CycleInput where
  volts : List Stamped
  currents : List Stamped
  vbus : Int
  vcf : Int
  peak : Bool
  demand : Int
  deriving DecidableEq, Repr

/-- What a phase measures in its prebias (R72, R84): the offset that the bias current leaves in mA, the rail voltage and VBUS
in mV. -/
structure PrebiasInput where
  offset : Int
  v : Int
  vbus : Int
  deriving DecidableEq, Repr

/-- What the Keeper needs of a tile's 1 µs status frame (R184, R188): its beacon time, the tile's VBUS in mV, and the last current sample
in mA and rail-sense sample in mV of each local phase. -/
structure TileFrame where
  at_ : Nat
  vbus : Int
  currents : List Int := []
  volts : List Int := []
  deriving DecidableEq, Repr

/-- What the verification of a row reads at each of its attempts (R449): for every bit that is burned, in ascending order with the
check bits last, how far the bit reads above the normal reference, in 0.001 % of the read window, negative where it reads 0. Bits and
attempts that are not listed read as fully programmed. -/
abbrev RowReads := List (List Int)

/-- What a burn or a reburn reads (R449–R451): of each row by number, and of each spare that it takes, in order. -/
structure BurnReport where
  rows : List (Nat × RowReads) := []
  spares : List RowReads := []
  deriving DecidableEq, Repr

/-- What BOOT's checks of the hardware find (R52, R452, R454): no PLL lock, a failed self-test of SRAM, MRAM or Seif, a
firmware image whose signature fails; the ECC rows read with a single-bit error, those read uncorrectable, and the voted
rows of which a copy differs from the majority. -/
structure BootReport where
  pllFail : Bool := false
  sramFail : Bool := false
  mramFail : Bool := false
  seifFail : Bool := false
  firmwareBad : Bool := false
  corrected : List Nat := []
  bad : List Nat := []
  split : List Nat := []
  deriving DecidableEq, Repr

/-- How a transaction of the legacy master with a slave ends (R164, R165, R194): by NACK, by lost arbitration, because SDA is low when
its START or STOP is due, or complete, with the bytes that a read returned, CRC included. -/
inductive LegacyReply
  | nack | arbLost | sdaLow | data (bs : Bytes)
  deriving DecidableEq, Repr

/-- What an URGENT flit carries (R300): an isolation notice, a trigger stamp, or a LINK_DOWN report. -/
inductive UrgentBody
  | isolation (p : Fin 56) (why : IsoReason)
  | stamp (at_ : Nat)
  | linkDown
  deriving DecidableEq, Repr

/-- A frame of the object protocol as a port receives it, its CRC having passed (R325–R327): port 0 A or 1 B,
destination, source, XID, and the bytes before the CRC. -/
structure Frame where
  port : Fin 2
  dst : Nat
  src : Nat
  xid : Nat
  body : Bytes
  deriving DecidableEq, Repr

end Sys2Proof.Machine
end

