-- ==== Sys2Proof/Syntax.lean ====
section
/-! DEFINITION. The commands of the FV68: one constructor for each row of the opcode table. An operand is what the
event brings with it: the accessor and the value of an access, the unit concerned, a measured quantity. -/

namespace Sys2Proof

open Sys2Proof.Machine

/-- The commands. -/
inductive Instr
  /-- VHK rises past the POR release threshold, so the Keeper leaves reset and BOOT starts, or VAULT with its latch clear returns to BOOT (R45). -/
  | vhkPorRelease
  /-- VHK falls below POR, so the device enters VAULT with the latch clear from DORMANT, SEAL or held reset (R45). -/
  | vhkBelowPor
  /-- VHK falls below 7.5 V, which blocks non-legal writes and starts a SEAL with cause SUPPLY_LOSS (R45). -/
  | holdupWarning (vhk : Nat)
  /-- A recognised HRST low ends port frames and starts SEAL with cause HRST, or BOOT from DORMANT, and holds BOOT off while low (R392). -/
  | hrstAssert
  /-- The HRST rising edge lets a finished SEAL with cause HRST, or a held BOOT, proceed into BOOT (R45). -/
  | hrstRelease
  /-- BOOT finishes its steps and enters IDLE or FAILSAFE, opens the ports, issues auto-start power-ups and raises MODE_CHANGED (R52). -/
  | bootComplete (rep : BootReport)
  /-- A MODE_REQUEST write of 1 is checked and, if accepted, sets the VAULT latch and holds the Keeper in reset (R49). -/
  | modeRequestVault (acc : Accessor) (woken : Nat) (beaten : Bool)
  /-- A MODE_REQUEST write of 2 is checked and either enters SHIP or arms SHIP_ARMED while VIN is present (R49). -/
  | modeRequestShip (acc : Accessor) (beaten : Bool)
  /-- A MODE_REQUEST write of 3 is checked and, if accepted, moves the device from IDLE to DORMANT retention (R49). -/
  | modeRequestDormant (acc : Accessor) (woken : Nat) (beaten : Bool)
  /-- A MODE_REQUEST write of 5 leaves SERVICE, clears FAILSAFE, or disarms SHIP in IDLE (R49). -/
  | modeRequestIdle (acc : Accessor)
  /-- A MODE_REQUEST write of 12 is checked against role, mode and the debug matrix and enters SERVICE from IDLE or FAILSAFE (R49). -/
  | modeRequestService (acc : Accessor) (beaten : Bool)
  /-- An enabled wake source such as VIN arrival, CAN, SPI, alarm, tamper or the thermal guard wakes VAULT, SHIP or DORMANT, or abandons an entry in progress (R51). -/
  | wakeEvent (sources : Nat)
  /-- The links are retrained and the settings reloaded after a DORMANT wake, so IDLE is entered, the ports open and WOKE is raised (R51). -/
  | dormantExitDone (pllFail : Bool)
  /-- VIN is absent continuously for 1 ms, which moves the mode to RIDE, SHIP or SEAL, or sets ON_BATTERY (R45). -/
  | vinAbsent1ms
  /-- The battery becomes unusable while it feeds VBUS, so the path goes to NO_SOURCE and SEAL follows with cause SUPPLY_LOSS (R229). -/
  | batteryUnusable
  /-- After a SUPPLY_LOSS SEAL, VIN in service or the Keeper VBUS holds for 50 ms, which ends the held reset and starts BOOT with RESET_CAUSE 5 (R48). -/
  | heldResetRelease
  /-- The scheduled retry time is reached, so the latch is erased, the count is incremented, and IDLE with auto-start power-up or BOOT follows (R53). -/
  | failsafeRetry
  /-- Rails have been up without fault for FS_CLEAN_TIME, so the retry count is reset to 0 (R53). -/
  | fsCleanTimeReached
  /-- Sealing step 5 rewrites the seal record and enters the next mode: held reset, BOOT or FAILSAFE (R189). -/
  | sealDone (vhks : List Nat) (vhk : Nat)
  /-- The 10 ms management tick drives the ledger decision, group take-up, estimator, NTC, shed scale and charger evaluation (R131). -/
  | managementTick (ms : List Measure)
  /-- A SYNCIN rising edge is timed, and after 8 in-range periods the frame reference moves to SYNCIN (R63). -/
  | syncinEdge (periodNs : Nat)
  /-- No SYNCIN edge arrives within 30 µs, so the frame reference returns to the internal source (R63). -/
  | syncinTimeout
  /-- At its cycle edge a phase computes and applies its new duty from the rail sense, feed-forward and compensation (R68). -/
  | switchingCycleEdge (p : Fin 56) (inp : CycleInput)
  /-- After the last contributing edge the Keeper forms a rail's pool average and sends it to every member tile (R70). -/
  | poolAverageForm (r : Fin 32)
  /-- A current reading at the sense-open code reverses the bias, freezes the duty and excludes the cycle (R73). -/
  | senseOpenCode (p : Fin 56) (left : Bool)
  /-- The polarity test resolves as sense loss, real current or a falling current, and restores the bias where needed (R73). -/
  | senseTestOutcome (p : Fin 56) (reading : Int) (stamp : Option Nat)
  /-- A member stays below 10 % of the pool average at trim limit for 8 cycles and is declared OPEN_PHASE (R77). -/
  | openPhase (p : Fin 56)
  /-- The flying-capacitor voltage stays more than 15 % off VBUS/2 for 16 cycles, or misses 5 % at prebias end (R78). -/
  | cfFault (p : Fin 56) (atPrebiasEnd : Bool)
  /-- A prebias not complete within 20 µs isolates the phase at once with reason PREBIAS_TIMEOUT (R84). -/
  | prebiasTimeout (p : Fin 56)
  /-- A phase completes prebias and becomes ACTIVE at its next edge, or SPARE with its shadow loop (R84). -/
  | prebiasComplete (p : Fin 56) (inp : PrebiasInput)
  /-- A declared phase opens its switches at its cycle edge, leaves the rail, is recorded, and notifies the Keeper, which lowers the limit and recalls SHED members (R79). -/
  | phaseIsolationEdge (p : Fin 56)
  /-- The spare's pre-join check passes, so it enters ACTIVE as a member and SPARE_JOINED is raised (R81). -/
  | spareCheckDone (p : Fin 56) (finding : IsoReason)
  /-- A write of 0x5A clears a stored non-FENCED isolation and returns the phase to OFF (R83). -/
  | phClearIso (acc : Accessor) (p : Fin 56)
  /-- A write of 0xA5 in SERVICE isolates the phase with reason HOST (R83). -/
  | phIsolate (acc : Accessor) (p : Fin 56)
  /-- Low current holds for PH_SHED_DWELL, so the highest-numbered active member goes to SHED (R85). -/
  | shedDwellExpired (r : Fin 32)
  /-- A read of PH_I_PEAK returns the highest cycle mean and restarts it (R89). -/
  | phIPeakRead (acc : Accessor) (p : Fin 56)
  /-- VBUS at a tile falls below 8.6 V, so its phases hold their switches open and set DROPOUT (R491). -/
  | lanternVbusUvlo (t : Fin 8)
  /-- A RAIL_VSET write stores a target, retargets a power-up ramp, starts a tagged voltage transition, or sets the coil compliance (R100). -/
  | railVsetWrite (acc : Accessor) (r : Fin 32) (mv : Nat)
  /-- A RAIL_CTRL write of 1 in SERVICE powers one rail up outside the sequencer (R118). -/
  | railCtrlPowerUp (acc : Accessor) (r : Fin 32)
  /-- A RAIL_CTRL write of 0 in SERVICE powers one rail down (R118). -/
  | railCtrlPowerDown (acc : Accessor) (r : Fin 32)
  /-- At its apply tick a power-up puts an OFF rail into ON_DELAY (R105). -/
  | railPowerUpApply (r : Fin 32)
  /-- At its apply tick a power-down acts by rail state: off delay, RAMP_DOWN, DISCHARGE, coil release or OFF (R106). -/
  | railPowerDownApply (r : Fin 32)
  /-- At its apply tick a voltage command retargets the reference and supersedes the earlier tag (R101). -/
  | railVoltageApply (r : Fin 32)
  /-- At its apply tick an abort of a voltage transition holds the reference and sets RAIL_VSET to it (R102). -/
  | railAbortApply (r : Fin 32)
  /-- RAIL_TON_DELAY ends and every member enters PREBIAS (R105). -/
  | onDelayElapsed (r : Fin 32)
  /-- At the aligned tick after the members finish prebias the rail starts RAMP_UP from V0, or PULL_IN in coil mode (R105). -/
  | rampUpStart (r : Fin 32) (v0 : Int)
  /-- The ramp reference reaches its target, so the rail enters UP or its voltage tag completes (R107). -/
  | referenceAtTarget (r : Fin 32)
  /-- RAIL_TOFF_DELAY ends and the rail goes to RAMP_DOWN, DISCHARGE or coil release (R106). -/
  | offDelayElapsed (r : Fin 32)
  /-- The falling reference passes the type floor, so the members go OFF and the rail enters DISCHARGE (R106). -/
  | referenceBelowFloor (r : Fin 32)
  /-- The sensed voltage falls below RAIL_VOFF_DONE, so the rail enters OFF and raises STATE_OFF (R106). -/
  | dischargeDone (r : Fin 32) (v : Int)
  /-- A rail still in DISCHARGE after 100 ms enters OFF anyway and raises DISCHARGE_SLOW (R106). -/
  | dischargeSlow (r : Fin 32)
  /-- RAIL_COIL_TPULL ends, so the coil rail enters HOLD at RAIL_COIL_IHOLD (R107). -/
  | coilPullInElapsed (r : Fin 32)
  /-- The coil current falls below IHOLD/20, or 100 ms pass, so the members go OFF and the rail enters OFF (R114). -/
  | coilReleaseEnd (r : Fin 32)
  /-- The coil reference stays at compliance for 1 ms with low current, which raises COIL_OPEN (R113). -/
  | coilOpen (r : Fin 32)
  /-- The OC dwell timer of a LIMITING, uncapped rail reaches RAIL_OC_DWELL, which is a RAIL_OC fault (R110). -/
  | ocDwellExpired (r : Fin 32) (stamp : Option Nat)
  /-- A write of AUX_EN switches an AUX output on with a 500 µs ramp, or off with discharge (R116). -/
  | auxEnWrite (acc : Accessor) (k : Fin 4) (on : Bool)
  /-- An AUX_VSET write moves an output that is on at 1 mV per µs and sets VPRE (R116). -/
  | auxVsetWrite (acc : Accessor) (k : Fin 4) (mv : Nat)
  /-- The AUX ramp ends, and PG is declared when the output is at or above 95 % (R116). -/
  | auxRampDone (k : Fin 4) (v : Int)
  /-- An AUX output in current limit for AUX_OC_DWELL causes a rail fault, or the IDLE AUX fault handling (R117). -/
  | auxOcDwellExpired (k : Fin 4)
  /-- An AUX output below 90 % for 1 ms outside its ramp, and not limiting, raises AUX_UV (R117). -/
  | auxUv (k : Fin 4) (v : Int)
  /-- The AUX dissipation sum stays above 600 mW for 10 ms, which raises LOSS_HIGH on every enabled output (R115). -/
  | lossHigh
  /-- Every 1 µs the Keeper sums the tiles' input-current estimates and compares them with the fast threshold (R136). -/
  | fastEstimate
  /-- The fast caps are in force at every member, so the fast comparison resumes (R137). -/
  | fastCapsInForce
  /-- A write of 0x5A sets every ledger energy account and residue to 0 (R140). -/
  | ledgerEClear (acc : Accessor)
  /-- Every 60 s the ledger energy accounts are copied to MRAM (R140). -/
  | ledgerAccountCopy
  /-- A GRP_CMD write of 1 takes a tag and waits for take-up, joins a movement, latches, or completes at once (R145). -/
  | grpCmdPowerUp (acc : Accessor) (g : Fin 16)
  /-- A GRP_CMD write of 0 cascades to dependants, reverses a rising group, cancels a pending power-up, or starts FALLING (R156). -/
  | grpCmdPowerDown (acc : Accessor) (g : Fin 16)
  /-- Every gate of a HELD group opens, so the group enters RISING (R147). -/
  | groupGatesOpen (g : Fin 16)
  /-- The step's on delay and admission are both done, so power-up commands and STAGE_GO are sent (R151). -/
  | stepDelayElapsed (g : Fin 16)
  /-- Every rail and legacy slave of a step meets its wait condition, so the step completes, rings the bell or moves to the next step (R152). -/
  | stepComplete (g : Fin 16)
  /-- A step's timeout expires incomplete, which is a PG_TIMEOUT or STEP_TIMEOUT sequence fault (R152). -/
  | stepTimeout (g : Fin 16)
  /-- Every 1 µs the qualifier samples rail PG and restarts on a false sample, counting chatter (R153). -/
  | pgSample (r : Fin 32) (v : Int)
  /-- PG holds true for a continuous TPGQ, so the rail is qualified, its spares stand by and PG loss is armed (R153). -/
  | pgQualified (r : Fin 32)
  /-- A power-down step's off delay ends, so power-downs and STAGE_DOWN are sent (R155). -/
  | stepOffDelayElapsed (g : Fin 16)
  /-- Every rail of a power-down step is OFF, so the bell rings or the next step, DOWN or HELD follows (R155). -/
  | stepRailsDown (g : Fin 16)
  /-- A write of 0x5A clears every PG chatter counter (R169). -/
  | seqChatterClear (acc : Accessor)
  /-- A filtered FOG low is a FOG_EXTERNAL sequence fault, or holds power-ups in IDLE (R161). -/
  | fogLowRecognised
  /-- FOG reads high for 10 µs after a recognised low, which raises FOG_RELEASED (R161). -/
  | fogReleased
  /-- BELL reads high continuously for 20 µs at a bell point, so the ring is recognised (R163). -/
  | bellRing
  /-- 20 µs after the ring the device drives BELL low again and continues the sequence (R163). -/
  | bellHoldEnd
  /-- No ring arrives within SEQ_BELL_TIMEOUT of the release, which is a sequence fault (R163). -/
  | bellTimeout
  /-- Every SEQ_LEGACY_POLL the master sends STATUS_READ to each slave named by a running step and judges FAULT and STAGE_DONE (R165). -/
  | legacyPoll (k : Fin 8) (reply : LegacyReply)
  /-- 100 µs after a failed legacy transaction it is retried, and the third failure marks the slave lost (R165). -/
  | legacyRetry (k : Fin 8) (reply : LegacyReply)
  /-- In slave mode STAGE_GO n powers up group n with its own tag (R167). -/
  | legacyStageGo (a : Nat) (n : Fin 16) (crc : Nat)
  /-- In slave mode STAGE_DOWN n powers down group n (R167). -/
  | legacyStageDown (a : Nat) (n : Fin 16) (crc : Nat)
  /-- In slave mode STATUS_READ returns the status byte of the last commanded group (R167). -/
  | legacyStatusRead (a : Nat)
  /-- In slave mode ID_READ returns 0x10, 0x44 and version 0x68 (R167). -/
  | legacyIdRead (a : Nat)
  /-- In slave mode ALL_OFF powers down every group that is not DOWN (R167). -/
  | legacyAllOff (a : Nat) (crc : Nat)
  /-- In slave mode FAULT_CLEAR is a FAILSAFE clear if allowed, and otherwise has no effect (R167). -/
  | legacyFaultClear (a : Nat) (crc : Nat)
  /-- A rail voltage above its tracking or static OV threshold for the deglitch trips a RAIL_OV fault (R173). -/
  | railOvTrip (r : Fin 32) (t : Fin 8) (v : Int) (stamp : Option Nat)
  /-- A rail below r(t) − UV margin for the UV deglitch trips a RAIL_UV fault (R173). -/
  | railUvTrip (r : Fin 32) (v : Int) (stamp : Option Nat)
  /-- PG stays false for SUP_TPGL after qualification, which trips a PG_LOSS fault (R173). -/
  | pgLossTrip (r : Fin 32) (stamp : Option Nat)
  /-- A phase current at or above 1.25 × PH_ILIM_PEAK in 4 consecutive samples trips a PHASE_OC fault (R173). -/
  | phaseOcTrip (p : Fin 56) (readings : Vector Int 4) (stamp : Option Nat)
  /-- No tile trigger stamp arrives 2 µs after recognition, so T is estimated and TIME_ESTIMATED is set (R183). -/
  | triggerStampTimeout
  /-- VHK reaches 6.0 V during sealing, so the Keeper finishes its word and holds itself in reset (R191). -/
  | sealingFloorReached (steps sessions : Nat)
  /-- A tile's rail-voltage mean differs from the lead tile's by more than 2 % for 100 µs, which raises SENSE_DISAGREE (R176). -/
  | senseDisagree (r : Fin 32) (t : Fin 8) (v lead : Int)
  /-- A write of 0xA5 raises a HOST_QUENCH rail fault (R179). -/
  | supQuench (acc : Accessor)
  /-- A write of 0x5A writes a manual snapshot (R185). -/
  | supSnapTake (acc : Accessor)
  /-- A write of 0x5A empties every snapshot slot (R199). -/
  | supSnapClear (acc : Accessor)
  /-- A shared MRAM port holder keeps it 10 ms without releasing, so the port is withdrawn (R194). -/
  | mramLeaseRevoke (c : Option (Fin 8))
  /-- A Caravan channel goes 100 ms without a completed beat, so it is halted with LEASE_REVOKED (R194). -/
  | channelLeaseRevoke (c : Fin 8)
  /-- 60 s after an operation's final status its tag becomes free (R403). -/
  | tagReservationExpiry (t : Fin 128)
  /-- A target holds SCL low for more than 2 ms while the device controls the bus, so the lease is revoked and a bus clear starts (R389). -/
  | sclStretchTimeout
  /-- At the end of the bus clear SDA is sampled, and a low marks the bus STUCK (R390). -/
  | busClearSample (sdaLow : Bool)
  /-- Every 1 s while the bus is STUCK the clear is repeated (R197). -/
  | busClearRepeat
  /-- SCL and SDA read high for 10 ms, so STUCK clears and BUS_RECOVERED is raised (R197). -/
  | twBusRecovered
  /-- Every 10 µs the thermal networks and hot spots of every present tile are advanced (R204). -/
  | siroccoUpdate
  /-- A hot spot or junction stays above SIR_T_SHUT for 10 updates, which is a TEMP_LIMIT trip (R211). -/
  | tempLimitModel
  /-- A diode sensor reading is classed, corrects the tile reference and is tested for warn and fast rate (R207). -/
  | sensorSample (t : Fin 8) (rs : Vector Int 4)
  /-- A valid sensor above SIR_T_SHUT in 2 consecutive samples is a TEMP_LIMIT trip (R211). -/
  | tempLimitSensor
  /-- A sensor disagrees with its neighbours and the model for 8 samples, so it is declared broken (R208). -/
  | sensorBroken
  /-- All values stay below SIR_T_WARN − 12 °C for 100 ms, so the tile leaves fast rate (R210). -/
  | rateSlow (t : Fin 8)
  /-- A tile's residual stays above 10 °C for 1 s, which raises MODEL_DIVERGE (R209). -/
  | modelDiverge (t : Fin 8)
  /-- A write of 0x5A in SERVICE makes every DISAGREE sensor valid again (R218). -/
  | sirSensorReset (acc : Accessor)
  /-- In DORMANT the guard samples its Keeper sensor at 10 Hz, and two high readings open kept AUX outputs and wake (R214). -/
  | thermalGuardSample (reading : Int)
  /-- VIN becomes absent, so INFET turns off, VIN_BLOCK sets, the charger stops and the path hands over to the battery (R226). -/
  | vinComparatorTrip (high : Bool)
  /-- VIN enters its window, so qualification starts (BATTERY to QUALIFY) (R225). -/
  | vinWindowEnter
  /-- VIN leaves its window, so qualification restarts and PP_BOUNCE_COUNT rises (R223). -/
  | vinWindowExit
  /-- VIN stays in window for PP_TVINQ, so START goes to VIN or QUALIFY goes to SWITCHBACK, with any FAILSAFE clear (R225). -/
  | vinQualified
  /-- VBUS reaches VIN − 500 mV during switch-back, so the path is VIN and ON_BATTERY clears (R225). -/
  | switchbackDone
  /-- A pending rest request meets its conditions, so the REST hold is applied and the charger suspended (R231). -/
  | restEnter
  /-- The forced rest window length ends, so the hold is released and the path returns to VIN (R260). -/
  | restWindowEnd
  /-- VBAT stays below the cutoff for 10 ms while feeding VBUS, so the battery becomes unusable (R229). -/
  | vbatCutoff (v : Int)
  /-- The probe timer starts a 10 mA, 5 ms pulse into the VBAT node, pausing charging if needed (R230). -/
  | batteryProbe
  /-- At the pulse end the probe judges MISSING, SHORTED or PRESENT and updates PP_BAT_STATE (R230). -/
  | probeResult (rise endV : Int)
  /-- Each charger switching cycle updates the current and voltage loops, and the lower duty governs (R235). -/
  | chargerCycle (current voltage : Int)
  /-- A CHG_EN write disables the charger, or enables it with a pending cycle (R239). -/
  | chgEnWrite (acc : Accessor) (v : Nat)
  /-- A write of 0x5A starts a new charge cycle and clears a fault (R248). -/
  | chgStart (acc : Accessor)
  /-- A write of 0x5A is host contact that restarts the charger watchdog (R243). -/
  | chgWdKick (acc : Accessor)
  /-- CHG_WD_TIME passes without host contact, so the charger falls back to the OTP safe values (R243). -/
  | chgWatchdogExpiry
  /-- VBAT stays above the precharge threshold for 1 s, so the charger moves to FAST_CC (R239). -/
  | prechargeQualified
  /-- The termination conditions hold for 2 s in FAST_CV, so the charger is DONE (R241). -/
  | chgTermination
  /-- VBAT stays below the recharge threshold for 1 s in DONE, so a new cycle starts (R239). -/
  | rechargeThreshold
  /-- The precharge or safety timer expires, so the charger faults with the matching CHG_FAULT (R242). -/
  | chgTimerExpiry
  /-- VBAT above V_ov stops the charger in hardware and runs the battery probe (R244). -/
  | chgOvStop (v : Int)
  /-- 100 ms after an OV stop with the battery present, VBAT still above V_ov gives FAULT BAT_OV, and otherwise charging resumes (R244). -/
  | chgOvCheck (v : Int)
  /-- PB low for 50 ms is a recognised press that sets PB_PRESSED and wakes VAULT or DORMANT (R233). -/
  | pbPress
  /-- PB released after 50 ms and before 8 s raises PB_SHORT and clears FAILSAFE (R233). -/
  | pbShortPress
  /-- PB low for 8 s exits SHIP, or starts the reset pulse that opens BATFET and drains VHK (R234). -/
  | pbLongPress
  /-- 400 ms after the long press BATFET is released to close and the pre-regulator is re-enabled once VHK is below POR (R234). -/
  | longPressBatfetRelease
  /-- The rest count reaches 20 min, or 10 min more, so soc is anchored to the OCV estimate and capacity may be learned (R256). -/
  | restAnchor
  /-- 72 h pass since the last anchor, so the estimator becomes LOW_CONFIDENCE (R257). -/
  | confidenceExpired
  /-- The time since the anchor reaches EST_FREST_AFTER, or confidence is 0, so a rest window is requested (R260). -/
  | forcedRestRequest
  /-- 1 h after an abort without an anchor, the rest request is raised again (R260). -/
  | forcedRestRetry
  /-- BID differs from its reference for 100 ticks, which is a battery swap that the estimator handles (R261). -/
  | bidChange
  /-- An EST_IMP_ROW write replaces an impedance table row and stores it (R255). -/
  | estImpRowWrite (acc : Accessor) (r : Fin 12) (data : Bytes)
  /-- A write of 0x5A acts as a swap with the learned data reset, without a swap event (R262). -/
  | estLearnReset (acc : Accessor)
  /-- A write of 0x5A aborts a forced rest window (R260). -/
  | estFrestAbort (acc : Accessor)
  /-- Every 60 s the estimator CORE record is written to the older A/B slot (R264). -/
  | coreRecordWrite
  /-- At each decimated sample the engine calibrates v and i and integrates the energy into the residues and registers (R274). -/
  | meteringSample (m : Fin 4) (bitsV bitsI : BitVec 256)
  /-- 1,024 equal bits on an MDAT input set STUCK and raise INPUT_FAULT (R272). -/
  | inputStuck (m : Fin 4) (current : Bool)
  /-- 10 ms without a stuck run clears STUCK and raises INPUT_RESTORED (R272). -/
  | inputRestored (m : Fin 4) (current : Bool)
  /-- An input of a point with an open session stays STUCK for 10 ms, so the session closes with METER_FAULT (R272). -/
  | stuckSessionFault (m : Fin 4)
  /-- The PLL loses lock, which sets CLOCK_FAULT and closes every open session with METER_FAULT (R275). -/
  | pllLockLost
  /-- An MP_SESS_CMD write of 1 takes a tag, runs the open checks and enters OPENING or is refused (R279). -/
  | mpSessionOpen (acc : Accessor) (m : Fin 4)
  /-- An MP_SESS_CMD write of 2 takes a tag and moves an open session towards CLOSING (R279). -/
  | mpSessionClose (acc : Accessor) (m : Fin 4)
  /-- At the next sample boundary the START record is written and the session is OPEN (R278). -/
  | sessionOpenInstant (m : Fin 4)
  /-- At the next sample boundary the END record is written with the register values and the close reason (R280). -/
  | sessionCloseInstant (m : Fin 4)
  /-- Seif completes the signature and the SIGNATURE record is written, closing the session and freeing queued records (R280). -/
  | sessionSigned (m : Fin 4)
  /-- Every 1 s each metering point's registers are copied to MRAM as an A/B record (R276). -/
  | registerCopy
  /-- A write of 0x5A sets every energy register and residue to 0 (R276). -/
  | metEClear (acc : Accessor)
  /-- A write of a SEALED-class metrology object is journalled if SEALED, applied, and raises CAL_CHANGED (R277). -/
  | calibrationWrite (acc : Accessor) (key : Nat) (data : Bytes)
  /-- A JNL_ACK write stores the acknowledged sequence number and frees ring space (R287). -/
  | jnlAckWrite (acc : Accessor) (v : Nat)
  /-- A read of JNL_READ_REC returns one record and advances JNL_READ_SEQ (R288). -/
  | jnlReadRec (acc : Accessor)
  /-- A read of JNL_READ_BLOCK returns up to 16 records and advances JNL_READ_SEQ (R288). -/
  | jnlReadBlock (acc : Accessor)
  /-- A write of 0x5A discards every record and writes JOURNAL_INIT (R289). -/
  | jnlInit (acc : Accessor)
  /-- A STATUS flit delivers the tile's status frame and time error, which may unlock the tile or fence it for TIME_FAULT (R310). -/
  | flitStatus (t : Fin 8) (seq : Nat) (frame : TileFrame) (samples : List Sample)
  /-- A SAMPLE flit delivers cycle currents, sense means, sensor readings and tick summaries (R313). -/
  | flitSample (t : Fin 8) (seq : Nat) (samples : List Sample)
  /-- An ACKNAK acknowledges flits cumulatively, or a NAK triggers a replay from the named SEQ (R303). -/
  | flitAcknak (t : Fin 8) (up : Bool) (payload : Nat)
  /-- A TIME flit disciplines the tile's beacon follower and updates its lock state (R310). -/
  | flitTime (t : Fin 8) (seq b clocks : Nat)
  /-- A COMMAND flit delivers settings, commands, pool averages, commit prepare or acknowledge, or version exchange (R300). -/
  | flitCommand (t : Fin 8) (up : Bool) (seq : Nat) (ack : Bool) (samples : List Sample)
  /-- A TRAIN flit carries training patterns, markers and echoes (R306). -/
  | flitTrain (t : Fin 8) (mask : Option Nat) (failedStep : Option (Fin 7))
  /-- An URGENT flit delivers an isolation notice, a trigger stamp or a LINK_DOWN report (R300). -/
  | flitUrgent (t : Fin 8) (seq : Nat) (body : UrgentBody)
  /-- A flit with a bad CRC or an unexpected SEQ is discarded and NAKed, and the fourth failure of one SEQ loses the link (R303). -/
  | flitBad (t : Fin 8) (up : Bool) (word : Nat)
  /-- 200 ns without an acknowledgement sends a cumulative ACKNAK (R303). -/
  | ackTimer (t : Fin 8) (atTile : Bool)
  /-- No valid up flit arrives for 2 µs, so the link is lost and the tile is fenced (R304). -/
  | linkSilent (t : Fin 8)
  /-- No up forwarded-clock edge arrives for 100 ns, so the link is lost and the tile is fenced (R304). -/
  | linkClockLost (t : Fin 8)
  /-- A tile finds its down link lost, opens its phases and sends URGENT LINK_DOWN (R305). -/
  | downLinkLost (t : Fin 8)
  /-- A link completes its training steps and soak, so it is up and LINK_UP is raised (R306). -/
  | linkTrained (t : Fin 8) (mask : Nat) (echoes : List Nat) (turnaround : Nat)
  /-- A link that is not up 17 ms after training began is fenced as failed (R306). -/
  | trainingDeadline (t : Fin 8) (step : Fin 7)
  /-- On each 10 µs-aligned beacon tick the Keeper sends a TIME flit down every link (R310). -/
  | timeFlitTick
  /-- The crystal is lost in service, so the PLL moves to the RC and CLOCK_FALLBACK is raised (R309). -/
  | crystalLoss
  /-- At each tick boundary B the tiles and the Keeper close a cut, which is published within 200 µs (R313). -/
  | cutInstant (b : Nat) (samples : List Sample)
  /-- A HAB_ARM write of 0x5A arms a Haboob run, journalled in SEALED (R314). -/
  | habArmCmd (acc : Accessor)
  /-- A HAB_ARM write of 0xA5 ends a Haboob run (R317). -/
  | habDisarmCmd (acc : Accessor)
  /-- A read of BEAM_TIME_OFFSET_MAX returns the largest offset and restarts it (R319). -/
  | beamTimeOffsetMaxRead (acc : Accessor) (t : Fin 8)
  /-- A HAIL_REQ is checked for conflict, version and table room, and the partner is entered and answered with HAIL_ACK (R330). -/
  | hailReq (f : Frame)
  /-- A BYE from a partner evicts it (R335). -/
  | bye (f : Frame)
  /-- A partner HEARTBEAT counts as having heard the partner (R334). -/
  | heartbeat (f : Frame)
  /-- A READ_REQ reads an object of up to 52 bytes and is answered with RESPONSE or ABORT, or with a stored reply (R331). -/
  | readReq (f : Frame)
  /-- A WRITE_REQ writes an object of up to 52 bytes and is answered with RESPONSE or ABORT, or with a stored reply (R331). -/
  | writeReq (f : Frame)
  /-- An ABORT frame from a partner cancels its transfer (R331). -/
  | abort (f : Frame)
  /-- A BLOCK_INIT checks the object and starts a block transfer under a Caravan lease (R332). -/
  | blockInit (f : Frame)
  /-- A BLOCK_SEG delivers up to 56 bytes, acknowledged every 8 segments or at a gap (R332). -/
  | blockSeg (f : Frame)
  /-- A BLOCK_ACK from the partner advances, resends or cancels a block read (R332). -/
  | blockAck (f : Frame)
  /-- A BLOCK_END checks size and CRC and applies a written block as one write (R332). -/
  | blockEnd (f : Frame)
  /-- An EVENT_ACK from a version-2 partner confirms an event (R336). -/
  | eventAck (f : Frame)
  /-- An AUTH_REQ returns the partner to PEER, or issues an AUTH_CHALLENGE with a nonce (R339). -/
  | authReq (f : Frame) (rng : Bool)
  /-- An AUTH_RESPONSE is checked as an HMAC or token proof, answered with AUTH_RESULT, and counted towards lockout (R340). -/
  | authResponse (f : Frame)
  /-- A frame whose protocol CRC fails is discarded and counted (R327). -/
  | frameCrc (port : Fin 2) (id : Nat) (bytes : Bytes)
  /-- Every NET_HB_PERIOD the device broadcasts HEARTBEAT on each enabled port (R334). -/
  | heartbeatBroadcast
  /-- An unacknowledged EVENT is resent after 100 ms, and dropped after 3 resends (R336). -/
  | eventResend (slot : Fin 64) (counter : Nat)
  /-- After a cut is published, each due telemetry map is sent within 1 ms (R337). -/
  | telemetrySend
  /-- A partner unheard for NET_HB_MISS periods is evicted with reason SILENT (R335). -/
  | partnerSilent (slot : Fin 64)
  /-- 100 ms of silence in a block transfer revokes its lease and ends it with LEASE_REVOKED (R333). -/
  | blockSilence (slot : Fin 64)
  /-- A port goes bus-off, which evicts its partners (R323). -/
  | canBusOff (port : Fin 2)
  /-- After 128 recessive sequences the port rejoins and raises BUS_RECOVERED (R323). -/
  | canBusRecovered (port : Fin 2)
  /-- A port goes error-passive and raises ERROR_PASSIVE (R323). -/
  | canErrorPassive (port : Fin 2) (txErr rxErr : Nat)
  /-- A write of a slot number evicts that partner with reason COMMAND (R335). -/
  | netEvict (acc : Accessor) (slot : Nat)
  /-- A write stores the installer password hash and drops every INSTALLER partner to PEER (R341). -/
  | netInstallerPw (acc : Accessor) (data : Bytes)
  /-- A write of TLM_EN = 1 checks the map entries and enables the telemetry map (R338). -/
  | tlmEnWrite (acc : Accessor) (m : Fin 8) (v : Nat)
  /-- A partner sends nothing but HEARTBEAT for NET_ROLE_IDLE, so its role falls to PEER (R341). -/
  | roleIdleTimeout (slot : Fin 64)
  /-- A role's lockout period ends and the role can be proved again (R341). -/
  | authLockoutExpiry (k : Fin 3)
  /-- A write of an object without a row of its own is checked and applied under its class (R351). -/
  | objectWrite (acc : Accessor) (key : Nat) (data : Bytes)
  /-- A STAGED write is checked for type and range and entered in the staging set (R358). -/
  | stagedWrite (acc : Accessor) (key : Nat) (data : Bytes)
  /-- A BOOT-class write is checked and held pending for the next save (R357). -/
  | bootClassWrite (acc : Accessor) (key : Nat) (data : Bytes)
  /-- A CFG_COMMIT write of 0x5A starts a tagged commit of the staging set (R359). -/
  | cfgCommit (acc : Accessor)
  /-- A CFG_COMMIT write of 0xA5 discards the staging set (R358). -/
  | cfgDiscard (acc : Accessor)
  /-- CFG_STAGE_TIMEOUT passes without a write from the owner, so the staging set is discarded (R358). -/
  | stageTimeout
  /-- The cross-object checks on C1, C2 and C3 finish, and the commit is refused or prepares are sent to the involved tiles (R359). -/
  | commitChecksDone
  /-- An acknowledgement is missing 100 µs after the prepare, so the commit is abandoned (R362). -/
  | commitAckTimeout
  /-- At A1, A2 or A3 the tighter limits, the other values, or the looser limits take effect, and the tag completes at A3 (R361). -/
  | commitStageApply
  /-- A write of 0x5A starts composing and writing an image to the slot not loaded (R369). -/
  | cfgSave (acc : Accessor)
  /-- The saved image is written, so the save tag completes (R369). -/
  | cfgSaveDone
  /-- A write of 0x5A invalidates both image slots (R369). -/
  | cfgErase (acc : Accessor)
  /-- A complete image written by block is checked whole, resequenced and stored (R369). -/
  | cfgImageWrite (acc : Accessor) (data : Bytes)
  /-- A local-port frame with a wrong length, bad CRC, unknown CMD or cut byte has no effect except the STAT error bits and counters (R378). -/
  | spiFrameInvalid (port : Fin 2) (bytes : Bytes) (cut : Bool) (reads : Nat)
  /-- A window read of INT_CLAIM claims the highest-priority claimable source and returns its number (R399). -/
  | intClaim (port : Fin 2)
  /-- A window write of a source number completes it, re-firing if bits remain, or counts a stray completion (R400). -/
  | intComplete (port : Fin 2) (n : Nat)
  /-- A read of TB_LO returns the low beacon word and latches the high word for this port (R380). -/
  | tbLoRead (port : Fin 2)
  /-- A read of the low part of a wide counter latches its higher parts for that reader (R410). -/
  | counterLowRead (reader : Fin 11) (key : Nat) (high : Bool)
  /-- A mailbox READ request reads an object, or a segment of a copied large object (R383). -/
  | objectRequestRead (port : Fin 2) (key offset len : Nat)
  /-- A mailbox WRITE request writes a whole object of up to 256 bytes (R383). -/
  | objectRequestWrite (port : Fin 2) (key offset : Nat) (data : Bytes)
  /-- A mailbox WRITE_SEG adds a contiguous segment of a large object under a lease (R384). -/
  | objectRequestWriteSeg (port : Fin 2) (key offset : Nat) (data : Bytes)
  /-- A mailbox WRITE_END checks size and CRC and applies the segmented write (R384). -/
  | objectRequestWriteEnd (port : Fin 2) (key offset : Nat) (data : Bytes)
  /-- Execution of a mailbox request ends, so OBJ_BUSY clears and OBJ_DONE sets (R383). -/
  | mailboxResponseReady (port : Fin 2)
  /-- An object response frame returns the mailbox response and clears OBJ_DONE (R383). -/
  | objectResponse (port : Fin 2)
  /-- 100 ms between segments revokes the segmented-transfer lease (R384). -/
  | segmentSilence (port : Fin 2)
  /-- A target clock stretch reaches 2 ms, so SCL is released and the read becomes a frame error (R388). -/
  | twStretchLimit (reads : Nat)
  /-- 25 ms without an SCL edge in a transaction abandons it and raises TW_TIMEOUT (R388). -/
  | twTimeout
  /-- A write of a tag requests an abort, which the completion arbiter decides (R408). -/
  | opAbort (acc : Accessor) (tag : Nat)
  /-- A read of MRAM_RAW_DATA returns up to 256 bytes and advances the offset (R418). -/
  | mramRawRead (acc : Accessor) (corrected bad : List Nat)
  /-- A write of MRAM_RAW_DATA stores bytes in a USER partition and advances the offset (R418). -/
  | mramRawWrite (acc : Accessor) (data : Bytes)
  /-- Presenting a partition password unlocks it, or counts a failure towards lockout (R419). -/
  | mramPwPresent (acc : Accessor) (data : Bytes)
  /-- A write sets or clears a partition password and ends other accessors' unlocks (R419). -/
  | mramPwSet (acc : Accessor) (data : Bytes)
  /-- A write of 0x5A ends all of the accessor's unlocks (R419). -/
  | mramPwLock (acc : Accessor)
  /-- A write of 0x5A in SERVICE erases both USER partitions and clears every password (R421). -/
  | mramPwReset (acc : Accessor)
  /-- 600 s without access ends an accessor's partition unlock (R419). -/
  | unlockIdleExpiry (holder : Option (Fin 64)) (part : Nat)
  /-- A password lockout period ends (R420). -/
  | pwLockoutExpiry (k : Fin 4)
  /-- The shared MRAM port is granted to the highest-ranked waiting request for one burst (R416). -/
  | mramPortGrant (ue : Option Nat) (fix : List Nat)
  /-- The scrub reads 64 words at normal and margin references and rewrites the weak ones (R423). -/
  | scrubBatch (weak corrected : Nat) (bad : List (Fin 64))
  /-- A write of 1 starts a host channel's descriptor as a tagged transfer (R429). -/
  | dmaStart (acc : Accessor) (c : Fin 8)
  /-- 10 µs after a bus error the element is retried, or the channel halts at RETRY_LIMIT (R430). -/
  | dmaRetry (c : Fin 8)
  /-- The last element is moved, and the check is stored and verified, so the transfer completes or halts VERIFY_FAIL (R431). -/
  | dmaDone (c : Fin 8)
  /-- A MIR_ARM write of 0x5A arms a capture after checks (R434). -/
  | mirArmCmd (acc : Accessor)
  /-- A MIR_ARM write of 0xA5 stops the capture, keeping the recorded frames (R434). -/
  | mirStopCmd (acc : Accessor)
  /-- A MIR_ARM write of 0x3C triggers an armed capture (R434). -/
  | mirTriggerCmd (acc : Accessor)
  /-- At each frame time Mirage assembles the newest sample of each stream into the ring (R433). -/
  | mirageFrame (values : List (Option Int))
  /-- The selected trigger event marks the trigger frame and starts the post window (R435). -/
  | mirageTrigger (kind arg : Nat) (before after : Int)
  /-- The post window fills, or SEAL step 5 truncates it, so recording ends (R437). -/
  | miragePostFull
  /-- The ring is rotated into time order, so the capture is DONE or STOPPED (R437). -/
  | mirageRotationDone
  /-- An OTP_WINDOW write of 0x5A opens a programming window after checks (R447). -/
  | otpWindowOpen (acc : Accessor)
  /-- An OTP_WINDOW write of 0xA5 closes the programming window (R447). -/
  | otpWindowClose (acc : Accessor)
  /-- 60 s without a programming write closes the window (R447). -/
  | otpWindowIdle
  /-- VQPS leaves 1,750–1,850 mV, so the window closes and any burn ends (R447). -/
  | vqpsLeftWindow
  /-- An OTP_DATA write starts a tagged burn of the row in OTP_ROW (R448). -/
  | otpDataWrite (acc : Accessor) (v : Nat)
  /-- The burn and margin verification end with the row done, remapped or failed (R449). -/
  | otpBurnDone (rep : BurnReport)
  /-- A write of 0x5A re-verifies every programmed row, re-pulsing weak bits and remapping (R451). -/
  | otpReburn (acc : Accessor)
  /-- A write of a target lifecycle starts a tagged lifecycle transition after checks (R458). -/
  | lcAdvance (acc : Accessor) (target : Nat) (rng : Bool)
  /-- The lifecycle field is burned, the seed is destroyed if returning, and the state changes, resetting roles and debug (R460). -/
  | lifecycleTransitionDone
  /-- A read of LC_RETURN_NONCE draws a fresh 16-byte return nonce (R461). -/
  | lcReturnNonce (acc : Accessor) (rng : Bool)
  /-- A read of DBG_CHALLENGE on the debug port issues a 16-byte nonce (R463). -/
  | dbgChallenge (acc : Accessor) (rng : Bool)
  /-- A DBG_PROOF write stores the proof for the pending debug challenge (R463). -/
  | dbgProof (acc : Accessor) (data : Bytes)
  /-- A DBG_LEVEL_REQ write raises the debug level with a valid proof, or lowers it without one (R463). -/
  | dbgLevelReq (acc : Accessor) (level : Nat)
  /-- A DBG_HALT write of 1 halts the control processor where the matrix permits (R466). -/
  | dbgHaltCmd (acc : Accessor)
  /-- A DBG_HALT write of 0 resumes the control processor (R466). -/
  | dbgResumeCmd (acc : Accessor)
  /-- 600 s without a debug transfer returns the debug level to NONE (R464). -/
  | debugIdleTimeout
  /-- TEST_N held low enters the private test modes in RETURNED at VENDOR, or raises TEST_N_IGNORED (R465). -/
  | testNLow
  /-- The prescaler wraps, so the seconds advance with calibration and saturation applied (R475). -/
  | rtcSecond
  /-- A write sets the RTC seconds, journalled, with fraction 0 and RTC_VALID 1 (R479). -/
  | rtcSetSeconds (acc : Accessor) (v : Nat)
  /-- A calendar write is checked field by field and converted into a time set (R482). -/
  | calSet (acc : Accessor) (v : Nat)
  /-- A write steps the time by a signed fraction count, journalled (R480). -/
  | rtcAdjust (acc : Accessor) (v : Int)
  /-- A write of RTC_ALARM arms the alarm and fires it at once if it is at or below the present seconds (R483). -/
  | rtcAlarmWrite (acc : Accessor) (v : Nat)
  /-- 1 ms without RTC crystal edges moves Oasis to the RC, clears RTC_VALID and journals TIME_INVALID (R477). -/
  | rtcOscFault
  /-- 64 consecutive crystal edges return the RTC to the crystal and clear OSC_RC (R477). -/
  | rtcCrystalReturn
  /-- The Oasis source changes make-before-break between VCELL and VBK (R472). -/
  | oasisSupplySwitch (vbk vcell voas : Nat)
  /-- The selected source falls away with none eligible, so the reservoir carries VOAS (R472). -/
  | oasisReservoir (vbk vcell voas : Nat)
  /-- VOAS falls below 1.60 V, so every Oasis item takes its loss value (R472). -/
  | oasisDomainLost
  /-- VOAS rises above 1.75 V from a source, so Oasis restarts counting from 0 with the alive marker clear (R472). -/
  | oasisDomainReturn (vbk vcell voas : Nat)
  /-- TAMPER held active for the filter time records the event, optionally erases OASIS_RETAIN, and wakes (R485). -/
  | tamper
  /-- A write of 0x5A clears the tamper latch and TAMPER_AT (R485). -/
  | tamperClear (acc : Accessor)
  /-- A recognised WAKE low in a running mode raises WAKE_INPUT (R484). -/
  | wakeInput
  /-- VCELL stays below OASIS_CELL_LOW for 1 s, which raises CELL_LOW (R486). -/
  | cellLow
  /-- VIN rises out of absence into service, which sets VIN_IN_SERVICE, lets INFET_G enhance where VIN_BLOCK is clear, and starts the 50 ms count of R48 (R222). -/
  | vinInService (above : Bool)
  /-- VBUS at a tile rises back above the lockout threshold plus hysteresis, so its phases may switch again (R491). -/
  | lanternVbusUvloRelease (t : Fin 8)
  /-- The 1 µs INT release hold ends and INT is driven low again if a source is claimable (R391). -/
  | intReleaseHoldEnd
  /-- A Caravan shared-port grant that has not arrived 1 ms after the request counts as a bus error, and a retry follows (R430). -/
  | dmaGrantTimeout (c : Fin 8)
  /-- At the apply tick of R98 a ledger cap takes effect as the ledger term of a rail's effective limit (R133). -/
  | ledgerCapApply (r : Fin 32)
  /-- The battery-path ideal diode starts conducting when VBUS falls to VBAT, or stops when VBUS rises above it, changing BATPATH_ON (R222). -/
  | batpathOnChange (on : Bool)
  /-- A read of MP_OVERRANGE_COUNT re-arms OVERRANGE, so that with no session open the next over-range sample raises it (R272). -/
  | mpOverrangeCountRead (acc : Accessor) (m : Fin 4)
  /-- A read of NET_EVENTS_DROPPED re-arms EVENTS_DROPPED for the next dropped event (R336). -/
  | netEventsDroppedRead (acc : Accessor)
  deriving DecidableEq, Repr

end Sys2Proof
end

