-- ==== Sys2Proof/Decode.lean ====
section
/-! DEFINITION. The commands that words spell: none, since no row of the opcode table gives bits. -/

namespace Sys2Proof

/-- The command that a word of `nbits` bits spells by the table's bits. No row has bits, so every word is rejected. -/
def decodeTableWord (_nbits _w : Nat) : Option Instr := none

end Sys2Proof
end

