-- ==== Sys2Proof/Machine/Crypto.lean ====
section
/-! DEFINITION. The published standards of R9 and R320 that the machine computes: CRC-32, CRC-8, SHA-256 and HMAC. -/

namespace Sys2Proof.Machine

/-- The bits of a byte, least significant first. -/
def bitsLsb (b : Byte) : List Bool := (List.range 8).map fun k => b.getLsbD k

/-- One bit of the reflected CRC-32 of R9 (polynomial 0x04C1_1DB7). -/
def crc32Bit (c : BitVec 32) (b : Bool) : BitVec 32 :=
  if (c.getLsbD 0 != b) = true then (c >>> 1) ^^^ 0xEDB88320#32 else c >>> 1

/-- The CRC-32 of R9: reflected, initial value and final XOR 0xFFFF_FFFF. -/
def crc32 (bs : Bytes) : Nat :=
  ((bs.foldl (fun c b => (bitsLsb b).foldl crc32Bit c) 0xFFFFFFFF#32) ^^^ 0xFFFFFFFF#32).toNat

/-! ### SHA-256 (FIPS 180-4)

The standard defines its constants as the leading 32 bits of the fractional parts of roots of the first primes; they
are computed here from that definition. -/

/-- `n` has no divisor from 2 to below itself. -/
def isPrime (n : Nat) : Bool := decide (2 ≤ n) && (List.range n).all fun d => decide (d < 2) || decide (n % d ≠ 0)

/-- The first 64 primes: 311 is the last. -/
def firstPrimes : List Nat := (List.range 312).filter isPrime

/-- The greatest number of at most `k` bits above `r` whose `e`-th power is at most `x`, found bit by bit. -/
def floorRoot (e x : Nat) : Nat → Nat → Nat
  | 0, r => r
  | k + 1, r => floorRoot e x k (if (r + 2 ^ k) ^ e ≤ x then r + 2 ^ k else r)

/-- The first 32 bits of the fractional part of the `e`-th root of `p`: 37 bits hold the root of a prime below 1,024
with 32 bits behind the point. -/
def rootFraction (e p : Nat) : BitVec 32 := BitVec.ofNat 32 (floorRoot e (p * 2 ^ (32 * e)) 37 0)

/-- The 64 constants of the rounds: cube roots of the first 64 primes. -/
def roundConstants : List (BitVec 32) := firstPrimes.map (rootFraction 3)

/-- The chaining value and the working variables `a`–`h` of a block. -/
structure Sha where
  a : BitVec 32
  b : BitVec 32
  c : BitVec 32
  d : BitVec 32
  e : BitVec 32
  f : BitVec 32
  g : BitVec 32
  h : BitVec 32
  deriving DecidableEq, Repr

/-- The words in their order. -/
def Sha.words (v : Sha) : List (BitVec 32) := [v.a, v.b, v.c, v.d, v.e, v.f, v.g, v.h]

/-- The initial chaining value: square roots of the first eight primes. -/
def Sha.start : Sha :=
  let r := rootFraction 2
  ⟨r 2, r 3, r 5, r 7, r 11, r 13, r 17, r 19⟩

/-- The sum, without carries, of three turns of a word. -/
def turns (i j k : Nat) (x : BitVec 32) : BitVec 32 := x.rotateRight i ^^^ x.rotateRight j ^^^ x.rotateRight k

/-- The sum, without carries, of two turns of a word and a shift by `k`. -/
def turnsShift (i j k : Nat) (x : BitVec 32) : BitVec 32 := x.rotateRight i ^^^ x.rotateRight j ^^^ x >>> k

/-- Each bit of `y` where `x` has a 1, of `z` where it has a 0. -/
def choose (x y z : BitVec 32) : BitVec 32 := z ^^^ x &&& (y ^^^ z)

/-- Each bit as at least two of the three words have it. -/
def majority (x y z : BitVec 32) : BitVec 32 := x &&& y ||| z &&& (x ||| y)

/-- One round with the sum `kw` of its constant and its schedule word. -/
def Sha.mix (v : Sha) (kw : BitVec 32) : Sha :=
  let feed := kw + v.h + turns 6 11 25 v.e + choose v.e v.f v.g
  { v with a := feed + turns 2 13 22 v.a + majority v.a v.b v.c, b := v.a, c := v.b, d := v.c, e := v.d + feed,
           f := v.e, g := v.f, h := v.g }

/-- Add two chaining values word by word. -/
def Sha.add (v w : Sha) : Sha :=
  ⟨v.a + w.a, v.b + w.b, v.c + w.c, v.d + w.d, v.e + w.e, v.f + w.f, v.g + w.g, v.h + w.h⟩

/-- The word that four bytes spell, most significant first. -/
def word32 (bs : Bytes) : BitVec 32 := BitVec.ofNat 32 (ofLE bs.reverse)

/-- Lengthen a schedule, held newest word first, by `n` words. -/
def lengthen : Nat → List (BitVec 32) → List (BitVec 32)
  | 0, ws => ws
  | n + 1, ws =>
    lengthen n ((turnsShift 17 19 10 (ws.getD 1 0) + ws.getD 6 0 + turnsShift 7 18 3 (ws.getD 14 0) + ws.getD 15 0) :: ws)

/-- The 64 schedule words of a block of 64 bytes, in order. -/
def schedule (block : Bytes) : List (BitVec 32) :=
  (lengthen 48 ((List.range 16).map fun k => word32 ((block.drop (4 * k)).take 4)).reverse).reverse

/-- The chaining value after a block. -/
def Sha.block (v : Sha) (block : Bytes) : Sha :=
  v.add (((schedule block).zip roundConstants).foldl (fun x wk => x.mix (wk.1 + wk.2)) v)

/-- A message with the 1 bit, the zeros to 8 bytes short of a block's end, and its length in bits. -/
def padded (bs : Bytes) : Bytes :=
  bs ++ 0x80#8 :: (List.replicate ((55 + 63 * bs.length) % 64) 0#8 ++ (toLE 8 (8 * bs.length)).reverse)

/-- The SHA-256 digest, in digest order. -/
def sha256 (bs : Bytes) : Bytes :=
  let p := padded bs
  let last := (List.range (p.length / 64)).foldl (fun (v : Sha) k => v.block ((p.drop (64 * k)).take 64)) Sha.start
  last.words.flatMap fun w => (toLE 4 w.toNat).reverse

/-- HMAC-SHA-256 (RFC 2104). -/
def hmacSha256 (key msg : Bytes) : Bytes :=
  let k := if 64 < key.length then sha256 key else key
  let k := k ++ List.replicate (64 - k.length) 0#8
  sha256 (k.map (· ^^^ 0x5C#8) ++ sha256 (k.map (· ^^^ 0x36#8) ++ msg))

/-- The number that bytes spell, most significant first. -/
def ofBE (bs : Bytes) : Nat := ofLE bs.reverse

/-- The order of the P-256 group (FIPS 186). -/
def p256Order : Nat := 0xFFFFFFFF00000000FFFFFFFFFFFFFFFFBCE6FAADA7179E84F3B9CAC2FC632551

/-- The ASCII bytes of the key-derivation label of R456. -/
def keyLabel : Bytes := "FV68-JOURNAL-KEY".toList.map fun c => BitVec.ofNat 8 c.toNat

/-- The journal key of R456 from the seed: the first candidate in range; none for a seed of zeros or ones. -/
def deriveKey (seed : Bytes) (serial : Nat) : Option Bytes :=
  if seed.all (· = 0x00#8) || seed.all (· = 0xFF#8) then none
  else (List.range 256).findSome? fun ctr =>
    let c := hmacSha256 seed (keyLabel ++ toLE 8 serial ++ toLE 1 ctr)
    if 1 ≤ ofBE c ∧ ofBE c < p256Order then some c else none

/-- A byte's eight steps of a CRC-8 with polynomial `poly`, the most significant bit first (R164, R377). -/
def crc8Bits (poly : Nat) : Nat → Nat → Nat
  | 0, c => c
  | n + 1, c => crc8Bits poly n (if 128 ≤ c then (2 * c % 256) ^^^ poly else 2 * c)

/-- The CRC-8 of a list of bytes (R164, R377). -/
def crc8Of (poly init : Nat) (bs : Bytes) : Byte :=
  BitVec.ofNat 8 (bs.foldl (fun c b => crc8Bits poly 8 (c ^^^ b.toNat)) init)

end Sys2Proof.Machine
end

