-- ==== Sys2Proof/Config.lean ====
section
/-! DEFINITION. What an implementation of the FV68 fixes and the specification leaves open. Every constant here
is opaque: it has no body, so nothing can be proved about the value it takes. -/

namespace Sys2Proof.Config

/-- Whether the quotient `a / b` is rounded up to the next whole number where it does not come out even. The
pseudocode of R68, R70, R113, R131 and others divides without naming a rounding. -/
opaque roundsUp : Int → Int → Bool

/-- The quotient by 0 of a computation of the specification whose divisor was measured as 0. -/
opaque overZero : Int → Int

/-- Fresh random bytes of the security engine, drawn in order: nonces, challenges. -/
opaque randomByte : Nat → Byte

/-- A free value: the `k`-th value that the specification leaves open, in the order in which the machine meets them. -/
opaque freeValue : Nat → Int

/-- An open-circuit-voltage point of the ROM curve: chemistry (0 Li-ion, 1 LiFePO4) and SOC in 0.01 %; mV per cell
(R254 names the curve and gives no numbers). -/
opaque romOcv : Nat → Nat → Int

/-- The version constants of the part: Keeper firmware, boot ROM, die revision of tile `t`, metrology firmware. -/
opaque fwVersion : Nat
opaque romVersion : Nat
opaque dieRevision : Nat → Nat
opaque metVersion : Nat

/-- The OTP bytes the factory programs and the specification gives no value for: the serial
number (R445, R507). -/
opaque serialNumber : Nat

/-- A factory trim row (rows 10–63 of R445), and the 8 check bits of the (72,64) SECDED code of R444, whose matrix the
specification does not give. -/
opaque trim : Nat → Nat
opaque otpCheck : Nat → Nat

/-- The level of the pins ADDR2–ADDR0 as sampled at BOOT, of which three bits count (R342, R386). -/
opaque addrPins : Nat

/-- The random seed that the factory burns into rows 80–83 (R456), as bytes. -/
opaque seed : Nat → Byte

/-- The vendor public key of the boot ROM, X ‖ Y (R467). -/
opaque vendorKey : Nat → Byte

/-- The cycles of the RTC oscillator that pass in a time of the Beacon count: two clocks that no rule relates (R284, R309, R475). -/
opaque rtcCycles : Nat → Nat

/-- The next value of Haboob's 16-bit maximal-length LFSR, whose polynomial R317 does not give. -/
opaque lfsrNext : Nat → Nat

end Sys2Proof.Config
end

