-- ==== Sys2Proof/Machine/Curve.lean ====
section
/-! DEFINITION. ECDSA over the curve P-256 of FIPS 186 (R9): the public key of R456, the signature of R455 with the
deterministic k of RFC 6979, and the check of a signature (R454, R457). -/

namespace Sys2Proof.Machine

/-- The prime of the field of P-256. -/
def p256Prime : Nat := 2 ^ 256 - 2 ^ 224 + 2 ^ 192 + 2 ^ 96 - 1

/-- The constant term of y² = x³ − 3x + b. -/
def p256B : Int := 0x5AC635D8AA3A93E7B3EBBD55769886BC651D06B0CC53B0F63BCE3C3E27D2604B

/-- An element of the field: a number reduced. -/
def fld (v : Int) : Int := v % p256Prime

/-- `b` to the power `e`, of 256 bits, modulo `m`. -/
def powMod (m b : Int) (e : Nat) : Int :=
  (List.range 256).foldr (fun k r => if e.testBit k then r * r % m * b % m else r * r % m) 1

/-- The inverse modulo a prime `m`, by Fermat. -/
def invMod (m : Nat) (b : Int) : Int := powMod m b (m - 2)

/-- A point (x / z², y / z³) of the curve; z = 0 is the point at infinity. -/
structure CurvePoint where
  x : Int
  y : Int
  z : Int
  deriving DecidableEq, Repr

namespace CurvePoint

/-- The point at infinity. -/
def infinity : CurvePoint := ⟨1, 1, 0⟩

/-- The base point G. -/
def base : CurvePoint where
  x := 0x6B17D1F2E12C4247F8BCE6E563A440F277037D812DEB33A0F4A13945D898C296
  y := 0x4FE342E2FE1A7F9B8EE7EB4A7C0F9E162BCE33576B315ECECBB6406837BF51F5
  z := 1

/-- The tangent's third point: twice `p`. -/
def twice (p : CurvePoint) : CurvePoint :=
  let yy := fld (p.y * p.y)
  let zz := fld (p.z * p.z)
  let b := fld (4 * p.x * yy)
  let m := fld (3 * (p.x - zz) * (p.x + zz))
  let x := fld (m * m - 2 * b)
  ⟨x, fld (m * (b - x) - 8 * yy * yy), fld (2 * p.y * p.z)⟩

/-- The sum of two points of the curve. -/
def plus (p q : CurvePoint) : CurvePoint :=
  if p.z = 0 then q
  else if q.z = 0 then p
  else
    let pz := fld (p.z * p.z)
    let qz := fld (q.z * q.z)
    let u := fld (p.x * qz)
    let s := fld (p.y * q.z * qz)
    let h := fld (q.x * pz - u)
    let r := fld (q.y * p.z * pz - s)
    if h = 0 then (if r = 0 then p.twice else infinity)
    else
      let hh := fld (h * h)
      let x := fld (r * r - h * hh - 2 * u * hh)
      ⟨x, fld (r * (u * hh - x) - s * h * hh), fld (h * p.z * q.z)⟩

/-- `e` times a point, for a number of 256 bits. -/
def times (e : Nat) (p : CurvePoint) : CurvePoint :=
  (List.range 256).foldr (fun k acc => if e.testBit k then acc.twice.plus p else acc.twice) infinity

/-- The coordinates of a point other than infinity. -/
def affine (p : CurvePoint) : Int × Int :=
  let i := invMod p256Prime p.z
  (fld (p.x * i * i), fld (p.y * i * i * i))

/-- Coordinates in the field that satisfy the curve's equation. -/
def onCurve (x y : Nat) : Bool :=
  decide (x < p256Prime) && decide (y < p256Prime) &&
    decide (fld ((y : Int) * y) = fld ((x : Int) * x * x - 3 * x + p256B))

end CurvePoint

/-- `n` bytes of a number, most significant first. -/
def toBE (n v : Nat) : Bytes := (toLE n v).reverse

/-- Two 32-byte big-endian integers: X ‖ Y of R456, r ‖ s of R284. -/
def pairBE (v w : Nat) : Bytes := toBE 32 v ++ toBE 32 w

/-- The public key of a private key d, the point d × G (R456). -/
def ecdsaPublicKey (key : Bytes) : Bytes :=
  let q := (CurvePoint.base.times (ofBE key)).affine
  pairBE q.1.toNat q.2.toNat

/-- The signature (r, s) of the digest `z` under the private key `d` and the secret number `k`; none where FIPS 186
takes another k. -/
def ecdsaWith (d z k : Nat) : Option (Nat × Nat) :=
  if k = 0 ∨ p256Order ≤ k then none
  else
    let r := ((CurvePoint.base.times k).affine.1 % p256Order).toNat
    let s := (invMod p256Order k * (z + r * d) % p256Order).toNat
    if r = 0 ∨ s = 0 then none else some (r, s)

/-- The candidates of RFC 6979, step h, from the key `k` and the value `v` of its HMAC generator, until one gives a
signature. The first fails with probability 2⁻³², so `n` bounds their number without effect. -/
def ecdsaSearch (d z : Nat) : Nat → Bytes → Bytes → Nat × Nat
  | 0, _, _ => (0, 0)
  | n + 1, k, v =>
    let v := hmacSha256 k v
    match ecdsaWith d z (ofBE v) with
    | some rs => rs
    | none =>
      let k := hmacSha256 k (v ++ [0x00#8])
      ecdsaSearch d z n k (hmacSha256 k v)

/-- The signature r ‖ s of a digest, k chosen as in RFC 6979 with SHA-256 (R455). -/
def ecdsaSign (key digest : Bytes) : Bytes :=
  let z := ofBE digest
  let seed := key ++ toBE 32 (z % p256Order)
  let v := List.replicate 32 0x01#8
  let k := hmacSha256 (List.replicate 32 0x00#8) (v ++ 0x00#8 :: seed)
  let v := hmacSha256 k v
  let k := hmacSha256 k (v ++ 0x01#8 :: seed)
  let rs := ecdsaSearch (ofBE key) z 256 k (hmacSha256 k v)
  pairBE rs.1 rs.2

/-- The check of a signature r ‖ s of a digest under the public key X ‖ Y. -/
def ecdsaVerify (pub digest sig : Bytes) : Bool :=
  let x := ofBE (pub.take 32)
  let y := ofBE (pub.drop 32)
  let r := ofBE (sig.take 32)
  let s := ofBE (sig.drop 32)
  let inRange (v : Nat) := decide (1 ≤ v) && decide (v < p256Order)
  let w := invMod p256Order s
  let u := (ofBE digest * w % p256Order).toNat
  let v := (r * w % p256Order).toNat
  let sum := (CurvePoint.base.times u).plus (CurvePoint.times v ⟨x, y, 1⟩)
  inRange r && inRange s && CurvePoint.onCurve x y && decide (sum.z ≠ 0) && decide (sum.affine.1 % p256Order = r)

end Sys2Proof.Machine
end

