-- ==== Sys2Proof/Machine/Dict.lean ====
section
/-! DEFINITION. The object dictionary (chapters 02–19; R346–R352, R360): every index:subindex pair the
specification defines, with its type, access, class, default, range and the roles that may write it. -/

namespace Sys2Proof.Machine

/-- The object types of R12 and R348. -/
inductive ObjType
  | bool | u8 | u16 | u32 | u64 | i8 | i16 | i32 | i64 | vis | domain
  deriving DecidableEq, Repr

/-- The access codes of R349. -/
inductive ObjAccess
  | ro | rw | wo | const
  deriving DecidableEq, Repr

/-- The write classes of R351. -/
inductive ObjClass
  | none | live | staged | boot | sealed
  deriving DecidableEq, Repr

/-- Who may write an object: every role, or HOST and INSTALLER or a higher role (R352). -/
inductive WriteRole
  | anyRole | hostOrInstaller
  deriving DecidableEq, Repr

/-- The range of a value. -/
inductive ObjRange
  | full
  | span (lo hi step : Int)
  | spanOr (lo hi other : Int)
  deriving DecidableEq, Repr

/-- Which alternative of a default or range applies: the phase type, or the chemistry of `PP_CHEM`. -/
inductive Split
  | one | stage | chem
  deriving DecidableEq, Repr

/-- What an object is, beyond its value: a plain value; an event object with its base source, every bit one source
(`perUnit`) or bit `k` its own (R396); an enable object; a saturating counter with the event object and bit of its
COUNTER_SAT (R409); a tally that saturates without such a bit. -/
inductive ObjKind
  | plain
  | event (base : Nat) (perUnit : Bool)
  | enable
  | counter (evIndex evStride bit : Nat)
  | tally
  deriving DecidableEq, Repr

/-- The direction in which a protective limit is tighter (R360). -/
inductive Tighter
  | no | lower | higher
  deriving DecidableEq, Repr

/-- One row of an object table: `units` objects, the u-th at `index + stride * u`, subindices `subLo`–`subHi`. -/
structure ObjDef where
  index : Nat
  units : Nat := 1
  stride : Nat := 0
  subLo : Nat := 0
  subHi : Nat := 0
  type : ObjType
  access : ObjAccess
  cls : ObjClass := .none
  size : Nat
  minSize : Nat := size
  deflt : List Int := [0]
  split : Split := .one
  range : ObjRange := .full
  range2 : ObjRange := .full
  role : WriteRole := .anyRole
  kind : ObjKind := .plain
  protective : Tighter := .no
  keep : Bool := false
  deriving DecidableEq, Repr

namespace Dict

/-- `ID_VENDOR`, `ID_PART`, `ID_SERIAL`, `ID_FW_VERSION`, `ID_ROM_VERSION`, `ID_DICT_VERSION`, `ID_DIE_REV`, `CAP_UNITS`, `CAP_TILES`, `CAP_TILES_USABLE`, `CAP_PHASES`, `CAP_PHASES_USABLE`, `CAP_MP`, `CAP_DICT_ENTRIES`, `CAP_DICT_PRESENT`, `DESC_SELECT`. -/
def objsIdentity1 : List ObjDef := [
  { index := 0x1000, type := .vis, access := .const, size := 24, deflt := [0x73656369766544207265776f50206e6577616e726f6852] },
  { index := 0x1001, type := .vis, access := .const, size := 8 },
  { index := 0x1002, type := .u64, access := .const, size := 8 },
  { index := 0x1003, subLo := 0x1, subHi := 0x1, type := .u32, access := .const, size := 4 },
  { index := 0x1003, subLo := 0x2, subHi := 0x2, type := .u32, access := .const, size := 4 },
  { index := 0x1003, subLo := 0x3, subHi := 0x3, type := .u16, access := .const, size := 2, deflt := [256] },
  { index := 0x1004, subLo := 0x1, subHi := 0x8, type := .u16, access := .const, size := 2 },
  { index := 0x1010, type := .u32, access := .const, size := 4 },
  { index := 0x1011, subLo := 0x1, subHi := 0x1, type := .u8, access := .const, size := 1 },
  { index := 0x1011, subLo := 0x2, subHi := 0x2, type := .u8, access := .ro, size := 1, deflt := [1] },
  { index := 0x1012, subLo := 0x1, subHi := 0x1, type := .u64, access := .const, size := 8 },
  { index := 0x1012, subLo := 0x2, subHi := 0x2, type := .u64, access := .ro, size := 8 },
  { index := 0x1013, type := .u8, access := .const, size := 1 },
  { index := 0x1014, subLo := 0x1, subHi := 0x1, type := .u16, access := .const, size := 2, deflt := [9474] },
  { index := 0x1014, subLo := 0x2, subHi := 0x2, type := .u16, access := .const, size := 2 },
  { index := 0x1020, subLo := 0x1, subHi := 0x1, type := .u32, access := .rw, cls := .live, size := 4 } ]

/-- `DESC`. -/
def objsIdentity2 : List ObjDef := [
  { index := 0x1020, subLo := 0x2, subHi := 0x2, type := .domain, access := .ro, size := 8 } ]

/-- Every object of this range (R346). -/
def objsIdentity : List ObjDef := objsIdentity1 ++ objsIdentity2

/-- `OP_FREE`, `OP_ENTRY`, `OP_ABORT`, `OP_ABORT_LAST`, `OP_DONE_MAP_LO`, `OP_DONE_MAP_HI`, `OP_ABORT_LOST`, `OP_FULL_COUNT`, `OP_EVENT`, `OP_EVENT_EN`, `OP_TAGS_LOW`. -/
def objsOperations : List ObjDef := [
  { index := 0x1100, type := .u8, access := .ro, size := 1, deflt := [128] },
  { index := 0x1101, subLo := 0x1, subHi := 0x80, type := .domain, access := .ro, size := 32 },
  { index := 0x1102, type := .u8, access := .wo, cls := .live, size := 1 },
  { index := 0x1103, type := .u16, access := .ro, size := 2, deflt := [255] },
  { index := 0x1104, subLo := 0x1, subHi := 0x1, type := .u64, access := .rw, cls := .live, size := 8, role := .hostOrInstaller },
  { index := 0x1104, subLo := 0x2, subHi := 0x2, type := .u64, access := .rw, cls := .live, size := 8, role := .hostOrInstaller },
  { index := 0x1105, subLo := 0x1, subHi := 0x1, type := .u32, access := .ro, size := 4, kind := (.counter 0x1106 0x0 7) },
  { index := 0x1105, subLo := 0x2, subHi := 0x2, type := .u32, access := .ro, size := 4, kind := (.counter 0x1106 0x0 7) },
  { index := 0x1106, subLo := 0x1, subHi := 0x1, type := .u16, access := .rw, cls := .live, size := 2, role := .hostOrInstaller, kind := (.event 433 false) },
  { index := 0x1106, subLo := 0x2, subHi := 0x2, type := .u16, access := .rw, cls := .live, size := 2, deflt := [249], role := .hostOrInstaller, kind := .enable },
  { index := 0x1106, subLo := 0x3, subHi := 0x3, type := .u8, access := .rw, cls := .live, size := 1, deflt := [8], range := .span 1 64 1, role := .hostOrInstaller } ]

/-- `NET_STATUS`, `NET_A_EN`, `NET_A_NOM_RATE`, `NET_A_DATA_RATE`, `NET_A_NOM_SP`, `NET_A_DATA_SP`, `NET_B_EN`, `NET_B_NOM_RATE`, `NET_B_DATA_RATE`, `NET_B_NOM_SP`, `NET_B_DATA_SP`, `NET_NODE_ID`, `NET_NODE_ID_USED`, `NET_VERSIONS`, `NET_HB_PERIOD`, `NET_HB_MISS`. -/
def objsNetwork1 : List ObjDef := [
  { index := 0x1200, type := .u16, access := .ro, size := 2 },
  { index := 0x1201, subLo := 0x1, subHi := 0x1, type := .bool, access := .rw, cls := .boot, size := 1, deflt := [1], role := .hostOrInstaller },
  { index := 0x1201, subLo := 0x2, subHi := 0x2, type := .u16, access := .rw, cls := .boot, size := 2, deflt := [500], role := .hostOrInstaller },
  { index := 0x1201, subLo := 0x3, subHi := 0x3, type := .u16, access := .rw, cls := .boot, size := 2, deflt := [2000], role := .hostOrInstaller },
  { index := 0x1201, subLo := 0x4, subHi := 0x4, type := .u16, access := .rw, cls := .boot, size := 2, deflt := [800], range := .span 600 900 1, role := .hostOrInstaller },
  { index := 0x1201, subLo := 0x5, subHi := 0x5, type := .u16, access := .rw, cls := .boot, size := 2, deflt := [750], range := .span 600 900 1, role := .hostOrInstaller },
  { index := 0x1202, subLo := 0x1, subHi := 0x1, type := .bool, access := .rw, cls := .boot, size := 1, deflt := [1], role := .hostOrInstaller },
  { index := 0x1202, subLo := 0x2, subHi := 0x2, type := .u16, access := .rw, cls := .boot, size := 2, deflt := [500], role := .hostOrInstaller },
  { index := 0x1202, subLo := 0x3, subHi := 0x3, type := .u16, access := .rw, cls := .boot, size := 2, deflt := [2000], role := .hostOrInstaller },
  { index := 0x1202, subLo := 0x4, subHi := 0x4, type := .u16, access := .rw, cls := .boot, size := 2, deflt := [800], range := .span 600 900 1, role := .hostOrInstaller },
  { index := 0x1202, subLo := 0x5, subHi := 0x5, type := .u16, access := .rw, cls := .boot, size := 2, deflt := [750], range := .span 600 900 1, role := .hostOrInstaller },
  { index := 0x1203, subLo := 0x1, subHi := 0x1, type := .u8, access := .rw, cls := .boot, size := 1, range := .span 0 126 1, role := .hostOrInstaller },
  { index := 0x1203, subLo := 0x2, subHi := 0x2, type := .u8, access := .ro, size := 1 },
  { index := 0x1204, subLo := 0x1, subHi := 0x1, type := .u8, access := .const, size := 1, deflt := [3] },
  { index := 0x1204, subLo := 0x2, subHi := 0x2, type := .u16, access := .rw, cls := .live, size := 2, deflt := [1000], range := .span 100 60000 1, role := .hostOrInstaller },
  { index := 0x1204, subLo := 0x3, subHi := 0x3, type := .u8, access := .rw, cls := .live, size := 1, deflt := [3], range := .span 2 10 1, role := .hostOrInstaller } ]

/-- `NET_ROLE_IDLE`, `NET_A_COUNTS`, `NET_B_COUNTS`, `NET_CRC_FAILS`, `NET_EVENTS_DROPPED`, `NET_EVENT`, `NET_EVENT_EN`, `NET_INSTALLER_PW`, `NET_AUTH_FAILS`, `NET_AUTH_LOCK`, `NET_AUTH_TOKEN`, `NET_PARTNERS`, `NET_PARTNER`, `NET_EVICT`, `NET_LAST_EVICT`, `NET_MY_EVENT_MASK`. -/
def objsNetwork2 : List ObjDef := [
  { index := 0x1204, subLo := 0x4, subHi := 0x4, type := .u32, access := .rw, cls := .live, size := 4, deflt := [600], range := .span 60 86400 1, role := .hostOrInstaller },
  { index := 0x1205, subLo := 0x1, subHi := 0x4, type := .u32, access := .ro, size := 4, kind := (.counter 0x1206 0x0 12) },
  { index := 0x1205, subLo := 0x5, subHi := 0x8, type := .u32, access := .ro, size := 4, kind := (.counter 0x1206 0x0 12) },
  { index := 0x1205, subLo := 0x9, subHi := 0x9, type := .u32, access := .ro, size := 4, kind := (.counter 0x1206 0x0 12) },
  { index := 0x1205, subLo := 0xA, subHi := 0xA, type := .u32, access := .ro, size := 4, kind := (.counter 0x1206 0x0 12) },
  { index := 0x1206, subLo := 0x1, subHi := 0x1, type := .u16, access := .rw, cls := .live, size := 2, role := .hostOrInstaller, kind := (.event 321 false) },
  { index := 0x1206, subLo := 0x2, subHi := 0x2, type := .u16, access := .rw, cls := .live, size := 2, deflt := [3710], role := .hostOrInstaller, kind := .enable },
  { index := 0x1207, subLo := 0x1, subHi := 0x1, type := .domain, access := .wo, cls := .live, size := 32, minSize := 0, role := .hostOrInstaller },
  { index := 0x1207, subLo := 0x2, subHi := 0x2, type := .u16, access := .ro, size := 2 },
  { index := 0x1207, subLo := 0x3, subHi := 0x3, type := .u32, access := .ro, size := 4 },
  { index := 0x1208, type := .domain, access := .wo, cls := .live, size := 100 },
  { index := 0x1210, type := .u8, access := .ro, size := 1 },
  { index := 0x1211, subLo := 0x1, subHi := 0x40, type := .domain, access := .ro, size := 32 },
  { index := 0x1212, type := .u8, access := .wo, cls := .live, size := 1, range := .span 0 63 1, role := .hostOrInstaller },
  { index := 0x1213, type := .u8, access := .ro, size := 1 },
  { index := 0x1214, type := .u32, access := .rw, cls := .live, size := 4 } ]

/-- `TLM_EN`, `TLM_PERIOD`, `TLM_DEST`, `TLM_PORT`, `TLM_COUNT`, `TLM_ENTRY`. -/
def objsNetwork3 : List ObjDef := [
  { index := 0x1220, units := 8, stride := 0x1, subLo := 0x1, subHi := 0x1, type := .bool, access := .rw, cls := .live, size := 1, role := .hostOrInstaller },
  { index := 0x1220, units := 8, stride := 0x1, subLo := 0x2, subHi := 0x2, type := .u16, access := .rw, cls := .live, size := 2, deflt := [100], range := .span 10 60000 10, role := .hostOrInstaller },
  { index := 0x1220, units := 8, stride := 0x1, subLo := 0x3, subHi := 0x3, type := .u8, access := .rw, cls := .live, size := 1, range := .span 0 126 1, role := .hostOrInstaller },
  { index := 0x1220, units := 8, stride := 0x1, subLo := 0x4, subHi := 0x4, type := .u8, access := .rw, cls := .live, size := 1, range := .span 0 1 1, role := .hostOrInstaller },
  { index := 0x1220, units := 8, stride := 0x1, subLo := 0x5, subHi := 0x5, type := .u8, access := .rw, cls := .live, size := 1, range := .span 0 12 1, role := .hostOrInstaller },
  { index := 0x1220, units := 8, stride := 0x1, subLo := 0x6, subHi := 0x11, type := .u32, access := .rw, cls := .live, size := 4, role := .hostOrInstaller } ]

/-- Every object of this range (R346). -/
def objsNetwork : List ObjDef := objsNetwork1 ++ objsNetwork2 ++ objsNetwork3

/-- `LP_STATUS`, `LP_SPI_FRAMES`, `LP_SPI_CRC_ERRS`, `LP_SPI_FRAME_ERRS`, `LP_TW_EN`, `LP_TW_ADDR`, `LP_TW_FRAMES`, `LP_TW_CRC_ERRS`, `LP_TW_FRAME_ERRS`, `LP_TW_ARB_LOST`, `LP_TW_TIMEOUTS`, `LP_TW_CLEARS`, `LP_WIN_MAP`, `LP_EVENT`, `LP_EVENT_EN`. -/
def objsLocalPorts : List ObjDef := [
  { index := 0x1300, type := .u16, access := .ro, size := 2 },
  { index := 0x1301, subLo := 0x1, subHi := 0x1, type := .u32, access := .ro, size := 4, kind := (.counter 0x1320 0x0 6) },
  { index := 0x1301, subLo := 0x2, subHi := 0x2, type := .u32, access := .ro, size := 4, kind := (.counter 0x1320 0x0 6) },
  { index := 0x1301, subLo := 0x3, subHi := 0x3, type := .u32, access := .ro, size := 4, kind := (.counter 0x1320 0x0 6) },
  { index := 0x1302, subLo := 0x1, subHi := 0x1, type := .bool, access := .rw, cls := .boot, size := 1, deflt := [1], role := .hostOrInstaller },
  { index := 0x1302, subLo := 0x2, subHi := 0x2, type := .u8, access := .ro, size := 1 },
  { index := 0x1303, subLo := 0x1, subHi := 0x1, type := .u32, access := .ro, size := 4, kind := (.counter 0x1320 0x0 6) },
  { index := 0x1303, subLo := 0x2, subHi := 0x2, type := .u32, access := .ro, size := 4, kind := (.counter 0x1320 0x0 6) },
  { index := 0x1303, subLo := 0x3, subHi := 0x3, type := .u32, access := .ro, size := 4, kind := (.counter 0x1320 0x0 6) },
  { index := 0x1303, subLo := 0x4, subHi := 0x4, type := .u32, access := .ro, size := 4, kind := (.counter 0x1320 0x0 6) },
  { index := 0x1303, subLo := 0x5, subHi := 0x5, type := .u32, access := .ro, size := 4, kind := (.counter 0x1320 0x0 6) },
  { index := 0x1303, subLo := 0x6, subHi := 0x6, type := .u32, access := .ro, size := 4, kind := (.counter 0x1320 0x0 6) },
  { index := 0x1310, subLo := 0x1, subHi := 0x20, type := .u32, access := .rw, cls := .live, size := 4, role := .hostOrInstaller },
  { index := 0x1320, subLo := 0x1, subHi := 0x1, type := .u16, access := .rw, cls := .live, size := 2, role := .hostOrInstaller, kind := (.event 337 false) },
  { index := 0x1320, subLo := 0x2, subHi := 0x2, type := .u16, access := .rw, cls := .live, size := 2, deflt := [63], role := .hostOrInstaller, kind := .enable } ]

/-- `INT_SUMMARY`, `INT_PRIO`, `INT_THRESHOLD`, `INT_PENDING`, `INT_INSERVICE`, `INT_CLAIMS`, `INT_STRAY_COMPLETES`, `INT_REFIRES`. -/
def objsInterrupts : List ObjDef := [
  { index := 0x1400, type := .u32, access := .ro, size := 4 },
  { index := 0x1401, subLo := 0x1, subHi := 0x20, type := .u8, access := .rw, cls := .live, size := 1, deflt := [7, 5, 7, 5, 3, 3, 3, 3, 3, 3, 3, 3, 3, 3, 3, 3, 5, 3, 5, 5, 3, 3, 3, 3, 3, 3, 3, 5, 0, 0, 0, 0], range := .span 0 7 1, role := .hostOrInstaller },
  { index := 0x1402, type := .u8, access := .rw, cls := .live, size := 1, range := .span 0 7 1, role := .hostOrInstaller },
  { index := 0x1403, subLo := 0x1, subHi := 0x20, type := .u16, access := .ro, size := 2 },
  { index := 0x1404, subLo := 0x1, subHi := 0x20, type := .u16, access := .ro, size := 2 },
  { index := 0x1407, subLo := 0x1, subHi := 0x1, type := .u32, access := .ro, size := 4, kind := (.counter 0x1106 0x0 7) },
  { index := 0x1407, subLo := 0x2, subHi := 0x2, type := .u32, access := .ro, size := 4, kind := (.counter 0x1106 0x0 7) },
  { index := 0x1407, subLo := 0x3, subHi := 0x3, type := .u32, access := .ro, size := 4, kind := (.counter 0x1106 0x0 7) } ]

/-- `MODE_CURRENT`, `MODE_FLAGS`, `MODE_ENTERED_AT`, `MODE_REQUEST`, `MODE_EVENT`, `MODE_EVENT_EN`, `BOOT_RESULT`, `BOOT_COUNT`, `RESET_CAUSE`, `FS_RETRY_DELAY`, `FS_RETRY_LIMIT`, `FS_RETRY_COUNT`, `FS_CAUSE`, `FS_RETRY_AT`, `FS_CLEAN_TIME`, `WAKE_ENABLE`. -/
def objsModes1 : List ObjDef := [
  { index := 0x2000, type := .u8, access := .ro, size := 1 },
  { index := 0x2001, type := .u16, access := .ro, size := 2 },
  { index := 0x2002, type := .u64, access := .ro, size := 8 },
  { index := 0x2003, type := .u8, access := .wo, cls := .live, size := 1 },
  { index := 0x2004, subLo := 0x1, subHi := 0x1, type := .u16, access := .rw, cls := .live, size := 2, kind := (.event 1 false) },
  { index := 0x2004, subLo := 0x2, subHi := 0x2, type := .u16, access := .rw, cls := .live, size := 2, deflt := [127], kind := .enable },
  { index := 0x2010, type := .u16, access := .ro, size := 2 },
  { index := 0x2011, type := .u32, access := .ro, size := 4, kind := .tally, keep := true },
  { index := 0x2012, type := .u8, access := .ro, size := 1 },
  { index := 0x2020, subLo := 0x1, subHi := 0x1, type := .u32, access := .rw, cls := .live, size := 4, deflt := [5000], range := .spanOr 1000 600000 0xFFFFFFFF },
  { index := 0x2020, subLo := 0x2, subHi := 0x2, type := .u8, access := .rw, cls := .live, size := 1, deflt := [3], range := .span 0 7 1 },
  { index := 0x2020, subLo := 0x3, subHi := 0x3, type := .u8, access := .ro, size := 1, keep := true },
  { index := 0x2020, subLo := 0x4, subHi := 0x4, type := .u16, access := .ro, size := 2, keep := true },
  { index := 0x2020, subLo := 0x5, subHi := 0x5, type := .u64, access := .ro, size := 8 },
  { index := 0x2020, subLo := 0x6, subHi := 0x6, type := .u32, access := .rw, cls := .live, size := 4, deflt := [600] },
  { index := 0x2030, subLo := 0x1, subHi := 0x1, type := .u16, access := .rw, cls := .live, size := 2, deflt := [511] } ]

/-- `WAKE_SOURCE`, `WAKE_COUNT`, `DORMANT_AUX_KEEP`, `MODE_HISTORY_COUNT`, `MODE_HISTORY`. -/
def objsModes2 : List ObjDef := [
  { index := 0x2030, subLo := 0x2, subHi := 0x2, type := .u16, access := .ro, size := 2, keep := true },
  { index := 0x2030, subLo := 0x3, subHi := 0x3, type := .u32, access := .ro, size := 4, kind := .tally, keep := true },
  { index := 0x2030, subLo := 0x4, subHi := 0x4, type := .u8, access := .rw, cls := .live, size := 1 },
  { index := 0x2040, type := .u8, access := .ro, size := 1 },
  { index := 0x2040, subLo := 0x1, subHi := 0x10, type := .domain, access := .ro, size := 16 } ]

/-- Every object of this range (R346). -/
def objsModes : List ObjDef := objsModes1 ++ objsModes2

/-- `GRP_STATE`, `GRP_CMD`, `GRP_TAG`, `GRP_PENDING`, `GRP_AUTOSTART`, `GRP_TOFFMIN`, `GRP_COOP`, `GRP_AFTER`, `GRP_STEP`, `GRP_RESULT`, `GRP_WAIT`, `GRP_UP_COUNT`, `SEQ_STATUS`, `SEQ_COOP`, `SEQ_BELL_TIMEOUT`, `SEQ_FOG_EXT_COUNT`. -/
def objsSequencer1 : List ObjDef := [
  { index := 0x2100, units := 16, stride := 0x8, type := .u8, access := .ro, size := 1 },
  { index := 0x2101, units := 16, stride := 0x8, subLo := 0x1, subHi := 0x1, type := .u8, access := .wo, cls := .live, size := 1, role := .hostOrInstaller },
  { index := 0x2101, units := 16, stride := 0x8, subLo := 0x2, subHi := 0x2, type := .u8, access := .ro, size := 1, deflt := [255] },
  { index := 0x2101, units := 16, stride := 0x8, subLo := 0x3, subHi := 0x3, type := .bool, access := .ro, size := 1 },
  { index := 0x2102, units := 16, stride := 0x8, subLo := 0x1, subHi := 0x1, type := .bool, access := .rw, cls := .staged, size := 1 },
  { index := 0x2102, units := 16, stride := 0x8, subLo := 0x2, subHi := 0x2, type := .u16, access := .rw, cls := .staged, size := 2, deflt := [20], range := .span 1 60000 1 },
  { index := 0x2102, units := 16, stride := 0x8, subLo := 0x3, subHi := 0x3, type := .bool, access := .rw, cls := .staged, size := 1 },
  { index := 0x2102, units := 16, stride := 0x8, subLo := 0x4, subHi := 0x4, type := .u8, access := .rw, cls := .staged, size := 1, deflt := [255], range := .spanOr 0 15 0xFF },
  { index := 0x2103, units := 16, stride := 0x8, subLo := 0x1, subHi := 0x1, type := .u8, access := .ro, size := 1, deflt := [255] },
  { index := 0x2103, units := 16, stride := 0x8, subLo := 0x2, subHi := 0x2, type := .u8, access := .ro, size := 1 },
  { index := 0x2103, units := 16, stride := 0x8, subLo := 0x3, subHi := 0x3, type := .u8, access := .ro, size := 1 },
  { index := 0x2104, units := 16, stride := 0x8, type := .u32, access := .ro, size := 4, kind := (.counter 0x2183 0x0 10) },
  { index := 0x2180, type := .u16, access := .ro, size := 2 },
  { index := 0x2181, subLo := 0x1, subHi := 0x1, type := .u8, access := .rw, cls := .staged, size := 1, deflt := [3] },
  { index := 0x2181, subLo := 0x2, subHi := 0x2, type := .u16, access := .rw, cls := .staged, size := 2, deflt := [1000], range := .span 10 60000 1 },
  { index := 0x2182, type := .u32, access := .ro, size := 4, kind := (.counter 0x2183 0x0 10) } ]

/-- `SEQ_EVENT`, `SEQ_EVENT_EN`, `SEQ_FAULT_GROUP`, `SEQ_FAULT_STEP`, `SEQ_FAULT_RAIL`, `SEQ_FAULT_CODE`, `SEQ_FAULT_AT`, `SEQ_PG_CHATTER`, `SEQ_CHATTER_CLEAR`, `SEQ_LEGACY_MODE`, `SEQ_LEGACY_SLAVES`, `SEQ_LEGACY_POLL`, `SEQ_LEGACY_LOST`, `SEQ_LEGACY_ALLOW_CLEAR`, `SEQ_LEGACY_CMD_COUNT`, `SEQ_LEGACY_STATUS`. -/
def objsSequencer2 : List ObjDef := [
  { index := 0x2183, subLo := 0x1, subHi := 0x1, type := .u16, access := .rw, cls := .live, size := 2, kind := (.event 17 false) },
  { index := 0x2183, subLo := 0x2, subHi := 0x2, type := .u16, access := .rw, cls := .live, size := 2, deflt := [1407], kind := .enable },
  { index := 0x2184, subLo := 0x1, subHi := 0x1, type := .u8, access := .ro, size := 1, deflt := [255] },
  { index := 0x2184, subLo := 0x2, subHi := 0x2, type := .u8, access := .ro, size := 1, deflt := [255] },
  { index := 0x2184, subLo := 0x3, subHi := 0x3, type := .u8, access := .ro, size := 1, deflt := [255] },
  { index := 0x2184, subLo := 0x4, subHi := 0x4, type := .u8, access := .ro, size := 1 },
  { index := 0x2184, subLo := 0x5, subHi := 0x5, type := .u64, access := .ro, size := 8 },
  { index := 0x2190, subLo := 0x1, subHi := 0x20, type := .u16, access := .ro, size := 2, kind := (.counter 0x2183 0x0 10) },
  { index := 0x2191, type := .u8, access := .wo, cls := .live, size := 1, role := .hostOrInstaller },
  { index := 0x21A0, subLo := 0x1, subHi := 0x1, type := .u8, access := .rw, cls := .boot, size := 1, range := .span 0 2 1 },
  { index := 0x21A0, subLo := 0x2, subHi := 0x2, type := .u8, access := .rw, cls := .staged, size := 1 },
  { index := 0x21A0, subLo := 0x3, subHi := 0x3, type := .u16, access := .rw, cls := .staged, size := 2, deflt := [1000], range := .span 200 10000 1 },
  { index := 0x21A0, subLo := 0x4, subHi := 0x4, type := .u8, access := .ro, size := 1 },
  { index := 0x21A0, subLo := 0x5, subHi := 0x5, type := .bool, access := .rw, cls := .staged, size := 1 },
  { index := 0x21A0, subLo := 0x6, subHi := 0x6, type := .u32, access := .ro, size := 4, kind := (.counter 0x2183 0x0 10) },
  { index := 0x21A1, subLo := 0x1, subHi := 0x8, type := .u8, access := .ro, size := 1 } ]

/-- Every object of this range (R346). -/
def objsSequencer : List ObjDef := objsSequencer1 ++ objsSequencer2

/-- `SEQ_STEP`. -/
def objsSteps : List ObjDef := [
  { index := 0x2200, units := 256, stride := 0x1, type := .domain, access := .rw, cls := .staged, size := 16, deflt := [0x3203e800000000000000000000] } ]

/-- `SUP_STATUS`, `SUP_FAULT_CODE`, `SUP_FAULT_KIND`, `SUP_FAULT_INDEX`, `SUP_FAULT_TILE`, `SUP_FAULT_AT`, `SUP_SEAL_CAUSE`, `SUP_SEAL_STAGE`, `SUP_FAULT_COUNT`, `SUP_SNAP_SEQ`, `SUP_QUENCH`, `SUP_VHK_CAP`, `SUP_OV_MARGIN`, `SUP_UV_MARGIN`, `SUP_PG_WINDOW`, `SUP_OV_DEGLITCH`. -/
def objsSupervision1 : List ObjDef := [
  { index := 0x2300, type := .u16, access := .ro, size := 2 },
  { index := 0x2301, subLo := 0x1, subHi := 0x1, type := .u8, access := .ro, size := 1, keep := true },
  { index := 0x2301, subLo := 0x2, subHi := 0x2, type := .u8, access := .ro, size := 1, deflt := [255], keep := true },
  { index := 0x2301, subLo := 0x3, subHi := 0x3, type := .u8, access := .ro, size := 1, deflt := [255], keep := true },
  { index := 0x2301, subLo := 0x4, subHi := 0x4, type := .u8, access := .ro, size := 1, deflt := [255], keep := true },
  { index := 0x2301, subLo := 0x5, subHi := 0x5, type := .u64, access := .ro, size := 8, keep := true },
  { index := 0x2301, subLo := 0x6, subHi := 0x6, type := .u8, access := .ro, size := 1, keep := true },
  { index := 0x2301, subLo := 0x7, subHi := 0x7, type := .u8, access := .ro, size := 1, keep := true },
  { index := 0x2302, subLo := 0x1, subHi := 0x1, type := .u32, access := .ro, size := 4, kind := (.counter 0x2350 0x0 10), keep := true },
  { index := 0x2302, subLo := 0x2, subHi := 0x2, type := .u64, access := .ro, size := 8, keep := true },
  { index := 0x2303, type := .u8, access := .wo, cls := .live, size := 1, role := .hostOrInstaller },
  { index := 0x2304, type := .u16, access := .rw, cls := .boot, size := 2, deflt := [1000], range := .span 470 10000 1 },
  { index := 0x2310, subLo := 0x1, subHi := 0x20, type := .u16, access := .rw, cls := .staged, size := 2, deflt := [150], range := .span 10 5000 1, protective := .lower },
  { index := 0x2311, subLo := 0x1, subHi := 0x20, type := .u16, access := .rw, cls := .staged, size := 2, deflt := [100], range := .span 10 5000 1, protective := .lower },
  { index := 0x2312, subLo := 0x1, subHi := 0x20, type := .u16, access := .rw, cls := .staged, size := 2, deflt := [50], range := .span 10 200 1 },
  { index := 0x2313, subLo := 0x1, subHi := 0x20, type := .u16, access := .rw, cls := .staged, size := 2, deflt := [1000], range := .span 100 10000 10, protective := .lower } ]

/-- `SUP_UV_DEGLITCH`, `SUP_TPGL`, `SUP_PG_REARM`, `SUP_RAIL_FAULTS`, `SUP_LEASE_REVOKES`, `SUP_FENCED`, `SUP_SNAP_VALID`, `SUP_SNAP`, `SUP_SNAP_TAKE`, `SUP_SNAP_CLEAR`, `SUP_EVENT`, `SUP_EVENT_EN`. -/
def objsSupervision2 : List ObjDef := [
  { index := 0x2314, subLo := 0x1, subHi := 0x20, type := .u16, access := .rw, cls := .staged, size := 2, deflt := [20], range := .span 1 1000 1, protective := .lower },
  { index := 0x2315, subLo := 0x1, subHi := 0x20, type := .u16, access := .rw, cls := .staged, size := 2, deflt := [10], range := .span 1 10000 1, protective := .lower },
  { index := 0x2316, subLo := 0x1, subHi := 0x20, type := .u16, access := .rw, cls := .staged, size := 2, deflt := [50], range := .span 10 10000 1 },
  { index := 0x2320, subLo := 0x1, subHi := 0x20, type := .u16, access := .ro, size := 2, kind := (.counter 0x2350 0x0 10), keep := true },
  { index := 0x2330, subLo := 0x1, subHi := 0x5, type := .u32, access := .ro, size := 4, kind := (.counter 0x2350 0x0 10) },
  { index := 0x2331, type := .u8, access := .ro, size := 1 },
  { index := 0x2340, type := .u8, access := .ro, size := 1 },
  { index := 0x2340, subLo := 0x1, subHi := 0x8, type := .domain, access := .ro, size := 4096 },
  { index := 0x2341, type := .u8, access := .wo, cls := .live, size := 1 },
  { index := 0x2342, type := .u8, access := .wo, cls := .live, size := 1, role := .hostOrInstaller },
  { index := 0x2350, subLo := 0x1, subHi := 0x1, type := .u16, access := .rw, cls := .live, size := 2, kind := (.event 33 false) },
  { index := 0x2350, subLo := 0x2, subHi := 0x2, type := .u16, access := .rw, cls := .live, size := 2, deflt := [1919], kind := .enable } ]

/-- Every object of this range (R346). -/
def objsSupervision : List ObjDef := objsSupervision1 ++ objsSupervision2

/-- `LEDGER_VIN_PMAX`, `LEDGER_VIN_ILIM`, `LEDGER_IN_RESERVE`, `LEDGER_BAT_PMAX`, `LEDGER_BAT_IMAX`, `LEDGER_FAST_MARGIN`, `LEDGER_PKG_LOSS_MAX`, `LEDGER_TILE_LOSS_MAX`, `LEDGER_KEEPER_LOSS_MAX`, `LEDGER_TDERATE_START`, `LEDGER_TDERATE_END`, `LEDGER_RESTORE_HYST`, `LEDGER_RESTORE_DWELL`, `LEDGER_CHG_PRIORITY`, `LEDGER_CHG_EFF`, `LEDGER_CHG_CAP`. -/
def objsLedger1 : List ObjDef := [
  { index := 0x2401, subLo := 0x1, subHi := 0x1, type := .u32, access := .rw, cls := .live, size := 4, deflt := [100000], range := .span 10000 2000000 1, role := .hostOrInstaller },
  { index := 0x2401, subLo := 0x2, subHi := 0x2, type := .u32, access := .rw, cls := .live, size := 4, deflt := [2500], range := .span 500 50000 1, role := .hostOrInstaller },
  { index := 0x2401, subLo := 0x3, subHi := 0x3, type := .u16, access := .rw, cls := .live, size := 2, deflt := [50], range := .span 0 300 1, role := .hostOrInstaller },
  { index := 0x2401, subLo := 0x4, subHi := 0x4, type := .u32, access := .rw, cls := .live, size := 4, deflt := [50000], range := .span 1000 1000000 1, role := .hostOrInstaller },
  { index := 0x2401, subLo := 0x5, subHi := 0x5, type := .u32, access := .rw, cls := .live, size := 4, deflt := [3000], range := .span 100 50000 1, role := .hostOrInstaller },
  { index := 0x2401, subLo := 0x6, subHi := 0x6, type := .u16, access := .rw, cls := .staged, size := 2, deflt := [1080], range := .span 1000 1300 1, role := .hostOrInstaller, protective := .higher },
  { index := 0x2402, subLo := 0x1, subHi := 0x1, type := .u32, access := .rw, cls := .staged, size := 4, deflt := [28000], range := .span 2000 28000 1, role := .hostOrInstaller, protective := .lower },
  { index := 0x2402, subLo := 0x2, subHi := 0x2, type := .u16, access := .rw, cls := .staged, size := 2, deflt := [3600], range := .span 500 3600 1, role := .hostOrInstaller, protective := .lower },
  { index := 0x2402, subLo := 0x3, subHi := 0x3, type := .u16, access := .const, size := 2, deflt := [1800] },
  { index := 0x2402, subLo := 0x4, subHi := 0x4, type := .i16, access := .rw, cls := .staged, size := 2, deflt := [10500], range := .span 6000 12000 1, role := .hostOrInstaller },
  { index := 0x2402, subLo := 0x5, subHi := 0x5, type := .i16, access := .rw, cls := .staged, size := 2, deflt := [12500], range := .span 6500 12500 1, role := .hostOrInstaller },
  { index := 0x2403, subLo := 0x1, subHi := 0x1, type := .u16, access := .rw, cls := .live, size := 2, deflt := [100], range := .span 20 500 1, role := .hostOrInstaller },
  { index := 0x2403, subLo := 0x2, subHi := 0x2, type := .u16, access := .rw, cls := .live, size := 2, deflt := [100], range := .span 1 6000 1, role := .hostOrInstaller },
  { index := 0x2404, subLo := 0x1, subHi := 0x1, type := .u8, access := .rw, cls := .live, size := 1, deflt := [1], range := .span 0 7 1, role := .hostOrInstaller },
  { index := 0x2404, subLo := 0x2, subHi := 0x2, type := .u16, access := .rw, cls := .staged, size := 2, deflt := [950], range := .span 700 990 1, role := .hostOrInstaller },
  { index := 0x2404, subLo := 0x3, subHi := 0x3, type := .i32, access := .ro, size := 4, deflt := [(-1)] } ]

/-- `LEDGER_LV_PQ`, `LEDGER_LV_KFV`, `LEDGER_LV_KFVI`, `LEDGER_LV_RCOND`, `LEDGER_BUS_PQ`, `LEDGER_BUS_KFV`, `LEDGER_BUS_KFVI`, `LEDGER_BUS_RCOND`, `LEDGER_TILE_BASE`, `LEDGER_P_IN`, `LEDGER_B_IN`, `LEDGER_P_PKG`, `LEDGER_B_PKG`, `LEDGER_P_KEEPER`, `LEDGER_B_KEEPER`, `LEDGER_I_FAST`. -/
def objsLedger2 : List ObjDef := [
  { index := 0x2408, subLo := 0x1, subHi := 0x1, type := .u16, access := .rw, cls := .staged, size := 2, deflt := [40], range := .span 0 500 1, role := .hostOrInstaller },
  { index := 0x2408, subLo := 0x2, subHi := 0x2, type := .u32, access := .rw, cls := .staged, size := 4, deflt := [5000], range := .span 0 100000 1, role := .hostOrInstaller },
  { index := 0x2408, subLo := 0x3, subHi := 0x3, type := .u32, access := .rw, cls := .staged, size := 4, deflt := [500], range := .span 0 20000 1, role := .hostOrInstaller },
  { index := 0x2408, subLo := 0x4, subHi := 0x4, type := .u32, access := .rw, cls := .staged, size := 4, deflt := [3600], range := .span 100 50000 1, role := .hostOrInstaller },
  { index := 0x2409, subLo := 0x1, subHi := 0x1, type := .u16, access := .rw, cls := .staged, size := 2, deflt := [30], range := .span 0 500 1, role := .hostOrInstaller },
  { index := 0x2409, subLo := 0x2, subHi := 0x2, type := .u32, access := .rw, cls := .staged, size := 4, deflt := [12000], range := .span 0 100000 1, role := .hostOrInstaller },
  { index := 0x2409, subLo := 0x3, subHi := 0x3, type := .u32, access := .rw, cls := .staged, size := 4, deflt := [2000], range := .span 0 20000 1, role := .hostOrInstaller },
  { index := 0x2409, subLo := 0x4, subHi := 0x4, type := .u32, access := .rw, cls := .staged, size := 4, deflt := [15000], range := .span 100 200000 1, role := .hostOrInstaller },
  { index := 0x240A, type := .u16, access := .rw, cls := .staged, size := 2, deflt := [60], range := .span 0 500 1, role := .hostOrInstaller },
  { index := 0x2410, subLo := 0x1, subHi := 0x1, type := .i32, access := .ro, size := 4 },
  { index := 0x2410, subLo := 0x2, subHi := 0x2, type := .i32, access := .ro, size := 4 },
  { index := 0x2410, subLo := 0x3, subHi := 0x3, type := .i32, access := .ro, size := 4 },
  { index := 0x2410, subLo := 0x4, subHi := 0x4, type := .i32, access := .ro, size := 4 },
  { index := 0x2410, subLo := 0x5, subHi := 0x5, type := .i32, access := .ro, size := 4 },
  { index := 0x2410, subLo := 0x6, subHi := 0x6, type := .i32, access := .ro, size := 4, deflt := [1800] },
  { index := 0x2410, subLo := 0x7, subHi := 0x7, type := .i32, access := .ro, size := 4 } ]

/-- `LEDGER_SOURCE`, `LEDGER_P_TILE`, `LEDGER_B_TILE`, `LEDGER_CAP_FLOOR`, `LEDGER_P_PREDICT`, `LEDGER_RAIL_ACTION`, `LEDGER_RAIL_CAP`, `LEDGER_E_RAIL`, `LEDGER_E_IN`, `LEDGER_E_LOSS`, `LEDGER_E_BATT`, `LEDGER_E_CHG`, `LEDGER_E_AUX`, `LEDGER_E_CLEAR`, `LEDGER_EVENT`, `LEDGER_EVENT_EN`. -/
def objsLedger3 : List ObjDef := [
  { index := 0x2410, subLo := 0x8, subHi := 0x8, type := .u8, access := .ro, size := 1 },
  { index := 0x2411, subLo := 0x1, subHi := 0x7, type := .i32, access := .ro, size := 4 },
  { index := 0x2412, subLo := 0x1, subHi := 0x7, type := .i32, access := .ro, size := 4 },
  { index := 0x2420, subLo := 0x1, subHi := 0x20, type := .i32, access := .rw, cls := .live, size := 4, role := .hostOrInstaller },
  { index := 0x2421, subLo := 0x1, subHi := 0x20, type := .u32, access := .rw, cls := .staged, size := 4, role := .hostOrInstaller },
  { index := 0x2422, subLo := 0x1, subHi := 0x20, type := .u8, access := .ro, size := 1 },
  { index := 0x2423, subLo := 0x1, subHi := 0x20, type := .i32, access := .ro, size := 4, deflt := [(-1)] },
  { index := 0x2430, subLo := 0x1, subHi := 0x20, type := .u64, access := .ro, size := 8 },
  { index := 0x2431, subLo := 0x1, subHi := 0x1, type := .u64, access := .ro, size := 8 },
  { index := 0x2431, subLo := 0x2, subHi := 0x2, type := .u64, access := .ro, size := 8 },
  { index := 0x2431, subLo := 0x3, subHi := 0x3, type := .u64, access := .ro, size := 8 },
  { index := 0x2431, subLo := 0x4, subHi := 0x4, type := .u64, access := .ro, size := 8 },
  { index := 0x2432, subLo := 0x1, subHi := 0x4, type := .u64, access := .ro, size := 8 },
  { index := 0x2433, type := .u8, access := .wo, cls := .live, size := 1, role := .hostOrInstaller },
  { index := 0x2440, subLo := 0x1, subHi := 0x1, type := .u16, access := .rw, cls := .live, size := 2, kind := (.event 49 false) },
  { index := 0x2440, subLo := 0x2, subHi := 0x2, type := .u16, access := .rw, cls := .live, size := 2, deflt := [2285], kind := .enable } ]

/-- `LEDGER_FAST_COUNT`, `LEDGER_SHED_COUNT`, `LEDGER_DEFER_COUNT`. -/
def objsLedger4 : List ObjDef := [
  { index := 0x2441, subLo := 0x1, subHi := 0x1, type := .u32, access := .ro, size := 4, kind := (.counter 0x2440 0x0 11) },
  { index := 0x2441, subLo := 0x2, subHi := 0x2, type := .u32, access := .ro, size := 4, kind := (.counter 0x2440 0x0 11) },
  { index := 0x2441, subLo := 0x3, subHi := 0x3, type := .u32, access := .ro, size := 4, kind := (.counter 0x2440 0x0 11) } ]

/-- Every object of this range (R346). -/
def objsLedger : List ObjDef := objsLedger1 ++ objsLedger2 ++ objsLedger3 ++ objsLedger4

/-- `CFG_STATUS`, `CFG_COMMIT`, `CFG_COMMIT_TAG`, `CFG_COMMIT_RESULT`, `CFG_COMMIT_ABORT`, `CFG_COMMIT_TILES`, `CFG_COMMIT_AT`, `CFG_STAGED_COUNT`, `CFG_STAGE_OWNER`, `CFG_STAGE_TIMEOUT`, `CFG_STAGED_FAULT`, `CFG_BOOT_PENDING`, `CFG_SAVE`, `CFG_ERASE`, `CFG_IMAGE_WRITE`, `CFG_ACTIVE_SLOT`. -/
def objsStaging1 : List ObjDef := [
  { index := 0x2500, type := .u16, access := .ro, size := 2 },
  { index := 0x2501, subLo := 0x1, subHi := 0x1, type := .u8, access := .wo, cls := .live, size := 1 },
  { index := 0x2501, subLo := 0x2, subHi := 0x2, type := .u8, access := .ro, size := 1, deflt := [255] },
  { index := 0x2501, subLo := 0x3, subHi := 0x3, type := .u8, access := .ro, size := 1 },
  { index := 0x2501, subLo := 0x4, subHi := 0x4, type := .u16, access := .ro, size := 2 },
  { index := 0x2501, subLo := 0x5, subHi := 0x5, type := .u8, access := .ro, size := 1 },
  { index := 0x2501, subLo := 0x6, subHi := 0x6, type := .u64, access := .ro, size := 8 },
  { index := 0x2502, subLo := 0x1, subHi := 0x1, type := .u16, access := .ro, size := 2 },
  { index := 0x2502, subLo := 0x2, subHi := 0x2, type := .u8, access := .ro, size := 1 },
  { index := 0x2502, subLo := 0x3, subHi := 0x3, type := .u16, access := .rw, cls := .live, size := 2, deflt := [60], range := .span 10 3600 1, role := .hostOrInstaller },
  { index := 0x2502, subLo := 0x4, subHi := 0x4, type := .u32, access := .ro, size := 4 },
  { index := 0x2502, subLo := 0x5, subHi := 0x5, type := .u16, access := .ro, size := 2 },
  { index := 0x2510, subLo := 0x1, subHi := 0x1, type := .u8, access := .wo, cls := .live, size := 1, role := .hostOrInstaller },
  { index := 0x2510, subLo := 0x2, subHi := 0x2, type := .u8, access := .wo, cls := .live, size := 1, role := .hostOrInstaller },
  { index := 0x2510, subLo := 0x3, subHi := 0x3, type := .domain, access := .wo, cls := .live, size := 32768, minSize := 36, role := .hostOrInstaller },
  { index := 0x2511, subLo := 0x1, subHi := 0x1, type := .u8, access := .ro, size := 1, deflt := [255] } ]

/-- `CFG_ACTIVE_SEQ`, `CFG_ACTIVE_ID`, `CFG_ENTRIES_APPLIED`, `CFG_ENTRIES_ABSENT`, `CFG_ENTRIES_REJECTED`, `CFG_FIRST_REJECT`, `CFG_NEXT_SLOT`, `CFG_IMAGE_READ`. -/
def objsStaging2 : List ObjDef := [
  { index := 0x2511, subLo := 0x2, subHi := 0x2, type := .u64, access := .ro, size := 8 },
  { index := 0x2511, subLo := 0x3, subHi := 0x3, type := .u32, access := .ro, size := 4 },
  { index := 0x2511, subLo := 0x4, subHi := 0x4, type := .u16, access := .ro, size := 2 },
  { index := 0x2511, subLo := 0x5, subHi := 0x5, type := .u16, access := .ro, size := 2 },
  { index := 0x2511, subLo := 0x6, subHi := 0x6, type := .u16, access := .ro, size := 2 },
  { index := 0x2511, subLo := 0x7, subHi := 0x7, type := .u32, access := .ro, size := 4 },
  { index := 0x2511, subLo := 0x8, subHi := 0x8, type := .u8, access := .ro, size := 1 },
  { index := 0x2512, type := .domain, access := .ro, size := 32768, minSize := 0 } ]

/-- Every object of this range (R346). -/
def objsStaging : List ObjDef := objsStaging1 ++ objsStaging2

/-- `RAIL_STATE`, `RAIL_TYPE`, `RAIL_MODE`, `RAIL_BUILD_RESULT`, `RAIL_MIN_BUILD`, `RAIL_MEMBERS_COUNT`, `RAIL_MEMBERS`, `RAIL_SPARES_COUNT`, `RAIL_SPARES`, `RAIL_VMIN`, `RAIL_VSET`, `RAIL_VMAX`, `RAIL_VSET_TAG`, `RAIL_SLEW_ON`, `RAIL_SLEW`, `RAIL_SLEW_OFF`. -/
def objsRails1 : List ObjDef := [
  { index := 0x3000, units := 32, stride := 0x20, type := .u8, access := .ro, size := 1 },
  { index := 0x3001, units := 32, stride := 0x20, subLo := 0x1, subHi := 0x1, type := .u8, access := .ro, size := 1, deflt := [255] },
  { index := 0x3001, units := 32, stride := 0x20, subLo := 0x2, subHi := 0x2, type := .u8, access := .rw, cls := .staged, size := 1, range := .span 0 1 1 },
  { index := 0x3001, units := 32, stride := 0x20, subLo := 0x3, subHi := 0x3, type := .u16, access := .ro, size := 2, deflt := [65281] },
  { index := 0x3001, units := 32, stride := 0x20, subLo := 0x4, subHi := 0x4, type := .u8, access := .rw, cls := .boot, size := 1, range := .span 0 16 1 },
  { index := 0x3002, units := 32, stride := 0x20, type := .u8, access := .ro, size := 1 },
  { index := 0x3002, units := 32, stride := 0x20, subLo := 0x1, subHi := 0x10, type := .u8, access := .rw, cls := .staged, size := 1, deflt := [255], range := .spanOr 0 55 0xFF },
  { index := 0x3003, units := 32, stride := 0x20, type := .u8, access := .ro, size := 1 },
  { index := 0x3003, units := 32, stride := 0x20, subLo := 0x1, subHi := 0x4, type := .u8, access := .rw, cls := .staged, size := 1, deflt := [255], range := .spanOr 0 55 0xFF },
  { index := 0x3004, units := 32, stride := 0x20, subLo := 0x1, subHi := 0x1, type := .u16, access := .rw, cls := .staged, size := 2 },
  { index := 0x3004, units := 32, stride := 0x20, subLo := 0x2, subHi := 0x2, type := .u16, access := .rw, cls := .live, size := 2 },
  { index := 0x3004, units := 32, stride := 0x20, subLo := 0x3, subHi := 0x3, type := .u16, access := .rw, cls := .staged, size := 2, protective := .lower },
  { index := 0x3004, units := 32, stride := 0x20, subLo := 0x4, subHi := 0x4, type := .u8, access := .ro, size := 1, deflt := [255] },
  { index := 0x3005, units := 32, stride := 0x20, subLo := 0x1, subHi := 0x1, type := .u16, access := .rw, cls := .staged, size := 2, deflt := [1000], range := .span 10 50000 1 },
  { index := 0x3005, units := 32, stride := 0x20, subLo := 0x2, subHi := 0x2, type := .u16, access := .rw, cls := .live, size := 2, deflt := [1000], range := .span 10 50000 1 },
  { index := 0x3005, units := 32, stride := 0x20, subLo := 0x3, subHi := 0x3, type := .u16, access := .rw, cls := .staged, size := 2, deflt := [1000], range := .span 10 50000 1 } ]

/-- `RAIL_TON_DELAY`, `RAIL_TOFF_DELAY`, `RAIL_DOWN_MODE`, `RAIL_VOFF_DONE`, `RAIL_LOADLINE`, `RAIL_ILIM_SET`, `RAIL_ILIM`, `RAIL_OC_DWELL`, `RAIL_PRIORITY`, `RAIL_CLASS`, `RAIL_COIL_IPULL`, `RAIL_COIL_TPULL`, `RAIL_COIL_IHOLD`, `RAIL_COIL_KI`, `RAIL_CTRL`, `RAIL_V`. -/
def objsRails2 : List ObjDef := [
  { index := 0x3006, units := 32, stride := 0x20, subLo := 0x1, subHi := 0x1, type := .u32, access := .rw, cls := .staged, size := 4, range := .span 0 1000000 1 },
  { index := 0x3006, units := 32, stride := 0x20, subLo := 0x2, subHi := 0x2, type := .u32, access := .rw, cls := .staged, size := 4, range := .span 0 1000000 1 },
  { index := 0x3006, units := 32, stride := 0x20, subLo := 0x3, subHi := 0x3, type := .u8, access := .rw, cls := .staged, size := 1, range := .span 0 1 1 },
  { index := 0x3006, units := 32, stride := 0x20, subLo := 0x4, subHi := 0x4, type := .u16, access := .rw, cls := .staged, size := 2, deflt := [200], range := .span 50 1000 1 },
  { index := 0x3007, units := 32, stride := 0x20, type := .u16, access := .rw, cls := .staged, size := 2, range := .span 0 10000 1 },
  { index := 0x3008, units := 32, stride := 0x20, subLo := 0x1, subHi := 0x1, type := .i32, access := .rw, cls := .live, size := 4 },
  { index := 0x3008, units := 32, stride := 0x20, subLo := 0x2, subHi := 0x2, type := .i32, access := .ro, size := 4 },
  { index := 0x3008, units := 32, stride := 0x20, subLo := 0x3, subHi := 0x3, type := .u32, access := .rw, cls := .staged, size := 4, deflt := [200], range := .span 10 10000 1, protective := .lower },
  { index := 0x3009, units := 32, stride := 0x20, subLo := 0x1, subHi := 0x1, type := .u8, access := .rw, cls := .staged, size := 1, range := .span 0 7 1 },
  { index := 0x3009, units := 32, stride := 0x20, subLo := 0x2, subHi := 0x2, type := .u8, access := .rw, cls := .staged, size := 1, range := .span 0 3 1 },
  { index := 0x300A, units := 32, stride := 0x20, subLo := 0x1, subHi := 0x1, type := .i32, access := .rw, cls := .staged, size := 4 },
  { index := 0x300A, units := 32, stride := 0x20, subLo := 0x2, subHi := 0x2, type := .u16, access := .rw, cls := .staged, size := 2, deflt := [100], range := .span 10 5000 1 },
  { index := 0x300A, units := 32, stride := 0x20, subLo := 0x3, subHi := 0x3, type := .i32, access := .rw, cls := .staged, size := 4 },
  { index := 0x300A, units := 32, stride := 0x20, subLo := 0x4, subHi := 0x4, type := .u16, access := .rw, cls := .staged, size := 2, deflt := [64], range := .span 1 4096 1 },
  { index := 0x300B, units := 32, stride := 0x20, type := .u8, access := .wo, cls := .live, size := 1, role := .hostOrInstaller },
  { index := 0x3010, units := 32, stride := 0x20, subLo := 0x1, subHi := 0x1, type := .u16, access := .ro, size := 2 } ]

/-- `RAIL_I`, `RAIL_P`, `RAIL_VREF`, `RAIL_HEALTHY`, `RAIL_ACTIVE`, `RAIL_STATUS`, `RAIL_EVENT`, `RAIL_EVENT_EN`, `RAIL_LIMIT_COUNT`, `RAIL_SUPERSEDED_COUNT`. -/
def objsRails3 : List ObjDef := [
  { index := 0x3010, units := 32, stride := 0x20, subLo := 0x2, subHi := 0x2, type := .i32, access := .ro, size := 4 },
  { index := 0x3010, units := 32, stride := 0x20, subLo := 0x3, subHi := 0x3, type := .i32, access := .ro, size := 4 },
  { index := 0x3010, units := 32, stride := 0x20, subLo := 0x4, subHi := 0x4, type := .u16, access := .ro, size := 2 },
  { index := 0x3010, units := 32, stride := 0x20, subLo := 0x5, subHi := 0x5, type := .u8, access := .ro, size := 1 },
  { index := 0x3010, units := 32, stride := 0x20, subLo := 0x6, subHi := 0x6, type := .u8, access := .ro, size := 1 },
  { index := 0x3011, units := 32, stride := 0x20, type := .u16, access := .ro, size := 2 },
  { index := 0x3012, units := 32, stride := 0x20, subLo := 0x1, subHi := 0x1, type := .u16, access := .rw, cls := .live, size := 2, kind := (.event 65 true) },
  { index := 0x3012, units := 32, stride := 0x20, subLo := 0x2, subHi := 0x2, type := .u16, access := .rw, cls := .live, size := 2, deflt := [1849], kind := .enable },
  { index := 0x3013, units := 32, stride := 0x20, subLo := 0x1, subHi := 0x1, type := .u32, access := .ro, size := 4, kind := (.counter 0x3012 0x20 10) },
  { index := 0x3013, units := 32, stride := 0x20, subLo := 0x2, subHi := 0x2, type := .u32, access := .ro, size := 4, kind := (.counter 0x3012 0x20 10) } ]

/-- Every object of this range (R346). -/
def objsRails : List ObjDef := objsRails1 ++ objsRails2 ++ objsRails3

/-- `AUX_STATE`, `AUX_VSET`, `AUX_EN`, `AUX_AUTO`, `AUX_OC_DWELL`, `AUX_V`, `AUX_I`, `AUX_LOSS`, `AUX_EVENT`, `AUX_EVENT_EN`, `AUX_VPRE`. -/
def objsAux : List ObjDef := [
  { index := 0x3400, units := 4, stride := 0x10, type := .u8, access := .ro, size := 1 },
  { index := 0x3401, units := 4, stride := 0x10, subLo := 0x1, subHi := 0x1, type := .u16, access := .rw, cls := .live, size := 2, deflt := [3300], range := .span 800 3300 50 },
  { index := 0x3401, units := 4, stride := 0x10, subLo := 0x2, subHi := 0x2, type := .bool, access := .rw, cls := .live, size := 1 },
  { index := 0x3401, units := 4, stride := 0x10, subLo := 0x3, subHi := 0x3, type := .bool, access := .rw, cls := .boot, size := 1 },
  { index := 0x3401, units := 4, stride := 0x10, subLo := 0x4, subHi := 0x4, type := .u16, access := .rw, cls := .staged, size := 2, deflt := [10], range := .span 1 100 1, protective := .lower },
  { index := 0x3402, units := 4, stride := 0x10, subLo := 0x1, subHi := 0x1, type := .u16, access := .ro, size := 2 },
  { index := 0x3402, units := 4, stride := 0x10, subLo := 0x2, subHi := 0x2, type := .i32, access := .ro, size := 4 },
  { index := 0x3402, units := 4, stride := 0x10, subLo := 0x3, subHi := 0x3, type := .i32, access := .ro, size := 4 },
  { index := 0x3403, units := 4, stride := 0x10, subLo := 0x1, subHi := 0x1, type := .u16, access := .rw, cls := .live, size := 2, kind := (.event 97 true) },
  { index := 0x3403, units := 4, stride := 0x10, subLo := 0x2, subHi := 0x2, type := .u16, access := .rw, cls := .live, size := 2, deflt := [30], kind := .enable },
  { index := 0x3440, type := .u16, access := .ro, size := 2 } ]

/-- `PH_TYPE`, `PH_STATE`, `PH_RAIL`, `PH_ROLE`, `PH_SLOT`, `PH_ISO_REASON`, `PH_ISO_AT`, `PH_CLEAR_ISO`, `PH_ISOLATE`, `PH_STATUS`, `PH_FSW`, `PH_COMP_KP`, `PH_COMP_KI`, `PH_COMP_KD`, `PH_COMP_DFILT`, `PH_COMP_IMAX`. -/
def objsPhases1 : List ObjDef := [
  { index := 0x3800, units := 56, stride := 0x20, type := .u8, access := .const, size := 1 },
  { index := 0x3801, units := 56, stride := 0x20, type := .u8, access := .ro, size := 1 },
  { index := 0x3802, units := 56, stride := 0x20, subLo := 0x1, subHi := 0x1, type := .u8, access := .ro, size := 1, deflt := [255] },
  { index := 0x3802, units := 56, stride := 0x20, subLo := 0x2, subHi := 0x2, type := .u8, access := .ro, size := 1 },
  { index := 0x3802, units := 56, stride := 0x20, subLo := 0x3, subHi := 0x3, type := .u16, access := .ro, size := 2 },
  { index := 0x3803, units := 56, stride := 0x20, subLo := 0x1, subHi := 0x1, type := .u8, access := .ro, size := 1 },
  { index := 0x3803, units := 56, stride := 0x20, subLo := 0x2, subHi := 0x2, type := .u64, access := .ro, size := 8 },
  { index := 0x3803, units := 56, stride := 0x20, subLo := 0x3, subHi := 0x3, type := .u8, access := .wo, cls := .live, size := 1, role := .hostOrInstaller },
  { index := 0x3803, units := 56, stride := 0x20, subLo := 0x4, subHi := 0x4, type := .u8, access := .wo, cls := .live, size := 1, role := .hostOrInstaller },
  { index := 0x3804, units := 56, stride := 0x20, type := .u16, access := .ro, size := 2 },
  { index := 0x3808, units := 56, stride := 0x20, type := .u16, access := .rw, cls := .staged, size := 2, deflt := [800], range := .span 250 2000 50 },
  { index := 0x3809, units := 56, stride := 0x20, subLo := 0x1, subHi := 0x1, type := .u16, access := .rw, cls := .staged, size := 2, deflt := [6912, 1024], split := .stage },
  { index := 0x3809, units := 56, stride := 0x20, subLo := 0x2, subHi := 0x2, type := .u16, access := .rw, cls := .staged, size := 2, deflt := [160, 24], split := .stage },
  { index := 0x3809, units := 56, stride := 0x20, subLo := 0x3, subHi := 0x3, type := .u16, access := .rw, cls := .staged, size := 2, deflt := [24576, 4096], split := .stage },
  { index := 0x3809, units := 56, stride := 0x20, subLo := 0x4, subHi := 0x4, type := .u16, access := .rw, cls := .staged, size := 2, deflt := [20000], range := .span 1 65535 1 },
  { index := 0x3809, units := 56, stride := 0x20, subLo := 0x5, subHi := 0x5, type := .u16, access := .rw, cls := .staged, size := 2, deflt := [6554, 16384], split := .stage } ]

/-- `PH_TRIM_GAIN`, `PH_TRIM_LIMIT`, `PH_TRIM`, `PH_ILIM_PEAK`, `PH_ILIM_AVG`, `PH_SHED_EN`, `PH_SHED_LO`, `PH_SHED_HI`, `PH_SHED_DWELL`, `PH_SHED_SCALE`, `PH_OPEN_MIN`, `PH_I`, `PH_I_PEAK`, `PH_DUTY`, `PH_VCF`, `PH_VBUS`. -/
def objsPhases2 : List ObjDef := [
  { index := 0x380A, units := 56, stride := 0x20, subLo := 0x1, subHi := 0x1, type := .u16, access := .rw, cls := .staged, size := 2, deflt := [154], range := .span 1 2048 1 },
  { index := 0x380A, units := 56, stride := 0x20, subLo := 0x2, subHi := 0x2, type := .u16, access := .rw, cls := .staged, size := 2, deflt := [614], range := .span 41 1024 1 },
  { index := 0x380A, units := 56, stride := 0x20, subLo := 0x3, subHi := 0x3, type := .i16, access := .ro, size := 2 },
  { index := 0x380B, units := 56, stride := 0x20, subLo := 0x1, subHi := 0x1, type := .i32, access := .rw, cls := .staged, size := 4, deflt := [25000, 8000], split := .stage, range := .span 5000 25000 1, range2 := .span 1000 8000 1, protective := .lower },
  { index := 0x380B, units := 56, stride := 0x20, subLo := 0x2, subHi := 0x2, type := .i32, access := .rw, cls := .staged, size := 4, deflt := [15000, 6000], split := .stage, range := .span 1000 15000 1, range2 := .span 500 6000 1, protective := .lower },
  { index := 0x380C, units := 56, stride := 0x20, subLo := 0x1, subHi := 0x1, type := .bool, access := .rw, cls := .live, size := 1, deflt := [1] },
  { index := 0x380C, units := 56, stride := 0x20, subLo := 0x2, subHi := 0x2, type := .i32, access := .rw, cls := .live, size := 4, deflt := [3000, 1000], split := .stage },
  { index := 0x380C, units := 56, stride := 0x20, subLo := 0x3, subHi := 0x3, type := .i32, access := .rw, cls := .live, size := 4, deflt := [6000, 2500], split := .stage },
  { index := 0x380C, units := 56, stride := 0x20, subLo := 0x4, subHi := 0x4, type := .u32, access := .rw, cls := .live, size := 4, deflt := [500], range := .span 50 100000 1 },
  { index := 0x380C, units := 56, stride := 0x20, subLo := 0x5, subHi := 0x5, type := .u16, access := .ro, size := 2, deflt := [1000] },
  { index := 0x380D, units := 56, stride := 0x20, type := .i32, access := .rw, cls := .staged, size := 4, deflt := [1000, 400], split := .stage, range := .span 500 10000 1, range2 := .span 200 4000 1, protective := .lower },
  { index := 0x3810, units := 56, stride := 0x20, subLo := 0x1, subHi := 0x1, type := .i32, access := .ro, size := 4 },
  { index := 0x3810, units := 56, stride := 0x20, subLo := 0x2, subHi := 0x2, type := .i32, access := .ro, size := 4 },
  { index := 0x3810, units := 56, stride := 0x20, subLo := 0x3, subHi := 0x3, type := .u16, access := .ro, size := 2 },
  { index := 0x3810, units := 56, stride := 0x20, subLo := 0x4, subHi := 0x4, type := .u16, access := .ro, size := 2 },
  { index := 0x3810, units := 56, stride := 0x20, subLo := 0x5, subHi := 0x5, type := .u16, access := .ro, size := 2 } ]

/-- `PH_LOSS`, `PH_T_HOT`, `PH_EVENT`, `PH_EVENT_EN`, `PH_SENSE_TESTS`, `PH_SHED_COUNT`, `PH_LIMIT_CYCLES`. -/
def objsPhases3 : List ObjDef := [
  { index := 0x3810, units := 56, stride := 0x20, subLo := 0x6, subHi := 0x6, type := .i32, access := .ro, size := 4 },
  { index := 0x3810, units := 56, stride := 0x20, subLo := 0x7, subHi := 0x7, type := .i16, access := .ro, size := 2 },
  { index := 0x3811, units := 56, stride := 0x20, subLo := 0x1, subHi := 0x1, type := .u16, access := .rw, cls := .live, size := 2, kind := (.event 129 true) },
  { index := 0x3811, units := 56, stride := 0x20, subLo := 0x2, subHi := 0x2, type := .u16, access := .rw, cls := .live, size := 2, deflt := [63], kind := .enable },
  { index := 0x3812, units := 56, stride := 0x20, subLo := 0x1, subHi := 0x1, type := .u16, access := .ro, size := 2, kind := (.counter 0x3811 0x20 9) },
  { index := 0x3812, units := 56, stride := 0x20, subLo := 0x2, subHi := 0x2, type := .u32, access := .ro, size := 4, kind := (.counter 0x3811 0x20 9) },
  { index := 0x3812, units := 56, stride := 0x20, subLo := 0x3, subHi := 0x3, type := .u32, access := .ro, size := 4, kind := (.counter 0x3811 0x20 9) } ]

/-- Every object of this range (R346). -/
def objsPhases : List ObjDef := objsPhases1 ++ objsPhases2 ++ objsPhases3

/-- `PP_STATE`, `PP_STATUS`, `PP_VIN`, `PP_VBAT`, `PP_VBUS`, `PP_T_BAT`, `PP_BAT_STATE`, `PP_VIN_MIN`, `PP_VIN_MAX`, `PP_VIN_LOSS`, `PP_VIN_OV`, `PP_TVINQ`, `PP_SWITCHBACK_SLEW`, `PP_CHEM`, `PP_CELLS`, `PP_CUTOFF_CELL`. -/
def objsPowerPath1 : List ObjDef := [
  { index := 0x4000, type := .u8, access := .ro, size := 1 },
  { index := 0x4001, type := .u16, access := .ro, size := 2 },
  { index := 0x4002, subLo := 0x1, subHi := 0x1, type := .u32, access := .ro, size := 4 },
  { index := 0x4002, subLo := 0x2, subHi := 0x2, type := .u16, access := .ro, size := 2 },
  { index := 0x4002, subLo := 0x3, subHi := 0x3, type := .u16, access := .ro, size := 2 },
  { index := 0x4002, subLo := 0x4, subHi := 0x4, type := .i16, access := .ro, size := 2, deflt := [32768] },
  { index := 0x4002, subLo := 0x5, subHi := 0x5, type := .u8, access := .ro, size := 1 },
  { index := 0x4003, subLo := 0x1, subHi := 0x1, type := .u32, access := .rw, cls := .staged, size := 4, deflt := [36000], range := .span 30000 58000 1, role := .hostOrInstaller },
  { index := 0x4003, subLo := 0x2, subHi := 0x2, type := .u32, access := .rw, cls := .staged, size := 4, deflt := [60000], range := .span 32000 62000 1, role := .hostOrInstaller },
  { index := 0x4003, subLo := 0x3, subHi := 0x3, type := .u32, access := .rw, cls := .staged, size := 4, deflt := [32000], range := .span 11000 57000 1, role := .hostOrInstaller, protective := .higher },
  { index := 0x4003, subLo := 0x4, subHi := 0x4, type := .u32, access := .rw, cls := .staged, size := 4, deflt := [63000], range := .span 33000 66000 1, role := .hostOrInstaller, protective := .lower },
  { index := 0x4003, subLo := 0x5, subHi := 0x5, type := .u16, access := .rw, cls := .live, size := 2, deflt := [50], range := .span 10 10000 1, role := .hostOrInstaller },
  { index := 0x4003, subLo := 0x6, subHi := 0x6, type := .u16, access := .rw, cls := .staged, size := 2, deflt := [5000], range := .span 1000 20000 1, role := .hostOrInstaller },
  { index := 0x4004, subLo := 0x1, subHi := 0x1, type := .u8, access := .rw, cls := .boot, size := 1, range := .span 0 1 1, role := .hostOrInstaller },
  { index := 0x4004, subLo := 0x2, subHi := 0x2, type := .u8, access := .rw, cls := .boot, size := 1, deflt := [7], range := .span 2 8 1, role := .hostOrInstaller },
  { index := 0x4004, subLo := 0x3, subHi := 0x3, type := .u16, access := .rw, cls := .staged, size := 2, deflt := [3000, 2500], split := .chem, range := .span 2700 3400 1, range2 := .span 2300 3000 1, role := .hostOrInstaller } ]

/-- `PP_NTC_R25`, `PP_NTC_BETA`, `PP_LOSS_REASON`, `PP_HANDOVER_COUNT`, `PP_BOUNCE_COUNT`, `PP_HANDOVER_AT`, `PP_EVENT`, `PP_EVENT_EN`. -/
def objsPowerPath2 : List ObjDef := [
  { index := 0x4004, subLo := 0x4, subHi := 0x4, type := .u32, access := .rw, cls := .staged, size := 4, deflt := [10000], range := .span 1000 100000 1, role := .hostOrInstaller },
  { index := 0x4004, subLo := 0x5, subHi := 0x5, type := .u16, access := .rw, cls := .staged, size := 2, deflt := [3435], range := .span 2000 5000 1, role := .hostOrInstaller },
  { index := 0x4005, type := .u8, access := .ro, size := 1 },
  { index := 0x4006, subLo := 0x1, subHi := 0x1, type := .u32, access := .ro, size := 4, kind := (.counter 0x4008 0x0 8) },
  { index := 0x4006, subLo := 0x2, subHi := 0x2, type := .u32, access := .ro, size := 4, kind := (.counter 0x4008 0x0 8) },
  { index := 0x4006, subLo := 0x3, subHi := 0x3, type := .u64, access := .ro, size := 8 },
  { index := 0x4008, subLo := 0x1, subHi := 0x1, type := .u16, access := .rw, cls := .live, size := 2, role := .hostOrInstaller, kind := (.event 8 false) },
  { index := 0x4008, subLo := 0x2, subHi := 0x2, type := .u16, access := .rw, cls := .live, size := 2, deflt := [511], role := .hostOrInstaller, kind := .enable } ]

/-- Every object of this range (R346). -/
def objsPowerPath : List ObjDef := objsPowerPath1 ++ objsPowerPath2

/-- `CHG_STATE`, `CHG_STATUS`, `CHG_FAULT`, `CHG_ZONE`, `CHG_EN`, `CHG_START`, `CHG_ICHG`, `CHG_IPRE`, `CHG_VCELL`, `CHG_VPRE_CELL`, `CHG_ITERM`, `CHG_RECHG_DV`, `CHG_SAFETY_TIME`, `CHG_PRE_TIME`, `CHG_TIMER`, `CHG_WD_TIME`. -/
def objsCharger1 : List ObjDef := [
  { index := 0x4100, type := .u8, access := .ro, size := 1 },
  { index := 0x4101, type := .u16, access := .ro, size := 2 },
  { index := 0x4102, subLo := 0x1, subHi := 0x1, type := .u8, access := .ro, size := 1 },
  { index := 0x4102, subLo := 0x2, subHi := 0x2, type := .u8, access := .ro, size := 1, deflt := [5] },
  { index := 0x4103, subLo := 0x1, subHi := 0x1, type := .bool, access := .rw, cls := .live, size := 1, role := .hostOrInstaller },
  { index := 0x4103, subLo := 0x2, subHi := 0x2, type := .u8, access := .wo, cls := .live, size := 1, role := .hostOrInstaller },
  { index := 0x4104, subLo := 0x1, subHi := 0x1, type := .u16, access := .rw, cls := .live, size := 2, deflt := [2000], range := .span 100 10000 1, role := .hostOrInstaller },
  { index := 0x4104, subLo := 0x2, subHi := 0x2, type := .u16, access := .rw, cls := .live, size := 2, deflt := [200], role := .hostOrInstaller },
  { index := 0x4104, subLo := 0x3, subHi := 0x3, type := .u16, access := .rw, cls := .staged, size := 2, deflt := [4200, 3600], split := .chem, range := .span 4000 4200 1, range2 := .span 3400 3650 1, role := .hostOrInstaller },
  { index := 0x4104, subLo := 0x4, subHi := 0x4, type := .u16, access := .rw, cls := .staged, size := 2, deflt := [3000, 2800], split := .chem, range := .span 2500 3300 1, range2 := .span 2000 3000 1, role := .hostOrInstaller },
  { index := 0x4104, subLo := 0x5, subHi := 0x5, type := .u8, access := .rw, cls := .live, size := 1, deflt := [10], range := .span 5 25 5, role := .hostOrInstaller },
  { index := 0x4104, subLo := 0x6, subHi := 0x6, type := .u16, access := .rw, cls := .live, size := 2, deflt := [100], range := .span 50 300 1, role := .hostOrInstaller },
  { index := 0x4105, subLo := 0x1, subHi := 0x1, type := .u16, access := .rw, cls := .live, size := 2, deflt := [600], range := .span 60 1200 1, role := .hostOrInstaller },
  { index := 0x4105, subLo := 0x2, subHi := 0x2, type := .u16, access := .rw, cls := .live, size := 2, deflt := [60], range := .span 5 240 1, role := .hostOrInstaller },
  { index := 0x4105, subLo := 0x3, subHi := 0x3, type := .u32, access := .ro, size := 4 },
  { index := 0x4105, subLo := 0x4, subHi := 0x4, type := .u16, access := .rw, cls := .live, size := 2, deflt := [60], range := .span 10 300 1, role := .hostOrInstaller } ]

/-- `CHG_WD_KICK`, `CHG_TREG`, `CHG_ZONE_T`, `CHG_ZONE_HYST`, `CHG_ZONE_I`, `CHG_ZONE_DV`, `CHG_RSENSE`, `CHG_FSW`, `CHG_I`, `CHG_ISET`, `CHG_ILIM`, `CHG_VTARGET`, `CHG_CYCLES`, `CHG_WD_EXPIRIES`, `CHG_EVENT`, `CHG_EVENT_EN`. -/
def objsCharger2 : List ObjDef := [
  { index := 0x4105, subLo := 0x5, subHi := 0x5, type := .u8, access := .wo, cls := .live, size := 1, role := .hostOrInstaller },
  { index := 0x4106, type := .i16, access := .rw, cls := .staged, size := 2, deflt := [10000], range := .span 6000 12000 1, role := .hostOrInstaller },
  { index := 0x4107, subLo := 0x1, subHi := 0x4, type := .i16, access := .rw, cls := .staged, size := 2, deflt := [0, 1000, 4500, 5500], range := .span (-4000) 8000 1, role := .hostOrInstaller },
  { index := 0x4107, subLo := 0x5, subHi := 0x5, type := .u16, access := .rw, cls := .staged, size := 2, deflt := [200], range := .span 0 500 1, role := .hostOrInstaller },
  { index := 0x4108, subLo := 0x1, subHi := 0x5, type := .u16, access := .rw, cls := .staged, size := 2, deflt := [0, 500, 1000, 1000, 0], range := .span 0 1000 1, role := .hostOrInstaller },
  { index := 0x4109, subLo := 0x1, subHi := 0x5, type := .u16, access := .rw, cls := .staged, size := 2, deflt := [0, 0, 0, 100, 0], range := .span 0 300 1, role := .hostOrInstaller },
  { index := 0x410A, subLo := 0x1, subHi := 0x1, type := .u16, access := .rw, cls := .boot, size := 2, deflt := [5000], range := .span 1000 20000 1, role := .hostOrInstaller },
  { index := 0x410A, subLo := 0x2, subHi := 0x2, type := .u16, access := .rw, cls := .boot, size := 2, deflt := [300], range := .span 100 600 50, role := .hostOrInstaller },
  { index := 0x410B, subLo := 0x1, subHi := 0x1, type := .i32, access := .ro, size := 4 },
  { index := 0x410B, subLo := 0x2, subHi := 0x2, type := .i32, access := .ro, size := 4 },
  { index := 0x410B, subLo := 0x3, subHi := 0x3, type := .i32, access := .ro, size := 4 },
  { index := 0x410B, subLo := 0x4, subHi := 0x4, type := .u16, access := .ro, size := 2 },
  { index := 0x410C, subLo := 0x1, subHi := 0x1, type := .u32, access := .ro, size := 4, kind := (.counter 0x410D 0x0 11) },
  { index := 0x410C, subLo := 0x2, subHi := 0x2, type := .u32, access := .ro, size := 4, kind := (.counter 0x410D 0x0 11) },
  { index := 0x410D, subLo := 0x1, subHi := 0x1, type := .u16, access := .rw, cls := .live, size := 2, role := .hostOrInstaller, kind := (.event 257 false) },
  { index := 0x410D, subLo := 0x2, subHi := 0x2, type := .u16, access := .rw, cls := .live, size := 2, deflt := [4091], role := .hostOrInstaller, kind := .enable } ]

/-- `CHG_SAFE_ICHG`, `CHG_SAFE_VCELL`. -/
def objsCharger3 : List ObjDef := [
  { index := 0x410E, subLo := 0x1, subHi := 0x1, type := .u16, access := .const, size := 2 },
  { index := 0x410E, subLo := 0x2, subHi := 0x2, type := .u16, access := .const, size := 2 } ]

/-- Every object of this range (R346). -/
def objsCharger : List ObjDef := objsCharger1 ++ objsCharger2 ++ objsCharger3

/-- `EST_STATE`, `EST_STATUS`, `EST_SOC`, `EST_SOC_OCV`, `EST_CONFIDENCE`, `EST_I`, `EST_REMAIN`, `EST_TTE`, `EST_VPOL`, `EST_LAST_ANCHOR`, `EST_DESIGN_CAP`, `EST_CAPACITY`, `EST_CYCLES`, `EST_CYCLE_RESIDUE`, `EST_TAU1`, `EST_TAU2`. -/
def objsEstimator1 : List ObjDef := [
  { index := 0x4200, type := .u8, access := .ro, size := 1 },
  { index := 0x4201, type := .u16, access := .ro, size := 2 },
  { index := 0x4202, subLo := 0x1, subHi := 0x1, type := .u16, access := .ro, size := 2, deflt := [65535] },
  { index := 0x4202, subLo := 0x2, subHi := 0x2, type := .u16, access := .ro, size := 2, deflt := [65535] },
  { index := 0x4202, subLo := 0x3, subHi := 0x3, type := .u16, access := .ro, size := 2 },
  { index := 0x4202, subLo := 0x4, subHi := 0x4, type := .i32, access := .ro, size := 4 },
  { index := 0x4202, subLo := 0x5, subHi := 0x5, type := .u32, access := .ro, size := 4 },
  { index := 0x4202, subLo := 0x6, subHi := 0x6, type := .u32, access := .ro, size := 4, deflt := [0xffffffff] },
  { index := 0x4202, subLo := 0x7, subHi := 0x7, type := .i32, access := .ro, size := 4 },
  { index := 0x4202, subLo := 0x8, subHi := 0x8, type := .u64, access := .ro, size := 8 },
  { index := 0x4203, subLo := 0x1, subHi := 0x1, type := .u32, access := .rw, cls := .boot, size := 4, deflt := [20000], range := .span 1000 200000 1, role := .hostOrInstaller },
  { index := 0x4203, subLo := 0x2, subHi := 0x2, type := .u32, access := .ro, size := 4, deflt := [20000] },
  { index := 0x4203, subLo := 0x3, subHi := 0x3, type := .u32, access := .ro, size := 4, kind := (.counter 0x4210 0x0 9) },
  { index := 0x4203, subLo := 0x4, subHi := 0x4, type := .u32, access := .ro, size := 4 },
  { index := 0x4204, subLo := 0x1, subHi := 0x1, type := .u32, access := .rw, cls := .staged, size := 4, deflt := [10000], range := .span 500 100000 1, role := .hostOrInstaller },
  { index := 0x4204, subLo := 0x2, subHi := 0x2, type := .u32, access := .rw, cls := .staged, size := 4, deflt := [400000], range := .span 20000 3600000 1, role := .hostOrInstaller } ]

/-- `EST_R0_DEF`, `EST_R1_DEF`, `EST_R2_DEF`, `EST_PATH_R`, `EST_I_SIGMA`, `EST_I_FLOOR`, `EST_V_SIGMA`, `EST_OCV_SRC`, `EST_OCV`, `EST_FREST_EN`, `EST_FREST_AFTER`, `EST_FREST_LEN`, `EST_FREST_ABORT`, `EST_SWAP_KEEP`, `EST_BID`, `EST_BID_REF`. -/
def objsEstimator2 : List ObjDef := [
  { index := 0x4204, subLo := 0x3, subHi := 0x3, type := .u16, access := .rw, cls := .boot, size := 2, deflt := [800], range := .span 10 60000 1, role := .hostOrInstaller },
  { index := 0x4204, subLo := 0x4, subHi := 0x4, type := .u16, access := .rw, cls := .boot, size := 2, deflt := [400], range := .span 10 60000 1, role := .hostOrInstaller },
  { index := 0x4204, subLo := 0x5, subHi := 0x5, type := .u16, access := .rw, cls := .boot, size := 2, deflt := [300], range := .span 10 60000 1, role := .hostOrInstaller },
  { index := 0x4204, subLo := 0x6, subHi := 0x6, type := .u16, access := .rw, cls := .staged, size := 2, deflt := [50], range := .span 0 1000 1, role := .hostOrInstaller },
  { index := 0x4205, subLo := 0x1, subHi := 0x1, type := .u16, access := .rw, cls := .staged, size := 2, deflt := [20], range := .span 0 200 1, role := .hostOrInstaller },
  { index := 0x4205, subLo := 0x2, subHi := 0x2, type := .u16, access := .rw, cls := .staged, size := 2, deflt := [50], range := .span 0 2000 1, role := .hostOrInstaller },
  { index := 0x4205, subLo := 0x3, subHi := 0x3, type := .u16, access := .rw, cls := .staged, size := 2, deflt := [20], range := .span 1 500 1, role := .hostOrInstaller },
  { index := 0x4205, subLo := 0x4, subHi := 0x4, type := .u8, access := .rw, cls := .boot, size := 1, range := .span 0 1 1, role := .hostOrInstaller },
  { index := 0x4206, subLo := 0x1, subHi := 0x15, type := .u16, access := .rw, cls := .boot, size := 2, deflt := [(-1)], role := .hostOrInstaller },
  { index := 0x4207, subLo := 0x1, subHi := 0x1, type := .bool, access := .rw, cls := .live, size := 1, role := .hostOrInstaller },
  { index := 0x4207, subLo := 0x2, subHi := 0x2, type := .u16, access := .rw, cls := .live, size := 2, deflt := [48], range := .span 1 72 1, role := .hostOrInstaller },
  { index := 0x4207, subLo := 0x3, subHi := 0x3, type := .u16, access := .rw, cls := .live, size := 2, deflt := [30], range := .span 25 120 1, role := .hostOrInstaller },
  { index := 0x4207, subLo := 0x4, subHi := 0x4, type := .u8, access := .wo, cls := .live, size := 1, role := .hostOrInstaller },
  { index := 0x4208, subLo := 0x1, subHi := 0x1, type := .bool, access := .rw, cls := .staged, size := 1, role := .hostOrInstaller },
  { index := 0x4208, subLo := 0x2, subHi := 0x2, type := .u32, access := .ro, size := 4 },
  { index := 0x4208, subLo := 0x3, subHi := 0x3, type := .u32, access := .ro, size := 4 } ]

/-- `EST_SOC_ALARM`, `EST_IMP_ROW`, `EST_LEARN_RESET`, `EST_EVENT`, `EST_EVENT_EN`, `EST_ANCHOR_COUNT`, `EST_SWAP_COUNT`. -/
def objsEstimator3 : List ObjDef := [
  { index := 0x4209, type := .u16, access := .rw, cls := .live, size := 2, deflt := [1000], range := .span 0 5000 1, role := .hostOrInstaller },
  { index := 0x420A, subLo := 0x1, subHi := 0xC, type := .domain, access := .rw, cls := .live, size := 48, role := .hostOrInstaller },
  { index := 0x420B, type := .u8, access := .wo, cls := .live, size := 1, role := .hostOrInstaller },
  { index := 0x4210, subLo := 0x1, subHi := 0x1, type := .u16, access := .rw, cls := .live, size := 2, role := .hostOrInstaller, kind := (.event 273 false) },
  { index := 0x4210, subLo := 0x2, subHi := 0x2, type := .u16, access := .rw, cls := .live, size := 2, deflt := [1014], role := .hostOrInstaller, kind := .enable },
  { index := 0x4211, subLo := 0x1, subHi := 0x1, type := .u32, access := .ro, size := 4, kind := (.counter 0x4210 0x0 9) },
  { index := 0x4211, subLo := 0x2, subHi := 0x2, type := .u32, access := .ro, size := 4, kind := (.counter 0x4210 0x0 9) } ]

/-- Every object of this range (R346). -/
def objsEstimator : List ObjDef := objsEstimator1 ++ objsEstimator2 ++ objsEstimator3

/-- `SIR_STATUS`, `SIR_T_WARN`, `SIR_T_SHUT`, `SIR_OPEN_LOOP_MARGIN`, `SIR_REF_GAIN`, `SIR_LANTERN_R`, `SIR_LANTERN_TAU`, `SIR_KEEPER_R`, `SIR_KEEPER_TAU`, `SIR_HS_R_LV`, `SIR_HS_TAU_LV`, `SIR_HS_R_BUS`, `SIR_HS_TAU_BUS`, `SIR_COUPLING`, `SIR_SENSOR_RESET`, `SIR_EVENT`. -/
def objsSirocco1 : List ObjDef := [
  { index := 0x5000, type := .u16, access := .ro, size := 2 },
  { index := 0x5001, subLo := 0x1, subHi := 0x1, type := .i16, access := .rw, cls := .staged, size := 2, deflt := [11500], range := .span 6000 13500 1, role := .hostOrInstaller, protective := .lower },
  { index := 0x5001, subLo := 0x2, subHi := 0x2, type := .i16, access := .rw, cls := .staged, size := 2, deflt := [13000], range := .span 6200 14000 1, role := .hostOrInstaller, protective := .lower },
  { index := 0x5001, subLo := 0x3, subHi := 0x3, type := .u16, access := .rw, cls := .staged, size := 2, deflt := [1000], range := .span 0 3000 1, role := .hostOrInstaller },
  { index := 0x5002, type := .u16, access := .rw, cls := .live, size := 2, deflt := [20], range := .span 1 500 1, role := .hostOrInstaller },
  { index := 0x5010, subLo := 0x1, subHi := 0x4, type := .u32, access := .rw, cls := .staged, size := 4, deflt := [1500, 3000, 4000, 6000], range := .span 100 50000 1, role := .hostOrInstaller },
  { index := 0x5011, subLo := 0x1, subHi := 0x4, type := .u32, access := .rw, cls := .staged, size := 4, deflt := [800, 15000, 400000, 8000000], range := .span 20 100000000 1, role := .hostOrInstaller },
  { index := 0x5012, subLo := 0x1, subHi := 0x4, type := .u32, access := .rw, cls := .staged, size := 4, deflt := [2000, 4000, 6000, 8000], range := .span 100 50000 1, role := .hostOrInstaller },
  { index := 0x5013, subLo := 0x1, subHi := 0x4, type := .u32, access := .rw, cls := .staged, size := 4, deflt := [800, 15000, 400000, 8000000], range := .span 20 100000000 1, role := .hostOrInstaller },
  { index := 0x5014, subLo := 0x1, subHi := 0x1, type := .u32, access := .rw, cls := .staged, size := 4, deflt := [8000], range := .span 0 50000 1, role := .hostOrInstaller },
  { index := 0x5014, subLo := 0x2, subHi := 0x2, type := .u32, access := .rw, cls := .staged, size := 4, deflt := [200], range := .span 20 100000 1, role := .hostOrInstaller },
  { index := 0x5014, subLo := 0x3, subHi := 0x3, type := .u32, access := .rw, cls := .staged, size := 4, deflt := [10000], range := .span 0 50000 1, role := .hostOrInstaller },
  { index := 0x5014, subLo := 0x4, subHi := 0x4, type := .u32, access := .rw, cls := .staged, size := 4, deflt := [300], range := .span 20 100000 1, role := .hostOrInstaller },
  { index := 0x5014, subLo := 0x5, subHi := 0x5, type := .u16, access := .rw, cls := .staged, size := 2, deflt := [250], range := .span 0 1000 1, role := .hostOrInstaller },
  { index := 0x5020, type := .u8, access := .wo, cls := .live, size := 1, role := .hostOrInstaller },
  { index := 0x5030, subLo := 0x1, subHi := 0x1, type := .u16, access := .rw, cls := .live, size := 2, role := .hostOrInstaller, kind := (.event 193 false) } ]

/-- `SIR_EVENT_EN`, `SIR_EVENT_TILES`, `SIR_BROKEN_COUNT`, `SIR_T_MAX`, `SIR_T_J`, `SIR_T_REF`, `SIR_SENSOR`, `SIR_SENSOR_MODEL`, `SIR_SENSOR_STATE`, `SIR_RATE`, `SIR_RESIDUAL`. -/
def objsSirocco2 : List ObjDef := [
  { index := 0x5030, subLo := 0x2, subHi := 0x2, type := .u16, access := .rw, cls := .live, size := 2, deflt := [497], role := .hostOrInstaller, kind := .enable },
  { index := 0x5030, subLo := 0x3, subHi := 0x3, type := .u8, access := .rw, cls := .live, size := 1, role := .hostOrInstaller },
  { index := 0x5031, type := .u16, access := .ro, size := 2, kind := (.counter 0x5030 0x0 8) },
  { index := 0x5100, units := 8, stride := 0x10, type := .i16, access := .ro, size := 2 },
  { index := 0x5101, units := 8, stride := 0x10, type := .i16, access := .ro, size := 2 },
  { index := 0x5102, units := 8, stride := 0x10, type := .i16, access := .ro, size := 2 },
  { index := 0x5103, units := 8, stride := 0x10, subLo := 0x1, subHi := 0x4, type := .i16, access := .ro, size := 2, deflt := [32768] },
  { index := 0x5104, units := 8, stride := 0x10, subLo := 0x1, subHi := 0x4, type := .i16, access := .ro, size := 2, deflt := [32768] },
  { index := 0x5105, units := 8, stride := 0x10, subLo := 0x1, subHi := 0x4, type := .u8, access := .ro, size := 1 },
  { index := 0x5106, units := 8, stride := 0x10, type := .u8, access := .ro, size := 1 },
  { index := 0x5107, units := 8, stride := 0x10, type := .i16, access := .ro, size := 2 } ]

/-- Every object of this range (R346). -/
def objsSirocco : List ObjDef := objsSirocco1 ++ objsSirocco2

/-- `MET_STATUS`, `MET_MCLK_DIV`, `MET_SAMPLE_DELAY0`, `MET_SAMPLE_DELAY1`, `MET_E_CLEAR`, `MET_EVENT`, `MET_EVENT_EN`, `MET_VERSION`. -/
def objsMetrology : List ObjDef := [
  { index := 0x6000, type := .u16, access := .ro, size := 2 },
  { index := 0x6001, subLo := 0x1, subHi := 0x1, type := .u8, access := .rw, cls := .sealed, size := 1, deflt := [12], range := .span 10 25 1, keep := true },
  { index := 0x6001, subLo := 0x2, subHi := 0x2, type := .u8, access := .rw, cls := .sealed, size := 1, deflt := [6], keep := true },
  { index := 0x6001, subLo := 0x3, subHi := 0x3, type := .u8, access := .rw, cls := .sealed, size := 1, deflt := [6], keep := true },
  { index := 0x6002, type := .u8, access := .wo, cls := .live, size := 1 },
  { index := 0x6003, subLo := 0x1, subHi := 0x1, type := .u16, access := .rw, cls := .live, size := 2, kind := (.event 293 true) },
  { index := 0x6003, subLo := 0x2, subHi := 0x2, type := .u16, access := .rw, cls := .live, size := 2, deflt := [3], kind := .enable },
  { index := 0x6004, type := .u32, access := .const, size := 4 } ]

/-- `MP_EN`, `MP_V_GAIN`, `MP_V_OFFSET`, `MP_I_GAIN`, `MP_I_OFFSET`, `MP_CREEP_I`, `MP_CAL_REV`, `MP_V_RAW`, `MP_I_RAW`, `MP_V`, `MP_I`, `MP_P`, `MP_E_EXPORT`, `MP_E_IMPORT`, `MP_INPUT`, `MP_SESS_STATE`. -/
def objsPoints1 : List ObjDef := [
  { index := 0x6100, units := 4, stride := 0x100, type := .bool, access := .rw, cls := .sealed, size := 1, keep := true },
  { index := 0x6101, units := 4, stride := 0x100, subLo := 0x1, subHi := 0x1, type := .u32, access := .rw, cls := .sealed, size := 4, keep := true },
  { index := 0x6101, units := 4, stride := 0x100, subLo := 0x2, subHi := 0x2, type := .i32, access := .rw, cls := .sealed, size := 4, range := .span (-1048576) 1048576 1, keep := true },
  { index := 0x6101, units := 4, stride := 0x100, subLo := 0x3, subHi := 0x3, type := .u32, access := .rw, cls := .sealed, size := 4, keep := true },
  { index := 0x6101, units := 4, stride := 0x100, subLo := 0x4, subHi := 0x4, type := .i32, access := .rw, cls := .sealed, size := 4, range := .span (-1048576) 1048576 1, keep := true },
  { index := 0x6101, units := 4, stride := 0x100, subLo := 0x5, subHi := 0x5, type := .u32, access := .rw, cls := .sealed, size := 4, range := .span 0 10000 1, keep := true },
  { index := 0x6101, units := 4, stride := 0x100, subLo := 0x6, subHi := 0x6, type := .u32, access := .ro, size := 4, keep := true },
  { index := 0x6102, units := 4, stride := 0x100, subLo := 0x1, subHi := 0x1, type := .i32, access := .ro, size := 4 },
  { index := 0x6102, units := 4, stride := 0x100, subLo := 0x2, subHi := 0x2, type := .i32, access := .ro, size := 4 },
  { index := 0x6103, units := 4, stride := 0x100, subLo := 0x1, subHi := 0x1, type := .i32, access := .ro, size := 4 },
  { index := 0x6103, units := 4, stride := 0x100, subLo := 0x2, subHi := 0x2, type := .i32, access := .ro, size := 4 },
  { index := 0x6103, units := 4, stride := 0x100, subLo := 0x3, subHi := 0x3, type := .i32, access := .ro, size := 4 },
  { index := 0x6104, units := 4, stride := 0x100, subLo := 0x1, subHi := 0x1, type := .u64, access := .ro, size := 8 },
  { index := 0x6104, units := 4, stride := 0x100, subLo := 0x2, subHi := 0x2, type := .u64, access := .ro, size := 8 },
  { index := 0x6105, units := 4, stride := 0x100, type := .u8, access := .ro, size := 1, deflt := [16] },
  { index := 0x6110, units := 4, stride := 0x100, type := .u8, access := .ro, size := 1 } ]

/-- `MP_SESS_CMD`, `MP_SESS_TAG`, `MP_SESS_RESULT`, `MP_SESS_ID`, `MP_SESS_REF`, `MP_SESS_START_SEQ`, `MP_SESS_E_EXPORT`, `MP_SESS_E_IMPORT`, `MP_SESS_END_SEQ`, `MP_EVENT`, `MP_EVENT_EN`, `MP_SESSION_COUNT`, `MP_OVERRANGE_COUNT`. -/
def objsPoints2 : List ObjDef := [
  { index := 0x6111, units := 4, stride := 0x100, subLo := 0x1, subHi := 0x1, type := .u8, access := .wo, cls := .live, size := 1, role := .hostOrInstaller },
  { index := 0x6111, units := 4, stride := 0x100, subLo := 0x2, subHi := 0x2, type := .u8, access := .ro, size := 1, deflt := [255] },
  { index := 0x6111, units := 4, stride := 0x100, subLo := 0x3, subHi := 0x3, type := .u8, access := .ro, size := 1 },
  { index := 0x6111, units := 4, stride := 0x100, subLo := 0x4, subHi := 0x4, type := .domain, access := .rw, cls := .live, size := 16, role := .hostOrInstaller },
  { index := 0x6111, units := 4, stride := 0x100, subLo := 0x5, subHi := 0x5, type := .u32, access := .rw, cls := .live, size := 4, role := .hostOrInstaller },
  { index := 0x6112, units := 4, stride := 0x100, subLo := 0x1, subHi := 0x1, type := .u64, access := .ro, size := 8 },
  { index := 0x6112, units := 4, stride := 0x100, subLo := 0x2, subHi := 0x2, type := .u64, access := .ro, size := 8 },
  { index := 0x6112, units := 4, stride := 0x100, subLo := 0x3, subHi := 0x3, type := .u64, access := .ro, size := 8 },
  { index := 0x6112, units := 4, stride := 0x100, subLo := 0x4, subHi := 0x4, type := .u64, access := .ro, size := 8 },
  { index := 0x6113, units := 4, stride := 0x100, subLo := 0x1, subHi := 0x1, type := .u16, access := .rw, cls := .live, size := 2, kind := (.event 289 true) },
  { index := 0x6113, units := 4, stride := 0x100, subLo := 0x2, subHi := 0x2, type := .u16, access := .rw, cls := .live, size := 2, deflt := [159], kind := .enable },
  { index := 0x6114, units := 4, stride := 0x100, subLo := 0x1, subHi := 0x1, type := .u32, access := .ro, size := 4, kind := (.counter 0x6113 0x100 7) },
  { index := 0x6114, units := 4, stride := 0x100, subLo := 0x2, subHi := 0x2, type := .u32, access := .ro, size := 4, kind := (.counter 0x6113 0x100 7) } ]

/-- Every object of this range (R346). -/
def objsPoints : List ObjDef := objsPoints1 ++ objsPoints2

/-- `JNL_STATUS`, `JNL_NEXT_SEQ`, `JNL_ACK`, `JNL_FREE`, `JNL_OLDEST_SEQ`, `JNL_EVENT_RESERVE`, `JNL_WARN_LEVEL`, `JNL_READ_SEQ`, `JNL_READ_REC`, `JNL_READ_BLOCK`, `JNL_PUBKEY`, `JNL_INIT`, `JNL_EVENT`, `JNL_EVENT_EN`, `JNL_EVENTS_LOST`, `JNL_TORN_COUNT`. -/
def objsJournal : List ObjDef := [
  { index := 0x6800, type := .u16, access := .ro, size := 2 },
  { index := 0x6801, subLo := 0x1, subHi := 0x1, type := .u64, access := .ro, size := 8, deflt := [1] },
  { index := 0x6801, subLo := 0x2, subHi := 0x2, type := .u64, access := .rw, cls := .live, size := 8, role := .hostOrInstaller },
  { index := 0x6801, subLo := 0x3, subHi := 0x3, type := .u16, access := .ro, size := 2, deflt := [16384] },
  { index := 0x6801, subLo := 0x4, subHi := 0x4, type := .u64, access := .ro, size := 8, deflt := [1] },
  { index := 0x6801, subLo := 0x5, subHi := 0x5, type := .u16, access := .rw, cls := .sealed, size := 2, deflt := [64], range := .span 16 1024 1, keep := true },
  { index := 0x6801, subLo := 0x6, subHi := 0x6, type := .u16, access := .rw, cls := .live, size := 2, deflt := [12288], range := .span 1024 16000 1 },
  { index := 0x6802, subLo := 0x1, subHi := 0x1, type := .u64, access := .rw, cls := .live, size := 8, deflt := [1] },
  { index := 0x6802, subLo := 0x2, subHi := 0x2, type := .domain, access := .ro, size := 96 },
  { index := 0x6802, subLo := 0x3, subHi := 0x3, type := .domain, access := .ro, size := 1536, minSize := 96 },
  { index := 0x6803, type := .domain, access := .const, size := 64 },
  { index := 0x6804, type := .u8, access := .wo, cls := .live, size := 1 },
  { index := 0x6805, subLo := 0x1, subHi := 0x1, type := .u16, access := .rw, cls := .live, size := 2, kind := (.event 305 false) },
  { index := 0x6805, subLo := 0x2, subHi := 0x2, type := .u16, access := .rw, cls := .live, size := 2, deflt := [447], kind := .enable },
  { index := 0x6806, subLo := 0x1, subHi := 0x1, type := .u32, access := .ro, size := 4, kind := (.counter 0x6805 0x0 8) },
  { index := 0x6806, subLo := 0x2, subHi := 0x2, type := .u32, access := .ro, size := 4, kind := (.counter 0x6805 0x0 8) } ]

/-- `RTC_STATUS`, `RTC_VALID`, `RTC_NOW`, `RTC_SECONDS`, `RTC_SET_SECONDS`, `RTC_ADJUST`, `RTC_CAL`, `RTC_SET_RESULT`, `CAL_NOW`, `CAL_SET`, `RTC_ALARM`, `RTC_ALARM_PERIOD`, `OASIS_RETAIN`, `OASIS_SUPPLY`, `OASIS_VCELL`, `OASIS_VBK`. -/
def objsOasis1 : List ObjDef := [
  { index := 0x7000, type := .u16, access := .ro, size := 2 },
  { index := 0x7001, type := .bool, access := .ro, size := 1 },
  { index := 0x7002, subLo := 0x1, subHi := 0x1, type := .u64, access := .ro, size := 8 },
  { index := 0x7002, subLo := 0x2, subHi := 0x2, type := .u64, access := .ro, size := 8 },
  { index := 0x7002, subLo := 0x3, subHi := 0x3, type := .u64, access := .wo, cls := .live, size := 8, role := .hostOrInstaller },
  { index := 0x7002, subLo := 0x4, subHi := 0x4, type := .i32, access := .wo, cls := .live, size := 4, role := .hostOrInstaller },
  { index := 0x7002, subLo := 0x5, subHi := 0x5, type := .i16, access := .rw, cls := .live, size := 2, range := .span (-16384) 16383 1, role := .hostOrInstaller, keep := true },
  { index := 0x7002, subLo := 0x6, subHi := 0x6, type := .u8, access := .ro, size := 1 },
  { index := 0x7003, subLo := 0x1, subHi := 0x1, type := .u64, access := .ro, size := 8 },
  { index := 0x7003, subLo := 0x2, subHi := 0x2, type := .u64, access := .wo, cls := .live, size := 8, role := .hostOrInstaller },
  { index := 0x7004, subLo := 0x1, subHi := 0x1, type := .u64, access := .rw, cls := .live, size := 8, role := .hostOrInstaller, keep := true },
  { index := 0x7004, subLo := 0x2, subHi := 0x2, type := .u32, access := .rw, cls := .live, size := 4, role := .hostOrInstaller, keep := true },
  { index := 0x7010, type := .domain, access := .rw, cls := .live, size := 32, role := .hostOrInstaller, keep := true },
  { index := 0x7011, subLo := 0x1, subHi := 0x1, type := .u8, access := .ro, size := 1 },
  { index := 0x7011, subLo := 0x2, subHi := 0x2, type := .u16, access := .ro, size := 2 },
  { index := 0x7011, subLo := 0x3, subHi := 0x3, type := .u16, access := .ro, size := 2 } ]

/-- `OASIS_CELL_LOW`, `OASIS_SWITCHES`, `TAMPER_CFG`, `TAMPER_AT`, `TAMPER_COUNT`, `TAMPER_CLEAR`, `RTC_EVENT`, `RTC_EVENT_EN`. -/
def objsOasis2 : List ObjDef := [
  { index := 0x7011, subLo := 0x4, subHi := 0x4, type := .u16, access := .rw, cls := .live, size := 2, deflt := [2500], range := .span 1800 3300 1, role := .hostOrInstaller },
  { index := 0x7011, subLo := 0x5, subHi := 0x5, type := .u32, access := .ro, size := 4, kind := (.counter 0x7030 0x0 11) },
  { index := 0x7020, subLo := 0x1, subHi := 0x1, type := .u8, access := .rw, cls := .live, size := 1, deflt := [8], range := .span 0 31 1, role := .hostOrInstaller, keep := true },
  { index := 0x7020, subLo := 0x2, subHi := 0x2, type := .u64, access := .ro, size := 8, keep := true },
  { index := 0x7020, subLo := 0x3, subHi := 0x3, type := .u16, access := .ro, size := 2, kind := (.counter 0x7030 0x0 11), keep := true },
  { index := 0x7020, subLo := 0x4, subHi := 0x4, type := .u8, access := .wo, cls := .live, size := 1, role := .hostOrInstaller },
  { index := 0x7030, subLo := 0x1, subHi := 0x1, type := .u16, access := .rw, cls := .live, size := 2, role := .hostOrInstaller, kind := (.event 401 false) },
  { index := 0x7030, subLo := 0x2, subHi := 0x2, type := .u16, access := .rw, cls := .live, size := 2, deflt := [3837], role := .hostOrInstaller, kind := .enable } ]

/-- Every object of this range (R346). -/
def objsOasis : List ObjDef := objsOasis1 ++ objsOasis2

/-- `MRAM_PART_BASE`, `MRAM_PART_SIZE`, `MRAM_PART_FLAGS`, `MRAM_RAW_PART`, `MRAM_RAW_OFFSET`, `MRAM_RAW_DATA`, `MRAM_PW_PRESENT`, `MRAM_PW_SET`, `MRAM_PW_LOCK`, `MRAM_PW_RESET`, `MRAM_PW_LOCK_LEFT`, `MRAM_SCRUB_PERIOD`, `MRAM_SCRUB_POS`, `MRAM_CORRECTED`, `MRAM_UNCORRECTABLE`, `MRAM_WEAK_REWRITES`. -/
def objsMram1 : List ObjDef := [
  { index := 0x7100, subLo := 0x1, subHi := 0x9, type := .u32, access := .const, size := 4 },
  { index := 0x7101, subLo := 0x1, subHi := 0x9, type := .u32, access := .const, size := 4 },
  { index := 0x7102, subLo := 0x1, subHi := 0x9, type := .u8, access := .ro, size := 1 },
  { index := 0x7110, subLo := 0x1, subHi := 0x1, type := .u8, access := .rw, cls := .live, size := 1, deflt := [6], range := .span 0 8 1, role := .hostOrInstaller },
  { index := 0x7110, subLo := 0x2, subHi := 0x2, type := .u32, access := .rw, cls := .live, size := 4, role := .hostOrInstaller },
  { index := 0x7110, subLo := 0x3, subHi := 0x3, type := .domain, access := .rw, cls := .live, size := 256, minSize := 1, role := .hostOrInstaller },
  { index := 0x7111, subLo := 0x1, subHi := 0x1, type := .domain, access := .wo, cls := .live, size := 34, minSize := 10, role := .hostOrInstaller },
  { index := 0x7111, subLo := 0x2, subHi := 0x2, type := .domain, access := .wo, cls := .live, size := 34, minSize := 2, role := .hostOrInstaller },
  { index := 0x7111, subLo := 0x3, subHi := 0x3, type := .u8, access := .wo, cls := .live, size := 1, role := .hostOrInstaller },
  { index := 0x7111, subLo := 0x4, subHi := 0x4, type := .u8, access := .wo, cls := .live, size := 1, role := .hostOrInstaller },
  { index := 0x7111, subLo := 0x5, subHi := 0x5, type := .u32, access := .ro, size := 4 },
  { index := 0x7112, subLo := 0x1, subHi := 0x1, type := .u16, access := .rw, cls := .live, size := 2, deflt := [24], range := .span 1 168 1, role := .hostOrInstaller },
  { index := 0x7112, subLo := 0x2, subHi := 0x2, type := .u32, access := .ro, size := 4 },
  { index := 0x7113, subLo := 0x1, subHi := 0x1, type := .u32, access := .ro, size := 4, kind := (.counter 0x7115 0x0 6) },
  { index := 0x7113, subLo := 0x2, subHi := 0x2, type := .u32, access := .ro, size := 4, kind := (.counter 0x7115 0x0 6) },
  { index := 0x7113, subLo := 0x3, subHi := 0x3, type := .u32, access := .ro, size := 4, kind := (.counter 0x7115 0x0 6) } ]

/-- `MRAM_SCRUB_PASSES`, `MRAM_PW_FAILURES`, `MRAM_LAST_UE`, `MRAM_EVENT`, `MRAM_EVENT_EN`. -/
def objsMram2 : List ObjDef := [
  { index := 0x7113, subLo := 0x4, subHi := 0x4, type := .u32, access := .ro, size := 4, kind := (.counter 0x7115 0x0 6) },
  { index := 0x7113, subLo := 0x5, subHi := 0x5, type := .u32, access := .ro, size := 4, kind := (.counter 0x7115 0x0 6) },
  { index := 0x7114, type := .u32, access := .ro, size := 4 },
  { index := 0x7115, subLo := 0x1, subHi := 0x1, type := .u16, access := .rw, cls := .live, size := 2, role := .hostOrInstaller, kind := (.event 353 true) },
  { index := 0x7115, subLo := 0x2, subHi := 0x2, type := .u16, access := .rw, cls := .live, size := 2, deflt := [50], role := .hostOrInstaller, kind := .enable } ]

/-- Every object of this range (R346). -/
def objsMram : List ObjDef := objsMram1 ++ objsMram2

/-- `DMA_CH_STATE`, `DMA_DESC`, `DMA_START`, `DMA_CH_TAG`, `DMA_CH_HALT`, `DMA_CH_CHECK`, `DMA_CH_ELEMENTS`, `DMA_CH_RETRIES`, `DMA_EVENT`, `DMA_EVENT_EN`. -/
def objsDma : List ObjDef := [
  { index := 0x7200, units := 8, stride := 0x10, type := .u8, access := .ro, size := 1 },
  { index := 0x7201, units := 8, stride := 0x10, type := .domain, access := .rw, cls := .live, size := 40, role := .hostOrInstaller },
  { index := 0x7202, units := 8, stride := 0x10, subLo := 0x1, subHi := 0x1, type := .u8, access := .wo, cls := .live, size := 1, role := .hostOrInstaller },
  { index := 0x7202, units := 8, stride := 0x10, subLo := 0x2, subHi := 0x2, type := .u8, access := .ro, size := 1, deflt := [255] },
  { index := 0x7203, units := 8, stride := 0x10, subLo := 0x1, subHi := 0x1, type := .u8, access := .ro, size := 1 },
  { index := 0x7203, units := 8, stride := 0x10, subLo := 0x2, subHi := 0x2, type := .u32, access := .ro, size := 4 },
  { index := 0x7203, units := 8, stride := 0x10, subLo := 0x3, subHi := 0x3, type := .u32, access := .ro, size := 4 },
  { index := 0x7203, units := 8, stride := 0x10, subLo := 0x4, subHi := 0x4, type := .u32, access := .ro, size := 4, kind := (.counter 0x7204 0x10 4) },
  { index := 0x7204, units := 8, stride := 0x10, subLo := 0x1, subHi := 0x1, type := .u16, access := .rw, cls := .live, size := 2, role := .hostOrInstaller, kind := (.event 369 true) },
  { index := 0x7204, units := 8, stride := 0x10, subLo := 0x2, subHi := 0x2, type := .u16, access := .rw, cls := .live, size := 2, deflt := [11], role := .hostOrInstaller, kind := .enable } ]

/-- `MIR_STATE`, `MIR_STREAM`, `MIR_DECIM`, `MIR_PRE`, `MIR_POST`, `MIR_TRIG_KIND`, `MIR_TRIG_ARG`, `MIR_TRIG_LEVEL`, `MIR_ARM`, `MIR_FRAME_SIZE`, `MIR_CAPACITY`, `MIR_TRIG_AT`, `MIR_FIRST_AT`, `MIR_PRE_VALID`, `MIR_FRAMES`, `MIR_DATA`. -/
def objsMirage1 : List ObjDef := [
  { index := 0x7300, type := .u8, access := .ro, size := 1 },
  { index := 0x7301, subLo := 0x1, subHi := 0x8, type := .u32, access := .rw, cls := .live, size := 4, role := .hostOrInstaller },
  { index := 0x7302, subLo := 0x1, subHi := 0x1, type := .u8, access := .rw, cls := .live, size := 1, range := .span 0 20 1, role := .hostOrInstaller },
  { index := 0x7302, subLo := 0x2, subHi := 0x2, type := .u32, access := .rw, cls := .live, size := 4, role := .hostOrInstaller },
  { index := 0x7302, subLo := 0x3, subHi := 0x3, type := .u32, access := .rw, cls := .live, size := 4, deflt := [1], range := .span 1 0xFFFFFFFF 1, role := .hostOrInstaller },
  { index := 0x7303, subLo := 0x1, subHi := 0x1, type := .u8, access := .rw, cls := .live, size := 1, range := .span 0 6 1, role := .hostOrInstaller },
  { index := 0x7303, subLo := 0x2, subHi := 0x2, type := .u32, access := .rw, cls := .live, size := 4, role := .hostOrInstaller },
  { index := 0x7303, subLo := 0x3, subHi := 0x3, type := .i32, access := .rw, cls := .live, size := 4, role := .hostOrInstaller },
  { index := 0x7304, type := .u8, access := .wo, cls := .live, size := 1, role := .hostOrInstaller },
  { index := 0x7305, subLo := 0x1, subHi := 0x1, type := .u16, access := .ro, size := 2 },
  { index := 0x7305, subLo := 0x2, subHi := 0x2, type := .u32, access := .ro, size := 4 },
  { index := 0x7305, subLo := 0x3, subHi := 0x3, type := .u64, access := .ro, size := 8 },
  { index := 0x7305, subLo := 0x4, subHi := 0x4, type := .u64, access := .ro, size := 8 },
  { index := 0x7305, subLo := 0x5, subHi := 0x5, type := .u32, access := .ro, size := 4 },
  { index := 0x7305, subLo := 0x6, subHi := 0x6, type := .u32, access := .ro, size := 4 },
  { index := 0x7306, type := .domain, access := .ro, size := 262144, minSize := 0 } ]

/-- `MIR_EVENT`, `MIR_EVENT_EN`. -/
def objsMirage2 : List ObjDef := [
  { index := 0x7307, subLo := 0x1, subHi := 0x1, type := .u16, access := .rw, cls := .live, size := 2, role := .hostOrInstaller, kind := (.event 377 true) },
  { index := 0x7307, subLo := 0x2, subHi := 0x2, type := .u16, access := .rw, cls := .live, size := 2, deflt := [3], role := .hostOrInstaller, kind := .enable } ]

/-- Every object of this range (R346). -/
def objsMirage : List ObjDef := objsMirage1 ++ objsMirage2

/-- `OTP_STATUS`, `OTP_ROW`, `OTP_DATA`, `OTP_ROW_STATE`, `OTP_WINDOW`, `OTP_VQPS`, `OTP_REBURN`, `OTP_TAG`, `OTP_RESULT`, `OTP_SPARES_FREE`, `OTP_CORRECTED`, `OTP_UNCORRECTABLE`, `OTP_FIRST_BAD`, `OTP_WEAK_BITS`, `OTP_CFG_REJECTED`. -/
def objsOtp : List ObjDef := [
  { index := 0x7400, type := .u16, access := .ro, size := 2 },
  { index := 0x7401, subLo := 0x1, subHi := 0x1, type := .u16, access := .rw, cls := .live, size := 2, range := .span 0 1023 1, role := .hostOrInstaller },
  { index := 0x7401, subLo := 0x2, subHi := 0x2, type := .u64, access := .rw, cls := .live, size := 8, role := .hostOrInstaller },
  { index := 0x7401, subLo := 0x3, subHi := 0x3, type := .u8, access := .ro, size := 1 },
  { index := 0x7402, subLo := 0x1, subHi := 0x1, type := .u8, access := .wo, cls := .live, size := 1, role := .hostOrInstaller },
  { index := 0x7402, subLo := 0x2, subHi := 0x2, type := .u16, access := .ro, size := 2 },
  { index := 0x7402, subLo := 0x3, subHi := 0x3, type := .u8, access := .wo, cls := .live, size := 1, role := .hostOrInstaller },
  { index := 0x7402, subLo := 0x4, subHi := 0x4, type := .u8, access := .ro, size := 1, deflt := [255] },
  { index := 0x7402, subLo := 0x5, subHi := 0x5, type := .u16, access := .ro, size := 2 },
  { index := 0x7403, subLo := 0x1, subHi := 0x1, type := .u8, access := .ro, size := 1, deflt := [16] },
  { index := 0x7403, subLo := 0x2, subHi := 0x2, type := .u16, access := .ro, size := 2 },
  { index := 0x7403, subLo := 0x3, subHi := 0x3, type := .u16, access := .ro, size := 2 },
  { index := 0x7403, subLo := 0x4, subHi := 0x4, type := .u16, access := .ro, size := 2, deflt := [65535] },
  { index := 0x7403, subLo := 0x5, subHi := 0x5, type := .u32, access := .ro, size := 4, kind := (.counter 0xA030 0x0 10) },
  { index := 0x7403, subLo := 0x6, subHi := 0x6, type := .u16, access := .ro, size := 2 } ]

/-- `BEAM_UP`, `BEAM_KEEPER_VERSIONS`, `TB_NOW`, `TB_SOURCE`, `BEAM_CUT_SEQ`, `BEAM_CUT_AT`, `BEAM_EVENT`, `BEAM_EVENT_EN`, `BEAM_STATE`, `BEAM_VERSION`, `BEAM_TILE_VERSIONS`, `BEAM_TRAIN_RESULT`, `BEAM_LOSS_REASON`, `BEAM_DELAY_DOWN`, `BEAM_TIME_OFFSET`, `BEAM_TIME_OFFSET_MAX`. -/
def objsBeam1 : List ObjDef := [
  { index := 0x7800, type := .u8, access := .ro, size := 1 },
  { index := 0x7801, type := .u8, access := .const, size := 1, deflt := [1] },
  { index := 0x7802, type := .u64, access := .ro, size := 8 },
  { index := 0x7803, type := .u8, access := .ro, size := 1 },
  { index := 0x7804, type := .u32, access := .ro, size := 4 },
  { index := 0x7805, type := .u64, access := .ro, size := 8 },
  { index := 0x7806, subLo := 0x1, subHi := 0x1, type := .u16, access := .rw, cls := .live, size := 2, kind := (.event 417 false) },
  { index := 0x7806, subLo := 0x2, subHi := 0x2, type := .u16, access := .rw, cls := .live, size := 2, deflt := [1711], kind := .enable },
  { index := 0x7810, units := 7, stride := 0x10, type := .u8, access := .ro, size := 1 },
  { index := 0x7811, units := 7, stride := 0x10, subLo := 0x1, subHi := 0x1, type := .u8, access := .ro, size := 1 },
  { index := 0x7811, units := 7, stride := 0x10, subLo := 0x2, subHi := 0x2, type := .u8, access := .ro, size := 1 },
  { index := 0x7811, units := 7, stride := 0x10, subLo := 0x3, subHi := 0x3, type := .u8, access := .ro, size := 1, deflt := [7] },
  { index := 0x7811, units := 7, stride := 0x10, subLo := 0x4, subHi := 0x4, type := .u8, access := .ro, size := 1 },
  { index := 0x7812, units := 7, stride := 0x10, type := .u16, access := .ro, size := 2 },
  { index := 0x7813, units := 7, stride := 0x10, subLo := 0x1, subHi := 0x1, type := .i16, access := .ro, size := 2 },
  { index := 0x7813, units := 7, stride := 0x10, subLo := 0x2, subHi := 0x2, type := .i16, access := .ro, size := 2 } ]

/-- `BEAM_CRC_UP`, `BEAM_CRC_DOWN`, `BEAM_REPLAYS`, `BEAM_TILE_STATUS`, `HAB_STATE`, `HAB_TARGET`, `HAB_ACTION`, `HAB_MODE`, `HAB_PROB`, `HAB_PATTERN`, `HAB_PATTERN_LEN`, `HAB_BURST`, `HAB_LIMIT`, `HAB_SEED`, `HAB_FLIT_TYPES`, `HAB_ARM`. -/
def objsBeam2 : List ObjDef := [
  { index := 0x7814, units := 7, stride := 0x10, subLo := 0x1, subHi := 0x1, type := .u32, access := .ro, size := 4, kind := (.counter 0x7806 0x0 10) },
  { index := 0x7814, units := 7, stride := 0x10, subLo := 0x2, subHi := 0x2, type := .u32, access := .ro, size := 4, kind := (.counter 0x7806 0x0 10) },
  { index := 0x7814, units := 7, stride := 0x10, subLo := 0x3, subHi := 0x3, type := .u32, access := .ro, size := 4, kind := (.counter 0x7806 0x0 10) },
  { index := 0x7815, units := 7, stride := 0x10, type := .u8, access := .ro, size := 1 },
  { index := 0x78A0, type := .u8, access := .ro, size := 1 },
  { index := 0x78A1, subLo := 0x1, subHi := 0x1, type := .u8, access := .rw, cls := .live, size := 1, role := .hostOrInstaller },
  { index := 0x78A1, subLo := 0x2, subHi := 0x2, type := .u8, access := .rw, cls := .live, size := 1, range := .span 0 4 1, role := .hostOrInstaller },
  { index := 0x78A1, subLo := 0x3, subHi := 0x3, type := .u8, access := .rw, cls := .live, size := 1, range := .span 0 1 1, role := .hostOrInstaller },
  { index := 0x78A1, subLo := 0x4, subHi := 0x4, type := .u16, access := .rw, cls := .live, size := 2, role := .hostOrInstaller },
  { index := 0x78A1, subLo := 0x5, subHi := 0x5, type := .u32, access := .rw, cls := .live, size := 4, role := .hostOrInstaller },
  { index := 0x78A1, subLo := 0x6, subHi := 0x6, type := .u8, access := .rw, cls := .live, size := 1, deflt := [32], range := .span 1 32 1, role := .hostOrInstaller },
  { index := 0x78A1, subLo := 0x7, subHi := 0x7, type := .u8, access := .rw, cls := .live, size := 1, deflt := [4], range := .span 2 16 1, role := .hostOrInstaller },
  { index := 0x78A1, subLo := 0x8, subHi := 0x8, type := .u32, access := .rw, cls := .live, size := 4, role := .hostOrInstaller },
  { index := 0x78A1, subLo := 0x9, subHi := 0x9, type := .u16, access := .rw, cls := .live, size := 2, deflt := [44257], range := .span 1 65535 1, role := .hostOrInstaller },
  { index := 0x78A1, subLo := 0xA, subHi := 0xA, type := .u8, access := .rw, cls := .live, size := 1, deflt := [38], role := .hostOrInstaller },
  { index := 0x78A2, type := .u8, access := .wo, cls := .live, size := 1, role := .hostOrInstaller } ]

/-- `HAB_COUNT`, `HAB_SEEN`, `HAB_DISARM_REASON`. -/
def objsBeam3 : List ObjDef := [
  { index := 0x78A3, subLo := 0x1, subHi := 0x1, type := .u32, access := .ro, size := 4 },
  { index := 0x78A3, subLo := 0x2, subHi := 0x2, type := .u32, access := .ro, size := 4 },
  { index := 0x78A3, subLo := 0x3, subHi := 0x3, type := .u8, access := .ro, size := 1 } ]

/-- Every object of this range (R346). -/
def objsBeam : List ObjDef := objsBeam1 ++ objsBeam2 ++ objsBeam3

/-- `SEC_STATUS`, `LC_STATE`, `LC_ADVANCE`, `LC_TAG`, `LC_RESULT`, `LC_RETURN_NONCE`, `LC_RETURN_TOKEN`, `DBG_LEVEL`, `DBG_LEVEL_REQ`, `DBG_CHALLENGE`, `DBG_PROOF`, `DBG_HALT`, `SEC_BOOT_DETAIL`, `SEC_VENDOR_KEY`, `SEC_METRO_KEY`, `SEC_EVENT`. -/
def objsSecurity1 : List ObjDef := [
  { index := 0xA000, type := .u16, access := .ro, size := 2 },
  { index := 0xA001, type := .u8, access := .ro, size := 1 },
  { index := 0xA002, subLo := 0x1, subHi := 0x1, type := .u8, access := .wo, cls := .live, size := 1, role := .hostOrInstaller },
  { index := 0xA002, subLo := 0x2, subHi := 0x2, type := .u8, access := .ro, size := 1, deflt := [255] },
  { index := 0xA002, subLo := 0x3, subHi := 0x3, type := .u8, access := .ro, size := 1 },
  { index := 0xA003, subLo := 0x1, subHi := 0x1, type := .domain, access := .ro, size := 16 },
  { index := 0xA003, subLo := 0x2, subHi := 0x2, type := .domain, access := .wo, cls := .live, size := 100, role := .hostOrInstaller },
  { index := 0xA010, type := .u8, access := .ro, size := 1 },
  { index := 0xA011, subLo := 0x1, subHi := 0x1, type := .u8, access := .wo, cls := .live, size := 1, role := .hostOrInstaller },
  { index := 0xA011, subLo := 0x2, subHi := 0x2, type := .domain, access := .ro, size := 16 },
  { index := 0xA011, subLo := 0x3, subHi := 0x3, type := .domain, access := .wo, cls := .live, size := 100, minSize := 32, role := .hostOrInstaller },
  { index := 0xA012, type := .u8, access := .wo, cls := .live, size := 1, role := .hostOrInstaller },
  { index := 0xA020, type := .u8, access := .ro, size := 1 },
  { index := 0xA021, subLo := 0x1, subHi := 0x1, type := .domain, access := .const, size := 64 },
  { index := 0xA021, subLo := 0x2, subHi := 0x2, type := .domain, access := .const, size := 64 },
  { index := 0xA030, subLo := 0x1, subHi := 0x1, type := .u16, access := .rw, cls := .live, size := 2, role := .hostOrInstaller, kind := (.event 385 false) } ]

/-- `SEC_EVENT_EN`. -/
def objsSecurity2 : List ObjDef := [
  { index := 0xA030, subLo := 0x2, subHi := 0x2, type := .u16, access := .rw, cls := .live, size := 2, deflt := [1022], role := .hostOrInstaller, kind := .enable } ]

/-- Every object of this range (R346). -/
def objsSecurity : List ObjDef := objsSecurity1 ++ objsSecurity2

/-- The rows that can define index `i`, by the division of R346. -/
def sectionOf (i : Nat) : List ObjDef :=
  if i < 0x1100 then objsIdentity else
  if i < 0x1200 then objsOperations else
  if i < 0x1300 then objsNetwork else
  if i < 0x1400 then objsLocalPorts else
  if i < 0x2000 then objsInterrupts else
  if i < 0x2100 then objsModes else
  if i < 0x2200 then objsSequencer else
  if i < 0x2300 then objsSteps else
  if i < 0x2400 then objsSupervision else
  if i < 0x2500 then objsLedger else
  if i < 0x3000 then objsStaging else
  if i < 0x3400 then objsRails else
  if i < 0x3800 then objsAux else
  if i < 0x4000 then objsPhases else
  if i < 0x4100 then objsPowerPath else
  if i < 0x4200 then objsCharger else
  if i < 0x5000 then objsEstimator else
  if i < 0x6000 then objsSirocco else
  if i < 0x6100 then objsMetrology else
  if i < 0x6800 then objsPoints else
  if i < 0x7000 then objsJournal else
  if i < 0x7100 then objsOasis else
  if i < 0x7200 then objsMram else
  if i < 0x7300 then objsDma else
  if i < 0x7400 then objsMirage else
  if i < 0x7800 then objsOtp else
  if i < 0xA000 then objsBeam else
  objsSecurity

/-- The whole dictionary outside the vendor range. -/
def allObjs : List ObjDef :=
  objsIdentity ++ objsOperations ++ objsNetwork ++ objsLocalPorts ++ objsInterrupts ++ objsModes ++ objsSequencer ++ objsSteps ++ objsSupervision ++ objsLedger ++ objsStaging ++ objsRails ++ objsAux ++ objsPhases ++ objsPowerPath ++ objsCharger ++ objsEstimator ++ objsSirocco ++ objsMetrology ++ objsPoints ++ objsJournal ++ objsOasis ++ objsMram ++ objsDma ++ objsMirage ++ objsOtp ++ objsBeam ++ objsSecurity

/-- The unit of a row that index `i` belongs to. -/
def unitOf (d : ObjDef) (i : Nat) : Nat := if d.stride = 0 then 0 else (i - d.index) / d.stride

/-- Index `i` is one of the row's. -/
def hasIndex (d : ObjDef) (i : Nat) : Bool :=
  if d.stride = 0 then i == d.index
  else d.index ≤ i && (i - d.index) % d.stride == 0 && (i - d.index) / d.stride < d.units

/-- The pair `key` = index × 256 + subindex is one of the row's. -/
def covers (d : ObjDef) (key : Nat) : Bool :=
  d.subLo ≤ key % 256 && key % 256 ≤ d.subHi && hasIndex d (key / 256)

/-- The row that defines a pair; none where the pair is undefined (R347). -/
def find (key : Nat) : Option ObjDef := (sectionOf (key / 256)).find? (covers · key)

/-- Some subindex of the index is defined. -/
def indexDefined (i : Nat) : Bool := (sectionOf i).any (hasIndex · i)

/-- The highest subindex defined for an index (R372). -/
def highestSub (i : Nat) : Nat :=
  (sectionOf i).foldl (fun m d => if hasIndex d i then max m d.subHi else m) 0

/-- The number of pairs that a list of rows defines. -/
def pairs (ds : List ObjDef) : Nat := (ds.map fun d => d.units * (d.subHi - d.subLo + 1)).sum

/-- The ROM value of a pair under a chemistry (layer 1 of R356; `chem` 0 Li-ion, 1 LiFePO4). -/
def romValue (d : ObjDef) (chem : Nat) (key : Nat) : Int :=
  match d.split with
  | .one => d.deflt.getD (min (key % 256 - d.subLo) (d.deflt.length - 1)) 0
  | .stage => d.deflt.getD (if unitOf d (key / 256) % 8 < 6 then 0 else 1) 0
  | .chem => d.deflt.getD chem 0

/-- The range that applies to a pair. -/
def rangeOf (d : ObjDef) (chem : Nat) (key : Nat) : ObjRange :=
  match d.split with
  | .one => d.range
  | .stage => if unitOf d (key / 256) % 8 < 6 then d.range else d.range2
  | .chem => if chem = 0 then d.range else d.range2

/-- A value lies in a range. -/
def inRange : ObjRange → Int → Bool
  | .full, _ => true
  | .span lo hi st, v => decide (lo ≤ v) && decide (v ≤ hi) && decide ((v - lo) % st = 0)
  | .spanOr lo hi o, v => (decide (lo ≤ v) && decide (v ≤ hi)) || decide (v = o)

/-- The value that stands for a pair that nothing has written: its ROM value with Li-ion cells, or 0 for a pair
the dictionary does not define. -/
def default (key : Nat) : Int :=
  match find key with
  | some d => romValue d 0 key
  | none => 0

end Dict

/-- The bits of a type; a VIS or DOMAIN value counts as the number its bytes spell. -/
def ObjType.bits : ObjType → Nat → Nat
  | .bool, _ => 8 | .u8, _ => 8 | .u16, _ => 16 | .u32, _ => 32 | .u64, _ => 64
  | .i8, _ => 8 | .i16, _ => 16 | .i32, _ => 32 | .i64, _ => 64
  | .vis, n => 8 * n | .domain, n => 8 * n

/-- The type is a signed one (R12). -/
def ObjType.isSigned : ObjType → Bool
  | .i8 => true | .i16 => true | .i32 => true | .i64 => true | _ => false

/-- The type code of R348. -/
def ObjType.code : ObjType → Nat
  | .bool => 1 | .u8 => 2 | .u16 => 3 | .u32 => 4 | .u64 => 5 | .i8 => 6
  | .i16 => 7 | .i32 => 8 | .i64 => 9 | .vis => 10 | .domain => 11

/-- The access code of R349. -/
def ObjAccess.code : ObjAccess → Nat
  | .ro => 0 | .rw => 1 | .wo => 2 | .const => 3

/-- The class code of R351, 0 for none. -/
def ObjClass.code : ObjClass → Nat
  | .none => 0 | .live => 1 | .staged => 2 | .boot => 3 | .sealed => 4

/-- The bytes of a value of an object (R13, R348). -/
def ObjDef.bytes (d : ObjDef) (v : Int) : Bytes := toLE d.size (unsigned (8 * d.size) v)

/-- The value that written bytes spell for an object of this type. -/
def ObjDef.value (d : ObjDef) (bs : Bytes) : Int :=
  if d.type.isSigned then signed (8 * bs.length) (ofLE bs) else (ofLE bs : Int)

/-- The size is one that the object takes (R348). -/
def ObjDef.sizeOk (d : ObjDef) (n : Nat) : Bool := d.minSize ≤ n && n ≤ d.size

end Sys2Proof.Machine
end

