-- ==== Sys2Proof/Machine/Keys.lean ====
section
/-! DEFINITION. The names of the object dictionary: each name stands for its key, index × 256 + subindex. A name
with `u` is one of several like units (rail, phase, group, tile …) and `j` counts an array's elements from 0. -/

namespace Sys2Proof.Machine.K

abbrev MODE_CURRENT : Nat := 0x200000
abbrev MODE_FLAGS : Nat := 0x200100
abbrev MODE_ENTERED_AT : Nat := 0x200200
abbrev MODE_REQUEST : Nat := 0x200300
abbrev MODE_EVENT : Nat := 0x200401
abbrev MODE_EVENT_EN : Nat := 0x200402
abbrev BOOT_RESULT : Nat := 0x201000
abbrev BOOT_COUNT : Nat := 0x201100
abbrev RESET_CAUSE : Nat := 0x201200
abbrev FS_RETRY_DELAY : Nat := 0x202001
abbrev FS_RETRY_LIMIT : Nat := 0x202002
abbrev FS_RETRY_COUNT : Nat := 0x202003
abbrev FS_CAUSE : Nat := 0x202004
abbrev FS_RETRY_AT : Nat := 0x202005
abbrev FS_CLEAN_TIME : Nat := 0x202006
abbrev WAKE_ENABLE : Nat := 0x203001
abbrev WAKE_SOURCE : Nat := 0x203002
abbrev WAKE_COUNT : Nat := 0x203003
abbrev DORMANT_AUX_KEEP : Nat := 0x203004
abbrev MODE_HISTORY_COUNT : Nat := 0x204000
abbrev MODE_HISTORY (j : Nat) : Nat := 0x204001 + j
abbrev PH_TYPE (u : Nat) : Nat := 0x380000 + 0x2000 * u
abbrev PH_STATE (u : Nat) : Nat := 0x380100 + 0x2000 * u
abbrev PH_RAIL (u : Nat) : Nat := 0x380201 + 0x2000 * u
abbrev PH_ROLE (u : Nat) : Nat := 0x380202 + 0x2000 * u
abbrev PH_SLOT (u : Nat) : Nat := 0x380203 + 0x2000 * u
abbrev PH_ISO_REASON (u : Nat) : Nat := 0x380301 + 0x2000 * u
abbrev PH_ISO_AT (u : Nat) : Nat := 0x380302 + 0x2000 * u
abbrev PH_CLEAR_ISO (u : Nat) : Nat := 0x380303 + 0x2000 * u
abbrev PH_ISOLATE (u : Nat) : Nat := 0x380304 + 0x2000 * u
abbrev PH_STATUS (u : Nat) : Nat := 0x380400 + 0x2000 * u
abbrev PH_FSW (u : Nat) : Nat := 0x380800 + 0x2000 * u
abbrev PH_COMP_KP (u : Nat) : Nat := 0x380901 + 0x2000 * u
abbrev PH_COMP_KI (u : Nat) : Nat := 0x380902 + 0x2000 * u
abbrev PH_COMP_KD (u : Nat) : Nat := 0x380903 + 0x2000 * u
abbrev PH_COMP_DFILT (u : Nat) : Nat := 0x380904 + 0x2000 * u
abbrev PH_COMP_IMAX (u : Nat) : Nat := 0x380905 + 0x2000 * u
abbrev PH_TRIM_GAIN (u : Nat) : Nat := 0x380A01 + 0x2000 * u
abbrev PH_TRIM_LIMIT (u : Nat) : Nat := 0x380A02 + 0x2000 * u
abbrev PH_TRIM (u : Nat) : Nat := 0x380A03 + 0x2000 * u
abbrev PH_ILIM_PEAK (u : Nat) : Nat := 0x380B01 + 0x2000 * u
abbrev PH_ILIM_AVG (u : Nat) : Nat := 0x380B02 + 0x2000 * u
abbrev PH_SHED_EN (u : Nat) : Nat := 0x380C01 + 0x2000 * u
abbrev PH_SHED_LO (u : Nat) : Nat := 0x380C02 + 0x2000 * u
abbrev PH_SHED_HI (u : Nat) : Nat := 0x380C03 + 0x2000 * u
abbrev PH_SHED_DWELL (u : Nat) : Nat := 0x380C04 + 0x2000 * u
abbrev PH_SHED_SCALE (u : Nat) : Nat := 0x380C05 + 0x2000 * u
abbrev PH_OPEN_MIN (u : Nat) : Nat := 0x380D00 + 0x2000 * u
abbrev PH_I (u : Nat) : Nat := 0x381001 + 0x2000 * u
abbrev PH_I_PEAK (u : Nat) : Nat := 0x381002 + 0x2000 * u
abbrev PH_DUTY (u : Nat) : Nat := 0x381003 + 0x2000 * u
abbrev PH_VCF (u : Nat) : Nat := 0x381004 + 0x2000 * u
abbrev PH_VBUS (u : Nat) : Nat := 0x381005 + 0x2000 * u
abbrev PH_LOSS (u : Nat) : Nat := 0x381006 + 0x2000 * u
abbrev PH_T_HOT (u : Nat) : Nat := 0x381007 + 0x2000 * u
abbrev PH_EVENT (u : Nat) : Nat := 0x381101 + 0x2000 * u
abbrev PH_EVENT_EN (u : Nat) : Nat := 0x381102 + 0x2000 * u
abbrev PH_SENSE_TESTS (u : Nat) : Nat := 0x381201 + 0x2000 * u
abbrev PH_SHED_COUNT (u : Nat) : Nat := 0x381202 + 0x2000 * u
abbrev PH_LIMIT_CYCLES (u : Nat) : Nat := 0x381203 + 0x2000 * u
abbrev RAIL_STATE (u : Nat) : Nat := 0x300000 + 0x2000 * u
abbrev RAIL_TYPE (u : Nat) : Nat := 0x300101 + 0x2000 * u
abbrev RAIL_MODE (u : Nat) : Nat := 0x300102 + 0x2000 * u
abbrev RAIL_BUILD_RESULT (u : Nat) : Nat := 0x300103 + 0x2000 * u
abbrev RAIL_MIN_BUILD (u : Nat) : Nat := 0x300104 + 0x2000 * u
abbrev RAIL_MEMBERS_COUNT (u : Nat) : Nat := 0x300200 + 0x2000 * u
abbrev RAIL_MEMBERS (u j : Nat) : Nat := 0x300201 + 0x2000 * u + j
abbrev RAIL_SPARES_COUNT (u : Nat) : Nat := 0x300300 + 0x2000 * u
abbrev RAIL_SPARES (u j : Nat) : Nat := 0x300301 + 0x2000 * u + j
abbrev RAIL_VMIN (u : Nat) : Nat := 0x300401 + 0x2000 * u
abbrev RAIL_VSET (u : Nat) : Nat := 0x300402 + 0x2000 * u
abbrev RAIL_VMAX (u : Nat) : Nat := 0x300403 + 0x2000 * u
abbrev RAIL_VSET_TAG (u : Nat) : Nat := 0x300404 + 0x2000 * u
abbrev RAIL_SLEW_ON (u : Nat) : Nat := 0x300501 + 0x2000 * u
abbrev RAIL_SLEW (u : Nat) : Nat := 0x300502 + 0x2000 * u
abbrev RAIL_SLEW_OFF (u : Nat) : Nat := 0x300503 + 0x2000 * u
abbrev RAIL_TON_DELAY (u : Nat) : Nat := 0x300601 + 0x2000 * u
abbrev RAIL_TOFF_DELAY (u : Nat) : Nat := 0x300602 + 0x2000 * u
abbrev RAIL_DOWN_MODE (u : Nat) : Nat := 0x300603 + 0x2000 * u
abbrev RAIL_VOFF_DONE (u : Nat) : Nat := 0x300604 + 0x2000 * u
abbrev RAIL_LOADLINE (u : Nat) : Nat := 0x300700 + 0x2000 * u
abbrev RAIL_ILIM_SET (u : Nat) : Nat := 0x300801 + 0x2000 * u
abbrev RAIL_ILIM (u : Nat) : Nat := 0x300802 + 0x2000 * u
abbrev RAIL_OC_DWELL (u : Nat) : Nat := 0x300803 + 0x2000 * u
abbrev RAIL_PRIORITY (u : Nat) : Nat := 0x300901 + 0x2000 * u
abbrev RAIL_CLASS (u : Nat) : Nat := 0x300902 + 0x2000 * u
abbrev RAIL_COIL_IPULL (u : Nat) : Nat := 0x300A01 + 0x2000 * u
abbrev RAIL_COIL_TPULL (u : Nat) : Nat := 0x300A02 + 0x2000 * u
abbrev RAIL_COIL_IHOLD (u : Nat) : Nat := 0x300A03 + 0x2000 * u
abbrev RAIL_COIL_KI (u : Nat) : Nat := 0x300A04 + 0x2000 * u
abbrev RAIL_CTRL (u : Nat) : Nat := 0x300B00 + 0x2000 * u
abbrev RAIL_V (u : Nat) : Nat := 0x301001 + 0x2000 * u
abbrev RAIL_I (u : Nat) : Nat := 0x301002 + 0x2000 * u
abbrev RAIL_P (u : Nat) : Nat := 0x301003 + 0x2000 * u
abbrev RAIL_VREF (u : Nat) : Nat := 0x301004 + 0x2000 * u
abbrev RAIL_HEALTHY (u : Nat) : Nat := 0x301005 + 0x2000 * u
abbrev RAIL_ACTIVE (u : Nat) : Nat := 0x301006 + 0x2000 * u
abbrev RAIL_STATUS (u : Nat) : Nat := 0x301100 + 0x2000 * u
abbrev RAIL_EVENT (u : Nat) : Nat := 0x301201 + 0x2000 * u
abbrev RAIL_EVENT_EN (u : Nat) : Nat := 0x301202 + 0x2000 * u
abbrev RAIL_LIMIT_COUNT (u : Nat) : Nat := 0x301301 + 0x2000 * u
abbrev RAIL_SUPERSEDED_COUNT (u : Nat) : Nat := 0x301302 + 0x2000 * u
abbrev AUX_STATE (u : Nat) : Nat := 0x340000 + 0x1000 * u
abbrev AUX_VSET (u : Nat) : Nat := 0x340101 + 0x1000 * u
abbrev AUX_EN (u : Nat) : Nat := 0x340102 + 0x1000 * u
abbrev AUX_AUTO (u : Nat) : Nat := 0x340103 + 0x1000 * u
abbrev AUX_OC_DWELL (u : Nat) : Nat := 0x340104 + 0x1000 * u
abbrev AUX_V (u : Nat) : Nat := 0x340201 + 0x1000 * u
abbrev AUX_I (u : Nat) : Nat := 0x340202 + 0x1000 * u
abbrev AUX_LOSS (u : Nat) : Nat := 0x340203 + 0x1000 * u
abbrev AUX_EVENT (u : Nat) : Nat := 0x340301 + 0x1000 * u
abbrev AUX_EVENT_EN (u : Nat) : Nat := 0x340302 + 0x1000 * u
abbrev AUX_VPRE : Nat := 0x344000
abbrev LEDGER_VIN_PMAX : Nat := 0x240101
abbrev LEDGER_VIN_ILIM : Nat := 0x240102
abbrev LEDGER_IN_RESERVE : Nat := 0x240103
abbrev LEDGER_BAT_PMAX : Nat := 0x240104
abbrev LEDGER_BAT_IMAX : Nat := 0x240105
abbrev LEDGER_FAST_MARGIN : Nat := 0x240106
abbrev LEDGER_PKG_LOSS_MAX : Nat := 0x240201
abbrev LEDGER_TILE_LOSS_MAX : Nat := 0x240202
abbrev LEDGER_KEEPER_LOSS_MAX : Nat := 0x240203
abbrev LEDGER_TDERATE_START : Nat := 0x240204
abbrev LEDGER_TDERATE_END : Nat := 0x240205
abbrev LEDGER_RESTORE_HYST : Nat := 0x240301
abbrev LEDGER_RESTORE_DWELL : Nat := 0x240302
abbrev LEDGER_CHG_PRIORITY : Nat := 0x240401
abbrev LEDGER_CHG_EFF : Nat := 0x240402
abbrev LEDGER_CHG_CAP : Nat := 0x240403
abbrev LEDGER_LV_PQ : Nat := 0x240801
abbrev LEDGER_LV_KFV : Nat := 0x240802
abbrev LEDGER_LV_KFVI : Nat := 0x240803
abbrev LEDGER_LV_RCOND : Nat := 0x240804
abbrev LEDGER_BUS_PQ : Nat := 0x240901
abbrev LEDGER_BUS_KFV : Nat := 0x240902
abbrev LEDGER_BUS_KFVI : Nat := 0x240903
abbrev LEDGER_BUS_RCOND : Nat := 0x240904
abbrev LEDGER_TILE_BASE : Nat := 0x240A00
abbrev LEDGER_P_IN : Nat := 0x241001
abbrev LEDGER_B_IN : Nat := 0x241002
abbrev LEDGER_P_PKG : Nat := 0x241003
abbrev LEDGER_B_PKG : Nat := 0x241004
abbrev LEDGER_P_KEEPER : Nat := 0x241005
abbrev LEDGER_B_KEEPER : Nat := 0x241006
abbrev LEDGER_I_FAST : Nat := 0x241007
abbrev LEDGER_SOURCE : Nat := 0x241008
abbrev LEDGER_P_TILE (j : Nat) : Nat := 0x241101 + j
abbrev LEDGER_B_TILE (j : Nat) : Nat := 0x241201 + j
abbrev LEDGER_CAP_FLOOR (j : Nat) : Nat := 0x242001 + j
abbrev LEDGER_P_PREDICT (j : Nat) : Nat := 0x242101 + j
abbrev LEDGER_RAIL_ACTION (j : Nat) : Nat := 0x242201 + j
abbrev LEDGER_RAIL_CAP (j : Nat) : Nat := 0x242301 + j
abbrev LEDGER_E_RAIL (j : Nat) : Nat := 0x243001 + j
abbrev LEDGER_E_IN : Nat := 0x243101
abbrev LEDGER_E_LOSS : Nat := 0x243102
abbrev LEDGER_E_BATT : Nat := 0x243103
abbrev LEDGER_E_CHG : Nat := 0x243104
abbrev LEDGER_E_AUX (j : Nat) : Nat := 0x243201 + j
abbrev LEDGER_E_CLEAR : Nat := 0x243300
abbrev LEDGER_EVENT : Nat := 0x244001
abbrev LEDGER_EVENT_EN : Nat := 0x244002
abbrev LEDGER_FAST_COUNT : Nat := 0x244101
abbrev LEDGER_SHED_COUNT : Nat := 0x244102
abbrev LEDGER_DEFER_COUNT : Nat := 0x244103
abbrev GRP_STATE (u : Nat) : Nat := 0x210000 + 0x800 * u
abbrev GRP_CMD (u : Nat) : Nat := 0x210101 + 0x800 * u
abbrev GRP_TAG (u : Nat) : Nat := 0x210102 + 0x800 * u
abbrev GRP_PENDING (u : Nat) : Nat := 0x210103 + 0x800 * u
abbrev GRP_AUTOSTART (u : Nat) : Nat := 0x210201 + 0x800 * u
abbrev GRP_TOFFMIN (u : Nat) : Nat := 0x210202 + 0x800 * u
abbrev GRP_COOP (u : Nat) : Nat := 0x210203 + 0x800 * u
abbrev GRP_AFTER (u : Nat) : Nat := 0x210204 + 0x800 * u
abbrev GRP_STEP (u : Nat) : Nat := 0x210301 + 0x800 * u
abbrev GRP_RESULT (u : Nat) : Nat := 0x210302 + 0x800 * u
abbrev GRP_WAIT (u : Nat) : Nat := 0x210303 + 0x800 * u
abbrev GRP_UP_COUNT (u : Nat) : Nat := 0x210400 + 0x800 * u
abbrev SEQ_STATUS : Nat := 0x218000
abbrev SEQ_COOP : Nat := 0x218101
abbrev SEQ_BELL_TIMEOUT : Nat := 0x218102
abbrev SEQ_FOG_EXT_COUNT : Nat := 0x218200
abbrev SEQ_EVENT : Nat := 0x218301
abbrev SEQ_EVENT_EN : Nat := 0x218302
abbrev SEQ_FAULT_GROUP : Nat := 0x218401
abbrev SEQ_FAULT_STEP : Nat := 0x218402
abbrev SEQ_FAULT_RAIL : Nat := 0x218403
abbrev SEQ_FAULT_CODE : Nat := 0x218404
abbrev SEQ_FAULT_AT : Nat := 0x218405
abbrev SEQ_PG_CHATTER (j : Nat) : Nat := 0x219001 + j
abbrev SEQ_CHATTER_CLEAR : Nat := 0x219100
abbrev SEQ_LEGACY_MODE : Nat := 0x21A001
abbrev SEQ_LEGACY_SLAVES : Nat := 0x21A002
abbrev SEQ_LEGACY_POLL : Nat := 0x21A003
abbrev SEQ_LEGACY_LOST : Nat := 0x21A004
abbrev SEQ_LEGACY_ALLOW_CLEAR : Nat := 0x21A005
abbrev SEQ_LEGACY_CMD_COUNT : Nat := 0x21A006
abbrev SEQ_LEGACY_STATUS (j : Nat) : Nat := 0x21A101 + j
abbrev SEQ_STEP (u : Nat) : Nat := 0x220000 + 0x100 * u
abbrev SUP_STATUS : Nat := 0x230000
abbrev SUP_FAULT_CODE : Nat := 0x230101
abbrev SUP_FAULT_KIND : Nat := 0x230102
abbrev SUP_FAULT_INDEX : Nat := 0x230103
abbrev SUP_FAULT_TILE : Nat := 0x230104
abbrev SUP_FAULT_AT : Nat := 0x230105
abbrev SUP_SEAL_CAUSE : Nat := 0x230106
abbrev SUP_SEAL_STAGE : Nat := 0x230107
abbrev SUP_FAULT_COUNT : Nat := 0x230201
abbrev SUP_SNAP_SEQ : Nat := 0x230202
abbrev SUP_QUENCH : Nat := 0x230300
abbrev SUP_VHK_CAP : Nat := 0x230400
abbrev SUP_OV_MARGIN (j : Nat) : Nat := 0x231001 + j
abbrev SUP_UV_MARGIN (j : Nat) : Nat := 0x231101 + j
abbrev SUP_PG_WINDOW (j : Nat) : Nat := 0x231201 + j
abbrev SUP_OV_DEGLITCH (j : Nat) : Nat := 0x231301 + j
abbrev SUP_UV_DEGLITCH (j : Nat) : Nat := 0x231401 + j
abbrev SUP_TPGL (j : Nat) : Nat := 0x231501 + j
abbrev SUP_PG_REARM (j : Nat) : Nat := 0x231601 + j
abbrev SUP_RAIL_FAULTS (j : Nat) : Nat := 0x232001 + j
abbrev SUP_LEASE_REVOKES (j : Nat) : Nat := 0x233001 + j
abbrev SUP_FENCED : Nat := 0x233100
abbrev SUP_SNAP_VALID : Nat := 0x234000
abbrev SUP_SNAP (j : Nat) : Nat := 0x234001 + j
abbrev SUP_SNAP_TAKE : Nat := 0x234100
abbrev SUP_SNAP_CLEAR : Nat := 0x234200
abbrev SUP_EVENT : Nat := 0x235001
abbrev SUP_EVENT_EN : Nat := 0x235002
abbrev SIR_STATUS : Nat := 0x500000
abbrev SIR_T_WARN : Nat := 0x500101
abbrev SIR_T_SHUT : Nat := 0x500102
abbrev SIR_OPEN_LOOP_MARGIN : Nat := 0x500103
abbrev SIR_REF_GAIN : Nat := 0x500200
abbrev SIR_LANTERN_R (j : Nat) : Nat := 0x501001 + j
abbrev SIR_LANTERN_TAU (j : Nat) : Nat := 0x501101 + j
abbrev SIR_KEEPER_R (j : Nat) : Nat := 0x501201 + j
abbrev SIR_KEEPER_TAU (j : Nat) : Nat := 0x501301 + j
abbrev SIR_HS_R_LV : Nat := 0x501401
abbrev SIR_HS_TAU_LV : Nat := 0x501402
abbrev SIR_HS_R_BUS : Nat := 0x501403
abbrev SIR_HS_TAU_BUS : Nat := 0x501404
abbrev SIR_COUPLING : Nat := 0x501405
abbrev SIR_SENSOR_RESET : Nat := 0x502000
abbrev SIR_EVENT : Nat := 0x503001
abbrev SIR_EVENT_EN : Nat := 0x503002
abbrev SIR_EVENT_TILES : Nat := 0x503003
abbrev SIR_BROKEN_COUNT : Nat := 0x503100
abbrev SIR_T_MAX (u : Nat) : Nat := 0x510000 + 0x1000 * u
abbrev SIR_T_J (u : Nat) : Nat := 0x510100 + 0x1000 * u
abbrev SIR_T_REF (u : Nat) : Nat := 0x510200 + 0x1000 * u
abbrev SIR_SENSOR (u j : Nat) : Nat := 0x510301 + 0x1000 * u + j
abbrev SIR_SENSOR_MODEL (u j : Nat) : Nat := 0x510401 + 0x1000 * u + j
abbrev SIR_SENSOR_STATE (u j : Nat) : Nat := 0x510501 + 0x1000 * u + j
abbrev SIR_RATE (u : Nat) : Nat := 0x510600 + 0x1000 * u
abbrev SIR_RESIDUAL (u : Nat) : Nat := 0x510700 + 0x1000 * u
abbrev PP_STATE : Nat := 0x400000
abbrev PP_STATUS : Nat := 0x400100
abbrev PP_VIN : Nat := 0x400201
abbrev PP_VBAT : Nat := 0x400202
abbrev PP_VBUS : Nat := 0x400203
abbrev PP_T_BAT : Nat := 0x400204
abbrev PP_BAT_STATE : Nat := 0x400205
abbrev PP_VIN_MIN : Nat := 0x400301
abbrev PP_VIN_MAX : Nat := 0x400302
abbrev PP_VIN_LOSS : Nat := 0x400303
abbrev PP_VIN_OV : Nat := 0x400304
abbrev PP_TVINQ : Nat := 0x400305
abbrev PP_SWITCHBACK_SLEW : Nat := 0x400306
abbrev PP_CHEM : Nat := 0x400401
abbrev PP_CELLS : Nat := 0x400402
abbrev PP_CUTOFF_CELL : Nat := 0x400403
abbrev PP_NTC_R25 : Nat := 0x400404
abbrev PP_NTC_BETA : Nat := 0x400405
abbrev PP_LOSS_REASON : Nat := 0x400500
abbrev PP_HANDOVER_COUNT : Nat := 0x400601
abbrev PP_BOUNCE_COUNT : Nat := 0x400602
abbrev PP_HANDOVER_AT : Nat := 0x400603
abbrev PP_EVENT : Nat := 0x400801
abbrev PP_EVENT_EN : Nat := 0x400802
abbrev CHG_STATE : Nat := 0x410000
abbrev CHG_STATUS : Nat := 0x410100
abbrev CHG_FAULT : Nat := 0x410201
abbrev CHG_ZONE : Nat := 0x410202
abbrev CHG_EN : Nat := 0x410301
abbrev CHG_START : Nat := 0x410302
abbrev CHG_ICHG : Nat := 0x410401
abbrev CHG_IPRE : Nat := 0x410402
abbrev CHG_VCELL : Nat := 0x410403
abbrev CHG_VPRE_CELL : Nat := 0x410404
abbrev CHG_ITERM : Nat := 0x410405
abbrev CHG_RECHG_DV : Nat := 0x410406
abbrev CHG_SAFETY_TIME : Nat := 0x410501
abbrev CHG_PRE_TIME : Nat := 0x410502
abbrev CHG_TIMER : Nat := 0x410503
abbrev CHG_WD_TIME : Nat := 0x410504
abbrev CHG_WD_KICK : Nat := 0x410505
abbrev CHG_TREG : Nat := 0x410600
abbrev CHG_ZONE_T (j : Nat) : Nat := 0x410701 + j
abbrev CHG_ZONE_HYST : Nat := 0x410705
abbrev CHG_ZONE_I (j : Nat) : Nat := 0x410801 + j
abbrev CHG_ZONE_DV (j : Nat) : Nat := 0x410901 + j
abbrev CHG_RSENSE : Nat := 0x410A01
abbrev CHG_FSW : Nat := 0x410A02
abbrev CHG_I : Nat := 0x410B01
abbrev CHG_ISET : Nat := 0x410B02
abbrev CHG_ILIM : Nat := 0x410B03
abbrev CHG_VTARGET : Nat := 0x410B04
abbrev CHG_CYCLES : Nat := 0x410C01
abbrev CHG_WD_EXPIRIES : Nat := 0x410C02
abbrev CHG_EVENT : Nat := 0x410D01
abbrev CHG_EVENT_EN : Nat := 0x410D02
abbrev CHG_SAFE_ICHG : Nat := 0x410E01
abbrev CHG_SAFE_VCELL : Nat := 0x410E02
abbrev EST_STATE : Nat := 0x420000
abbrev EST_STATUS : Nat := 0x420100
abbrev EST_SOC : Nat := 0x420201
abbrev EST_SOC_OCV : Nat := 0x420202
abbrev EST_CONFIDENCE : Nat := 0x420203
abbrev EST_I : Nat := 0x420204
abbrev EST_REMAIN : Nat := 0x420205
abbrev EST_TTE : Nat := 0x420206
abbrev EST_VPOL : Nat := 0x420207
abbrev EST_LAST_ANCHOR : Nat := 0x420208
abbrev EST_DESIGN_CAP : Nat := 0x420301
abbrev EST_CAPACITY : Nat := 0x420302
abbrev EST_CYCLES : Nat := 0x420303
abbrev EST_CYCLE_RESIDUE : Nat := 0x420304
abbrev EST_TAU1 : Nat := 0x420401
abbrev EST_TAU2 : Nat := 0x420402
abbrev EST_R0_DEF : Nat := 0x420403
abbrev EST_R1_DEF : Nat := 0x420404
abbrev EST_R2_DEF : Nat := 0x420405
abbrev EST_PATH_R : Nat := 0x420406
abbrev EST_I_SIGMA : Nat := 0x420501
abbrev EST_I_FLOOR : Nat := 0x420502
abbrev EST_V_SIGMA : Nat := 0x420503
abbrev EST_OCV_SRC : Nat := 0x420504
abbrev EST_OCV (j : Nat) : Nat := 0x420601 + j
abbrev EST_FREST_EN : Nat := 0x420701
abbrev EST_FREST_AFTER : Nat := 0x420702
abbrev EST_FREST_LEN : Nat := 0x420703
abbrev EST_FREST_ABORT : Nat := 0x420704
abbrev EST_SWAP_KEEP : Nat := 0x420801
abbrev EST_BID : Nat := 0x420802
abbrev EST_BID_REF : Nat := 0x420803
abbrev EST_SOC_ALARM : Nat := 0x420900
abbrev EST_IMP_ROW (j : Nat) : Nat := 0x420A01 + j
abbrev EST_LEARN_RESET : Nat := 0x420B00
abbrev EST_EVENT : Nat := 0x421001
abbrev EST_EVENT_EN : Nat := 0x421002
abbrev EST_ANCHOR_COUNT : Nat := 0x421101
abbrev EST_SWAP_COUNT : Nat := 0x421102
abbrev MET_STATUS : Nat := 0x600000
abbrev MET_MCLK_DIV : Nat := 0x600101
abbrev MET_SAMPLE_DELAY0 : Nat := 0x600102
abbrev MET_SAMPLE_DELAY1 : Nat := 0x600103
abbrev MET_E_CLEAR : Nat := 0x600200
abbrev MET_EVENT : Nat := 0x600301
abbrev MET_EVENT_EN : Nat := 0x600302
abbrev MET_VERSION : Nat := 0x600400
abbrev MP_EN (u : Nat) : Nat := 0x610000 + 0x10000 * u
abbrev MP_V_GAIN (u : Nat) : Nat := 0x610101 + 0x10000 * u
abbrev MP_V_OFFSET (u : Nat) : Nat := 0x610102 + 0x10000 * u
abbrev MP_I_GAIN (u : Nat) : Nat := 0x610103 + 0x10000 * u
abbrev MP_I_OFFSET (u : Nat) : Nat := 0x610104 + 0x10000 * u
abbrev MP_CREEP_I (u : Nat) : Nat := 0x610105 + 0x10000 * u
abbrev MP_CAL_REV (u : Nat) : Nat := 0x610106 + 0x10000 * u
abbrev MP_V_RAW (u : Nat) : Nat := 0x610201 + 0x10000 * u
abbrev MP_I_RAW (u : Nat) : Nat := 0x610202 + 0x10000 * u
abbrev MP_V (u : Nat) : Nat := 0x610301 + 0x10000 * u
abbrev MP_I (u : Nat) : Nat := 0x610302 + 0x10000 * u
abbrev MP_P (u : Nat) : Nat := 0x610303 + 0x10000 * u
abbrev MP_E_EXPORT (u : Nat) : Nat := 0x610401 + 0x10000 * u
abbrev MP_E_IMPORT (u : Nat) : Nat := 0x610402 + 0x10000 * u
abbrev MP_INPUT (u : Nat) : Nat := 0x610500 + 0x10000 * u
abbrev MP_SESS_STATE (u : Nat) : Nat := 0x611000 + 0x10000 * u
abbrev MP_SESS_CMD (u : Nat) : Nat := 0x611101 + 0x10000 * u
abbrev MP_SESS_TAG (u : Nat) : Nat := 0x611102 + 0x10000 * u
abbrev MP_SESS_RESULT (u : Nat) : Nat := 0x611103 + 0x10000 * u
abbrev MP_SESS_ID (u : Nat) : Nat := 0x611104 + 0x10000 * u
abbrev MP_SESS_REF (u : Nat) : Nat := 0x611105 + 0x10000 * u
abbrev MP_SESS_START_SEQ (u : Nat) : Nat := 0x611201 + 0x10000 * u
abbrev MP_SESS_E_EXPORT (u : Nat) : Nat := 0x611202 + 0x10000 * u
abbrev MP_SESS_E_IMPORT (u : Nat) : Nat := 0x611203 + 0x10000 * u
abbrev MP_SESS_END_SEQ (u : Nat) : Nat := 0x611204 + 0x10000 * u
abbrev MP_EVENT (u : Nat) : Nat := 0x611301 + 0x10000 * u
abbrev MP_EVENT_EN (u : Nat) : Nat := 0x611302 + 0x10000 * u
abbrev MP_SESSION_COUNT (u : Nat) : Nat := 0x611401 + 0x10000 * u
abbrev MP_OVERRANGE_COUNT (u : Nat) : Nat := 0x611402 + 0x10000 * u
abbrev JNL_STATUS : Nat := 0x680000
abbrev JNL_NEXT_SEQ : Nat := 0x680101
abbrev JNL_ACK : Nat := 0x680102
abbrev JNL_FREE : Nat := 0x680103
abbrev JNL_OLDEST_SEQ : Nat := 0x680104
abbrev JNL_EVENT_RESERVE : Nat := 0x680105
abbrev JNL_WARN_LEVEL : Nat := 0x680106
abbrev JNL_READ_SEQ : Nat := 0x680201
abbrev JNL_READ_REC : Nat := 0x680202
abbrev JNL_READ_BLOCK : Nat := 0x680203
abbrev JNL_PUBKEY : Nat := 0x680300
abbrev JNL_INIT : Nat := 0x680400
abbrev JNL_EVENT : Nat := 0x680501
abbrev JNL_EVENT_EN : Nat := 0x680502
abbrev JNL_EVENTS_LOST : Nat := 0x680601
abbrev JNL_TORN_COUNT : Nat := 0x680602
abbrev BEAM_UP : Nat := 0x780000
abbrev BEAM_KEEPER_VERSIONS : Nat := 0x780100
abbrev TB_NOW : Nat := 0x780200
abbrev TB_SOURCE : Nat := 0x780300
abbrev BEAM_CUT_SEQ : Nat := 0x780400
abbrev BEAM_CUT_AT : Nat := 0x780500
abbrev BEAM_EVENT : Nat := 0x780601
abbrev BEAM_EVENT_EN : Nat := 0x780602
abbrev BEAM_STATE (u : Nat) : Nat := 0x780000 + 0x1000 * u
abbrev BEAM_VERSION (u : Nat) : Nat := 0x780101 + 0x1000 * u
abbrev BEAM_TILE_VERSIONS (u : Nat) : Nat := 0x780102 + 0x1000 * u
abbrev BEAM_TRAIN_RESULT (u : Nat) : Nat := 0x780103 + 0x1000 * u
abbrev BEAM_LOSS_REASON (u : Nat) : Nat := 0x780104 + 0x1000 * u
abbrev BEAM_DELAY_DOWN (u : Nat) : Nat := 0x780200 + 0x1000 * u
abbrev BEAM_TIME_OFFSET (u : Nat) : Nat := 0x780301 + 0x1000 * u
abbrev BEAM_TIME_OFFSET_MAX (u : Nat) : Nat := 0x780302 + 0x1000 * u
abbrev BEAM_CRC_UP (u : Nat) : Nat := 0x780401 + 0x1000 * u
abbrev BEAM_CRC_DOWN (u : Nat) : Nat := 0x780402 + 0x1000 * u
abbrev BEAM_REPLAYS (u : Nat) : Nat := 0x780403 + 0x1000 * u
abbrev BEAM_TILE_STATUS (u : Nat) : Nat := 0x780500 + 0x1000 * u
abbrev HAB_STATE : Nat := 0x78A000
abbrev HAB_TARGET : Nat := 0x78A101
abbrev HAB_ACTION : Nat := 0x78A102
abbrev HAB_MODE : Nat := 0x78A103
abbrev HAB_PROB : Nat := 0x78A104
abbrev HAB_PATTERN : Nat := 0x78A105
abbrev HAB_PATTERN_LEN : Nat := 0x78A106
abbrev HAB_BURST : Nat := 0x78A107
abbrev HAB_LIMIT : Nat := 0x78A108
abbrev HAB_SEED : Nat := 0x78A109
abbrev HAB_FLIT_TYPES : Nat := 0x78A10A
abbrev HAB_ARM : Nat := 0x78A200
abbrev HAB_COUNT : Nat := 0x78A301
abbrev HAB_SEEN : Nat := 0x78A302
abbrev HAB_DISARM_REASON : Nat := 0x78A303
abbrev NET_STATUS : Nat := 0x120000
abbrev NET_A_EN : Nat := 0x120101
abbrev NET_A_NOM_RATE : Nat := 0x120102
abbrev NET_A_DATA_RATE : Nat := 0x120103
abbrev NET_A_NOM_SP : Nat := 0x120104
abbrev NET_A_DATA_SP : Nat := 0x120105
abbrev NET_B_EN : Nat := 0x120201
abbrev NET_B_NOM_RATE : Nat := 0x120202
abbrev NET_B_DATA_RATE : Nat := 0x120203
abbrev NET_B_NOM_SP : Nat := 0x120204
abbrev NET_B_DATA_SP : Nat := 0x120205
abbrev NET_NODE_ID : Nat := 0x120301
abbrev NET_NODE_ID_USED : Nat := 0x120302
abbrev NET_VERSIONS : Nat := 0x120401
abbrev NET_HB_PERIOD : Nat := 0x120402
abbrev NET_HB_MISS : Nat := 0x120403
abbrev NET_ROLE_IDLE : Nat := 0x120404
abbrev NET_A_COUNTS (j : Nat) : Nat := 0x120501 + j
abbrev NET_B_COUNTS (j : Nat) : Nat := 0x120505 + j
abbrev NET_CRC_FAILS : Nat := 0x120509
abbrev NET_EVENTS_DROPPED : Nat := 0x12050A
abbrev NET_EVENT : Nat := 0x120601
abbrev NET_EVENT_EN : Nat := 0x120602
abbrev NET_INSTALLER_PW : Nat := 0x120701
abbrev NET_AUTH_FAILS : Nat := 0x120702
abbrev NET_AUTH_LOCK : Nat := 0x120703
abbrev NET_AUTH_TOKEN : Nat := 0x120800
abbrev NET_PARTNERS : Nat := 0x121000
abbrev NET_PARTNER (j : Nat) : Nat := 0x121101 + j
abbrev NET_EVICT : Nat := 0x121200
abbrev NET_LAST_EVICT : Nat := 0x121300
abbrev NET_MY_EVENT_MASK : Nat := 0x121400
abbrev TLM_EN (u : Nat) : Nat := 0x122001 + 0x100 * u
abbrev TLM_PERIOD (u : Nat) : Nat := 0x122002 + 0x100 * u
abbrev TLM_DEST (u : Nat) : Nat := 0x122003 + 0x100 * u
abbrev TLM_PORT (u : Nat) : Nat := 0x122004 + 0x100 * u
abbrev TLM_COUNT (u : Nat) : Nat := 0x122005 + 0x100 * u
abbrev TLM_ENTRY (u j : Nat) : Nat := 0x122006 + 0x100 * u + j
abbrev ID_VENDOR : Nat := 0x100000
abbrev ID_PART : Nat := 0x100100
abbrev ID_SERIAL : Nat := 0x100200
abbrev ID_FW_VERSION : Nat := 0x100301
abbrev ID_ROM_VERSION : Nat := 0x100302
abbrev ID_DICT_VERSION : Nat := 0x100303
abbrev ID_DIE_REV (j : Nat) : Nat := 0x100401 + j
abbrev CAP_UNITS : Nat := 0x101000
abbrev CAP_TILES : Nat := 0x101101
abbrev CAP_TILES_USABLE : Nat := 0x101102
abbrev CAP_PHASES : Nat := 0x101201
abbrev CAP_PHASES_USABLE : Nat := 0x101202
abbrev CAP_MP : Nat := 0x101300
abbrev CAP_DICT_ENTRIES : Nat := 0x101401
abbrev CAP_DICT_PRESENT : Nat := 0x101402
abbrev DESC_SELECT : Nat := 0x102001
abbrev DESC : Nat := 0x102002
abbrev CFG_STATUS : Nat := 0x250000
abbrev CFG_COMMIT : Nat := 0x250101
abbrev CFG_COMMIT_TAG : Nat := 0x250102
abbrev CFG_COMMIT_RESULT : Nat := 0x250103
abbrev CFG_COMMIT_ABORT : Nat := 0x250104
abbrev CFG_COMMIT_TILES : Nat := 0x250105
abbrev CFG_COMMIT_AT : Nat := 0x250106
abbrev CFG_STAGED_COUNT : Nat := 0x250201
abbrev CFG_STAGE_OWNER : Nat := 0x250202
abbrev CFG_STAGE_TIMEOUT : Nat := 0x250203
abbrev CFG_STAGED_FAULT : Nat := 0x250204
abbrev CFG_BOOT_PENDING : Nat := 0x250205
abbrev CFG_SAVE : Nat := 0x251001
abbrev CFG_ERASE : Nat := 0x251002
abbrev CFG_IMAGE_WRITE : Nat := 0x251003
abbrev CFG_ACTIVE_SLOT : Nat := 0x251101
abbrev CFG_ACTIVE_SEQ : Nat := 0x251102
abbrev CFG_ACTIVE_ID : Nat := 0x251103
abbrev CFG_ENTRIES_APPLIED : Nat := 0x251104
abbrev CFG_ENTRIES_ABSENT : Nat := 0x251105
abbrev CFG_ENTRIES_REJECTED : Nat := 0x251106
abbrev CFG_FIRST_REJECT : Nat := 0x251107
abbrev CFG_NEXT_SLOT : Nat := 0x251108
abbrev CFG_IMAGE_READ : Nat := 0x251200
abbrev LP_STATUS : Nat := 0x130000
abbrev LP_SPI_FRAMES : Nat := 0x130101
abbrev LP_SPI_CRC_ERRS : Nat := 0x130102
abbrev LP_SPI_FRAME_ERRS : Nat := 0x130103
abbrev LP_TW_EN : Nat := 0x130201
abbrev LP_TW_ADDR : Nat := 0x130202
abbrev LP_TW_FRAMES : Nat := 0x130301
abbrev LP_TW_CRC_ERRS : Nat := 0x130302
abbrev LP_TW_FRAME_ERRS : Nat := 0x130303
abbrev LP_TW_ARB_LOST : Nat := 0x130304
abbrev LP_TW_TIMEOUTS : Nat := 0x130305
abbrev LP_TW_CLEARS : Nat := 0x130306
abbrev LP_WIN_MAP (j : Nat) : Nat := 0x131001 + j
abbrev LP_EVENT : Nat := 0x132001
abbrev LP_EVENT_EN : Nat := 0x132002
abbrev OP_FREE : Nat := 0x110000
abbrev OP_ENTRY (j : Nat) : Nat := 0x110101 + j
abbrev OP_ABORT : Nat := 0x110200
abbrev OP_ABORT_LAST : Nat := 0x110300
abbrev OP_DONE_MAP_LO : Nat := 0x110401
abbrev OP_DONE_MAP_HI : Nat := 0x110402
abbrev OP_ABORT_LOST : Nat := 0x110501
abbrev OP_FULL_COUNT : Nat := 0x110502
abbrev OP_EVENT : Nat := 0x110601
abbrev OP_EVENT_EN : Nat := 0x110602
abbrev OP_TAGS_LOW : Nat := 0x110603
abbrev INT_SUMMARY : Nat := 0x140000
abbrev INT_PRIO (j : Nat) : Nat := 0x140101 + j
abbrev INT_THRESHOLD : Nat := 0x140200
abbrev INT_PENDING (j : Nat) : Nat := 0x140301 + j
abbrev INT_INSERVICE (j : Nat) : Nat := 0x140401 + j
abbrev INT_CLAIMS : Nat := 0x140701
abbrev INT_STRAY_COMPLETES : Nat := 0x140702
abbrev INT_REFIRES : Nat := 0x140703
abbrev MRAM_PART_BASE (j : Nat) : Nat := 0x710001 + j
abbrev MRAM_PART_SIZE (j : Nat) : Nat := 0x710101 + j
abbrev MRAM_PART_FLAGS (j : Nat) : Nat := 0x710201 + j
abbrev MRAM_RAW_PART : Nat := 0x711001
abbrev MRAM_RAW_OFFSET : Nat := 0x711002
abbrev MRAM_RAW_DATA : Nat := 0x711003
abbrev MRAM_PW_PRESENT : Nat := 0x711101
abbrev MRAM_PW_SET : Nat := 0x711102
abbrev MRAM_PW_LOCK : Nat := 0x711103
abbrev MRAM_PW_RESET : Nat := 0x711104
abbrev MRAM_PW_LOCK_LEFT : Nat := 0x711105
abbrev MRAM_SCRUB_PERIOD : Nat := 0x711201
abbrev MRAM_SCRUB_POS : Nat := 0x711202
abbrev MRAM_CORRECTED : Nat := 0x711301
abbrev MRAM_UNCORRECTABLE : Nat := 0x711302
abbrev MRAM_WEAK_REWRITES : Nat := 0x711303
abbrev MRAM_SCRUB_PASSES : Nat := 0x711304
abbrev MRAM_PW_FAILURES : Nat := 0x711305
abbrev MRAM_LAST_UE : Nat := 0x711400
abbrev MRAM_EVENT : Nat := 0x711501
abbrev MRAM_EVENT_EN : Nat := 0x711502
abbrev DMA_CH_STATE (u : Nat) : Nat := 0x720000 + 0x1000 * u
abbrev DMA_DESC (u : Nat) : Nat := 0x720100 + 0x1000 * u
abbrev DMA_START (u : Nat) : Nat := 0x720201 + 0x1000 * u
abbrev DMA_CH_TAG (u : Nat) : Nat := 0x720202 + 0x1000 * u
abbrev DMA_CH_HALT (u : Nat) : Nat := 0x720301 + 0x1000 * u
abbrev DMA_CH_CHECK (u : Nat) : Nat := 0x720302 + 0x1000 * u
abbrev DMA_CH_ELEMENTS (u : Nat) : Nat := 0x720303 + 0x1000 * u
abbrev DMA_CH_RETRIES (u : Nat) : Nat := 0x720304 + 0x1000 * u
abbrev DMA_EVENT (u : Nat) : Nat := 0x720401 + 0x1000 * u
abbrev DMA_EVENT_EN (u : Nat) : Nat := 0x720402 + 0x1000 * u
abbrev MIR_STATE : Nat := 0x730000
abbrev MIR_STREAM (j : Nat) : Nat := 0x730101 + j
abbrev MIR_DECIM : Nat := 0x730201
abbrev MIR_PRE : Nat := 0x730202
abbrev MIR_POST : Nat := 0x730203
abbrev MIR_TRIG_KIND : Nat := 0x730301
abbrev MIR_TRIG_ARG : Nat := 0x730302
abbrev MIR_TRIG_LEVEL : Nat := 0x730303
abbrev MIR_ARM : Nat := 0x730400
abbrev MIR_FRAME_SIZE : Nat := 0x730501
abbrev MIR_CAPACITY : Nat := 0x730502
abbrev MIR_TRIG_AT : Nat := 0x730503
abbrev MIR_FIRST_AT : Nat := 0x730504
abbrev MIR_PRE_VALID : Nat := 0x730505
abbrev MIR_FRAMES : Nat := 0x730506
abbrev MIR_DATA : Nat := 0x730600
abbrev MIR_EVENT : Nat := 0x730701
abbrev MIR_EVENT_EN : Nat := 0x730702
abbrev OTP_STATUS : Nat := 0x740000
abbrev OTP_ROW : Nat := 0x740101
abbrev OTP_DATA : Nat := 0x740102
abbrev OTP_ROW_STATE : Nat := 0x740103
abbrev OTP_WINDOW : Nat := 0x740201
abbrev OTP_VQPS : Nat := 0x740202
abbrev OTP_REBURN : Nat := 0x740203
abbrev OTP_TAG : Nat := 0x740204
abbrev OTP_RESULT : Nat := 0x740205
abbrev OTP_SPARES_FREE : Nat := 0x740301
abbrev OTP_CORRECTED : Nat := 0x740302
abbrev OTP_UNCORRECTABLE : Nat := 0x740303
abbrev OTP_FIRST_BAD : Nat := 0x740304
abbrev OTP_WEAK_BITS : Nat := 0x740305
abbrev OTP_CFG_REJECTED : Nat := 0x740306
abbrev SEC_STATUS : Nat := 0xA00000
abbrev LC_STATE : Nat := 0xA00100
abbrev LC_ADVANCE : Nat := 0xA00201
abbrev LC_TAG : Nat := 0xA00202
abbrev LC_RESULT : Nat := 0xA00203
abbrev LC_RETURN_NONCE : Nat := 0xA00301
abbrev LC_RETURN_TOKEN : Nat := 0xA00302
abbrev DBG_LEVEL : Nat := 0xA01000
abbrev DBG_LEVEL_REQ : Nat := 0xA01101
abbrev DBG_CHALLENGE : Nat := 0xA01102
abbrev DBG_PROOF : Nat := 0xA01103
abbrev DBG_HALT : Nat := 0xA01200
abbrev SEC_BOOT_DETAIL : Nat := 0xA02000
abbrev SEC_VENDOR_KEY : Nat := 0xA02101
abbrev SEC_METRO_KEY : Nat := 0xA02102
abbrev SEC_EVENT : Nat := 0xA03001
abbrev SEC_EVENT_EN : Nat := 0xA03002
abbrev RTC_STATUS : Nat := 0x700000
abbrev RTC_VALID : Nat := 0x700100
abbrev RTC_NOW : Nat := 0x700201
abbrev RTC_SECONDS : Nat := 0x700202
abbrev RTC_SET_SECONDS : Nat := 0x700203
abbrev RTC_ADJUST : Nat := 0x700204
abbrev RTC_CAL : Nat := 0x700205
abbrev RTC_SET_RESULT : Nat := 0x700206
abbrev CAL_NOW : Nat := 0x700301
abbrev CAL_SET : Nat := 0x700302
abbrev RTC_ALARM : Nat := 0x700401
abbrev RTC_ALARM_PERIOD : Nat := 0x700402
abbrev OASIS_RETAIN : Nat := 0x701000
abbrev OASIS_SUPPLY : Nat := 0x701101
abbrev OASIS_VCELL : Nat := 0x701102
abbrev OASIS_VBK : Nat := 0x701103
abbrev OASIS_CELL_LOW : Nat := 0x701104
abbrev OASIS_SWITCHES : Nat := 0x701105
abbrev TAMPER_CFG : Nat := 0x702001
abbrev TAMPER_AT : Nat := 0x702002
abbrev TAMPER_COUNT : Nat := 0x702003
abbrev TAMPER_CLEAR : Nat := 0x702004
abbrev RTC_EVENT : Nat := 0x703001
abbrev RTC_EVENT_EN : Nat := 0x703002

end Sys2Proof.Machine.K
end

