-- ==== Sys2Proof/Machine/Store.lean ====
section
/-! DEFINITION. A sparse store in canonical form: pairs of a key and a value, keys strictly rising, no pair equal to
the value an unlisted key reads as. Object values live in one (`σ` = Int), MRAM in another (`σ` = Byte). -/

namespace Sys2Proof.Machine

/-- Insert or replace the pair of key `k`. -/
def Store.insert {σ : Type} (k : Nat) (v : σ) : List (Nat × σ) → List (Nat × σ)
  | [] => [(k, v)]
  | (j, w) :: t =>
    if k < j then (k, v) :: (j, w) :: t
    else if j = k then (k, v) :: t
    else (j, w) :: Store.insert k v t

/-- Drop the pair of key `k`. -/
def Store.erase {σ : Type} (k : Nat) : List (Nat × σ) → List (Nat × σ)
  | [] => []
  | (j, w) :: t => if j = k then Store.erase k t else (j, w) :: Store.erase k t

/-- The listed value of key `k`. -/
def Store.lookup {σ : Type} (k : Nat) : List (Nat × σ) → Option σ
  | [] => none
  | (j, w) :: t => if j = k then some w else Store.lookup k t

/-- Write `v` at `k` where an unlisted key reads as `d`. -/
def Store.put {σ : Type} [DecidableEq σ] (d : σ) (k : Nat) (v : σ) (m : List (Nat × σ)) : List (Nat × σ) :=
  if v = d then Store.erase k m else Store.insert k v m

/-- Keys rise strictly above `lo`, and no pair holds the unlisted value. -/
def Store.wfFrom {σ : Type} [DecidableEq σ] (dflt : Nat → σ) : Option Nat → List (Nat × σ) → Bool
  | _, [] => true
  | lo, (k, v) :: t =>
    (match lo with | none => true | some l => decide (l < k)) && decide (v ≠ dflt k) && Store.wfFrom dflt (some k) t

end Sys2Proof.Machine
end

