-- ==== Sys2Proof/Machine/State.lean ====
section
/-! DEFINITION. Everything the specification gives the FV68, as plain data. A register or object whose value is a
number that ports read has its home in the object store `objs`, keyed by index × 256 + subindex; what the
specification describes as a state machine, a queue, a latch or a table has a field of its own. -/

namespace Sys2Proof.Machine

/-- Why a step stops. No command of this block faults: a command that finds nothing to act on changes nothing. -/
inductive Fault
  /-- Raised by no command. It stands so that the type has a value; safe, because nothing reaches it. -/
  | unreachable
  deriving DecidableEq, Repr

/-- Why a command has no meaning here. -/
inductive Refusal
  /-- Raised for a command that the model does not yet give a meaning; safe. -/
  | notModelled (mnemonic : String)
  deriving DecidableEq, Repr

/-- One entry of the operation table (R404), with the reservation of its tag (R403) and the done event that the
arbiter has registered ahead of the final status (R406, R407 kind 6). -/
structure OpEntry where
  status : OpStatus := .none
  kind : OpKind := .none
  issuer : Issuer := .internal
  abort : AbortMark := .none
  key : Nat := 0
  result : Nat := 0
  acceptedAt : Nat := 0
  finalAt : Nat := 0
  abortCode : Nat := 0
  joined : Option Nat := none
  reserved : Bool := false
  doneSeen : Bool := false
  deriving DecidableEq, Repr

/-- The operation table (R403): 128 entries and the last tag allocated. -/
structure OpTable where
  entries : Vector OpEntry 128 := Vector.replicate 128 {}
  last : Nat := 127
  deriving DecidableEq, Repr

/-- The interrupt tree (R398): bit n of each word is source n. `releaseHold` is the 1 µs INT release hold of R391, and
`firedAt` when the source that the armed capture watches first became PENDING since the arm (R435). -/
structure IntTree where
  pending : BitVec 512 := 0
  inService : BitVec 512 := 0
  releaseHold : Bool := false
  firedAt : Option Nat := none
  deriving DecidableEq, Repr

/-- The causes of a SEAL (R186 byte 32). -/
structure SealCauses where
  railFault : Bool := false
  supplyLoss : Bool := false
  hrst : Bool := false
  deriving DecidableEq, Repr

/-- The mode machine and what it remembers (R41–R53). `vaultLatch` and `shipLatch` are Oasis latches; `fsLatched`, `fsTimeWritten` and
`fsStoredRetry` are the two MRAM words of R53; `heldReset` is the held reset of R48 and R45; `sealDone` that the steps of R189 are
over and BOOT waits for HRST. -/
structure ModeSt where
  mode : Mode := .vault
  riding : Bool := false
  shipArmed : Bool := false
  fsPending : Bool := false
  fsLatched : Bool := false
  fsTimeWritten : Bool := false
  fsStoredRetry : Nat := 0
  retryExhausted : Bool := false
  heldClear : Option Reason := none
  holdup : Bool := false
  vaultLatch : Bool := false
  shipLatch : Bool := false
  heldReset : Bool := false
  hrstLow : Bool := false
  sealCauses : SealCauses := {}
  sealDone : Bool := false
  sealMode : Mode := .vault
  sealStart : Nat := 0
  serviceFromFailsafe : Bool := false
  serviceLeaving : Bool := false
  waking : Option Nat := none
  resetCause : Nat := 1
  vinAbsent1ms : Bool := true
  beaconSaved : Option Nat := none
  deriving DecidableEq, Repr

/-- The capability fuses (R371, R446): units, tiles, phases, metering points. -/
structure Caps where
  units : Nat := 0x3F
  tiles : Nat := 0xFF
  phases : Nat := 0x00FFFFFFFFFFFFFF
  mp : Nat := 0x0F
  deriving DecidableEq, Repr

/-- One phase (R58–R91). `stored` is its isolation record in MRAM (R82); `declared` a finding that isolates it at its next cycle edge;
`next` the state that a shed or a return gives it there (R85); `joining` a spare that runs its pre-join check (R81); `avg` the pool
average that has arrived for the next update (R70); `offset` the bias offset in mA that PREBIAS measured (R72); `testing` the reversed
bias of R73 and `testDone` the bar of R75; `iSum` and `iN` gather `PH_I` over a management tick (R73, R89); `peak` the highest cycle
mean since `PH_I_PEAK` was last read, `vcf` and `vbus` what the last cycle measured (R78, R89), `scale` the `PH_SHED_SCALE` that the
tile applies (R86), `testAt` when the last test ended (R75); `ring` the last 50 current samples and `vring` the last 100 of its
rail-sense channel in mV with their beacon times, newest first (R184). Duty terms are those of R68. `thSum`, `thAct`, `thN` gather a
Sirocco interval (R203); `hs` is the hot-spot rise in mK, `hotRun` its updates above `SIR_T_SHUT` in a row (R204, R211). -/
structure PhaseSt where
  st : PhState := .off
  rail : Option (Fin 32) := none
  role : PhRole := .none
  isoReason : IsoReason := .none
  isoAt : Nat := 0
  stored : Option (IsoReason × Nat) := none
  declared : IsoReason := .none
  next : Option PhState := none
  joining : Bool := false
  integ : Int := 0
  ePrev : Int := 0
  dterm : Int := 0
  fresh : Bool := true
  trim : Int := 0
  duty : Int := 0
  slot : Int := 0
  avg : Option Int := none
  iCycle : Int := 0
  offset : Int := 0
  peak : Int := 0
  vcf : Int := 0
  vbus : Option Int := none
  scale : Int := 1000
  iSum : Int := 0
  iN : Nat := 0
  ring : List (Nat × Int) := []
  vring : List (Nat × Int) := []
  excluded : Bool := false
  frozen : Bool := false
  testing : Bool := false
  testDone : Bool := false
  testAt : Nat := 0
  openCount : Nat := 0
  cfCount : Nat := 0
  atLimit : Bool := false
  avgStale : Bool := false
  peakLimiting : Bool := false
  dropout : Bool := false
  limited : Bool := false
  actCycles : Nat := 0
  cycles : Nat := 0
  thSum : Int := 0
  thAct : Nat := 0
  thN : Nat := 0
  hs : Int := 0
  hotRun : Nat := 0
  deriving DecidableEq, Repr

/-- One die: whether it is FENCED (R298) or in UVLO; `quenchUp`, the wire the tile drives (R186); and of its newest
status frame in the Keeper the beacon time, VBUS in mV, and the last current and rail-sense sample of each local phase (R184, R188). -/
structure TileSt where
  fenced : Bool := false
  uvlo : Bool := false
  quenchUp : Bool := false
  frameAt : Option Nat := none
  frameVbus : Int := 0
  frameI : List Int := []
  frameV : List Int := []
  deriving DecidableEq, Repr

/-- The frame reference (R63): `external` once it has moved, or is about to move at the frame boundary `start`, to SYNCIN; the count of
in-range SYNCIN periods and the length of the last one in ns; the last SYNCIN edge, `offset` the ticks from an edge to its frame pulse,
and `pulses` the latest of those pulses, the newest first; `base` a frame pulse from which the internal frame goes on. -/
structure FrameSt where
  external : Bool := false
  inRange : Nat := 0
  period : Nat := 20000
  base : Nat := 0
  edge : Nat := 0
  offset : Nat := 0
  start : Nat := 0
  pulses : List Nat := []
  deriving DecidableEq, Repr

/-- A command on its way to a rail's tiles, waiting for its apply tick (R98). -/
inductive RailCmd
  | volt (mv : Int) (tag : Option Nat)
  | up
  | down
  | abort (tag : Nat)
  | cap (limit : Option Int)
  deriving DecidableEq, Repr

/-- The ramp reference of R99: the value `v0` in µV at beacon tick `t0`, moving towards `target` µV at `slew` µV
per µs. -/
structure Ramp where
  v0 : Int := 0
  t0 : Nat := 0
  target : Int := 0
  slew : Int := 0
  deriving DecidableEq, Repr

/-- One rail (R93–R120). `members` and `spares` are the lists in use (R95); `bus` is the phase type; `ref` the ramp reference and
`coilR` the coil loop's reference in mV (R113); `armed`, `qualified`, `badRun` the PG qualifier of R153 and whether it stands in a run
of false samples; `dwellFrom`, `pglFrom` the ticks since which the OC dwell (R110) and the PG-loss timer (R175) run; `cap` the ledger
cap in force (R133), `fastSent` a fast cap on its way to the members and `fastCap` the fast cap in force (R137); `shedHold` the tick
of the last voltage command (R85); `clampHold` the clamp in mA that the survivors of an isolation keep, and until when (R108);
`upStatus` how the last power-up command was answered (R105); `shed` that the ledger has powered it down (R133). -/
structure RailSt where
  st : RailState := .unbuilt
  bus : Bool := false
  members : List (Fin 56) := []
  spares : List (Fin 56) := []
  ref : Ramp := {}
  moving : Bool := false
  coilR : Int := 0
  cmds : List RailCmd := []
  tag : Option Nat := none
  avg : Option Int := none
  avgCount : Nat := 0
  cap : Option Int := none
  fastSent : Option Int := none
  fastCap : Option Int := none
  limiting : Bool := false
  capped : Bool := false
  degraded : Bool := false
  compliance : Bool := false
  pg : Bool := false
  armed : Bool := false
  qualified : Bool := false
  badRun : Bool := false
  chatterSeen : Bool := false
  everQualified : Bool := false
  shedHold : Option Nat := none
  clampHold : Option (Int × Nat) := none
  upStatus : OpStatus := .none
  deferredUp : Bool := false
  shed : Bool := false
  dwellFrom : Option Nat := none
  pglFrom : Option Nat := none
  deriving DecidableEq, Repr

/-- One AUX output (R115–R117): its state; `ramp`, that an output in its current limit is still in its ramp; `pg`, that PG has been
declared since the ramp began; and what holds it off: `autoOff` its `AUX_AUTO`, by a write of `AUX_EN` = 0 or by R178,
until the next IDLE entry; `forcedOff` its `AUX_EN`, by R178, and `heldOff` both, by R213 or R214, until `AUX_EN` is written to 1. -/
structure AuxSt where
  st : AuxState := .off
  ramp : Bool := false
  pg : Bool := false
  autoOff : Bool := false
  forcedOff : Bool := false
  heldOff : Bool := false
  deriving DecidableEq, Repr

/-- Where a moving group stands in its current step (R151, R155): in admission and delay, commands sent, at a bell
point, ringing, or waiting for its dependants to go down first (R148). -/
inductive StepStage
  | idle | asking | sent | bell | rung | offDelay | downSent | dependants
  deriving DecidableEq, Repr

/-- One sequencer group (R143–R159). `waiting` is a power-up of a DOWN group that the next management tick takes up;
`latched` a power-up latched while FALLING; `tag` the tag of the movement in progress and `latchTag` that of the
latched or waiting power-up; `sentSteps` the steps that sent power-up commands, newest
first; `reverseStep` the step that goes down without an off delay (R156); `unbuilt` that it goes down because a step named an unbuilt
rail (R151); `downAt` when the group last became DOWN. -/
structure GroupSt where
  st : GrpState := .down
  waiting : Bool := false
  latched : Bool := false
  tag : Option Nat := none
  latchTag : Option Nat := none
  stage : StepStage := .idle
  cur : Option Nat := none
  admitted : Bool := false
  deferred : Bool := false
  wait : GrpWait := .none
  sentSteps : List Nat := []
  reversing : Bool := false
  reverseStep : Option Nat := none
  unbuilt : Bool := false
  downAt : Option Nat := none
  deriving DecidableEq, Repr

/-- A transaction of the legacy master (R164). -/
inductive LegFrame
  | idRead | statusRead | stageGo (n : Nat) | stageDown (n : Nat)
  deriving DecidableEq, Repr

/-- One legacy FV4410 slave seen by the master (R165): whether it is lost, the failures in a row, whether a retry is due, whether it
has reported the stage of its step done, and the transactions it is still owed, the running one first. -/
structure SlaveSt where
  lost : Bool := false
  fails : Nat := 0
  retry : Bool := false
  done : Bool := false
  owed : List LegFrame := []
  deriving DecidableEq, Repr

/-- The sequencer's shared lines and legacy bus (R160–R167). `fogDrive` and `bellDrive` are the device's own
pull-downs; `fogLow` a recognised FOG low that has not been released, `fogBall` and `bellBall` the levels read, and `fogFrom`
the time from which FOG has not been held low by the device itself. -/
structure SeqSt where
  groups : Vector GroupSt 16 := Vector.replicate 16 {}
  fogDrive : Bool := false
  fogLow : Bool := false
  fogBall : Bool := false
  fogFrom : Nat := 0
  bellDrive : Bool := false
  bellBall : Bool := false
  slaves : Vector SlaveSt 8 := Vector.replicate 8 {}
  lastGroup : Nat := 0
  lastGo : Bool := true
  commanded : Bool := false
  deriving DecidableEq, Repr

/-- The two-wire bus as the device sees it (R197, R388–R390); `sent` is the frame that it last sent as controller (R164). -/
structure TwBus where
  stuck : Bool := false
  clearing : Bool := false
  sent : Bytes := []
  deriving DecidableEq, Repr

/-- A rail's entry short of v at its lead tile (R187): bytes 0–2, the conditions without OV and UV, the phase whose sense channel
gives v, the OV thresholds and the UV threshold that are armed, bytes 6–31, and the value that stands for a v that no ring gives. -/
structure SnapRail where
  head : Bytes
  cond : Nat
  lead : Option (Fin 56)
  over_ : List Int
  under : Option Int
  tail : Bytes
  v : Int
  deriving DecidableEq, Repr

/-- A phase's entry short of its last current sample: the bytes before and after it, and the values that stand for a sample and an age
that no ring gives (R184, R187). -/
structure SnapPhase where
  head : Bytes
  tail : Bytes
  sample : Int
  age : Int
  deriving DecidableEq, Repr

/-- A tile's entry short of its frame's age at T: the bytes before it, the frame's beacon time, and the values that stand for the age and
time of a frame that there is not (R188). -/
structure SnapTile where
  head : Bytes
  frame : Option Nat
  age : Int
  at_ : Int
  deriving DecidableEq, Repr

/-- What the snapshot freezes (R184, R186): the mode, RTC seconds and fraction, the Keeper's four voltages in mV, the points with
an open session, whether a tile is stale, and the entries of bytes 128–4,091 of the slot; an absent phase has none. -/
structure SnapCore where
  mode : Nat
  rtc : Nat
  frac : Nat
  vhk : Nat
  vbus : Nat
  vin : Nat
  vbat : Nat
  openMask : Nat
  stale : Bool
  rails : List SnapRail
  phases : List (Option SnapPhase)
  tiles : List SnapTile
  rest : Bytes
  deriving DecidableEq, Repr

/-- A trigger of the running SEAL (R183): T as it was stamped or estimated, and whether the stamp of the detecting tile may still
come. -/
structure TrigRec where
  trig : Trigger
  at_ : Nat
  estimated : Bool
  awaiting : Bool
  deriving DecidableEq, Repr

/-- Supervision's own state (R172–R201): the quench latch, every trigger of the running SEAL, the primary trigger of the running SEAL
and its secondaries with their tick offsets, whether its stamp is awaited (R183), what the snapshot froze, the slot it was written to,
whether step 1 wrote the FAILSAFE latch, the points whose session was signed in this SEAL, the close reason of its first cause (R281),
whether that SEAL's finding is still to be raised (R192), and VHK as last measured. -/
structure SupSt where
  quenchLatch : Bool := false
  triggers : List TrigRec := []
  primary : Option Trigger := none
  primaryAt : Nat := 0
  estimated : Bool := false
  awaitingStamp : Bool := false
  secondary : List (Nat × Trigger) := []
  overflow : Bool := false
  snap : Option SnapCore := none
  slot : Option Nat := none
  latchWritten : Bool := false
  signedMask : Nat := 0
  firstReason : Nat := 0
  faultReport : Bool := false
  reportDue : Bool := false
  vhk : Nat := 0
  deriving DecidableEq, Repr
/-- The path states of R225. -/
inductive PathState
  | start | vin | battery | qualify | switchback | rest | noSource
  deriving DecidableEq, Repr

/-- The codes of `PP_STATE` (R225). -/
def PathState.code : PathState → Nat
  | .start => 0 | .vin => 1 | .battery => 2 | .qualify => 3 | .switchback => 4 | .rest => 5 | .noSource => 6

/-- The findings of the battery probe (R230). -/
inductive BatState
  | unknown | present | missing | shorted | disconnected
  deriving DecidableEq, Repr

/-- The codes of `PP_BAT_STATE` (R245). -/
def BatState.code : BatState → Nat
  | .unknown => 0 | .present => 1 | .missing => 2 | .shorted => 3 | .disconnected => 4

/-- The charger states of R239. -/
inductive ChgState
  | disabled | waiting | precharge | fastCc | fastCv | done | suspended | fault
  deriving DecidableEq, Repr

/-- The codes of `CHG_STATE` (R239). -/
def ChgState.code : ChgState → Nat
  | .disabled => 0 | .waiting => 1 | .precharge => 2 | .fastCc => 3 | .fastCv => 4 | .done => 5 | .suspended => 6
  | .fault => 7

/-- The power path (R222–R234). `infetOn`, `batpathOn` are the gates as they conduct; `holdOpen` an Oasis hold of BATFET that lasts
until START goes to VIN (R229, R232); `vinAbove` that VIN exceeds VBUS; `vbatKnown` that VBAT has been measured since the last BOOT;
`cutoff` the Oasis cutoff latch; `pulse` the long-press reset pulse and `pulseOpen` its first 400 ms; `pbReset` that a long-press
reset has still to be reported, `cutoffDue` that the running SEAL ends with the cutoff latch, `vinCycle` that VIN has been absent for
1 ms since it last qualified. -/
structure PathSt where
  st : PathState := .start
  inService : Bool := false
  inWindow : Bool := false
  qualified : Bool := false
  vinBlock : Bool := false
  infetOn : Bool := false
  batpathOn : Bool := false
  vinAbove : Bool := false
  vbatKnown : Bool := false
  holdOpen : Bool := false
  cutoff : Bool := false
  cutoffDue : Bool := false
  pulse : Bool := false
  pulseOpen : Bool := false
  bat : BatState := .unknown
  presentRun : Nat := 0
  probing : Bool := false
  restHold : Bool := false
  pbPressed : Bool := false
  pbReset : Bool := false
  vinCycle : Bool := true
  qualifiedAt : Option Nat := none
  ntcOpen : Bool := false
  ntcShort : Bool := false
  deriving DecidableEq, Repr

/-- The charger (R235–R244). `cap` is the ledger cap on its set point; `preTimer` and `safeTimer` count milliseconds; `wdClear` that
host contact ends the fallback at the next tick; `ovStop` a stop by the comparator of R244, `zone` the zone 0–4 or 5 UNKNOWN, `duty`
the duty of the loop that governs, in thousandths. -/
structure ChargerSt where
  st : ChgState := .disabled
  cyclePending : Bool := true
  wdFallback : Bool := false
  wdClear : Bool := false
  voltageLoop : Bool := false
  thermReg : Bool := false
  halfRate : Bool := false
  fastStop : Bool := false
  cap : Option Int := none
  probePause : Bool := false
  ovStop : Bool := false
  preTimer : Nat := 0
  safeTimer : Nat := 0
  zone : Nat := 5
  duty : Int := 0
  deriving DecidableEq, Repr


/-- How the estimator is to start on the next tick with the battery PRESENT (R262, R263): after BOOT, after a swap, or after BOOT and
a swap that keeps, or one that resets, the learned data. -/
inductive EstStart
  | none | boot | swap | bootSwap | bootReset
  deriving DecidableEq, Repr

/-- One cell of the impedance table: R0, R1, R2 in 0.1 mΩ (R255). -/
structure ImpCell where
  r0 : Nat := 0
  r1 : Nat := 0
  r2 : Nat := 0
  deriving DecidableEq, Repr

/-- The battery estimator (R251–R265). `soc` and `socOcv` are in 2⁻³², `v1`, `v2` in µV; `p` is the covariance (soc soc, soc v1, soc
v2, v1 v1, v1 v2, v2 v2) in 2⁻¹²⁸ of fraction and mV; currents are in µA and charges in µA × 10 ms. `imp` holds the cells of the table
that are not the default ones. `prev` is the last tick's voltage and current where its source was not mixed; `learnt` when each cell
last learned; `rest` the rest count and `anchors` the anchors of this rest; `lastFirst` the soc and time of the previous first anchor
and `sumQ` the charge since; `means` the currents of the last 60 s. The last lines gather what R252 and R256 look at within the tick
under way: its start, a swap in it, and in the last one; since when ON_BATTERY stands and when it stood before, whether the charger
switched, and at its start, whether BATPATH_ON was seen, whether `PP_STATE` was anything but BATTERY, QUALIFY or SWITCHBACK; the
records that wait to be written, and those that the last tick wrote (bit 0 CORE, bit s + 1 row s). -/
structure EstSt where
  start : EstStart := .boot
  ran : Bool := false
  soc : Int := 0
  v1 : Int := 0
  v2 : Int := 0
  p : Vector Int 6 := Vector.replicate 6 0
  socOcv : Int := 0
  imp : Vector (Option ImpCell) 96 := Vector.replicate 96 none
  learnt : Vector (Option Nat) 96 := Vector.replicate 96 none
  prev : Option (Int × Int) := none
  residue : Int := 0
  rest : Nat := 0
  anchors : Nat := 0
  lastFirst : Option (Int × Nat) := none
  sumQ : Int := 0
  means : List Int := []
  lowShown : Bool := false
  socArmed : Bool := true
  pending : Bool := false
  windowAnchor : Bool := false
  retryWait : Bool := false
  swapNow : Bool := false
  swapTick : Bool := false
  bidRun : Nat := 0
  ntcOpenRun : Nat := 0
  tickAt : Nat := 0
  batFrom : Option Nat := none
  batPast : List (Nat × Nat) := []
  chgSeen : Bool := false
  chgStart : Bool := false
  batpathSeen : Bool := false
  otherPath : Bool := true
  coreDue : Bool := false
  rowsDue : Nat := 0
  wrote : Nat := 0
  deriving DecidableEq, Repr
/-- The session states of R278. -/
inductive SessState
  | none | opening | opened | closing
  deriving DecidableEq, Repr

/-- The codes of `MP_SESS_STATE` (R278). -/
def SessState.code : SessState → Nat
  | .none => 0 | .opening => 1 | .opened => 2 | .closing => 3

/-- A record that MRAM holds in two slots, each with its sequence number (R264, R276, R286): none is a slot whose CRC is
bad. -/
structure TwoSlot (α : Type) where
  a : Option (Nat × α) := none
  b : Option (Nat × α) := none
  deriving DecidableEq, Repr

/-- What one input's sinc3 filter keeps of the two blocks of 256 bits before the present one (R273): the sum of the last
block under the middle third of the filter's weights, and the sums of the last and the last but one under the last third. -/
structure SincSt where
  mid : Int := 0
  last : Int := 0
  older : Int := 0
  deriving DecidableEq, Repr

/-- A copy of a point's registers and residues in MRAM (R276), with the RTC seconds of the copy. -/
structure RegCopy where
  exp : Nat
  imp : Nat
  expRes : Nat
  impRes : Nat
  rtc : Nat
  deriving DecidableEq, Repr

/-- One metering point (R269–R282). `exp`, `imp` are the energy registers in µWh and `expRes`, `impRes` their residues (R274);
`sessId` and `sessRef` as they stood at the open; `closeWait` a close that waits for START; `closeSeen` that a close instant has
passed; `reason` the close reason of R281; `lastExp`, `lastImp` the energy of the last closed session; `copy` the two slots of the
register copy; `eventsLost` that `JNL_EVENTS_LOST` rose in the session (R284); `vSinc`, `iSinc` the filters of its two inputs. `sumV`,
`sumI`, `sumP` (nV, nA, 10⁻¹⁸ W) and `sumN` gather the samples of a management tick for its means (R274). -/
structure PointSt where
  sess : SessState := .none
  openTag : Option Nat := none
  closeTag : Option Nat := none
  sessId : Bytes := []
  sessRef : Nat := 0
  closeWait : Bool := false
  closeSeen : Bool := false
  endWritten : Bool := false
  reason : Nat := 0
  startSeq : Nat := 0
  endSeq : Nat := 0
  startSec : Nat := 0
  startExp : Nat := 0
  startImp : Nat := 0
  eventsLost : Bool := false
  timeChanged : Bool := false
  overSeen : Bool := false
  overArmed : Bool := true
  vStuck : Bool := false
  iStuck : Bool := false
  vOver : Bool := false
  iOver : Bool := false
  exp : Nat := 0
  imp : Nat := 0
  expRes : Nat := 0
  impRes : Nat := 0
  lastExp : Nat := 0
  lastImp : Nat := 0
  copy : TwoSlot RegCopy := {}
  vSinc : SincSt := {}
  iSinc : SincSt := {}
  sumV : Int := 0
  sumI : Int := 0
  sumP : Int := 0
  sumN : Nat := 0
  deriving DecidableEq, Repr

/-- A journal record that waits for the END–SIGNATURE pair under way (R280, R284), with the time and the register
values of its own instant. The value of a SEALED-class write is applied when its record is written (R277). -/
inductive WaitRec
  | start (m : Fin 4) (sec frac exp imp : Nat)
  | finish (m : Fin 4) (sec frac exp imp : Nat) (estimated : Bool)
  | event (code mp : Nat) (data : Bytes) (sec frac : Nat)
  | sealedWrite (key size : Nat) (value : Int) (sec frac : Nat)
  deriving DecidableEq, Repr

/-- The journal (R283–R291): the next sequence number, `JNL_ACK`, the sequence number of the latest JOURNAL_INIT, the
records that wait, the point whose signature is being made, and the two-slot header that holds the next sequence number and
`JNL_ACK` (R286). -/
structure JnlSt where
  next : Nat := 2
  ack : Nat := 0
  header : TwoSlot (Nat × Nat) := { a := some (1, (2, 0)) }
  initSeq : Nat := 1
  waiting : List WaitRec := []
  signing : Option (Fin 4) := none
  timeInvalid : Bool := false
  recovered : Bool := false
  warned : Bool := false
  deriving DecidableEq, Repr

/-- The metrology engine (R269–R277). -/
structure MetSt where
  points : Vector PointSt 4 := Vector.replicate 4 {}
  jnl : JnlSt := {}
  clockFault : Bool := false
  frozen : Bool := false
  deriving DecidableEq, Repr


/-- The states of a diode sensor (R206, R208). -/
inductive SensorState
  | valid | disagree | opened | short
  deriving DecidableEq, Repr

/-- The codes of `SIR_SENSOR_STATE` (R218). -/
def SensorState.code : SensorState → Nat
  | .valid => 0 | .disagree => 1 | .opened => 2 | .short => 3

/-- One diode sensor (R205–R211): its last reading in 0.01 °C with the beacon time of its conversion (R206), its state, and its
samples in a row that disagree and that are above `SIR_T_SHUT`. -/
structure SensorSt where
  reading : Option Int := none
  readAt : Nat := 0
  st : SensorState := .valid
  disRun : Nat := 0
  hotRun : Nat := 0
  deriving DecidableEq, Repr

/-- How a tile's reference is to be set at its next sample (R207). -/
inductive RefDue
  | none | boot | release
  deriving DecidableEq, Repr

/-- What the objects of a tile show at a management tick: its values as its last update left them (R217), temperatures in mK or
0.001 °C, each sensor with its reading, the modelled temperature beside it and its state. -/
structure ThermShown where
  tmax : Int := 0
  tj : Int := 0
  tref : Int := 0
  residual : Int := 0
  fast : Bool := false
  sensors : Vector SensorSt 4 := Vector.replicate 4 {}
  models : Vector Int 4 := Vector.replicate 4 0
  deriving DecidableEq, Repr

/-- One tile's thermal network (R202–R211), temperatures in mK or 0.001 °C: the four stage rises, the reference, the
junction and the highest temperature of the last update, the updates in a row with the junction above `SIR_T_SHUT`; the
sensors and the median residual; fast rate, the beacon tick from which its sensors follow it and `rateWas`, their rate until then
(R210); whether every value is low; WARN; the start of a large residual and DIVERGE; whether the loss of every sensor has been
raised; and what its objects show. -/
structure ThermTile where
  dt : Vector Int 4 := Vector.replicate 4 0
  tref : Int := 0
  tj : Int := 0
  tmax : Int := 0
  hotRun : Nat := 0
  due : RefDue := .boot
  sensors : Vector SensorSt 4 := Vector.replicate 4 {}
  residual : Int := 0
  fast : Bool := false
  rateFrom : Nat := 0
  rateWas : Bool := false
  low : Bool := false
  warn : Bool := false
  far : Bool := false
  diverge : Bool := false
  lost : Bool := false
  shown : ThermShown := {}
  deriving DecidableEq, Repr

/-- Sirocco (R202–R220): the tiles; `shutIdle` that the handling of R213 in IDLE has not re-armed; the guard of R214: the
Keeper sensor it watches, the limit it compares with, the readings above it in a row, and whether it tripped. -/
structure ThermSt where
  tiles : Vector ThermTile 8 := Vector.replicate 8 {}
  shutIdle : Bool := false
  guardOn : Option (Fin 3) := none
  guardLimit : Int := 0
  guardRun : Nat := 0
  guardTripped : Bool := false
  deriving DecidableEq, Repr

/-- A nonce drawn for a challenge, with its time (R339, R461, R463). -/
structure Nonce where
  bytes : Bytes
  at_ : Nat
  deriving DecidableEq, Repr

/-- One EVENT waiting in a partner's queue (R336): source, beacon time, value of the event object, counter, how often
it has been sent. -/
structure EventRec where
  source : Nat
  raisedAt : Nat
  value : Nat
  counter : Nat
  sent : Nat := 0
  deriving DecidableEq, Repr

/-- A block transfer (R332, R333): its direction, object and total size, the bytes received or to be sent, the next segment, the last
one acknowledged, the Caravan channel that it leases, and the code that it ends with once the channel has halted (R430). -/
structure BlockXfer where
  write : Bool
  key : Nat
  total : Nat
  data : Bytes := []
  next : Nat := 0
  acked : Nat := 0
  xid : Nat
  channel : Fin 8
  lost : Option Abort := none
  deriving DecidableEq, Repr

/-- The last reply to a partner for one XID (R331): the request it answered, the reply, and when. -/
structure Stored where
  xid : Nat
  request : Nat × Bytes
  reply : Nat × Bytes
  at_ : Nat
  deriving DecidableEq, Repr

/-- One entry of the partner table (R330–R344). `nonce` is the challenge pending with its role; `heardAt` the last
frame, `activeAt` the last frame that was no HEARTBEAT. -/
structure Partner where
  port : Nat
  node : Nat
  version : Nat := 1
  role : Role := .peer
  mask : Nat := 0
  queue : List EventRec := []
  counter : Nat := 0
  identity : Bytes := []
  period : Nat := 60000
  joinedAt : Nat := 0
  heardAt : Nat := 0
  activeAt : Nat := 0
  nonce : Option (Role × Nonce) := none
  token : Bytes := []
  stored : List Stored := []
  block : Option BlockXfer := none
  deriving DecidableEq, Repr

/-- The lockout of a role (R341): failures in a row, lockouts so far, and whether one runs. -/
structure LockSt where
  fails : Nat := 0
  lockouts : Nat := 0
  lockEnd : Option Nat := none
  deriving DecidableEq, Repr

/-- What becomes of a frame that the object protocol sends (R316): it goes out whole, is suppressed, goes out with data
bits inverted before the CAN CRC, or with the complement of that CRC. -/
inductive Fate
  | whole | dropped | altered | badCrc
  deriving DecidableEq, Repr

/-- A frame that the device sends: port, function, destination, XID, content before the protocol CRC, its identifier, that CRC, and its
fate. -/
structure Sent where
  port : Nat
  func : Nat
  dst : Nat
  xid : Nat
  body : Bytes
  id : Nat
  crc : Nat
  fate : Fate := .whole
  deriving DecidableEq, Repr

/-- A port's controller (R323, R344): its transmit and receive error counters, bus-off, and the counter of HEARTBEAT. -/
structure PortSt where
  txErr : Nat := 0
  rxErr : Nat := 0
  busOff : Bool := false
  hbCounter : Nat := 0
  deriving DecidableEq, Repr

/-- A received frame at a controller (R316): one that the object protocol will take, with its function, or one whose protocol CRC
fails. -/
inductive RxFrame
  | whole (func : Nat) (f : Frame)
  | badCrc (port : Nat)
  deriving DecidableEq, Repr

/-- The port of a received frame. -/
def RxFrame.port : RxFrame → Nat
  | .whole _ f => f.port
  | .badCrc q => q

/-- The field network (R323–R345). `out` holds the frames that the latest command sent; `heldTx` and `heldRx` the frames
that a REORDER of Haboob holds; `conflictAt` and `crcAt` the last NODE_ID_CONFLICT and FRAME_CRC;
`lastFail` the last role that failed a proof; `tlmCount` the counters of the telemetry maps, and `tlmVals` what the enabled ones hold of the
last cut until it is sent (R337). -/
structure NetSt where
  partners : Vector (Option Partner) 64 := Vector.replicate 64 none
  dropArmed : Bool := true
  pwHash : Option Bytes := none
  locks : Vector LockSt 3 := Vector.replicate 3 {}
  lastFail : Option (Fin 3) := none
  ports : Vector PortSt 2 := Vector.replicate 2 {}
  out : List Sent := []
  heldTx : Option Sent := none
  heldRx : Option RxFrame := none
  conflictAt : Option Nat := none
  crcAt : Option Nat := none
  tlmCount : Vector Nat 8 := Vector.replicate 8 0
  tlmVals : Vector (Option Bytes) 8 := Vector.replicate 8 none
  deriving DecidableEq, Repr
/-- The states of `BEAM_STATE` (R319). -/
inductive LinkState
  | idle | training | up | fenced | off
  deriving DecidableEq, Repr

/-- The codes of `BEAM_STATE` (R319). -/
def LinkState.code : LinkState → Nat
  | .idle => 0 | .training => 1 | .up => 2 | .fenced => 3 | .off => 4

/-- One Beam flit as its receiver reads it (R300): the wire delivers it whole. `time` carries the stamp and how many Lantern clocks
the follower has counted since the last TIME flit; `sample` and `status` carry measured values; `command` carries values, and as an
acknowledgement of a commit's prepare the tile's word (R362); `isolation` and `stamp` are the two kinds of URGENT beside LINK_DOWN;
`ackNak` is the one unsequenced flit among them, with its payload word: bits 4–0 the SEQ that it names, bit 5 a NAK. -/
inductive FlitBody
  | status (frame : TileFrame) (samples : List Sample)
  | sample (samples : List Sample)
  | time (b clocks : Nat)
  | command (samples : List Sample) (ack : Bool)
  | isolation (p : Fin 56) (why : IsoReason)
  | stamp (at_ : Nat)
  | linkDown
  | ackNak (payload : Nat)
  deriving DecidableEq, Repr

/-- The TYPE of a flit (R300). -/
def FlitBody.type : FlitBody → Nat
  | .status _ _ => 1 | .sample _ => 2 | .time _ _ => 4 | .command _ _ => 5
  | .isolation _ _ => 7 | .stamp _ => 7 | .linkDown => 7 | .ackNak _ => 3

/-- A flit on a link: its direction (`up`: tile to Keeper), its SEQ and what it carries. -/
structure Flit where
  up : Bool
  seq : Nat
  body : FlitBody
  deriving DecidableEq, Repr

/-- The transmitter of one direction of a link (R300, R302): how many flits of each TYPE are ready and wait, the payload of the ACKNAK made
ready last, the TYPE of the flit being sent, its last flit boundary in units of 5 ns, the SEQ of its next sequenced flit, its last 16
sequenced flits, oldest first, and those that a NAK has it resend and that have not arrived yet (R303). -/
structure TxSt where
  waiting : Vector Nat 8 := Vector.replicate 8 0
  ackWord : Nat := 0
  sending : Fin 8 := 0
  at_ : Nat := 0
  seq : Nat := 0
  kept : List Flit := []
  replay : List Flit := []
  deriving DecidableEq, Repr

/-- One Beam link and its tile's beacon follower (R303–R311). `rxUp` and `rxDown` are the SEQ expected next at the Keeper and at the
tile, `failsUp`/`failsDown` the failures of that SEQ in a row, `waitUp`/`waitDown` whether its replay is awaited; `nakSeq`, `nakRun`
the SEQ of the tile's last NAK and how often in a row; `unacked` and `unackedDown` the flits that the Keeper and the tile have
received since their last acknowledgement; `replaying` whether a replay was in progress at the last cut; `follower` and `rate` are in
2⁻³² ticks, `err` the last error; `owed` the part of negative corrections that the follower has still to make up, `shown` the LOCKED
flag last reported, `lostLock` that its loss was reported and not yet its return; `txUp` and `txDown` are the tile's and the Keeper's
transmitters (R302); `exchanged` that `err` has not been reported yet, `farRun` the reports outside ±200 ns in a row. -/
structure LinkSt where
  st : LinkState := .idle
  attempts : Nat := 0
  rxUp : Nat := 0
  rxDown : Nat := 0
  failsUp : Nat := 0
  failsDown : Nat := 0
  waitUp : Bool := false
  waitDown : Bool := false
  nakSeq : Nat := 0
  nakRun : Nat := 0
  unacked : Nat := 0
  unackedDown : Nat := 0
  replaying : Bool := false
  failTimes : List Nat := []
  downFails : Nat := 0
  downLost : Bool := false
  follower : Int := 0
  rate : Int := 0x40000000
  locked : Bool := false
  goodRun : Nat := 0
  offRun : Nat := 0
  err : Int := 0
  owed : Int := 0
  shown : Bool := false
  lostLock : Bool := false
  exchanged : Bool := false
  farRun : Nat := 0
  txUp : TxSt := {}
  txDown : TxSt := {}
  deriving DecidableEq, Repr

/-- Haboob (R314–R318): the generator, the items since the arm, the role and debug level of the arm, whether the lifecycle was then SEALED,
the bits that the last BIT or BURST inverted, and the flit that a REORDER holds. -/
structure HabSt where
  lfsr : Nat := 0
  item : Nat := 0
  role : Nat := 0
  level : Nat := 0
  sealed : Bool := false
  bits : List Nat := []
  held : Option (Fin 8 × Flit) := none
  deriving DecidableEq, Repr


/-- The lifecycle states (R458). -/
inductive Lifecycle
  | blank | opened | sealed | returned
  deriving DecidableEq, Repr

/-- The codes of `LC_STATE` (R458). -/
def Lifecycle.code : Lifecycle → Nat
  | .blank => 1 | .opened => 2 | .sealed => 3 | .returned => 4

/-- The debug levels (R463). -/
inductive DbgLevel
  | none | observe | control | vendor
  deriving DecidableEq, Repr

/-- The codes of `DBG_LEVEL` (R463). -/
def DbgLevel.code : DbgLevel → Nat
  | .none => 0 | .observe => 1 | .control => 2 | .vendor => 3

/-- One OTP row: its 64 data bits and, for an ECC row, its 8 check bits (R444). -/
structure OtpRow where
  data : Nat
  check : Nat
  deriving DecidableEq, Repr

/-- What a burn does (R448, R451): a row with the value to reach, or the reburn of every programmed row. -/
inductive Burn
  | row (r : Nat) (value : OtpRow)
  | reburn
  deriving DecidableEq, Repr

/-- The OTP array (R444–R451): the programmed rows, the logical rows remapped to spares S0, S1, …, the window and the burn in it,
whether VQPS has been in its window for 10 ms and whether it left it since the last tick, and the rows that read uncorrectable at the
last BOOT. -/
structure OtpSt where
  rows : List (Nat × OtpRow) := []
  spares : List Nat := []
  window : Bool := false
  burn : Option Burn := none
  burnTag : Option Nat := none
  vqpsOk : Bool := false
  vqpsLeft : Bool := false
  bad : List Nat := []
  rowSel : Vector Nat 65 := Vector.replicate 65 0
  deriving DecidableEq, Repr

/-- A lifecycle transition under way (R460): its target and tag. -/
structure Transition where
  target : Lifecycle
  tag : Nat
  deriving DecidableEq, Repr

/-- Security, lifecycle and debug (R444–R470); `key` is the journal key that Seif derived at this BOOT (R456); `seedDue` a
RETURNED part whose seed is still to be destroyed (R460), `rngOk` whether the random number generator
passed its health test at the last request that reported it (R455), `romOnly` that no firmware runs and only the boot ROM serves (R454). -/
structure SecSt where
  lifecycle : Lifecycle := .opened
  level : DbgLevel := .none
  key : Option Bytes := none
  seedDue : Bool := false
  transition : Option Transition := none
  returnNonce : Option Bytes := none
  returnToken : Bytes := []
  dbgNonce : Option Nonce := none
  dbgProof : Bytes := []
  halted : Bool := false
  testMode : Bool := false
  testIgnored : Bool := false
  rngOk : Bool := true
  romOnly : Bool := false
  deriving DecidableEq, Repr

/-- Where a commit stands (R359–R362): none, accepted, prepared, and after its stages 1 and 2. -/
inductive CommitPhase
  | idle | checking | prepared | stage1 | stage2
  deriving DecidableEq, Repr

/-- The staging set, the commit, the pending BOOT values and the save under way (R357–R369). `tiles` are the tiles involved and
`acked` those that acknowledged, the last of them at `ackAt`; `saving` the tag, if any, and the image being written; `fswDue` the
`PH_FSW` changes that wait for the first frame pulse from beacon tick `fswFrom` on (R361). -/
structure CommitSt where
  owner : Option Issuer := none
  staged : List (Nat × Int) := []
  phase : CommitPhase := .idle
  tag : Option Nat := none
  tiles : Nat := 0
  acked : Nat := 0
  ackAt : Nat := 0
  bootPending : List (Nat × Int) := []
  saving : Option (Nat × Bytes) := none
  fswDue : List (Nat × Int) := []
  fswFrom : Nat := 0
  deriving DecidableEq, Repr


/-- One entry of the mode history (R55). -/
structure HistEntry where
  stamp : Nat
  src : Mode
  dst : Mode
  reason : Reason
  rtc : Nat
  deriving DecidableEq, Repr

/-- The Erg ledger (R123–R142): the constraint; the pre-regulator's input power in mW and p_chg in µW of the last tick; the
ledger caps and fast caps decided, and the currents that stood before them; the rails admitted that have not yet passed a
full tick up, and those up at the last tick; the ticks since the last reduction
(none: there was none); the fast limit's last and highest estimate in mA, its run of estimates over the threshold,
whether the comparison is suspended, and whether it tripped or fell short in this tick; whether some derating is below
1; the residues in µJ and the accounts' last copy in MRAM, both in the order rails, AUX, input, loss, charger, battery. -/
structure LedgerSt where
  constrained : Bool := false
  preIn : Int := 0
  pChg : Int := 0
  caps : Vector (Option Int) 32 := Vector.replicate 32 none
  fast : Vector (Option Int) 32 := Vector.replicate 32 none
  before : Vector Int 32 := Vector.replicate 32 0
  chgBefore : Int := 0
  committed : List (Fin 32) := []
  seenUp : List (Fin 32) := []
  sinceCut : Option Nat := none
  lastFast : Int := 0
  maxFast : Int := 0
  highRun : Nat := 0
  suspended : Bool := false
  tripped : Bool := false
  short : Bool := false
  derated : Bool := false
  residues : List Nat := List.replicate 40 0
  saved : List (Nat × Nat) := List.replicate 40 (0, 0)
  deriving DecidableEq, Repr
/-- One MRAM password (R419, R420): its digest, the failures in a row, the lockouts so far, and the end of a running
lockout. -/
structure PwSt where
  hash : Option Bytes := none
  fails : Nat := 0
  lockouts : Nat := 0
  lockEnd : Option Nat := none
  deriving DecidableEq, Repr

/-- An unlock of R419: who holds it (none: HOST), the partition 6 or 7, and whether it is for writing. -/
structure Unlock where
  holder : Option (Fin 64)
  part : Nat
  write : Bool
  deriving DecidableEq, Repr

/-- Access to the MRAM array (R418–R420): the four passwords (USER0 read, USER0 write, USER1 read, USER1 write), the unlocks, the raw
position of HOST (place 0) and of each partner slot n (place n + 1), and the words that wait for a rewrite by the scrub with what they
held when they were queued (R422, R424). -/
structure MramSt where
  pws : Vector PwSt 4 := Vector.replicate 4 {}
  unlocks : List Unlock := []
  rawPart : Vector Nat 65 := Vector.replicate 65 6
  rawOffset : Vector Nat 65 := Vector.replicate 65 0
  rewrites : List (Nat × Bytes) := []
  deriving DecidableEq, Repr

/-- The states of `DMA_CH_STATE` (R440). -/
inductive ChState
  | idle | running | done | halted
  deriving DecidableEq, Repr

/-- The codes of `DMA_CH_STATE` (R440). -/
def ChState.code : ChState → Nat
  | .idle => 0 | .running => 1 | .done => 2 | .halted => 3

/-- One Caravan channel (R425–R431): where its run stands (the counters of R428, both addresses and the check), the failures on the
present element, whether a retry is due, whether every element has moved, whether its abort won, and whose leases on it were revoked,
until those issuers have been told (R195). -/
structure ChannelSt where
  st : ChState := .idle
  tag : Option Nat := none
  k0 : Nat := 0
  k1 : Nat := 0
  k2 : Nat := 0
  src : Int := 0
  dst : Int := 0
  chk : Nat := 0
  fails : Nat := 0
  retryDue : Bool := false
  moved : Bool := false
  revokedOf : List Issuer := []
  deriving DecidableEq, Repr

/-- The states of `MIR_STATE` (R442). -/
inductive MirState
  | idle | armed | triggered | done | stopped
  deriving DecidableEq, Repr

/-- The codes of `MIR_STATE` (R442). -/
def MirState.code : MirState → Nat
  | .idle => 0 | .armed => 1 | .triggered => 2 | .done => 3 | .stopped => 4

/-- Mirage (R432–R437): the frames kept, oldest first; the beacon time of frame 0 of the ring's count and the count of
the next frame; the trigger's time; the frames still to come; whether recording has ended and as what; the size of a
frame; and whether everything-off triggered it. -/
structure MirSt where
  st : MirState := .idle
  frames : List Bytes := []
  t0 : Nat := 0
  next : Nat := 0
  trigTime : Option Nat := none
  trigFrame : Option Nat := none
  preValid : Nat := 0
  postLeft : Nat := 0
  gapSeen : Bool := false
  ended : Option MirState := none
  size : Nat := 0
  byOff : Bool := false
  deriving DecidableEq, Repr

/-- A mailbox (R383, R384): whether it executes, whether a response waits, the response (abort code, tag, data) and the
length asked for; the copy of a large object being read in segments; the object and the bytes of a segmented write; the
channel leased; and whether the lease was revoked. -/
structure Mailbox where
  busy : Bool := false
  ready : Bool := false
  code : Nat := 0
  tag : Nat := 0xFF
  data : Bytes := []
  want : Nat := 0
  copy : Option (Nat × Bytes) := none
  seg : Option (Nat × Bytes) := none
  channel : Option (Fin 8) := none
  revoked : Bool := false
  deriving DecidableEq, Repr

/-- A local port (R379, R380, R395): its mailbox, the source of its last claim, the error bits of STAT, and when its CRC
and frame errors were last raised. -/
structure LocalPort where
  box : Mailbox := {}
  lastClaim : Nat := 0
  crcErr : Bool := false
  frameErr : Bool := false
  crcAt : Option Nat := none
  frameAt : Option Nat := none
  deriving DecidableEq, Repr

/-- The local ports: SPI and two-wire; and the latches of wide counters (R410), for SPI, two-wire, the debug port and the
Caravan channels; `descSel` is each holder's `DESC_SELECT` (R370). -/
structure PortsSt where
  port : Vector LocalPort 2 := Vector.replicate 2 {}
  latch : Vector Nat 11 := Vector.replicate 11 0
  descSel : Vector Nat 65 := Vector.replicate 65 0
  deriving DecidableEq, Repr

/-- The sources of Oasis (R472). -/
inductive OasisSupply
  | cell | vbk | reservoir | lost
  deriving DecidableEq, Repr

/-- Oasis, the backup domain (R471–R487): the time as seconds and the fraction last seen, with the beacon time of that, the flags of
R487, the supply in use, and the alive marker. The alarm, the retained bytes and the tamper configuration are objects. -/
structure OasisSt where
  seconds : Nat := 0
  frac : Nat := 0
  fracAt : Nat := 0
  valid : Bool := false
  supply : OasisSupply := .cell
  vbkEligible : Bool := false
  alive : Bool := false
  backupLost : Bool := false
  oscRc : Bool := false
  saturated : Bool := false
  tamperLatched : Bool := false
  cellLow : Bool := false
  wakeCopy : Nat := 0x0011
  deriving DecidableEq, Repr


/-- The machine. `pending` is the queue of commands that wait, first in, first out; `objs` the object store; `mram` the MRAM array
(R414) as bytes; `published` the tick-refreshed objects as the last cut published them (R313); `now` beacon time in 10 ns ticks
(R309); `freeIdx` the model's own count of free values drawn; `answer` what the latest access was answered; `deferred` the events, as
event-object key and bit, that arose while none could be raised (R201, R298, R485), and `afterBoot` those of `PP_EVENT` that wait for
a BOOT (R247). -/
structure State where
  pending : List Sys2Proof.Instr := []
  objs : List (Nat × Int) := []
  published : List (Nat × Int) := []
  mram : List Host.Cell := []
  now : Nat := 0
  freeIdx : Nat := 0
  answer : Answer := .silent
  deferred : List (Nat × Nat) := []
  afterBoot : List (Nat × Nat) := []
  caps : Caps := {}
  modes : ModeSt := {}
  history : List HistEntry := []
  ops : OpTable := {}
  ints : IntTree := {}
  phases : Vector PhaseSt 56 := Vector.replicate 56 {}
  tiles : Vector TileSt 8 := Vector.replicate 8 {}
  frame : FrameSt := {}
  rails : Vector RailSt 32 := Vector.replicate 32 {}
  auxs : Vector AuxSt 4 := Vector.replicate 4 {}
  seq : SeqSt := {}
  bus : TwBus := {}
  sup : SupSt := {}
  path : PathSt := {}
  chg : ChargerSt := {}
  est : EstSt := {}
  met : MetSt := {}
  therm : ThermSt := {}
  nvm : MramSt := {}
  dma : Vector ChannelSt 8 := Vector.replicate 8 {}
  mir : MirSt := {}
  net : NetSt := {}
  cfg : CommitSt := {}
  ports : PortsSt := {}
  links : Vector LinkSt 8 := Vector.replicate 8 {}
  hab : HabSt := {}
  oasis : OasisSt := {}
  ledger : LedgerSt := {}
  sec : SecSt := {}
  otp : OtpSt := {}
  deriving DecidableEq, Repr

/-- The one journal record of a delivered part (R507): JOURNAL_INIT with sequence number 1, its time 0 (DESIGN CHOICE: the
specification gives the factory's clock no value). -/
def factoryJournal : List Host.Cell := [
  (0, 4#8), (1, 1#8), (2, 255#8), (3, 1#8), (4, 1#8), (38, 1#8), (92, 51#8), (93, 132#8), (94, 206#8), (95, 13#8)]

/-- The 8-byte words of a run of bytes, each read least significant byte first: the rows that hold a key (R445). -/
def rowWords (bs : Bytes) (n : Nat) : List Nat := (List.range n).map fun k => ofLE ((bs.drop (8 * k)).take 8)

/-- An ECC row with its check bits (R444). -/
def eccRow (v : Nat) : OtpRow := { data := v, check := Config.otpCheck v }

/-- The seed that the factory burned (R445, R507). -/
def factorySeed : Bytes := (List.range 32).map Config.seed

/-- The rows that a delivered part carries (R507): capability fuses, OPEN_F, serial number, part name, trims, seed and
public key. -/
def factoryRows : List (Nat × OtpRow) :=
  ((List.range 3).map fun r => (r, ({ data := 0xFF, check := 0 } : OtpRow))) ++
  ((List.range 3).map fun r => (3 + r, ({ data := 0xFF, check := 0 } : OtpRow))) ++
  [(8, eccRow Config.serialNumber), (9, eccRow 0x004D383038365646)] ++
  ((List.range 54).map fun k => (10 + k, eccRow (Config.trim k))) ++
  (((rowWords factorySeed 4).zipIdx).map fun (w, k) => (80 + k, eccRow w)) ++
  (((rowWords (ecdsaPublicKey ((deriveKey factorySeed Config.serialNumber).getD [])) 8).zipIdx).map fun (w, k) =>
    (84 + k, eccRow w))

/-- The machine before its first supply: the Keeper unpowered with the VAULT latch clear, every object at its default,
MRAM and OTP as delivered (R50, R507). -/
def State.reset : State := { mram := factoryJournal, otp := { rows := factoryRows } }

end Sys2Proof.Machine
end

