-- ==== Sys2Proof/Machine/Ops.lean ====
section
/-! DEFINITION. The shared operations: reading and writing objects, drawing free values, raising events, counting,
operation tags, and the checks that every access passes. -/

namespace Sys2Proof.Machine

namespace State

/-! ### Objects -/

/-- The value of an object: the listed one, or its default. -/
def get (s : State) (key : Nat) : Int := (Store.lookup key s.objs).getD (Dict.default key)

/-- The objects that a cut publishes (R313): what R89, R118, R121, R141, R217 and the tables of chapters 9, 11, 12, 18 and 19 give as
measured or formed over a tick. DEDUCED (log 175). -/
def onCut (key : Nat) : Bool :=
  let i := key / 256
  let sub := key % 256
  (0x3800 ≤ i && i < 0x3F00 && (i - 0x3800) % 0x20 = 0x10) || (0x3000 ≤ i && i < 0x3400 && (i - 0x3000) % 0x20 = 0x10 && sub ≤ 4) ||
    (0x3400 ≤ i && i < 0x3440 && i % 0x10 = 2) || (0x2410 ≤ i && i ≤ 0x2412) || (i = 0x4002 && sub ≤ 4) || key = K.CHG_I ||
    (0x5100 ≤ i && i < 0x5180) || (0x6100 ≤ i && i < 0x6500 && i % 0x100 = 3) ||
    (0x7810 ≤ i && i < 0x7880 && (i % 0x10 = 3 || i % 0x10 = 4)) ||
    key = K.OTP_VQPS || key = K.OASIS_VCELL || key = K.OASIS_VBK

/-- The value of an object that software sees: of a tick-refreshed one, that of the last cut (R313, R350). -/
def cutValue (s : State) (key : Nat) : Int :=
  if onCut key then (Store.lookup key s.published).getD (Dict.default key) else s.get key

/-- A read restarts an object that gathers a maximum (R89, R319). -/
def restart (s : State) (key : Nat) : State :=
  { s with objs := Store.put (Dict.default key) key (Dict.default key) s.objs,
           published := Store.put (Dict.default key) key (Dict.default key) s.published }

/-- The value of an object as a natural number. -/
def getN (s : State) (key : Nat) : Nat := (s.get key).toNat

/-- The value of a BOOL object. -/
def flag (s : State) (key : Nat) : Bool := s.get key ≠ 0

/-- Write the value of an object. -/
def put (s : State) (key : Nat) (v : Int) : State :=
  { s with objs := Store.put (Dict.default key) key v s.objs }

/-- Write several objects. -/
def puts (s : State) (kvs : List (Nat × Int)) : State := kvs.foldl (fun s kv => s.put kv.1 kv.2) s

/-! ### Free values -/

/-- Draw the next free value: a value that the specification leaves open. -/
def fresh (s : State) : Int × State := (Config.freeValue s.freeIdx, { s with freeIdx := s.freeIdx + 1 })

/-- Draw `n` random bytes of the security engine. -/
def random (s : State) (n : Nat) : Bytes × State :=
  ((List.range n).map (fun k => Config.randomByte (s.freeIdx + k)), { s with freeIdx := s.freeIdx + n })

end State

/-- A quotient whose rounding the specification does not state: exact where it comes out even, otherwise one of the
two neighbouring whole numbers; a free value where the divisor is 0. -/
def quot (a b : Int) : Int :=
  if b = 0 then Config.overZero a
  else if a % b = 0 then a / b else if Config.roundsUp a b then a / b + 1 else a / b

/-! ### Which units the part contains (R1, R3, R371) -/

namespace State

/-- Tile `t` is fitted (R1, R24). -/
def tileFitted (s : State) (t : Nat) : Bool := s.caps.tiles.testBit t

/-- Phase `p` is present (R7, R371). -/
def phasePresent (s : State) (p : Nat) : Bool := s.caps.phases.testBit p

/-- Metering point `m` is present (R371). -/
def mpPresent (s : State) (m : Nat) : Bool := s.caps.mp.testBit m

/-- The part carries the metrology engine and the journal (R371 bit 0). -/
def hasMetering (s : State) : Bool := s.caps.units.testBit 0

/-- The part carries the charger (R371 bit 1). -/
def hasCharger (s : State) : Bool := s.caps.units.testBit 1

/-- CAN port `q`, 0 A or 1 B, is present (R371 bits 2 and 3). -/
def hasPort (s : State) (q : Nat) : Bool := s.caps.units.testBit (2 + q)

/-- The object belongs to a unit that this part does not contain (R3). DESIGN CHOICE (log 140): the ledger objects kept for an absent
tile or charger (0x2404, 0x2411:t, 0x2412:t, 0x2431:04) are the ledger's and not that unit's, and are answered as present. -/
def absent (s : State) (key : Nat) : Bool :=
  let i := key / 256
  let sub := key % 256
  if 0x3800 ≤ i && i < 0x3F00 then !s.phasePresent ((i - 0x3800) / 0x20)
  else if 0x5100 ≤ i && i < 0x5200 then !s.tileFitted ((i - 0x5100) / 0x10)
  else if 0x7810 ≤ i && i < 0x78A0 then !s.tileFitted ((i - 0x7800) / 0x10)
  else if 0x6100 ≤ i && i < 0x6500 then !s.mpPresent ((i - 0x6100) / 0x100)
  else if i = 0x6001 && sub = 2 then !s.caps.units.testBit 4
  else if i = 0x6001 && sub = 3 then !s.caps.units.testBit 5
  else if 0x6000 ≤ i && i < 0x6900 then !s.hasMetering
  else if 0x4100 ≤ i && i < 0x4200 then !s.hasCharger
  else if i = 0x1202 then !s.hasPort 1
  else if i = 0x1205 && 5 ≤ sub && sub ≤ 8 then !s.hasPort 1
  else false

end State

/-! ### Events and interrupt sources (R396–R402) -/

/-- What R4 still serves of an absent unit: a read of its event objects, whose bits read as 0, and a write of its enable objects, which
has no effect. -/
def ObjDef.servedAbsent (d : ObjDef) (write : Bool) : Bool :=
  match d.kind with
  | .event _ _ => !write
  | .enable => write
  | _ => false

/-- An event object: its key, the number of its first source, and whether all its bits belong to that one source
(R396). The enable object of every event object has the next subindex. -/
structure EventObj where
  key : Nat
  base : Nat
  perUnit : Bool
  deriving DecidableEq, Repr

/-- The source of bit `k` (R396). -/
def EventObj.source (e : EventObj) (k : Nat) : Nat := if e.perUnit then e.base else e.base + k

namespace Ev
/-- The event objects, with the source numbers of R397. -/
def mode : EventObj := ⟨K.MODE_EVENT, 1, false⟩
def pp : EventObj := ⟨K.PP_EVENT, 8, false⟩
def seq : EventObj := ⟨K.SEQ_EVENT, 17, false⟩
def sup : EventObj := ⟨K.SUP_EVENT, 33, false⟩
def ledger : EventObj := ⟨K.LEDGER_EVENT, 49, false⟩
def rail (n : Nat) : EventObj := ⟨K.RAIL_EVENT n, 65 + n, true⟩
def aux (k : Nat) : EventObj := ⟨K.AUX_EVENT k, 97 + k, true⟩
def phase (p : Nat) : EventObj := ⟨K.PH_EVENT p, 129 + p, true⟩
def sir : EventObj := ⟨K.SIR_EVENT, 193, false⟩
def chg : EventObj := ⟨K.CHG_EVENT, 257, false⟩
def est : EventObj := ⟨K.EST_EVENT, 273, false⟩
def mp (m : Nat) : EventObj := ⟨K.MP_EVENT m, 289 + m, true⟩
def met : EventObj := ⟨K.MET_EVENT, 293, true⟩
def jnl : EventObj := ⟨K.JNL_EVENT, 305, false⟩
def net : EventObj := ⟨K.NET_EVENT, 321, false⟩
def lp : EventObj := ⟨K.LP_EVENT, 337, false⟩
def mram : EventObj := ⟨K.MRAM_EVENT, 353, true⟩
def dma (c : Nat) : EventObj := ⟨K.DMA_EVENT c, 369 + c, true⟩
def mir : EventObj := ⟨K.MIR_EVENT, 377, true⟩
def sec : EventObj := ⟨K.SEC_EVENT, 385, false⟩
def rtc : EventObj := ⟨K.RTC_EVENT, 401, false⟩
def beam : EventObj := ⟨K.BEAM_EVENT, 417, false⟩
def op : EventObj := ⟨K.OP_EVENT, 433, false⟩

/-- The event object behind a source number, with the bits that the source stands for; none for a reserved source
(R396, R397). -/
def ofSource (n : Nat) : Option (EventObj × Nat) :=
  let bits (e : EventObj) (w : Nat) : Option (EventObj × Nat) := if n - e.base < w then some (e, 2 ^ (n - e.base)) else none
  if n < 1 then none
  else if n < 8 then bits mode 7
  else if n < 17 then bits pp 9
  else if n < 33 then bits seq 11
  else if n < 49 then bits sup 11
  else if n < 65 then bits ledger 12
  else if n < 97 then some (rail (n - 65), 0xFFFF)
  else if n < 101 then some (aux (n - 97), 0xFFFF)
  else if n < 129 then none
  else if n < 185 then some (phase (n - 129), 0xFFFF)
  else if n < 193 then none
  else if n < 257 then bits sir 9
  else if n < 273 then bits chg 12
  else if n < 289 then bits est 10
  else if n < 293 then some (mp (n - 289), 0xFFFF)
  else if n = 293 then some (met, 0xFFFF)
  else if n < 305 then none
  else if n < 321 then bits jnl 9
  else if n < 337 then bits net 13
  else if n < 353 then bits lp 7
  else if n = 353 then some (mram, 0xFFFF)
  else if n < 369 then none
  else if n < 377 then some (dma (n - 369), 0xFFFF)
  else if n = 377 then some (mir, 0xFFFF)
  else if n < 385 then none
  else if n < 401 then bits sec 11
  else if n < 417 then bits rtc 12
  else if n < 433 then bits beam 11
  else if n < 449 then bits op 8
  else none
end Ev

namespace State

/-- The enabled 1 bits of a source's set (R398). -/
def enabledBits (s : State) (n : Nat) : Nat :=
  match Ev.ofSource n with
  | some (e, mask) => s.getN e.key &&& s.getN (e.key + 1) &&& mask
  | none => 0

/-- Source `n` is PENDING. -/
def isPending (s : State) (n : Nat) : Bool := s.ints.pending.getLsbD n

/-- Source `n` is IN_SERVICE. -/
def isInService (s : State) (n : Nat) : Bool := s.ints.inService.getLsbD n

/-- Set or clear PENDING of source `n`; the source that an armed capture watches is stamped as it becomes PENDING (R435). -/
def setPending (s : State) (n : Nat) (b : Bool) : State :=
  let m : BitVec 512 := BitVec.twoPow 512 n
  let new := b && decide (s.mir.st = .armed) && !s.ints.pending.getLsbD n && decide (s.get K.MIR_TRIG_ARG = n)
  { s with ints := { s.ints with pending := if b then s.ints.pending ||| m else s.ints.pending &&& ~~~m,
                                 firedAt := if new then s.ints.firedAt.orElse fun _ => some s.now else s.ints.firedAt } }

/-- Set or clear IN_SERVICE of source `n`. -/
def setInService (s : State) (n : Nat) (b : Bool) : State :=
  let m : BitVec 512 := BitVec.twoPow 512 n
  { s with ints := { s.ints with inService := if b then s.ints.inService ||| m else s.ints.inService &&& ~~~m } }

/-- A source is claimable: PENDING, not IN_SERVICE, its group's priority above the threshold (R399). -/
def claimable (s : State) (n : Nat) : Bool :=
  s.isPending n && !s.isInService n && decide (s.get K.INT_THRESHOLD < s.get (K.INT_PRIO ((n - 1) / 16)))

/-- The source that a claim takes: of the claimable ones the one of highest priority, among equals the lowest
number; 0 where none is claimable (R399). -/
def bestSource (s : State) : Nat :=
  (List.range 511).foldl (fun best k =>
    let n := k + 1
    if s.claimable n && (best = 0 || decide (s.get (K.INT_PRIO ((best - 1) / 16)) < s.get (K.INT_PRIO ((n - 1) / 16))))
    then n else best) 0

end State

/-- Put one EVENT into a partner's queue of 16, dropping the oldest on overflow (R336); says whether one dropped. -/
def Partner.enqueue (p : Partner) (src now value : Nat) : Partner × Bool :=
  let q := p.queue ++ [{ source := src, raisedAt := now, value := value, counter := p.counter }]
  let p := { p with counter := (p.counter + 1) % 256 }
  if 16 < q.length then ({ p with queue := q.drop 1 }, true) else ({ p with queue := q }, false)

namespace State

/-- Queue a raised cause for every partner whose mask selects its group, and count the drops (R336). -/
def queueEvents (s : State) (src value : Nat) : State × Nat :=
  (List.finRange 64).foldl (fun (acc : State × Nat) i =>
    match acc.1.net.partners[i] with
    | some p =>
      if p.mask.testBit ((src - 1) / 16) then
        let (p', d) := p.enqueue src acc.1.now value
        ({ acc.1 with net := { acc.1.net with partners := acc.1.net.partners.set i (some p') } }, if d then acc.2 + 1 else acc.2)
      else acc
    | none => acc) (s, 0)

/-- An event bit becomes 1 (R398): where it was 0 and its enable is 1, its source becomes PENDING. Says whether the
cause was raised. The causes of an absent unit never fire (R4). -/
def raiseBit (s : State) (e : EventObj) (k : Nat) : State × Bool :=
  if s.absent e.key then (s, false)
  else if bitOf (s.get e.key) k then (s, false)
  else
    let s := s.put e.key (setBit (s.get e.key) k)
    if bitOf (s.get (e.key + 1)) k then (s.setPending (e.source k) true, true) else (s, false)

/-- Add `n` to a saturating counter and say whether it saturated now (R409). -/
def addSat (s : State) (key n : Nat) : State × Bool :=
  let top : Int := match Dict.find key with
    | some d => 2 ^ (8 * d.size) - 1
    | none => 0xFFFFFFFF
  let old := s.get key
  let new := min top (old + n)
  (s.put key new, decide (old < top) && decide (new = top))

/-- Raise an event and queue it for the partners (R396, R398, R336); says how many events the queues dropped. -/
def raiseHeard (s : State) (e : EventObj) (k : Nat) : State × Nat :=
  match s.raiseBit e k with
  | (s, false) => (s, 0)
  | (s, true) => s.queueEvents (e.source k) (s.getN e.key)

/-- Count dropped partner events; the first drop since the counter was read raises EVENTS_DROPPED, and saturation
raises COUNTER_SAT (R336, R345). What the queues drop for these two events counts as well. -/
def countDrops (s : State) (n : Nat) : State :=
  if n = 0 then s
  else
    let (s, sat) := s.addSat K.NET_EVENTS_DROPPED n
    let (s, more) := if s.net.dropArmed then ({ s with net := { s.net with dropArmed := false } }).raiseHeard Ev.net 11 else (s, 0)
    let (s, sat) := if sat then (s, true) else s.addSat K.NET_EVENTS_DROPPED more
    let (s, more) := if sat then s.raiseHeard Ev.net 12 else (s, 0)
    (s.addSat K.NET_EVENTS_DROPPED more).1

/-- Raise an event: set its bit, make its source PENDING where enabled, and queue it for the partners (R396, R398,
R336). -/
def raise (s : State) (e : EventObj) (k : Nat) : State :=
  let (s, drops) := s.raiseHeard e k
  s.countDrops drops

/-- The modes in which R44 opens the ports. -/
def portsOpen (s : State) : Bool :=
  match s.modes.mode with
  | .idle | .ramp | .run | .constrained | .ride | .failsafe | .service => true
  | _ => false

/-- Let an event wait: one of `PP_EVENT` that arises in SEAL for the next BOOT (R247), any other for the next IDLE or FAILSAFE entry. -/
def defer (s : State) (e : EventObj) (k : Nat) : State :=
  if e.key = K.PP_EVENT && s.modes.mode = .seal then
    if s.afterBoot.contains (e.key, k) then s else { s with afterBoot := s.afterBoot ++ [(e.key, k)] }
  else if s.deferred.contains (e.key, k) then s else { s with deferred := s.deferred ++ [(e.key, k)] }

/-- Raise an event now where the ports are open, and otherwise when what it waits for has come. -/
def raiseLater (s : State) (e : EventObj) (k : Nat) : State := if s.portsOpen then s.raise e k else s.defer e k

/-- The event object at a key. -/
def evOfKey (key : Nat) : Option EventObj :=
  match Dict.find key with
  | some d => match d.kind with
    | .event base per => some ⟨key, if per then base + Dict.unitOf d (key / 256) else base, per⟩
    | _ => none
  | none => none

/-- The event object and bit of a counter's COUNTER_SAT (R409). -/
def satBit (key : Nat) : Option (EventObj × Nat) :=
  match Dict.find key with
  | some d => match d.kind with
    | .counter ev st bit => (evOfKey ((ev + st * Dict.unitOf d (key / 256)) * 256 + 1)).map fun e => (e, bit)
    | _ => none
  | none => none

/-- Count one: saturating, with COUNTER_SAT raised once at saturation (R409), or at the next entry that raises what waits (R201). -/
def bump (s : State) (key : Nat) : State :=
  match s.addSat key 1 with
  | (s, false) => s
  | (s, true) =>
    match satBit key with
    | some (e, k) => s.raiseLater e k
    | none => s

/-- A write of 1 bits to an event object clears them; a source with no enabled 1 bit left stops being PENDING where it
is not IN_SERVICE (R398). -/
def clearBits (s : State) (key : Nat) (mask : Nat) : State :=
  s.put key (((s.getN key) &&& (0xFFFFFFFFFFFFFFFF ^^^ mask) : Nat) : Int)

/-- Drop PENDING of every source of an event object that has no enabled 1 bit and is not IN_SERVICE, and make PENDING
every source whose newly enabled bit is 1 (R398). `before` is the enable word before the change. -/
def refreshSources (s : State) (e : EventObj) (before : Nat) : State :=
  let fresh := s.getN e.key &&& s.getN (e.key + 1) &&& (0xFFFF ^^^ before)
  (List.range (if e.perUnit then 1 else 16)).foldl (fun s k =>
    let n := e.base + k
    let set := if e.perUnit then 0xFFFF else 2 ^ k
    if fresh &&& set ≠ 0 then (s.setPending n true)
    else if s.enabledBits n = 0 && !s.isInService n && (Ev.ofSource n).isSome then s.setPending n false
    else s) s

end State

/-! ### Operations (R403–R408) -/

/-- The status is open: PENDING or RUNNING (R404). -/
def OpStatus.isOpen : OpStatus → Bool
  | .pending => true | .running => true | _ => false

namespace State

/-- The entry of a tag. -/
def op (s : State) (t : Nat) : OpEntry := s.ops.entries.getD t {}

/-- Replace the entry of a tag. -/
def setOp (s : State) (t : Nat) (e : OpEntry) : State :=
  { s with ops := { s.ops with entries := s.ops.entries.setIfInBounds t e } }

/-- Free tags (R403). -/
def freeTags (s : State) : Nat := (s.ops.entries.toList.filter fun e => !e.reserved).length

/-- The free tag that comes next after the last one allocated, counting upward and wrapping at 0x7F (R403). -/
def nextTag (s : State) : Option Nat :=
  ((List.range 128).map fun k => (s.ops.last + 1 + k) % 128).find? fun t => !(s.op t).reserved

/-- Take a tag for a new operation; none where the table is full (R403). TAGS_LOW is raised as `OP_FREE` falls below
its threshold (R412). -/
def allocTag (s : State) (kind : OpKind) (issuer : Issuer) (key : Nat) (status : OpStatus := .running) :
    Option (State × Nat) :=
  match s.nextTag with
  | none => none
  | some t =>
    let before := s.freeTags
    let s := s.setOp t { status := status, kind := kind, issuer := issuer, key := key, acceptedAt := s.now, reserved := true }
    let s := { s with ops := { s.ops with last := t } }
    let low := s.getN K.OP_TAGS_LOW
    some (if low ≤ before && before - 1 < low then s.raise Ev.op 6 else s, t)

/-- A tag request that finds no free tag is counted (R403). -/
def countFull (s : State) : State := s.bump K.OP_FULL_COUNT

/-- Report the final status of an operation: its bit of `OP_DONE_MAP`, and the bits of `OP_EVENT` (R405, R412). -/
def reportOp (s : State) (t : Nat) (e : OpEntry) : State :=
  let s := if t < 64 then s.put K.OP_DONE_MAP_LO (setBit (s.get K.OP_DONE_MAP_LO) t)
    else s.put K.OP_DONE_MAP_HI (setBit (s.get K.OP_DONE_MAP_HI) (t - 64))
  let s := match e.issuer with
    | .host => s.raise Ev.op 0
    | .slot _ => s.raise Ev.op 1
    | .internal => s.raise Ev.op 2
  if e.status = .completed then s else s.raise Ev.op 3

/-- An abort that was requested loses when the arbiter registers another event first (R406). -/
def loseAbort (s : State) (t : Nat) : State :=
  let e := s.op t
  if e.abort = .requested then
    let s := s.setOp t { e with abort := .lost }
    let s := s.put K.OP_ABORT_LAST ((t : Int) + 0x300)
    (s.bump K.OP_ABORT_LOST).raise Ev.op 4
  else s

/-- Give one open operation its final status, exactly once (R404–R406). An ABORTED status means that a requested abort
won. -/
def finishOne (s : State) (t : Nat) (st : OpStatus) (result : Nat := 0) (code : Nat := 0) : State :=
  let e := s.op t
  if e.status.isOpen then
    let s := if st = .aborted then
        if e.abort = .requested then
          (s.setOp t { e with abort := .won }).put K.OP_ABORT_LAST ((t : Int) + 0x200)
        else s
      else s.loseAbort t
    let e := { s.op t with status := st, finalAt := s.now, result := result, abortCode := code }
    (s.setOp t e).reportOp t e
  else s

/-- Give an operation its final status, and with it every operation that joined it, at the same instant and with the
same status (R145, R404). -/
def finish (s : State) (t : Nat) (st : OpStatus) (result : Nat := 0) (code : Nat := 0) : State :=
  let s := s.finishOne t st result code
  (List.range 128).foldl (fun s j => if (s.op j).joined = some t then s.finishOne j st result code else s) s

/-- Finish an operation whose tag may be absent. -/
def finish? (s : State) (t : Option Nat) (st : OpStatus) (result : Nat := 0) (code : Nat := 0) : State :=
  match t with
  | some t => s.finish t st result code
  | none => s

/-- A lease is revoked (R195): LEASE_REVOKED, and the counter of its row of R194. -/
def leaseRevoked (s : State) (row : Nat) : State := (s.bump (K.SUP_LEASE_REVOKES row)).raiseLater Ev.sup 4

/-- The reservation of a tag whose operation is over ends: a revoked lease (R194, R195, R403). -/
def freeTag (s : State) (t : Nat) : State :=
  let e := s.op t
  if e.reserved && !e.status.isOpen then (s.setOp t { e with reserved := false }).leaseRevoked 4 else s

/-- The tags of open operations. -/
def openTags (s : State) : List Nat := (List.range 128).filter fun t => (s.op t).status.isOpen

/-- Every open operation ends FAILED at everything-off; its tag, a revoked lease, is free at once (R194, R195, R403). -/
def failAllOps (s : State) : State :=
  (List.range 128).foldl (fun s t =>
    if (s.op t).status.isOpen then
      let s := s.finishOne t .failed (s.op t).result
      (s.setOp t { s.op t with reserved := false }).leaseRevoked 4
    else s) s

/-- Some tagged operation is RUNNING (R49). -/
def anyRunning (s : State) : Bool := s.ops.entries.toList.any fun e => e.status = .running

/-! ### Partners and roles (R352, R462) -/

/-- The fraction of the RTC now (R284, R475): the one last seen, and the cycles since, which stop with the time and do not reach the next
second before RTC_SECOND does (log 193). -/
def rtcFrac (s : State) : Nat :=
  if s.oasis.supply = .lost || s.oasis.saturated || s.now ≤ s.oasis.fracAt then s.oasis.frac
  else min 32767 (s.oasis.frac + Config.rtcCycles (s.now - s.oasis.fracAt))

end State
end Sys2Proof.Machine
end

