-- ==== Sys2Proof/Machine/Access.lean ====
section
/-! DEFINITION. Who may reach an object and when: the ports of R44, the roles of R352, and the order of checks of
R354 up to the role. -/

namespace Sys2Proof.Machine

/-- The outcome of an access: an abort code, or the machine after it and what it is answered. -/
abbrev Res := Except Abort (State × Answer)

/-- What a command answers. -/
abbrev Out := Host.Outcome State Fault Refusal

namespace State

/-- The partner entry of a slot. -/
def partner (s : State) (i : Fin 64) : Option Partner := s.net.partners[i]

/-- Replace the partner entry of a slot. -/
def setPartner (s : State) (i : Fin 64) (p : Option Partner) : State :=
  { s with net := { s.net with partners := s.net.partners.set i p } }

/-- The role that an access carries (R352, R462). -/
def roleOf (s : State) : Accessor → Role
  | .spi => .host
  | .tw => .host
  | .debug => match s.sec.level with
    | .vendor => .vendor
    | .control => .host
    | _ => .peer
  | .partner i => match s.partner i with
    | some p => p.role
    | none => .peer

/-- The issuer that an access is (R404): HOST is one party on all its ports (R358, R462). -/
def issuerOf (_s : State) : Accessor → Issuer
  | .partner i => .slot i
  | _ => .host

/-- The accessor has joined, where it has to (R329, R354 order 1). -/
def joined (s : State) : Accessor → Bool
  | .partner i => (s.partner i).isSome
  | _ => true

/-- INT is driven low (R391, R402): a source is claimable, the ports are open, HRST is high, and the release hold is over. -/
def intLow (s : State) : Bool := s.portsOpen && !s.modes.hrstLow && decide (s.bestSource ≠ 0) && !s.ints.releaseHold

/-- After a release of INT the release hold of R391 runs. -/
def noteRelease (s : State) (was : Bool) : State :=
  if was && decide (s.bestSource = 0) then { s with ints := { s.ints with releaseHold := true } } else s

/-- The Keeper is running: every mode but VAULT, SHIP and DORMANT, and not held in reset (R44, R45, R48). -/
def keeperRuns (s : State) : Bool :=
  match s.modes.mode with
  | .vault | .ship | .dormant => false
  | _ => !s.modes.heldReset

/-- The Keeper answers frames that have no effect (R44, R379): in BOOT, and in SEAL until it is held in reset or, its steps over, waits
for HRST to go high. -/
def answersBusy (s : State) : Bool :=
  (decide (s.modes.mode = .boot) || (decide (s.modes.mode = .seal) && !s.modes.sealDone)) && !s.modes.heldReset

/-- Keeper-active except SEAL (R45). -/
def activeNotSeal (s : State) : Bool :=
  s.keeperRuns && decide (s.modes.mode ≠ .seal)

/-- The writer is HOST or holds INSTALLER or a higher role (R352). -/
def installerUp (s : State) (acc : Accessor) : Bool := (s.roleOf acc).installerUp

/-- The debug port writes only at CONTROL or VENDOR, and reads anything but `ID_*` only at OBSERVE (R466). -/
def debugAllows (s : State) (acc : Accessor) (write : Bool) (key : Nat) : Bool :=
  match acc with
  | .debug =>
    if 0xA011 = key / 256 then true
    else match s.sec.level with
      | .none => !write && decide (0x1000 ≤ key / 256) && decide (key / 256 ≤ 0x1004)
      | .observe => !write
      | _ => true
  | _ => true

/-! ### Events that wait (R201, R247, R298, R485) -/

/-- Raise the events that waited. -/
def raiseDeferred (s : State) : State :=
  s.deferred.foldl (fun s d => match evOfKey d.1 with | some e => s.raise e d.2 | none => s) { s with deferred := [] }

/-! ### Reaching an object -/

/-- What the boot ROM serves where no firmware runs (R454): the identity objects, those that read the journal, and the
vendor range, which R347 leaves empty. -/
def romServes (key : Nat) : Bool :=
  (decide (0x100000 ≤ key) && decide (key < 0x100500)) ||
    [K.JNL_NEXT_SEQ, K.JNL_OLDEST_SEQ, K.JNL_READ_SEQ, K.JNL_READ_REC, K.JNL_READ_BLOCK, K.JNL_PUBKEY].contains key

/-- What the boot ROM answers to any other access: R454 gives the refusal no code, so it is a free one of R353. -/
def romAbort (s : State) : Abort :=
  ([.noSuchObject, .noSuchSubindex, .roleDenied, .sealed, .typeMismatch, .outOfRange, .unitAbsent, .busy, .stagedConflict,
    .versionNotNegotiated, .passwordRequired, .modeForbids, .leaseRevoked, .debugForbids] : List Abort).getD
    (Config.freeValue s.freeIdx % 14).toNat .modeForbids

/-- The checks of R354 that every access passes, up to the type: the accessor has joined, the pair is defined, the unit
is present (R3) or R4 serves the access all the same. The vendor range holds no pair that the specification defines (R347). -/
def reachAs (s : State) (write : Bool) (acc : Accessor) (key : Nat) : Except Abort ObjDef :=
  if !s.joined acc then .error .versionNotNegotiated
  else
    let rom := s.sec.romOnly && !romServes key
    if !rom && 0xF00000 ≤ key && s.sec.lifecycle = .returned && s.roleOf acc ≠ .vendor then .error .roleDenied
    else match Dict.find key with
      | none => .error (if rom then s.romAbort else if Dict.indexDefined (key / 256) then .noSuchSubindex else .noSuchObject)
      | some d =>
        if s.absent key && (rom || !d.servedAbsent write) then .error .unitAbsent else if rom then .error s.romAbort else .ok d

/-- The checks of `reachAs` for a read. -/
def reach (s : State) (acc : Accessor) (key : Nat) : Except Abort ObjDef := s.reachAs false acc key

/-- The checks of R354 before the role for a write of `n` bytes. -/
def reachWrite (s : State) (acc : Accessor) (key n : Nat) : Except Abort ObjDef :=
  match s.reachAs true acc key with
  | .error e => .error e
  | .ok d =>
    if d.access = .ro || d.access = .const then .error .typeMismatch
    else if !d.sizeOk n then .error .typeMismatch
    else if !s.debugAllows acc true key then .error .debugForbids
    else .ok d

/-- The role rule of an object's owning chapter (R354 order 9). -/
def roleOk (s : State) (acc : Accessor) (d : ObjDef) : Bool :=
  match d.role with
  | .anyRole => true
  | .hostOrInstaller => s.installerUp acc

/-- A write of an object with a meaning of its own: the checks of `reachWrite` and the role, then `f`. -/
def writeVia (s : State) (acc : Accessor) (key n : Nat) (f : State → Res) : Res :=
  match s.reachWrite acc key n with
  | .error e => .error e
  | .ok d => if s.roleOk acc d then f s else .error .roleDenied

/-- Carry out an access from a port: nothing answers while the Keeper is down or held in reset; in BOOT and SEAL the SPI and
debug ports answer BUSY, the two-wire target and the network are silent, and the accesses have no effect (R44, R379, R386, R466).
A refusal changes nothing but the count of R403. -/
def access (s : State) (acc : Accessor) (f : State → Res) : State :=
  if s.portsOpen then
    match f s with
    | .ok (t, a) => { t with answer := a }
    | .error .operationsFull => { s.countFull with answer := .abort .operationsFull }
    | .error e => { s with answer := .abort e }
  else if s.answersBusy then
    match acc with
    | .partner _ => { s with answer := .silent }
    | .tw => { s with answer := .silent }
    | _ => { s with answer := .portBusy }
  else { s with answer := .silent }

/-- Start a tagged operation for an access, or refuse with OPERATIONS_FULL (R403). -/
def withTag (s : State) (acc : Accessor) (kind : OpKind) (key : Nat) (f : State → Nat → State) : Res :=
  match s.allocTag kind (s.issuerOf acc) key with
  | none => .error .operationsFull
  | some (s, t) => .ok (f s t, .tag t)

end State
end Sys2Proof.Machine
end

