-- ==== Sys2Proof/Machine/Pool.lean ====
section
/-! DEFINITION. Phases and rails as the pool sees them: counts, current limits, interleave, the ramp reference, and
the moves of phases between states that the commands share (chapters 03 and 04). -/

namespace Sys2Proof.Machine
namespace State

/-! ### Reaching a unit -/

/-- Phase `p`. -/
def phase (s : State) (p : Fin 56) : PhaseSt := s.phases[p]

/-- Change phase `p`. -/
def modPhase (s : State) (p : Fin 56) (f : PhaseSt → PhaseSt) : State :=
  { s with phases := s.phases.set p (f s.phases[p]) }

/-- Rail `r`. -/
def rail (s : State) (r : Fin 32) : RailSt := s.rails[r]

/-- Change rail `r`. -/
def modRail (s : State) (r : Fin 32) (f : RailSt → RailSt) : State :=
  { s with rails := s.rails.set r (f s.rails[r]) }

/-- Tile `t`. -/
def tile (s : State) (t : Fin 8) : TileSt := s.tiles[t]

/-- Change tile `t`. -/
def modTile (s : State) (t : Fin 8) (f : TileSt → TileSt) : State :=
  { s with tiles := s.tiles.set t (f s.tiles[t]) }

/-- Apply `f` to the phases of a list, in its order. -/
def forPhases (s : State) (ps : List (Fin 56)) (f : State → Fin 56 → State) : State := ps.foldl f s

end State

/-- Insert a phase into an ascending list. -/
def insertPhase (p : Fin 56) : List (Fin 56) → List (Fin 56)
  | [] => [p]
  | q :: t => if p ≤ q then p :: q :: t else q :: insertPhase p t

/-- Phases in ascending number. -/
def sortPhases (ps : List (Fin 56)) : List (Fin 56) := ps.foldr insertPhase []

/-- The tile of a phase (R7). -/
def tileOf (p : Fin 56) : Fin 8 := ⟨p.val / 8 + 1, by omega⟩

/-- Local phases 6–7 are BUS phases (R58, R59). -/
def isBus (p : Fin 56) : Bool := 6 ≤ p.val % 8

/-- A phase that is in use: it is not OFF and not ISOLATED. -/
def PhState.inUse : PhState → Bool
  | .prebias => true | .active => true | .shed => true | .spare => true | _ => false

/-- A healthy member is in ACTIVE or SHED (R80). -/
def PhState.healthy : PhState → Bool
  | .active => true | .shed => true | _ => false

/-- A rail that is neither OFF nor UNBUILT nor QUENCHED: a rail that is up, or on its way (R49, R83). -/
def RailState.live : RailState → Bool
  | .unbuilt => false | .off => false | .quenched => false | _ => true

/-- The ramp's value at beacon tick `now` (R99): a straight line that stops exactly at the target. -/
def Ramp.at (c : Ramp) (now : Nat) : Int :=
  let moved := quot (c.slew * (now - c.t0 : Nat)) 100
  if c.v0 ≤ c.target then min c.target (c.v0 + moved) else max c.target (c.v0 - moved)

/-- The ramp reference r(t) of a rail in µV. -/
def RailSt.refAt (r : RailSt) (now : Nat) : Int := if r.moving then r.ref.at now else r.ref.v0

/-- The rail with its reference held at r(now). -/
def RailSt.holdRef (r : RailSt) (now : Nat) : RailSt :=
  { r with ref := { r.ref with v0 := r.refAt now, t0 := now }, moving := false }

/-- The rail with its reference moving from r(now) to `target` µV at `slew` µV/µs (R99, R101). A reference that stands at
the target does not move. -/
def RailSt.moveRef (r : RailSt) (now : Nat) (target slew : Int) : RailSt :=
  let v := r.refAt now
  { r with ref := { v0 := v, t0 := now, target := target, slew := slew }, moving := decide (v ≠ target) }

/-- A slot that moves towards another by the shorter direction, at most 45° in one cycle (R66), in 0.01°. DESIGN CHOICE (log 131): two
slots exactly 180° apart have no shorter direction, and the slot moves in the positive one. -/
def stepSlot (slot target : Int) : Int :=
  let d := (target - slot) % 36000
  let d := if 18000 < d then d - 36000 else d
  (slot + clampInt (-4500) 4500 d) % 36000

namespace State

/-! ### Counts and limits (R66, R80, R108) -/

/-- A rail is in coil mode (R112). -/
def coilMode (s : State) (r : Fin 32) : Bool := s.get (K.RAIL_MODE r) = 1

/-- The ACTIVE members of a rail. -/
def activeMembers (s : State) (r : Fin 32) : List (Fin 56) :=
  (s.rail r).members.filter fun p => decide ((s.phase p).st = .active)

/-- The healthy members of a rail (R80). -/
def healthyMembers (s : State) (r : Fin 32) : List (Fin 56) :=
  (s.rail r).members.filter fun p => (s.phase p).st.healthy

/-- The members of a rail that are not ISOLATED (R119). -/
def usableMembers (s : State) (r : Fin 32) : List (Fin 56) :=
  (s.rail r).members.filter fun p => decide ((s.phase p).st ≠ .isolated)

/-- The SHED members of a rail, in ascending phase number. -/
def shedMembers (s : State) (r : Fin 32) : List (Fin 56) :=
  sortPhases ((s.rail r).members.filter fun p => decide ((s.phase p).st = .shed))

/-- The hardware sum of R108: `PH_ILIM_AVG` over the healthy members. -/
def hardwareSum (s : State) (r : Fin 32) : Int :=
  ((s.healthyMembers r).map fun p => s.get (K.PH_ILIM_AVG p)).sum

/-- The ledger term of R108 at the members: the lower of the ledger cap and the fast cap in force (R133, R137). -/
def capInForce (s : State) (r : Fin 32) : Option Int :=
  match (s.rail r).cap, (s.rail r).fastCap with
  | some c, some f => some (min c f)
  | some c, none => some c
  | none, f => f

/-- The part of R108's limit that is not the hardware sum: `RAIL_ILIM_SET` and the ledger's term. -/
def softLimit (s : State) (r : Fin 32) : Option Int :=
  let set := s.get (K.RAIL_ILIM_SET r)
  match s.capInForce r with
  | some c => some (if set = 0 then c else min set c)
  | none => if set = 0 then none else some set

/-- The effective limit L (R108). -/
def railLimit (s : State) (r : Fin 32) : Int :=
  match s.softLimit r with
  | some l => min (s.hardwareSum r) l
  | none => s.hardwareSum r

/-- The rail's members are listed in the dictionary: the configured count of `RAIL_MEMBERS`:00 (R118). -/
def configuredCount (s : State) (r : Fin 32) : Nat :=
  ((List.range 16).filter fun j => decide (s.get (K.RAIL_MEMBERS r j) ≠ 0xFF)).length

/-- The number of listed spares, `RAIL_SPARES`:00. -/
def spareCount (s : State) (r : Fin 32) : Nat :=
  ((List.range 4).filter fun j => decide (s.get (K.RAIL_SPARES r j) ≠ 0xFF)).length

/-- At least one spare stands by (R97). -/
def spareReady (s : State) (r : Fin 32) : Bool :=
  (s.rail r).spares.any fun p => decide ((s.phase p).st = .spare)

/-- The rail's lead tile: the lowest-numbered tile that holds a non-isolated member; 0xFF none (R172). -/
def leadTile (s : State) (r : Fin 32) : Nat :=
  ((s.usableMembers r).map fun p => (tileOf p).val).foldl min 0xFF

/-- The rail current of one cycle: the sum of the members' cycle means (R85). -/
def railCycleI (s : State) (r : Fin 32) : Int :=
  ((s.activeMembers r).map fun p => (s.phase p).iCycle).sum

/-- The rail current of R103 and R113: pool average × active count of the last average received. -/
def railPoolI (s : State) (r : Fin 32) : Int :=
  ((s.rail r).avg.getD 0) * (s.rail r).avgCount

/-- The coil loop's target current (R113). -/
def coilTarget (s : State) (r : Fin 32) : Int :=
  if (s.rail r).st = .hold then s.get (K.RAIL_COIL_IHOLD r) else s.get (K.RAIL_COIL_IPULL r)

/-- The clamp c of each ACTIVE member in mA (R108): L / H, and for up to 1 µs after an isolation the one before it. -/
def clampOf (s : State) (r : Fin 32) : Int :=
  let c := quot (s.railLimit r) (s.healthyMembers r).length
  match (s.rail r).clampHold with
  | some (c0, t) => if s.now < t then c0 else c
  | none => c

/-- The current in mA, as a magnitude, below which a member may sink (R105, R106): none while the reference rises in RAMP_UP,
`PH_ILIM_AVG` in RAMP_DOWN. -/
def sinkBound (s : State) (r : Fin 32) (p : Fin 56) : Option Int :=
  match (s.rail r).st with
  | .rampUp => if (s.rail r).moving && decide ((s.rail r).ref.v0 < (s.rail r).ref.target) then some 0 else none
  | .rampDown => some (s.get (K.PH_ILIM_AVG p))
  | _ => none

/-- The interleave slot of an ACTIVE member in 0.01° (R66). -/
def slotOf (s : State) (r : Fin 32) (p : Fin 56) : Int :=
  let act := sortPhases (s.activeMembers r)
  let i := (act.takeWhile (· ≠ p)).length
  (1125 * r.val + quot (i * 36000) (max 1 act.length)) % 36000

/-- Phase `p` switches in its interleave slot (R66, R84). -/
def setSlot (s : State) (p : Fin 56) : State :=
  match (s.phase p).rail with
  | some r => s.modPhase p fun x => { x with slot := s.slotOf r p }
  | none => s

/-- The frame pulse follows SYNCIN (R63, R90). -/
def syncExt (s : State) : Bool := s.frame.external && decide (s.frame.start ≤ s.now)

/-- The frame period in ns: SYNCIN's, or the internal 20 µs (R63). -/
def framePeriod (s : State) : Nat := if s.syncExt then s.frame.period else 20000

/-- The last frame pulse up to now (R63). -/
def lastPulse (s : State) : Option Nat :=
  if s.syncExt || decide (s.now < s.frame.base) then s.frame.pulses.find? fun p => decide (p ≤ s.now)
  else some (s.now - (s.now - s.frame.base) % 2000)

/-- The first frame pulse at or after beacon time `t`, where it is known yet: the internal ones fall every 2,000 ticks, those of SYNCIN
are known from their edges (R63). -/
def pulseFrom (s : State) (t : Nat) : Option Nat :=
  let grid := s.frame.base + (t + 1999 - s.frame.base) / 2000 * 2000
  let known := s.frame.pulses.reverse.find? fun p => decide (t ≤ p)
  if s.frame.external then (if grid ≤ s.frame.start then some grid else known)
  else match known with
    | some p => some (min p grid)
    | none => some grid

/-- f_sw of a phase in Hz before the limits of R64: `PH_FSW` / 50 × f_frame, f_frame from the frame period in ns. -/
def fswWanted (s : State) (p : Fin 56) : Int := quot (s.get (K.PH_FSW p) * 20000000) s.framePeriod

/-- f_sw of a phase in Hz: held within 250–2,000 kHz (R64). -/
def fsw (s : State) (p : Fin 56) : Int := clampInt 250000 2000000 (s.fswWanted p)

/-- `PH_STATUS.FRAME_UNLOCKED` (R64). -/
def frameUnlocked (s : State) (p : Fin 56) : Bool :=
  decide (s.get (K.PH_FSW p) * 20000000 < 250000 * (s.framePeriod : Int)) ||
    decide (2000000 * (s.framePeriod : Int) < s.get (K.PH_FSW p) * 20000000)

/-- Some rail is up or on its way. -/
def anyRailLive (s : State) : Bool := s.rails.toList.any fun r => r.st.live

/-- Some group is RISING or FALLING (R159). -/
def ramping (s : State) : Bool :=
  s.seq.groups.toList.any fun g => g.st = .rising || g.st = .falling

end State
end Sys2Proof.Machine
end

