-- ==== Sys2Proof/Machine/ThermOps.lean ====
section
/-! DEFINITION. Sirocco's temperatures as other functions use them (R204–R206, R215). -/

namespace Sys2Proof.Machine
namespace State

/-- Tile `t`'s thermal network. -/
def thermTile (s : State) (t : Fin 8) : ThermTile := s.therm.tiles[t]

/-- Change tile `t`'s thermal network. -/
def modTherm (s : State) (t : Fin 8) (f : ThermTile → ThermTile) : State :=
  { s with therm := { s.therm with tiles := s.therm.tiles.set t (f s.therm.tiles[t]) } }

/-- A temperature of the model, which is held in 0.001 °C, in 0.01 °C, rounded down (R202). -/
def centi (x : Int) : Int := x / 10

/-- t_max of a tile in 0.01 °C (R204). -/
def tMax (s : State) (t : Fin 8) : Int := centi (s.thermTile t).tmax

/-- t_hot of a phase in 0.01 °C (R204). -/
def tHot (s : State) (p : Fin 56) : Int := centi ((s.thermTile (tileOf p)).tj + (s.phase p).hs)

/-- The sensors of a tile: three on the Keeper, four on a Lantern (R205). -/
def sensorsOf (t : Fin 8) : List (Fin 4) := if t = 0 then [0, 1, 2] else [0, 1, 2, 3]

/-- Sensor `k` of tile `t`. -/
def sensor (s : State) (t : Fin 8) (k : Fin 4) : SensorSt := (s.thermTile t).sensors[k]

/-- The valid sensors of a tile. -/
def validSensors (s : State) (t : Fin 8) : List (Fin 4) :=
  (sensorsOf t).filter fun k => decide ((s.sensor t k).st = .valid)

/-- The last readings of a tile's valid sensors in 0.01 °C. -/
def validReadings (s : State) (t : Fin 8) : List Int := (s.validSensors t).filterMap fun k => (s.sensor t k).reading

/-- `SIR_SENSOR` (R218): 0x8000 where no sensor exists or none has been read. -/
def sensorShown (s : State) (t : Fin 8) (k : Fin 4) : Int :=
  if (sensorsOf t).contains k then (s.sensor t k).reading.getD (-32768) else -32768

/-- The quench-down wire of Lantern `t` is asserted (R19, R44, R180, R182, R196): by the quench latch, by a fence, in the modes whose
Lanterns are off, and always on an absent tile. -/
def quenchDown (s : State) (t : Fin 8) : Bool :=
  s.sup.quenchLatch || (s.tile t).fenced || !s.tileFitted t ||
  match s.modes.mode with
  | .vault | .ship | .seal => true
  | .dormant => s.modes.waking.isNone
  | _ => false

/-- Tile `t` is powered: its quench-down wire is released (R19). -/
def tilePowered (s : State) (t : Fin 8) : Bool := decide (t ≠ 0) && !s.quenchDown t

/-- A powered tile with no valid sensor is open-loop (R209). -/
def openLoop (s : State) (t : Fin 8) : Bool :=
  (decide (t = 0) || s.tilePowered t) && (s.validSensors t).isEmpty

/-- The temperature that the ledger derates tile `t` by, in 0.01 °C (R209, R215). -/
def ledgerTemp (s : State) (t : Fin 8) : Int :=
  s.tMax t + if s.openLoop t then s.get K.SIR_OPEN_LOOP_MARGIN else 0

/-- At a release of the quench-down wires, and at DORMANT exit, references are set anew (R207, R214). -/
def refsDue (s : State) (keeper : Bool) : State :=
  (List.finRange 8).foldl (fun (s : State) (t : Fin 8) =>
    if t ≠ 0 || keeper then s.modTherm t fun x => { x with due := if x.due = .none then .release else x.due } else s) s

/-- Every t_max and valid reading is below `SIR_T_WARN` (R213). -/
def allCool (s : State) : Bool :=
  let w := s.get K.SIR_T_WARN
  (List.finRange 8).all fun t => !s.tileFitted t || (decide (s.tMax t < w) && (s.validReadings t).all fun r => decide (r < w))

end State
end Sys2Proof.Machine
end

