-- ==== Sys2Proof/Machine/RailOps.lean ====
section
/-! DEFINITION. What a rail does at a command or an event, short of a fault (R84–R85, R97–R114): the phase moves, the
states of R107, the reference, and the flags of R119. -/

namespace Sys2Proof.Machine

/-- A phase with its switches open and no finding pending. DESIGN CHOICE (log 174): PEAK_LIMITING, DROPOUT and AVG_STALE keep what they
showed last. -/
def PhaseSt.opened (x : PhaseSt) (st : PhState) : PhaseSt :=
  { x with st := st, next := none, joining := false, declared := .none, testing := false, frozen := false, excluded := false, duty := 0,
           iCycle := 0, openCount := 0, cfCount := 0, limited := false }

/-- A phase that enters PREBIAS: integrator 0, its first error still to come (R69, R84). -/
def PhaseSt.prebiased (x : PhaseSt) (r : Fin 32) (role : PhRole) : PhaseSt :=
  { x.opened .prebias with rail := some r, role := role, integ := 0, dterm := 0, fresh := true, trim := 0,
                           atLimit := false, avg := none }

namespace State

/-! ### Phase moves -/

/-- A phase that was in SHED has left it (R91). -/
def leftShed (s : State) (p : Fin 56) (was : PhState) : State := if was = .shed then s.raise (Ev.phase p) 6 else s

/-- Members and spares go to OFF; ISOLATED phases stay (R84). -/
def phaseOff (s : State) (p : Fin 56) : State :=
  let was := (s.phase p).st
  if was.inUse then (s.modPhase p fun x => x.opened .off).leftShed p was else s

/-- An OFF phase enters PREBIAS for rail `r` (R84). -/
def phasePrebias (s : State) (r : Fin 32) (role : PhRole) (p : Fin 56) : State :=
  if (s.phase p).st = .off then s.modPhase p fun x => x.prebiased r role else s

/-- At its cycle edge an ACTIVE member is shed: its switches open, its trim is kept, and it leaves the pool average (R70, R84, R85). -/
def phaseShed (s : State) (p : Fin 56) : State :=
  ((s.modPhase p fun x => { x with st := .shed, next := none, duty := 0, limited := false, avg := none }).bump
    (K.PH_SHED_COUNT p)).raise (Ev.phase p) 6

/-- At its cycle edge a SHED member returns to ACTIVE, in the slot that the members then ACTIVE give it (R66, R84, R85). -/
def phaseReturn (s : State) (p : Fin 56) : State :=
  (s.modPhase p fun x => { x with st := .active, next := none, openCount := 0 }).setSlot p |>.raise (Ev.phase p) 6

/-- Phase `p` is to be `st` from its next cycle edge (R85). -/
def atNextEdge (s : State) (p : Fin 56) (st : PhState) : State := s.modPhase p fun x => { x with next := some st }

/-- The SHED members of a rail that are not returning yet, in ascending phase number. -/
def restingMembers (s : State) (r : Fin 32) : List (Fin 56) :=
  (s.shedMembers r).filter fun p => decide ((s.phase p).next = none)

/-- The ACTIVE members of a rail that stay ACTIVE at their next edge. -/
def stayingMembers (s : State) (r : Fin 32) : List (Fin 56) :=
  (s.activeMembers r).filter fun p => decide ((s.phase p).next = none)

/-- The first `n` SHED members of a rail return at their next cycle edges, in ascending phase number (R80, R85). -/
def returnShed (s : State) (r : Fin 32) (n : Nat) : State :=
  s.forPhases ((s.restingMembers r).take n) (atNextEdge · · .active)

/-- Every SHED member of a rail returns at its next cycle edge; a shed that is still to come is off (R85). -/
def returnAll (s : State) (r : Fin 32) : State :=
  (s.forPhases (s.shedMembers r) (atNextEdge · · .active)).forPhases (s.activeMembers r)
    fun s p => s.modPhase p fun x => { x with next := none }

/-- The lead tile of a rail was `old`: where the lead has passed on, the OC-dwell and PG-loss timers restart from 0 on the new one
(R172). -/
def leadPasses (s : State) (r : Fin 32) (old : Nat) : State :=
  if s.leadTile r = old then s
  else s.modRail r fun x => { x with dwellFrom := x.dwellFrom.map fun _ => s.now, pglFrom := x.pglFrom.map fun _ => s.now }

/-- Raise SPARES_EXHAUSTED where no spare stands by any more (R97). -/
def noteSpares (s : State) (r : Fin 32) : State :=
  if s.spareReady r then s else s.raise (Ev.rail r) 4

/-- Command the first named spare in SPARE to join, in the rail's spare order (R80). -/
def commandSpare (s : State) (r : Fin 32) : State :=
  match (s.rail r).spares.find? fun p => decide ((s.phase p).st = .spare) && !(s.phase p).joining with
  | some p => s.modPhase p fun x => { x with joining := true }
  | none => s

/-- Keep DEGRADED: usable members below the configured count; the event at 0 to 1 (R119, R120). -/
def refreshDegraded (s : State) (r : Fin 32) : State :=
  let d := decide ((s.rail r).st ≠ .unbuilt) && decide ((s.usableMembers r).length < s.configuredCount r)
  let was := (s.rail r).degraded
  let s := s.modRail r fun x => { x with degraded := d }
  if d && !was then s.raise (Ev.rail r) 3 else s

/-- Keep CAPPED: a CAPPABLE rail that limits at a soft limit below its hardware sum (R111); and the OC dwell timer, which
runs while the rail is LIMITING and not CAPPED (R110). -/
def refreshCapped (s : State) (r : Fin 32) : State :=
  let c := (s.rail r).limiting && decide (s.get (K.RAIL_CLASS r) = 2) &&
    (match s.softLimit r with | some l => decide (l < s.hardwareSum r) | none => false)
  let was := (s.rail r).capped
  let s := s.modRail r fun x =>
    { x with capped := c, dwellFrom := if x.limiting && !c then some (x.dwellFrom.getD s.now) else none }
  if c && !was then s.raise (Ev.rail r) 6 else s

/-- Keep LIMITING: some ACTIVE member was clamped; at 0 to 1 every SHED member returns and the entry is counted and
raised (R109). -/
def refreshLimiting (s : State) (r : Fin 32) : State :=
  let l := (s.activeMembers r).any fun p => (s.phase p).limited
  let was := (s.rail r).limiting
  let s := s.modRail r fun x => { x with limiting := l }
  let s := if l && !was then ((s.returnAll r).bump (K.RAIL_LIMIT_COUNT r)).raise (Ev.rail r) 5 else s
  s.refreshCapped r

/-! ### Commands to a rail (R98) -/

/-- Send a command to a rail's tiles; it acts at its apply tick. -/
def sendRail (s : State) (r : Fin 32) (c : RailCmd) : State :=
  s.modRail r fun x => { x with cmds := x.cmds ++ [c] }

/-- A voltage command for a rail in UP reaches its tiles: every SHED member returns, and shedding is held (R85). -/
def sendVoltage (s : State) (r : Fin 32) (mv : Int) (tag : Option Nat) : State :=
  ((s.sendRail r (.volt mv tag)).returnAll r).modRail r fun x => { x with shedHold := some s.now }

/-- Take the first waiting command that `f` accepts off the rail's queue. -/
def takeCmd (s : State) (r : Fin 32) (f : RailCmd → Bool) : Option (RailCmd × State) :=
  match (s.rail r).cmds.find? f with
  | some c => some (c, s.modRail r fun x => { x with cmds := x.cmds.erase c })
  | none => none

/-- The members of a rail go to OFF. -/
def membersOff (s : State) (r : Fin 32) : State := s.forPhases (s.rail r).members phaseOff

/-- Members and spares of a rail go to OFF. -/
def railPhasesOff (s : State) (r : Fin 32) : State := s.forPhases ((s.rail r).members ++ (s.rail r).spares) phaseOff

/-- A rail enters DISCHARGE: members OFF, reference still, no limiting (R106, R107). -/
def enterDischarge (s : State) (r : Fin 32) : State :=
  ((s.railPhasesOff r).modRail r fun x => { x.holdRef s.now with st := .discharge, limiting := false, capped := false, dwellFrom := none, pglFrom := none })

/-- A rail enters OFF after a power-down; a power-up that waits for OFF is sent (R106, R152). -/
def enterOff (s : State) (r : Fin 32) : State :=
  let again := (s.rail r).deferredUp
  let s := (s.railPhasesOff r).modRail r fun x =>
    { x with st := .off, ref := {}, moving := false, coilR := 0, limiting := false, capped := false, compliance := false,
             pg := false, armed := false, qualified := false, badRun := false, everQualified := false, shedHold := none,
             deferredUp := false, dwellFrom := none, pglFrom := none }
  let s := s.raise (Ev.rail r) 2
  if again then s.sendRail r .up else s

/-- Every member that can enters PREBIAS (R105). -/
def enterPrebias (s : State) (r : Fin 32) : State :=
  (s.forPhases (s.rail r).members (phasePrebias · r .member)).modRail r fun x => { x with st := .prebias }

/-- The rail is up: STATE_UP, and the qualifier of a voltage rail is armed (R107, R153). -/
def enterUp (s : State) (r : Fin 32) (st : RailState) : State :=
  (s.modRail r fun x => { x with st := st, armed := x.armed || decide (st = .up), badRun := x.badRun && !decide (st = .up) }).raise (Ev.rail r) 1

/-- The spares of a rail stand by: those that are OFF enter PREBIAS (R97). -/
def standbySpares (s : State) (r : Fin 32) : State :=
  s.forPhases (s.rail r).spares (phasePrebias · r .spare)

/-- A rail is qualified: PG loss is armed and its spares stand by (R97, R153). -/
def qualify (s : State) (r : Fin 32) : State :=
  (s.modRail r fun x => { x with qualified := true, everQualified := true, armed := false }).standbySpares r

/-- The tags of the voltage commands that wait on a rail. -/
def pendingVoltTags (s : State) (r : Fin 32) : List Nat :=
  (s.rail r).cmds.filterMap fun c => match c with | .volt _ t => t | _ => none

/-- A power-down acts: the open voltage transition and the accepted ones end ABORTED, and an abort requested for one is lost (R102,
R406). -/
def abortVoltage (s : State) (r : Fin 32) : State :=
  let ts := (match (s.rail r).tag with | some t => [t] | none => []) ++ s.pendingVoltTags r
  let s := s.modRail r fun x => { x with tag := none, cmds := x.cmds.filter fun c => match c with | .volt _ (some _) => false | _ => true }
  ts.foldl (fun s t => (s.loseAbort t).finish t .aborted) s

/-- A power-up at its apply tick: an OFF rail waits its on delay with the stored target; in any other state it is REFUSED (R105,
R107). -/
def applyPowerUp (s : State) (r : Fin 32) : State :=
  if (s.rail r).st = .off then
    s.modRail r fun x => { x with st := .onDelay, upStatus := .running, everQualified := false, ref := { target := s.get (K.RAIL_VSET r) * 1000 } }
  else s.modRail r fun x => { x with upStatus := .refused }

/-- A power-down at its apply tick, by rail state (R106, R107). DEDUCED (log 177): in ON_DELAY STATE_OFF is raised as for any OFF after a
power-down (R120). -/
def applyPowerDown (s : State) (r : Fin 32) : State :=
  let coast := decide (s.get (K.RAIL_DOWN_MODE r) = 1)
  match (s.rail r).st with
  | .up | .hold => ((s.abortVoltage r).modRail r fun x => { x.holdRef s.now with st := .offDelay, armed := false })
  | .onDelay => s.enterOff r
  | .prebias => s.enterDischarge r
  | .rampUp =>
    if coast then s.enterDischarge r
    else s.modRail r fun x => { x.moveRef s.now 0 (s.get (K.RAIL_SLEW_OFF r)) with st := .rampDown, armed := false }
  | .pullIn => s.modRail r fun x => { x with st := .discharge, armed := false }
  | _ => s

/-- The end of an off delay (R106, R107): tracked, coast, or coil release. -/
def endOffDelay (s : State) (r : Fin 32) : State :=
  if (s.rail r).st = .offDelay then
    if s.coilMode r then s.modRail r fun x => { x with st := .discharge }
    else if s.get (K.RAIL_DOWN_MODE r) = 1 then s.enterDischarge r
    else s.modRail r fun x => { x.moveRef s.now 0 (s.get (K.RAIL_SLEW_OFF r)) with st := .rampDown }
  else s

/-- A voltage command at its apply tick (R100, R101): it retargets a power-up ramp, which is over where r stands at the new target
(R107), or starts or retargets a transition in UP, and shedding is held from there (R85). DESIGN CHOICE (log 132): a repeat of the
target in force leaves a reference that still moves at the slew that it has. DEDUCED (log 178): a command that carried no tag is
superseded without SUPERSEDED and its count. -/
def applyVoltage (s : State) (r : Fin 32) (mv : Int) (tag : Option Nat) : State :=
  match (s.rail r).st with
  | .onDelay | .prebias =>
    s.modRail r fun x => { x with ref := { x.ref with target := mv * 1000 } }
  | .rampUp =>
    let s := s.modRail r fun x => x.moveRef s.now (mv * 1000) (s.get (K.RAIL_SLEW_ON r))
    if (s.rail r).moving then s else s.enterUp r .up
  | .up =>
    let same := decide ((s.rail r).ref.target = mv * 1000)
    let old := if (s.rail r).moving then (s.rail r).tag else none
    let s := s.modRail r fun x =>
      { (if same then x else x.moveRef s.now (mv * 1000) (s.get (K.RAIL_SLEW r))) with
          tag := tag, shedHold := some s.now, pglFrom := if same then x.pglFrom else none }
    let s := match old with
      | some t => ((s.finish t .superseded).bump (K.RAIL_SUPERSEDED_COUNT r)).raise (Ev.rail r) 7
      | none => s
    if same || !(s.rail r).moving then
      (s.finish? tag .completed).modRail r fun x => { x with tag := none }
    else s
  | _ => s

/-- The reference stops at its target: a ramp ends in UP, a transition completes (R99, R102, R107). -/
def referenceReached (s : State) (r : Fin 32) : State :=
  if (s.rail r).moving then
    let s := s.modRail r fun x => { x with ref := { x.ref with v0 := x.ref.target, t0 := s.now }, moving := false }
    match (s.rail r).st with
    | .rampUp => s.enterUp r .up
    | .up => (s.finish? (s.rail r).tag .completed).modRail r fun x => { x with tag := none }
    | _ => s
  else s

/-- An abort of a voltage transition at its apply tick: done wins where the reference has reached its target (R406), and otherwise the
reference holds and `RAIL_VSET` takes its value, rounded down to whole mV (R102). -/
def applyVoltAbort (s : State) (r : Fin 32) (t : Nat) : State :=
  if (s.rail r).tag = some t && (s.op t).status.isOpen then
    let v := (s.rail r).refAt s.now
    if (s.rail r).moving && decide (v = (s.rail r).ref.target) then s.referenceReached r else
    let s := s.modRail r fun x => { x.holdRef s.now with tag := none, ref := { v0 := v, t0 := s.now, target := v, slew := 0 }, moving := false }
    (s.put (K.RAIL_VSET r) (v / 1000)).finish t .aborted
  else s

/-- The phase-type floor of R106 in µV. -/
def floorOf (s : State) (r : Fin 32) : Int := if (s.rail r).bus then 3300000 else 450000

/-- The reference of a power-down ramp is below the floor of the phase type (R106). -/
def belowFloor (s : State) (r : Fin 32) : Bool :=
  decide ((s.rail r).st = .rampDown) && decide ((s.rail r).refAt s.now < s.floorOf r)

/-! ### Quench (R180) -/

/-- Every phase in use goes to OFF; ISOLATED ones stay (R84, R180). -/
def quenchPhases (s : State) : State := s.forPhases (List.finRange 56) phaseOff

/-- A built rail is QUENCHED (R107, R180). -/
def quenchRail (s : State) (r : Fin 32) : State :=
  if (s.rail r).st = .unbuilt then s
  else s.modRail r fun x =>
    { x with st := .quenched, cmds := [], tag := none, ref := {}, moving := false, limiting := false, capped := false, armed := false,
             qualified := false, everQualified := false, pg := false,
             badRun := false, deferredUp := false, compliance := false, cap := none, fastSent := none, fastCap := none,
             shed := false, dwellFrom := none, pglFrom := none }

/-- Every built rail is QUENCHED. -/
def quenchRails (s : State) : State := (List.finRange 32).foldl quenchRail s

/-- QUENCHED rails go to OFF at an IDLE or BOOT entry, or at SERVICE entry from FAILSAFE (R107). -/
def unquenchRails (s : State) : State :=
  (List.finRange 32).foldl (fun s r => if (s.rail r).st = .quenched then s.modRail r fun x => { x with st := .off } else s) s

end State
end Sys2Proof.Machine
end

