-- ==== Sys2Proof/Machine/SeqOps.lean ====
section
/-! DEFINITION. What a group does at a command or an event, short of a fault (R143–R159, R163): the step table, the
gates, rising, falling, reversal, latching and cancelling. -/

namespace Sys2Proof.Machine

/-! ### The step table (R149) -/

/-- A step of the table, as its 16 bytes spell it (R149). -/
structure Step where
  rails : Nat
  group : Nat
  bellUp : Bool
  bellDown : Bool
  valid : Bool
  wait : Nat
  onDelay : Nat
  offDelay : Nat
  tpgq : Nat
  timeout : Nat
  slaves : Nat
  stage : Nat
  reserved : Bool
  deriving DecidableEq, Repr

/-- The fields of a step value (R149). -/
def Step.ofValue (v : Nat) : Step :=
  { rails := v % 2 ^ 32, group := v / 2 ^ 32 % 16, bellUp := v.testBit 36, bellDown := v.testBit 37,
    valid := v.testBit 39, wait := v / 2 ^ 40 % 4, onDelay := v / 2 ^ 48 % 65536, offDelay := v / 2 ^ 64 % 65536,
    tpgq := v / 2 ^ 80 % 65536, timeout := v / 2 ^ 96 % 65536, slaves := v / 2 ^ 112 % 256, stage := v / 2 ^ 120 % 16,
    reserved := v.testBit 38 || decide (v / 2 ^ 42 % 64 ≠ 0) || decide (v / 2 ^ 124 % 16 ≠ 0) }

/-- The rails that a step names. -/
def Step.railList (k : Step) : List (Fin 32) := (List.finRange 32).filter fun r => k.rails.testBit r.val

/-- The legacy slaves that a step names. -/
def Step.slaveList (k : Step) : List (Fin 8) := (List.finRange 8).filter fun j => k.slaves.testBit j.val

/-- The current step of a group whose power-up commands were sent: the reversing step of a reversal (R156). -/
def GroupSt.currentStep (x : GroupSt) : Option Nat :=
  if x.stage = .sent ∨ x.stage = .bell ∨ x.stage = .rung then x.cur else none

/-! ### Legacy frames (R164) -/

/-- The CRC of a legacy frame: polynomial 0x07, initial value 0x00 (R164). -/
def legacyCrc (bs : Bytes) : Byte := crc8Of 0x07 0x00 bs

/-- The address byte of 7-bit address `a`, with its R/W bit. -/
def addressByte (a : Nat) (read : Bool) : Byte := BitVec.ofNat 8 (2 * a + if read then 1 else 0)

/-- A read frame up to the slave's first byte: the command goes out under [A+W], then a repeated start and [A+R]. -/
def readFrame (a code : Nat) : Bytes := [addressByte a false, BitVec.ofNat 8 code, addressByte a true]

/-- A write frame of a command with one byte, and its CRC. -/
def writeFrame (a code n : Nat) : Bytes :=
  let b := [addressByte a false, BitVec.ofNat 8 code, BitVec.ofNat 8 n]
  b ++ [legacyCrc b]

/-- What a read of address `a` returns: the reply's bytes and the CRC over the whole frame. -/
def replyBytes (a code : Nat) (data : Bytes) : Bytes := data ++ [legacyCrc (readFrame a code ++ data)]

/-- What the master sends of a transaction with the slave at address `a`. -/
def LegFrame.bytes (a : Nat) : LegFrame → Bytes
  | .idRead => readFrame a 0x01
  | .statusRead => readFrame a 0x20
  | .stageGo n => writeFrame a 0x10 n
  | .stageDown n => writeFrame a 0x11 n

/-- The bytes that a completed transaction brought; none where the reply's length or CRC does not match. -/
def LegFrame.reads (a : Nat) (f : LegFrame) (bs : Bytes) : Option Bytes :=
  match f with
  | .stageGo _ | .stageDown _ => some []
  | .idRead => if bs.length = 4 ∧ bs = replyBytes a 0x01 (bs.take 3) then some (bs.take 3) else none
  | .statusRead => if bs.length = 2 ∧ bs = replyBytes a 0x20 (bs.take 1) then some (bs.take 1) else none

namespace State

/-- Step `k` of the table in force. -/
def step (s : State) (k : Nat) : Step := Step.ofValue (s.getN (K.SEQ_STEP k))

/-- The valid steps of a group in ascending index (R143). -/
def groupSteps (s : State) (g : Fin 16) : List Nat :=
  (List.range 256).filter fun k => (s.step k).valid && decide ((s.step k).group = g.val)

/-- Group `g`. -/
def group (s : State) (g : Fin 16) : GroupSt := s.seq.groups[g]

/-- Change group `g`. -/
def modGroup (s : State) (g : Fin 16) (f : GroupSt → GroupSt) : State :=
  { s with seq := { s.seq with groups := s.seq.groups.set g (f s.seq.groups[g]) } }

/-- Record the result of a group's command (R159), also in the entry of the tag that shows it (R404 byte 7). -/
def setResult (s : State) (g : Fin 16) (r : GrpResult) : State := s.put (K.GRP_RESULT g) r.code

/-- FOG reads low: another part pulls it, or the device itself (R160, R161). -/
def fogIsLow (s : State) : Bool := s.seq.fogBall || s.seq.fogDrive

/-- A bit of `SEQ_COOP` (R169). -/
def coopBit (s : State) (k : Nat) : Bool := bitOf (s.get K.SEQ_COOP) k

/-- The device drives FOG, or releases it (R160). -/
def driveFog (s : State) (low : Bool) : State :=
  { s with seq := { s.seq with fogDrive := low, fogFrom := if s.seq.fogDrive && !low then s.now else s.seq.fogFrom } }

/-- The FOG gate is closed: FOG is low, or has not yet been high for 10 µs since the device let go of it (R147); `fogBall` reads high
only after 10 µs. -/
def fogClosed (s : State) : Bool := s.coopBit 1 && (s.fogIsLow || decide (s.now < s.seq.fogFrom + 1000))

/-- The AFTER gate of a group is closed: the group it names is not UP (R147). -/
def afterClosed (s : State) (g : Fin 16) : Bool :=
  (List.finRange 16).any fun h => decide ((h.val : Int) = s.get (K.GRP_AFTER g)) && decide ((s.group h).st ≠ .up)

/-- The first closed gate of a group, in the order of R147; none where every gate is open. -/
def closedGate (s : State) (g : Fin 16) : GrpWait :=
  let toff : Bool := match (s.group g).downAt with
    | some t => decide (s.now < t + s.getN (K.GRP_TOFFMIN g) * 100000)
    | none => false
  let after := s.afterClosed g
  let coop : Bool := s.flag (K.GRP_COOP g) && (List.finRange 16).any fun h =>
    decide (h ≠ g) && s.flag (K.GRP_COOP h) && (decide ((s.group h).st = .rising) || decide ((s.group h).st = .falling))
  if toff then .toffmin
  else if s.fogClosed then .fog
  else if after then .after
  else if coop then .coop
  else .none

/-! ### BELL (R163) -/

/-- Drive BELL low, or release it; with `BELL_EN` = 0 the device never drives it. -/
def driveBell (s : State) (low : Bool) : State :=
  { s with seq := { s.seq with bellDrive := low && s.coopBit 2 } }

/-- The group that is at a bell point, waiting for the ring or holding after it. -/
def bellGroup (s : State) (st : StepStage) : Option (Fin 16) :=
  (List.finRange 16).find? fun g => decide ((s.group g).stage = st)

/-! ### Rising (R151, R152) -/

/-- A group is UP: its tag completes, GROUP_UP (R159). -/
def groupUp (s : State) (g : Fin 16) : State :=
  let t := (s.group g).tag
  let s := s.modGroup g fun x => { x with st := .up, tag := none, stage := .idle, cur := none, wait := .none }
  let s := (s.setResult g .upDone).finish? t .completed GrpResult.upDone.code
  (s.bump (K.GRP_UP_COUNT g)).raise Ev.seq 0

/-! ### Falling (R155) -/

/-- A falling group has no step left: DOWN, or HELD where a power-up is latched (R155, R157, R159). DESIGN CHOICE (log 185): `GRP_PENDING`
of the latched power-up clears with the entry to HELD. -/
def groupFallen (s : State) (g : Fin 16) : State :=
  let x := s.group g
  let res := if x.reversing then GrpResult.reversed else .downDone
  let s := (s.setResult g res).finish? x.tag .completed res.code
  let y : GroupSt :=
    { s.group g with stage := .idle, cur := none, sentSteps := [], reversing := false,
                     reverseStep := none, unbuilt := false, downAt := some s.now, admitted := false }
  if x.latched then
    s.modGroup g fun _ => { y with st := .held, tag := x.latchTag, latchTag := none, latched := false, wait := .toffmin }
  else (s.modGroup g fun _ => { y with st := .down, tag := none, wait := .none }).raise Ev.seq 1

/-- Slave `k`. -/
def slave (s : State) (k : Fin 8) : SlaveSt := s.seq.slaves[k]

/-- Change slave `k`. -/
def modSlave (s : State) (k : Fin 8) (f : SlaveSt → SlaveSt) : State :=
  { s with seq := { s.seq with slaves := s.seq.slaves.set k (f s.seq.slaves[k]) } }

/-- The master owes slave `k` these transactions, after those under way (R165). -/
def oweSlave (s : State) (k : Fin 8) (fs : List LegFrame) : State := s.modSlave k fun x => { x with owed := x.owed ++ fs }

/-- The device is legacy master and slave `k` is listed (R165). -/
def slaveListed (s : State) (k : Fin 8) : Bool := decide (s.get K.SEQ_LEGACY_MODE = 1) && bitOf (s.get K.SEQ_LEGACY_SLAVES) k

/-- ID_READ of each listed slave, at each IDLE entry (R165). -/
def askIdentities (s : State) : State :=
  (List.finRange 8).foldl (fun (s : State) k => if s.slaveListed k && !s.bus.stuck then s.oweSlave k [.idRead] else s) s

/-- Send the power-downs of a step (R155): to every rail that is not in OFF or UNBUILT or that has a power-up on its
way, and STAGE_DOWN to its slaves; a lost slave is skipped and reported. The shed marks of its rails go (R133). -/
def sendStepDown (s : State) (g : Fin 16) (k : Nat) : State :=
  let st := s.step k
  let s := st.railList.foldl (fun s r =>
    let s := s.modRail r fun x => { x with shed := false, deferredUp := false }
    if ((s.rail r).st = .off && !(s.rail r).cmds.contains .up) || (s.rail r).st = .unbuilt then s
    else s.sendRail r .down) s
  let s := st.slaveList.foldl (fun s j => if (s.slave j).lost then s.raise Ev.seq 8 else s.oweSlave j [.stageDown st.stage]) s
  s.modGroup g fun x => { x with stage := .downSent, wait := .railsDown, cur := some k }

/-- The next step of a falling group: at once for the reversing step, otherwise after its off delay (R155, R156). -/
def fallNext (s : State) (g : Fin 16) : State :=
  match (s.group g).sentSteps with
  | [] => s.groupFallen g
  | k :: _ =>
    if (s.group g).reverseStep = some k then s.sendStepDown g k
    else s.modGroup g fun x => { x with stage := .offDelay, wait := .stepDelay, cur := some k }

/-- A group is powered down: the shed marks of its rails go, and they stay OFF (R133). -/
def dropShed (s : State) (g : Fin 16) : State :=
  ((s.groupSteps g).flatMap fun k => (s.step k).railList).foldl (fun (s : State) r => s.modRail r fun x => { x with shed := false }) s

/-- A group starts FALLING (R155, R156): a bell point is left, and the reversing step is the current one if its commands
were sent. -/
def startFalling (s : State) (g : Fin 16) : State :=
  let x := s.group g
  let s := (if x.stage = .bell || x.stage = .rung then s.driveBell true else s).dropShed g
  let s := s.modGroup g fun y =>
    { y with st := .falling, admitted := false, deferred := false,
             reverseStep := if x.stage = .dependants then x.reverseStep else if x.st = .rising then x.currentStep else none }
  s.fallNext g

/-- The step names an unbuilt rail: the group powers down what it raised (R151, R154). DESIGN CHOICE (log 184): it starts FALLING at once,
and its dependants are not powered down first. -/
def failUnbuilt (s : State) (g : Fin 16) : State :=
  let t := (s.group g).tag
  let s := s.modGroup g fun x => { x with tag := none, unbuilt := true, stage := .idle }
  let s := ((s.setResult g .railUnbuilt).finish? t .failed GrpResult.railUnbuilt.code).raise Ev.seq 4
  s.startFalling g

/-- A rising group takes up its next step after `done`, or is UP (R151). -/
def riseNext (s : State) (g : Fin 16) (done : Option Nat) : State :=
  let next := (s.groupSteps g).find? fun k => match done with | some d => decide (d < k) | none => true
  match next with
  | none => s.groupUp g
  | some k =>
    let rails := (s.step k).railList
    let s := s.modGroup g fun x =>
    { x with cur := some k, stage := .asking, admitted := rails.isEmpty, deferred := false,
             wait := if rails.isEmpty then .stepDelay else .ledger }
    if rails.any fun r => decide ((s.rail r).st = .unbuilt) then s.failUnbuilt g else s

/-- A tag and every tag that joined it. -/
def withJoined (s : State) (t : Nat) : List Nat :=
  t :: (List.range 128).filter fun j => decide ((s.op j).joined = some t) && (s.op j).status.isOpen

/-- A latched tag is released, and with it those that joined it: they become RUNNING (R157, R404). -/
def releaseTag (s : State) (t : Nat) : State :=
  (s.withJoined t).foldl (fun (s : State) j => if (s.op j).status = OpStatus.pending then
    s.setOp j { s.op j with status := .running } else s) s

/-- A group enters RISING (R151, R159): a latched tag becomes RUNNING (R157). -/
def startRising (s : State) (g : Fin 16) : State :=
  let s := match (s.group g).tag with
    | some t => s.releaseTag t
    | none => s
  let s := s.modGroup g fun x =>
    { x with st := .rising, wait := .none, sentSteps := [], reversing := false,
             reverseStep := none, unbuilt := false }
  s.riseNext g none

/-- Send the power-ups of a step (R151, R152): to the rails in OFF; a rail in UP starts its qualifier at once, any other
receives its power-up when it reaches OFF. The slaves receive STAGE_GO, a lost one after an ID_READ (R165). -/
def sendStepUp (s : State) (g : Fin 16) (k : Nat) : State :=
  let st := s.step k
  let s := st.railList.foldl (fun s r =>
    let s := s.modRail r fun x => { x with chatterSeen := false, qualified := false }
    match (s.rail r).st with
    | .off => s.sendRail r .up
    | .up => s.modRail r fun x => { x with armed := true, badRun := false }
    | .unbuilt => s
    | _ => s.modRail r fun x => { x with deferredUp := true }) s
  let s := st.slaveList.foldl (fun s j =>
    (s.modSlave j fun x => { x with done := false }).oweSlave j
      ((if (s.slave j).lost then [.idRead] else []) ++ [.stageGo st.stage])) s
  s.modGroup g fun x =>
    { x with stage := .sent, sentSteps := k :: x.sentSteps,
             wait := if st.wait = 0 then .qualify else if st.slaves ≠ 0 then .legacy else .none }

/-- A rail meets a step's wait condition (R152). -/
def railMeets (s : State) (k : Step) (r : Fin 32) : Bool :=
  if k.wait = 0 then (s.rail r).qualified
  else if k.wait = 1 then decide ((s.rail r).st = .up) || decide ((s.rail r).st = .hold)
  else !(s.rail r).cmds.contains .up

/-- Every rail and slave of a step meets its condition (R152). -/
def stepMet (s : State) (k : Step) : Bool :=
  (k.railList.all fun r => s.railMeets k r) && (k.wait = 2 || k.slaveList.all fun j => (s.seq.slaves[j]).done)

/-- The rails of a falling step are down (R155). -/
def stepDown (s : State) (k : Step) : Bool :=
  k.railList.all fun r => (decide ((s.rail r).st = .off) || decide ((s.rail r).st = .unbuilt)) && !(s.rail r).cmds.contains .up

/-! ### Commands (R145, R148, R156–R158) -/

/-- Groups that name `g` in `GRP_AFTER` and are not DOWN (R148). -/
def dependants (s : State) (g : Fin 16) : List (Fin 16) :=
  (List.finRange 16).filter fun h => decide (h ≠ g) && decide (s.get (K.GRP_AFTER h) = (g.val : Int)) && decide ((s.group h).st ≠ .down)

/-- A latched power-up is cancelled (R158). -/
def unlatch (s : State) (g : Fin 16) : State :=
  let x := s.group g
  let s := s.modGroup g fun y => { y with latched := false, latchTag := none }
  if x.latched then s.finish? x.latchTag .aborted GrpResult.cancelled.code else s

/-- A power-down of one group, its dependants' having been issued (R145, R156, R158). `tag` is the command's own tag, which a
falling group, or one that is reversed and waits for its dependants, takes over where it has none;
none for one that another group's power-down or an abort brings. -/
def downOne (s : State) (g : Fin 16) (tag : Option Nat) : State :=
  let x := s.group g
  match x.st with
  | .down =>
    let s := s.modGroup g fun y => { y with waiting := false, latchTag := none }
    let s := if x.waiting then s.finish? x.latchTag .aborted GrpResult.cancelled.code else s
    s.finish? tag .completed GrpResult.downDone.code
  | .held =>
    let s := s.modGroup g fun y => { y with st := .down, tag := none, wait := .none }
    let s := (s.setResult g .cancelled).finish? x.tag .aborted GrpResult.cancelled.code
    (s.finish? tag .completed GrpResult.cancelled.code).raise Ev.seq 1
  | .rising =>
    if x.stage = .dependants then (s.modGroup g fun y => { y with tag := y.tag.orElse fun _ => tag }).unlatch g
    else
      let s := (s.modGroup g fun y => { y with tag := tag, reversing := true }).dropShed g
      let s := (s.finish? x.tag .aborted GrpResult.reversed.code).raise Ev.seq 2
      if (s.dependants g).isEmpty then s.startFalling g
      else
        let s := if x.stage = .bell || x.stage = .rung then s.driveBell true else s
        s.modGroup g fun y =>
          { y with stage := .dependants, wait := .railsDown, admitted := false, deferred := false, reverseStep := x.currentStep }
  | .up =>
    let s := (s.modGroup g fun y => { y with tag := if y.stage = .dependants && tag.isNone then y.tag else tag }).dropShed g
    if (s.dependants g).isEmpty then s.startFalling g
    else s.modGroup g fun y => { y with stage := .dependants, wait := .railsDown }
  | .falling =>
    (s.modGroup g fun y => { y with tag := y.tag.orElse fun _ => tag }).unlatch g

/-- A power-down, issued first to every dependant down the chain (R148). `n` bounds the depth of the chain. -/
def powerDown (n : Nat) (s : State) (g : Fin 16) (tag : Option Nat) : State :=
  match n with
  | 0 => s.downOne g tag
  | n + 1 =>
    let s := ((s.dependants g).filter fun h => decide ((s.group h).st ≠ .falling)).foldl (fun s h => powerDown n s h none) s
    s.downOne g tag

/-- The movement that a power-up of this group joins, if any (R145). A RISING group that is reversed and waits for its dependants is
on its way down. -/
def joinUp (x : GroupSt) : Option Nat :=
  match x.st with
  | .down => if x.waiting then x.latchTag else none
  | .held => x.tag
  | .rising => if x.stage = .dependants then (if x.latched then x.latchTag else none) else x.tag
  | .up => none
  | .falling => if x.latched then x.latchTag else none

/-- A power-up of a group under a tag that has been taken (R145, R157). DESIGN CHOICE (log 182): that of a DOWN group without steps is
taken up, and completes, on the next management tick, as any other. -/
def powerUp (s : State) (g : Fin 16) (t : Nat) : State :=
  let x := s.group g
  match joinUp x with
  | some j => s.setOp t { s.op t with joined := some j, status := (s.op j).status }
  | none =>
    match x.st with
    | .up => s.finish t .completed GrpResult.upDone.code
    | .falling | .rising =>
      (s.setOp t { s.op t with status := .pending }).modGroup g fun y => { y with latched := true, latchTag := some t }
    | _ => s.modGroup g fun y => { y with waiting := true, latchTag := some t }

/-- Issue a group command for an issuer (R144, R146): a tag, shown in `GRP_TAG`, and the command's effect; none where no
tag is free. A power-down of a FALLING group, or of one that waits for its dependants, joins it. -/
def groupCommand (s : State) (g : Fin 16) (up : Bool) (issuer : Issuer) : Option (State × Nat) :=
  match s.allocTag (if up then .groupUp else .groupDown) issuer (K.GRP_CMD g) with
  | none => none
  | some (s, t) =>
    let s := s.put (K.GRP_TAG g) t
    if up then some (s.powerUp g t, t)
    else
      let x := s.group g
      let s := match (if x.st = .falling || x.stage = .dependants then x.tag else none) with
        | some j => s.setOp t { s.op t with joined := some j }
        | none => s
      let joins := (s.op t).joined.isSome
      some (s.powerDown 16 g (if joins then none else some t), t)

/-- The internal power-ups of R146: every group whose `GRP_AUTOSTART` is 1. -/
def autoStart (s : State) : State :=
  (List.finRange 16).foldl (fun s (g : Fin 16) =>
    if s.flag (K.GRP_AUTOSTART g) then
      match s.groupCommand g true .internal with
      | some (s, _) => s
      | none => s.countFull
    else s) s

/-- Groups that waited only for their dependants start FALLING when those are DOWN, in ascending group number (R148); `n` bounds how
many. DESIGN CHOICE (log 183): every group that names g at that moment and is not DOWN holds it back. -/
def releaseWave : Nat → State → State
  | 0, s => s
  | n + 1, s =>
    match (List.finRange 16).find? fun g => decide ((s.group g).stage = .dependants) && (s.dependants g).isEmpty with
    | some g => releaseWave n (s.startFalling g)
    | none => s

/-- Groups that waited only for their dependants start FALLING when those are DOWN (R148). -/
def releaseDependants (s : State) : State := releaseWave 16 s

/-- The management tick takes up the waiting power-ups of DOWN groups, in ascending group number (R145, R147). -/
def takeUpGroups (s : State) : State :=
  (List.finRange 16).foldl (fun s g =>
    if (s.group g).waiting && (s.group g).st = .down then
      let gate := s.closedGate g
      let s := s.modGroup g fun x => { x with waiting := false, tag := x.latchTag, latchTag := none }
      if gate = .none then s.startRising g
      else s.modGroup g fun x => { x with st := .held, wait := gate }
    else s) s |>.releaseDependants

/-- A falling step is over: the next one, in descending order (R155). -/
def fallOn (s : State) (g : Fin 16) : State :=
  ((s.modGroup g fun x => { x with sentSteps := x.sentSteps.drop 1, stage := .idle }).fallNext g).releaseDependants

/-- A bell point is over, and the sequence goes on (R163). -/
def bellOver (s : State) (g : Fin 16) : State :=
  if (s.group g).st = .rising then (s.riseNext g (s.group g).cur).releaseDependants else s.fallOn g

/-- With `BELL_EN` = 0 BELL is ignored: a group at a bell point goes on (R163). -/
def ignoreBell (s : State) : State :=
  if s.coopBit 2 then s
  else (List.finRange 16).foldl (fun (s : State) g =>
    if (s.group g).stage = .bell || (s.group g).stage = .rung then s.bellOver g else s) s

/-- Everything-off takes every group to DOWN; its result is the fault code where the trigger was this group's, and
QUENCHED otherwise (R159); the transactions owed to legacy slaves are dropped, for SEAL sends none (R166). -/
def quenchGroups (s : State) (own : Option (Fin 16)) (code : GrpResult) : State :=
  (List.finRange 16).foldl (fun s g =>
    let x := s.group g
    let res := if own = some g then code else GrpResult.quenched
    let note (s : State) (t : Option Nat) : State := match t with
      | some t => (s.withJoined t).foldl (fun (s : State) j => s.setOp j { s.op j with result := res.code }) s
      | none => s
    let s := note (note s x.tag) x.latchTag
    let s := if x.st = .down then s else s.setResult g res
    s.modGroup g fun y => { st := .down, downAt := if y.st = .down then y.downAt else some s.now })
    { s with seq := { s.seq with slaves := s.seq.slaves.map fun x => { x with owed := [], retry := false, fails := 0 } } }

end State
end Sys2Proof.Machine
end

