-- ==== Sys2Proof/Machine/AuxOps.lean ====
section
/-! DEFINITION. The AUX outputs (R115–R117): which are on in which mode, and the pre-regulator voltage. -/

namespace Sys2Proof.Machine
namespace State

/-- Output `k`. -/
def aux (s : State) (k : Fin 4) : AuxSt := s.auxs[k]

/-- Change output `k`. -/
def modAux (s : State) (k : Fin 4) (f : AuxSt → AuxSt) : State :=
  { s with auxs := s.auxs.set k (f s.auxs[k]) }

/-- The modes in which R44 runs the AUX outputs per configuration. -/
def auxMode (s : State) : Bool :=
  match s.modes.mode with
  | .idle | .ramp | .run | .constrained | .ride | .service => true
  | _ => false

/-- Output `k` is asked for (R116): by `AUX_EN`, unless R178 holds it off, or by `AUX_AUTO` since the last IDLE entry; neither after a
thermal trip until `AUX_EN` is written to 1 (R213, R214). -/
def auxAsked (s : State) (k : Fin 4) : Bool :=
  !(s.aux k).heldOff &&
  ((s.flag (K.AUX_EN k) && !(s.aux k).forcedOff) || (s.flag (K.AUX_AUTO k) && !(s.aux k).autoOff))

/-- Output `k` is to be on in the present mode (R44, R116); in DORMANT `DORMANT_AUX_KEEP` keeps what was on (R54). -/
def auxWanted (s : State) (k : Fin 4) : Bool :=
  if s.modes.mode = .dormant then bitOf (s.get K.DORMANT_AUX_KEEP) k && decide ((s.aux k).st ≠ .off)
  else s.auxMode && s.auxAsked k

/-- The outputs that are on. -/
def auxOn (s : State) : List (Fin 4) := (List.finRange 4).filter fun k => decide ((s.aux k).st ≠ .off)

/-- VPRE: 400 mV above the highest set voltage of the enabled outputs, at least 1,200 mV (R115). -/
def setVpre (s : State) : State :=
  s.put K.AUX_VPRE (max 1200 ((s.auxOn.map fun k => s.get (K.AUX_VSET k)).foldl max 0 + 400))

/-- The dissipation of an output, I × (VPRE − V) (R115), in mW. -/
def setAuxLoss (s : State) (k : Fin 4) : State :=
  let v := if (s.aux k).st = .off then 0 else s.get (K.AUX_I k) * (s.get K.AUX_VPRE - s.get (K.AUX_V k))
  s.put (K.AUX_LOSS k) (quot v 1000)

/-- Open an output: its regulator opens and the discharge is applied (R116). -/
def auxOpen (s : State) (k : Fin 4) : State :=
  ((s.modAux k fun x => { x with st := .off, ramp := false, pg := false }).puts [(K.AUX_I k, 0), (K.AUX_LOSS k, 0)])

/-- An output begins a ramp: from 0 as it is switched on, or to a changed `AUX_VSET` (R116). -/
def auxRamp (s : State) (k : Fin 4) : State := s.modAux k fun x => { x with st := .ramping, ramp := false, pg := false }

/-- PG of an output that is past its ramp: declared at or above 95 % of `AUX_VSET` (R116). -/
def auxPg (s : State) (k : Fin 4) (v : Int) : State :=
  let x := s.aux k
  if (x.st = .on || (x.st = .limit && !x.ramp)) && !x.pg && 95 * s.get (K.AUX_VSET k) ≤ 100 * v then
    (s.modAux k fun x => { x with pg := true }).raise (Ev.aux k) 0
  else s

/-- An output enters or leaves its current limit; LIMIT is raised as it enters (R117, R121). -/
def auxLimiting (s : State) (k : Fin 4) (limit : Bool) : State :=
  match (s.aux k).st, limit with
  | .ramping, true => (s.modAux k fun x => { x with st := .limit, ramp := true }).raise (Ev.aux k) 2
  | .on, true => (s.modAux k fun x => { x with st := .limit, ramp := false }).raise (Ev.aux k) 2
  | .limit, false => s.modAux k fun x => { x with st := if x.ramp then .ramping else .on, ramp := false }
  | _, _ => s

/-- Bring every output to what it is asked to be, and VPRE with them. -/
def refreshAux (s : State) : State :=
  ((List.finRange 4).foldl (fun (s : State) k =>
    let on := decide ((s.aux k).st ≠ .off)
    if s.auxWanted k && !on then s.auxRamp k
    else if !s.auxWanted k && on then s.auxOpen k
    else s) s).setVpre

/-- Every output opens (R180). -/
def quenchAux (s : State) : State := ((List.finRange 4).foldl auxOpen s).setVpre

/-- An entry to IDLE gives `AUX_AUTO` effect again (R116, R178). -/
def auxIdleEntry (s : State) : State :=
  ((List.finRange 4).foldl (fun (s : State) k => s.modAux k fun x => { x with autoOff := false }) s).refreshAux

end State
end Sys2Proof.Machine
end

