-- ==== Sys2Proof/Machine/Nvm.lean ====
section
/-! DEFINITION. The MRAM array as bytes (R414, R417): an erased or never written byte reads 0 (DESIGN CHOICE: the
specification gives erased MRAM no value), and the partition table. -/

namespace Sys2Proof.Machine

/-- A partition of R417. -/
structure Partition where
  base : Nat
  size : Nat
  rawRead : Bool
  rawWrite : Bool
  deriving DecidableEq, Repr

/-- The partitions of R417, by number. -/
def partitions : List Partition := [
  ⟨0x000000, 0x181000, true, false⟩, ⟨0x181000, 0x1000, true, false⟩, ⟨0x182000, 0x8000, true, false⟩,
  ⟨0x18A000, 0x10000, true, false⟩, ⟨0x19A000, 0x2000, false, false⟩, ⟨0x19C000, 0x1000, true, false⟩,
  ⟨0x19D000, 0x8000, true, true⟩, ⟨0x1A5000, 0x8000, true, true⟩, ⟨0x1AD000, 0x53000, false, false⟩]

/-- The newer valid slot: its sequence number and what it holds (R264). -/
def TwoSlot.newest {α : Type} (x : TwoSlot α) : Option (Nat × α) :=
  match x.a, x.b with
  | some p, some q => if p.1 < q.1 then some q else some p
  | some p, none => some p
  | none, q => q

/-- A write goes to an invalid slot, or to the one with the lower sequence number: slot A, not B (R264). -/
def TwoSlot.takesA {α : Type} (x : TwoSlot α) : Bool :=
  match x.a, x.b with
  | none, _ => true
  | some _, none => false
  | some p, some q => decide (p.1 < q.1)

/-- Write a record with the highest sequence number plus 1 (R264). -/
def TwoSlot.write {α : Type} (x : TwoSlot α) (v : α) : TwoSlot α :=
  let q := (match x.newest with | some p => p.1 | none => 0) + 1
  if x.takesA then { x with a := some (q, v) } else { x with b := some (q, v) }

/-- A write cut short leaves its slot invalid (R264). -/
def TwoSlot.tear {α : Type} (x : TwoSlot α) : TwoSlot α := if x.takesA then { x with a := none } else { x with b := none }

/-- The bytes of the array (R414). -/
def mramSize : Nat := 0x200000

namespace State

/-- One byte of the array. -/
def mramByte (s : State) (a : Nat) : Byte := (Store.lookup a s.mram).getD 0#8

/-- `n` bytes from address `a`. -/
def readMram (s : State) (a n : Nat) : Bytes := (List.range n).map fun k => s.mramByte (a + k)

/-- Store bytes from address `a`; an address beyond the array does not exist and takes nothing. -/
def writeMram (s : State) : Nat → Bytes → State
  | _, [] => s
  | a, b :: bs =>
    writeMram (if a < mramSize then { s with mram := Store.put 0#8 a b s.mram } else s) (a + 1) bs

/-- Erase `n` bytes from address `a`. -/
def eraseMram (s : State) (a n : Nat) : State :=
  { s with mram := s.mram.filter fun c => c.1 < a || a + n ≤ c.1 }

end State
end Sys2Proof.Machine
end

