-- ==== Sys2Proof/Machine/Journal.lean ====
section
/-! DEFINITION. The legal journal's records and ring (R283–R288), and what a session does when a record of it is
written (R278, R280). -/

namespace Sys2Proof.Machine

/-- The address of the slot of record `q` (R286, R417). -/
def jnlAddr (q : Nat) : Nat := (q - 1) % 16384 * 96

/-- The event codes of R285. -/
inductive JnlEvent
  | journalInit | boot | recovery | sealedWrite | inputFault | registersRestored | clockFault | timeSet | timeAdjust
  | timeInvalid | haboobUse | lifecycle
  deriving DecidableEq, Repr

/-- The codes of R285. -/
def JnlEvent.code : JnlEvent → Nat
  | .journalInit => 1 | .boot => 2 | .recovery => 3 | .sealedWrite => 4 | .inputFault => 5
  | .registersRestored => 6 | .clockFault => 7 | .timeSet => 0x10 | .timeAdjust => 0x11 | .timeInvalid => 0x12
  | .haboobUse => 0x20 | .lifecycle => 0x21

namespace State

/-- Metering point `m`. -/
def point (s : State) (m : Fin 4) : PointSt := s.met.points[m]

/-- Change metering point `m`. -/
def modPoint (s : State) (m : Fin 4) (f : PointSt → PointSt) : State :=
  { s with met := { s.met with points := s.met.points.set m (f s.met.points[m]) } }

/-- Change the journal. -/
def modJnl (s : State) (f : JnlSt → JnlSt) : State := { s with met := { s.met with jnl := f s.met.jnl } }

/-- Points in OPEN or CLOSING: the n of R286. -/
def openSessions (s : State) : Nat :=
  ((List.finRange 4).filter fun m => decide ((s.point m).sess = .opened) || decide ((s.point m).sess = .closing)).length

/-- Some point is in OPENING, OPEN or CLOSING (R278): `MODE_FLAGS.SESSION_OPEN`. -/
def sessionOpen (s : State) : Bool := (List.finRange 4).any fun m => decide ((s.point m).sess ≠ .none)

/-- The used count U of R286. -/
def jnlUsed (s : State) : Nat :=
  let j := s.met.jnl
  let starts := (List.finRange 4).filterMap fun m =>
    if (s.point m).sess = .opened || (s.point m).sess = .closing then some (s.point m).startSeq else none
  j.next - (starts.foldl min (min (j.ack + 1) j.next))

/-- The free count F of R286. -/
def jnlFree (s : State) : Nat := 16384 - s.jnlUsed

/-- `JNL_OLDEST_SEQ` (R288). -/
def jnlOldest (s : State) : Nat := max (max 1 (s.met.jnl.next - 16384)) s.met.jnl.initSeq

/-- There is room for an EVENT record (R286). -/
def eventRoom (s : State) : Bool := decide (2 * s.openSessions + 1 ≤ s.jnlFree)

/-- There is room for a START record (R286). -/
def startRoom (s : State) : Bool :=
  decide (3 + 2 * s.openSessions + s.getN K.JNL_EVENT_RESERVE ≤ s.jnlFree)

/-- There is room for the record of a SEALED-class or time write, behind the records that wait for a signature (R284, R286). -/
def promiseRoom (s : State) : Bool := decide (2 * s.openSessions + 1 + s.met.jnl.waiting.length ≤ s.jnlFree)

/-- The chain value for the next record: the first 16 bytes of the digest of the one before (R283). -/
def jnlChain (s : State) : Bytes :=
  if s.met.jnl.next ≤ 1 then List.replicate 16 0#8
  else (sha256 (s.readMram (jnlAddr (s.met.jnl.next - 1)) 96)).take 16

/-- FILL_WARN as U reaches `JNL_WARN_LEVEL` (R286). -/
def noteFill (s : State) : State :=
  let w := decide (s.getN K.JNL_WARN_LEVEL ≤ s.jnlUsed)
  let was := s.met.jnl.warned
  let s := s.modJnl fun j => { j with warned := w }
  if w && !was then s.raiseLater Ev.jnl 0 else s

/-- The header of the journal takes the next sequence number and `JNL_ACK` (R286). -/
def writeHeader (s : State) : State := s.modJnl fun j => { j with header := j.header.write (j.next, j.ack) }

/-- Write one record: header, chain value, payload, CRC; then the header (R283, R286). -/
def writeRecord (s : State) (kind mp : Nat) (unsignedFlag : Bool) (chain payload : Bytes) : State :=
  let flags := (if s.sec.lifecycle = .sealed then 0 else 1) + (if unsignedFlag then 2 else 0)
  let q := s.met.jnl.next
  let body := toLE 1 kind ++ toLE 1 1 ++ toLE 1 mp ++ toLE 1 flags ++ toLE 8 q ++ chain ++
    (payload ++ List.replicate (64 - payload.length) 0#8)
  let s := s.writeMram (jnlAddr q) (body ++ toLE 4 (crc32 body))
  (s.modJnl fun j => { j with next := q + 1 }).writeHeader.noteFill

/-- Copy a point's registers and residues to MRAM (R276). -/
def copyRegisters (s : State) (m : Fin 4) : State :=
  s.modPoint m fun x => { x with copy := x.copy.write ⟨x.exp, x.imp, x.expRes, x.impRes, s.oasis.seconds⟩ }

/-- An operation ends REFUSED with a session result (R279). -/
def refuseSession (s : State) (m : Fin 4) (t code : Nat) : State :=
  ((s.put (K.MP_SESS_RESULT m) code).finish t .refused code).raiseLater (Ev.mp m) 2

/-- An open that ends before its START: no record is written, and a close that waited ends REFUSED (R280). Its tag ends with a
status, or REFUSED with a session result. -/
def endOpening (s : State) (m : Fin 4) (how : OpStatus ⊕ Nat) : State :=
  let x := s.point m
  let s := s.modPoint m fun y => { y with sess := .none, openTag := none, closeTag := none, closeWait := false }
  let s := s.modJnl fun j => { j with waiting := j.waiting.filter fun w => match w with | .start n _ _ _ _ => n ≠ m | _ => true }
  let s := match x.openTag, how with
    | some t, .inl st => s.finish t st
    | some t, .inr code => s.refuseSession m t code
    | none, _ => s
  match x.closeTag with
  | some t => s.refuseSession m t 0x11
  | none => s

/-- The START record of a session (R284): the session is OPEN, its tag completes (R278). A close that waited acts. Where the
ring has no room left for it the open is REFUSED (R286). -/
def writeStart (s : State) (m : Fin 4) (sec frac exp imp : Nat) : State :=
  let x := s.point m
  if x.sess ≠ .opening then s
  else if !s.startRoom then (s.endOpening m (.inr 0x12)).raise Ev.jnl 1
  else
    let q := s.met.jnl.next
    let payload := toLE 8 sec ++ toLE 2 frac ++ toLE 2 0 ++ toLE 8 exp ++ toLE 8 imp ++ x.sessId ++ toLE 4 x.sessRef ++
      toLE 4 (s.getN (K.MP_CAL_REV m)) ++ toLE 4 Config.metVersion ++ toLE 8 Config.serialNumber
    let s := s.writeRecord 1 m.val false s.jnlChain payload
    let s := s.modPoint m fun y =>
      { y with sess := if y.closeWait then .closing else .opened, openTag := none, closeWait := false, closeSeen := false,
               endWritten := false, reason := if y.closeWait then 1 else 0, startSeq := q, startSec := sec,
               startExp := exp, startImp := imp, eventsLost := false, timeChanged := false }
    let s := s.put (K.MP_SESS_RESULT m) 1
    (((s.copyRegisters m).finish? x.openTag .completed 1).raiseLater (Ev.mp m) 0)

/-- The END record of a session (R284, R290). -/
def writeEnd (s : State) (m : Fin 4) (sec frac exp imp : Nat) (estimated unsignedFlag : Bool) : State :=
  let x := s.point m
  if x.sess ≠ .closing || x.endWritten then s
  else
    let valid := s.oasis.valid
    let flags := (if estimated then 1 else 0) + (if x.timeChanged then 2 else 0) + (if x.overSeen then 4 else 0) +
      (if valid then 0 else 8) + (if x.eventsLost then 16 else 0)
    let (dur, s) : Nat × State :=
      if valid && x.startSec ≤ sec then (sec - x.startSec, s)
      else let (v, t) := s.fresh; (unsigned 32 v, t)
    let q := s.met.jnl.next
    let payload := toLE 8 (if valid then sec else 0) ++ toLE 2 frac ++ toLE 1 x.reason ++ toLE 1 flags ++ toLE 8 exp ++
      toLE 8 imp ++ toLE 8 x.startSeq ++ toLE 8 (exp - x.startExp) ++ toLE 8 (imp - x.startImp) ++ toLE 4 dur
    let s := s.writeRecord 2 m.val unsignedFlag s.jnlChain payload
    (s.modPoint m fun y =>
      { y with endWritten := true, endSeq := q, lastExp := exp - y.startExp, lastImp := imp - y.startImp }).copyRegisters m

/-- The SIGNATURE record (R284): the session is over, its close tag completes (R278). -/
def writeSignature (s : State) (m : Fin 4) : State :=
  let x := s.point m
  if x.sess ≠ .closing || !x.endWritten then s
  else
    let flags := if s.sec.lifecycle = .sealed then 0 else 1
    let head := toLE 1 3 ++ toLE 1 1 ++ toLE 1 m.val ++ toLE 1 flags ++ toLE 8 s.met.jnl.next ++ s.jnlChain
    let msg := s.readMram (jnlAddr x.startSeq) 96 ++ s.readMram (jnlAddr x.endSeq) 96 ++ head
    let sig := ecdsaSign (s.sec.key.getD []) (sha256 msg)
    let s := s.writeRecord 3 m.val false s.jnlChain sig
    let s := s.modPoint m fun y =>
      { y with sess := .none, closeTag := none, endWritten := false, closeSeen := false, overSeen := false }
    let s := (s.put (K.MP_SESS_RESULT m) 2).noteFill
    ((s.finish? x.closeTag .completed 2).bump (K.MP_SESSION_COUNT m)).raiseLater (Ev.mp m) 1

/-- An EVENT record (R285). A set or adjustment of the time marks every session that it lies in (R284). -/
def writeEvent (s : State) (code mp : Nat) (data : Bytes) (sec frac : Nat) : State :=
  let first := code = JnlEvent.journalInit.code
  let chain := if first then List.replicate 16 0#8 else s.jnlChain
  let q := s.met.jnl.next
  let s := s.writeRecord 4 mp false chain (toLE 8 sec ++ toLE 2 frac ++ toLE 2 code ++ data)
  let s := if first then s.modJnl fun j => { j with initSeq := q } else s
  if code = 0x10 || code = 0x11 then
    (List.finRange 4).foldl (fun (s : State) m =>
      s.modPoint m fun y => if (y.sess = .opened || y.sess = .closing) && !y.endWritten then { y with timeChanged := true } else y) s
  else s

/-- Count a dropped event record (R286); the sessions that it lies in are marked (R284). -/
def eventLost (s : State) : State :=
  let t := s.bump K.JNL_EVENTS_LOST
  let t := if s.getN K.JNL_EVENTS_LOST < t.getN K.JNL_EVENTS_LOST then
      (List.finRange 4).foldl (fun (t : State) m =>
        t.modPoint m fun y => if (y.sess = .opened || y.sess = .closing) && !y.endWritten then { y with eventsLost := true } else y) t
    else t
  t.raiseLater Ev.jnl 2

/-- The point that an object belongs to (R293). -/
def pointOf (key : Nat) : Option (Fin 4) :=
  (List.finRange 4).find? fun m => decide (0x6100 + 0x100 * m.val ≤ key / 256) && decide (key / 256 < 0x6200 + 0x100 * m.val)

/-- The point whose calibration an object belongs to (R277). -/
def calPoint (key : Nat) : Option (Fin 4) :=
  (List.finRange 4).find? fun m =>
    key = K.MP_V_GAIN m || key = K.MP_V_OFFSET m || key = K.MP_I_GAIN m || key = K.MP_I_OFFSET m

/-- A SEALED-class value takes effect (R277): a calibration object counts in `MP_CAL_REV` and raises CAL_CHANGED. -/
def applySealed (s : State) (key : Nat) (v : Int) : State :=
  match calPoint key with
  | some m => ((s.addSat (K.MP_CAL_REV m) 1).1.put key v).raiseLater (Ev.mp m) 6
  | none => s.put key v

/-- The data of a SEALED_WRITE record (R285). -/
def sealedData (s : State) (key size : Nat) (v : Int) : Bytes :=
  let rev := match calPoint key with | some m => min 0xFFFFFFFF (s.getN (K.MP_CAL_REV m) + 1) | none => 0
  toLE 2 (key / 256) ++ toLE 1 (key % 256) ++ toLE 1 3 ++ toLE 8 (unsigned (8 * size) (s.get key)) ++ toLE 8 (unsigned (8 * size) v) ++
    toLE 4 rev

/-- Write a record that waited or that nothing delays. An END starts its signature (R280). An EVENT that does not fit is dropped
and counted (R286), and a SEALED-class value is applied after its record (R277). -/
def putRecord (s : State) : WaitRec → State
  | .start m sec frac exp imp => s.writeStart m sec frac exp imp
  | .finish m sec frac exp imp est =>
    if (s.point m).sess = .closing && !(s.point m).endWritten then
      (s.writeEnd m sec frac exp imp est false).modJnl fun j => { j with signing := some m }
    else s
  | .event code mp data sec frac => if s.eventRoom then s.writeEvent code mp data sec frac else s.eventLost
  | .sealedWrite key size v sec frac =>
    if s.eventRoom then
      let mp := match pointOf key with | some m => m.val | none => 0xFF
      ((s.writeEvent JnlEvent.sealedWrite.code mp (s.sealedData key size v) sec frac).applySealed key v).raiseLater Ev.jnl 6
    else s.eventLost

/-- A record arises: it waits while an END–SIGNATURE pair is under way (R280). -/
def addRecord (s : State) (w : WaitRec) : State :=
  if s.met.jnl.signing.isSome then s.modJnl fun j => { j with waiting := j.waiting ++ [w] } else s.putRecord w

/-- Write the records that waited, until an END starts the next signature. -/
def drainRecords : List WaitRec → State → State
  | [], s => s
  | w :: t, s =>
    let s := s.putRecord w
    if s.met.jnl.signing.isSome then s.modJnl fun j => { j with waiting := t } else drainRecords t s

/-- The signature under way is complete: SIGNATURE is written, and the records that waited follow (R280). -/
def signatureDone (s : State) : State :=
  match s.met.jnl.signing with
  | none => s
  | some m =>
    let ws := s.met.jnl.waiting
    drainRecords ws ((s.writeSignature m).modJnl fun j => { j with signing := none, waiting := [] })

/-- An EVENT record arises now (R285). Parts without metering have no journal. -/
def journalEvent (s : State) (e : JnlEvent) (mp : Nat) (data : Bytes) : State :=
  if s.hasMetering then s.addRecord (.event e.code mp data s.oasis.seconds s.rtcFrac) else s

/-- An open session starts to close for `reason`: its END falls at the next sample boundary (R278). -/
def closeSession (s : State) (m : Fin 4) (reason : Nat) : State :=
  if (s.point m).sess = .opened then
    s.modPoint m fun x => { x with sess := .closing, reason := reason, closeSeen := false, endWritten := false }
  else s

/-- TIME_INVALID is recorded, and opens are refused until a time is set (R290). -/
def journalTimeInvalid (s : State) (cause : Nat) : State :=
  if s.hasMetering then
    ((s.journalEvent .timeInvalid 0xFF (toLE 1 cause)).modJnl fun j => { j with timeInvalid := true }).raiseLater Ev.jnl 5
  else s

end State
end Sys2Proof.Machine
end

