-- ==== Sys2Proof/Machine/OtpOps.lean ====
section
/-! DEFINITION. The OTP array's rows and programming window (R444–R451), and the proofs of a role: tokens, HMACs and
lockouts (R339–R341, R457). -/

namespace Sys2Proof.Machine
namespace State

/-- Change the OTP array. -/
def modOtp (s : State) (f : OtpSt → OtpSt) : State := { s with otp := f s.otp }

/-- Change security. -/
def modSec (s : State) (f : SecSt → SecSt) : State := { s with sec := f s.sec }

/-- Change the network. -/
def modNet (s : State) (f : NetSt → NetSt) : State := { s with net := f s.net }

/-! ### Random numbers (R455) -/

/-- The health test of the random number generator at the request that comes next passes, or not (R455). -/
def rngTested (s : State) (ok : Bool) : State := s.modSec fun x => { x with rngOk := ok }

/-- A request for `n` random bytes: none, with RNG_FAULT raised, where the health test fails (R455). -/
def drawRandom (s : State) (n : Nat) : Option Bytes × State :=
  if s.sec.rngOk then
    let (bs, s) := s.random n
    (some bs, s)
  else (none, s.raise Ev.sec 9)

/-! ### Rows (R444–R446) -/

/-- A voted row (R445). -/
def otpVoted (r : Nat) : Bool := r < 8 || 1008 ≤ r

/-- The content of a logical row; an unprogrammed bit reads 0. -/
def otpRow (s : State) (r : Nat) : OtpRow := (Store.lookup r s.otp.rows).getD { data := 0, check := 0 }

/-- The row is programmed: some bit of it is 1. -/
def otpProgrammed (s : State) (r : Nat) : Bool := decide ((s.otpRow r).data ≠ 0) || decide ((s.otpRow r).check ≠ 0)

/-- The row's check bits fit its data: it reads without an uncorrectable error (R444). -/
def otpClean (s : State) (r : Nat) : Bool :=
  otpVoted r || !s.otp.bad.contains r && (!s.otpProgrammed r || decide ((s.otpRow r).check = Config.otpCheck (s.otpRow r).data))

/-- Burn a row: the bits of `x` become 1; a bit that is 1 stays 1 (R448). -/
def setOtpRow (s : State) (r : Nat) (x : OtpRow) : State :=
  let old := s.otpRow r
  s.modOtp fun o => { o with rows := Store.insert r ⟨old.data ||| x.data, old.check ||| x.check⟩ o.rows }

/-- The bytes that rows `lo` to `lo + n - 1` spell, least significant byte of a row first. -/
def otpBytes (s : State) (lo n : Nat) : Bytes := (List.range n).flatMap fun k => toLE 8 (s.otpRow (lo + k)).data

/-- The 32 bytes of the seed (rows 80–83). -/
def seedBytes (s : State) : Bytes := s.otpBytes 80 4

/-- The metrology authority's public key (rows 72–79), or none where its rows are all zero or uncorrectable (R457). -/
def metroKey (s : State) : Option Bytes :=
  let ok := (List.range 8).all fun k => s.otpClean (72 + k)
  let bs := s.otpBytes 72 8
  if ok && !(bs.all (· = 0#8)) then some bs else none

/-- `JNL_PUBKEY`: rows 84–91 (R445); zeros where a row of it is uncorrectable (R452). -/
def publicKey (s : State) : Bytes :=
  if (List.range 8).all fun k => s.otpClean (84 + k) then s.otpBytes 84 8 else List.replicate 64 0#8

/-- `OTP_ROW_STATE` (R467). -/
def otpRowState (s : State) (r : Nat) : Nat :=
  if 80 ≤ r && r < 84 then 5
  else if otpVoted r then 4
  else if s.otp.spares.contains r then 2
  else if !s.otpProgrammed r then 0
  else if s.otpClean r then 1 else 3

/-- The bitwise majority of the three copies in rows `r` to `r + 2` (R444–R446). -/
def otpVote (s : State) (r : Nat) : Nat :=
  let a := (s.otpRow r).data
  let b := (s.otpRow (r + 1)).data
  let c := (s.otpRow (r + 2)).data
  (a &&& b) ||| (a &&& c) ||| (b &&& c)

/-- The capability fuses (R446): tiles, units, and the phases and metering points that follow from them. -/
def otpCaps (s : State) : Caps :=
  let v := s.otpVote 0
  let tiles := v % 256
  let off := v / 256 % 64
  let units := 63 ^^^ off
  let phases := ((List.range 7).map fun t => if tiles.testBit (t + 1) then 0xFF * 2 ^ (8 * t) else 0).sum
  let mp := if units.testBit 0 then (if units.testBit 4 then 3 else 0) + (if units.testBit 5 then 12 else 0) else 0
  { units := units, tiles := tiles, phases := phases, mp := mp }

/-- The bits set in a lifecycle field (R446): 0 OPEN_F, 1 SEALED_F, 2 RETURNED_F. -/
def lcBits (s : State) (k : Nat) : Nat := ((List.range 8).filter fun j => (s.otpVote 3).testBit (8 * k + j)).length

/-- A lifecycle field counts as burned: 6 or more bits, or an ambiguous count (R446, R452). -/
def lcBurned (s : State) (k : Nat) : Bool := decide (3 ≤ s.lcBits k)

/-- A lifecycle field is ambiguous (R446). -/
def lcAmbiguous (s : State) (k : Nat) : Bool := decide (3 ≤ s.lcBits k) && decide (s.lcBits k ≤ 5)

/-- The lifecycle state of the fuses (R446). -/
def otpLifecycle (s : State) : Lifecycle :=
  if s.lcBurned 2 then .returned else if s.lcBurned 1 then .sealed else if s.lcBurned 0 then .opened else .blank

/-! ### The window (R447, R448) -/

/-- The bits that a burn cut short leaves: those it had, and of the new ones a free choice (R447, R451). -/
def burnPart (old new : OtpRow) (pick : Nat) : OtpRow :=
  { data := old.data ||| (new.data &&& pick), check := old.check ||| (new.check &&& (pick / 2 ^ 64)) }

/-- A burn ends without verification: its tag ends FAILED with `OTP_RESULT` = WINDOW_LOST, and the row holds whatever was
burned (R451). -/
def loseBurn (s : State) : State :=
  let s := match s.otp.burn with
    | some (.row r v) =>
      let (pick, s) := s.fresh
      s.setOtpRow r (burnPart (s.otpRow r) v (unsigned 72 pick))
    | _ => s
  let t := s.otp.burnTag
  if s.otp.burn.isSome then
    ((s.modOtp fun o => { o with burn := none, burnTag := none }).put K.OTP_RESULT 1).finish? t .failed
  else s

/-- What a burn of a lifecycle field that was cut short leaves: of the bits of its three copies a free choice (R446, R460). -/
def partField (s : State) (target : Lifecycle) : State :=
  let (pick, s) := s.fresh
  (List.range 3).foldl (fun (s : State) k =>
    s.setOtpRow (3 + k) ⟨unsigned 24 pick / 256 ^ k % 256 * 2 ^ (8 * (target.code - 2)), 0⟩) s

/-- A lifecycle transition whose window closes before its field is burned ends FAILED; the state is unchanged, and the field may be
part-burned (R460). -/
def loseTransition (s : State) : State :=
  match s.sec.transition with
  | some tr =>
    ((((s.modSec fun x => { x with transition := none }).partField tr.target).put K.OTP_RESULT 1).finish tr.tag .failed)
  | none => s

/-- A RETURNED part whose seed rows are not all burned: step 3 of R460 is incomplete (R469). -/
def seedIntact (s : State) : Bool :=
  decide (s.otpLifecycle = .returned) && (List.range 4).any fun k => decide (s.otpRow (80 + k) ≠ ⟨2 ^ 64 - 1, 255⟩)

/-- Close the programming window (R447). -/
def closeWindow (s : State) : State :=
  if s.otp.window then
    (((s.modOtp fun o => { o with window := false }).loseBurn).loseTransition).raise Ev.sec 1
  else s

/-! ### Roles (R339–R341, R457) -/

/-- The place of a role's lockout (R341): INSTALLER, METROLOGIST, VENDOR. -/
def lockPlace : Role → Option (Fin 3)
  | .installer => some 0 | .metrologist => some 1 | .vendor => some 2 | _ => none

/-- A role's lockout runs. -/
def lockedOut (s : State) (r : Role) : Bool :=
  match lockPlace r with
  | some i => (s.net.locks[i]).lockEnd.isSome
  | none => false

/-- A failed proof of a role (R340, R341): AUTH_FAILED, and at every fifth in a row a lockout of 60 s, twice as long each
further time, at most 3,600 s. -/
def authFailed (s : State) (r : Role) : State :=
  match lockPlace r with
  | none => s
  | some i =>
    let s := s.raise Ev.net 4
    let x := s.net.locks[i]
    let n := x.fails + 1
    if n % 5 ≠ 0 then s.modNet fun w => { w with locks := w.locks.set i { x with fails := n }, lastFail := some i }
    else
      let secs := min 3600 (60 * 2 ^ x.lockouts)
      let y : LockSt := { fails := n, lockouts := x.lockouts + 1, lockEnd := some (s.now + secs * 100000000) }
      (s.modNet fun w => { w with locks := w.locks.set i y, lastFail := some i }).raise Ev.net 5

/-- A granted proof resets the role's failures and doubling (R341). -/
def authGranted (s : State) (r : Role) : State :=
  match lockPlace r with
  | none => s
  | some i => s.modNet fun n => { n with locks := n.locks.set i {} }

/-- The key for a token's role (R457). -/
def tokenKey (s : State) : Role → Option Bytes
  | .vendor => some ((List.range 64).map Config.vendorKey)
  | .metrologist => s.metroKey
  | _ => none

/-- The role is accepted in the present lifecycle state (R339). -/
def roleAvailable (s : State) : Role → Bool
  | .installer => s.net.pwHash.isSome
  | .metrologist => (s.sec.lifecycle = .opened || s.sec.lifecycle = .sealed) && s.metroKey.isSome
  | .vendor => s.sec.lifecycle = .blank || s.sec.lifecycle = .returned
  | _ => true

/-- The result of a token check, in the order of R340: 7 TIME_UNKNOWN, 3 WRONG_DEVICE, 2 EXPIRED, 1 BAD_PROOF, 0. -/
def tokenCheck (s : State) (role : Role) (token nonce : Bytes) : Nat :=
  let f (k n : Nat) := (token.drop k).take n
  if !s.oasis.valid then 7
  else if f 4 8 ≠ toLE 8 Config.serialNumber || f 12 16 ≠ nonce then 3
  else if ofLE (f 28 8) ≤ s.oasis.seconds then 2
  else
    let head := f 0 2 = [0x54#8, 0x4B#8] && f 2 1 = toLE 1 role.code && f 3 1 = [0x01#8] && token.length = 100
    match s.tokenKey role with
    | some key => if head && ecdsaVerify key (sha256 (token.take 36)) (f 36 64) then 0 else 1
    | none => 1

/-- The HMAC proof of INSTALLER (R339). -/
def hmacCheck (s : State) (nonce proof : Bytes) (port node : Nat) : Bool :=
  match s.net.pwHash with
  | some h => decide (proof = hmacSha256 h (nonce ++ toLE 8 Config.serialNumber ++ toLE 1 port ++ toLE 1 node))
  | none => false

end State
end Sys2Proof.Machine
end

