-- ==== Sys2Proof/Machine/BeamOps.lean ====
section
/-! DEFINITION. The Beam links short of a fence: sequence checks and replay (R303), the beacon follower (R310), and the
selection and the end of a Haboob run (R314–R318). -/

namespace Sys2Proof.Machine

/-- `x` divided by `n`, rounded to the nearest whole number, halves away from zero (R310). -/
def roundAway (x n : Int) : Int := if 0 ≤ x then (2 * x + n) / (2 * n) else -((2 * -x + n) / (2 * n))

/-- 2³²: the parts of a tick that a follower counts (R310). -/
def tickParts : Int := 4294967296

/-- The objects that hold measured quantities, which samples bring in. -/
def measured (key : Nat) : Bool :=
  [K.PP_VIN, K.PP_VBAT, K.PP_VBUS, K.OTP_VQPS, K.OASIS_VCELL, K.OASIS_VBK].contains key ||
  ((List.range 32).any fun r => decide (key = K.RAIL_V r)) ||
  ((List.finRange 56).any fun p => decide (key = K.PH_VBUS p)) ||
  ((List.range 4).any fun k => decide (key = K.AUX_V k) || decide (key = K.AUX_I k))

/-! ### The transmitters (R302) -/

/-- The strict priority of flits by TYPE: ACKNAK, URGENT, TIME, SAMPLE, COMMAND, STATUS; IDLE where none of them waits (R302). -/
def flitOrder : List (Fin 8) := [3, 7, 4, 2, 5, 1]

/-- The TYPE that goes next at a flit boundary (R302). -/
def TxSt.next (x : TxSt) : Fin 8 := (flitOrder.find? fun k => decide (0 < x.waiting[k])).getD 0

/-- A flit boundary: the flit being sent is out, and the next one follows (R302). -/
def TxSt.boundary (x : TxSt) : TxSt := { x with sending := x.next, waiting := x.waiting.set x.next (x.waiting[x.next] - 1) }

/-- `n` flit boundaries. -/
def TxSt.boundaries : Nat → TxSt → TxSt
  | 0, x => x
  | n + 1, x => TxSt.boundaries n x.boundary

/-- The time of one flit in units of 5 ns: 25 ns up, 100 ns down (R299). -/
def flitTime (up : Bool) : Nat := if up then 5 else 20

/-- The flit boundaries up to the instant `end_`, in units of 5 ns. -/
def TxSt.run (x : TxSt) (up : Bool) (end_ : Nat) : TxSt :=
  let n := (end_ - x.at_) / flitTime up
  { TxSt.boundaries (min n (x.waiting.toList.sum + 1)) x with at_ := x.at_ + n * flitTime up }

/-- The flit boundaries up to beacon time `now`. On an up link the frame of the last whole 1 µs is a STATUS flit ready from then on (R300,
R304). DEDUCED (log 126): a newer frame takes the place of one that still waits. -/
def TxSt.upTo (x : TxSt) (up : Bool) (now : Nat) : TxSt :=
  let frame := 2 * now / 200 * 200
  let x := if up && x.at_ < frame then
      let y := x.run up frame
      { y with waiting := y.waiting.set 1 1 }
    else x
  x.run up (2 * now)

/-- One more flit of a TYPE is ready. -/
def TxSt.push (x : TxSt) (k : Fin 8) : TxSt := { x with waiting := x.waiting.set k (x.waiting[k] + 1) }

/-- A sequenced flit goes out: one with the transmitter's next SEQ is new, it is kept among the last 16 and the SEQ rises by 1, from 31 to
0; one that is resent is no longer to be resent (R300, R303). -/
def TxSt.send (x : TxSt) (f : Flit) : TxSt :=
  let x := { x with replay := x.replay.filter fun g => decide (g.seq ≠ f.seq) }
  if f.seq = x.seq then
    let kept := x.kept ++ [f]
    { x with kept := kept.drop (kept.length - 16), seq := (x.seq + 1) % 32 }
  else x

/-- A NAK: what was sent from the named SEQ on is ready again, in its order (R303). -/
def TxSt.resend (x : TxSt) (seq : Nat) : TxSt :=
  let again := x.kept.dropWhile fun g => decide (g.seq ≠ seq)
  { again.foldl (fun (x : TxSt) g => x.push (Fin.ofNat 8 g.body.type)) x with replay := again }

/-- The CRC of a flit over its bits [71:0], from bit 71 down (R301). -/
def flitCrc (word : Nat) : Nat := (crc8Of 0x2F 0xFF (toLE 9 word).reverse).toNat

/-- An ACKNAK that names `seq` is ready: its payload word (R300). -/
def TxSt.acknowledge (x : TxSt) (seq : Nat) (nak : Bool) : TxSt :=
  { x.push 3 with ackWord := seq % 32 + if nak then 32 else 0 }

/-- The tile of a link is unpowered: its follower is not locked, and its rate word is kept (R310). A fenced one stays fenced. -/
def LinkSt.powerOff (l : LinkSt) : LinkSt :=
  { l with st := if l.st = .fenced then .fenced else .off, locked := false, shown := false, lostLock := false, goodRun := 0, offRun := 0,
           owed := 0, exchanged := false, farRun := 0 }

/-- The training of a link begins (R306, R307). -/
def LinkSt.beginTraining (l : LinkSt) : LinkSt := { l.powerOff with st := .training, attempts := 0 }

/-- The follower after `clocks` Lantern clocks: what it owes is made up over 4,000 clocks, which are 10 µs, and it never runs
backwards (R310). -/
def LinkSt.advance (l : LinkSt) (clocks : Nat) : LinkSt :=
  let fwd := max 0 (l.rate * clocks)
  let paid := max (-fwd) (if 4000 ≤ clocks then l.owed else quot (l.owed * clocks) 4000)
  { l with follower := l.follower + fwd + paid, owed := l.owed - paid }

/-- A replay is in progress in a direction of a link (R320). -/
def LinkSt.inReplay (l : LinkSt) : Bool := l.waitUp || l.waitDown || !l.txUp.replay.isEmpty || !l.txDown.replay.isEmpty

namespace State

/-- Link `t`. -/
def link (s : State) (t : Fin 8) : LinkSt := s.links[t]

/-- Change link `t`. -/
def modLink (s : State) (t : Fin 8) (f : LinkSt → LinkSt) : State := { s with links := s.links.set t (f s.links[t]) }

/-- A flit of TYPE `k` is ready at a transmitter of link `t` (R302); a link that is not up carries none. -/
def ready (s : State) (t : Fin 8) (up : Bool) (k : Fin 8) : State :=
  if (s.link t).st ≠ .up then s
  else s.modLink t fun l =>
    if up then { l with txUp := (l.txUp.upTo true s.now).push k } else { l with txDown := (l.txDown.upTo false s.now).push k }

/-- An ACKNAK of a link's receiver is ready on its other direction (R303): a NAK names the expected SEQ. DEDUCED (log 126): an
acknowledgement names the SEQ accepted last. -/
def acknowledge (s : State) (t : Fin 8) (up : Bool) (nak : Bool) : State :=
  if (s.link t).st ≠ .up then s
  else s.modLink t fun l =>
    let want := if up then l.rxUp else l.rxDown
    let seq := if nak then want else want + 31
    if up then { l with txDown := (l.txDown.upTo false s.now).acknowledge seq nak, unacked := 0 }
    else { l with txUp := (l.txUp.upTo true s.now).acknowledge seq nak, unackedDown := 0 }

/-- The training of tile `t`'s link begins: `BEAM_TRAIN_RESULT` is NO_CLOCK until an attempt gets past step 1 (R306). -/
def beginTraining (s : State) (t : Fin 8) : State := (s.modLink t LinkSt.beginTraining).put (K.BEAM_TRAIN_RESULT t) 1

/-- The links of the tiles that are fitted and not fenced begin their training (R306). -/
def trainLinks (s : State) (f : Fin 8 → Bool) : State :=
  ((List.finRange 8).filter fun (t : Fin 8) => t ≠ 0 && s.tileFitted t && !(s.tile t).fenced && f t).foldl beginTraining s

/-- A flit of TYPE `k` is ready for every tile that `f` holds of. -/
def readyAll (s : State) (up : Bool) (k : Fin 8) (f : Fin 8 → Bool) : State :=
  ((List.finRange 8).filter f).foldl (fun (s : State) t => s.ready t up k) s

/-- Change Haboob. -/
def modHab (s : State) (f : HabSt → HabSt) : State := { s with hab := f s.hab }

/-! ### Haboob (R314–R318) -/

/-- A run is armed. -/
def habArmed (s : State) : Bool := decide (s.get K.HAB_STATE = 1)

/-- A Beam target, up 0x10 + t or down 0x20 + t (R319). -/
def habBeam (target : Nat) : Bool := 0x10 ≤ target && target < 0x40

/-- The lifecycle, debug and mode matrix permits a run on `target` (R314, R466). -/
def habAllowed (s : State) (target : Nat) : Bool :=
  match s.sec.lifecycle with
  | .blank | .opened => s.portsOpen
  | .sealed => decide (s.modes.mode = .service) && decide (s.sec.level = .control) && !habBeam target
  | .returned => decide (s.modes.mode = .service) && decide (s.sec.level = .vendor)

/-- The data of a HABOOB_USE event (R318). -/
def habData (s : State) (armed : Bool) : Bytes :=
  toLE 1 (if armed then 1 else 2) ++ toLE 1 (s.getN K.HAB_TARGET) ++ toLE 1 (s.getN K.HAB_ACTION) ++
    toLE 1 (s.getN K.HAB_MODE) ++ toLE 2 (s.getN K.HAB_PROB) ++ toLE 4 (s.getN K.HAB_PATTERN) ++
    toLE 1 (s.getN K.HAB_PATTERN_LEN) ++ toLE 1 (s.getN K.HAB_BURST) ++ toLE 4 (s.getN K.HAB_LIMIT) ++
    toLE 2 (s.getN K.HAB_SEED) ++ toLE 1 s.hab.role ++ toLE 1 s.hab.level ++
    toLE 4 (if armed then 0 else s.getN K.HAB_COUNT) ++ toLE 1 (if armed then 0 else s.getN K.HAB_DISARM_REASON)

/-- End the run that is armed (R317): 1 limit, 2 command, 3 condition, 4 SEAL, 5 fence. The end of a run
that was armed in SEALED is journalled (R318). -/
def habEnd (s : State) (reason : Nat) : State :=
  if s.habArmed then
    let s := s.puts [(K.HAB_STATE, 2), (K.HAB_DISARM_REASON, reason)]
    let s := if s.hab.sealed then s.journalEvent .haboobUse 0xFF (s.habData false) else s
    s.raise Ev.beam 9
  else s

/-- End a run whose condition no longer holds (R317): reason 4 at a SEAL entry, 3 otherwise. -/
def habCheck (s : State) : State :=
  if s.modes.mode = .seal then s.habEnd 4
  else if s.habAllowed (s.getN K.HAB_TARGET) then s else s.habEnd 3

/-- The bits of an item of `size` bits that a BIT or a BURST inverts, the generator at `v` (R315, R317). DEDUCED (log 194): it chooses
the first of them among those that leave room for the burst, by its value modulo their number. -/
def habBits (s : State) (v size : Nat) : List Nat :=
  let n := if s.get K.HAB_ACTION = 2 then s.getN K.HAB_BURST else 1
  (List.range n).map fun k => v % (size + 1 - n) + k

/-- One eligible item of a target, of `size` bits: whether it is selected (R317). The generator then chooses the bits of a BIT or a BURST.
`HAB_LIMIT` injections end the run. -/
def habItem (s : State) (target size : Nat) : Bool × State :=
  if s.habArmed && s.get K.HAB_TARGET = target then
    let n := s.hab.item
    let prob := decide (s.get K.HAB_MODE = 0)
    let v := Config.lfsrNext s.hab.lfsr % 65536
    let s := (s.addSat K.HAB_SEEN 1).1.modHab fun h =>
      { h with item := n + 1, lfsr := if prob then v else h.lfsr }
    let hit := if prob then decide (v < s.getN K.HAB_PROB)
      else (s.getN K.HAB_PATTERN).testBit (n % max 1 (s.getN K.HAB_PATTERN_LEN))
    if hit then
      let act := s.get K.HAB_ACTION
      let s := (s.addSat K.HAB_COUNT 1).1.modHab fun h =>
        if act = 1 || act = 2 then
          let w := Config.lfsrNext h.lfsr % 65536
          { h with lfsr := w, bits := s.habBits w size }
        else h
      (true, if s.get K.HAB_LIMIT ≠ 0 && s.get K.HAB_LIMIT ≤ s.get K.HAB_COUNT then s.habEnd 1 else s)
    else (false, s)
  else (false, s)

/-! ### Sequence and replay (R303) -/

/-- Count one failure on a link's direction (R319). More than 16 failures within 1 ms raise CRC_BURST (R322). -/
def countFailure (s : State) (t : Fin 8) (up : Bool) : State :=
  let ago := (s.link t).failTimes.filter fun x => decide (s.now < x + 100000)
  let times := (s.now :: ago).take 17
  let s := s.modLink t fun l =>
    { l with failTimes := times, downFails := if up then l.downFails else l.downFails + 1 }
  let s := if up then s.bump (K.BEAM_CRC_UP t) else s
  if 16 < times.length then s.raise Ev.beam 4 else s

/-- A failure of the expected SEQ of a link's direction: it is NAKed on the other direction, and its replay is awaited, which the
transmitter begins when the NAK arrives (R303). -/
def linkFailure (s : State) (t : Fin 8) (up : Bool) : State :=
  let s := (s.countFailure t up).modLink t fun l =>
    { l with waitUp := l.waitUp || up, waitDown := l.waitDown || !up,
             failsUp := if up then l.failsUp + 1 else l.failsUp,
             failsDown := if up then l.failsDown else l.failsDown + 1 }
  (if up then s.bump (K.BEAM_REPLAYS t) else s).acknowledge t up true

/-- The expected SEQ arrived: the next one is expected. The receiver acknowledges every eighth flit (R303). -/
def linkAccept (s : State) (t : Fin 8) (up : Bool) : State :=
  let due := decide ((if up then (s.link t).unacked else (s.link t).unackedDown) % 8 = 7)
  let s := s.modLink t fun l =>
    if up then { l with rxUp := (l.rxUp + 1) % 32, failsUp := 0, waitUp := false, unacked := (l.unacked + 1) % 8 }
    else { l with rxDown := (l.rxDown + 1) % 32, failsDown := 0, waitDown := false, unackedDown := (l.unackedDown + 1) % 8 }
  if due then s.acknowledge t up false else s

/-- The SEQ that a direction expects, and whether a replay of it is awaited. -/
def linkExpects (s : State) (t : Fin 8) (up : Bool) : Nat × Bool :=
  if up then ((s.link t).rxUp, (s.link t).waitUp) else ((s.link t).rxDown, (s.link t).waitDown)

/-! ### The follower (R310) -/

/-- A TIME flit at tile `t`: `b` is the stamp, `clocks` the Lantern clocks since the last one. A negative correction is owed (R310). -/
def followTime (s : State) (t : Fin 8) (b clocks : Nat) : State :=
  let delay := quot (s.get (K.BEAM_DELAY_DOWN t) * tickParts) 100
  s.modLink t fun l =>
    let l := l.advance clocks
    let err := b * tickParts + delay - l.follower
    let mag : Int := err.natAbs
    let far := !l.locked && decide (100 * tickParts < mag)
    let by_ := if far then err else quot err 4
    let l := { l with follower := l.follower + max 0 by_, owed := l.owed + min 0 by_, rate := if far then l.rate else l.rate + quot err 64 }
    let good := if mag ≤ tickParts then l.goodRun + 1 else 0
    let off := if 2 * tickParts < mag then l.offRun + 1 else 0
    let locked := if 8 ≤ good then true else if 2 ≤ off then false else l.locked
    { l with err := err, exchanged := true, goodRun := good, offRun := off, locked := locked }

/-- The Keeper reads the tile's error and LOCKED flag from its STATUS frame (R310, R311); a `BEAM_TIME_OFFSET` outside ±200 ns counts
towards R304's TIME_FAULT once for each exchange. LOCKED returns where its loss was reported before (DEDUCED, log 191). -/
def readStatus (s : State) (t : Fin 8) : State :=
  let l := s.link t
  let ns := clampInt (-32767) 32767 (roundAway (l.err * 10) tickParts)
  let far := decide (200 < ns.natAbs)
  let s := s.put (K.BEAM_TIME_OFFSET t) ns
  let s := if (s.get (K.BEAM_TIME_OFFSET_MAX t)).natAbs < ns.natAbs then s.put (K.BEAM_TIME_OFFSET_MAX t) ns else s
  let s := s.modLink t fun x =>
    { x with exchanged := false, shown := x.locked, downFails := 0,
             farRun := if !l.exchanged then x.farRun else if far then x.farRun + 1 else 0 }
  let s := (List.range l.downFails).foldl (fun (s : State) _ => s.bump (K.BEAM_CRC_DOWN t)) s
  if l.shown && !l.locked then (s.modLink t fun x => { x with lostLock := true }).raise Ev.beam 5
  else if !l.shown && l.locked && l.lostLock then (s.modLink t fun x => { x with lostLock := false }).raise Ev.beam 6 else s

/-- A tile reports its trigger stamps: its link is up and its follower locked (R321). -/
def stamps (s : State) (t : Fin 8) : Bool := decide ((s.link t).st = .up) && (s.link t).locked

/-- A measured quantity that samples bring in now: a fenced tile's objects keep what they hold (R313). -/
def takes (s : State) (key : Nat) : Bool :=
  measured key && !(List.finRange 56).any fun p =>
    (s.tile (tileOf p)).fenced && decide (key = K.PH_VBUS p)

/-- `BEAM_TILE_STATUS` (R320). -/
def beamTileStatus (s : State) (t : Fin 8) : Nat :=
  let l := s.link t
  let b (k : Nat) (v : Bool) := if v then 2 ^ k else 0
  b 0 l.shown + b 1 l.replaying + b 2 l.downLost +
    b 3 (s.habArmed && (s.get K.HAB_TARGET = (0x10 + t.val : Nat) || s.get K.HAB_TARGET = (0x20 + t.val : Nat)))

/-- `BEAM_UP` (R319): a fused-off tile's bit reads 0. -/
def beamUp (s : State) : Nat :=
  ((List.finRange 8).map fun t => if (s.link t).st = .up && s.tileFitted t then 2 ^ t.val else 0).sum

end State
end Sys2Proof.Machine
end

