-- ==== Sys2Proof/Machine/ModeOps.lean ====
section
/-! DEFINITION. The mode machine's shared moves (R41–R45, R55–R57), the battery's usability (R229), and events that wait
until one can be raised. -/

namespace Sys2Proof.Machine
namespace State

/-- Change the mode machine. -/
def modModes (s : State) (f : ModeSt → ModeSt) : State := { s with modes := f s.modes }

/-- Change the power path. -/
def modPath (s : State) (f : PathSt → PathSt) : State := { s with path := f s.path }

/-- Change the charger. -/
def modChg (s : State) (f : ChargerSt → ChargerSt) : State := { s with chg := f s.chg }

/-- Change supervision. -/
def modSup (s : State) (f : SupSt → SupSt) : State := { s with sup := f s.sup }

/-- Change Oasis. -/
def modOasis (s : State) (f : OasisSt → OasisSt) : State := { s with oasis := f s.oasis }

/-! ### The battery (R229, R232) -/

/-- BATFET is closed unless Oasis commands it open (R222): the SHIP latch, the cutoff latch, a hold until VIN has
qualified, or the first 400 ms of a reset pulse. -/
def batfetClosed (s : State) : Bool :=
  !s.modes.shipLatch && !s.path.cutoff && !s.path.holdOpen && !s.path.pulseOpen

/-- `PP_BAT_STATE` (R230): DISCONNECTED while BATFET is open. -/
def batState (s : State) : BatState := if s.batfetClosed then s.path.bat else .disconnected

/-- The battery cutoff in mV (R229). -/
def cutoffMv (s : State) : Int := s.get K.PP_CUTOFF_CELL * s.get K.PP_CELLS

/-- VBAT, as last measured since BOOT, is below the cutoff. -/
def vbatLow (s : State) : Bool := s.path.vbatKnown && decide (s.get K.PP_VBAT < s.cutoffMv)

/-- The battery is usable (R229). Until VBAT has been measured after a BOOT it counts as not below the cutoff. -/
def batUsable (s : State) : Bool :=
  s.batfetClosed && (decide (s.path.bat = .present) || decide (s.path.bat = .unknown)) && !s.vbatLow && !s.path.cutoff

/-- VBUS is not fed through a qualified VIN path (R54, R225). -/
def onBattery (s : State) : Bool :=
  match s.path.st with
  | .vin => false | .rest => false | _ => true

/-- `MODE_FLAGS` (R54). -/
def modeFlags (s : State) : Nat :=
  let b (k : Nat) (x : Bool) := if x then 2 ^ k else 0
  b 0 s.onBattery + b 1 s.ramping + b 2 s.ledger.constrained + b 3 s.modes.shipArmed + b 4 s.modes.fsPending +
    b 5 (decide (s.get K.FS_RETRY_AT ≠ 0)) + b 6 s.modes.retryExhausted + b 7 s.sessionOpen + b 8 s.modes.holdup +
    b 9 s.modes.fsLatched

/-! ### Modes -/

/-- Enter a transition in the history, newest first, at most 16; none while non-legal writes are blocked (R55). -/
def addHistory (s : State) (at_ : Nat) (src dst : Mode) (why : Reason) : State :=
  if s.modes.holdup then s
  else { s with history := ({ stamp := at_, src := src, dst := dst, reason := why, rtc := s.oasis.seconds % 2 ^ 32 } :: s.history).take 16 }

/-- Change the mode: history, `MODE_ENTERED_AT`, MODE_CHANGED (R55–R57); a programming window closes (R447), and a Haboob
run that the new mode forbids ends (R317). -/
def setMode (s : State) (m : Mode) (why : Reason) : State :=
  if m = s.modes.mode then s
  else
    let s := (s.addHistory s.now s.modes.mode m why).closeWindow
    (((s.modModes fun x => { x with mode := m }).put K.MODE_ENTERED_AT s.now).habCheck).raise Ev.mode 0

/-- The first of the conditions of R42 that holds among RIDE, RAMP, CONSTRAINED, RUN and IDLE. -/
def shownMode (s : State) : Mode :=
  if s.modes.riding then .ride
  else if s.ramping then .ramp
  else if s.anyRailLive then (if s.ledger.constrained then .constrained else .run)
  else .idle

/-- What `WAKE_ENABLE` holds once `v` is stored in it (R51): bits 0 and 8 always read 1, bit 6 reads 0 without port B, bits 15–9
read 0. -/
def wakeEnableOf (s : State) (v : Nat) : Nat := (v &&& (if s.hasPort 1 then 0x1FF else 0x1BF)) ||| 0x101

/-- The value that a load of the configuration stores in an object. -/
def loadedAs (s : State) (key : Nat) (v : Int) : Int := if key = K.WAKE_ENABLE then s.wakeEnableOf v.toNat else v

/-- The history reason of a move between the modes of R42. DESIGN CHOICE (log 141), for R55 does not map every move: a RAMP
that a power-down starts is entered with SEQ_UP too, and a move that no other reason fits with SEQ_DONE. -/
def moveReason (src dst : Mode) : Reason :=
  match dst, src with
  | .ride, _ => .vinLost
  | _, .ride => .vinQualified
  | .ramp, _ => .seqUp
  | _, .ramp => .seqDone
  | .constrained, _ => .ledgerConstrain
  | .run, .constrained => .ledgerRelease
  | _, _ => .seqDone

/-- The mode is one of those that R42 orders below SERVICE. -/
def isNormalMode (m : Mode) : Bool :=
  match m with
  | .idle | .ramp | .run | .constrained | .ride => true
  | _ => false

/-- The condition of IDLE holds, whatever `MODE_CURRENT` shows (R43): no rail up, no ramp, and no mode of higher rank than
RIDE. -/
def idleCond (s : State) : Bool := isNormalMode s.modes.mode && !s.ramping && !s.anyRailLive

/-- An entry to IDLE: `AUX_AUTO` acts again, a held clear is discarded, and waiting events are raised (R53, R116, R201). -/
def idleEntry (s : State) : State :=
  (s.modModes fun x => { x with heldClear := none }).raiseDeferred.auxIdleEntry.askIdentities

/-- Show the mode that R42 gives; RAMP disarms SHIP (R45). -/
def evalMode (s : State) : State :=
  if isNormalMode s.modes.mode then
    let old := s.modes.mode
    let m := s.shownMode
    let s := s.setMode m (moveReason old m)
    let s := if s.ramping then s.modModes fun x => { x with shipArmed := false } else s
    if m = .idle && old ≠ .idle then s.idleEntry else s.refreshAux
  else s

/-! ### Leaving SERVICE (R45, R464) -/

/-- The device leaves SERVICE: every rail that is up goes down at its off-slew; the mode changes once all are off. -/
def leaveService (s : State) : State :=
  if s.modes.mode = .service && !s.modes.serviceLeaving then
    (List.finRange 32).foldl (fun (s : State) r => if (s.rail r).st.live then s.sendRail r .down else s)
      (s.modModes fun x => { x with serviceLeaving := true })
  else s

end State
end Sys2Proof.Machine
end

