-- ==== Sys2Proof/Machine/Metrology.lean ====
section
/-! DEFINITION. The metrology engine, the sessions and the legal journal: the commands of chapter 11. -/

namespace Sys2Proof.Machine

/-- Units of R274, products of nV, nA and Keeper cycles of 4 ns, in one µWh: 3.6 mJ / 4 × 10⁻²⁷ J. -/
def unitsPerMicroWh : Nat := 900000000000000000000000

/-- Move every whole µWh out of a residue into a register (R274). The register is a U64. -/
def moveWhole (reg res : Nat) : Nat × Nat :=
  ((reg + res / unitsPerMicroWh) % 2 ^ 64, res % unitsPerMicroWh)

/-- The triangular numbers: x choose 2. -/
def tri (x : Nat) : Int := x * (x - 1) / 2

/-- Weight `l` of the sinc3 filter at OSR 256 (R273): the coefficient of z^l in (1 + z + … + z^255)³, for `l` below 768. -/
def sincWeight (l : Nat) : Int := tri (l + 2) - 3 * tri (l + 2 - 256) + 3 * tri (l + 2 - 512)

/-- The sum of a block of bits, bit 0 the first sampled, under a third of the filter's weights: 1 counts as +1, 0 as −1 (R271). -/
def sincSum (third : Nat) (bits : BitVec 256) : Int :=
  ((List.range 256).map fun j => if bits.getLsbD (255 - j) then sincWeight (256 * third + j) else -sincWeight (256 * third + j)).sum

/-- The decimated sample at the end of a block, and what the filter keeps (R273). -/
def sincStep (x : SincSt) (bits : BitVec 256) : Int × SincSt :=
  (sincSum 0 bits + x.mid + x.older, { mid := sincSum 1 bits, last := sincSum 2 bits, older := x.last })

namespace State

/-! ### The engine (R269–R277) -/

/-- Sampling is on (R44): in every ports-open mode, and frozen from T on. -/
def samplingOn (s : State) : Bool := s.portsOpen && s.hasMetering && !s.met.frozen

/-- MCLKk runs (R270): sampling is on and some point of its pair is in use. -/
def mclkOn (s : State) (k : Nat) : Bool :=
  s.samplingOn && ((s.flag (K.MP_EN (2 * k)) && s.mpPresent (2 * k)) || (s.flag (K.MP_EN (2 * k + 1)) && s.mpPresent (2 * k + 1)))

/-- A point whose gains are not both set (R277). -/
def uncalibrated (s : State) (m : Fin 4) : Bool :=
  decide (s.get (K.MP_V_GAIN m) = 0) || decide (s.get (K.MP_I_GAIN m) = 0)

/-- `MP_INPUT` (R293). -/
def mpInput (s : State) (m : Fin 4) : Nat :=
  let x := s.point m
  let b (k : Nat) (v : Bool) := if v then 2 ^ k else 0
  b 0 x.vStuck + b 1 x.iStuck + b 2 x.vOver + b 3 x.iOver + b 4 (s.uncalibrated m)

/-- A point's calibrated voltage in nV and current in nA of one sample (R274). -/
def calibrated (s : State) (m : Fin 4) (rawV rawI : Int) : Int × Int :=
  let v := (rawV - s.get (K.MP_V_OFFSET m)) * s.get (K.MP_V_GAIN m)
  let i := (rawI - s.get (K.MP_I_OFFSET m)) * s.get (K.MP_I_GAIN m)
  (v, if (i.natAbs : Int) < s.get (K.MP_CREEP_I m) * 1000000 then 0 else i)

/-- Gather one sample for the means of the tick (R274). -/
def gatherMeans (s : State) (m : Fin 4) (rawV rawI : Int) : State :=
  let (v, i) := s.calibrated m rawV rawI
  s.modPoint m fun x => { x with sumV := x.sumV + v, sumI := x.sumI + i, sumP := x.sumP + v * i, sumN := x.sumN + 1 }

/-- The management tick forms `MP_V`, `MP_I` and `MP_P` from the samples of the tick that ends (R274). -/
def meterTick (s : State) : State :=
  (List.finRange 4).foldl (fun (s : State) (m : Fin 4) =>
    let x := s.point m
    if x.sumN = 0 then s
    else (s.puts [(K.MP_V m, quot x.sumV (x.sumN * 1000000)), (K.MP_I m, quot x.sumI (x.sumN * 1000000)),
      (K.MP_P m, quot x.sumP (x.sumN * 1000000000000000))]).modPoint m fun y => { y with sumV := 0, sumI := 0, sumP := 0, sumN := 0 }) s

/-- Add the energy of one sample to a point's residues and registers (R274). -/
def integrate (s : State) (m : Fin 4) (rawV rawI : Int) : State :=
  let (v, i) := s.calibrated m rawV rawI
  let e := v * i * (s.get K.MET_MCLK_DIV * 256)
  s.modPoint m fun x =>
    let (exp, er) := moveWhole x.exp (x.expRes + e.toNat)
    let (imp, ir) := moveWhole x.imp (x.impRes + (-e).toNat)
    { x with exp := exp, expRes := er, imp := imp, impRes := ir }

/-- One over-range sample is counted, and reported once in a session or after a read (R272). -/
def noteOver (s : State) (m : Fin 4) : State :=
  let s := s.bump (K.MP_OVERRANGE_COUNT m)
  let x := s.point m
  if x.sess ≠ .none then
    if x.overSeen then s else (s.modPoint m fun y => { y with overSeen := true }).raise (Ev.mp m) 5
  else if x.overArmed then (s.modPoint m fun y => { y with overArmed := false }).raise (Ev.mp m) 5
  else s

/-- One decimated sample of a point after the filters (R272–R274). While an input is STUCK the point integrates nothing and its samples
are not counted as over-range. -/
def takeDecimated (s : State) (m : Fin 4) (rawV rawI : Int) : State :=
  let big (r : Int) := decide (15099494 < r.natAbs)
  let s := s.puts [(K.MP_V_RAW m, rawV), (K.MP_I_RAW m, rawI)]
  let s := (s.modPoint m fun x => { x with vOver := big rawV, iOver := big rawI }).gatherMeans m rawV rawI
  if (s.point m).vStuck || (s.point m).iStuck then s
  else
    let s := if big rawV then s.noteOver m else s
    let s := if big rawI then s.noteOver m else s
    if s.flag (K.MP_EN m) then s.integrate m rawV rawI else s

/-- The 256 bits of each input that end a sample period (R271, R273), taken while the MCLK of the pair runs (R270). -/
def meteringSample (s : State) (m : Fin 4) (bitsV bitsI : BitVec 256) : State :=
  if s.mpPresent m && s.mclkOn (m.val / 2) then
    let (rawV, v) := sincStep (s.point m).vSinc bitsV
    let (rawI, i) := sincStep (s.point m).iSinc bitsI
    (s.modPoint m fun x => { x with vSinc := v, iSinc := i }).takeDecimated m rawV rawI
  else s

/-- Every open session closes with METER_FAULT (R275). -/
def closeAll (s : State) (reason : Nat) : State :=
  (List.finRange 4).foldl (fun (s : State) m => s.closeSession m reason) s

/-- While CLOCK_FAULT is set no session opens (R275): an open whose START is still to come ends REFUSED. -/
def refuseOpenings (s : State) : State :=
  (List.finRange 4).foldl (fun (s : State) m => if (s.point m).sess = .opening then s.endOpening m (.inr 0x17) else s) s

/-- The PLL is not locked: CLOCK_FAULT, and every open session closes (R275). -/
def clockFault (s : State) : State :=
  let s := { s with met := { s.met with clockFault := true } }
  (((s.raiseLater Ev.met 0).journalEvent .clockFault 0xFF []).refuseOpenings).closeAll 5

/-! ### Sessions (R278–R280) -/

/-- The first failing check of an open, in the order of R279. -/
def openCheck (s : State) (m : Fin 4) : Option Nat :=
  if !s.flag (K.MP_EN m) then some 0x19
  else if (s.point m).sess ≠ .none then some 0x10
  else if s.sec.lifecycle = .blank || s.sec.lifecycle = .returned || s.sec.key.isNone then some 0x14
  else if !s.oasis.valid || s.met.jnl.timeInvalid then some 0x13
  else if s.met.clockFault then some 0x17
  else if s.uncalibrated m then some 0x16
  else if (s.point m).vStuck || (s.point m).iStuck then some 0x15
  else if s.modes.holdup then some 0x18
  else if !s.startRoom then some 0x12
  else none

/-- An open under its tag (R279). -/
def openSession (s : State) (m : Fin 4) (t : Nat) : State :=
  let s := s.put (K.MP_SESS_TAG m) t
  match s.openCheck m with
  | some code =>
    let s := s.refuseSession m t code
    if code = 0x12 then s.raise Ev.jnl 1 else s
  | none =>
    s.modPoint m fun x =>
      { x with sess := .opening, openTag := some t, closeTag := none, closeWait := false, overSeen := false,
               sessId := toLE 16 (s.getN (K.MP_SESS_ID m)), sessRef := s.getN (K.MP_SESS_REF m) }

/-- A close under its tag (R279): it waits for START in OPENING and joins the close in progress in CLOSING. -/
def closeCommand (s : State) (m : Fin 4) (t : Nat) : State :=
  let s := s.put (K.MP_SESS_TAG m) t
  let x := s.point m
  match x.sess with
  | .none => s.refuseSession m t 0x11
  | .opening =>
    match x.closeTag with
    | some j => s.setOp t { s.op t with joined := some j }
    | none => s.modPoint m fun y => { y with closeWait := true, closeTag := some t }
  | .opened => (s.modPoint m fun y => { y with closeTag := some t }).closeSession m 1
  | .closing =>
    match x.closeTag with
    | some j => s.setOp t { s.op t with joined := some j }
    | none => s.modPoint m fun y => { y with closeTag := some t }

/-- The modes in which a session command is accepted (R279). -/
def sessionMode (s : State) : Bool :=
  match s.modes.mode with
  | .idle | .ramp | .run | .constrained | .ride => true
  | _ => false

/-- A write of `MP_SESS_CMD` (R279): role, mode, a free tag and the value, in that order. -/
def writeSessCmd (s : State) (acc : Accessor) (m : Fin 4) (v : Nat) : Res :=
  s.writeVia acc (K.MP_SESS_CMD m) 1 fun s =>
    if !s.sessionMode then .error .modeForbids
    else if s.nextTag.isNone then .error .operationsFull
    else if v = 1 then s.withTag acc .sessionOpen (K.MP_SESS_CMD m) fun s t => s.openSession m t
    else if v = 2 then s.withTag acc .sessionClose (K.MP_SESS_CMD m) fun s t => s.closeCommand m t
    else .error .outOfRange

/-! ### Journal commands (R287–R289) -/

/-- A write of `JNL_ACK` (R287). -/
def writeJnlAck (s : State) (acc : Accessor) (v : Nat) : Res :=
  s.writeVia acc K.JNL_ACK 8 fun s =>
    if !s.installerUp acc then .error .roleDenied
    else if v < s.met.jnl.ack || s.met.jnl.next ≤ v then .error .outOfRange
    else .ok ((s.modJnl fun j => { j with ack := v }).writeHeader.noteFill, .done)

/-- A write of `JNL_WARN_LEVEL` (R286, R294): the used count is held against the new level. -/
def writeWarnLevel (s : State) (acc : Accessor) (data : Bytes) : Res :=
  match s.reachWrite acc K.JNL_WARN_LEVEL data.length with
  | .error e => .error e
  | .ok d =>
    let v := d.value data
    if !s.roleOk acc d then .error .roleDenied
    else if !Dict.inRange (Dict.rangeOf d 0 K.JNL_WARN_LEVEL) v then .error .outOfRange
    else .ok ((s.put K.JNL_WARN_LEVEL v).noteFill, .done)

/-- Record `q` may be read (R288). -/
def recordReadable (s : State) (q : Nat) : Bool := decide (s.jnlOldest ≤ q) && decide (q < s.met.jnl.next)

/-- A read of `JNL_READ_REC` (R288). -/
def readJnlRec (s : State) (acc : Accessor) : Res :=
  match s.reach acc K.JNL_READ_REC with
  | .error e => .error e
  | .ok _ =>
    let q := s.getN K.JNL_READ_SEQ
    if s.recordReadable q then .ok (s.put K.JNL_READ_SEQ (q + 1), .data (s.readMram (jnlAddr q) 96))
    else .error .outOfRange

/-- A read of `JNL_READ_BLOCK` (R288). -/
def readJnlBlock (s : State) (acc : Accessor) : Res :=
  match s.reach acc K.JNL_READ_BLOCK with
  | .error e => .error e
  | .ok _ =>
    let q := s.getN K.JNL_READ_SEQ
    if s.recordReadable q then
      let n := min 16 (s.met.jnl.next - q)
      .ok (s.put K.JNL_READ_SEQ (q + n), .data ((List.range n).flatMap fun k => s.readMram (jnlAddr (q + k)) 96))
    else .error .outOfRange

/-- The lifecycle permits a command of BLANK and OPEN only (R276, R289). -/
def openLifecycle (s : State) : Bool := decide (s.sec.lifecycle = .blank) || decide (s.sec.lifecycle = .opened)

/-- A write of `JNL_INIT` (R289). -/
def writeJnlInit (s : State) (acc : Accessor) (v : Nat) : Res :=
  match s.reachWrite acc K.JNL_INIT 1 with
  | .error e => .error e
  | .ok d =>
    if !s.openLifecycle then .error .sealed
    else if !s.roleOk acc d then .error .roleDenied
    else if v ≠ 0x5A then .error .outOfRange
    else if s.sessionOpen then .error .busy
    else
      let q := s.met.jnl.next
      let s := s.modJnl fun j => { j with waiting := [], ack := q - 1 }
      let s := s.writeEvent JnlEvent.journalInit.code 0xFF [] s.oasis.seconds s.rtcFrac
      .ok (s, .done)

/-- A write of `MET_E_CLEAR` (R276). -/
def writeMetEClear (s : State) (acc : Accessor) (v : Nat) : Res :=
  match s.reachWrite acc K.MET_E_CLEAR 1 with
  | .error e => .error e
  | .ok d =>
    if !s.openLifecycle then .error .sealed
    else if !s.roleOk acc d then .error .roleDenied
    else if v ≠ 0x5A then .error .outOfRange
    else if s.sessionOpen then .error .busy
    else .ok ((List.finRange 4).foldl (fun (s : State) m =>
      s.modPoint m fun x => { x with exp := 0, imp := 0, expRes := 0, impRes := 0 }) s, .done)

/-! ### SEALED-class writes (R277, R351) -/

/-- The metering points that a SEALED-class write affects (R277). -/
def affectedPoints (key : Nat) : List (Fin 4) :=
  (List.finRange 4).filter fun m =>
    key = K.MET_MCLK_DIV || (key = K.MET_SAMPLE_DELAY0 && m.val < 2) || (key = K.MET_SAMPLE_DELAY1 && 2 ≤ m.val) ||
      (key / 256 - 0x6100) / 0x100 = m.val && 0x610000 ≤ key && key < 0x650000

/-- The value is one that the object takes (R271, R292–R294, R348). A sample delay lies below `MET_MCLK_DIV`, whichever of the two
is written. -/
def sealedInRange (s : State) (d : ObjDef) (key : Nat) (v : Int) : Bool :=
  (d.type ≠ .bool || v = 0 || v = 1) && Dict.inRange (Dict.rangeOf d (s.getN K.PP_CHEM) key) v &&
    (!(key = K.MET_SAMPLE_DELAY0 || key = K.MET_SAMPLE_DELAY1) || (decide (1 ≤ v) && decide (v ≤ s.get K.MET_MCLK_DIV - 1))) &&
    (key ≠ K.MET_MCLK_DIV || (decide (s.get K.MET_SAMPLE_DELAY0 ≤ v - 1) && decide (s.get K.MET_SAMPLE_DELAY1 ≤ v - 1)))

/-- The lifecycle and role rule of a SEALED-class write (R351). -/
def sealedRole (s : State) (acc : Accessor) : Option Abort :=
  match s.sec.lifecycle with
  | .blank | .opened => if s.installerUp acc then none else some .roleDenied
  | .sealed => if s.roleOf acc = .metrologist then none else some .sealed
  | .returned => some .sealed

/-- A write of a SEALED-class object (R277, R351). -/
def writeSealed (s : State) (acc : Accessor) (key : Nat) (data : Bytes) : Res :=
  match s.reachWrite acc key data.length with
  | .error e => .error e
  | .ok d =>
    let v := d.value data
    match s.sealedRole acc with
    | some e => .error e
    | none =>
      if d.cls ≠ .sealed then .error .typeMismatch
      else if !s.sealedInRange d key v then .error .outOfRange
      else if (affectedPoints key).any fun m => decide ((s.point m).sess ≠ .none) then .error .busy
      else if s.sec.lifecycle = .sealed && !s.promiseRoom then .error .busy
      else if s.sec.lifecycle = .sealed then .ok (s.addRecord (.sealedWrite key d.size v s.oasis.seconds s.rtcFrac), .done)
      else .ok (s.applySealed key v, .done)

end State

/-! ### The commands -/

/-- METERING_SAMPLE (R271, R273, R274): the 256 bits of the voltage and of the current input that end one sample period, bit 0 the
first, as sampled at the delay of R271. -/
def execMeteringSample (m : Fin 4) (bitsV bitsI : BitVec 256) (s : State) : Out := .next (s.meteringSample m bitsV bitsI)

/-- INPUT_STUCK (R272): the bits of an input are sampled while the MCLK of its pair runs (R270, R271). -/
def execInputStuck (m : Fin 4) (current : Bool) (s : State) : Out :=
  .next <|
    if s.mpPresent m && s.mclkOn (m.val / 2) && !(if current then (s.point m).iStuck else (s.point m).vStuck) then
      let s := s.modPoint m fun x => if current then { x with iStuck := true } else { x with vStuck := true }
      (s.raise (Ev.mp m) 3).journalEvent .inputFault m.val (toLE 1 m.val ++ toLE 1 (if current then 1 else 0))
    else s

/-- INPUT_RESTORED (R272). -/
def execInputRestored (m : Fin 4) (current : Bool) (s : State) : Out :=
  .next <|
    if if current then (s.point m).iStuck else (s.point m).vStuck then
      (s.modPoint m fun x => if current then { x with iStuck := false } else { x with vStuck := false }).raiseLater (Ev.mp m) 4
    else s

/-- STUCK_SESSION_FAULT (R272): an open session whose input stays STUCK closes with METER_FAULT. -/
def execStuckSessionFault (m : Fin 4) (s : State) : Out :=
  .next (if (s.point m).vStuck || (s.point m).iStuck then s.closeSession m 5 else s)

/-- PLL_LOCK_LOST (R275). -/
def execPllLockLost (s : State) : Out := .next (if s.keeperRuns then s.clockFault else s)

/-- MP_SESSION_OPEN (R279). -/
def execMpSessionOpen (acc : Accessor) (m : Fin 4) (s : State) : Out :=
  .next (s.access acc fun s => s.writeSessCmd acc m 1)

/-- MP_SESSION_CLOSE (R279). -/
def execMpSessionClose (acc : Accessor) (m : Fin 4) (s : State) : Out :=
  .next (s.access acc fun s => s.writeSessCmd acc m 2)

/-- SESSION_OPEN_INSTANT (R278): the next sample boundary after an accepted open. -/
def execSessionOpenInstant (m : Fin 4) (s : State) : Out :=
  .next <|
    let x := s.point m
    let queued := s.met.jnl.waiting.any fun w => match w with | .start n _ _ _ _ => decide (n = m) | _ => false
    if x.sess = .opening && s.samplingOn && !s.met.clockFault && !queued then
      s.addRecord (.start m s.oasis.seconds s.rtcFrac x.exp x.imp)
    else s

/-- SESSION_CLOSE_INSTANT (R280): the next sample boundary after a close. -/
def execSessionCloseInstant (m : Fin 4) (s : State) : Out :=
  .next <|
    let x := s.point m
    if x.sess = .closing && s.samplingOn && !x.closeSeen && !x.endWritten then
      (s.modPoint m fun y => { y with closeSeen := true }).addRecord
        (.finish m s.oasis.seconds s.rtcFrac x.exp x.imp false)
    else s

/-- SESSION_SIGNED (R280): Seif completes the signature of point `m`. -/
def execSessionSigned (m : Fin 4) (s : State) : Out :=
  .next (if s.met.jnl.signing = some m && s.portsOpen then s.signatureDone else s)

/-- REGISTER_COPY (R276); not in BOOT, where the registers have still to be restored. -/
def execRegisterCopy (s : State) : Out :=
  .next (if s.keeperRuns && decide (s.modes.mode ≠ .boot) then
    (List.finRange 4).foldl (fun (s : State) (m : Fin 4) => if s.mpPresent m then s.copyRegisters m else s) s else s)

/-- MET_E_CLEAR (R276). -/
def execMetEClear (acc : Accessor) (s : State) : Out := .next (s.access acc fun s => s.writeMetEClear acc 0x5A)

/-- CALIBRATION_WRITE (R277): a write of a SEALED-class object. -/
def execCalibrationWrite (acc : Accessor) (key : Nat) (data : Bytes) (s : State) : Out :=
  .next (s.access acc fun s => s.writeSealed acc key data)

/-- JNL_ACK_WRITE (R287). -/
def execJnlAckWrite (acc : Accessor) (v : Nat) (s : State) : Out := .next (s.access acc fun s => s.writeJnlAck acc v)

/-- JNL_READ_REC (R288). -/
def execJnlReadRec (acc : Accessor) (s : State) : Out := .next (s.access acc fun s => s.readJnlRec acc)

/-- JNL_READ_BLOCK (R288). -/
def execJnlReadBlock (acc : Accessor) (s : State) : Out := .next (s.access acc fun s => s.readJnlBlock acc)

/-- JNL_INIT (R289). -/
def execJnlInit (acc : Accessor) (s : State) : Out := .next (s.access acc fun s => s.writeJnlInit acc 0x5A)

/-- MP_OVERRANGE_COUNT_READ (R272): the read arms OVERRANGE again. -/
def execMpOverrangeCountRead (acc : Accessor) (m : Fin 4) (s : State) : Out :=
  .next (s.access acc fun s =>
    match s.reach acc (K.MP_OVERRANGE_COUNT m) with
    | .error e => .error e
    | .ok d => .ok (s.modPoint m fun x => { x with overArmed := true }, .data (d.bytes (s.get (K.MP_OVERRANGE_COUNT m)))))

end Sys2Proof.Machine
end

