-- ==== Sys2Proof/Machine/Mram.lean ====
section
/-! DEFINITION. Raw access to the MRAM array, its passwords, the scrub, and leases on its shared port: the commands of
chapter 17 on MRAM, with the lease rules of R194–R195 that they share. -/

namespace Sys2Proof.Machine

/-- Who holds an unlock or a raw position: HOST on all its ports (none), or a partner slot (R418). -/
def holderOf : Accessor → Option (Fin 64)
  | .partner i => some i
  | _ => none

/-- The place of a holder's own raw position (R418). -/
def holderPlace : Option (Fin 64) → Fin 65
  | none => 0
  | some i => ⟨i.val + 1, by omega⟩

/-- The place of a password: USER0 read, USER0 write, USER1 read, USER1 write (R419). -/
def pwPlace (part : Nat) (write : Bool) : Option (Fin 4) :=
  if part = 6 then some (if write then 1 else 0) else if part = 7 then some (if write then 3 else 2) else none

namespace State

/-- Change the MRAM access state. -/
def modNvm (s : State) (f : MramSt → MramSt) : State := { s with nvm := f s.nvm }

/-- One password. -/
def pw (s : State) (i : Fin 4) : PwSt := s.nvm.pws[i]

/-- Change one password. -/
def modPw (s : State) (i : Fin 4) (f : PwSt → PwSt) : State := s.modNvm fun n => { n with pws := n.pws.set i (f n.pws[i]) }

/-- A partition's password of a kind is set and the holder has not unlocked it (R418, R429). -/
def pwBars (s : State) (h : Option (Fin 64)) (part : Nat) (write : Bool) : Bool :=
  match pwPlace part write with
  | some i => (s.pw i).hash.isSome && !s.nvm.unlocks.contains ⟨h, part, write⟩
  | none => false

/-- A single-bit error is corrected in a read of the word `w` (R422): it is counted, and the word is queued for rewrite by the scrub. -/
def correctedWord (s : State) (w : Nat) : State :=
  ((s.bump K.MRAM_CORRECTED).raise Ev.mram 0).modNvm fun n =>
    { n with rewrites := if n.rewrites.any fun x => x.1 = w then n.rewrites else n.rewrites ++ [(w, s.readMram (8 * w) 8)] }

/-- An uncorrectable word is met at the Caravan address `a` of one of its bytes: it is counted, and its own address shown (R422). -/
def uncorrectable (s : State) (a : Int) : State :=
  ((s.bump K.MRAM_UNCORRECTABLE).put K.MRAM_LAST_UE (a - a % 8)).raise Ev.mram 1

/-! ### Raw access (R418) -/

/-- The raw position of a holder: partition and offset. -/
def rawPos (s : State) (h : Option (Fin 64)) : Nat × Nat :=
  (s.nvm.rawPart[holderPlace h], s.nvm.rawOffset[holderPlace h])

/-- Move a holder's raw offset. -/
def setRawOffset (s : State) (h : Option (Fin 64)) (v : Nat) : State :=
  s.modNvm fun n => { n with rawOffset := n.rawOffset.set (holderPlace h) v }

/-- Choose a holder's raw partition. -/
def setRawPart (s : State) (h : Option (Fin 64)) (v : Nat) : State :=
  s.modNvm fun n => { n with rawPart := n.rawPart.set (holderPlace h) v }

/-- `n` free bytes: what the specification gives no layout. -/
def freeBytes (s : State) : Nat → Bytes × State
  | 0 => ([], s)
  | n + 1 =>
    let (v, s) := s.fresh
    let (bs, s) := freeBytes s n
    (BitVec.ofNat 8 (unsigned 8 v) :: bs, s)

/-- Bytes as raw access and Caravan see them: the journal header slots and the METRO partition hold records whose layout
the specification does not give, so their bytes are free values (R276, R286, R417). -/
def rawBytes (s : State) (a n : Nat) : Bytes × State :=
  let before := min n (0x180000 - a)
  if a + n ≤ 0x180000 || 0x182000 ≤ a then (s.readMram a n, s)
  else
    let (bs, t) := s.freeBytes (n - before)
    (s.readMram a before ++ bs, t)

/-- What a raw read from byte `a` of `n` bytes finds (R422): single-bit errors in the words `corrected`, and uncorrectable words `bad`, both
counted from the first word of the read. -/
def rawFindings (s : State) (a n : Nat) (corrected bad : List Nat) : State :=
  let touched := fun (k : Nat) => decide (8 * (a / 8 + k) < a + n)
  let s := (corrected.filter touched).foldl (fun (s : State) k => s.correctedWord (a / 8 + k)) s
  (bad.filter touched).foldl (fun (s : State) k => s.uncorrectable (0x20000000 + 8 * (a / 8 + k) : Nat)) s

/-- A read of `MRAM_RAW_DATA` (R418), with the single-bit errors and the uncorrectable words that it meets (R422). -/
def readRaw (s : State) (acc : Accessor) (corrected bad : List Nat) : Res :=
  match s.reach acc K.MRAM_RAW_DATA with
  | .error e => .error e
  | .ok _ =>
    let h := holderOf acc
    let (p, off) := s.rawPos h
    match partitions[p]? with
    | none => .error .outOfRange
    | some part =>
      if s.pwBars h p false then .error .passwordRequired
      else if !part.rawRead then .error .roleDenied
      else
        let n := min 256 (part.size - off)
        let (bs, s) := s.rawBytes (part.base + off) n
        .ok ((s.rawFindings (part.base + off) n corrected bad).setRawOffset h (off + n), .data bs)

/-- A write of `MRAM_RAW_DATA` (R418). -/
def writeRaw (s : State) (acc : Accessor) (data : Bytes) : Res :=
  match s.reachWrite acc K.MRAM_RAW_DATA data.length with
  | .error e => .error e
  | .ok d =>
    let h := holderOf acc
    let (p, off) := s.rawPos h
    match partitions[p]? with
    | none => .error .outOfRange
    | some part =>
      if s.pwBars h p true then .error .passwordRequired
      else if !part.rawWrite || !s.roleOk acc d then .error .roleDenied
      else if data.isEmpty || part.size < off + data.length then .error .outOfRange
      else if s.modes.holdup then .error .busy
      else .ok ((s.writeMram (part.base + off) data).setRawOffset h (off + data.length), .done)

/-- A write of `MRAM_RAW_PART` or `MRAM_RAW_OFFSET`: each accessor has its own (R418, R438). -/
def writeRawPos (s : State) (acc : Accessor) (isOffset : Bool) (v : Nat) : Res :=
  let key := if isOffset then K.MRAM_RAW_OFFSET else K.MRAM_RAW_PART
  s.writeVia acc key (if isOffset then 4 else 1) fun s =>
    let h := holderOf acc
    if isOffset then
      match partitions[(s.rawPos h).1]? with
      | some part => if v ≤ part.size then .ok (s.setRawOffset h v, .done) else .error .outOfRange
      | none => .error .outOfRange
    else if v ≤ 8 then .ok (s.setRawPart h v, .done)
    else .error .outOfRange

/-! ### Passwords (R419–R421) -/

/-- End unlocks for which `f` holds. -/
def endUnlocks (s : State) (f : Unlock → Bool) : State := s.modNvm fun n => { n with unlocks := n.unlocks.filter fun u => !f u }

/-- The partition, the kind, the password's place and the password that a presentation or a setting carries (R419). -/
def pwFields (data : Bytes) : Option (Nat × Bool × Fin 4 × Bytes) :=
  match data with
  | p :: k :: pw =>
    if k.toNat ≤ 1 then (pwPlace p.toNat (k.toNat = 1)).map fun i => (p.toNat, decide (k.toNat = 1), i, pw) else none
  | _ => none

/-- A failed presentation (R419, R420): five in a row lock the password out, 300 s at first and twice as long each
further time, at most 3,600 s. -/
def pwFailed (s : State) (i : Fin 4) : State :=
  let s := (s.bump K.MRAM_PW_FAILURES).raise Ev.mram 4
  let x := s.pw i
  if x.fails + 1 < 5 then s.modPw i fun y => { y with fails := y.fails + 1 }
  else
    let secs := min 3600 (300 * 2 ^ x.lockouts)
    (s.modPw i fun y => { y with fails := 0, lockouts := y.lockouts + 1, lockEnd := some (s.now + secs * 100000000) }).raise Ev.mram 5

/-- A presentation of a password (R419, R420). The failure is counted although the write is refused. -/
def presentPw (s : State) (acc : Accessor) (data : Bytes) : Except Abort (State × Option Abort) :=
  match s.reachWrite acc K.MRAM_PW_PRESENT data.length with
  | .error e => .error e
  | .ok d =>
    if !s.roleOk acc d then .error .roleDenied
    else match pwFields data with
      | none => .error .outOfRange
      | some (part, wr, i, word) =>
        if (s.pw i).lockEnd.isSome then .error .busy
        else match (s.pw i).hash with
          | none => .ok (s, none)
          | some h =>
            if sha256 word = h then
              let s := s.modPw i fun y => { y with fails := 0, lockouts := 0 }
              let u : Unlock := ⟨holderOf acc, part, wr⟩
              .ok (s.modNvm fun n => { n with unlocks := if n.unlocks.contains u then n.unlocks else n.unlocks ++ [u] }, none)
            else .ok (s.pwFailed i, some .passwordRequired)

/-- A setting or clearing of a password (R419): the object's length is 2 or 10–34 bytes (R438, R348). -/
def setPw (s : State) (acc : Accessor) (data : Bytes) : Res :=
  match s.reachWrite acc K.MRAM_PW_SET data.length with
  | .error e => .error e
  | .ok _ =>
    if data.length ≠ 2 && data.length < 10 then .error .typeMismatch
    else match pwFields data with
    | none => if s.installerUp acc then .error .outOfRange else .error .roleDenied
    | some (part, wr, i, word) =>
      if s.pwBars (holderOf acc) part wr then .error .passwordRequired
      else if !s.installerUp acc then .error .roleDenied
      else if s.modes.holdup then .error .busy
      else
        let s := s.modPw i fun y => { y with hash := if word.isEmpty then none else some (sha256 word) }
        .ok (s.endUnlocks fun u => u.part = part && u.write = wr && u.holder ≠ holderOf acc, .done)

/-- A write of `MRAM_PW_LOCK` (R419). -/
def lockPw (s : State) (acc : Accessor) (v : Nat) : Res :=
  s.writeVia acc K.MRAM_PW_LOCK 1 fun s =>
    if v = 0x5A then .ok (s.endUnlocks fun u => u.holder = holderOf acc, .done) else .error .outOfRange

/-- `MRAM_PW_LOCK_LEFT`: the longest remaining lockout in seconds (R420). -/
def lockLeft (s : State) : Nat :=
  ((List.finRange 4).map fun i => match (s.pw i).lockEnd with
    | some e => (e - s.now + 99999999) / 100000000
    | none => 0).foldl max 0

/-- `MRAM_PART_FLAGS` of partition `p` as a reader sees it (R438). -/
def partFlags (s : State) (h : Option (Fin 64)) (p : Nat) : Nat :=
  let b (k : Nat) (v : Bool) := if v then 2 ^ k else 0
  let isSet (w : Bool) := match pwPlace p w with | some i => (s.pw i).hash.isSome | none => false
  let locked (w : Bool) := match pwPlace p w with | some i => (s.pw i).lockEnd.isSome | none => false
  let part := partitions.getD p ⟨0, 0, false, false⟩
  b 0 part.rawRead + b 1 part.rawWrite + b 2 (isSet false) + b 3 (isSet true) +
    b 4 (s.nvm.unlocks.contains ⟨h, p, false⟩) + b 5 (s.nvm.unlocks.contains ⟨h, p, true⟩) + b 6 (locked false || locked true)

end State

/-! ### The commands -/

/-- MRAM_RAW_READ (R418). -/
def execMramRawRead (acc : Accessor) (corrected bad : List Nat) (s : State) : Out :=
  .next (s.access acc fun s => s.readRaw acc corrected bad)

/-- MRAM_RAW_WRITE (R418). -/
def execMramRawWrite (acc : Accessor) (data : Bytes) (s : State) : Out := .next (s.access acc fun s => s.writeRaw acc data)

/-- A presentation as an access: a wrong password changes the failure count and is answered PASSWORD_REQUIRED (R419). -/
def State.accessPw (s : State) (acc : Accessor) (data : Bytes) : State :=
  if s.portsOpen then
    match s.presentPw acc data with
    | .ok (t, none) => { t with answer := .done }
    | .ok (t, some e) => { t with answer := .abort e }
    | .error e => { s with answer := .abort e }
  else s.access acc fun _ => .error .modeForbids

/-- MRAM_PW_PRESENT (R419). -/
def execMramPwPresent (acc : Accessor) (data : Bytes) (s : State) : Out := .next (s.accessPw acc data)

/-- MRAM_PW_SET (R419). -/
def execMramPwSet (acc : Accessor) (data : Bytes) (s : State) : Out := .next (s.access acc fun s => s.setPw acc data)

/-- MRAM_PW_LOCK (R419). -/
def execMramPwLock (acc : Accessor) (s : State) : Out := .next (s.access acc fun s => s.lockPw acc 0x5A)

/-- PW_LOCKOUT_EXPIRY (R420). -/
def execPwLockoutExpiry (i : Fin 4) (s : State) : Out := .next (s.modPw i fun x => { x with lockEnd := none })

/-- The words that reads have queued for rewrite are rewritten, but those written since (R422, R424); says how many were. -/
def State.drainRewrites (s : State) : State × Nat :=
  (s.modNvm fun n => { n with rewrites := [] }, (s.nvm.rewrites.filter fun x => s.readMram (8 * x.1) 8 = x.2).length)

/-- SCRUB_BATCH (R423): 64 words from `MRAM_SCRUB_POS`, of which the two reads of `weak` differ, `corrected` need a correction, and `bad`,
counted from the first, are uncorrectable. Weak and corrected words are rewritten, and those that reads have queued with them. -/
def execScrubBatch (weak corrected : Nat) (bad : List (Fin 64)) (s : State) : Out :=
  .next <|
    if s.activeNotSeal && !s.modes.holdup then
      let (s, queued) := s.drainRewrites
      let rewritten := weak + corrected + queued
      let s := (List.range corrected).foldl (fun (s : State) _ => (s.bump K.MRAM_CORRECTED).raise Ev.mram 0) s
      let s := (List.range rewritten).foldl (fun (s : State) _ => s.bump K.MRAM_WEAK_REWRITES) s
      let s := if rewritten = 0 then s else s.raise Ev.mram 2
      let s := bad.foldl (fun (s : State) (k : Fin 64) =>
        s.uncorrectable (0x20000000 + 8 * (s.getN K.MRAM_SCRUB_POS + k.val) : Nat)) s
      let pos := (s.getN K.MRAM_SCRUB_POS + 64) % 262144
      let s := s.put K.MRAM_SCRUB_POS pos
      if pos = 0 then (s.bump K.MRAM_SCRUB_PASSES).raise Ev.mram 3 else s
    else s

end Sys2Proof.Machine
end

