-- ==== Sys2Proof/Machine/Mirage.lean ====
section
/-! DEFINITION. Mirage, the capture buffer: frames, triggers and the commands of chapter 17 on it (R432–R437). -/

namespace Sys2Proof.Machine

/-- One stream of `MIR_STREAM`: kind and index (R432). -/
structure Stream where
  kind : Nat
  index : Nat
  deriving DecidableEq, Repr

/-- The bytes of a stream's value (R432). -/
def Stream.size (x : Stream) : Nat := if x.kind = 7 then 4 else 2

/-- The stream is one of the table of R432. -/
def Stream.known (x : Stream) : Bool :=
  match x.kind with
  | 1 | 2 => decide (x.index < 56)
  | 3 | 4 => decide (x.index < 32)
  | 5 => decide (1 ≤ x.index) && decide (x.index < 8)
  | 6 => decide (x.index < 4)
  | 7 | 8 => decide (x.index < 8)
  | _ => false

namespace State

/-- Change Mirage. -/
def modMir (s : State) (f : MirSt → MirSt) : State := { s with mir := f s.mir }

/-- The streams chosen, in subindex order (R432). -/
def mirStreams (s : State) : List Stream :=
  (List.range 8).filterMap fun j =>
    let v := s.getN (K.MIR_STREAM j)
    if v = 0 then none else some ⟨v % 256, v / 256⟩

/-- `MIR_FRAME_SIZE`: the streams' bytes, padded to a multiple of 4 (R433). -/
def mirFrameSize (s : State) : Nat := ((s.mirStreams.map Stream.size).sum + 3) / 4 * 4

/-- `MIR_CAPACITY` in frames (R433). -/
def mirCapacity (s : State) : Nat := if s.mirFrameSize = 0 then 0 else 262144 / s.mirFrameSize

/-- The beacon time of frame `k` (R433). -/
def mirFrameTime (s : State) (k : Nat) : Nat := s.mir.t0 + k * 2 * 2 ^ s.getN K.MIR_DECIM

/-- The tile that sends a stream of kinds 1–5; none for the others (R432). -/
def streamTile (s : State) (x : Stream) : Option Nat :=
  match x.kind with
  | 1 | 2 => some (x.index / 8 + 1)
  | 3 | 4 => ((List.finRange 32).find? fun r => r.val = x.index).map s.leadTile
  | 5 => some x.index
  | _ => none

/-- The stream belongs to a unit that this part does not contain (R434). -/
def streamAbsent (s : State) (x : Stream) : Bool :=
  match x.kind with
  | 1 | 2 => !s.phasePresent x.index
  | 5 | 8 => !s.tileFitted x.index
  | 7 => !s.hasMetering || !s.mpPresent (x.index / 2)
  | _ => false

/-- The 2-byte streams of some tile exceed 800 Mbit/s: 16 bits at 50 MHz / 2^`MIR_DECIM` each (R434). -/
def mirOverload (s : State) : Bool :=
  (List.range 8).any fun t =>
    decide (2 ^ s.getN K.MIR_DECIM < (s.mirStreams.filter fun x => s.streamTile x = some t).length)

/-- A capture is ARMED or TRIGGERED, and its settings are locked (R434). -/
def mirBusy (s : State) : Bool := decide (s.mir.st = .armed) || decide (s.mir.st = .triggered)

/-- A host channel reads the Mirage buffer (R434). -/
def dmaReadsMirage (s : State) : Bool :=
  (List.finRange 8).any fun c => decide (s.dma[c].st = .running) && decide (s.getN (K.DMA_DESC c) % 2 ^ 32 / 0x40000 = 0x400)

/-- The modes in which Mirage may be armed (R434): those in which the ports are open. -/
def mirArmCheck (s : State) : Option Abort :=
  if s.mirStreams.any s.streamAbsent then some .unitAbsent
  else if s.mirStreams.isEmpty || s.mirStreams.any (fun x => !x.known) then some .outOfRange
  else if s.mirCapacity < s.getN K.MIR_PRE + s.getN K.MIR_POST || s.getN K.MIR_POST = 0 then some .outOfRange
  else if s.mirOverload then some .outOfRange
  else if s.mirBusy || s.dmaReadsMirage then some .busy
  else none

/-- Trigger an ARMED capture at beacon time `at_` (R435). -/
def mirTrigger (s : State) (at_ : Nat) : State :=
  if s.mir.st = .armed && s.mir.ended.isNone then
    (s.modMir fun m => { m with st := .triggered, trigTime := some at_ }).raiseLater Ev.mir 0
  else s

/-- Everything-off at `at_` triggers an ARMED capture (R436). -/
def mirOff (s : State) (at_ : Nat) : State :=
  if s.mir.st = .armed && s.mir.ended.isNone then (s.mirTrigger at_).modMir fun m => { m with byOff := true } else s

/-- T of the everything-off that triggered the capture moves, and the trigger with it until its frame has been taken (R183, R436). -/
def mirRetime (s : State) (at_ : Nat) : State :=
  s.modMir fun m => if m.byOff && m.trigFrame.isNone then { m with trigTime := some at_ } else m

/-- Entry to DORMANT stops a capture and loses the buffer (R436). DEDUCED (log 190): `MIR_FRAMES` then reads 0. -/
def mirDormant (s : State) : State :=
  (s.modMir fun m => { m with st := if m.st = .armed || m.st = .triggered then .stopped else m.st, frames := [], ended := none }).put K.MIR_FRAMES 0

/-- The source of an armed capture has become PENDING: trigger kind 6 (R435). -/
def mirSource (s : State) : State :=
  match s.ints.firedAt with
  | some t => if s.get K.MIR_TRIG_KIND = 6 then s.mirTrigger t else s
  | none => s

/-- An event of kind `k` of R435 with its argument; it triggers a capture armed for it. (Everything-off triggers any ARMED
capture, where it begins: R436.) -/
def mirEvent (s : State) (k arg : Nat) : State :=
  let sel := s.getN K.MIR_TRIG_KIND
  let a := s.getN K.MIR_TRIG_ARG
  let hit := sel = k && (if k = 2 then a = 0xFF || a = arg else if k = 5 then true else a = arg)
  if hit then s.mirTrigger s.now else s

/-- A stream's value goes from `before` to `after`: RISE, kind 3, and FALL, kind 4, are its crossings of `MIR_TRIG_LEVEL` (R435). -/
def mirCrosses (s : State) (k : Nat) (before after : Int) : Bool :=
  let level := s.get K.MIR_TRIG_LEVEL
  if k = 3 then decide (before < level) && decide (level ≤ after)
  else k = 4 && decide (level ≤ before) && decide (after < level)

/-- Recording ends; the rotation follows (R437). -/
def mirEnd (s : State) (how : MirState) : State :=
  if s.mir.ended.isNone then s.modMir fun m => { m with ended := some how } else s

/-- A write of `MIR_ARM` (R434). -/
def writeMirArm (s : State) (acc : Accessor) (v : Nat) : Res :=
  match s.reachWrite acc K.MIR_ARM 1 with
  | .error e => .error e
  | .ok _ =>
    if v = 0x5A && s.mirStreams.any s.streamAbsent then .error .unitAbsent
    else if !s.installerUp acc then .error .roleDenied
    else if v = 0x5A then
      match s.mirArmCheck with
      | some e => .error e
      | none =>
        let s : State := { s with ints := { s.ints with firedAt := none } }
        .ok (s.modMir fun _ => { st := .armed, t0 := (s.now / 1000 + 1) * 1000, size := s.mirFrameSize }, .done)
    else if v = 0xA5 then .ok (if s.mirBusy then s.mirEnd .stopped else s, .done)
    else if v = 0x3C then .ok (s.mirTrigger s.now, .done)
    else .error .outOfRange

/-- A rail's ramp reference r at a beacon time, in mV rounded down; in a current loop the loop's own (R99, R112). -/
def refMvAt (s : State) (r : Fin 32) (at_ : Nat) : Int :=
  let looped := match (s.rail r).st with | .pullIn | .hold | .offDelay => s.coilMode r | _ => false
  if looped then (s.rail r).coilR else (s.rail r).refAt at_ / 1000

/-- The newest sample of a ring at or before `at_`, none older than 2 µs (R433). -/
def newestIn (ring : List (Nat × Int)) (at_ : Nat) : Option Int :=
  (ring.find? fun x => decide (x.1 ≤ at_) && decide (at_ ≤ x.1 + 200)).map fun x => x.2

/-- The sample of a phase current or a rail's voltage at its lead tile that the machine holds for a frame at `at_` (R432). -/
def heldSample (s : State) (x : Stream) (at_ : Nat) : Option Int :=
  match x.kind with
  | 1 => if h : x.index < 56 then newestIn (s.phases[x.index]).ring at_ else none
  | 3 => if h : x.index < 32 then (sortPhases (s.usableMembers ⟨x.index, h⟩)).head?.bind fun p => newestIn (s.phase p).vring at_ else none
  | _ => none

/-- The value of a stream in the frame taken at `at_`: a sample that the machine holds, and otherwise the one that its source has
sent, where it has; a phase's duty, a rail's reference and a tile's t_max are the machine's own (R432). -/
def streamValue (s : State) (x : Stream) (at_ : Nat) (v : Option Int) : Option Int :=
  ((s.heldSample x at_).or v).map fun v =>
    match x.kind with
    | 2 => if h : x.index < 56 then (s.phases[x.index]).duty else v
    | 4 => if h : x.index < 32 then s.refMvAt ⟨x.index, h⟩ at_ else v
    | 8 => if h : x.index < 8 then s.tMax ⟨x.index, h⟩ else v
    | _ => v

/-- One value of a frame: the newest sample, or the gap value (R433). -/
def streamBytes (x : Stream) (v : Option Int) : Bytes :=
  match v with
  | some v => toLE x.size (unsigned (8 * x.size) v)
  | none => toLE x.size (2 ^ (8 * x.size - 1))

/-- One frame is taken (R433, R435): `vs` holds the newest samples of the streams in subindex order, none for a source without one. -/
def mirFrame (s : State) (vs : List (Option Int)) : State :=
  let s := s.mirSource
  let m := s.mir
  if !s.mirBusy || m.ended.isSome || (m.st = .triggered && m.trigFrame.isSome && m.postLeft = 0) then s
  else
    let at_ := s.mirFrameTime m.next
    let body := ((s.mirStreams.zipIdx).flatMap fun (x, j) => streamBytes x (s.streamValue x at_ (vs.getD j none)))
    let f := body ++ List.replicate (s.mirFrameSize - body.length) 0#8
    let gap := (s.mirStreams.zipIdx).any fun (x, j) => (s.streamValue x at_ (vs.getD j none)).isNone
    let s := if gap && !m.gapSeen then (s.modMir fun y => { y with gapSeen := true }).raiseLater Ev.mir 2 else s
    let s := s.modMir fun y => { y with next := y.next + 1 }
    match m.trigTime, m.trigFrame with
    | some t, none =>
      if t ≤ at_ then
        let keep := min (s.getN K.MIR_PRE) m.frames.length
        s.modMir fun y =>
          { y with frames := y.frames.drop (m.frames.length - keep) ++ [f], trigFrame := some m.next, preValid := keep,
                   postLeft := s.getN K.MIR_POST - 1 }
      else s.modMir fun y => { y with frames := (y.frames ++ [f]).drop (y.frames.length + 1 - s.mirCapacity) }
    | _, some _ => s.modMir fun y => { y with frames := y.frames ++ [f], postLeft := y.postLeft - 1 }
    | none, none => s.modMir fun y => { y with frames := (y.frames ++ [f]).drop (y.frames.length + 1 - s.mirCapacity) }

/-- The ring is rotated: DONE or STOPPED, with the capture's numbers (R437). -/
def mirRotated (s : State) : State :=
  match s.mir.ended with
  | none => s
  | some how =>
    let m := s.mir
    let first := m.next - m.frames.length
    let s := s.puts [(K.MIR_FRAMES, m.frames.length), (K.MIR_PRE_VALID, m.preValid),
      (K.MIR_FIRST_AT, if m.frames.isEmpty then 0 else (s.mirFrameTime first : Nat)),
      (K.MIR_TRIG_AT, match m.trigFrame with | some k => (s.mirFrameTime k : Nat) | none => 0)]
    (s.modMir fun y => { y with st := how, ended := none }).raiseLater Ev.mir 1

/-- SEAL step 5 ends a capture that still records (R436). -/
def mirTruncate (s : State) : State :=
  if s.mirBusy && s.mir.ended.isNone then (s.mirEnd .done).raiseLater Ev.mir 3 else s

end State

/-! ### The commands -/

/-- MIR_ARM_CMD (R434). -/
def execMirArmCmd (acc : Accessor) (s : State) : Out := .next (s.access acc fun s => s.writeMirArm acc 0x5A)

/-- MIR_STOP_CMD (R434). -/
def execMirStopCmd (acc : Accessor) (s : State) : Out := .next (s.access acc fun s => s.writeMirArm acc 0xA5)

/-- MIR_TRIGGER_CMD (R434). -/
def execMirTriggerCmd (acc : Accessor) (s : State) : Out := .next (s.access acc fun s => s.writeMirArm acc 0x3C)

/-- MIRAGE_FRAME (R433). -/
def execMirageFrame (values : List (Option Int)) (s : State) : Out := .next (if s.keeperRuns then s.mirFrame values else s)

/-- MIRAGE_TRIGGER (R435): the value of stream `arg` crosses the level, kinds 3 and 4, or the source of the settings has become
PENDING since the arm, kind 6. Everything-off, an isolation and a hand-over trigger the capture where they happen, and MANUAL by its
command. -/
def execMirageTrigger (kind arg : Nat) (before after : Int) (s : State) : Out :=
  .next (if !s.keeperRuns then s
    else if kind = 6 then s.mirSource
    else if s.mirCrosses kind before after then s.mirEvent kind arg else s)

/-- MIRAGE_POST_FULL (R437): the post window is full. -/
def execMiragePostFull (s : State) : Out :=
  .next (if s.mir.st = .triggered && s.mir.trigFrame.isSome && s.mir.postLeft = 0 then s.mirEnd .done else s)

/-- MIRAGE_ROTATION_DONE (R437). -/
def execMirageRotationDone (s : State) : Out := .next (if s.keeperRuns then s.mirRotated else s)

end Sys2Proof.Machine
end

