-- ==== Sys2Proof/Machine/Dma.lean ====
section
/-! DEFINITION. Caravan: descriptors, the run of R428, errors and halts, and the leases of its channels. -/

namespace Sys2Proof.Machine

/-- A descriptor (R427). -/
structure Desc where
  src : Nat
  dst : Nat
  checkAddr : Nat
  expect : Nat
  elem : Nat
  check : Nat
  retryLimit : Nat
  count0 : Nat
  count1 : Nat
  count2 : Nat
  sstep0 : Int
  dstep0 : Int
  sstep1 : Int
  dstep1 : Int
  sstep2 : Int
  dstep2 : Int
  deriving DecidableEq, Repr

/-- The `n` bytes at byte `k` of a little-endian value. -/
def fieldAt (v k n : Nat) : Nat := v / 256 ^ k % 256 ^ n

/-- The fields of the 40 bytes of `DMA_DESC` (R427). -/
def Desc.ofValue (v : Nat) : Desc :=
  { src := fieldAt v 0 4, dst := fieldAt v 4 4, checkAddr := fieldAt v 8 4, expect := fieldAt v 12 4,
    elem := fieldAt v 16 1, check := fieldAt v 17 1, retryLimit := fieldAt v 18 1,
    count0 := fieldAt v 20 2, count1 := fieldAt v 22 2, count2 := fieldAt v 24 2,
    sstep0 := signed 16 (fieldAt v 26 2), dstep0 := signed 16 (fieldAt v 28 2),
    sstep1 := signed 16 (fieldAt v 30 2), dstep1 := signed 16 (fieldAt v 32 2),
    sstep2 := signed 16 (fieldAt v 34 2), dstep2 := signed 16 (fieldAt v 36 2) }

/-- The bytes of one element. -/
def Desc.size (d : Desc) : Nat := 2 ^ (d.elem % 4)

/-- STORE and VERIFY (R427). -/
def Desc.store (d : Desc) : Bool := d.check.testBit 2
def Desc.verify (d : Desc) : Bool := d.check.testBit 3

/-- A region of R426: the Mirage buffer, or an MRAM partition. -/
inductive Region
  | mirage | part (p : Nat)
  deriving DecidableEq, Repr

/-- The region that holds `n` bytes at a Caravan address (R426). -/
def regionOf (a : Int) (n : Nat) : Option Region :=
  if 0x10000000 ≤ a && a + n ≤ 0x10040000 then some .mirage
  else
    ((List.range 9).find? fun p =>
      match partitions[p]? with
      | some x => decide ((0x20000000 + x.base : Nat) ≤ a) && decide (a + n ≤ (0x20000000 + x.base + x.size : Nat))
      | none => false).map .part

/-- A region may be a source (R426). -/
def Region.readable : Region → Bool
  | .mirage => true
  | .part p => match partitions[p]? with | some x => x.rawRead | none => false

/-- A region may be a destination or hold the check (R426). -/
def Region.writable : Region → Bool
  | .mirage => false
  | .part p => match partitions[p]? with | some x => x.rawWrite | none => false

/-- The codes and counts of a descriptor are ones that a start accepts (R429). -/
def Desc.wellFormed (d : Desc) : Bool :=
  decide (d.elem < 4) && decide (d.check < 16) && decide (d.check % 4 ≠ 3) && decide (1 ≤ d.count0) && decide (1 ≤ d.count1) &&
    decide (1 ≤ d.count2) && decide (d.retryLimit ≤ 15)

/-- The addresses of a descriptor lie in regions that it may name (R426, R429). -/
def Desc.addressed (d : Desc) : Bool :=
  (match regionOf d.src d.size with | some r => r.readable | none => false) &&
    (match regionOf d.dst d.size with | some r => r.writable | none => false) &&
    (!d.store || (match regionOf d.checkAddr 4 with | some r => r.writable | none => false))

/-- The check after one more element (R428). -/
def Desc.addCheck (d : Desc) (chk : Nat) (bs : Bytes) : Nat :=
  if d.check % 4 = 1 then (bs.foldl (fun c b => (bitsLsb b).foldl crc32Bit c) (BitVec.ofNat 32 chk)).toNat
  else if d.check % 4 = 2 then (chk + ofLE bs) % 2 ^ 32
  else chk

namespace State

/-- Channel `c`. -/
def channel (s : State) (c : Fin 8) : ChannelSt := s.dma[c]

/-- Change channel `c`. -/
def modChannel (s : State) (c : Fin 8) (f : ChannelSt → ChannelSt) : State := { s with dma := s.dma.set c (f s.dma[c]) }

/-- The descriptor of channel `c`. -/
def desc (s : State) (c : Fin 8) : Desc := Desc.ofValue (s.getN (K.DMA_DESC c))

/-- A region names a partition whose password the holder has not unlocked (R429). -/
def regionBarred (s : State) (h : Option (Fin 64)) (a : Nat) (n : Nat) (write : Bool) : Bool :=
  match regionOf a n with
  | some (.part p) => s.pwBars h p write
  | _ => false

/-- A block transfer over channel `c` has lost it: it ends with the abort code of the halt (R430). -/
def loseBlocks (s : State) (c : Fin 8) (code : Abort) : State :=
  { s with net := { s.net with partners := s.net.partners.map fun p => p.map fun q =>
      { q with block := q.block.map fun b => if b.channel = c && b.lost.isNone then { b with lost := some code } else b } } }

/-- Halt a channel (R430): the data already written stays. -/
def haltChannel (s : State) (c : Fin 8) (reason : Nat) (st : OpStatus) : State :=
  if (s.channel c).st = .running then
    let t := (s.channel c).tag
    let s := (s.modChannel c fun x => { x with st := .halted, tag := none, retryDue := false }).loseBlocks c
      (if reason = 1 then .busy else .leaseRevoked)
    ((s.put (K.DMA_CH_HALT c) reason).finish? t st).raise (Ev.dma c) 1
  else s

/-- The lease of a host channel's holder ends (R194, R195): the channel halts, and the holder's next start is answered LEASE_REVOKED. -/
def revokeHost (s : State) (c : Fin 8) (row : Nat) : State :=
  let who := match (s.channel c).tag with | some t => some (s.op t).issuer | none => none
  ((s.haltChannel c 2 .failed).leaseRevoked row).modChannel c fun x =>
    { x with revokedOf := x.revokedOf ++ who.toList.filter fun w => !x.revokedOf.contains w }

/-- Every running channel halts with QUENCH, its operation having ended at everything-off (R430). -/
def quenchDma (s : State) : State :=
  (List.finRange 8).foldl (fun (s : State) c => s.haltChannel c 6 .failed) s

/-- The abort code of a port transfer whose channel has halted: BUSY for a bus error, otherwise LEASE_REVOKED (R430). -/
def haltCode (s : State) (c : Fin 8) : Abort :=
  if (s.channel c).st = .halted && s.get (K.DMA_CH_HALT c) = 1 then .busy else .leaseRevoked

/-- Start a lease on a channel of the Keeper's own (0–5, R425). -/
def openChannel (s : State) (c : Fin 8) : State :=
  (s.modChannel c fun _ => { st := .running }).puts [(K.DMA_CH_HALT c, 0), (K.DMA_CH_ELEMENTS c, 0)]

/-- End a lease of the Keeper's own without a halt. -/
def closeChannel (s : State) (c : Fin 8) : State :=
  (s.modChannel c fun x => { x with st := .done, tag := none }).raise (Ev.dma c) 0

/-- A write of `DMA_START` (R425, R429), in the order of R354. -/
def writeDmaStart (s : State) (acc : Accessor) (c : Fin 8) (v : Nat) : Res :=
  match s.reachWrite acc (K.DMA_START c) 1 with
  | .error e => .error e
  | .ok _ =>
    let d := s.desc c
    let h := holderOf acc
    if c.val < 6 then .error .typeMismatch
    else if s.regionBarred h d.src d.size false || s.regionBarred h d.dst d.size true ||
        (d.store && s.regionBarred h d.checkAddr 4 true) then .error .passwordRequired
    else if !s.installerUp acc then .error .roleDenied
    else if v ≠ 1 || !d.wellFormed || !d.addressed then .error .outOfRange
    else if (s.channel c).st = .running || (regionOf d.src d.size = some .mirage && s.mirBusy) then .error .busy
    else if (s.channel c).revokedOf.contains (s.issuerOf acc) then
      .ok (s.modChannel c fun x => { x with revokedOf := x.revokedOf.erase (s.issuerOf acc) }, .abort .leaseRevoked)
    else s.withTag acc .dma (K.DMA_START c) fun s t =>
      let s := s.modChannel c fun x =>
        { st := .running, tag := some t, src := d.src, dst := d.dst, revokedOf := x.revokedOf,
          chk := if d.check % 4 = 1 then 0xFFFFFFFF else 0 }
      s.puts [(K.DMA_CH_TAG c, t), (K.DMA_CH_HALT c, 0), (K.DMA_CH_ELEMENTS c, 0), (K.DMA_CH_CHECK c, 0)]

/-- A write of `DMA_DESC` (R425, R440). -/
def writeDmaDesc (s : State) (acc : Accessor) (c : Fin 8) (data : Bytes) : Res :=
  match s.reachWrite acc (K.DMA_DESC c) data.length with
  | .error e => .error e
  | .ok _ =>
    if c.val < 6 then .error .typeMismatch
    else if !s.installerUp acc then .error .roleDenied
    else if (s.channel c).st = .running then .error .busy
    else .ok (s.put (K.DMA_DESC c) (ofLE data : Nat), .done)

/-- The bytes that a Caravan read of a source element returns: the rotated Mirage buffer, or MRAM (R426, R437). -/
def dmaRead (s : State) (a : Int) (n : Nat) : Bytes × State :=
  if a < 0x20000000 then (((s.mir.frames.flatten.drop (a - 0x10000000).toNat) ++ List.replicate n 0#8).take n, s)
  else s.rawBytes (a - 0x20000000).toNat n

/-- The next element's place in the loops of R428: the channel with counters and addresses moved on; `moved` after the
last. -/
def nextElement (d : Desc) (x : ChannelSt) : ChannelSt :=
  let x := { x with src := x.src + d.sstep0, dst := x.dst + d.dstep0, k0 := x.k0 + 1, fails := 0 }
  if x.k0 < d.count0 then x
  else
    let x := { x with src := x.src + d.sstep1, dst := x.dst + d.dstep1, k0 := 0, k1 := x.k1 + 1 }
    if x.k1 < d.count1 then x
    else
      let x := { x with src := x.src + d.sstep2, dst := x.dst + d.dstep2, k1 := 0, k2 := x.k2 + 1 }
      if x.k2 < d.count2 then x else { x with moved := true }

/-- A bus error on the present element: a retry is due after 10 µs (R430). -/
def busError (s : State) (c : Fin 8) : State :=
  if (s.channel c).st = .running then s.modChannel c fun x => { x with fails := x.fails + 1, retryDue := true } else s

/-- Move the present element, or halt on an address outside its region (R428). -/
def moveElement (s : State) (c : Fin 8) : State :=
  let d := s.desc c
  let x := s.channel c
  if regionOf x.src d.size ≠ regionOf d.src d.size || regionOf x.dst d.size ≠ regionOf d.dst d.size then
    s.haltChannel c 3 .failed
  else
    let (bs, s) := s.dmaRead x.src d.size
    let s := s.writeMram (x.dst - 0x20000000).toNat bs
    let s := s.modChannel c fun y => nextElement d { y with chk := d.addCheck y.chk bs }
    (s.addSat (K.DMA_CH_ELEMENTS c) 1).1

/-- The words of the array that an access of `n` bytes at a Caravan address touches beside the one touched last. -/
def wordsTouched (last : Option Int) (a : Int) (n : Nat) : Nat :=
  if a < 0x20000000 then 0 else ((a + n - 1) / 8 - a / 8 + 1).toNat - if last = some (a / 8) then 1 else 0

/-- Move the elements of one burst, of which `left` words of the array remain (R416). Before the `ue`-th the source word is uncorrectable,
and those of the elements `fix` need a correction, where the source is the array (R422). The first argument bounds the elements. -/
def burst (ue : Option Nat) (fix : List Nat) (c : Fin 8) : Nat → Nat → Nat → Option Int → Option Int → State → State
  | 0, _, _, _, _, s => s
  | n + 1, k, left, lastSrc, lastDst, s =>
    let x := s.channel c
    let size := (s.desc c).size
    let cost := wordsTouched lastSrc x.src size + wordsTouched lastDst x.dst size
    if x.st ≠ .running || x.moved || x.retryDue || left < cost then s
    else if ue = some k && decide (0x20000000 ≤ x.src) then (s.uncorrectable x.src).busError c
    else
      let s := if fix.contains k && decide (0x20000000 ≤ x.src) then s.correctedWord ((x.src - 0x20000000).toNat / 8) else s
      burst ue fix c n (k + 1) (left - cost) (some ((x.src + size - 1) / 8)) (some ((x.dst + size - 1) / 8)) (s.moveElement c)

/-- The shared port is granted for one burst of at most 512 words to the running host channel of the lowest number that
waits; none is granted while non-legal writes are blocked (R416). -/
def grantPort (s : State) (ue : Option Nat) (fix : List Nat) : State :=
  if s.modes.holdup || !s.activeNotSeal then s
  else
    match (List.finRange 8).find? fun c =>
        decide (6 ≤ c.val) && decide ((s.channel c).st = .running) && !(s.channel c).moved && !(s.channel c).retryDue with
    | some c => burst ue fix c 4096 0 512 none none s
    | none => s

/-- The end of a run (R428, R431): the check is reported, stored and verified. A check to be stored waits for its grant while
HOLDUP_WARNING is 1 (R416). -/
def dmaDone (s : State) (c : Fin 8) : State :=
  let x := s.channel c
  let d := s.desc c
  if x.st = .running && x.moved && !x.retryDue && !(d.store && s.modes.holdup) then
    let chk := if d.check % 4 = 1 then x.chk ^^^ 0xFFFFFFFF else x.chk
    let s := s.put (K.DMA_CH_CHECK c) chk
    let s := if d.store then s.writeMram (d.checkAddr - 0x20000000) (toLE 4 chk) else s
    if d.verify && chk ≠ d.expect then (s.haltChannel c 4 .failed).raise (Ev.dma c) 3
    else
      let t := x.tag
      ((s.modChannel c fun y => { y with st := .done, tag := none }).finish? t .completed).raise (Ev.dma c) 0
  else s

/-- The retry after a bus error, or the halt once RETRY_LIMIT failures in a row are reached (R430). -/
def dmaRetry (s : State) (c : Fin 8) : State :=
  let x := s.channel c
  if x.st = .running && x.retryDue then
    if (s.desc c).retryLimit ≤ x.fails then s.haltChannel c 1 .failed
    else ((s.modChannel c fun y => { y with retryDue := false }).bump (K.DMA_CH_RETRIES c)).raise (Ev.dma c) 2
  else s

/-- An abort of a running transfer (R431): it wins but where the last element has been written and no check is to be stored, for done is
then registered. -/
def abortDma (s : State) (c : Fin 8) : State :=
  if (s.channel c).moved && !(s.desc c).store then
    match (s.channel c).tag with
    | some t => s.loseAbort t
    | none => s
  else s.haltChannel c 5 .aborted

/-- A running transfer of a holder names the partition: that counts as access throughout (R419). -/
def transferNames (s : State) (h : Option (Fin 64)) (part : Nat) : Bool :=
  (List.finRange 8).any fun c =>
    let d := s.desc c
    decide ((s.channel c).st = .running) &&
      (s.channel c).tag.any (fun t => decide ((s.op t).issuer = match h with | some i => .slot i | none => .host)) &&
      (decide (regionOf d.src d.size = some (.part part)) || decide (regionOf d.dst d.size = some (.part part)) ||
        (d.store && decide (regionOf d.checkAddr 4 = some (.part part))))

end State

/-- The shared port was withdrawn from the estimator: what it wrote since the last tick is to be written again (R264). -/
def EstSt.retry (e : EstSt) : EstSt :=
  { e with coreDue := e.coreDue || e.wrote.testBit 0, rowsDue := e.rowsDue ||| e.wrote / 2 }

/-! ### The commands -/

/-- DMA_START (R429). -/
def execDmaStart (acc : Accessor) (c : Fin 8) (s : State) : Out := .next (s.access acc fun s => s.writeDmaStart acc c 1)

/-- MRAM_PORT_GRANT (R416): one burst; `ue` counts the elements before an uncorrectable source word, if one is met, and `fix` the elements
whose source word needs a correction (R422). -/
def execMramPortGrant (ue : Option Nat) (fix : List Nat) (s : State) : Out := .next (s.grantPort ue fix)

/-- DMA_GRANT_TIMEOUT (R430): a grant, for an element or for the check, that has not arrived after 1 ms counts as a bus error. -/
def execDmaGrantTimeout (c : Fin 8) (s : State) : Out :=
  .next (if !(s.channel c).retryDue && (!(s.channel c).moved || (s.desc c).store) then s.busError c else s)

/-- UNLOCK_IDLE_EXPIRY (R419): 600 s without access by the holder (none: HOST) to the partition. -/
def execUnlockIdleExpiry (holder : Option (Fin 64)) (part : Nat) (s : State) : Out :=
  .next (if s.transferNames holder part then s else s.endUnlocks fun u => u.holder = holder && u.part = part)

/-- DMA_DONE (R431). -/
def execDmaDone (c : Fin 8) (s : State) : Out := .next (s.dmaDone c)

end Sys2Proof.Machine
end

