-- ==== Sys2Proof/Machine/CommitOps.lean ====
section
/-! DEFINITION. The staging set and the commit short of its checks (R358–R364): what a stage changes, how a membership
change lands (R96), and how a commit ends early. -/

namespace Sys2Proof.Machine

/-- The phases that a list of `RAIL_MEMBERS` or `RAIL_SPARES` entries names; 0xFF is unused. -/
def usedPhases (vs : List Int) : List (Fin 56) :=
  vs.filterMap fun v => (List.finRange 56).find? fun p => decide ((p.val : Int) = v)

/-- A new value of a protective limit is tighter than the old (R360). -/
def tightens (t : Tighter) (old new : Int) : Bool :=
  match t with
  | .no => false | .lower => decide (new < old) | .higher => decide (old < new)

/-- The members of a rail in this state switch, so that one which a commit adds enters PREBIAS at once; in ON_DELAY it waits with
the others, and in DISCHARGE none switches any more (R96, R105, R106). -/
def RailState.carries : RailState → Bool
  | .prebias | .rampUp | .up | .offDelay | .rampDown | .pullIn | .hold => true
  | _ => false

namespace State

/-- Change the staging set and commit. -/
def modCfg (s : State) (f : CommitSt → CommitSt) : State := { s with cfg := f s.cfg }

/-- The member list of a rail's configuration. -/
def memberList (s : State) (r : Fin 32) : List (Fin 56) :=
  usedPhases ((List.range 16).map fun j => s.get (K.RAIL_MEMBERS r j))

/-- The spare list of a rail's configuration. -/
def spareList (s : State) (r : Fin 32) : List (Fin 56) :=
  usedPhases ((List.range 4).map fun j => s.get (K.RAIL_SPARES r j))

/-- The stage in which a staged object changes (R361): 1 a tighter limit, 3 a looser one, 2 everything else. -/
def stageOf (s : State) (key : Nat) (v : Int) : Nat :=
  match Dict.find key with
  | some d => if d.protective = .no then 2 else if tightens d.protective (s.get key) v then 1 else 3
  | none => 2

/-- A commit is between acceptance and its end (R374). -/
def commitRunning (s : State) : Bool := decide (s.cfg.phase ≠ .idle)

/-- The running commit stages one of these objects: a LIVE write that is checked against them is refused with BUSY (R364). -/
def commitStages (s : State) (keys : List Nat) : Bool :=
  s.commitRunning && s.cfg.staged.any fun kv => keys.contains kv.1

/-- Discard the staging set (R358); one that a commit is working on loses its owner, and goes with the commit. -/
def discardStaging (s : State) : State :=
  s.modCfg fun c => { c with owner := none, staged := if s.commitRunning then c.staged else [] }

/-- FOG and BELL follow `SEQ_COOP` (R160, R163): with FOG_DRIVE = 0 a quench latch or a SERVICE
entered from FAILSAFE leaves FOG undriven. -/
def refreshCoop (s : State) : State :=
  let q := s.sup.quenchLatch || (decide (s.modes.mode = .service) && s.modes.serviceFromFailsafe)
  let s := (s.driveFog (if q then s.coopBit 0 else s.seq.fogDrive)).ignoreBell
  s.driveBell ((s.bellGroup .bell).isNone && (s.bellGroup .rung).isNone)

/-- The lists in use of a rail that is not up follow its configuration; an emptied rail is UNBUILT (R96, R107). -/
def listsAtRest (s : State) (r : Fin 32) (ms ss : List (Fin 56)) : State :=
  let set (role : PhRole) (s : State) (p : Fin 56) : State := s.modPhase p fun x => { x with rail := some r, role := role }
  let left := ((s.rail r).members ++ (s.rail r).spares).filter fun p => !ms.contains p && !ss.contains p
  let s := s.forPhases left fun s p => s.modPhase p fun x => { x with rail := none, role := .none }
  let s := (s.forPhases ms (set .member)).forPhases ss (set .spare)
  let st := (s.rail r).st
  let s := s.modRail r fun x =>
    { x with members := ms, spares := ss, bus := ms.any isBus,
             st := if ms.isEmpty then .unbuilt else if st = .unbuilt then .off else st }
  if ms.isEmpty then s.put (K.RAIL_BUILD_RESULT r) 0xFF01 else if st = .unbuilt then s.put (K.RAIL_BUILD_RESULT r) 0xFF00 else s

/-- A phase leaves its rail (R96). -/
def dropPhase (s : State) (p : Fin 56) : State := (s.phaseOff p).modPhase p fun y => { y with rail := none, role := .none }

/-- A phase that a commit adds to the members of a rail that is up (R96): a spare in SPARE joins directly, any other phase enters
PREBIAS, and an ISOLATED one stays ISOLATED (R81). -/
def landMember (s : State) (r : Fin 32) (wasSpare : Bool) (p : Fin 56) : State :=
  if wasSpare && decide ((s.phase p).st = .spare) then s.modPhase p fun y => { y with joining := true, role := .member }
  else
    let s := (s.phaseOff p).modPhase p fun y => { y with rail := some r, role := .member }
    if (s.rail r).st.carries then s.phasePrebias r .member p else s

/-- A phase that a commit adds to the spares of a rail that is up stands by under R97 (R96). -/
def landSpare (s : State) (r : Fin 32) (p : Fin 56) : State :=
  let s := (s.phaseOff p).modPhase p fun y => { y with rail := some r, role := .spare }
  if (s.rail r).everQualified then s.phasePrebias r .spare p else s

/-- A membership change of a rail that is up lands at its apply tick (R96): `cm` and `cs` are the lists before it, `nm` and `ns` those
after it. What the commit does not change stays, a spare that has joined and a member that was replaced among it. Members that the
commit added and that were isolated after its prepare are lost members of the new lists (R80, R81). -/
def landLive (s : State) (r : Fin 32) (cm cs nm ns : List (Fin 56)) : State :=
  let om := (s.rail r).members
  let os := (s.rail r).spares
  let newM := nm.filter fun p => !cm.contains p && !om.contains p
  let newS := ns.filter fun p => !cs.contains p
  let gone := (cm ++ cs).filter fun p => !nm.contains p && !ns.contains p
  let ms := (om.filter fun p => !gone.contains p && !newS.contains p) ++ newM
  let ss := ns.filter fun p => (os.contains p || newS.contains p) && !ms.contains p && decide ((s.phase p).st ≠ .isolated)
  let s := s.modRail r fun x => { x with members := ms, spares := ss }
  let s := s.forPhases (sortPhases ((gone ++ newM ++ newS).dedup)) fun s p =>
    if newM.contains p then s.landMember r (os.contains p) p
    else if newS.contains p then s.landSpare r p
    else if (s.phase p).rail = some r then s.dropPhase p else s
  (newM.filter fun p => decide ((s.phase p).st = .isolated)).foldl (fun s _ => s.commandSpare r) s

/-- A membership change lands at its apply tick (R96). -/
def landLists (cm cs : List (Fin 56)) (s : State) (r : Fin 32) : State :=
  let lead := s.leadTile r
  let s := if (s.rail r).st.live then (s.landLive r cm cs (s.memberList r) (s.spareList r)).leadPasses r lead
    else s.listsAtRest r (s.memberList r) (s.spareList r)
  (s.refreshDegraded r).refreshLimiting r

/-- The rails whose lists a set of staged objects changes. -/
def listRails (kvs : List (Nat × Int)) : List (Fin 32) :=
  (List.finRange 32).filter fun r => kvs.any fun kv =>
    (K.RAIL_MEMBERS r 0 ≤ kv.1 && kv.1 ≤ K.RAIL_MEMBERS r 15) || (K.RAIL_SPARES r 0 ≤ kv.1 && kv.1 ≤ K.RAIL_SPARES r 3)

/-- An object is some phase's `PH_FSW`. -/
def fswKey (k : Nat) : Bool := (List.range 56).any fun p => decide (K.PH_FSW p = k)

/-- The `PH_FSW` changes that wait for a frame pulse land (R361). -/
def landFsw (s : State) : State := (s.puts s.cfg.fswDue).modCfg fun c => { c with fswDue := [] }

/-- A frame pulse: a `PH_FSW` change that waits for it lands (R63, R361). -/
def framePulse (s : State) : State := s.landFsw

/-- A frame pulse has fallen at or after the A2 that the change waits for (R63, R361). -/
def pulseDue (s : State) : Bool :=
  !s.cfg.fswDue.isEmpty && match s.pulseFrom s.cfg.fswFrom with
    | some p => decide (p ≤ s.now)
    | none => false

/-- A frame pulse that has fallen meanwhile takes its effect. -/
def settlePulse (s : State) : State := if s.pulseDue then s.framePulse else s

/-- Beacon time reaches `t`, and with it the frame pulses on the way. -/
def timeTo (s : State) (t : Nat) : State :=
  ({ s with now := t } : State).settlePulse

/-- Staged objects take effect at A2 (R361): `PH_FSW` changes wait for the frame pulse, but in FAILSAFE, where only the Keeper's copies
change (R365). -/
def applyStaged (s : State) (kvs : List (Nat × Int)) : State :=
  let waits := fun (kv : Nat × Int) => fswKey kv.1 && decide (s.modes.mode ≠ .failsafe)
  let t := (s.puts (kvs.filter fun kv => !waits kv)).modCfg fun c => { c with fswDue := kvs.filter waits, fswFrom := s.now }
  ((listRails kvs).foldl (fun t r => landLists (s.memberList r) (s.spareList r) t r) t).refreshCoop

/-- The commit is over with a result (R373): its tag ends, the set is empty and has no owner. -/
def endCommit (s : State) (result : Nat) (st : OpStatus) (code : Nat := 0) : State :=
  let t := s.cfg.tag
  let s := s.modCfg fun c => { c with owner := none, staged := [], phase := .idle, tag := none, tiles := 0, acked := 0 }
  (s.put K.CFG_COMMIT_RESULT result).finish? t st result code

/-- A commit is abandoned (R362, R364): nothing changes, the staging set keeps its owner, and one that has lost it is discarded (R358). -/
def abandonCommit (s : State) (result : Nat) (st : OpStatus) (code : Nat := 0) : State :=
  let t := s.cfg.tag
  let s := s.modCfg fun c =>
    { c with phase := .idle, tag := none, tiles := 0, acked := 0, staged := if c.owner.isNone then [] else c.staged }
  (s.put K.CFG_COMMIT_RESULT result).finish? t st result code

/-- Tile `t` acknowledges the prepare (R362): it is LOCKED, and the commit makes none of its ISOLATED phases a member
or spare of a rail that had not listed it so. -/
def tileAcks (s : State) (t : Fin 8) : Bool :=
  let v := s.puts s.cfg.staged
  let added := (listRails s.cfg.staged).flatMap fun r =>
    (v.memberList r).filter (fun p => !(s.memberList r).contains p) ++ (v.spareList r).filter fun p => !(s.spareList r).contains p
  (s.link t).locked && added.all fun p => decide (tileOf p ≠ t) || decide ((s.phase p).st ≠ .isolated)

/-- The tiles that have not acknowledged. -/
def missingTiles (s : State) : Nat :=
  ((List.range 8).map fun t => if s.cfg.tiles.testBit t && !s.cfg.acked.testBit t then 2 ^ t else 0).sum

/-- Tile `t` does not acknowledge the prepare: COMMIT_REFUSED (R362, R364). -/
def refuseCommit (s : State) : State :=
  if s.cfg.phase = .prepared then
    (s.put K.CFG_COMMIT_TILES s.missingTiles).abandonCommit 3 .refused
  else s

/-- A tile is fenced: before it has acknowledged, the commit is abandoned (R364). -/
def fenceCommit (s : State) (t : Fin 8) : State :=
  if s.cfg.phase = .prepared && s.cfg.tiles.testBit t.val && !s.cfg.acked.testBit t.val then s.refuseCommit else s

/-- Everything-off meets a commit (R364); a save under way is torn, which leaves its slot invalid (R369). -/
def quenchCommit (s : State) : State :=
  let s := match s.cfg.phase with
    | .idle => s
    | .checking | .prepared => s.abandonCommit 5 .failed
    | .stage1 | .stage2 => (s.applyStaged s.cfg.staged).landFsw.endCommit 6 .failed
  match s.cfg.saving with
  | some (slot, _) =>
    (s.modCfg fun c => { c with saving := none }).eraseMram (0x18A000 + 0x8000 * slot) 4
  | none => s

end State
end Sys2Proof.Machine
end

