-- ==== Sys2Proof/Machine/Seal.lean ====
section
/-! DEFINITION. Everything-off, the snapshot and the start of SEAL (R177–R189), and faults in IDLE (R178, R213). -/

namespace Sys2Proof.Machine
namespace State

/-! ### Words that the snapshot and the ports share -/

/-- `RAIL_STATUS` (R119). DEDUCED (log 178): SLEWING stays 0 while a coil loop moves its reference in PULL_IN and HOLD. -/
def railStatus (s : State) (r : Fin 32) : Nat :=
  let x := s.rail r
  let b (k : Nat) (v : Bool) := if v then 2 ^ k else 0
  let near := decide ((10 * (s.railPoolI r - s.coilTarget r).natAbs : Int) ≤ s.coilTarget r)
  b 0 (if x.st = .hold then near else decide (x.st = .up) && !x.moving) + b 1 x.moving + b 2 x.limiting + b 3 x.capped +
    b 4 x.degraded + b 5 (s.spareReady r) + b 6 (!(s.shedMembers r).isEmpty) + b 7 x.compliance + b 8 x.pg

/-- `PH_STATUS` (R90). -/
def phStatus (s : State) (p : Fin 56) : Nat :=
  let x := s.phase p
  let b (k : Nat) (v : Bool) := if v then 2 ^ k else 0
  b 0 s.syncExt + b 1 (s.frameUnlocked p) + b 2 x.peakLimiting + b 3 x.atLimit + b 4 x.testing + b 5 x.dropout + b 6 x.avgStale

/-- `SEQ_STATUS` (R170). -/
def seqStatus (s : State) : Nat :=
  let b (k : Nat) (v : Bool) := if v then 2 ^ k else 0
  b 0 s.ramping + b 1 s.fogIsLow + b 2 s.seq.fogDrive +
    b 3 ((List.finRange 16).any fun g => decide ((s.group g).st = .held) && decide (s.closedGate g = .fog)) +
    b 4 (s.seq.bellBall || s.seq.bellDrive) +
    b 5 ((s.bellGroup .bell).isSome || (s.bellGroup .rung).isSome) + b 6 (decide (s.get K.SEQ_LEGACY_MODE = 1)) +
    b 7 (decide (s.get K.SEQ_LEGACY_MODE = 2)) +
    b 8 s.bus.stuck

/-- A tile's link is down: what it reports is stale (R184). -/
def tileStale (s : State) (t : Fin 8) : Bool := s.tileFitted t && decide ((s.link t).st ≠ .up)

/-! ### The snapshot (R184–R188) -/

/-- `n` bytes of a number, negative numbers in two's complement. -/
def leInt (n : Nat) (v : Int) : Bytes := toLE n (unsigned (8 * n) v)

/-- The UV detector of a rail is armed (R173, R175). -/
def uvArmed (s : State) (r : Fin 32) : Bool :=
  let x := s.rail r
  (match x.st with | .rampUp => true | .up => true | .offDelay => true | _ => false) && !s.coilMode r && !x.capped

/-- A timer's time in µs, saturating at 16 bits; 0 where it does not run (R187). -/
def elapsedUs (s : State) (t : Option Nat) : Nat := match t with | some t => min 65535 ((s.now - t) / 100) | none => 0

/-- The ramp reference, rounded down to whole mV, that `RAIL_VREF` and the snapshot show; a coil rail's is its current loop's (R99,
R113). -/
def refMv (s : State) (r : Fin 32) : Int := s.refMvAt r s.now

/-- The tracking OV detector of a rail is armed: from RAMP_UP or PULL_IN entry until DISCHARGE entry (R173). -/
def ovArmed (s : State) (r : Fin 32) : Bool :=
  match (s.rail r).st with
  | .rampUp | .up | .offDelay | .rampDown | .pullIn | .hold => true
  | _ => false

/-- A rail's entry short of v (R187); OV is either detector of R173. -/
def snapRail (s : State) (r : Fin 32) (v : Int) : SnapRail :=
  let x := s.rail r
  let ref := s.refMv r
  let ov := ref + s.get (K.SUP_OV_MARGIN r)
  let uv := if s.uvArmed r then ref - s.get (K.SUP_UV_MARGIN r) else 0
  let lead := s.leadTile r
  let b (k : Nat) (c : Bool) := if c then 2 ^ k else 0
  let stale := (List.finRange 8).any fun t => decide (t.val = lead) && s.tileStale t
  { head := toLE 1 x.st.code ++ toLE 1 (s.healthyMembers r).length ++ toLE 1 (s.activeMembers r).length
    cond := b 2 x.pg + b 3 x.limiting + b 4 x.capped + b 5 x.moving + b 6 x.qualified + b 7 stale
    lead := (sortPhases (s.usableMembers r)).head?
    over_ := (if s.ovArmed r then [ov] else []) ++
      if x.st = .unbuilt then [] else [s.get (K.RAIL_VMAX r) + s.get (K.SUP_OV_MARGIN r)]
    under := if s.uvArmed r then some uv else none
    v := v
    tail := leInt 2 ref ++ leInt 2 (x.ref.target / 1000) ++ leInt 2 ov ++ leInt 2 uv ++ toLE 2 (s.elapsedUs x.dwellFrom) ++
    leInt 4 (s.railCycleI r) ++ leInt 4 (s.railLimit r) ++ toLE 2 (s.elapsedUs x.pglFrom) ++ toLE 1 lead ++ toLE 5 0 }

/-- A phase's entry short of its last sample (R187). -/
def snapPhase (s : State) (p : Fin 56) (smp age : Int) : Option SnapPhase :=
  if !s.phasePresent p then none
  else
    let x := s.phase p
    let rail := match x.rail with | some r => r.val | none => 0xFF
    some {
      head := toLE 1 x.st.code ++ toLE 1 rail ++ toLE 1 x.role.code ++ toLE 1 x.isoReason.code ++ leInt 2 x.duty ++ leInt 2 x.trim ++
        leInt 4 x.iCycle
      tail := leInt 2 (if isBus p then 0 else x.vcf) ++ leInt 2 (x.vbus.getD (s.get (K.PH_VBUS p))) ++ leInt 2 (s.tHot p) ++ toLE 2 (s.phStatus p) ++
        leInt 2 (s.get (K.PH_EVENT p))
      sample := smp
      age := age }

/-- A tile's entry short of its frame's age (R188); the Keeper's own VBUS is that of the power path. -/
def snapTile (s : State) (t : Fin 8) (vbus age at_ : Int) : SnapTile :=
  let frame := (s.tile t).frameAt
  let vbus := if t = 0 then s.get K.PP_VBUS else if frame.isSome then (s.tile t).frameVbus else vbus
  let b (k : Nat) (c : Bool) := if c then 2 ^ k else 0
  let l := s.link t
  let up := decide (l.st = .up)
  let head := b 0 (s.tileFitted t) + b 1 (s.tileFitted t) + b 2 (s.tile t).fenced + b 3 up + b 4 (s.tile t).quenchUp +
    b 5 (decide (t ≠ 0) && s.quenchDown t) + b 6 (decide (t ≠ 0) && s.tileStale t)
  { head := toLE 1 head ++ toLE 3 0 ++ (List.finRange 4).flatMap (fun k => leInt 2 (s.sensorShown t k)) ++ leInt 2 (s.tMax t) ++
      leInt 2 (if t = 0 then 0 else s.get (K.BEAM_TIME_OFFSET t)) ++
      leInt 4 (if t = 0 then s.get K.LEDGER_P_KEEPER else s.get (K.LEDGER_P_TILE (t.val - 1))) ++ leInt 2 vbus
    frame := frame
    age := age
    at_ := at_ }

/-- An AUX output's entry with the output and load of the Keeper's last sample (R184, R188). -/
def snapAux (s : State) (k : Fin 4) (v i : Int) : Bytes :=
  toLE 1 (s.aux k).st.code ++ leInt 1 (s.get (K.AUX_EVENT k)) ++ leInt 2 v ++ leInt 4 i ++
    leInt 4 (s.get (K.AUX_LOSS k)) ++ toLE 4 0

/-- The system entry (R188). -/
def snapSystem (s : State) : Bytes :=
  leInt 4 (s.get K.LEDGER_P_IN) ++ leInt 4 (s.get K.LEDGER_B_IN) ++ leInt 4 (s.get K.LEDGER_P_PKG) ++ leInt 1 (s.get K.LEDGER_SOURCE) ++
    toLE 1 (if s.hasCharger then s.chg.st.code else 0xFF) ++ toLE 1 s.path.st.code ++ toLE 1 0 ++ toLE 2 s.modeFlags ++ toLE 2 s.seqStatus ++
    [0, 1, 2].flatMap (fun k => leInt 2 (s.sensorShown 0 k)) ++ toLE 38 0

/-- A metering point's entry (R188). -/
def snapMp (s : State) (m : Fin 4) : Bytes :=
  let x := s.point m
  toLE 8 (if x.sess = .opened || x.sess = .closing then x.startSeq else 0) ++ toLE 8 x.imp

/-- `n` free values. -/
def freshes (s : State) : Nat → List Int × State
  | 0 => ([], s)
  | n + 1 =>
    let (v, s) := s.fresh
    let (vs, s) := freshes s n
    (v :: vs, s)

/-- What the snapshot freezes (R184). The Keeper's own last 1 µs samples of VBUS, VIN, VBAT and the AUX outputs reach the model by no
command: free values (log 186). -/
def snapCore (s : State) : SnapCore × State :=
  let (fp, s) := s.freshes 112
  let (ft, s) := s.freshes 24
  let (fr, s) := s.freshes 32
  let (fk, s) := s.freshes 11
  let phases := (List.finRange 56).map fun p => s.snapPhase p (fp.getD (2 * p.val) 0) (fp.getD (2 * p.val + 1) 0)
  let tiles := (List.finRange 8).map fun t =>
    s.snapTile t (ft.getD (3 * t.val) 0) (ft.getD (3 * t.val + 1) 0) (ft.getD (3 * t.val + 2) 0)
  let rest := (List.finRange 4).flatMap (fun k => s.snapAux k (fk.getD (2 * k.val) 0) (fk.getD (2 * k.val + 1) 0))
    ++ s.snapSystem ++ (List.finRange 4).flatMap s.snapMp ++ toLE 700 0
  let openMask := ((List.finRange 4).map fun m =>
    if (s.point m).sess = .opened || (s.point m).sess = .closing then 2 ^ m.val else 0).sum
  let stale := (List.finRange 8).any fun t => decide (t ≠ 0) && s.tileStale t
  ({ mode := s.modes.mode.code, rtc := s.oasis.seconds, frac := s.rtcFrac, vhk := s.sup.vhk,
     vbus := unsigned 16 (fk.getD 8 0), vin := unsigned 16 (fk.getD 9 0),
     vbat := unsigned 16 (fk.getD 10 0), openMask := openMask, stale := stale, rails := (List.finRange 32).map fun r => s.snapRail r (fr.getD r.val 0),
     phases := phases, tiles := tiles, rest := rest }, s)

/-- The last sample at or before T of a ring of phase `p`, which the Keeper reads; of a tile whose link is down it holds the last frame,
with `held` the samples of that frame (R184). -/
def sampleIn (s : State) (p : Fin 56) (ring : PhaseSt → List Stamped) (held : TileSt → List Int) (at_ : Nat) : Option Stamped :=
  let t := s.tile (tileOf p)
  if s.tileStale (tileOf p) then
    match t.frameAt, (held t)[p.val % 8]? with
    | some a, some v => some (a, v)
    | _, _ => none
  else (ring (s.phase p)).find? fun x => decide (x.1 ≤ at_)

/-- The last current sample of a phase at or before T. -/
def sampleAt (s : State) (p : Fin 56) (at_ : Nat) : Option Stamped := s.sampleIn p PhaseSt.ring TileSt.frameI at_

/-- A rail's entry with v at the lead tile, the last sample of its sense channel at or before T (R184, R187). -/
def railEntry (s : State) (at_ : Nat) (x : SnapRail) : Bytes :=
  let v := match x.lead.bind fun p => s.sampleIn p PhaseSt.vring TileSt.frameV at_ with
    | some y => y.2
    | none => x.v
  let ov := if x.over_.any fun t => decide (t < v) then 1 else 0
  let uv := match x.under with | some t => if v < t then 2 else 0 | none => 0
  x.head ++ toLE 1 (x.cond + ov + uv) ++ leInt 2 v ++ x.tail

/-- Bytes 12–15 and 26–27 of a phase's entry join the others (R187); ages are in ns. -/
def phaseEntry (s : State) (at_ : Nat) (p : Fin 56) (x : Option SnapPhase) : Bytes :=
  match x, s.sampleAt p at_ with
  | none, _ => toLE 1 0xFE ++ toLE 31 0
  | some x, some (t, v) => x.head ++ leInt 4 v ++ x.tail ++ toLE 2 (10 * (at_ - t)) ++ toLE 4 0
  | some x, none => x.head ++ leInt 4 x.sample ++ x.tail ++ leInt 2 x.age ++ toLE 4 0

/-- A tile's entry with its frame's age at T and beacon time (R188). -/
def tileEntry (at_ : Nat) (x : SnapTile) : Bytes :=
  match x.frame with
  | some t => x.head ++ toLE 2 (10 * (at_ - t)) ++ toLE 8 t
  | none => x.head ++ leInt 2 x.age ++ leInt 8 x.at_

/-- Bytes 128–4,091 of a slot whose trigger instant is T (R184, R186). -/
def snapBody (s : State) (c : SnapCore) (at_ : Nat) : Bytes :=
  c.rails.flatMap (s.railEntry at_) ++ ((List.finRange 56).zip c.phases).flatMap (fun x => s.phaseEntry at_ x.1 x.2)
    ++ c.tiles.flatMap (tileEntry at_) ++ c.rest

/-- The address of snapshot slot `k` (R185, R417). -/
def snapAddr (k : Nat) : Nat := 0x182000 + 4096 * k

/-- The sequence number of the snapshot in slot `k`, if it holds one. -/
def snapSeqOf (s : State) (k : Nat) : Option Nat :=
  if s.readMram (snapAddr k) 6 = [0x53#8, 0x4E#8, 0x41#8, 0x50#8, 0x01#8, 0x00#8] then some (ofLE (s.readMram (snapAddr k + 8) 8)) else none

/-- The slot that a new snapshot takes: an empty one, otherwise the one of the lowest sequence number (R185). -/
def snapSlot (s : State) : Nat :=
  match (List.range 8).find? fun k => (s.snapSeqOf k).isNone with
  | some k => k
  | none => (List.range 8).foldl (fun best k => if (s.snapSeqOf k).getD 0 < (s.snapSeqOf best).getD 0 then k else best) 0

/-- The seal record, bytes 32–63 (R186). -/
def sealRecord (c : SnapCore) (causes stage flags vhkEnd signed duration : Nat) : Bytes :=
  let body := toLE 1 causes ++ toLE 1 stage ++ toLE 1 c.mode ++ toLE 1 flags ++ toLE 2 c.vhk ++ toLE 2 vhkEnd ++ toLE 2 c.vbus ++
    toLE 2 c.vin ++ toLE 2 c.vbat ++ toLE 1 c.openMask ++ toLE 1 signed ++ toLE 4 duration ++ toLE 8 0
  body ++ toLE 4 (crc32 body)

/-- The secondary triggers, bytes 64–127 (R186). -/
def secondaryBytes (ts : List (Nat × Trigger)) : Bytes :=
  (List.range 8).flatMap fun k => match ts[k]? with
    | some (d, t) => toLE 4 d ++ toLE 1 t.code ++ toLE 1 t.kind.code ++ toLE 1 t.index ++ toLE 1 t.tile
    | none => List.replicate 8 0xFF#8

/-- Write a whole slot and return its number (R185, R186). -/
def writeSnap (s : State) (c : SnapCore) (at_ : Nat) (tr : Trigger) (estimated : Bool) (rec : Bytes) (secs : List (Nat × Trigger)) :
    State × Nat :=
  let k := s.snapSlot
  let q := s.getN K.SUP_SNAP_SEQ + 1
  let head := [0x53#8, 0x4E#8, 0x41#8, 0x50#8] ++ toLE 2 1 ++ toLE 2 4096 ++ toLE 8 q ++ toLE 8 at_ ++ toLE 4 c.rtc ++ toLE 1 tr.code ++
    toLE 1 tr.kind.code ++ toLE 1 tr.index ++ toLE 1 (tr.tile + if estimated then 128 else 0)
  let rest := secondaryBytes secs ++ s.snapBody c at_
  let s := s.writeMram (snapAddr k) (head ++ rec ++ rest ++ toLE 4 (crc32 (head ++ rest)))
  (s.put K.SUP_SNAP_SEQ q, k)

/-- A snapshot outside SEAL: manual, or a fault in IDLE (R178, R185, R213). Its seal record shows no cause and no stage. -/
def snapNow (s : State) (tr : Trigger) (manual : Bool) : State :=
  let (c, s) := s.snapCore
  let flags := (if c.stale then 4 else 0) + (if manual then 8 else 0)
  let (s, _) := s.writeSnap c s.now tr false (sealRecord c 0 0 flags 0 0 0) []
  s.raise Ev.sup 1

/-! ### Everything-off (R180, R182) -/

/-- The charger stops switching and is SUSPENDED, with its two events (R239, R250). -/
def chargerStop (s : State) : State :=
  match s.chg.st with
  | .precharge | .fastCc | .fastCv => ((s.modChg fun c => { c with st := .suspended }).raise Ev.chg 2).raise Ev.chg 9
  | _ => s

/-- The ledger's caps, admissions and deferrals fall away with what they stood on. -/
def quenchLedger (s : State) : State :=
  let s := { s with chg := { s.chg with cap := none, fastStop := false },
                    ledger := { s.ledger with constrained := false, caps := Vector.replicate 32 none, fast := Vector.replicate 32 none,
                                              before := Vector.replicate 32 0, committed := [], seenUp := [], highRun := 0,
                                              suspended := false, tripped := false, short := false } }
  ((List.range 32).foldl (fun (s : State) n => s.puts [(K.LEDGER_RAIL_ACTION n, 0), (K.LEDGER_RAIL_CAP n, -1)]) s).put K.LEDGER_CHG_CAP (-1)

/-- Everything-off (R180): every open operation ends and its tag is free at once (R403). It comes with the group and its result where
the trigger is a group's own (R159). -/
def everythingOff (s : State) (own : Option (Fin 16)) (code : GrpResult) : State :=
  let running := s.openTags
  let s := ((s.quenchPhases.quenchGroups own code).quenchRails).quenchAux
  let s := ((s.chargerStop.closeWindow).quenchCommit).quenchDma.quenchLedger
  let s := (running.foldl freeTag s).failAllOps
  (s.driveFog (s.coopBit 0)).driveBell false

/-- `SEAL` cause byte 32 (R186). -/
def causeByte (c : SealCauses) : Nat :=
  (if c.railFault then 1 else 0) + (if c.supplyLoss then 2 else 0) + (if c.hrst then 4 else 0)

/-- `SUP_FAULT_*` show a rail fault (R193). -/
def showFault (s : State) (tr : Trigger) (at_ : Nat) : State :=
  s.puts [(K.SUP_FAULT_CODE, tr.code), (K.SUP_FAULT_KIND, tr.kind.code), (K.SUP_FAULT_INDEX, tr.index), (K.SUP_FAULT_TILE, tr.tile),
    (K.SUP_FAULT_AT, at_)]

/-- A rail fault counts for the rail that is its source (R199). -/
def countRailFault (s : State) (tr : Trigger) : State := if tr.kind = .rail then s.bump (K.SUP_RAIL_FAULTS tr.index) else s

/-- A rail fault is a cause of the running SEAL: FS_PENDING, the quench latch (R182), the latch word (R47, R189), and the counts and
`SUP_FAULT_*` of the fault. Only the first rail fault of a SEAL counts; its rail is counted once the snapshot has settled the source
(R199). -/
def faultCause (s : State) (tr : Trigger) (at_ : Nat) : State :=
  if s.modes.sealCauses.railFault then s
  else
    let s := s.modModes fun x =>
      { x with sealCauses := { x.sealCauses with railFault := true }, fsPending := true, fsLatched := true, fsTimeWritten := false }
    let s := (((s.modSup fun u => { u with latchWritten := true, quenchLatch := true }).put K.FS_CAUSE 0x0D).showFault tr at_).bump
      K.SUP_FAULT_COUNT
    if s.sup.slot.isSome then s.countRailFault tr else s

/-- The trigger of a supply loss or of HRST (R177). -/
def supplyTrigger : Trigger := ⟨0x10, .none, 0xFF, 0⟩
def hrstTrigger : Trigger := ⟨0x11, .none, 0xFF, 0⟩

/-- Which cause a trigger is (R177). -/
def causeOf (tr : Trigger) : Reason := if tr.code = 0x10 then .supplyLoss else if tr.code = 0x11 then .hrst else .railFault

/-- Note a trigger's cause in the running SEAL. -/
def noteCause (s : State) (tr : Trigger) (at_ : Nat) : State :=
  match causeOf tr with
  | .supplyLoss => s.modModes fun x => { x with sealCauses := { x.sealCauses with supplyLoss := true } }
  | .hrst => s.modModes fun x => { x with sealCauses := { x.sealCauses with hrst := true } }
  | _ => s.faultCause tr at_

/-- A trigger takes precedence over another at the same T: the lower tile, then the order of R173 (R183). -/
def outranks (t : Nat) (a : Trigger) (u : Nat) (b : Trigger) : Bool :=
  t < u || (t = u && (a.tile < b.tile || (a.tile = b.tile && a.code < b.code)))

/-- The trigger that takes precedence over the others (R183). -/
def primaryOf : List TrigRec → Option TrigRec
  | [] => none
  | x :: xs => match primaryOf xs with
    | none => some x
    | some y => if outranks y.at_ y.trig x.at_ x.trig then some y else some x

/-- The close reason that a SEAL gives (R281): the cause of its primary trigger, and of causes found at the same T the first in
the bit order of byte 32. -/
def closeReason (xs : List TrigRec) (p : TrigRec) : Nat :=
  let has (w : Reason) := xs.any fun x => decide (x.at_ = p.at_) && decide (causeOf x.trig = w)
  if has .railFault then 3 else if has .supplyLoss then 2 else 4

/-- The rail fault of the running SEAL that takes precedence over its others (R183, R193). -/
def faultSource (s : State) : Option TrigRec := primaryOf (s.sup.triggers.filter fun x => decide (causeOf x.trig = .railFault))

/-- The primary, its T and the secondaries within 2 µs of it follow the triggers of the running SEAL, and with them
`MODE_ENTERED_AT`, `SUP_FAULT_*` and the trigger of a capture (R56, R183, R193, R436). -/
def settleTriggers (s : State) : State :=
  match primaryOf s.sup.triggers with
  | none => s
  | some p =>
    let near := ((s.sup.triggers.erase p).filter fun x => decide (x.at_ ≤ p.at_ + 200)).map fun x => (x.at_ - p.at_, x.trig)
    let s := s.modSup fun u =>
      { u with primary := some p.trig, primaryAt := p.at_, estimated := p.estimated, secondary := near.take 8,
               overflow := decide (8 < near.length), awaitingStamp := u.triggers.any fun x => x.awaiting,
               firstReason := closeReason u.triggers p }
    let s := ((s.modModes fun x => { x with sealStart := p.at_ }).put K.MODE_ENTERED_AT p.at_).mirRetime p.at_
    match s.faultSource with
    | some f => s.showFault f.trig f.at_
    | none => s

/-- A trigger that comes while SEAL runs (R47, R183): an added cause in every case, and until the snapshot is written one of the
triggers among which the primary is found. -/
def laterTrigger (s : State) (tr : Trigger) (stamp : Option Nat) : State :=
  let at_ := stamp.getD (s.now - 15)
  let s := s.noteCause tr at_
  if s.sup.slot.isSome then s
  else (s.modSup fun u => { u with triggers := u.triggers ++ [⟨tr, at_, stamp.isNone, stamp.isNone⟩] }).settleTriggers

/-- The first awaited trigger of a tile takes the tile's stamp. -/
def stampFirst (tile at_ : Nat) : List TrigRec → List TrigRec
  | [] => []
  | x :: xs =>
    if x.awaiting && decide (x.trig.tile = tile) then { x with at_ := at_, estimated := false, awaiting := false } :: xs
    else x :: stampFirst tile at_ xs

/-- The CAN controllers are held in reset (R324). -/
def canReset (s : State) : State :=
  { s with net := { s.net with ports := s.net.ports.map fun p => { p with busOff := false, txErr := 0, rxErr := 0 } } }

/-- SEAL begins at T for a trigger (R45, R180–R189): the snapshot freezes, everything goes off, the mode changes with
`MODE_ENTERED_AT` = T, and step 1 writes the latch word. -/
def beginSeal (s : State) (tr : Trigger) (at_ : Nat) (estimated awaiting : Bool) (own : Option (Fin 16)) (code : GrpResult) : State :=
  let (c, s) := s.snapCore
  let s := s.modSup fun u =>
    { u with triggers := [⟨tr, at_, estimated, awaiting⟩], snap := some c, slot := none, latchWritten := false,
             signedMask := 0, faultReport := false }
  let s := ((s.everythingOff own code).refsDue false).canReset
  let s := s.modModes fun x =>
    { x with sealMode := x.mode, mode := .seal, sealStart := at_, sealDone := false, sealCauses := {}, fsPending := false,
             serviceLeaving := false, waking := none }
  let s := ((s.noteCause tr at_).settleTriggers).mirOff at_
  let s := { s with met := { s.met with frozen := true } }
  let s := s.puts [(K.SUP_SEAL_STAGE, 1), (K.SUP_SEAL_CAUSE, causeByte s.modes.sealCauses)]
  (s.habCheck).raise Ev.mode 0

/-- The modes in which a rail fault leads to SEAL (R45, R182); IDLE while the condition of RAMP or RUN already holds (R43). -/
def faultMode (s : State) : Bool :=
  match s.modes.mode with
  | .ramp | .run | .constrained | .ride | .service => true
  | .idle => s.ramping || s.anyRailLive
  | _ => false

/-- A rail fault (R177): it starts SEAL in the modes of R45, joins a SEAL that runs, and has no effect elsewhere. `stamp`
is T; none where the detecting tile's stamp has still to arrive (R183). -/
def railFault (s : State) (tr : Trigger) (stamp : Option Nat) (own : Option (Fin 16) := none) (code : GrpResult := .quenched) : State :=
  if s.faultMode then s.beginSeal tr (stamp.getD (s.now - 15)) stamp.isNone stamp.isNone own code
  else if s.modes.mode = .seal && !s.modes.heldReset then
    let s := s.laterTrigger tr stamp
    s.put K.SUP_SEAL_CAUSE (causeByte s.modes.sealCauses)
  else s

/-- VIN_BLOCK is held clear where the Keeper does not run, and INFET follows VIN (R222). -/
def unblockVin (s : State) : State := s.modPath fun x => { x with vinBlock := false, infetOn := x.inService && x.vinAbove }

/-- What ends with the Keeper's supply or run: FOG and BELL are released, VIN_BLOCK is held clear (R160, R163, R222). -/
def keeperRest (s : State) : State :=
  (s.unblockVin.driveFog false).driveBell false

/-- The Keeper is held in reset (R48, R191): the cutoff latch that was due is set if VIN is still absent (R229). FOG stays driven
through SEAL (R160). -/
def holdReset (s : State) : State :=
  let s := s.modSup fun u => { u with reportDue := true, faultReport := u.slot.isSome }
  let s := if s.path.cutoffDue && !s.path.inService then
      (s.modPath fun x => { x with cutoff := true }).defer Ev.pp 4
    else s
  ((s.modPath fun x => { x with cutoffDue := false }).modModes fun x => { x with heldReset := true, sealDone := false }).unblockVin.refreshAux

/-- A supply loss or HRST (R45): SEAL from every Keeper-active mode, or an added cause. A supply loss that joins a finished SEAL,
which waits for HRST, holds the Keeper in reset (R45, R48). -/
def supplyEvent (s : State) (tr : Trigger) : State :=
  if s.activeNotSeal then s.beginSeal tr s.now false false none .quenched
  else if s.modes.mode = .seal && !s.modes.heldReset then
    let s := s.laterTrigger tr (some s.now)
    let s := s.put K.SUP_SEAL_CAUSE (causeByte s.modes.sealCauses)
    if s.modes.sealDone && s.modes.sealCauses.supplyLoss then s.holdReset else s
  else s

/-- A supply loss (R45). -/
def supplyLoss (s : State) : State := s.supplyEvent supplyTrigger

/-- A fault in IDLE (R178, R213): a snapshot of what stood at T is written, and the AUX outputs open and stay off; after a thermal
trip `AUX_AUTO` has no effect either until `AUX_EN` is written to 1. -/
def idleFault (s : State) (tr : Trigger) (thermal : Bool) : State :=
  let s := s.snapNow tr false
  ((List.finRange 4).foldl (fun (s : State) (k : Fin 4) =>
    (s.auxOpen k).modAux k fun x => { x with autoOff := true, forcedOff := true, heldOff := x.heldOff || thermal }) s).setVpre

end State
end Sys2Proof.Machine
end

