-- ==== Sys2Proof/Machine/Iso.lean ====
section
/-! DEFINITION. Isolating a phase and fencing a tile (R79–R82, R196, R304). -/

namespace Sys2Proof.Machine
namespace State

/-- The event bit of a reason, beside ISOLATED (R91). -/
def isoEventBit : IsoReason → Option Nat
  | .senseLoss => some 0 | .openPhase => some 1 | .cfFault => some 2 | .prebiasTimeout => some 10 | _ => none

/-- The consequences of the loss of a member for its rail (R80): `wasActive` and `wasHealthy` say what it was, and `clamp` the clamp
before it, which the survivors keep until the Keeper's update (R108). Its last healthy member is a rail fault; otherwise one SHED
member returns, or a spare is commanded. -/
def memberLost (s : State) (r : Fin 32) (wasActive wasHealthy : Bool) (clamp : Int) : State :=
  let s := if wasHealthy then s.modRail r fun x => { x with clampHold := some (clamp, s.now + 100) } else s
  let s := (s.refreshDegraded r).refreshLimiting r
  let last := if wasHealthy then (s.healthyMembers r).isEmpty else (s.usableMembers r).isEmpty
  if last then s.railFault ⟨0x06, .rail, r.val, 0⟩ (some s.now)
  else if wasActive && !(s.restingMembers r).isEmpty then s.returnShed r 1
  else s.commandSpare r

/-- A named spare is isolated: the spare list shortens, SPARES_EXHAUSTED is raised where none remains in SPARE (R97), and where it
was joining the next one is commanded (R81). -/
def spareLost (s : State) (r : Fin 32) (p : Fin 56) (wasJoining : Bool) : State :=
  let s := s.modRail r fun x => { x with spares := x.spares.filter (· ≠ p) }
  let s := s.noteSpares r
  if wasJoining then s.commandSpare r else s

/-- Phase `p` is isolated now for `why` (R79, R82): its switches open, its record is stored unless it was fenced or
non-legal writes are blocked, and its rail goes on under R80. -/
def isolate (s : State) (p : Fin 56) (why : IsoReason) : State :=
  let x := s.phase p
  if x.st = .isolated then s
  else
    let lead := match x.rail with | some r => s.leadTile r | none => 0
    let clamp := match x.rail with | some r => s.clampOf r | none => 0
    let keep := decide (why ≠ .fenced) && !s.modes.holdup
    let s := s.modPhase p fun y =>
      { y.opened .isolated with isoReason := why, isoAt := s.now, stored := if keep then some (why, s.now) else y.stored }
    let s := (s.leftShed p x.st).raise (Ev.phase p) 3
    let s := if x.declared = why then s else match isoEventBit why with | some k => s.raise (Ev.phase p) k | none => s
    let s := s.mirEvent 2 p.val
    match x.rail with
    | none => s
    | some r =>
      let s := s.leadPasses r lead
      if x.role = .spare then s.spareLost r p x.joining
      else if x.role = .member && (s.rail r).st.live then s.memberLost r (decide (x.st = .active)) x.st.healthy clamp
      else s.refreshDegraded r

/-- The tile isolates its own phase, and its notice goes up (R79, R300). -/
def tileIsolates (s : State) (p : Fin 56) (why : IsoReason) : State := (s.isolate p why).ready (tileOf p) true 7

/-- The phases of tile `t` (R7). -/
def tilePhases (t : Fin 8) : List (Fin 56) := (List.finRange 56).filter fun p => decide (tileOf p = t)

/-- Tile `t` is fenced (R25, R196): its phases are ISOLATED at once with reason FENCED, a commit that waits for it is
abandoned, and a Haboob run on its link ends. -/
def fence (s : State) (t : Fin 8) : State :=
  if t = 0 || !s.tileFitted t || (s.tile t).fenced then s
  else
    let s := s.modTile t fun x => { x with fenced := true, quenchUp := false }
    let s := s.modLink t fun l => { l with st := .fenced }
    let s := (s.put K.SUP_FENCED (setBit (s.get K.SUP_FENCED) t.val)).raiseLater Ev.sup 3
    let s := s.fenceCommit t
    let s := if s.get K.HAB_TARGET = (0x10 + t.val : Nat) || s.get K.HAB_TARGET = (0x20 + t.val : Nat) then s.habEnd 5 else s
    s.forPhases ((tilePhases t).filter fun p => s.phasePresent p) fun s p => s.isolate p .fenced

/-- Tile `t`'s link is lost in service (R304): a revoked rail-segment lease, and the fence. -/
def linkLost (s : State) (t : Fin 8) (reason : Nat) : State :=
  if (s.link t).st = .up then
    let s := ((s.put (K.BEAM_LOSS_REASON t) reason).raise Ev.beam 1).leaseRevoked 0
    s.fence t
  else s

end State
end Sys2Proof.Machine
end

