-- ==== Sys2Proof/Machine/Beam.lean ====
section
/-! DEFINITION. The commands of chapter 12: flits, link loss, training, beacon time, cuts and Haboob. -/

namespace Sys2Proof.Machine
namespace State

/-! ### Flits (R300–R305) -/

/-- A tile that finds its down link lost reports it; its phases open at their next cycle edges (R305, `State.cycleEdge`). -/
def downLinkLost (s : State) (t : Fin 8) : State :=
  if (s.link t).st = .up then (s.modLink t fun l => { l with downLost := true }).ready t true 7 else s

/-- The Keeper finds a direction's SEQ failed once more; the fourth time in a row the link is lost (R303, R304), on the tile's
side by its own finding (R305). -/
def flitBad (s : State) (t : Fin 8) (up : Bool) : State :=
  if (s.link t).st ≠ .up then s
  else
    let s := s.linkFailure t up
    if up && 4 ≤ (s.link t).failsUp then s.linkLost t 2
    else if !up && 4 ≤ (s.link t).failsDown then s.downLinkLost t
    else s

/-- The TYPEs of the sequenced flits (R300). -/
def sequencedType (k : Nat) : Bool := [1, 2, 4, 5, 7].contains k

/-- A flit with TYPE `k` and SEQ `seq` fails its CRC (R303). DEDUCED (log 195): while a replay is awaited only that replay fails the
SEQ again; any other failure is counted, and the flit is discarded as it would have been. -/
def damaged (s : State) (t : Fin 8) (up : Bool) (k seq : Nat) : State :=
  let (want, waiting) := s.linkExpects t up
  if !waiting || (sequencedType k && seq = want) then s.flitBad t up
  else if (s.link t).st = .up then s.countFailure t up else s

/-- A flit of 80 bits arrives that its receiver may not deliver (R300, R301, R303): it fails its CRC, or, sequenced, its SEQ while no
replay is awaited. -/
def badFlit (s : State) (t : Fin 8) (up : Bool) (word : Nat) : State :=
  let (want, waiting) := s.linkExpects t up
  if flitCrc word ≠ word / 2 ^ 72 % 256 then s.damaged t up (word / 32 % 8) (word % 32)
  else if sequencedType (word / 32 % 8) && word % 32 ≠ want && !waiting then s.flitBad t up
  else s

/-- Store the measured values that a flit carries. -/
def takeSamples (s : State) (xs : List Sample) : State :=
  xs.foldl (fun (s : State) (x : Sample) => if s.takes x.key then s.put x.key x.value else s) s

/-- The awaited stamp of a detecting tile that reports one arrives (R183, R321): that trigger's T is the stamp, and the triggers are
ordered anew. -/
def takeStamp (s : State) (t : Fin 8) (at_ : Nat) : State :=
  if s.modes.mode = .seal && s.sup.slot.isNone && s.stamps t then
    (s.modSup fun u => { u with triggers := stampFirst t.val at_ u.triggers }).settleTriggers
  else s

/-- An ACKNAK arrives with its payload word, at the Keeper (`up`) or at tile `t` (R300, R303): a NAK has the transmitter there resend
from the SEQ that it names; the fourth NAK of a tile in a row for one SEQ loses the link. -/
def ackNak (s : State) (t : Fin 8) (up : Bool) (payload : Nat) : State :=
  let seq := payload % 32
  let nak := payload.testBit 5
  if (s.link t).st ≠ .up then s
  else if !up then if nak then s.modLink t fun x => { x with txUp := x.txUp.resend seq } else s
  else if nak then
    let l := s.link t
    let run := if l.nakRun ≠ 0 && l.nakSeq = seq then l.nakRun + 1 else 1
    let s := (s.modLink t fun x => { x with nakSeq := seq, nakRun := run, txDown := x.txDown.resend seq }).bump (K.BEAM_REPLAYS t)
    if 4 ≤ run then s.linkLost t 2 else s
  else s.modLink t fun x => { x with nakRun := 0 }

/-- Tile `t`'s acknowledgement of the prepare reaches the Keeper (R362). -/
def ackPrepare (s : State) (t : Fin 8) : State :=
  if s.tileAcks t && s.cfg.phase = .prepared && s.cfg.tiles.testBit t.val then
    s.modCfg fun c => { c with acked := c.acked ||| 2 ^ t.val, ackAt := s.now }
  else s

/-- What a flit does once it is delivered (R300, R303, R304, R310). -/
def deliver (s : State) (t : Fin 8) (up : Bool) : FlitBody → State
  | .status f xs =>
    let s := ((s.takeSamples xs).modTile t fun x =>
      { x with frameAt := some f.at_, frameVbus := f.vbus, frameI := f.currents, frameV := f.volts }).readStatus t
    if 8 ≤ (s.link t).farRun then s.linkLost t 5 else s
  | .sample xs => s.takeSamples xs
  | .time b clocks => s.followTime t b clocks
  | .command xs ack => (if up && ack then s.ackPrepare t else s).takeSamples xs
  | .isolation p why => if tileOf p = t then s.isolate p why else s
  | .stamp at_ => s.takeStamp t at_
  | .linkDown => (s.modLink t fun l => { l with downLost := true }).linkLost t 4
  | .ackNak payload => s.ackNak t up payload

/-- A flit arrives whole: of the sequenced ones the expected SEQ is delivered; another is NAKed, or discarded while a replay is
awaited (R303). -/
def arrive (s : State) (t : Fin 8) (f : Flit) : State :=
  if (s.link t).st ≠ .up then s
  else
    let (want, waiting) := s.linkExpects t f.up
    if f.body.type = 3 then s.deliver t f.up f.body
    else if f.seq = want then (s.linkAccept t f.up).deliver t f.up f.body
    else if waiting then s
    else s.flitBad t f.up

/-- The transmitter of a sequenced flit keeps it (R303). -/
def flitSent (s : State) (t : Fin 8) (f : Flit) : State :=
  if f.body.type = 3 then s
  else s.modLink t fun l => if f.up then { l with txUp := l.txUp.send f } else { l with txDown := l.txDown.send f }

/-- A flit on a link, past Haboob (R315): a selected one is lost, damaged, or held behind the next sequenced one. -/
def flit (s : State) (t : Fin 8) (f : Flit) : State :=
  if (s.link t).st ≠ .up then s
  else
    let s := s.flitSent t f
    let eligible := bitOf (s.get K.HAB_FLIT_TYPES) f.body.type && f.body.type ≠ 6
    let (hit, u) := if eligible then s.habItem ((if f.up then 0x10 else 0x20) + t.val) 72 else (false, s)
    let held := s.hab.held
    if hit then
      if s.get K.HAB_ACTION = 0 then u
      else if s.get K.HAB_ACTION = 4 && held.isNone then u.modHab fun h => { h with held := some (t, f) }
      else u.damaged t f.up f.body.type f.seq
    else
      let u := u.arrive t f
      match held with
      | some (t', g) =>
        if t' = t && g.up = f.up && f.body.type ≠ 3 then (u.modHab fun h => { h with held := none }).arrive t' g else u
      | none => u

/-! ### Training (R306–R308) -/

/-- The attempts of a link: three at BOOT, two at DORMANT exit (R306, R307). -/
def trainAttempts (s : State) : Nat := if s.modes.mode = .boot then 3 else 2

/-- A step of an attempt fails (R306): `BEAM_TRAIN_RESULT` names it. -/
def trainFailed (s : State) (t : Fin 8) (step : Nat) : State :=
  let s := s.put (K.BEAM_TRAIN_RESULT t) step
  let s := if step = 4 then s.raiseLater Ev.beam 3 else s
  s.modLink t fun l => { l with attempts := l.attempts + 1 }

/-- Fence a link that did not train (R25, R307), with BOOT_WARNING for the bit of `BOOT_RESULT` (R57). -/
def trainFence (s : State) (t : Fin 8) : State :=
  let s := ((s.raiseLater Ev.beam 2).put K.BOOT_RESULT (setBit (s.get K.BOOT_RESULT) 2)).raiseLater Ev.mode 5
  s.fence t

/-- A step of a link's attempt fails; after the last attempt the link is fenced (R306, R307). -/
def attemptFailed (s : State) (t : Fin 8) (step : Nat) : State :=
  let s := s.trainFailed t step
  if s.trainAttempts ≤ (s.link t).attempts then s.trainFence t else s

/-- The versions are exchanged (R308): the highest one common to both masks is chosen and confirmed in a COMMAND flit; without one the
attempt fails. The Keeper supports version 1 alone. -/
def exchangeVersions (s : State) (t : Fin 8) (mask : Nat) : State :=
  let s := s.put (K.BEAM_TILE_VERSIONS t) mask
  if mask.testBit 0 then (s.put (K.BEAM_VERSION t) 1).modLink t fun l => { l with txDown := l.txDown.push 5 }
  else (s.put (K.BEAM_VERSION t) 0).attemptFailed t 4

/-- The down delay of 64 round trips of `echoes` and a tile's `turnaround`, all in 0.1 ns (R306). DEDUCED (log 192): the median of an even
number of values is the mean of the two in the middle, how it rounds is free, and the object's range bounds it. -/
def delayDown (echoes : List Nat) (turnaround : Nat) : Int :=
  let xs := echoes.insertionSort (· ≤ ·)
  let n := xs.length
  clampInt 0 65535 (quot (xs.getD ((n - 1) / 2) 0 + xs.getD (n / 2) 0 : Nat) 2 - turnaround - 350)

/-- A link has completed its training (R306, R308): versions, calibration and soak. -/
def linkTrained (s : State) (t : Fin 8) (mask : Nat) (delay : Int) : State :=
  if (s.link t).st ≠ .training then s
  else if !mask.testBit 0 then s.exchangeVersions t mask
  else
    let s := s.puts [(K.BEAM_TILE_VERSIONS t, mask), (K.BEAM_VERSION t, 1), (K.BEAM_TRAIN_RESULT t, 0), (K.BEAM_DELAY_DOWN t, delay)]
    let s := s.modLink t fun l => { l with st := .up, rxUp := 0, rxDown := 0, failsUp := 0, failsDown := 0, waitUp := false,
                                           waitDown := false, nakRun := 0, unacked := 0, unackedDown := 0, replaying := false,
                                           downLost := false, farRun := 0,
                                           txUp := { at_ := 2 * s.now }, txDown := { at_ := 2 * s.now } }
    s.raiseLater Ev.beam 0

/-! ### Haboob (R314–R318) -/

/-- A target that this part does not have (R319). -/
def habAbsent (s : State) (target : Nat) : Bool :=
  if target < 0x40 then !s.tileFitted (target % 16) else target ≥ 0x42 && !s.hasPort 1

/-- A target code of R319. -/
def habTarget (target : Nat) : Bool :=
  (0x11 ≤ target && target ≤ 0x17) || (0x21 ≤ target && target ≤ 0x27) || (0x40 ≤ target && target ≤ 0x43)

/-- A write of `HAB_ARM` (R314, R317, R318), in the order of R354. -/
def writeHabArm (s : State) (acc : Accessor) (v : Nat) : Res :=
  match s.reachWrite acc K.HAB_ARM 1 with
  | .error e => .error e
  | .ok _ =>
    let target := s.getN K.HAB_TARGET
    if v = 0x5A && habTarget target && s.habAbsent target then .error .unitAbsent
    else if v = 0x5A && !s.habAllowed target then .error .debugForbids
    else if !s.installerUp acc then .error .roleDenied
    else if v = 0xA5 then .ok (s.habEnd 2, .done)
    else if v ≠ 0x5A || !habTarget target then .error .outOfRange
    else if s.habArmed then .error .busy
    else if s.sec.lifecycle = .sealed && s.hasMetering && !s.promiseRoom then .error .busy
    else
      let s := (s.puts [(K.HAB_STATE, 1), (K.HAB_COUNT, 0), (K.HAB_SEEN, 0), (K.HAB_DISARM_REASON, 0)]).modHab fun h =>
        { held := h.held, lfsr := s.getN K.HAB_SEED, role := (s.roleOf acc).code, level := s.sec.level.code,
          sealed := decide (s.sec.lifecycle = .sealed) }
      let s := if s.sec.lifecycle = .sealed then s.journalEvent .haboobUse 0xFF (s.habData true) else s
      .ok (s.raise Ev.beam 8, .done)

/-- A write of a Haboob setting (R319). -/
def writeHabSetting (s : State) (acc : Accessor) (key : Nat) (data : Bytes) : Res :=
  match s.reachWrite acc key data.length with
  | .error e => .error e
  | .ok d =>
    let v := d.value data
    if key = K.HAB_TARGET && habTarget v.toNat && s.habAbsent v.toNat then .error .unitAbsent
    else if !s.installerUp acc then .error .roleDenied
    else if !Dict.inRange (Dict.rangeOf d 0 key) v || (key = K.HAB_TARGET && !habTarget v.toNat) then .error .outOfRange
    else if s.habArmed then .error .busy
    else .ok (s.put key v, .done)

/-! ### Beacon time (R309, R313) -/

/-- `CAP_PHASES_USABLE` (R370). -/
def phasesUsable (s : State) : Nat :=
  ((List.finRange 56).map fun (p : Fin 56) => if s.phasePresent p && (s.phase p).st ≠ .isolated then 2 ^ p.val else 0).sum

/-- `CAP_TILES_USABLE` (R370): tile 0, and the tiles that are present, trained and not fenced. -/
def tilesUsable (s : State) : Nat :=
  1 + ((List.finRange 8).map fun (t : Fin 8) =>
    if t ≠ 0 && s.tileFitted t && (s.link t).st = .up && !(s.tile t).fenced then 2 ^ t.val else 0).sum

/-- What a cut publishes: the tick-refreshed objects as they stand (R313), the units that are usable (R370) and which links replay
(R320). -/
def publishCut (s : State) : State :=
  let s := s.puts [(K.CAP_TILES_USABLE, s.tilesUsable), (K.CAP_PHASES_USABLE, s.phasesUsable)]
  { s with links := s.links.map fun l => { l with replaying := l.inReplay }, published := s.objs.filter fun kv => onCut kv.1 }

/-- The Keeper runs, or comes out of DORMANT (R51). -/
def keeperClocked (s : State) : Bool := s.keeperRuns || (decide (s.modes.mode = .dormant) && s.modes.waking.isSome && !s.modes.heldReset)

/-- The crystal is lost in service (R275, R309), in SEAL and at a DORMANT exit too. -/
def crystalLoss (s : State) : State :=
  if s.keeperClocked && s.get K.TB_SOURCE = 0 then ((s.put K.TB_SOURCE 1).raiseLater Ev.beam 7).clockFault else s

end State

/-! ### The commands -/

/-- FLIT_STATUS (R184, R310): the tile's status frame and its time error. -/
def execFlitStatus (t : Fin 8) (seq : Nat) (frame : TileFrame) (samples : List Sample) (s : State) : Out :=
  .next (s.flit t ⟨true, seq, .status frame samples⟩)

/-- FLIT_SAMPLE (R313). -/
def execFlitSample (t : Fin 8) (seq : Nat) (samples : List Sample) (s : State) : Out := .next (s.flit t ⟨true, seq, .sample samples⟩)

/-- FLIT_ACKNAK (R300, R303): at the Keeper from tile `t`, or at tile `t`, with its payload word. -/
def execFlitAcknak (t : Fin 8) (up : Bool) (payload : Nat) (s : State) : Out := .next (s.flit t ⟨up, 0, .ackNak payload⟩)

/-- FLIT_TIME (R310): at tile `t`, carrying `b`, `clocks` Lantern clocks after the last one. -/
def execFlitTime (t : Fin 8) (seq b clocks : Nat) (s : State) : Out := .next (s.flit t ⟨false, seq, .time b clocks⟩)

/-- FLIT_COMMAND (R300): upwards, an acknowledgement of a commit's prepare (R362) or values; downwards, settings and
averages that the tile holds from then on. -/
def execFlitCommand (t : Fin 8) (up : Bool) (seq : Nat) (ack : Bool) (samples : List Sample) (s : State) : Out :=
  .next (s.flit t ⟨up, seq, .command samples ack⟩)

/-- FLIT_TRAIN (R306, R308): a training pattern, marker or echo; the training begins, the tile's version mask arrives in step 4, or a
step of an attempt fails. -/
def execFlitTrain (t : Fin 8) (mask : Option Nat) (failedStep : Option (Fin 7)) (s : State) : Out :=
  .next <|
    if !s.keeperClocked || t = 0 || !s.tileFitted t || (s.tile t).fenced then s
    else match (s.link t).st, mask, failedStep with
      | .idle, _, _ => s.beginTraining t
      | .training, some m, _ => s.exchangeVersions t m
      | .training, none, some k => if k = 0 then s else s.attemptFailed t k.val
      | _, _, _ => s

/-- FLIT_URGENT (R300): an isolation notice, a trigger stamp, or a LINK_DOWN report. -/
def execFlitUrgent (t : Fin 8) (seq : Nat) (body : UrgentBody) (s : State) : Out :=
  .next <| match body with
    | .isolation p why => s.flit t ⟨true, seq, .isolation p why⟩
    | .stamp at_ => s.flit t ⟨true, seq, .stamp at_⟩
    | .linkDown => s.flit t ⟨true, seq, .linkDown⟩

/-- FLIT_BAD (R303): the 80 bits of a flit that fails its CRC or its SEQ in a direction. -/
def execFlitBad (t : Fin 8) (up : Bool) (word : Nat) (s : State) : Out := .next (s.badFlit t up word)

/-- ACK_TIMER (R303): 200 ns without an acknowledgement at the Keeper, or at tile `t`: it acknowledges what it has received. -/
def execAckTimer (t : Fin 8) (atTile : Bool) (s : State) : Out := .next (s.acknowledge t (!atTile) false)

/-- LINK_SILENT (R304). -/
def execLinkSilent (t : Fin 8) (s : State) : Out := .next (s.linkLost t 1)

/-- LINK_CLOCK_LOST (R304). -/
def execLinkClockLost (t : Fin 8) (s : State) : Out := .next (s.linkLost t 3)

/-- DOWN_LINK_LOST (R305). -/
def execDownLinkLost (t : Fin 8) (s : State) : Out := .next (s.downLinkLost t)

/-- LINK_TRAINED (R306, R308): with the tile's version mask, the round trips of its calibration and its turnaround in 0.1 ns. -/
def execLinkTrained (t : Fin 8) (mask : Nat) (echoes : List Nat) (turnaround : Nat) (s : State) : Out :=
  .next (s.linkTrained t mask (State.delayDown echoes turnaround))

/-- TRAINING_DEADLINE (R306): a link that is not up is fenced; a running attempt ends at `step`. -/
def execTrainingDeadline (t : Fin 8) (step : Fin 7) (s : State) : Out :=
  .next (if (s.link t).st = .training then
    (s.put (K.BEAM_TRAIN_RESULT t) (max 1 step.val : Nat)).trainFence t else s)

/-- TIME_FLIT_TICK (R310): on each 10 µs-aligned tick the Keeper sends TIME down every link; what arrives is FLIT_TIME. -/
def execTimeFlitTick (s : State) : Out :=
  .next (if s.keeperRuns then (s.timeTo ((s.now / 1000 + 1) * 1000)).readyAll false 4 fun _ => true else s)

/-- CRYSTAL_LOSS (R309). -/
def execCrystalLoss (s : State) : Out := .next s.crystalLoss

/-- HAB_ARM_CMD (R314). -/
def execHabArmCmd (acc : Accessor) (s : State) : Out := .next (s.access acc fun s => s.writeHabArm acc 0x5A)

/-- HAB_DISARM_CMD (R317). -/
def execHabDisarmCmd (acc : Accessor) (s : State) : Out := .next (s.access acc fun s => s.writeHabArm acc 0xA5)

/-- Read `BEAM_TIME_OFFSET_MAX` of tile `t`: the read restarts it (R319). -/
def State.readOffsetMax (s : State) (acc : Accessor) (t : Fin 8) : Res :=
  match s.reach acc (K.BEAM_TIME_OFFSET_MAX t) with
  | .error e => .error e
  | .ok d =>
    if !s.debugAllows acc false (K.BEAM_TIME_OFFSET_MAX t) then .error .debugForbids
    else .ok (s.restart (K.BEAM_TIME_OFFSET_MAX t), .data (d.bytes (s.cutValue (K.BEAM_TIME_OFFSET_MAX t))))

/-- BEAM_TIME_OFFSET_MAX_READ (R319). -/
def execBeamTimeOffsetMaxRead (acc : Accessor) (t : Fin 8) (s : State) : Out := .next (s.access acc fun s => s.readOffsetMax acc t)

end Sys2Proof.Machine
end

