-- ==== Sys2Proof/Machine/Otp.lean ====
section
/-! DEFINITION. Programming the OTP array, the lifecycle, and the debug port: the commands of chapter 18. -/

namespace Sys2Proof.Machine
namespace State

/-- Carry out an access whose refusal may itself change the machine: a failed proof is counted, a check's result is shown. -/
def accessBoth (s : State) (acc : Accessor) (f : State → State × Answer) : State :=
  if s.portsOpen then
    let (t, a) := f s
    match a with
    | .abort .operationsFull => { t.countFull with answer := a }
    | _ => { t with answer := a }
  else s.access acc fun _ => .error .modeForbids

/-! ### The window (R447) -/

/-- The readings of the valid Keeper sensors, in 0.01 °C. -/
def keeperReadings (s : State) : List Int :=
  s.validReadings 0

/-- Twice the median of a list of at most three readings. -/
def twiceMedian (xs : List Int) : Option Int :=
  match xs with
  | [] => none
  | [a] => some (2 * a)
  | [a, b] => some (a + b)
  | a :: b :: c :: _ => some (2 * (a + b + c - max a (max b c) - min a (min b c)))

/-- T_K permits programming: −20.00 to 85.00 °C (R447). -/
def programTemp (s : State) : Bool :=
  match twiceMedian s.keeperReadings with
  | some m => decide (-4000 ≤ m) && decide (m ≤ 17000)
  | none => false

/-- The seed of a RETURNED part is destroyed: every bit and check bit of rows 80–83 is 1 (R460). -/
def destroySeed (s : State) : State :=
  let s := (List.range 4).foldl (fun (s : State) k => s.setOtpRow (80 + k) ⟨2 ^ 64 - 1, 255⟩) s
  (s.modSec fun x => { x with seedDue := false, key := none }).raise Ev.sec 6

/-- A write of `OTP_WINDOW` (R447). -/
def writeOtpWindow (s : State) (acc : Accessor) (v : Nat) : Res :=
  match s.reachWrite acc K.OTP_WINDOW 1 with
  | .error e => .error e
  | .ok _ =>
    if !s.installerUp acc then .error .roleDenied
    else if v = 0xA5 then .ok (s.closeWindow, .done)
    else if v = 0x5A && (!(s.idleCond || s.modes.mode = .service) || s.anyRailLive || s.modes.holdup || !s.otp.vqpsOk || !s.programTemp) then
      .error .modeForbids
    else if v ≠ 0x5A then .error .outOfRange
    else if s.otp.window then .error .busy
    else
      let s := (s.modOtp fun o => { o with window := true }).raise Ev.sec 0
      .ok (if s.sec.seedDue then s.destroySeed else s, .done)

/-! ### Burning a row (R445, R448–R451) -/

/-- What stands against programming a row: the lifecycle, or the role (R445). -/
def rowBarred (s : State) (acc : Accessor) (r : Nat) : Option Abort :=
  let lc := s.sec.lifecycle
  let vendor := s.roleOf acc = .vendor
  let none' : Option Abort := none
  if r < 3 || r = 8 || r = 9 then
    if lc ≠ .blank then some .sealed else if !vendor then some .roleDenied else none'
  else if 10 ≤ r && r < 64 then
    if lc ≠ .blank && lc ≠ .returned then some .sealed else if !vendor then some .roleDenied else none'
  else if (72 ≤ r && r < 80) || (96 ≤ r && r < 1008) then
    if lc ≠ .blank && lc ≠ .opened then some .sealed else if !s.installerUp acc then some .roleDenied else none'
  else some .roleDenied

/-- The content that a value gives a row: an ECC row carries its check bits (R444). -/
def rowValue (r v : Nat) : OtpRow := if otpVoted r then ⟨v, 0⟩ else eccRow v

/-- Every bit already set is also set in the new value (R448). -/
def completes (old new : OtpRow) : Bool := decide (old.data &&& new.data = old.data) && decide (old.check &&& new.check = old.check)

/-- A write of `OTP_DATA` (R448): a tagged burn. One burn runs at a time. -/
def writeOtpData (s : State) (acc : Accessor) (v : Nat) : Res :=
  match s.reachWrite acc K.OTP_DATA 8 with
  | .error e => .error e
  | .ok _ =>
    let r := s.otp.rowSel[holderPlace (holderOf acc)]
    match s.rowBarred acc r with
    | some e => .error e
    | none =>
      if !s.otp.window then .error .modeForbids
      else if !completes (s.otpRow r) (rowValue r v) then .error .outOfRange
      else if s.otp.burn.isSome || s.sec.transition.isSome then .error .busy
      else s.withTag acc .otp K.OTP_DATA fun s t =>
        (s.modOtp fun o => { o with burn := some (.row r (rowValue r v)), burnTag := some t }).put K.OTP_TAG t

/-- A write of `OTP_REBURN` (R451). -/
def writeOtpReburn (s : State) (acc : Accessor) (v : Nat) : Res :=
  match s.reachWrite acc K.OTP_REBURN 1 with
  | .error e => .error e
  | .ok _ =>
    if !s.installerUp acc then .error .roleDenied
    else if v = 0x5A && !s.otp.window then .error .modeForbids
    else if v ≠ 0x5A then .error .outOfRange
    else if s.otp.burn.isSome || s.sec.transition.isSome then .error .busy
    else s.withTag acc .otp K.OTP_REBURN fun s t =>
      (s.modOtp fun o => { o with burn := some .reburn, burnTag := some t }).put K.OTP_TAG t

/-- Count re-pulsed weak bits, reported once per row (R449). -/
def weakBits (s : State) (n : Nat) : State :=
  if n = 0 then s
  else
    let (s, sat) := s.addSat K.OTP_WEAK_BITS n
    let s := s.raise Ev.sec 2
    if sat then s.raise Ev.sec 10 else s

/-- The margin reference m of R449 at the median T_K of the valid Keeper readings (R215), 20 to 40 % of the read window, in units of
0.001 %. With no valid reading T_K is not given, and m is a free value of its range. -/
def marginRef (s : State) : Int × State :=
  match twiceMedian s.keeperReadings with
  | some t => (max 20000 (min 40000 (35000 - t)), s)
  | none => let (v, s) := s.fresh; (20000 + v % 20001, s)

/-- The attempts of R449 at margin `m`, `n` of them left: the weak bits pulsed again, and whether the row passes. -/
def verifyRow (m : Int) : Nat → RowReads → Nat × Bool
  | 0, _ => (0, false)
  | n + 1, reads =>
    let levels := reads.headD []
    if levels.all fun l => decide (m ≤ l) then (0, true)
    else if n = 0 then (0, false)
    else
      let (w, ok) := verifyRow m n reads.tail
      (levels.countP (fun l => decide (0 ≤ l) && decide (l < m)) + w, ok)

/-- The bits of a new content that a row lacks, in ascending order, the check bits from 64 on (R448, R449). -/
def newBits (old new : OtpRow) : List Nat :=
  (List.range 72).filter fun k =>
    if k < 64 then new.data.testBit k && !old.data.testBit k else new.check.testBit (k - 64) && !old.check.testBit (k - 64)

/-- The reads of the first `n` bits of a row. -/
def readsOf (rep : BurnReport) (r n : Nat) : RowReads :=
  match rep.rows.find? fun x => x.1 = r with
  | some x => x.2.map fun levels => levels.take n
  | none => []

/-- Verify a row that is burned (R449): the weak bits count, and it passes or not. -/
def checkRow (s : State) (m : Int) (reads : RowReads) : State × Bool :=
  let (w, ok) := verifyRow m 4 reads
  (s.weakBits w, ok)

/-- What a row holds of its new bits when verification has given up: those that read 1 at the normal reference (R449). -/
def burnLeft (old new : OtpRow) (reads : RowReads) : OtpRow :=
  let levels := (reads.drop 3).headD []
  let held := ((newBits old new).zipIdx.filter fun x => decide (0 ≤ levels.getD x.2 0)).map fun x => 2 ^ x.1
  burnPart old new held.sum

/-- Remap a logical row to the lowest free spare and burn the spare map (R450). -/
def remapRow (s : State) (r : Nat) : State :=
  let k := s.otp.spares.length
  let word := (r + 2 ^ 15) * 2 ^ (16 * (k % 4))
  let s := s.modOtp fun o => { o with spares := o.spares ++ [r] }
  let s := (List.range 3).foldl (fun (s : State) copy =>
    let row := 1008 + 4 * copy + k / 4
    s.setOtpRow row ⟨(s.otpRow row).data ||| word, 0⟩) s
  s.raise Ev.sec 3

/-- Remap row `r` to the lowest free spare, which is verified in its turn (R450): no where none is free or the spare fails. -/
def remapChecked (s : State) (m : Int) (r : Nat) (reads : RowReads) : State × Bool :=
  if 16 ≤ s.otp.spares.length then (s, false)
  else
    let (s, ok) := s.checkRow m (reads.map fun levels => levels.take 72)
    if ok then (s.remapRow r, true) else (s, false)

/-- A burn ends with `OTP_RESULT` and its tag (R448, R451). -/
def endBurn (s : State) (result : Nat) (st : OpStatus) : State :=
  ((s.modOtp fun o => { o with burn := none, burnTag := none }).put K.OTP_RESULT result).finish? s.otp.burnTag st

/-- The burn of one row ends (R449, R450). -/
def rowDone (s : State) (rep : BurnReport) (r : Nat) (v : OtpRow) : State :=
  let (m, s) := s.marginRef
  let old := s.otpRow r
  let reads := readsOf rep r (newBits old v).length
  let (s, ok) := s.checkRow m reads
  if ok then (s.setOtpRow r v).endBurn 0 .completed
  else if otpVoted r then (s.setOtpRow r (burnLeft old v reads)).endBurn 3 .failed
  else
    let (t, ok) := s.remapChecked m r (rep.spares.headD [])
    if ok then (t.setOtpRow r v).endBurn 0 .completed else (t.setOtpRow r (burnLeft old v reads)).endBurn 2 .failed

/-- A reburn verifies the programmed rows, remaps those of ECC rows that fail, and stops where no spare serves; `n` are remapped so far
(R451). -/
def reburnRows (m : Int) : List Nat → BurnReport → Nat → State → State
  | [], _, n, s => s.endBurn n .completed
  | r :: rs, rep, n, s =>
    let (s, ok) := s.checkRow m (readsOf rep r 72)
    if ok || otpVoted r then reburnRows m rs rep n s
    else
      let (s, ok) := s.remapChecked m r (rep.spares.getD n [])
      if ok then reburnRows m rs rep (n + 1) s else s.endBurn 2 .failed

/-- The end of a burn (R449–R451). -/
def burnDone (s : State) (rep : BurnReport) : State :=
  match s.otp.burn with
  | none => s
  | some .reburn =>
    let (m, s) := s.marginRef
    reburnRows m ((List.range 1024).filter fun r => s.otpProgrammed r && (rep.rows.any fun x => x.1 = r)) rep 0 s
  | some (.row r v) => s.rowDone rep r v

/-! ### The debug level (R463–R466) -/

/-- The matrix permits SERVICE (R466). -/
def serviceAllowed (s : State) : Bool := s.sec.lifecycle ≠ .sealed || s.sec.level = .control

/-- Change the debug level (R463, R464): DEBUG_LEVEL is raised; a SERVICE or a Haboob run that it no longer permits ends. -/
def setLevel (s : State) (l : DbgLevel) : State :=
  if s.sec.level = l then s
  else
    let s := ((s.modSec fun x => { x with level := l }).raiseLater Ev.sec 7).habCheck
    if s.serviceAllowed then s else s.leaveService

/-- The proof that a level needs (R463): `none` where it is not available, otherwise the role to prove, if any. -/
def levelProof (s : State) (l : DbgLevel) : Option (Option Role) :=
  match s.sec.lifecycle, l with
  | .blank, .vendor => some (some .vendor)
  | .blank, _ => some none
  | .opened, .vendor => none
  | .opened, .control => if s.net.pwHash.isSome then some (some .installer) else some none
  | .opened, _ => some none
  | .sealed, .vendor => none
  | .sealed, .none => some none
  | .sealed, _ => some (some .installer)
  | .returned, .control => some (some .vendor)
  | .returned, .vendor => some (some .vendor)
  | .returned, _ => some none

/-- Check the stored debug proof for a role: whether it passes, and whether a failure counts (R340, R457, R463). -/
def debugProof (s : State) (role : Role) (nonce : Bytes) : Bool × Bool :=
  if role = .installer then
    let ok := s.hmacCheck nonce s.sec.dbgProof 0xFF 0
    (ok, !ok)
  else
    let c := s.tokenCheck role s.sec.dbgProof nonce
    (decide (c = 0), decide (1 ≤ c) && decide (c ≤ 3))

/-- A write of `DBG_LEVEL_REQ` (R463). -/
def writeLevelReq (s : State) (acc : Accessor) (v : Nat) : State × Answer :=
  let codes : List DbgLevel := [.none, .observe, .control, .vendor]
  match s.reach acc K.DBG_LEVEL_REQ with
  | .error e => (s, .abort e)
  | .ok _ =>
    if acc ≠ .debug then (s, .abort .debugForbids)
    else match codes[v]? with
      | none => (s, .abort .outOfRange)
      | some l =>
        if l.code ≤ s.sec.level.code then (s.setLevel l, .done)
        else match s.levelProof l with
          | none => (s, .abort .debugForbids)
          | some none => (s.setLevel l, .done)
          | some (some role) =>
            match s.sec.dbgNonce with
            | none => (s, .abort .roleDenied)
            | some n =>
              if s.lockedOut role || n.at_ + 1000000000 < s.now then (s, .abort .roleDenied)
              else
                let (ok, counts) := s.debugProof role n.bytes
                let s := s.modSec fun x => { x with dbgNonce := none }
                if ok then ((s.authGranted role).setLevel l, .done)
                else (if counts then s.authFailed role else s, .abort .roleDenied)

/-- A read of `DBG_CHALLENGE` (R463). DESIGN CHOICE (log 158): without a random number it answers BUSY. -/
def readChallenge (s : State) (acc : Accessor) : Res :=
  match s.reach acc K.DBG_CHALLENGE with
  | .error e => .error e
  | .ok _ =>
    if acc ≠ .debug then .error .debugForbids
    else match s.drawRandom 16 with
      | (some bs, s) => .ok (s.modSec fun x => { x with dbgNonce := some ⟨bs, s.now⟩ }, .data bs)
      | (none, s) => .ok (s, .abort .busy)

/-- A write of `DBG_PROOF` (R463). -/
def writeProof (s : State) (acc : Accessor) (data : Bytes) : Res :=
  match s.reach acc K.DBG_PROOF with
  | .error e => .error e
  | .ok _ =>
    if data.length ≠ 32 && data.length ≠ 100 then .error .typeMismatch
    else if acc ≠ .debug then .error .debugForbids
    else .ok (s.modSec fun x => { x with dbgProof := data }, .done)

/-- A write of `DBG_HALT` (R466). -/
def writeHalt (s : State) (acc : Accessor) (v : Nat) : Res :=
  match s.reachWrite acc K.DBG_HALT 1 with
  | .error e => .error e
  | .ok _ =>
    let cell := (s.sec.lifecycle = .blank || s.sec.lifecycle = .returned) && s.sec.level = .vendor &&
      (s.idleCond || s.modes.mode = .failsafe || s.modes.mode = .service)
    if v = 1 && !cell then .error .debugForbids
    else if v = 1 && s.anyRailLive then .error .busy
    else if 1 < v then .error .outOfRange
    else .ok (s.modSec fun x => { x with halted := decide (v = 1) }, .done)

/-! ### The lifecycle (R458–R461) -/

/-- The state that a target code of `LC_ADVANCE` names, where the present state permits it (R458). -/
def lcTarget (s : State) (v : Nat) : Option Lifecycle :=
  match s.sec.lifecycle, v with
  | .blank, 2 => some .opened
  | .opened, 3 => some .sealed
  | .opened, 4 => some .returned
  | .sealed, 4 => some .returned
  | _, _ => none

/-- The R340 code of the return token's check (R459, R461). -/
def returnCheck (s : State) : Nat :=
  match s.sec.returnNonce with
  | some n => s.tokenCheck .vendor s.sec.returnToken n
  | none => 6

/-- The conditions of R459 on the part's content. -/
def lcReady (s : State) (target : Lifecycle) : Bool :=
  match target with
  | .opened => s.otpProgrammed 0 && s.otpProgrammed 1 && s.otpProgrammed 2 && s.otpProgrammed 8 && s.otpProgrammed 9
  | .sealed => s.net.pwHash.isSome && s.oasis.valid &&
      (!s.hasMetering || (s.metroKey.isSome && (List.finRange 4).all fun m => !s.flag (K.MP_EN m) || !s.uncalibrated m))
  | _ => true

/-- A write of `LC_ADVANCE` (R458, R459); BUSY where BLANK → OPEN needs a seed and gets no random number (R455). A return token that
is checked shows its result although the write is refused. -/
def writeAdvance (s : State) (acc : Accessor) (v : Nat) : State × Answer :=
  match s.reachWrite acc K.LC_ADVANCE 1 with
  | .error e => (s, .abort e)
  | .ok _ =>
    let target := s.lcTarget v
    let roleOk := if v = 2 then s.roleOf acc = .vendor else s.installerUp acc
    let code := if target = some .returned && roleOk then s.returnCheck else 0
    let s := if target = some .returned && roleOk then s.put K.LC_RESULT code else s
    if !roleOk || code ≠ 0 then (s, .abort .roleDenied)
    else if !s.otp.window || s.sessionOpen then (s, .abort .modeForbids)
    else match target with
      | none => (s, .abort .outOfRange)
      | some l =>
        if s.otp.burn.isSome || s.sec.transition.isSome || (s.hasMetering && !s.promiseRoom) then (s, .abort .busy)
        else match s.allocTag .lifecycle (s.issuerOf acc) K.LC_ADVANCE with
          | none => (s, .abort .operationsFull)
          | some (u, t) =>
            if !s.lcReady l then (s, .abort .stagedConflict)
            else if l = .opened && !s.sec.rngOk then (s.raise Ev.sec 9, .abort .busy)
            else
              let hash := if l = .returned then (sha256 s.sec.returnToken).take 16 else List.replicate 16 0#8
              let data := toLE 1 s.sec.lifecycle.code ++ toLE 1 l.code ++ toLE 1 (s.roleOf acc).code ++ toLE 1 0 ++ hash
              let u := (u.journalEvent .lifecycle 0xFF data).put K.LC_TAG t
              (u.modSec fun x => { x with transition := some ⟨l, t⟩ }, .tag t)

/-- Burn a run of ECC rows with the words of a run of bytes. -/
def burnWords (s : State) (lo n : Nat) (bs : Bytes) : State :=
  ((rowWords bs n).zipIdx).foldl (fun (s : State) (w, k) => s.setOtpRow (lo + k) (eccRow w)) s

/-- The steps of R460 from the burn of the lifecycle field on; at BLANK → OPEN Seif first draws and burns the seed (R458). -/
def transitionDone (s : State) : State :=
  match s.sec.transition with
  | none => s
  | some tr =>
    let s := if tr.target = .opened then
        let (seed, s) := s.random 32
        let s := s.burnWords 80 4 seed
        let key := deriveKey seed (s.otpRow 8).data
        (s.modSec fun x => { x with key := key }).burnWords 84 8 (ecdsaPublicKey (key.getD []))
      else s
    let field := 255 * 2 ^ (8 * (tr.target.code - 2))
    let s := (List.range 3).foldl (fun (s : State) k => s.setOtpRow (3 + k) ⟨(s.otpRow (3 + k)).data ||| field, 0⟩) s
    let s := if tr.target = .returned then s.destroySeed else s
    let s := s.modSec fun x => { x with lifecycle := tr.target, transition := none, returnNonce := none }
    let s := s.modNet fun n => { n with partners := n.partners.map fun p => p.map fun q => { q with role := .peer } }
    let s := (s.endUnlocks fun _ => true).setLevel .none
    (((s.habEnd 3).closeWindow).raise Ev.sec 5).finish tr.tag .completed

/-- A read of `LC_RETURN_NONCE` (R461). DESIGN CHOICE (log 158): without a random number it answers BUSY. -/
def readReturnNonce (s : State) (acc : Accessor) : Res :=
  match s.reach acc K.LC_RETURN_NONCE with
  | .error e => .error e
  | .ok _ =>
    if !s.debugAllows acc false K.LC_RETURN_NONCE then .error .debugForbids
    else match s.drawRandom 16 with
      | (some bs, s) => .ok (s.modSec fun x => { x with returnNonce := some bs }, .data bs)
      | (none, s) => .ok (s, .abort .busy)

/-- A write of `MRAM_PW_RESET` (R421). -/
def writePwReset (s : State) (acc : Accessor) (v : Nat) : Res :=
  match s.reachWrite acc K.MRAM_PW_RESET 1 with
  | .error e => .error e
  | .ok _ =>
    let user (a : Int) (n : Nat) : Bool := regionOf a n = some (.part 6) || regionOf a n = some (.part 7)
    let names := (List.finRange 8).any fun c =>
      let d := s.desc c
      decide ((s.channel c).st = .running) && decide (6 ≤ c.val) &&
        (user d.src d.size || user d.dst d.size || (d.store && user d.checkAddr 4))
    if !s.installerUp acc then .error .roleDenied
    else if s.modes.mode ≠ .service then .error .modeForbids
    else if v ≠ 0x5A then .error .outOfRange
    else if names || s.modes.holdup then .error .busy
    else
      let s := s.eraseMram 0x19D000 0x10000
      .ok (s.modNvm fun n => { n with pws := Vector.replicate 4 {}, unlocks := [] }, .done)

end State

/-! ### The commands -/

/-- OTP_WINDOW_OPEN (R447). -/
def execOtpWindowOpen (acc : Accessor) (s : State) : Out := .next (s.access acc fun s => s.writeOtpWindow acc 0x5A)

/-- OTP_WINDOW_CLOSE (R447). -/
def execOtpWindowClose (acc : Accessor) (s : State) : Out := .next (s.access acc fun s => s.writeOtpWindow acc 0xA5)

/-- OTP_WINDOW_IDLE (R447). -/
def execOtpWindowIdle (s : State) : Out := .next s.closeWindow

/-- VQPS_LEFT_WINDOW (R447). -/
def execVqpsLeftWindow (s : State) : Out := .next ((s.modOtp fun o => { o with vqpsOk := false, vqpsLeft := true }).closeWindow)

/-- OTP_DATA_WRITE (R448). -/
def execOtpDataWrite (acc : Accessor) (v : Nat) (s : State) : Out := .next (s.access acc fun s => s.writeOtpData acc v)

/-- OTP_BURN_DONE (R449–R451). -/
def execOtpBurnDone (rep : BurnReport) (s : State) : Out := .next (s.burnDone rep)

/-- OTP_REBURN (R451). -/
def execOtpReburn (acc : Accessor) (s : State) : Out := .next (s.access acc fun s => s.writeOtpReburn acc 0x5A)

/-- LC_ADVANCE (R458); `rng` is the health test of the generator at it (R455). -/
def execLcAdvance (acc : Accessor) (target : Nat) (rng : Bool) (s : State) : Out :=
  .next (s.accessBoth acc fun s => (s.rngTested rng).writeAdvance acc target)

/-- LIFECYCLE_TRANSITION_DONE (R460). -/
def execLifecycleTransitionDone (s : State) : Out := .next s.transitionDone

/-- LC_RETURN_NONCE (R461); `rng` is the health test of the generator at it (R455). -/
def execLcReturnNonce (acc : Accessor) (rng : Bool) (s : State) : Out :=
  .next (s.access acc fun s => (s.rngTested rng).readReturnNonce acc)

/-- DBG_CHALLENGE (R463); `rng` is the health test of the generator at it (R455). -/
def execDbgChallenge (acc : Accessor) (rng : Bool) (s : State) : Out :=
  .next (s.access acc fun s => (s.rngTested rng).readChallenge acc)

/-- DBG_PROOF (R463). -/
def execDbgProof (acc : Accessor) (data : Bytes) (s : State) : Out := .next (s.access acc fun s => s.writeProof acc data)

/-- DBG_LEVEL_REQ (R463). -/
def execDbgLevelReq (acc : Accessor) (level : Nat) (s : State) : Out := .next (s.accessBoth acc fun s => s.writeLevelReq acc level)

/-- DBG_HALT_CMD (R466). -/
def execDbgHaltCmd (acc : Accessor) (s : State) : Out := .next (s.access acc fun s => s.writeHalt acc 1)

/-- DBG_RESUME_CMD (R466). -/
def execDbgResumeCmd (acc : Accessor) (s : State) : Out := .next (s.access acc fun s => s.writeHalt acc 0)

/-- DEBUG_IDLE_TIMEOUT (R464). -/
def execDebugIdleTimeout (s : State) : Out := .next (s.setLevel .none)

/-- TEST_N_LOW (R465). -/
def execTestNLow (s : State) : Out :=
  .next <|
    let acts := s.sec.lifecycle = .returned && s.sec.level = .vendor && !s.anyRailLive &&
      (s.idleCond || s.modes.mode = .failsafe || s.modes.mode = .service)
    if acts then s.modSec fun x => { x with testMode := true }
    else if !s.keeperRuns || s.sec.testIgnored then s
    else (s.modSec fun x => { x with testIgnored := true }).raiseLater Ev.sec 8

/-- MRAM_PW_RESET (R421). -/
def execMramPwReset (acc : Accessor) (s : State) : Out := .next (s.access acc fun s => s.writePwReset acc 0x5A)

end Sys2Proof.Machine
end

