-- ==== Sys2Proof/Machine/Phases.lean ====
section
/-! DEFINITION. The phases from cycle to cycle: the frame reference, the control loop, current balancing, the detectors
and shedding (R62–R92, R103, R113), and the commands of chapter 3. -/

namespace Sys2Proof.Machine

/-- The mean of samples. -/
def meanOf (xs : List Stamped) : Int := quot (xs.map fun x => x.2).sum xs.length

/-- The voltage input of a cycle: the mean of its last 16 rail-sense samples (R68). -/
def CycleInput.v (inp : CycleInput) : Int := meanOf (inp.volts.reverse.take 16)

/-- The mean of the cycle's current samples as they are read (R68). -/
def CycleInput.raw (inp : CycleInput) : Int := meanOf inp.currents

/-- The sense-open code of a phase in mA (R72). -/
def senseOpenCode (p : Fin 56) : Int := if isBus p then 10238 else 32764

/-- The voltage loop's result over one cycle (R68). -/
structure LoopOut where
  integ : Int
  dterm : Int
  e : Int
  duty : Int
  deriving DecidableEq, Repr

namespace State

/-! ### The loop (R68, R103, R113) -/

/-- Switching phases work against `D_max` and the minimum times of R60, in units of 2⁻¹⁶ of the period. -/
def dutyMax (_s : State) (p : Fin 56) : Int := quot (65536 * (if isBus p then 95 else 90)) 100

/-- A time in ns as a duty at the phase's f_sw. -/
def dutyOfNs (s : State) (p : Fin 56) (ns : Int) : Int := quot (ns * s.fsw p * 65536) 1000000000

/-- The lowest duty: the on-time minimum (R60). -/
def dutyLo (s : State) (p : Fin 56) : Int := s.dutyOfNs p (if isBus p then 40 else 20)

/-- The highest duty: D_max or the off-time minimum (R60, R68). -/
def dutyHi (s : State) (p : Fin 56) : Int := min (s.dutyMax p) (65536 - s.dutyOfNs p (if isBus p then 40 else 30))

/-- vref of a rail in mV (R103): the ramp reference less the droop; in coil mode the coil loop's reference (R113), and 0 in
the release (R114). -/
def vrefOf (s : State) (r : Fin 32) : Int :=
  if s.coilMode r then (if (s.rail r).st = .discharge then 0 else (s.rail r).coilR)
  else
    let droop := if (s.rail r).st = .up then quot (s.get (K.RAIL_LOADLINE r) * max 0 (s.railPoolI r)) 1000000 else 0
    quot ((s.rail r).refAt s.now) 1000 - droop

/-- The cycle-mean current less the bias offset that PREBIAS measured (R68, R72). -/
def meanI (s : State) (p : Fin 56) (inp : CycleInput) : Int := inp.raw - (s.phase p).offset

/-- The clamp of R108 acts in the cycle: the duty of the loop would bring more than c. -/
def clamps (s : State) (r : Fin 32) (inp : CycleInput) : Bool := decide (s.clampOf r < inp.demand)

/-- The bound on the current that a member sinks acts in the cycle (R105, R106). -/
def sinkActs (s : State) (r : Fin 32) (p : Fin 56) (inp : CycleInput) : Bool :=
  match s.sinkBound r p with
  | some b => decide (inp.demand < -b)
  | none => false

/-- The computation of R68 before its clamp; the integrator is held while the current clamp acts (R108). -/
def loopOut (s : State) (p : Fin 56) (vref : Int) (inp : CycleInput) (clamped : Bool) : LoopOut :=
  let x := s.phase p
  let e := vref - inp.v
  let ff := quot (vref * 65536 * (if isBus p then 1 else 2)) inp.vbus
  let imax := s.get (K.PH_COMP_IMAX p) * 256
  let integ := if clamped then x.integ else clampInt (-imax) imax (x.integ + s.get (K.PH_COMP_KI p) * e)
  let dlt := if x.fresh then 0 else s.get (K.PH_COMP_KD p) * (e - x.ePrev)
  let dterm := x.dterm + quot ((dlt - x.dterm) * s.get (K.PH_COMP_DFILT p)) 65536
  let corr := quot (s.get (K.PH_COMP_KP p) * e + integ + dterm) 256
  let corr := quot (corr * 48000) inp.vbus
  { integ := integ, dterm := dterm, e := e, duty := quot (ff * (4096 + x.trim)) 4096 + corr }

/-- The loop's memory after a cycle. -/
def keepLoop (s : State) (p : Fin 56) (o : LoopOut) : State :=
  s.modPhase p fun x => { x with integ := o.integ, dterm := o.dterm, ePrev := o.e, fresh := false }

/-- The coil loop moves once per cycle, at the edge of the rail's lowest-numbered ACTIVE member (R113). -/
def coilStep (s : State) (r : Fin 32) (p : Fin 56) : State :=
  let x := s.rail r
  if s.coilMode r && (x.st = .pullIn || x.st = .hold) && (sortPhases (s.activeMembers r)).head? = some p then
    let vset := s.get (K.RAIL_VSET r)
    let v := clampInt 0 vset (x.coilR + quot ((s.coilTarget r - s.railPoolI r) * s.get (K.RAIL_COIL_KI r)) 65536)
    s.modRail r fun x => { x with coilR := v, compliance := decide (v = vset) }
  else s

/-! ### Current balancing (R70, R71) -/

/-- The trim update of an ACTIVE member (R70): with the pool average of the cycle before, and its own current in that
cycle; without it the trim is kept and AVG_STALE set. TRIM_LIMIT as the limit is reached (R71). -/
def trimStep (s : State) (p : Fin 56) : State :=
  let x := s.phase p
  match x.avg with
  | none => s.modPhase p fun x => { x with avgStale := true }
  | some a =>
    let lim := s.get (K.PH_TRIM_LIMIT p)
    let t := x.trim + quot ((a - x.iCycle) * s.get (K.PH_TRIM_GAIN p)) (max a.natAbs (s.get (K.PH_OPEN_MIN p)))
    let hit := decide (lim ≤ t) || decide (t ≤ -lim)
    let s := s.modPhase p fun x => { x with trim := clampInt (-lim) lim t, atLimit := hit, avg := none, avgStale := false }
    if hit && !x.atLimit then s.raise (Ev.phase p) 7 else s

/-! ### Declared findings (R73, R76–R79) -/

/-- A finding is declared; the phase is isolated at its next cycle edge (R79). The sense loss of a rail's only
non-isolated member is a rail fault at the same instant (R76). DESIGN CHOICE (log 133): the bias is no longer reversed once the finding
is declared, and that only member is isolated, and its record stored, at the declaration. -/
def declare (s : State) (p : Fin 56) (why : IsoReason) : State :=
  let x := s.phase p
  if x.st.inUse && x.declared = .none then
    let s := s.modPhase p fun x => { x with declared := why, testing := false }
    let s := match isoEventBit why with | some k => s.raise (Ev.phase p) k | none => s
    match x.rail with
    | some r => if why = .senseLoss && s.usableMembers r = [p] then s.tileIsolates p why else s
    | none => s
  else s

/-- The flying capacitor of an LV phase is more than 15 % off VBUS/2 (R78). -/
def cfOff (_s : State) (p : Fin 56) (inp : CycleInput) : Bool :=
  !isBus p && decide (15 * inp.vbus < 100 * ((2 * inp.vcf - inp.vbus).natAbs : Int))

/-- One cycle of the flying-capacitor check in ACTIVE, SHED and SPARE (R78). -/
def cfStep (s : State) (p : Fin 56) (inp : CycleInput) : State :=
  let n := if s.cfOff p inp then (s.phase p).cfCount + 1 else 0
  let s := s.modPhase p fun x => { x with cfCount := n }
  if 16 ≤ n then s.declare p .cfFault else s

/-- One cycle of open-phase detection (R77), on the cycle that the pool average belongs to. Under a negative average the current is
below 10 % of it where it lies above that value. -/
def openStep (s : State) (r : Fin 32) (p : Fin 56) : State :=
  let x := s.phase p
  let a := (s.rail r).avg.getD 0
  let lim := s.get (K.PH_TRIM_LIMIT p)
  let low := if 0 ≤ a then decide (10 * x.iCycle < a) else decide (a < 10 * x.iCycle)
  let hit := low && decide (x.trim = if 0 ≤ a then lim else -lim) &&
    decide (s.get (K.PH_OPEN_MIN p) ≤ (a.natAbs : Int))
  let n := if hit then x.openCount + 1 else 0
  let s := s.modPhase p fun x => { x with openCount := n }
  if 8 ≤ n then s.declare p .openPhase else s

/-! ### Shedding (R85) -/

/-- A shedding threshold of the rail: the value of its lowest-numbered non-isolated member, scaled (R85, R86). -/
def shedThreshold (s : State) (r : Fin 32) (key : Nat → Nat) : Int :=
  match (sortPhases (s.usableMembers r)).head? with
  | some p => quot (s.get (key p) * (s.phase p).scale) 1000
  | none => 0

/-- The return of R85: above HI × N, as many SHED members return at their next cycle edges as bring |I| / N below HI; those that
return already count. -/
def returnStep (s : State) (r : Fin 32) : State :=
  let i : Int := (s.railCycleI r).natAbs
  let hi := s.shedThreshold r K.PH_SHED_HI
  let n := (s.activeMembers r).length
  if hi * n < i then
    let short := (List.range 16).filter fun k => decide (hi * ((n + k : Nat) : Int) ≤ i)
    s.returnShed r (short.length - ((s.shedMembers r).length - (s.restingMembers r).length))
  else s

/-- The rail may shed (R85): its reference stands, in UP or in its off delay, it is in voltage mode and not DEGRADED, no voltage command
is on its way, and a full dwell has passed since the last one reached its target. -/
def mayShed (s : State) (r : Fin 32) : Bool :=
  let x := s.rail r
  let dwell := match (sortPhases (s.usableMembers r)).head? with | some p => s.getN (K.PH_SHED_DWELL p) | none => 0
  (decide (x.st = .up) || decide (x.st = .offDelay)) && !x.moving && !s.coilMode r && !x.degraded &&
    (x.cmds.all fun c => match c with | .volt _ _ => false | _ => true) &&
    (match x.shedHold with | some t => decide (max t x.ref.t0 + dwell * 100 ≤ s.now) | none => true)

/-- The shed of R85: the highest-numbered ACTIVE member that may be shed goes to SHED at its next cycle edge. DESIGN CHOICE (log 134): a
member with `PH_SHED_EN` = 0 is passed over, and the next lower one is shed. -/
def shedStep (s : State) (r : Fin 32) : State :=
  let act := sortPhases (s.stayingMembers r)
  let i : Int := (s.railCycleI r).natAbs
  if s.mayShed r && 2 ≤ act.length && decide (i < s.shedThreshold r K.PH_SHED_LO * ((act.length : Int) - 1)) then
    match (act.filter fun (p : Fin 56) => s.flag (K.PH_SHED_EN p)).getLast? with
    | some p => (s.atNextEdge p .shed).modRail r fun x => { x with shedHold := none }
    | none => s
  else s

/-! ### The cycle edge -/

/-- What the readings of a cycle leave in every state: the tile's rings unless its quench-down wire has frozen it (R180, R184), the
gatherings of `PH_I`, which leave out a cycle with a polarity test (R73), and of Sirocco (R203), and the end of R75's bar once a
reading has left the sense-open code. -/
def takeReadings (s : State) (p : Fin 56) (inp : CycleInput) : State :=
  let i := s.meanI p inp
  let keep := s.quenchDown (tileOf p)
  s.modPhase p fun x =>
    { x with ring := if keep then x.ring else ((inp.currents.reverse.map fun c => (c.1, c.2 - x.offset)) ++ x.ring).take 50,
             vring := if keep then x.vring else (inp.volts.reverse ++ x.vring).take 100,
             iSum := if x.frozen then x.iSum else x.iSum + i, iN := if x.frozen then x.iN else x.iN + 1,
             thSum := x.thSum + i, thN := x.thN + 1, cycles := x.cycles + 1,
             vcf := inp.vcf, vbus := some inp.vbus,
             testDone := x.testDone && inp.currents.all fun c => decide (c.1 ≤ x.testAt) || decide (senseOpenCode p ≤ c.2) }

/-- The current of the cycle that ends enters the peak of `PH_I_PEAK` and the pool average, unless a polarity test ran in that cycle (R73):
`frozen` marks the cycle in progress, and `excluded` takes its value for the average. A test that still runs marks the next. -/
def currentStep (s : State) (p : Fin 56) (inp : CycleInput) : State :=
  let i := s.meanI p inp
  s.modPhase p fun x => { x with peak := if x.frozen then x.peak else max x.peak i, iCycle := i, excluded := x.frozen, frozen := x.testing }

/-- The peak limit of the cycle (R60, R85, R90): PEAK_LIMITING, its count and event, and every SHED member returns. -/
def peakStep (s : State) (r : Fin 32) (p : Fin 56) (peak : Bool) : State :=
  let was := (s.phase p).peakLimiting
  let s := s.modPhase p fun x => { x with peakLimiting := peak }
  if peak then
    let s := s.bump (K.PH_LIMIT_CYCLES p)
    let s := if was then s else s.raise (Ev.phase p) 8
    s.returnAll r
  else s

/-- An ACTIVE cycle that ends where the phase leaves ACTIVE counts as any other: for the peak, the peak limit and the return (R85, R89). -/
def lastCycle (s : State) (p : Fin 56) (inp : CycleInput) : State :=
  match (s.phase p).st, (s.phase p).rail with
  | .active, some r => ((s.currentStep p inp).peakStep r p inp.peak).returnStep r
  | _, _ => s

/-- The new duty of an ACTIVE member (R68): clamped; DROPOUT above D_max (R62); none under a tile's lockout (R491); reduced by
an unstated amount while the current clamp acts (R108), and raised by one while the bound on the sunk current does (R105, R106). -/
def dutyStep (s : State) (p : Fin 56) (o : LoopOut) (clamped sinking : Bool) : State :=
  match (s.tile (tileOf p)).uvlo with
  | true => s.modPhase p fun x => { x with duty := 0, dropout := true }
  | false =>
    let d := clampInt (s.dutyLo p) (s.dutyHi p) o.duty
    let (f, s) := if clamped || sinking then s.fresh else (d, s)
    let f := if clamped then min d (max (s.dutyLo p) f) else max d (min (s.dutyHi p) f)
    let drop := decide (65536 * (if isBus p then 95 else 90) < 100 * o.duty)
    s.modPhase p fun x => { x with duty := f, dropout := drop }

/-- The edge of an ACTIVE member (R66, R68, R70, R77, R78, R85, R108, R109). -/
def activeEdge (s : State) (r : Fin 32) (p : Fin 56) (inp : CycleInput) : State :=
  let s := (s.coilStep r p).trimStep p
  let clamped := s.clamps r inp
  let o := s.loopOut p (s.vrefOf r) inp clamped
  let s := ((s.keepLoop p o).dutyStep p o clamped (s.sinkActs r p inp)).openStep r p
  let s := (s.cfStep p inp).currentStep p inp
  let s := s.modPhase p fun x => { x with slot := stepSlot x.slot (s.slotOf r p), limited := clamped }
  let s := (s.refreshLimiting r).peakStep r p inp.peak
  (s.returnStep r).ready (tileOf p) true 2

/-- The edge of a SHED or SPARE phase: the shadow loop (R69) and the flying capacitor (R78). DESIGN CHOICE (log 135): a SHED phase runs the
shadow loop as a SPARE does, and returns with its state. -/
def restEdge (s : State) (r : Fin 32) (p : Fin 56) (inp : CycleInput) : State :=
  let o := s.loopOut p (s.vrefOf r) inp false
  let s := (s.keepLoop p o).cfStep p inp
  s.modPhase p fun x => { x with iCycle := 0, excluded := x.frozen, frozen := x.testing }

/-- The shed or return that was decided for phase `p` takes place at its cycle edge (R85). -/
def takeNext (s : State) (p : Fin 56) : State :=
  match (s.phase p).st, (s.phase p).next with
  | .active, some .shed => s.phaseShed p
  | .shed, some .active => s.phaseReturn p
  | _, _ => s

/-- A cycle edge of phase `p`: an earlier finding isolates it now (R79); otherwise its state, once a shed or return that was decided
has taken place (R85), says what it does. A tile that has found its down link lost opens its switches here (R305). -/
def cycleEdge (s : State) (p : Fin 56) (inp : CycleInput) : State :=
  let s := s.takeReadings p inp
  let s := s.modPhase p fun x => if x.st = .active then { x with actCycles := x.actCycles + 1, thAct := x.thAct + 1 } else x
  let x := s.phase p
  if x.declared ≠ .none then (s.lastCycle p inp).tileIsolates p x.declared
  else
  let s := if x.st = .active && x.next = some .shed then s.lastCycle p inp else s
  let s := s.takeNext p
  let s := match (s.phase p).st, x.rail with
    | .active, some r => s.activeEdge r p inp
    | .shed, some r => s.restEdge r p inp
    | .spare, some r => s.restEdge r p inp
    | _, _ => s
  if (s.link (tileOf p)).downLost then s.modPhase p fun x => { x with duty := 0 } else s

/-! ### The pool average (R70) -/

/-- The Keeper forms a rail's pool average over its ACTIVE members whose cycle counts, and every member tile receives it. -/
def poolAverage (s : State) (r : Fin 32) : State :=
  let act := s.activeMembers r
  let ps := act.filter fun p => !(s.phase p).excluded
  if ps.isEmpty then s
  else
    let a := quot (ps.map fun p => (s.phase p).iCycle).sum ps.length
    let s := s.modRail r fun x => { x with avg := some a, avgCount := act.length }
    let s := s.forPhases act fun s p => s.modPhase p fun x => { x with avg := some a, avgStale := false }
    s.readyAll false 5 fun t => act.any fun p => decide (tileOf p = t)

/-! ### Prebias and joining (R81, R84, R97) -/

/-- The first duty of a member (R84): from the feed-forward and the measured rail voltage, so that it neither sources nor sinks. -/
def firstDuty (s : State) (p : Fin 56) (inp : PrebiasInput) : Int :=
  if (s.tile (tileOf p)).uvlo then 0
  else clampInt (s.dutyLo p) (s.dutyHi p) (quot (inp.v * 65536 * (if isBus p then 1 else 2)) inp.vbus)

/-- A phase completes its prebias (R84) with its bias offset measured (R72): a member is ACTIVE with trim 0 and its first duty in its
slot, a spare stands by. A spare that finds its rail short of healthy members joins at once (R97). -/
def prebiasDone (s : State) (p : Fin 56) (inp : PrebiasInput) : State :=
  let x := s.phase p
  match x.st, x.declared, x.rail with
  | .prebias, .none, some r =>
    let s := s.modPhase p fun x => { x with offset := inp.offset }
    if x.role = .spare then
      let s := s.modPhase p fun x => { x with st := .spare }
      if (s.healthyMembers r).length < s.configuredCount r then s.commandSpare r else s
    else
      let s := s.modPhase p fun x => { x with st := .active, trim := 0, duty := s.firstDuty p inp }
      ((s.setSlot p).refreshDegraded r).refreshLimiting r
  | _, _, _ => s

/-- The pre-join check passes: the spare is an ACTIVE member with trim 0 and leaves the spare list in use (R80, R81, R97). -/
def spareJoins (s : State) (r : Fin 32) (p : Fin 56) : State :=
  let s := s.modRail r fun x =>
    { x with spares := x.spares.filter (· ≠ p), members := if x.members.contains p then x.members else x.members ++ [p] }
  let s := s.modPhase p fun x => { x with st := .active, role := .member, joining := false, trim := 0, openCount := 0, avg := none }
  let s := ((s.setSlot p).raise (Ev.phase p) 4).noteSpares r
  (s.refreshDegraded r).refreshLimiting r

/-- The end of a pre-join check (R81): `finding` is none where it passed, otherwise the spare's own reason. -/
def spareChecked (s : State) (p : Fin 56) (finding : IsoReason) : State :=
  let x := s.phase p
  match x.rail with
  | some r =>
    if x.st = .spare && x.joining then (if finding = .none then s.spareJoins r p else s.isolate p finding) else s
  | none => s

/-! ### A rail fault that a tile detects (R172, R181) -/

/-- A trigger that a tile detects: the tile drives its quench-up wire, and the fault follows (R181, R182), with the tile's stamp where
it reports one (R321). DESIGN CHOICE (log 136): the wire
keeps its level while the tile is unpowered, and falls when the tile is released or fenced and at BOOT. -/
def tileFault (s : State) (tr : Trigger) (stamp : Option Nat) : State :=
  let s := if s.faultMode then
      match (List.finRange 8).find? fun t => decide (t.val = tr.tile) with
      | some t =>
        let s := s.modTile t fun x => { x with quenchUp := true }
        if stamp.isNone && s.stamps t then s.ready t true 7 else s
      | none => s
    else s
  s.railFault tr (if (List.finRange 8).any fun t => decide (t.val = tr.tile) && s.stamps t then stamp else none)

/-! ### Polarity tests (R73–R76) -/

/-- A reading at the sense-open code starts a test, unless one runs or the last found real current and no reading has left
the code since, by `left` or by a sample of a cycle; the duty stays and the cycle in progress will not count (R73, R75). -/
def senseOpen (s : State) (p : Fin 56) (left : Bool) : State :=
  let x := s.phase p
  if x.st.inUse && !x.testing && (!x.testDone || left) && x.declared = .none then
    (s.modPhase p fun x => { x with testing := true, frozen := true, testDone := false }).bump (K.PH_SENSE_TESTS p)
  else s

/-- The outcome of a polarity test (R73): negative full scale is a sense loss; the sense-open code real current, which is a
phase over-current trip as well (R173); anything else a current that has fallen. -/
def senseOutcome (s : State) (p : Fin 56) (reading : Int) (stamp : Option Nat) : State :=
  if (s.phase p).testing then
    if reading ≤ -8192 then s.declare p .senseLoss
    else
      let s := s.modPhase p fun x => { x with testing := false }
      if 8191 ≤ reading then
        let s := (s.modPhase p fun x => { x with testDone := true, testAt := s.now }).raise (Ev.phase p) 5
        s.tileFault ⟨0x05, .phase, p.val, (tileOf p).val⟩ stamp
      else s
  else s

/-! ### Writes (R83, R89) -/

/-- A write of `PH_CLEAR_ISO` (R83). -/
def writePhClearIso (s : State) (acc : Accessor) (p : Fin 56) (v : Nat) : Res :=
  s.writeVia acc (K.PH_CLEAR_ISO p) 1 fun s =>
    let x := s.phase p
    let up := match x.rail with | some r => (s.rail r).st.live | none => false
    let modeOk := s.idleCond || s.modes.mode = .failsafe || s.modes.mode = .service
    if !s.installerUp acc then .error .roleDenied
    else if !modeOk || up || x.st ≠ .isolated || x.isoReason = .fenced then .error .modeForbids
    else if v ≠ 0x5A then .error .outOfRange
    else
      let s := s.modPhase p fun x => { x.opened .off with isoReason := .none, isoAt := 0, stored := none }
      .ok (match x.rail with | some r => s.refreshDegraded r | none => s, .done)

/-- A write of `PH_ISOLATE` (R83): a phase that switches is isolated at its next cycle edge, any other at once. -/
def writePhIsolate (s : State) (acc : Accessor) (p : Fin 56) (v : Nat) : Res :=
  s.writeVia acc (K.PH_ISOLATE p) 1 fun s =>
    if !s.installerUp acc then .error .roleDenied
    else if s.modes.mode ≠ .service then .error .modeForbids
    else if v ≠ 0xA5 then .error .outOfRange
    else .ok (if (s.phase p).st.inUse then s.declare p .host else s.isolate p .host, .done)

/-- A write that would bring `PH_SHED_LO` to `PH_SHED_HI` or above is refused (R89). -/
def shedBoundsOk (s : State) (p : Fin 56) (lo hi : Option Int) : Bool :=
  decide (lo.getD (s.get (K.PH_SHED_LO p)) < hi.getD (s.get (K.PH_SHED_HI p)))

/-- A read of `PH_I_PEAK` restarts it (R89). -/
def readPeak (s : State) (acc : Accessor) (p : Fin 56) : Res :=
  match s.reach acc (K.PH_I_PEAK p) with
  | .error e => .error e
  | .ok d =>
    if s.debugAllows acc false (K.PH_I_PEAK p) then
      .ok ((s.modPhase p fun x => { x with peak := 0 }).restart (K.PH_I_PEAK p), .data (d.bytes (s.cutValue (K.PH_I_PEAK p))))
    else .error .debugForbids

/-! ### The frame reference (R63) -/

/-- SYNCOUT runs: the Keeper runs, and the mode is not SEAL (R63). -/
def syncoutRuns (s : State) : Bool := s.keeperRuns && decide (s.modes.mode ≠ .seal)

/-- The level of SYNCOUT: the frame pulse at 50 % duty, and low where it does not run (R63). -/
def syncout (s : State) : Bool :=
  s.syncoutRuns && match s.lastPulse with
    | some p => decide (2 * (s.now - p) < s.framePeriod / 10)
    | none => false

/-- The reference returns to the internal source, and goes on from the last SYNCIN edge, `edge`, by way of that edge's frame pulse (R63);
where it has not left the internal source, that one stands. -/
def frameInternal (s : State) (edge : Nat) : State :=
  let s := s.settlePulse
  if s.syncExt then
    let p := edge + s.frame.offset
    { s with frame := { base := p, edge := edge, pulses := if s.frame.pulses.contains p then s.frame.pulses else p :: s.frame.pulses } }
  else { s with frame := { base := s.frame.base, edge := edge } }

/-- A SYNCIN edge that ends a period of `ns` (R63). At the eighth in-range period the reference moves, at the internal frame's next
boundary. DESIGN CHOICE (log 173): a frame pulse follows its SYNCIN edge at the distance that this boundary had from its edge, so that the
move does not jump the phase, and the internal frame keeps the distance when the reference returns. -/
def syncEdge (s : State) (ns : Nat) : State :=
  if 16700 ≤ ns && ns ≤ 25000 then
    let n := min 8 (s.frame.inRange + 1)
    if s.frame.external then
      ({ s with frame := { s.frame with inRange := n, period := ns, edge := s.now,
                                        pulses := ((s.now + s.frame.offset) :: s.frame.pulses).take 3 } } : State).settlePulse
    else if n = 8 then
      let b := s.frame.base + (s.now + 1999 - s.frame.base) / 2000 * 2000
      ({ s with frame := { s.frame with external := true, inRange := n, period := ns, edge := s.now, offset := b - s.now, start := b,
                                        pulses := [b] } } : State).settlePulse
    else { s with frame := { s.frame with inRange := n, edge := s.now } }
  else s.frameInternal s.now

end State

open State

/-! ### The commands -/

/-- SYNCIN_EDGE (R63). -/
def execSyncinEdge (periodNs : Nat) (s : State) : Out := .next (if s.keeperRuns then s.syncEdge periodNs else s)

/-- SYNCIN_TIMEOUT (R63). -/
def execSyncinTimeout (s : State) : Out := .next (if s.keeperRuns then s.frameInternal s.frame.edge else s)

/-- SWITCHING_CYCLE_EDGE (R68). -/
def execSwitchingCycleEdge (p : Fin 56) (inp : CycleInput) (s : State) : Out := .next (s.cycleEdge p inp)

/-- POOL_AVERAGE_FORM (R70). -/
def execPoolAverageForm (r : Fin 32) (s : State) : Out := .next (s.poolAverage r)

/-- SENSE_OPEN_CODE (R73): `left` where a reading has left the code since the last test (R75). -/
def execSenseOpenCode (p : Fin 56) (left : Bool) (s : State) : Out := .next (s.senseOpen p left)

/-- SENSE_TEST_OUTCOME (R73). -/
def execSenseTestOutcome (p : Fin 56) (reading : Int) (stamp : Option Nat) (s : State) : Out :=
  .next (s.senseOutcome p reading stamp)

/-- OPEN_PHASE (R77): the conditions have held for 8 cycles in an ACTIVE member. -/
def execOpenPhase (p : Fin 56) (s : State) : Out := .next (if (s.phase p).st = .active then s.declare p .openPhase else s)

/-- CF_FAULT (R78): at the end of a prebias, or after 16 cycles. -/
def execCfFault (p : Fin 56) (atPrebiasEnd : Bool) (s : State) : Out :=
  let st := (s.phase p).st
  .next (if !isBus p && (decide (st = .prebias) == atPrebiasEnd) then s.declare p .cfFault else s)

/-- PREBIAS_TIMEOUT (R78, R84, R105): isolated at once; a finding that is declared already is the reason. -/
def execPrebiasTimeout (p : Fin 56) (s : State) : Out :=
  let why := if (s.phase p).declared = .none then .prebiasTimeout else (s.phase p).declared
  .next (if (s.phase p).st = .prebias then s.tileIsolates p why else s)

/-- PREBIAS_COMPLETE (R84): with what the phase measured in its prebias. -/
def execPrebiasComplete (p : Fin 56) (inp : PrebiasInput) (s : State) : Out := .next (s.prebiasDone p inp)

/-- PHASE_ISOLATION_EDGE (R79): the cycle edge of a phase with a declared finding. -/
def execPhaseIsolationEdge (p : Fin 56) (s : State) : Out :=
  .next (if (s.phase p).declared = .none then s else s.tileIsolates p (s.phase p).declared)

/-- SPARE_CHECK_DONE (R81). -/
def execSpareCheckDone (p : Fin 56) (finding : IsoReason) (s : State) : Out := .next (s.spareChecked p finding)

/-- PH_CLEAR_ISO (R83): the write of 0x5A. -/
def execPhClearIso (acc : Accessor) (p : Fin 56) (s : State) : Out :=
  .next (s.access acc fun s => s.writePhClearIso acc p 0x5A)

/-- PH_ISOLATE (R83): the write of 0xA5. -/
def execPhIsolate (acc : Accessor) (p : Fin 56) (s : State) : Out :=
  .next (s.access acc fun s => s.writePhIsolate acc p 0xA5)

/-- SHED_DWELL_EXPIRED (R85). -/
def execShedDwellExpired (r : Fin 32) (s : State) : Out := .next (s.shedStep r)

/-- PH_I_PEAK_READ (R89). -/
def execPhIPeakRead (acc : Accessor) (p : Fin 56) (s : State) : Out := .next (s.access acc fun s => s.readPeak acc p)

/-- LANTERN_VBUS_UVLO (R491): the tile's phases hold their switches open and show DROPOUT. -/
def execLanternVbusUvlo (t : Fin 8) (s : State) : Out :=
  .next (if t ≠ 0 && s.tileFitted t then
    (s.modTile t fun x => { x with uvlo := true }).forPhases (tilePhases t) fun s p =>
      s.modPhase p fun x => { x with duty := 0, dropout := true }
  else s)

/-- LANTERN_VBUS_UVLO_RELEASE (R491): the tile's phases may switch again. -/
def execLanternVbusUvloRelease (t : Fin 8) (s : State) : Out :=
  .next (if (s.tile t).uvlo then
    (s.modTile t fun x => { x with uvlo := false }).forPhases (tilePhases t) fun s p =>
      s.modPhase p fun x => { x with dropout := false }
  else s)

end Sys2Proof.Machine
end

