-- ==== Sys2Proof/Machine/Rails.lean ====
section
/-! DEFINITION. The commands of chapter 4: rails and the AUX outputs (R98–R117). -/

namespace Sys2Proof.Machine
namespace State

/-! ### Writes (R100, R118, R116) -/

/-- A write of `RAIL_VSET` (R100). -/
def writeRailVset (s : State) (acc : Accessor) (r : Fin 32) (mv : Nat) : Res :=
  s.writeVia acc (K.RAIL_VSET r) 2 fun s =>
    if (s.rail r).st = .unbuilt then .error .modeForbids
    else if (mv : Int) < s.get (K.RAIL_VMIN r) || s.get (K.RAIL_VMAX r) < (mv : Int) then .error .outOfRange
    else if s.commitStages [K.RAIL_VMIN r, K.RAIL_VMAX r] then .error .busy
    else match (s.rail r).st with
      | .onDelay | .prebias | .rampUp => .ok ((s.put (K.RAIL_VSET r) mv).sendRail r (.volt mv none), .done)
      | .up => s.withTag acc .railVoltage (K.RAIL_VSET r) fun s t =>
          (s.puts [(K.RAIL_VSET r, mv), (K.RAIL_VSET_TAG r, t)]).sendVoltage r mv (some t)
      | _ => .ok (s.put (K.RAIL_VSET r) mv, .done)

/-- A write of `RAIL_CTRL` (R118): a power-up or power-down of this rail alone, in SERVICE; no power-up where a failed BOOT left
the quench latch set (R193). -/
def writeRailCtrl (s : State) (acc : Accessor) (r : Fin 32) (v : Nat) : Res :=
  s.writeVia acc (K.RAIL_CTRL r) 1 fun s =>
    let st := (s.rail r).st
    if !s.installerUp acc then .error .roleDenied
    else if s.modes.mode ≠ .service || s.modes.serviceLeaving || st = .unbuilt || (v = 1 && (st ≠ .off || s.sup.quenchLatch)) then .error .modeForbids
    else if 1 < v then .error .outOfRange
    else if v = 1 then .ok (s.sendRail r .up, .done)
    else .ok (if st = .off then s else s.sendRail r .down, .done)

/-- A write of `AUX_EN` (R116). -/
def writeAuxEn (s : State) (acc : Accessor) (k : Fin 4) (v : Nat) : Res :=
  s.writeVia acc (K.AUX_EN k) 1 fun s =>
    if s.modes.mode = .failsafe then .error .modeForbids
    else if 1 < v then .error .outOfRange
    else
      let s := s.put (K.AUX_EN k) v
      let s := if v = 1 then s.modAux k fun x => { x with forcedOff := false, heldOff := false } else s.modAux k fun x => { x with autoOff := true }
      .ok (s.refreshAux, .done)

/-- A write of `AUX_VSET` (R116): an output that is on moves there, and VPRE with it. -/
def writeAuxVset (s : State) (acc : Accessor) (k : Fin 4) (mv : Nat) : Res :=
  s.writeVia acc (K.AUX_VSET k) 2 fun s =>
    if mv < 800 || 3300 < mv || mv % 50 ≠ 0 then .error .outOfRange
    else
      let s := s.put (K.AUX_VSET k) mv
      let s := if (s.aux k).st = .off then s else s.auxRamp k
      .ok (s.setVpre, .done)

/-! ### Apply ticks (R98) -/

/-- A power-up reaches its apply tick. -/
def powerUpTick (s : State) (r : Fin 32) : State :=
  match s.takeCmd r (fun c => match c with | .up => true | _ => false) with
  | some (_, s) => s.applyPowerUp r
  | none => s

/-- A power-down reaches its apply tick. -/
def powerDownTick (s : State) (r : Fin 32) : State :=
  match s.takeCmd r (fun c => match c with | .down => true | _ => false) with
  | some (_, s) => s.applyPowerDown r
  | none => s

/-- A voltage command reaches its apply tick. -/
def voltageTick (s : State) (r : Fin 32) : State :=
  match s.takeCmd r (fun c => match c with | .volt _ _ => true | _ => false) with
  | some (.volt mv t, s) => s.applyVoltage r mv t
  | _ => s

/-- An abort of a voltage transition reaches its apply tick. -/
def abortTick (s : State) (r : Fin 32) : State :=
  match s.takeCmd r (fun c => match c with | .abort _ => true | _ => false) with
  | some (.abort t, s) => s.applyVoltAbort r t
  | _ => s

/-! ### The ramp (R105, R107, R113) -/

/-- RAMP_UP from V0 in mV, or PULL_IN with the coil loop at 0 (R105, R107, R113); a coil rail's qualifier is armed (R153).
The prebias is over once no member is in PREBIAS and some member is ACTIVE. -/
def rampStart (s : State) (r : Fin 32) (v0 : Int) : State :=
  let busy := (s.rail r).members.any fun p => decide ((s.phase p).st = .prebias)
  if (s.rail r).st ≠ .prebias || busy || (s.activeMembers r).isEmpty then s
  else if s.coilMode r then
    s.modRail r fun x => { x with st := .pullIn, coilR := 0, compliance := false, armed := true, badRun := false }
  else
    let t := (s.rail r).ref.target
    let v := clampInt 0 t (v0 * 1000)
    let s := s.modRail r fun x =>
      { x with st := .rampUp, ref := { v0 := v, t0 := s.now, target := t, slew := s.get (K.RAIL_SLEW_ON r) }, moving := decide (v ≠ t) }
    if v = t then s.enterUp r .up else s

/-- A coil rail in its release (R114): DISCHARGE in coil mode. -/
def coilRelease (s : State) (r : Fin 32) : Bool := decide ((s.rail r).st = .discharge) && s.coilMode r

/-- A voltage rail in DISCHARGE. -/
def discharging (s : State) (r : Fin 32) : Bool := decide ((s.rail r).st = .discharge) && !s.coilMode r

/-- The coil's reference has stood at compliance with little current (R113). -/
def coilIsOpen (s : State) (r : Fin 32) : Bool :=
  (decide ((s.rail r).st = .pullIn) || decide ((s.rail r).st = .hold)) && s.coilMode r && (s.rail r).compliance &&
    decide (10 * s.railPoolI r < s.coilTarget r)

/-- The OC dwell of a LIMITING rail that is not CAPPED expires (R110, R173). -/
def ocExpired (s : State) (r : Fin 32) (stamp : Option Nat) : State :=
  if (s.rail r).limiting && !(s.rail r).capped then s.tileFault ⟨0x03, .rail, r.val, s.leadTile r⟩ stamp else s

/-! ### AUX faults (R117, R178) -/

/-- An output has been in its current limit for `AUX_OC_DWELL`: a rail fault, or the handling of R178 in IDLE. -/
def auxOverCurrent (s : State) (k : Fin 4) : State :=
  if (s.aux k).st = .off then s
  else
    let s := s.raise (Ev.aux k) 3
    let tr : Trigger := ⟨0x07, .aux, k.val, 0⟩
    if s.faultMode then s.railFault tr (some s.now)
    else if s.modes.mode = .idle then (s.idleFault tr false).raise Ev.sup 8
    else s

/-- The ramp of an output ends at `v` mV (R116): it is on, and PG is declared at 95 %. -/
def auxRampDone (s : State) (k : Fin 4) (v : Int) : State :=
  match (s.aux k).st, (s.aux k).ramp with
  | .ramping, _ => (s.modAux k fun x => { x with st := .on }).auxPg k v
  | .limit, true => (s.modAux k fun x => { x with ramp := false }).auxPg k v
  | _, _ => s

/-- An output has been below 90 % for 1 ms outside its ramp and not limiting (R117). -/
def auxLow (s : State) (k : Fin 4) (v : Int) : State :=
  if (s.aux k).st = .on && 100 * v < 90 * s.get (K.AUX_VSET k) then s.raise (Ev.aux k) 1 else s

/-- The sum of the AUX dissipation in mW (R115). -/
def auxLossSum (s : State) : Int := ((List.finRange 4).map fun k => s.get (K.AUX_LOSS k)).sum

/-- LOSS_HIGH in every enabled output, where the sum of the dissipation is above 600 mW (R115, R121). -/
def auxLossHigh (s : State) : State :=
  if s.auxLossSum ≤ 600 then s else s.auxOn.foldl (fun (s : State) (k : Fin 4) => s.raise (Ev.aux k) 4) s

end State

open State

/-! ### The commands -/

/-- RAIL_VSET_WRITE (R100). -/
def execRailVsetWrite (acc : Accessor) (r : Fin 32) (mv : Nat) (s : State) : Out :=
  .next (s.access acc fun s => s.writeRailVset acc r mv)

/-- RAIL_CTRL_POWER_UP (R118): the write of 1. -/
def execRailCtrlPowerUp (acc : Accessor) (r : Fin 32) (s : State) : Out :=
  .next (s.access acc fun s => s.writeRailCtrl acc r 1)

/-- RAIL_CTRL_POWER_DOWN (R118): the write of 0. -/
def execRailCtrlPowerDown (acc : Accessor) (r : Fin 32) (s : State) : Out :=
  .next (s.access acc fun s => s.writeRailCtrl acc r 0)

/-- RAIL_POWER_UP_APPLY (R105). -/
def execRailPowerUpApply (r : Fin 32) (s : State) : Out := .next (s.powerUpTick r)

/-- RAIL_POWER_DOWN_APPLY (R106). -/
def execRailPowerDownApply (r : Fin 32) (s : State) : Out := .next (s.powerDownTick r)

/-- RAIL_VOLTAGE_APPLY (R101). -/
def execRailVoltageApply (r : Fin 32) (s : State) : Out := .next (s.voltageTick r)

/-- RAIL_ABORT_APPLY (R102). -/
def execRailAbortApply (r : Fin 32) (s : State) : Out := .next (s.abortTick r)

/-- ON_DELAY_ELAPSED (R105). -/
def execOnDelayElapsed (r : Fin 32) (s : State) : Out := .next (if (s.rail r).st = .onDelay then s.enterPrebias r else s)

/-- RAMP_UP_START (R105): `v0` is the voltage measured at the end of PREBIAS, in mV. -/
def execRampUpStart (r : Fin 32) (v0 : Int) (s : State) : Out := .next (s.rampStart r v0)

/-- REFERENCE_AT_TARGET (R107). -/
def execReferenceAtTarget (r : Fin 32) (s : State) : Out := .next (s.referenceReached r)

/-- OFF_DELAY_ELAPSED (R106). -/
def execOffDelayElapsed (r : Fin 32) (s : State) : Out := .next (s.endOffDelay r)

/-- REFERENCE_BELOW_FLOOR (R106). -/
def execReferenceBelowFloor (r : Fin 32) (s : State) : Out :=
  .next (if s.belowFloor r then s.enterDischarge r else s)

/-- DISCHARGE_DONE (R106): `v` is the sensed voltage in mV. -/
def execDischargeDone (r : Fin 32) (v : Int) (s : State) : Out :=
  .next (if s.discharging r && v < s.get (K.RAIL_VOFF_DONE r) then s.enterOff r else s)

/-- DISCHARGE_SLOW (R106). -/
def execDischargeSlow (r : Fin 32) (s : State) : Out :=
  .next (if s.discharging r then (s.raise (Ev.rail r) 8).enterOff r else s)

/-- COIL_PULL_IN_ELAPSED (R107). -/
def execCoilPullInElapsed (r : Fin 32) (s : State) : Out :=
  .next (if (s.rail r).st = .pullIn then s.enterUp r .hold else s)

/-- COIL_RELEASE_END (R114). DESIGN CHOICE (log 137): a release that ends at 100 ms raises no DISCHARGE_SLOW. -/
def execCoilReleaseEnd (r : Fin 32) (s : State) : Out := .next (if s.coilRelease r then s.enterOff r else s)

/-- COIL_OPEN (R113). -/
def execCoilOpen (r : Fin 32) (s : State) : Out := .next (if s.coilIsOpen r then s.raise (Ev.rail r) 9 else s)

/-- OC_DWELL_EXPIRED (R110): `stamp` is the lead tile's stamp of T, where it has arrived. -/
def execOcDwellExpired (r : Fin 32) (stamp : Option Nat) (s : State) : Out := .next (s.ocExpired r stamp)

/-- AUX_EN_WRITE (R116). -/
def execAuxEnWrite (acc : Accessor) (k : Fin 4) (on : Bool) (s : State) : Out :=
  .next (s.access acc fun s => s.writeAuxEn acc k on.toNat)

/-- AUX_VSET_WRITE (R116). -/
def execAuxVsetWrite (acc : Accessor) (k : Fin 4) (mv : Nat) (s : State) : Out :=
  .next (s.access acc fun s => s.writeAuxVset acc k mv)

/-- AUX_RAMP_DONE (R116). -/
def execAuxRampDone (k : Fin 4) (v : Int) (s : State) : Out := .next (s.auxRampDone k v)

/-- AUX_OC_DWELL_EXPIRED (R117). -/
def execAuxOcDwellExpired (k : Fin 4) (s : State) : Out := .next (s.auxOverCurrent k)

/-- AUX_UV (R117). -/
def execAuxUv (k : Fin 4) (v : Int) (s : State) : Out := .next (s.auxLow k v)

/-- LOSS_HIGH (R115). -/
def execLossHigh (s : State) : Out := .next s.auxLossHigh

end Sys2Proof.Machine
end

