-- ==== Sys2Proof/Machine/Sequencer.lean ====
section
/-! DEFINITION. The sequencer's commands (R143–R167): groups, steps, PG qualification, FOG, BELL, the legacy master and the
two-wire bus clear (R197, R389, R390). -/

namespace Sys2Proof.Machine
namespace State

/-! ### Sequence faults (R154) -/

/-- A sequence fault is recorded and is a rail fault (R154): `own` is the group whose step faulted. -/
def seqFault (s : State) (group step rail : Nat) (own : Option (Fin 16)) (res : GrpResult) : State :=
  if s.faultMode then
    let s := s.puts [(K.SEQ_FAULT_GROUP, group), (K.SEQ_FAULT_STEP, step), (K.SEQ_FAULT_RAIL, rail), (K.SEQ_FAULT_CODE, res.code),
      (K.SEQ_FAULT_AT, s.now)]
    (s.raise Ev.seq 3).railFault ⟨0x08, .group, group, 0⟩ (some s.now) own res
  else s

/-- The step in progress of a group, `GRP_STEP` (R168). -/
def grpStep (s : State) (g : Fin 16) : Nat := (s.group g).cur.getD 0xFF

/-- A group's own step faults. -/
def stepFault (s : State) (g : Fin 16) (rail : Nat) (res : GrpResult) : State :=
  s.seqFault g.val (s.grpStep g) rail (some g) res

/-- A step's timeout expires incomplete (R152, R154). -/
def stepTimeout (s : State) (g : Fin 16) : State :=
  let x := s.group g
  match x.cur with
  | some k =>
    let st := s.step k
    if x.st = .rising && x.stage = .sent && !s.stepMet st then
      let short := st.railList.find? fun r => !s.railMeets st r
      let rail := match short with | some r => r.val | none => 0xFF
      s.stepFault g rail (if st.wait = 0 && short.isSome then .pgTimeout else .stepTimeout)
    else s
  | none => s

/-! ### Group commands (R144) -/

/-- The modes in which `GRP_CMD` is accepted (R144). -/
def groupMode (s : State) : Bool :=
  match s.modes.mode with
  | .idle | .ramp | .run | .constrained | .ride | .service => true
  | _ => false

/-- A write of `GRP_CMD` (R144). -/
def writeGrpCmd (s : State) (acc : Accessor) (g : Fin 16) (v : Nat) : Res :=
  s.writeVia acc (K.GRP_CMD g) 1 fun s =>
    if !s.installerUp acc then .error .roleDenied
    else if !s.groupMode then .error .modeForbids
    else if 1 < v then .error .outOfRange
    else match s.groupCommand g (decide (v = 1)) (s.issuerOf acc) with
      | some (s, t) => .ok (s.releaseDependants, .tag t)
      | none => .error .operationsFull

/-- A write of `SEQ_CHATTER_CLEAR` (R169). -/
def writeChatterClear (s : State) (acc : Accessor) (v : Nat) : Res :=
  s.writeVia acc K.SEQ_CHATTER_CLEAR 1 fun s =>
    if !s.installerUp acc then .error .roleDenied
    else if v ≠ 0x5A then .error .outOfRange
    else .ok ((List.range 32).foldl (fun (s : State) n => s.put (K.SEQ_PG_CHATTER n) 0) s, .done)

/-! ### Steps (R147, R151, R152, R155, R163) -/

/-- A HELD group whose gates are all open rises; otherwise `GRP_WAIT` names the first closed one (R147). -/
def gateOne (s : State) (g : Fin 16) : State :=
  if (s.group g).st = .held then
    let w := s.closedGate g
    if w = .none then s.startRising g else s.modGroup g fun x => { x with wait := w }
  else s

/-- The gates at a 10 µs tick, for the HELD groups up to `g` in ascending number: one that starts may close a gate of the next (R147). -/
def gateTick (s : State) (g : Fin 16) : State :=
  (((List.finRange 16).filter fun h => decide (h ≤ g)).foldl gateOne s).releaseDependants

/-- A step's delay and admission are over: its commands are sent (R151). On a bus that is STUCK every slave is lost (R165). -/
def stepGo (s : State) (g : Fin 16) : State :=
  let x := s.group g
  match x.st, x.stage, x.cur with
  | .rising, .asking, some k =>
    if x.admitted then
      let s := s.sendStepUp g k
      if s.bus.stuck && !(s.step k).slaveList.isEmpty then s.stepFault g 0xFF .legacyLost else s
    else s
  | _, _, _ => s

/-- A group reaches a bell point: BELL is released (R163). -/
def bellPoint (s : State) (g : Fin 16) : State :=
  (s.driveBell false).modGroup g fun x => { x with stage := .bell, wait := .bell }

/-- A rising step whose wait condition holds is complete, but for its bell point (R151, R152). -/
def stepDone (s : State) (g : Fin 16) : State :=
  let x := s.group g
  match x.st, x.stage, x.cur with
  | .rising, .sent, some k =>
    if s.stepMet (s.step k) then
      (if (s.step k).bellUp && s.coopBit 2 then s.bellPoint g else (s.riseNext g (some k)).releaseDependants)
    else s
  | _, _, _ => s

/-- Every rail of a falling step is down (R155). -/
def stepFallen (s : State) (g : Fin 16) : State :=
  let x := s.group g
  match x.st, x.stage, x.cur with
  | .falling, .downSent, some k =>
    if s.stepDown (s.step k) then (if (s.step k).bellDown && s.coopBit 2 then s.bellPoint g else s.fallOn g) else s
  | _, _, _ => s

/-- A falling step's off delay ends (R155). -/
def stepOff (s : State) (g : Fin 16) : State :=
  let x := s.group g
  match x.st, x.stage, x.cur with
  | .falling, .offDelay, some k => s.sendStepDown g k
  | _, _, _ => s

/-! ### BELL (R163) -/

/-- The ring is recognised; BELL stays released 20 µs more. -/
def bellRing (s : State) : State :=
  match s.bellGroup .bell with
  | some g => ({ s with seq := { s.seq with bellBall := false } }).modGroup g fun x => { x with stage := .rung }
  | none => s

/-- The hold after the ring ends: BELL is driven low and the sequence goes on. -/
def bellGo (s : State) : State :=
  match s.bellGroup .rung with
  | some g => (s.driveBell true).bellOver g
  | none => s

/-- No ring within `SEQ_BELL_TIMEOUT`. -/
def bellTimeout (s : State) : State :=
  match s.bellGroup .bell with
  | some g => s.stepFault g 0xFF .bellTimeout
  | none => s

/-! ### PG (R113, R153, R174) -/

/-- The PG comparator of a rail at `v` mV: the window and hysteresis of R174, or the coil current's band (R113). -/
def pgAt (s : State) (r : Fin 32) (v : Int) : Bool :=
  let x := s.rail r
  if s.coilMode r then
    (decide (x.st = .pullIn) || decide (x.st = .hold)) &&
      decide (10 * ((s.railPoolI r - s.coilTarget r).natAbs : Int) ≤ s.coilTarget r)
  else
    let off : Int := (v * 1000 - x.ref.target).natAbs
    let w := s.get (K.SUP_PG_WINDOW r) + (if x.pg then 20 else 0)
    x.st.live && decide (1000 * off ≤ w * x.ref.target)

/-- PG loss is armed and not suspended (R173, R175). -/
def pgLossOn (s : State) (r : Fin 32) : Bool :=
  let x := s.rail r
  (decide (x.st = .up) || decide (x.st = .hold)) && x.qualified && !x.moving && !x.capped &&
    decide (x.ref.t0 + s.getN (K.SUP_PG_REARM r) * 100 ≤ s.now)

/-- The rails of the step under way that names `r`, or `r` alone where it was powered up outside any step (R153). -/
def stepMates (s : State) (r : Fin 32) : List (Fin 32) :=
  match ((List.finRange 16).flatMap fun g => (s.group g).sentSteps).find? fun k => (s.step k).rails.testBit r.val with
  | some k => (s.step k).railList
  | none => [r]

/-- One PG sample (R153): while the qualifier is armed, a false sample after a true one, or the first one, restarts it and
counts as chatter; PG_CHATTER comes with the first restart among the rails of a step. Afterwards the PG-loss timer follows (R175). -/
def pgSample (s : State) (r : Fin 32) (v : Int) : State :=
  let good := s.pgAt r v
  let s := s.modRail r fun x => { x with pg := good }
  let x := s.rail r
  if x.armed then
    if good then s.modRail r fun x => { x with badRun := false }
    else if x.badRun then s
    else
      let seen := (s.stepMates r).any fun q => (s.rail q).chatterSeen
      let s := (s.modRail r fun x => { x with badRun := true, chatterSeen := true }).bump (K.SEQ_PG_CHATTER r)
      if seen then s else s.raise Ev.seq 5
  else s.modRail r fun x =>
    { x with pglFrom := if !good && s.pgLossOn r then some (x.pglFrom.getD s.now) else none }

/-- PG has held for TPGQ (R153). -/
def pgQualified (s : State) (r : Fin 32) : State :=
  if (s.rail r).armed && (s.rail r).pg then s.qualify r else s

/-! ### FOG (R160, R161) -/

/-- The lowest-numbered group that is RISING or FALLING. -/
def movingGroup (s : State) : Option (Fin 16) :=
  (List.finRange 16).find? fun g => decide ((s.group g).st = .rising) || decide ((s.group g).st = .falling)

/-- Some rail is neither OFF nor UNBUILT. -/
def railsBusy (s : State) : Bool := s.rails.toList.any fun r => decide (r.st ≠ .off) && decide (r.st ≠ .unbuilt)

/-- FOG is monitored: `FOG_LISTEN`, the device's own drive released, in a mode that responds (R161). -/
def fogHeard (s : State) : Bool :=
  s.coopBit 1 && !s.seq.fogDrive &&
    (match s.modes.mode with
     | .idle | .ramp | .run | .constrained | .ride | .service | .dormant => true
     | _ => false)

/-- A filtered FOG low (R161). -/
def fogRecognised (s : State) : State :=
  let heard := s.fogHeard
  let s := { s with seq := { s.seq with fogBall := true, fogLow := s.seq.fogLow || heard } }
  if heard then
    let s := s.bump K.SEQ_FOG_EXT_COUNT
    if s.ramping || s.railsBusy then
      match s.movingGroup with
      | some g => s.seqFault g.val (s.grpStep g) 0xFF none .fogExternal
      | none => s.seqFault 0xFF 0xFF 0xFF none .fogExternal
    else s.raiseLater Ev.seq 6
  else s

/-- FOG has read high for 10 µs (R161). -/
def fogReleased (s : State) : State :=
  let was := s.seq.fogLow && !s.seq.fogDrive
  let s := { s with seq := { s.seq with fogBall := false, fogLow := s.seq.fogLow && !was } }
  if was then s.raiseLater Ev.seq 7 else s

/-! ### The legacy master (R165) -/

/-- The device is legacy master, the bus is free, and slave `k` is listed. -/
def masterPolls (s : State) (k : Fin 8) : Bool := s.slaveListed k && s.portsOpen && !s.bus.stuck && !s.bus.clearing

/-- The device controls the two-wire bus, as legacy master or for a bus clear (R389). -/
def drivesBus (s : State) : Bool := s.portsOpen && ((List.finRange 8).any s.masterPolls || s.bus.clearing)

/-- Some group's running step, up or down, names slave `k` (R165). -/
def stepNames (s : State) (k : Fin 8) : Bool :=
  (List.finRange 16).any fun g =>
    let x := s.group g
    ((decide (x.st = .rising) && decide (x.stage = .sent)) || (decide (x.st = .falling) && decide (x.stage = .downSent))) &&
      (match x.cur with | some j => (s.step j).slaves.testBit k.val | none => false)

/-- The transaction that runs with slave `k`: the first one owed, or else STATUS_READ where a running step names it. -/
def legacyRun (s : State) (k : Fin 8) : Option LegFrame :=
  match (s.slave k).owed with
  | f :: _ => some f
  | [] => if s.stepNames k && !(s.slave k).lost then some .statusRead else none

/-- The group whose running power-up step names slave `k`. -/
def slaveGroup (s : State) (k : Fin 8) : Option (Fin 16) :=
  (List.finRange 16).find? fun g =>
    let x := s.group g
    x.st = .rising && x.stage = .sent && (match x.cur with | some j => (s.step j).slaves.testBit k.val | none => false)

/-- Slave `k` is lost (R165); a running power-up step that names it is the sequence fault LEGACY_LOST. -/
def loseSlave (s : State) (k : Fin 8) : State :=
  let s := s.modSlave k fun x => { x with lost := true, fails := 0, retry := false, done := false, owed := [] }
  let s := (s.put K.SEQ_LEGACY_LOST (setBit (s.get K.SEQ_LEGACY_LOST) k)).raise Ev.seq 8
  match s.slaveGroup k with
  | some g => s.stepFault g 0xFF .legacyLost
  | none => s

/-- A status byte of slave `k` (R164, R165). -/
def slaveStatus (s : State) (k : Fin 8) (b : Nat) : State :=
  let s := s.put (K.SEQ_LEGACY_STATUS k) (b % 256 : Nat)
  match s.slaveGroup k with
  | some g =>
    if b.testBit 1 then s.stepFault g 0xFF .legacyFault
    else
      let stage := match (s.group g).cur with | some j => (s.step j).stage | none => 16
      if b.testBit 0 && b / 16 % 16 = stage then s.modSlave k fun x => { x with done := true } else s
  | none => s

/-- A transaction with slave `k` fails; the third in a row loses the slave (R165). -/
def slaveFails (s : State) (k : Fin 8) : State :=
  if 2 ≤ (s.slave k).fails then s.loseSlave k
  else s.modSlave k fun x => { x with fails := x.fails + 1, retry := true }

/-- The identity of slave `k` (R165): 0x4410 puts it to use again, any other loses it. -/
def slaveIdentity (s : State) (k : Fin 8) (d : Bytes) : State :=
  if d.take 2 = [0x10#8, 0x44#8] then
    (s.modSlave k fun x => { x with lost := false }).put K.SEQ_LEGACY_LOST ((s.getN K.SEQ_LEGACY_LOST &&& (0xFF ^^^ 2 ^ k.val) : Nat) : Int)
  else s.loseSlave k

/-- A transaction with slave `k` is complete and its reply's CRC matches (R164, R165). -/
def legacyDone (s : State) (k : Fin 8) (f : LegFrame) (d : Bytes) : State :=
  let s := s.modSlave k fun x => { x with fails := 0, retry := false, owed := x.owed.drop 1 }
  match f with
  | .idRead => s.slaveIdentity k d
  | .statusRead => s.slaveStatus k (ofLE d)
  | .stageGo _ | .stageDown _ => s

/-- The device releases SDA and starts the nine clocks of a bus clear (R197, R390). -/
def startBusClear (s : State) : State := { s with bus := { s.bus with clearing := true } }

/-- The transaction that runs with slave `k` ends (R165): a lost arbitration is counted and reported as well (R389), and SDA low at a
START or STOP revokes the bus (R194). -/
def legacyReply (s : State) (k : Fin 8) (r : LegacyReply) : State :=
  match s.legacyRun k with
  | none => s
  | some f =>
    let s := { s with bus := { s.bus with sent := f.bytes (0x58 + k.val) } }
    match r with
    | .nack => s.slaveFails k
    | .arbLost => ((s.bump K.LP_TW_ARB_LOST).raise Ev.lp 5).slaveFails k
    | .sdaLow => ((s.modSlave k fun x => { x with retry := true }).leaseRevoked 1).startBusClear
    | .data bs => match f.reads (0x58 + k.val) bs with
      | some d => s.legacyDone k f d
      | none => s.slaveFails k

/-! ### The two-wire bus (R194, R197, R389, R390) -/

/-- The end of a bus clear: SDA low marks the bus STUCK, and every listed legacy slave is lost, which faults a running power-up step that
names it, the slave having been lost before or not (R165, R197). -/
def busClearDone (s : State) (sdaLow : Bool) : State :=
  if s.bus.clearing then
    let s := ({ s with bus := { s.bus with clearing := false, stuck := s.bus.stuck || sdaLow } }).bump K.LP_TW_CLEARS
    if sdaLow then
      let s := s.raiseLater Ev.sup 5
      (List.finRange 8).foldl (fun (s : State) (k : Fin 8) =>
        if !s.slaveListed k then s
        else if (s.slave k).lost then
          match s.slaveGroup k with
          | some g => s.stepFault g 0xFF .legacyLost
          | none => s
        else s.loseSlave k) s
    else s
  else s

end State

open State

/-! ### The commands -/

/-- GRP_CMD_POWER_UP (R145). -/
def execGrpCmdPowerUp (acc : Accessor) (g : Fin 16) (s : State) : Out :=
  .next (s.access acc fun s => s.writeGrpCmd acc g 1)

/-- GRP_CMD_POWER_DOWN (R156). -/
def execGrpCmdPowerDown (acc : Accessor) (g : Fin 16) (s : State) : Out :=
  .next (s.access acc fun s => s.writeGrpCmd acc g 0)

/-- GROUP_GATES_OPEN (R147). -/
def execGroupGatesOpen (g : Fin 16) (s : State) : Out := .next (s.gateTick g)

/-- STEP_DELAY_ELAPSED (R151). -/
def execStepDelayElapsed (g : Fin 16) (s : State) : Out := .next (s.stepGo g)

/-- STEP_COMPLETE (R152). -/
def execStepComplete (g : Fin 16) (s : State) : Out := .next (s.stepDone g)

/-- STEP_TIMEOUT (R152). -/
def execStepTimeout (g : Fin 16) (s : State) : Out := .next (s.stepTimeout g)

/-- PG_SAMPLE (R153): `v` is the rail's voltage in mV as its tiles send it. -/
def execPgSample (r : Fin 32) (v : Int) (s : State) : Out := .next (s.pgSample r v)

/-- PG_QUALIFIED (R153). -/
def execPgQualified (r : Fin 32) (s : State) : Out := .next (s.pgQualified r)

/-- STEP_OFF_DELAY_ELAPSED (R155). -/
def execStepOffDelayElapsed (g : Fin 16) (s : State) : Out := .next (s.stepOff g)

/-- STEP_RAILS_DOWN (R155). -/
def execStepRailsDown (g : Fin 16) (s : State) : Out := .next (s.stepFallen g)

/-- SEQ_CHATTER_CLEAR (R169): the write of 0x5A. -/
def execSeqChatterClear (acc : Accessor) (s : State) : Out := .next (s.access acc fun s => s.writeChatterClear acc 0x5A)

/-- FOG_LOW_RECOGNISED (R161). -/
def execFogLowRecognised (s : State) : Out := .next s.fogRecognised

/-- FOG_RELEASED (R161). -/
def execFogReleased (s : State) : Out := .next s.fogReleased

/-- BELL_RING (R163). -/
def execBellRing (s : State) : Out := .next s.bellRing

/-- BELL_HOLD_END (R163). -/
def execBellHoldEnd (s : State) : Out := .next s.bellGo

/-- BELL_TIMEOUT (R163). -/
def execBellTimeout (s : State) : Out := .next s.bellTimeout

/-- LEGACY_POLL (R165): the end of a first attempt, of STATUS_READ or of a transaction that the master owes the slave. -/
def execLegacyPoll (k : Fin 8) (reply : LegacyReply) (s : State) : Out :=
  .next (if s.masterPolls k && !(s.slave k).retry then s.legacyReply k reply else s)

/-- LEGACY_RETRY (R165): the end of the attempt that follows 100 µs after a failed one. -/
def execLegacyRetry (k : Fin 8) (reply : LegacyReply) (s : State) : Out :=
  .next (if s.masterPolls k && (s.slave k).retry then s.legacyReply k reply else s)

/-- SCL_STRETCH_TIMEOUT (R389, R194): a target holds SCL low while the device controls the bus, for the legacy master or a bus clear;
the bus lease is revoked and the bus clear starts. -/
def execSclStretchTimeout (s : State) : Out := .next (if s.drivesBus then (s.leaseRevoked 1).startBusClear else s)

/-- BUS_CLEAR_SAMPLE (R390). -/
def execBusClearSample (sdaLow : Bool) (s : State) : Out := .next (s.busClearDone sdaLow)

/-- BUS_CLEAR_REPEAT (R197). -/
def execBusClearRepeat (s : State) : Out := .next (if s.bus.stuck && s.portsOpen then s.startBusClear else s)

/-- TW_BUS_RECOVERED (R197). -/
def execTwBusRecovered (s : State) : Out :=
  .next (if s.bus.stuck then ({ s with bus := { s.bus with stuck := false } }).raiseLater Ev.sup 6 else s)

end Sys2Proof.Machine
end

