-- ==== Sys2Proof/Machine/Supervision.lean ====
section
/-! DEFINITION. The detectors of supervision and the writes of chapter 7 (R172–R183, R199). -/

namespace Sys2Proof.Machine
namespace State

/-- The ramp reference that the OV and UV windows follow, in µV (R104, R113). -/
def windowRef (s : State) (r : Fin 32) : Int :=
  if s.coilMode r then (s.rail r).coilR * 1000 else (s.rail r).refAt s.now

/-- Tracking OV is armed: from RAMP_UP or PULL_IN until DISCHARGE (R173). -/
def ovTracks (s : State) (r : Fin 32) : Bool :=
  match (s.rail r).st with
  | .rampUp | .up | .offDelay | .rampDown | .pullIn | .hold => true
  | _ => false

/-- Tile `t` holds a non-isolated member of rail `r` (R172). -/
def holdsMember (s : State) (r : Fin 32) (t : Fin 8) : Bool := (s.usableMembers r).any fun p => decide (tileOf p = t)

/-- A rail over-voltage at tile `t` (R173), tracking or static. -/
def railOv (s : State) (r : Fin 32) (t : Fin 8) (v : Int) (stamp : Option Nat) : State :=
  let m := s.get (K.SUP_OV_MARGIN r)
  let high := (s.ovTracks r && decide (s.windowRef r + m * 1000 < v * 1000)) ||
    (decide ((s.rail r).st ≠ .unbuilt) && decide (s.get (K.RAIL_VMAX r) + m < v))
  if s.holdsMember r t && high then s.tileFault ⟨0x01, .rail, r.val, t.val⟩ stamp else s

/-- A rail under-voltage at the lead tile (R173). -/
def railUv (s : State) (r : Fin 32) (v : Int) (stamp : Option Nat) : State :=
  if s.uvArmed r && decide (v * 1000 < s.windowRef r - s.get (K.SUP_UV_MARGIN r) * 1000) then
    s.tileFault ⟨0x02, .rail, r.val, s.leadTile r⟩ stamp
  else s

/-- PG has been false for `SUP_TPGL` (R173, R175). -/
def pgLoss (s : State) (r : Fin 32) (stamp : Option Nat) : State :=
  if s.pgLossOn r && !(s.rail r).pg then s.tileFault ⟨0x04, .rail, r.val, s.leadTile r⟩ stamp else s

/-- Four consecutive readings in mA are a phase over-current: each, less the bias offset, is 1.25 × `PH_ILIM_PEAK` or more in magnitude
(R72, R173). -/
def overCurrent (s : State) (p : Fin 56) (readings : Vector Int 4) : Bool :=
  readings.toList.all fun i => decide (5 * s.get (K.PH_ILIM_PEAK p) ≤ 4 * ((i - (s.phase p).offset).natAbs : Int))

/-- A phase over-current (R173). -/
def phaseOc (s : State) (p : Fin 56) (readings : Vector Int 4) (stamp : Option Nat) : State :=
  if (s.phase p).st.inUse && s.overCurrent p readings then s.tileFault ⟨0x05, .phase, p.val, (tileOf p).val⟩ stamp else s

/-- A tile's mean of rail voltage is off the lead tile's by more than 2 % of target (R176). -/
def senseDisagree (s : State) (r : Fin 32) (t : Fin 8) (v lead : Int) : State :=
  let holds := (s.activeMembers r).any fun p => decide (tileOf p = t)
  if holds && decide ((s.rail r).ref.target < 50000 * ((v - lead).natAbs : Int)) then s.raise Ev.sup 7 else s

/-- A write of `SUP_QUENCH` (R179). -/
def writeSupQuench (s : State) (acc : Accessor) (v : Nat) : Res :=
  s.writeVia acc K.SUP_QUENCH 1 fun s =>
    if !s.installerUp acc then .error .roleDenied
    else if !s.faultMode then .error .modeForbids
    else if v ≠ 0xA5 then .error .outOfRange
    else .ok (s.railFault ⟨0x0A, .keeper, 0, 0⟩ (some s.now), .done)

/-- A write of `SUP_SNAP_TAKE` (R185). -/
def writeSnapTake (s : State) (acc : Accessor) (v : Nat) : Res :=
  s.writeVia acc K.SUP_SNAP_TAKE 1 fun s =>
    if v ≠ 0x5A then .error .outOfRange
    else if s.modes.holdup then .error .busy
    else .ok (s.snapNow ⟨0x00, .none, 0xFF, 0⟩ true, .done)

/-- A write of `SUP_SNAP_CLEAR` (R199). -/
def writeSnapClear (s : State) (acc : Accessor) (v : Nat) : Res :=
  s.writeVia acc K.SUP_SNAP_CLEAR 1 fun s =>
    if !s.installerUp acc then .error .roleDenied
    else if v ≠ 0x5A then .error .outOfRange
    else .ok (s.eraseMram 0x182000 0x8000, .done)

end State

open State

/-- RAIL_OV_TRIP (R173): tile `t` reads `v` mV on rail `r` for the deglitch; `stamp` is its stamp of T, once arrived. -/
def execRailOvTrip (r : Fin 32) (t : Fin 8) (v : Int) (stamp : Option Nat) (s : State) : Out := .next (s.railOv r t v stamp)

/-- RAIL_UV_TRIP (R173). -/
def execRailUvTrip (r : Fin 32) (v : Int) (stamp : Option Nat) (s : State) : Out := .next (s.railUv r v stamp)

/-- PG_LOSS_TRIP (R173). -/
def execPgLossTrip (r : Fin 32) (stamp : Option Nat) (s : State) : Out := .next (s.pgLoss r stamp)

/-- PHASE_OC_TRIP (R173): on four consecutive readings. -/
def execPhaseOcTrip (p : Fin 56) (readings : Vector Int 4) (stamp : Option Nat) (s : State) : Out := .next (s.phaseOc p readings stamp)

/-- TRIGGER_STAMP_TIMEOUT (R183): the estimates stand, TIME_ESTIMATED with them. -/
def execTriggerStampTimeout (s : State) : Out :=
  .next (s.modSup fun u => { u with awaitingStamp := false, triggers := u.triggers.map fun x => { x with awaiting := false } })

/-- SENSE_DISAGREE (R176). -/
def execSenseDisagree (r : Fin 32) (t : Fin 8) (v lead : Int) (s : State) : Out := .next (s.senseDisagree r t v lead)

/-- SUP_QUENCH (R179): the write of 0xA5. -/
def execSupQuench (acc : Accessor) (s : State) : Out := .next (s.access acc fun s => s.writeSupQuench acc 0xA5)

/-- SUP_SNAP_TAKE (R185): the write of 0x5A. -/
def execSupSnapTake (acc : Accessor) (s : State) : Out := .next (s.access acc fun s => s.writeSnapTake acc 0x5A)

/-- SUP_SNAP_CLEAR (R199): the write of 0x5A. -/
def execSupSnapClear (acc : Accessor) (s : State) : Out := .next (s.access acc fun s => s.writeSnapClear acc 0x5A)

end Sys2Proof.Machine
end

