-- ==== Sys2Proof/Machine/Ledger.lean ====
section
/-! DEFINITION. The Erg ledger (R123–R142): demands, budgets, the decision on each tick, the fast limit and the energy
accounts. Powers are in µW, the product of mV and mA. -/

namespace Sys2Proof.Machine

/-- A power for each budget of R126: the input, the Keeper, the package loss, and each tile's loss. -/
structure Power where
  inp : Int := 0
  keeper : Int := 0
  pkg : Int := 0
  tiles : Vector Int 8 := Vector.replicate 8 0
  deriving DecidableEq, Repr

/-- Combine two powers budget by budget. -/
def Power.zip (f : Int → Int → Int) (a b : Power) : Power :=
  { inp := f a.inp b.inp, keeper := f a.keeper b.keeper, pkg := f a.pkg b.pkg, tiles := Vector.zipWith f a.tiles b.tiles }

/-- The values of a power in one list. -/
def Power.list (a : Power) : List Int := a.inp :: a.keeper :: a.pkg :: a.tiles.toList

/-- A power of losses per tile and an input power; the package loss is the tiles' sum. -/
def Power.ofTiles (inp : Int) (f : Fin 8 → Int) : Power :=
  let v := Vector.ofFn f
  { inp := inp, pkg := v.toList.sum, tiles := v }

/-- The highest value in `lo`–`hi` that `ok` accepts, by bisection; `ok` is to hold up to some value and not above it. -/
def highest (ok : Int → Bool) : Nat → Int → Int → Int
  | 0, lo, _ => lo
  | n + 1, lo, hi =>
    if hi ≤ lo then lo
    else
      let mid := (lo + hi + 1) / 2
      if ok mid then highest ok n mid hi else highest ok n lo (mid - 1)

namespace State

/-- Change the ledger. -/
def modLedger (s : State) (f : LedgerSt → LedgerSt) : State := { s with ledger := f s.ledger }

/-! ### Loss and demand (R123–R125) -/

/-- The full loss of a phase in µW at `i` mA (R123). -/
def fullLoss (s : State) (p : Fin 56) (i : Int) : Int :=
  let (pq, kfv, kfvi, rc) := if isBus p then (K.LEDGER_BUS_PQ, K.LEDGER_BUS_KFV, K.LEDGER_BUS_KFVI, K.LEDGER_BUS_RCOND)
    else (K.LEDGER_LV_PQ, K.LEDGER_LV_KFV, K.LEDGER_LV_KFVI, K.LEDGER_LV_RCOND)
  let a : Int := i.natAbs
  let v := s.get (K.PH_VBUS p)
  let f := s.get (K.PH_FSW p)
  s.get pq * 1000 + quot (s.get kfv * f * v * 1000 + s.get kfvi * f * v * a + a * a * s.get rc * 1000) 1000000000

/-- The loss of a phase over the tick in µW: the part of its switching cycles in which it was ACTIVE counts (R123). -/
def tickLoss (s : State) (p : Fin 56) : Int :=
  let x := s.phase p
  if x.cycles = 0 then (if x.st = .active then s.fullLoss p (s.get (K.PH_I p)) else 0)
  else quot (s.fullLoss p (s.get (K.PH_I p)) * x.actCycles) x.cycles

/-- The output power of the AUX outputs. -/
def auxPower (s : State) : Int := ((List.range 4).map fun k => s.get (K.AUX_V k) * s.get (K.AUX_I k)).sum

/-- The charger switches. -/
def charging (s : State) : Bool :=
  match s.chg.st with
  | .precharge | .fastCc | .fastCv => true
  | _ => false

/-- p_chg in µW at a charge current (R124). -/
def chargerInput (s : State) (i : Int) : Int := quot (i * s.get K.PP_VBAT * 1000) (s.get K.LEDGER_CHG_EFF)

/-- The demands of the tick (R124). -/
def demand (s : State) : Power :=
  let losses (t : Fin 8) : Int :=
    ((tilePhases t).map s.tickLoss).sum + (if s.tilePowered t then s.get K.LEDGER_TILE_BASE * 1000 else 0)
  let d := Power.ofTiles 0 losses
  let pre := s.ledger.preIn * 1000
  let keeper := pre - s.auxPower
  let rails := ((List.range 32).map fun n => s.get (K.RAIL_V n) * s.get (K.RAIL_I n)).sum
  let inp := rails + d.pkg + pre + s.ledger.pChg
  let inp := if s.ledger.short then max inp (s.ledger.lastFast * s.get K.PP_VBUS) else inp
  { d with inp := inp, keeper := keeper, pkg := d.pkg + keeper }

/-! ### Budgets (R126, R127) -/

/-- The derating of tile `t` as a share of `LEDGER_TDERATE_END` − `LEDGER_TDERATE_START` (R127). -/
def derating (s : State) (t : Fin 8) : Int × Int :=
  let e := s.get K.LEDGER_TDERATE_END
  let span := e - s.get K.LEDGER_TDERATE_START
  (clampInt 0 span (e - s.ledgerTemp t), span)

/-- A loss limit in mW under the derating of tile `t`, in µW. -/
def deratedLimit (s : State) (t : Fin 8) (mw : Int) : Int :=
  let (n, d) := s.derating t
  quot (mw * 1000 * n) d

/-- The budgets in force (R126). -/
def budget (s : State) : Power :=
  let r := 1000 - s.get K.LEDGER_IN_RESERVE
  let inp :=
    if s.get K.LEDGER_SOURCE = 0 then s.get K.LEDGER_VIN_PMAX * r
    else quot (min (s.get K.LEDGER_BAT_PMAX * 1000) (s.get K.PP_VBAT * s.get K.LEDGER_BAT_IMAX) * r) 1000
  let keeper := s.deratedLimit 0 1800
  let tile (t : Fin 8) : Int := if t = 0 then 0 else s.deratedLimit t (s.get K.LEDGER_TILE_LOSS_MAX)
  let sum := (((List.finRange 8).filter s.tilePowered).map tile).sum
  { inp := inp, keeper := keeper, pkg := min (s.get K.LEDGER_PKG_LOSS_MAX * 1000) (keeper + sum), tiles := Vector.ofFn tile }

/-! ### Classes (R128, R129) -/

/-- A rail's class: 0 ESSENTIAL, 1 DEFERRABLE, 2 CAPPABLE, 3 SHEDDABLE; a CAPPABLE coil rail counts as DEFERRABLE (R129). -/
def classOf (s : State) (r : Fin 32) : Int :=
  let c := s.get (K.RAIL_CLASS r)
  if c = 2 && s.coilMode r then 1 else c

/-- A rail is in UP or HOLD. -/
def railUp (s : State) (r : Fin 32) : Bool := decide ((s.rail r).st = .up) || decide ((s.rail r).st = .hold)

/-- A rail's cap floor. -/
def capFloor (s : State) (r : Fin 32) : Int := s.get (K.LEDGER_CAP_FLOOR r)

/-! ### Predictions (R132, R134) -/

/-- The modelled loss of a rail at `i` mA shared evenly over `ps`, per tile, with an input power. -/
def lossOver (s : State) (ps : List (Fin 56)) (i inp : Int) : Power :=
  let each := quot i (max 1 ps.length)
  Power.ofTiles inp fun t => ((ps.filter fun p => decide (tileOf p = t)).map fun p => s.fullLoss p each).sum

/-- The predicted current of a rail in mA (R134). -/
def predicted (s : State) (r : Fin 32) : Int :=
  let p := s.get (K.LEDGER_P_PREDICT r)
  let ms := (s.rail r).members
  if p ≠ 0 then (if s.get (K.RAIL_VSET r) = 0 then 0 else quot (p * 1000) (s.get (K.RAIL_VSET r)))
  else match ms.head? with
    | some q => s.get (K.PH_ILIM_AVG q) * ms.length
    | none => 0

/-- The demand of a rail at `i` mA and its set voltage (R134). -/
def predict (s : State) (r : Fin 32) (i : Int) : Power := s.lossOver (s.rail r).members i (s.get (K.RAIL_VSET r) * i)

/-- The predicted demand of a rail: `LEDGER_P_PREDICT` itself where it is not 0 (R134). -/
def predictFull (s : State) (r : Fin 32) : Power :=
  let p := s.get (K.LEDGER_P_PREDICT r)
  let d := s.predict r (s.predicted r)
  if p ≠ 0 then { d with inp := p * 1000 } else d

/-- Committed demand: the predicted demand of every rail admitted that has not yet passed one full tick up (R134). -/
def committedDemand (s : State) : Power := s.ledger.committed.foldl (fun a r => Power.zip (· + ·) a (s.predictFull r)) {}

/-- Every demand, with what is committed and `extra`, is at or below `num` thousandths of its budget (R134, R135). DEDUCED (log 181): what
is committed counts in the test of a restore as well. -/
def fits (s : State) (extra : Power) (num : Int) : Bool :=
  let d := Power.zip (· + ·) (Power.zip (· + ·) s.demand s.committedDemand) extra
  (d.list.zip s.budget.list).all fun x => decide (1000 * x.1 ≤ num * x.2)

/-! ### Caps (R108, R133, R138) -/

/-- `LEDGER_RAIL_ACTION` of a rail (R141). -/
def railAction (s : State) (r : Fin 32) : Int :=
  if s.ledger.fast[r].isSome then 4
  else if (s.rail r).shed then 3
  else if s.ledger.caps[r].isSome then 2
  else if (List.finRange 16).any fun g =>
      (s.group g).deferred && (match (s.group g).cur with | some k => (s.step k).railList.contains r | none => false) then 1
  else 0

/-- The ledger's constraint (R138), and the objects that show it. -/
def showLedger (s : State) : State :=
  let s := (List.finRange 32).foldl (fun (s : State) (r : Fin 32) =>
    s.puts [(K.LEDGER_RAIL_ACTION r, s.railAction r), (K.LEDGER_RAIL_CAP r, ((s.ledger.fast[r]).orElse fun _ => s.ledger.caps[r]).getD (-1))]) s
  let s := s.put K.LEDGER_CHG_CAP (s.chg.cap.getD (-1))
  let held := s.chg.cap.isSome || (List.finRange 16).any (fun g => (s.group g).deferred) ||
    (List.finRange 32).any (fun r => (s.rail r).shed || s.ledger.caps[r].isSome || s.ledger.fast[r].isSome)
  s.modLedger fun l => { l with constrained := held }

/-- A ledger cap on a rail, whose current before it was `pre`; it acts at its apply tick (R133). DEDUCED (log 180): a lower ledger cap
in force stands. -/
def setCap (s : State) (r : Fin 32) (c pre : Int) : State :=
  let s := if s.ledger.caps[r].isSome || s.ledger.fast[r].isSome then s else s.raise Ev.ledger 2
  let c := match s.ledger.caps[r] with | some d => min c d | none => c
  (s.modLedger fun l => { l with caps := l.caps.set r (some c), before := l.before.set r (max l.before[r] pre) }).sendRail r (.cap (some c))

/-- A ledger cap on the charger; a lower one in force stands (DEDUCED, log 180). -/
def setChargerCap (s : State) (c pre : Int) : State :=
  let s := if s.chg.cap.isSome then s else s.raise Ev.ledger 9
  let c := match s.chg.cap with | some d => min c d | none => c
  ({ s with chg := { s.chg with cap := some c } }).modLedger fun l => { l with chgBefore := max l.chgBefore pre }

/-! ### Step 3: reduction (R130–R132) -/

/-- A load of the reduction order. -/
inductive Load
  | charger | rail (r : Fin 32)
  deriving DecidableEq, Repr

/-- The loads by ascending priority; among equals the charger, then the rails in descending number (R130). -/
def reductionOrder (s : State) : List Load :=
  (List.range 8).flatMap fun q =>
    (if s.get K.LEDGER_CHG_PRIORITY = q then [Load.charger] else []) ++
      (((List.finRange 32).reverse.filter fun (r : Fin 32) => decide (s.get (K.RAIL_PRIORITY r) = q)).map Load.rail)

/-- A relief covers every remaining need that the load can relieve at all. -/
def covers (needs most relief : Power) : Bool :=
  (needs.list.zip (most.list.zip relief.list)).all fun x => decide (x.1 ≤ 0) || decide (x.2.1 ≤ 0) || decide (x.1 ≤ x.2.2)

/-- A relief touches some remaining need. -/
def relieves (needs relief : Power) : Bool := (needs.list.zip relief.list).any fun x => decide (0 < x.1) && decide (0 < x.2)

/-- The relief of a cap at `c` on a CAPPABLE rail (R132). -/
def capRelief (s : State) (r : Fin 32) (c : Int) : Power :=
  let i := s.get (K.RAIL_I r)
  let ps := s.activeMembers r
  Power.zip (· - ·) (s.lossOver ps i ((i - c) * s.get (K.RAIL_V r))) (s.lossOver ps c 0)

/-- The cap that a CAPPABLE load takes: the highest that covers, or its floor (R131). -/
def chooseCap (needs : Power) (relief : Int → Power) (floor i : Int) : Int :=
  if covers needs (relief floor) (relief floor) then highest (fun c => covers needs (relief floor) (relief c)) 64 floor i else floor

/-- One load of step 3: the machine, the needs left, and whether some action was taken. -/
def reduceLoad (a : State × Power × Bool) (x : Load) : State × Power × Bool :=
  let (s, needs, _) := a
  match x with
  | .charger =>
    let i := s.get K.CHG_I
    let relief (c : Int) : Power := { inp := s.chargerInput (i - c) }
    if s.charging && 0 < i && relieves needs (relief 0) then
      let c := chooseCap needs relief 0 i
      (s.setChargerCap c i, Power.zip (· - ·) needs (relief c), true)
    else a
  | .rail r =>
    if !s.railUp r || (s.rail r).cmds.contains .down then a
    else if s.classOf r = 2 then
      let i := s.get (K.RAIL_I r)
      let lo := s.capFloor r
      if lo < i && relieves needs (s.capRelief r lo) then
        let c := chooseCap needs (s.capRelief r) lo i
        (s.setCap r c i, Power.zip (· - ·) needs (s.capRelief r c), true)
      else a
    else if s.classOf r = 3 && s.modes.mode ≠ .service then
      let i := s.get (K.RAIL_I r)
      let relief := s.lossOver (s.activeMembers r) i (s.get (K.RAIL_V r) * i)
      if relieves needs relief then
        let s := (s.sendRail r .down).modRail r fun x => { x with shed := true }
        (((s.raise Ev.ledger 3).bump K.LEDGER_SHED_COUNT), Power.zip (· - ·) needs relief, true)
      else a
    else a

/-! ### Step 5: admission and restoring (R134, R135) -/

/-- The step that a group asks about: its rails (R151). -/
def askedRails (s : State) (g : Fin 16) : List (Fin 32) :=
  let x := s.group g
  if x.st = .rising && x.stage = .asking && !x.admitted then (match x.cur with | some k => (s.step k).railList | none => []) else []

/-- A step is admitted; its rails count as committed. -/
def admitAt (s : State) (g : Fin 16) (rails : List (Fin 32)) : State :=
  let s := if (s.group g).deferred then s.raise Ev.ledger 1 else s
  let s := s.modLedger fun l => { l with committed := (l.committed.filter fun r => !rails.contains r) ++ rails }
  s.modGroup g fun x => { x with admitted := true, deferred := false, wait := .stepDelay }

/-- What a rail of a pending step counts at least: a CAPPABLE one at its floor (R134). -/
def predictLow (s : State) (r : Fin 32) : Power :=
  if s.classOf r = 2 then s.predict r (s.capFloor r) else s.predictFull r

/-- A CAPPABLE rail of an admitted step: it starts with the highest cap that fits beside `rest`, not below its floor
(R134). Answers the machine and what the rail then takes. -/
def startCap (s : State) (r : Fin 32) (rest : Power) : State × Power :=
  let full := s.predicted r
  let ok (c : Int) : Bool := s.fits (Power.zip (· + ·) rest (s.predict r c)) 1000
  if s.classOf r ≠ 2 || s.fits (Power.zip (· + ·) rest (s.predictFull r)) 1000 then (s, s.predictFull r)
  else
    let lo := s.capFloor r
    let c := if ok lo then highest ok 64 lo full else lo
    (s.setCap r c full, s.predict r c)

/-- Admit a step: each CAPPABLE rail in ascending number takes what the others leave (R134). -/
def admitStep (s : State) (g : Fin 16) : State :=
  let rs := s.askedRails g
  let (s, _) := rs.foldl (fun (a : State × List (Fin 32 × Power)) r =>
    let (s, done) := a
    let others := (rs.filter fun q => decide (q ≠ r) && !(done.map Prod.fst).contains q).map s.predictLow
    let rest := (done.map Prod.snd ++ others).foldl (Power.zip (· + ·)) {}
    let (s, d) := s.startCap r rest
    (s, done ++ [(r, d)])) (s, [])
  s.admitAt g rs

/-- A step without an ESSENTIAL rail fits, its CAPPABLE rails at their floors (R134). -/
def stepFits (s : State) (g : Fin 16) : Bool := s.fits (((s.askedRails g).map s.predictLow).foldl (Power.zip (· + ·)) {}) 1000

/-- A candidate of step 5. -/
inductive Cand
  | step (g : Fin 16) | rail (r : Fin 32) | charger
  deriving DecidableEq, Repr

/-- A rail on its way up or down is left alone until it is up or OFF (R129). -/
def leftAlone (s : State) (r : Fin 32) : Bool :=
  match (s.rail r).st with
  | .onDelay | .prebias | .rampUp | .pullIn | .offDelay | .rampDown | .discharge => true
  | _ => false

/-- The candidates by descending priority: pending steps, then restores in the reverse of the reduction order (R135). A shed
rail is one once it is OFF. -/
def candidates (s : State) : List Cand :=
  (List.range 8).reverse.flatMap fun q =>
    (((List.finRange 16).filter fun g =>
        !(s.askedRails g).isEmpty && decide (((s.askedRails g).map fun (r : Fin 32) => s.getN (K.RAIL_PRIORITY r)).foldl max 0 = q)).map Cand.step) ++
      (((List.finRange 32).filter fun (r : Fin 32) =>
        decide (s.get (K.RAIL_PRIORITY r) = q) &&
          ((s.ledger.caps[r].isSome && !s.leftAlone r) || ((s.rail r).shed && decide ((s.rail r).st = .off)))).map Cand.rail) ++
      (if s.get K.LEDGER_CHG_PRIORITY = q && s.chg.cap.isSome then [Cand.charger] else [])

/-- The share of a budget that a restore may reach (R135). -/
def restoreNum (s : State) : Int := 1000 - s.get K.LEDGER_RESTORE_HYST

/-- A shed rail is powered up again where its prediction fits (R135). -/
def restoreShed (s : State) (r : Fin 32) : State :=
  if s.fits (s.predictFull r) s.restoreNum then
    let s := (s.sendRail r .up).modRail r fun x => { x with shed := false }
    (s.modLedger fun l => { l with committed := l.committed ++ [r] }).raise Ev.ledger 4
  else s

/-- A ledger cap is raised, or removed where everything fits without it or the raised value reaches the hardware sum (R135). DESIGN
CHOICE (log 138): the uncapped value of a rail that its cap limits (R111) is the highest current remembered from before the cap, at
`RAIL_VSET`; a rail that its cap does not limit stands at its present value, which removing the cap does not change. -/
def restoreCap (s : State) (r : Fin 32) (old : Int) : State :=
  let i := s.get (K.RAIL_I r)
  let now := i * s.get (K.RAIL_V r)
  let want := if (s.rail r).capped then max i s.ledger.before[r] else i
  let ps := s.activeMembers r
  let power (c : Int) : Int := if (s.rail r).capped then min c want * s.get (K.RAIL_VSET r) else now
  let ok (c : Int) : Bool :=
    s.fits (Power.zip (· - ·) (s.lossOver ps (min c want) (power c - now)) (s.lossOver ps i 0)) s.restoreNum
  let top := s.hardwareSum r
  let c := highest ok 64 (old + 1) (max (old + 1) want)
  if ok (max want top) || (ok (old + 1) && decide (top ≤ c)) then
    let s := s.modLedger fun l => { l with caps := l.caps.set r none, before := l.before.set r 0 }
    (s.sendRail r (.cap none)).raise Ev.ledger 4
  else if ok (old + 1) then
    (s.modLedger fun l => { l with caps := l.caps.set r (some c) }).sendRail r (.cap (some c))
  else s

/-- ICHG_eff (R243). -/
def ichgEff (s : State) : Int := if s.chg.wdFallback then min (s.get K.CHG_ICHG) (s.get K.CHG_SAFE_ICHG) else s.get K.CHG_ICHG

/-- f_zone. -/
def fZone (s : State) : Int := if s.chg.zone < 5 then s.get (K.CHG_ZONE_I s.chg.zone) else 0

/-- The charger's set point without a ledger cap (R236). -/
def setPoint (s : State) : Int := if s.chg.st = .precharge then s.get K.CHG_IPRE else quot (s.ichgEff * s.fZone) 1000

/-- A ledger cap or a fast trip holds the charger's current down: its cap of 0 mA or the trip has it SUSPENDED, or it is in its current
loop. -/
def chargerHeld (s : State) : Bool :=
  s.chg.fastStop || (decide (s.chg.st = .suspended) && decide (s.chg.cap = some 0)) || (s.charging && !s.chg.voltageLoop)

/-- The charger's cap is raised or removed; a charger stopped by a fast trip starts again with it (R135, R137). Its uncapped value is
the current from before the cap where the cap or the trip holds it down, and its present one otherwise (DESIGN CHOICE, log 138). A raised
cap that reaches the set point is removed. -/
def restoreCharger (s : State) (old : Int) : State :=
  let i := s.get K.CHG_I
  let want := if s.chargerHeld then max i s.ledger.chgBefore else i
  let ok (c : Int) : Bool := s.fits { inp := s.chargerInput (min c want - i) } s.restoreNum
  let c := highest ok 64 (old + 1) (max (old + 1) want)
  if ok want || (ok (old + 1) && decide (s.setPoint ≤ c)) then
    let s := { s with chg := { s.chg with cap := none, fastStop := false } }
    (s.modLedger fun l => { l with chgBefore := 0 }).raise Ev.ledger 4
  else if ok (old + 1) then { s with chg := { s.chg with cap := some c, fastStop := false } }
  else s

/-- One candidate of step 5; the flag says that a restore was considered in this tick. The first restore candidate decides:
those behind it are not reached. -/
def offerOne (may : Bool) (a : State × Bool) (c : Cand) : State × Bool :=
  let (s, done) := a
  match c with
  | .step g => (if s.stepFits g then s.admitStep g else s, done)
  | .rail r =>
    if done || !may then a
    else match s.ledger.caps[r] with
      | some old => (s.restoreCap r old, true)
      | none => (s.restoreShed r, true)
  | .charger =>
    if done || !may then a
    else match s.chg.cap with
      | some old => (s.restoreCharger old, true)
      | none => a

/-- The pending steps that are not admitted are deferred (R134). -/
def deferRest (s : State) : State :=
  (List.finRange 16).foldl (fun (s : State) (g : Fin 16) =>
    if (s.askedRails g).isEmpty || (s.group g).deferred then s
    else ((s.modGroup g fun x => { x with deferred := true }).raise Ev.ledger 0).bump K.LEDGER_DEFER_COUNT) s

/-- Steps 5 and 6 outside SERVICE. -/
def offerAll (s : State) (acted : Bool) : State :=
  let s := (List.finRange 16).foldl (fun (s : State) (g : Fin 16) =>
    if (s.askedRails g).any fun r => decide (s.classOf r = 0) then s.admitStep g else s) s
  let dwell := match s.ledger.sinceCut with | some n => decide (s.getN K.LEDGER_RESTORE_DWELL ≤ n) | none => true
  let s := if acted then s else (s.candidates.foldl (offerOne (dwell && !s.ledger.tripped)) (s, false)).1
  s.deferRest

/-! ### The tick -/

/-- An admission stands: the rail is up or on its way up, or a rising step names it. One that has been powered down was
withdrawn. -/
def stillAdmitted (s : State) (r : Fin 32) : Bool :=
  let x := s.rail r
  x.cmds.contains .up || x.deferredUp ||
    (match x.st with | .onDelay | .prebias | .rampUp | .up | .pullIn | .hold => true | _ => false) ||
    (List.finRange 16).any fun g =>
      decide ((s.group g).st = .rising) && (match (s.group g).cur with | some k => (s.step k).railList.contains r | none => false)

/-- The rails that passed one full tick in UP or HOLD are no longer committed, nor those whose admission was withdrawn
(R134). -/
def ageCommitted (s : State) : State :=
  let up := (List.finRange 32).filter s.railUp
  s.modLedger fun l =>
    { l with committed := l.committed.filter fun r => s.stillAdmitted r && !(up.contains r && l.seenUp.contains r),
             seenUp := up }

/-- Step 1: the demands and budgets are shown, with the source and the derating (R124, R126, R127). DEDUCED (log 179): each is rounded
down to whole mW. -/
def formDemands (s : State) : State :=
  let src : Int := if s.onBattery then 1 else 0
  let was := s.get K.LEDGER_SOURCE
  let s := (s.put K.LEDGER_SOURCE src).modLedger fun l => { l with pChg := if s.charging then s.chargerInput (s.get K.CHG_I) else 0 }
  let s := if src = was then s else s.raise Ev.ledger 8
  let s := (List.finRange 56).foldl (fun (s : State) (p : Fin 56) => s.put (K.PH_LOSS p) (s.tickLoss p / 1000)) s
  let d := s.demand
  let b := s.budget
  let low := (List.finRange 8).any fun t => s.tileFitted t && decide ((s.derating t).1 < (s.derating t).2)
  let s := if low && !s.ledger.derated then s.raise Ev.ledger 10 else s
  let s := s.modLedger fun l => { l with derated := low }
  let s := s.puts [(K.LEDGER_P_IN, d.inp / 1000), (K.LEDGER_B_IN, b.inp / 1000), (K.LEDGER_P_PKG, d.pkg / 1000),
    (K.LEDGER_B_PKG, b.pkg / 1000), (K.LEDGER_P_KEEPER, d.keeper / 1000), (K.LEDGER_B_KEEPER, b.keeper / 1000),
    (K.LEDGER_I_FAST, s.ledger.maxFast)]
  (List.finRange 8).foldl (fun (s : State) (t : Fin 8) =>
    if t = 0 then s
    else s.puts [(K.LEDGER_P_TILE (t.val - 1), d.tiles[t] / 1000), (K.LEDGER_B_TILE (t.val - 1), b.tiles[t] / 1000)]) s

/-- Step 2: the fast caps of the tick become ledger caps (R131). -/
def convertFast (s : State) : State :=
  (List.finRange 32).foldl (fun (s : State) (r : Fin 32) =>
    match s.ledger.fast[r] with
    | some c =>
      let s := s.setCap r c s.ledger.before[r]
      s.modLedger fun l => { l with fast := l.fast.set r none }
    | none => s) s

/-- The modes in which the ledger decides (R131), with the conditions of R43. -/
def ledgerMode (s : State) : Bool :=
  match s.modes.mode with
  | .idle | .ramp | .run | .constrained | .ride => true
  | _ => false

/-- The ledger's decision (R131). -/
def decideTick (s : State) : State :=
  let s := s.ageCommitted.convertFast
  let needs := Power.zip (· - ·) s.demand s.budget
  let (s, left, acted) := s.reductionOrder.foldl reduceLoad (s, needs, false)
  let s := s.modLedger fun l => { l with sinceCut := if acted then some 0 else l.sinceCut.map (· + 1) }
  if s.modes.mode = .service then
    ((List.finRange 16).foldl (fun (s : State) (g : Fin 16) =>
      if (s.askedRails g).isEmpty then s else s.admitAt g (s.askedRails g)) s).showLedger
  else
    let s := if left.list.any fun x => decide (0 < x) then s.raise Ev.ledger 7 else s
    (s.offerAll acted).showLedger

/-! ### Energy accounts (R139, R140) -/

/-- The accounts, in their order. -/
def accounts : List Nat :=
  ((List.range 32).map fun n => K.LEDGER_E_RAIL n) ++ ((List.range 4).map fun k => K.LEDGER_E_AUX k) ++
    [K.LEDGER_E_IN, K.LEDGER_E_LOSS, K.LEDGER_E_CHG, K.LEDGER_E_BATT]

/-- The power of each account over the tick in mW (R139), rounded down (DEDUCED, log 179). -/
def accountPowers (s : State) : List Int :=
  ((List.range 32).map fun n => s.get (K.RAIL_P n)) ++ ((List.range 4).map fun k => s.get (K.AUX_V k) * s.get (K.AUX_I k) / 1000) ++
    [s.get K.LEDGER_P_IN, s.get K.LEDGER_P_PKG, s.get K.CHG_I * s.get K.PP_VBAT / 1000,
      if s.get K.LEDGER_SOURCE = 1 then s.get K.LEDGER_P_IN else 0]

/-- Each account adds its tick: mW × 10 in µJ to its residue, whole multiples of 3,600 µJ to its count; a negative power
adds nothing (R139). -/
def addEnergy (s : State) : State :=
  let rows := accounts.zip (s.accountPowers.zip s.ledger.residues)
  let rs := rows.map fun x => x.2.2 + (x.2.1 * 10).toNat
  let s := ((rows.map Prod.fst).zip rs).foldl (fun s x => s.put x.1 (s.get x.1 + (x.2 / 3600 : Nat))) s
  s.modLedger fun l => { l with residues := rs.map (· % 3600) }

/-- The accounts are copied to MRAM (R140). -/
def saveAccounts (s : State) : State :=
  s.modLedger fun l => { l with saved := (accounts.map fun k => s.getN k).zip l.residues }

/-- BOOT resumes from the last copy (R140). -/
def loadAccounts (s : State) : State :=
  let s := (accounts.zip s.ledger.saved).foldl (fun s x => s.put x.1 (x.2.1 : Nat)) s
  s.modLedger fun l => { l with residues := l.saved.map Prod.snd }

/-- The ledger's part of a management tick: demands and accounts in every mode that measures, the decision in those of
R131. The tick closes the fast limit's window. -/
def ledgerTick (s : State) : State :=
  let s := s.formDemands.addEnergy
  let s := if s.ledgerMode || s.modes.mode = .service then s.decideTick else s
  let s := s.modLedger fun l => { l with tripped := false, short := false, maxFast := 0, suspended := l.suspended && !l.short }
  (List.finRange 56).foldl (fun (s : State) (p : Fin 56) => s.modPhase p fun x => { x with cycles := 0, actCycles := 0 }) s

/-- A write of `LEDGER_E_CLEAR` (R140). -/
def writeEClear (s : State) (acc : Accessor) (v : Nat) : Res :=
  s.writeVia acc K.LEDGER_E_CLEAR 1 fun s =>
    if !s.installerUp acc then .error .roleDenied
    else if v ≠ 0x5A then .error .outOfRange
    else
      let s := accounts.foldl (fun s k => s.put k 0) s
      .ok (s.modLedger fun l => { l with residues := List.replicate 40 0 }, .done)

/-! ### The fast limit (R136, R137) -/

/-- The tiles' input-current estimates, summed: cycle-mean current × duty over the ACTIVE phases, halved for LV (R136). -/
def tileEstimates (s : State) : Int :=
  (((List.finRange 56).filter fun p => decide ((s.phase p).st = .active)).map fun p =>
    quot ((s.phase p).iCycle * (s.phase p).duty) (if isBus p then 65536 else 131072)).sum

/-- The fast estimate in mA (R136). -/
def fastEstimate (s : State) : Int :=
  quot (s.tileEstimates * s.get K.LEDGER_FAST_MARGIN) 1000 + quot (s.ledger.preIn * 1000 + s.ledger.pChg) (s.get K.PP_VBUS)

/-- The fast threshold in mA (R136). -/
def fastThreshold (s : State) : Int := if s.onBattery then s.get K.LEDGER_BAT_IMAX else s.get K.LEDGER_VIN_ILIM

/-- The input current that 1 mA of a rail stands for, as a fraction: its last duty with the margin (R137). -/
def fastShare (s : State) (r : Fin 32) : Int × Int :=
  match (sortPhases (s.activeMembers r)).head? with
  | some p => ((s.phase p).duty * s.get K.LEDGER_FAST_MARGIN, if isBus p then 65536000 else 131072000)
  | none => (0, 1)

/-- One rail of a trip: its fast cap, which may take it from uncapped to capped (R133), and the excess left in mA (R137). -/
def fastLoad (a : State × Int) (x : Load) : State × Int :=
  let (s, excess) := a
  match x with
  | .charger => a
  | .rail r =>
    let (n, d) := s.fastShare r
    let i := s.railCycleI r
    let lo := s.capFloor r
    if 0 < excess && (s.rail r).st = .up && s.classOf r = 2 && 0 < n && lo < i then
      let c := max lo (i + (-(excess * d)) / n)
      let c := match s.ledger.fast[r] with | some f => min c f | none => c
      let s := if s.ledger.caps[r].isSome || s.ledger.fast[r].isSome then s else s.raise Ev.ledger 2
      let s := s.modLedger fun l => { l with fast := l.fast.set r (some c), before := l.before.set r (max l.before[r] i) }
      let s := s.modRail r fun x => { x with fastSent := some c }
      (s, excess - quot ((i - c) * n) d)
    else a

/-- A fast trip (R137): the charger stops, the CAPPABLE rails in UP are capped in reduction order. -/
def fastTrip (s : State) (excess : Int) : State :=
  let s := (s.raise Ev.ledger 5).bump K.LEDGER_FAST_COUNT
  let (s, excess) :=
    if s.charging then
      let t := (({ s with chg := { s.chg with fastStop := true } }).setChargerCap 0 (s.get K.CHG_I)).chargerStop
      (t, excess - quot s.ledger.pChg (s.get K.PP_VBUS))
    else (s, excess)
  let (s, left) := s.reductionOrder.foldl fastLoad (s, excess)
  let s := if 0 < left then s.raise Ev.ledger 6 else s
  (s.modLedger fun l => { l with highRun := 0, suspended := true, tripped := true, short := l.short || decide (0 < left) }).showLedger

/-- One fast estimate (R136): two in a row over the threshold trip, unless the comparison is suspended. -/
def fastStep (s : State) : State :=
  if s.activeNotSeal && s.modes.mode ≠ .boot && s.modes.mode ≠ .failsafe then
    let e := s.fastEstimate
    let s := s.modLedger fun l => { l with lastFast := e, maxFast := max l.maxFast e }
    let excess := e - s.fastThreshold
    if s.ledger.suspended || excess ≤ 0 then s.modLedger fun l => { l with highRun := 0 }
    else if 1 ≤ s.ledger.highRun then s.fastTrip excess
    else s.modLedger fun l => { l with highRun := 1 }
  else s

/-- The fast caps are in force at every member; the comparison resumes unless the caps fell short (R137). -/
def fastInForce (s : State) : State :=
  let s := (List.finRange 32).foldl (fun (s : State) (r : Fin 32) =>
    match (s.rail r).fastSent with
    | some c => (s.modRail r fun x => { x with fastSent := none, fastCap := some (min c (x.fastCap.getD c)) }).refreshCapped r
    | none => s) s
  s.modLedger fun l => { l with suspended := l.short }

/-- A ledger cap on its way to its apply tick. -/
def isCap : RailCmd → Bool
  | .cap _ => true
  | _ => false

/-- A ledger cap reaches its apply tick (R133). The fast cap in force ends with the ledger cap that it was turned into, and so not while
a later trip's stands, or while another ledger cap is still on its way (R137). -/
def capTick (s : State) (r : Fin 32) : State :=
  match s.takeCmd r isCap with
  | some (.cap l, s) =>
    let last := s.ledger.fast[r].isNone && !(s.rail r).cmds.any isCap
    (s.modRail r fun x => { x with cap := l, fastCap := if last then none else x.fastCap,
                                   fastSent := if last then none else x.fastSent }).refreshCapped r
  | _ => s

end State

open State

/-- FAST_ESTIMATE (R136). -/
def execFastEstimate (s : State) : Out := .next s.fastStep

/-- FAST_CAPS_IN_FORCE (R137). -/
def execFastCapsInForce (s : State) : Out := .next s.fastInForce

/-- LEDGER_E_CLEAR (R140): the write of 0x5A. -/
def execLedgerEClear (acc : Accessor) (s : State) : Out := .next (s.access acc fun s => s.writeEClear acc 0x5A)

/-- LEDGER_ACCOUNT_COPY (R140). -/
def execLedgerAccountCopy (s : State) : Out := .next (if s.keeperRuns && !s.modes.holdup then s.saveAccounts else s)

/-- LEDGER_CAP_APPLY (R133). -/
def execLedgerCapApply (r : Fin 32) (s : State) : Out := .next (s.capTick r)

end Sys2Proof.Machine
end

