-- ==== Sys2Proof/Machine/Thermal.lean ====
section
/-! DEFINITION. Sirocco, the thermal model, and its sensors: the commands of chapter 8. -/

namespace Sys2Proof.Machine

/-- 2⁸⁰ × exp(−10/`tau`) by its series: `term` is the k-th power term, and the terms alternate in sign. -/
def expSeries (tau : Nat) : Nat → Nat → Int → Int
  | 0, _, _ => 0
  | n + 1, k, term => term + expSeries tau n (k + 1) (-(term * 10) / (tau * k : Nat))

/-- a = round(65,536 × (1 − exp(−10 µs / τ))) for a time constant in µs (R204). -/
def decayCoeff (tau : Nat) : Int :=
  let one : Int := 2 ^ 80
  (65536 * (one - expSeries tau 40 1 one) + one / 2) / one

namespace State

/-- Raise an event of Sirocco that tile `t` caused (R218, R220). -/
def raiseSir (s : State) (t : Fin 8) (k : Nat) : State :=
  (s.put K.SIR_EVENT_TILES (setBit (s.get K.SIR_EVENT_TILES) t.val)).raise Ev.sir k

/-- Sirocco runs: the Keeper runs and SEAL has not frozen it (R213, R216). -/
def siroccoRuns (s : State) : Bool := s.activeNotSeal

/-! ### The networks (R203, R204) -/

/-- p_phase of the past interval in µW (R203). -/
def intervalLoss (s : State) (p : Fin 56) : Int :=
  let x := s.phase p
  if x.thAct = 0 then 0 else quot (s.fullLoss p (quot x.thSum x.thN) * x.thAct) x.thN

/-- The input of tile `t`'s network in µW (R203). -/
def tileInput (s : State) (t : Fin 8) : Int :=
  if t = 0 then s.get K.LEDGER_P_KEEPER * 1000
  else if s.tilePowered t then ((tilePhases t).map s.intervalLoss).sum + s.get K.LEDGER_TILE_BASE * 1000
  else 0

/-- One first-order lag over 10 µs (R204): a rise in mK, a power in µW, a resistance in mK/W. -/
def lag (x power r : Int) (tau : Nat) : Int := x + quot ((quot (power * r) 1000000 - x) * decayCoeff tau) 65536

/-- The hot spot of a phase is advanced, and counted against `SIR_T_SHUT` (R204, R211). -/
def hotStep (s : State) (p : Fin 56) : State :=
  let (r, tau) := if isBus p then (K.SIR_HS_R_BUS, K.SIR_HS_TAU_BUS) else (K.SIR_HS_R_LV, K.SIR_HS_TAU_LV)
  let power := if s.tilePowered (tileOf p) then s.intervalLoss p else 0
  let hs := lag (s.phase p).hs power (s.get r) (s.getN tau)
  let hot := decide (s.get K.SIR_T_SHUT * 10 < (s.thermTile (tileOf p)).tj + hs)
  s.modPhase p fun x => { x with hs := hs, hotRun := if hot then x.hotRun + 1 else 0 }

/-- The present phases of a tile. -/
def presentPhases (s : State) (t : Fin 8) : List (Fin 56) := (tilePhases t).filter fun p => s.phasePresent p

/-- One tile is advanced by 10 µs (R204). -/
def tileStep (s : State) (t : Fin 8) : State :=
  let (r, tau) := if t = 0 then (K.SIR_KEEPER_R, K.SIR_KEEPER_TAU) else (K.SIR_LANTERN_R, K.SIR_LANTERN_TAU)
  let power := s.tileInput t
  let dt := Vector.ofFn fun i : Fin 4 => lag (s.thermTile t).dt[i] power (s.get (r i)) (s.getN (tau i))
  let tj := (s.thermTile t).tref + dt.toList.sum
  let hot := decide (s.get K.SIR_T_SHUT * 10 < tj)
  let s := s.modTherm t fun x => { x with dt := dt, tj := tj, hotRun := if hot then x.hotRun + 1 else 0 }
  let s := (s.presentPhases t).foldl hotStep s
  let hs := (s.presentPhases t).map fun p => (s.phase p).hs
  s.modTherm t fun x => { x with tmax := tj + hs.foldl max 0 }

/-! ### WARN and the rate (R210, R211) -/

/-- The values of a tile that its limits look at: t_max and the valid readings, in 0.01 °C. -/
def limitValues (s : State) (t : Fin 8) : List Int := s.tMax t :: s.validReadings t

/-- Some tile is in WARN (R211). -/
def anyWarn (s : State) : Bool := s.therm.tiles.toList.any fun x => x.warn

/-- THERMAL_WARN and THERMAL_CLEAR (R211). -/
def warnStep (s : State) (t : Fin 8) : State :=
  let w := s.get K.SIR_T_WARN
  let vs := s.limitValues t
  if (s.thermTile t).warn then
    if vs.all fun v => decide (v < w - 200) then
      let s := s.modTherm t fun x => { x with warn := false }
      if s.anyWarn then s else s.raiseSir t 1
    else s
  else if vs.any fun v => decide (w ≤ v) then (s.modTherm t fun x => { x with warn := true }).raiseSir t 0
  else s

/-- The next beacon tick that is 1 ms-aligned. -/
def nextMs (s : State) : Nat := (s.now / 100000 + 1) * 100000

/-- The sensors of a tile sample at 25 kHz now: a change of rate takes effect at the next 1 ms-aligned tick (R210). -/
def samplesFast (s : State) (t : Fin 8) : Bool :=
  let x := s.thermTile t
  if x.rateFrom ≤ s.now then x.fast else x.rateWas

/-- A tile enters or leaves fast rate (R210). -/
def setRate (s : State) (t : Fin 8) (fast : Bool) : State :=
  let was := s.samplesFast t
  s.modTherm t fun x => { x with fast := fast, rateWas := was, rateFrom := s.nextMs }

/-- A tile enters fast rate; while in it, whether every value is low (R210). -/
def rateStep (s : State) (t : Fin 8) : State :=
  let w := s.get K.SIR_T_WARN
  let vs := s.limitValues t
  let s := s.modTherm t fun x => { x with low := vs.all fun v => decide (v < w - 1200) }
  if !(s.thermTile t).fast && vs.any (fun v => decide (w - 1000 ≤ v)) then
    (s.setRate t true).raiseSir t 2
  else s

/-- The handling of R213 in IDLE, and the charger's stop with it, re-arm (R213). -/
def rearm (s : State) : State :=
  if s.therm.shutIdle && s.allCool then { s with therm := { s.therm with shutIdle := false } } else s

/-- The modelled temperature of a sensor in 0.001 °C (R205). -/
def modelled (s : State) (t : Fin 8) (k : Fin 4) : Int :=
  let x := s.thermTile t
  if t = 0 then x.tj
  else
    let near := (tilePhases t).filter fun p => p.val % 8 / 2 = k.val
    x.tj + quot (s.get K.SIR_COUPLING * (near.map fun p => (s.phase p).hs).sum) 2000

/-- What the objects of a tile show from this update on (R217). -/
def showTile (s : State) (t : Fin 8) : State :=
  let models := Vector.ofFn fun k : Fin 4 => s.modelled t k
  s.modTherm t fun x =>
    { x with shown := { tmax := x.tmax, tj := x.tj, tref := x.tref, residual := x.residual, fast := x.fast, sensors := x.sensors,
                        models := models } }

/-- One update of every present tile (R204, R210, R211, R217). -/
def siroccoStep (s : State) : State :=
  if s.siroccoRuns then
    let ts := (List.finRange 8).filter fun t => s.tileFitted t.val
    let s := ts.foldl tileStep s
    let s := ts.foldl (fun (s : State) t => (s.warnStep t).rateStep t) s
    let s := ts.foldl showTile s
    let s := (List.finRange 56).foldl (fun (s : State) (p : Fin 56) => s.modPhase p fun x => { x with thSum := 0, thAct := 0, thN := 0 }) s
    s.rearm
  else s

/-! ### Trips (R211–R213) -/

/-- A TEMP_LIMIT trip (R212, R213): by mode a rail fault, the handling in IDLE, or nothing. -/
def tempTrip (s : State) (t : Fin 8) (kind : FaultKind) (index : Nat) : State :=
  let tr : Trigger := ⟨0x09, kind, index, t.val⟩
  if s.faultMode then s.railFault tr (some s.now)
  else if s.modes.mode = .idle && !s.therm.shutIdle then
    let s := (s.idleFault tr true).chargerStop
    ({ s with therm := { s.therm with shutIdle := true } }).raiseSir t 7
  else s

/-- A tile's trips by its model (R211, R212): its hot spots above `SIR_T_SHUT` for 10 updates, by phase number, and on tile 0, which
has none, its junction. -/
def modelTrips (s : State) (t : Fin 8) : List (Fin 8 × FaultKind × Nat) :=
  if t = 0 then if 10 ≤ (s.thermTile 0).hotRun then [(0, .keeper, 0)] else []
  else ((tilePhases t).filter fun p => decide (10 ≤ (s.phase p).hotRun)).map fun p => (t, .phase, p.val)

/-- A tile's trips by its sensors: those above `SIR_T_SHUT` for 2 samples, by sensor number (R211, R212). -/
def sensorTrips (s : State) (t : Fin 8) : List (Fin 8 × FaultKind × Nat) :=
  ((s.validSensors t).filter fun k => decide (2 ≤ (s.sensor t k).hotRun)).map fun k => (t, .keeper, 0x10 + k.val)

/-- The trip that is recorded of those that stand: by tile number, then model before sensor (R212). -/
def firstTrip (s : State) : Option (Fin 8 × FaultKind × Nat) :=
  ((List.finRange 8).flatMap fun t => s.modelTrips t ++ s.sensorTrips t).head?

/-- The Keeper's decision on the trips of one kind, where there are any (R211, R212). -/
def decideTrip (s : State) (trips : Fin 8 → List (Fin 8 × FaultKind × Nat)) : State :=
  if !s.siroccoRuns || ((List.finRange 8).flatMap trips).isEmpty then s
  else match s.firstTrip with
    | some (t, kind, i) => s.tempTrip t kind i
    | none => s

/-! ### Samples (R205–R208) -/

/-- Change sensor `k` of tile `t`. -/
def modSensor (s : State) (t : Fin 8) (k : Fin 4) (f : SensorSt → SensorSt) : State :=
  s.modTherm t fun x => { x with sensors := x.sensors.set k (f x.sensors[k]) }

/-- A sensor is declared broken (R206, R208); a powered tile with none left raises SENSORS_LOST once (R209). -/
def breakSensor (s : State) (t : Fin 8) (k : Fin 4) (st : SensorState) : State :=
  let s := s.modSensor t k fun x => { x with st := st, disRun := 0, hotRun := 0 }
  let s := (s.raiseSir t 4).bump K.SIR_BROKEN_COUNT
  if (s.validSensors t).isEmpty && !(s.thermTile t).lost then (s.modTherm t fun x => { x with lost := true }).raiseSir t 5 else s

/-- A reading arrives, stamped with the beacon time of its conversion, and is classed; a valid one is counted against `SIR_T_SHUT`
(R206, R211). -/
def takeReading (s : State) (t : Fin 8) (k : Fin 4) (v : Int) : State :=
  let s := s.modSensor t k fun x =>
    { x with reading := some v, readAt := s.now, hotRun := if x.st = .valid ∧ s.get K.SIR_T_SHUT < v then x.hotRun + 1 else 0 }
  if (s.sensor t k).st ≠ .valid then s
  else if v < -5500 then s.breakSensor t k .opened
  else if 17500 < v then s.breakSensor t k .short
  else s

/-- Insert a value into an ascending list. -/
def insertInt (v : Int) : List Int → List Int
  | [] => [v]
  | x :: t => if v ≤ x then v :: x :: t else x :: insertInt v t

/-- The median of a list, the mean of the middle two where their number is even (R207). -/
def median (xs : List Int) : Int :=
  let ys := xs.foldr insertInt []
  let n := ys.length
  if n % 2 = 1 then ys.getD (n / 2) 0 else quot (ys.getD (n / 2 - 1) 0 + ys.getD (n / 2) 0) 2

/-- A sensor's reading less its modelled temperature, in mK. -/
def residualOf (s : State) (t : Fin 8) (k : Fin 4) : Int := (s.sensor t k).reading.getD 0 * 10 - s.modelled t k

/-- The valid sensor next to `k` around the ring in a direction: +1, or −1 as n − 1 (R205, R208). -/
def neighbour (s : State) (t : Fin 8) (k : Fin 4) (dir : Nat) : Option (Fin 4) :=
  let ks := sensorsOf t
  let n := ks.length
  ((List.range (n - 1)).filterMap fun j => ks[(k.val + (j + 1) * dir) % n]?).find? fun q => (s.validSensors t).contains q

/-- A sensor disagrees with both its neighbours and with the model (R208). -/
def disagrees (s : State) (t : Fin 8) (k : Fin 4) : Bool :=
  let d := s.residualOf t k
  let far (x : Int) : Bool := decide (6000 < (x.natAbs : Int))
  let n := (sensorsOf t).length
  match s.neighbour t k 1, s.neighbour t k (n - 1) with
  | some a, some b => far d && far (d - s.residualOf t a) && far (d - s.residualOf t b)
  | _, _ => false

/-- The reference is set, or corrected by the median residual over the sample period (R207). -/
def correctRef (s : State) (t : Fin 8) : State :=
  let ks := s.validSensors t
  let x := s.thermTile t
  if ks.isEmpty then s
  else match x.due with
    | .boot =>
      let r := median (ks.map fun k => (s.sensor t k).reading.getD 0 * 10)
      let s := s.modTherm t fun x => { x with dt := Vector.replicate 4 0, tref := r, tj := r, tmax := r, due := .none }
      (tilePhases t).foldl (fun (s : State) p => s.modPhase p fun x => { x with hs := 0 }) s
    | .release =>
      let r := median (ks.map fun k => (s.sensor t k).reading.getD 0 * 10 - (s.modelled t k - x.tref))
      s.modTherm t fun x => { x with tref := r, tj := x.tj + (r - x.tref), tmax := x.tmax + (r - x.tref), due := .none }
    | .none =>
      let e := median (ks.map (s.residualOf t))
      let period := if s.samplesFast t then 40 else 1000
      let r := clampInt (-55000) 150000 (x.tref + quot (e * s.get K.SIR_REF_GAIN * period) 1000000)
      s.modTherm t fun x =>
        { x with residual := e, tref := r, far := decide (10000 < (e.natAbs : Int)), diverge := x.diverge && decide (5000 ≤ (e.natAbs : Int)) }

/-- A sample instant of a tile (R206–R208): readings, reference, and the samples in a row that disagree. -/
def sensorSample (s : State) (t : Fin 8) (rs : Vector Int 4) : State :=
  if s.siroccoRuns && (t = 0 || s.tilePowered t) then
    let s := (sensorsOf t).foldl (fun (s : State) k => s.takeReading t k rs[k]) s
    let bad := (s.validSensors t).filter fun k => s.disagrees t k
    let s := (s.validSensors t).foldl (fun (s : State) k =>
      s.modSensor t k fun x => { x with disRun := if bad.contains k then x.disRun + 1 else 0 }) s
    let s := s.correctRef t
    ((s.warnStep t).rateStep t).rearm
  else s

/-- The cross-check's declarations (R208): ascending by tile and sensor, each tested again with those before it applied. A
reading that trips comes first (R211). -/
def crossCheck (s : State) : State :=
  if s.siroccoRuns && (((List.finRange 8).flatMap s.sensorTrips).isEmpty || !(s.faultMode || s.modes.mode = .idle && !s.therm.shutIdle)) then
    ((List.finRange 8).flatMap fun t => (sensorsOf t).map fun k => (t, k)).foldl (fun (s : State) x =>
      if (s.sensor x.1 x.2).st = .valid && 8 ≤ (s.sensor x.1 x.2).disRun && s.disagrees x.1 x.2 then s.breakSensor x.1 x.2 .disagree else s) s
  else s

/-! ### The remaining events -/

/-- A tile leaves fast rate, every value having been low for 100 ms (R210). -/
def rateSlow (s : State) (t : Fin 8) : State :=
  let x := s.thermTile t
  if s.siroccoRuns && x.fast && x.low then (s.setRate t false).raiseSir t 3 else s

/-- A tile's residual has been above 10 °C for 1 s (R209). -/
def modelDiverge (s : State) (t : Fin 8) : State :=
  let x := s.thermTile t
  if s.siroccoRuns && x.far && !x.diverge then (s.modTherm t fun x => { x with diverge := true }).raiseSir t 6 else s

/-- A write of `SIR_SENSOR_RESET` (R218). -/
def writeSensorReset (s : State) (acc : Accessor) (v : Nat) : Res :=
  s.writeVia acc K.SIR_SENSOR_RESET 1 fun s =>
    if !s.installerUp acc then .error .roleDenied
    else if s.modes.mode ≠ .service then .error .modeForbids
    else if v ≠ 0x5A then .error .outOfRange
    else .ok ((List.finRange 8).foldl (fun (s : State) (t : Fin 8) =>
      let s := s.modTherm t fun x =>
        { x with sensors := x.sensors.map fun y => if y.st = .disagree then { y with st := .valid, disRun := 0 } else y }
      if (s.validSensors t).isEmpty then s else s.modTherm t fun x => { x with lost := false }) s, .done)

/-- `SIR_STATUS` (R219). -/
def sirStatus (s : State) : Nat :=
  let b (k : Nat) (x : Bool) := if x then 2 ^ k else 0
  let any (f : Fin 8 → Bool) : Bool := (List.finRange 8).any fun t => s.tileFitted t && f t
  b 0 (any fun t => (s.thermTile t).fast) + b 1 s.anyWarn +
    b 2 (any fun t => (sensorsOf t).any fun k => decide ((s.sensor t k).st ≠ .valid)) + b 3 (any s.openLoop) +
    b 4 (any fun t => (s.thermTile t).diverge) + b 5 (decide (s.modes.mode = .seal))

/-- The shedding scale of R86 follows the hottest non-isolated member of the phase's rail, in whole degrees. -/
def shedScale (s : State) (p : Fin 56) : Int :=
  match (s.phase p).rail with
  | some r =>
    match (s.usableMembers r).map s.tHot with
    | h :: ts => clampInt 600 1000 (1000 - 3 * ((ts.foldl max h) / 100 - 25))
    | [] => 1000
  | none => 1000

/-- The objects of Sirocco are refreshed at a management tick, every tile's from its last update (R86, R89, R217); the tiles apply the
shedding scale that the tick before has set (R86). -/
def siroccoTick (s : State) : State :=
  let s := (List.finRange 8).foldl (fun (s : State) (t : Fin 8) =>
    if s.tileFitted t then
      let x := (s.thermTile t).shown
      let s := s.puts [(K.SIR_T_MAX t, centi x.tmax), (K.SIR_T_J t, centi x.tj), (K.SIR_T_REF t, centi x.tref),
        (K.SIR_RATE t, if x.fast then 1 else 0), (K.SIR_RESIDUAL t, centi x.residual)]
      (sensorsOf t).foldl (fun (s : State) (k : Fin 4) =>
        s.puts [(K.SIR_SENSOR t k, x.sensors[k].reading.getD (-32768)), (K.SIR_SENSOR_MODEL t k, centi x.models[k]),
          (K.SIR_SENSOR_STATE t k, x.sensors[k].st.code)]) s
    else s) s
  (List.finRange 56).foldl (fun (s : State) (p : Fin 56) =>
    let s := s.modPhase p fun x => { x with scale := s.get (K.PH_SHED_SCALE p) }
    s.puts [(K.PH_T_HOT p, s.tHot p), (K.PH_SHED_SCALE p, s.shedScale p)]) s

end State

open State

/-- SIROCCO_UPDATE (R204). -/
def execSiroccoUpdate (s : State) : Out := .next s.siroccoStep

/-- TEMP_LIMIT_MODEL (R211): the Keeper's decision after an update. -/
def execTempLimitModel (s : State) : Out := .next (s.decideTrip s.modelTrips)

/-- SENSOR_SAMPLE (R207): the sensors of tile `t` read `rs`, in 0.01 °C. -/
def execSensorSample (t : Fin 8) (rs : Vector Int 4) (s : State) : Out := .next (s.sensorSample t rs)

/-- TEMP_LIMIT_SENSOR (R211): the Keeper's decision after a sample. -/
def execTempLimitSensor (s : State) : Out := .next (s.decideTrip s.sensorTrips)

/-- SENSOR_BROKEN (R208): the cross-check's decision after a sample. -/
def execSensorBroken (s : State) : Out := .next s.crossCheck

/-- RATE_SLOW (R210). -/
def execRateSlow (t : Fin 8) (s : State) : Out := .next (s.rateSlow t)

/-- MODEL_DIVERGE (R209). -/
def execModelDiverge (t : Fin 8) (s : State) : Out := .next (s.modelDiverge t)

/-- SIR_SENSOR_RESET (R218): the write of 0x5A. -/
def execSirSensorReset (acc : Accessor) (s : State) : Out := .next (s.access acc fun s => s.writeSensorReset acc 0x5A)

end Sys2Proof.Machine
end

