-- ==== Sys2Proof/Machine/EstOps.lean ====
section
/-! DEFINITION. The battery estimator's model, records and shared moves (R252–R265). -/

namespace Sys2Proof.Machine
namespace State

/-- Change the estimator. -/
def modEst (s : State) (f : EstSt → EstSt) : State := { s with est := f s.est }

/-- RTC seconds as the estimator uses them: 0 where the RTC is not valid. -/
def estSeconds (s : State) : Nat := if s.oasis.valid then s.oasis.seconds else 0

/-- q in mAh (R254). -/
def capacity (s : State) : Int := s.get K.EST_CAPACITY

/-- Some battery is PRESENT. -/
def batPresent (s : State) : Bool := decide (s.batState = .present)

/-! ### The path as R252 and R256 look at it -/

/-- `PP_STATE` changes (R225); the time with ON_BATTERY is kept for R252. -/
def pathTo (s : State) (st : PathState) : State :=
  let was := s.onBattery
  let s := s.modPath fun x => { x with st := st }
  let dis := match st with | .battery => true | .qualify => true | .switchback => true | _ => false
  let s := s.modEst fun e => { e with otherPath := e.otherPath || !dis }
  if s.onBattery && !was then s.modEst fun e => { e with batFrom := some s.now }
  else if !s.onBattery && was then
    s.modEst fun e => { e with batPast := (e.batFrom.getD e.tickAt, s.now) :: e.batPast, batFrom := none }
  else s

/-- The charger switches: it charges and no probe pauses it (R230, R252). -/
def switching (s : State) : Bool := s.charging && !s.chg.probePause

/-- The tick under way has seen whether the charger switches (R252, R256). -/
def seeSwitching (s : State) : State := s.modEst fun e => { e with chgSeen := e.chgSeen || s.switching }

/-- The charger changes state (R239): STATE_CHANGE and SUSPENDED, and that it switched in this tick. -/
def chgTo (s : State) (st : ChgState) : State :=
  if s.chg.st = st then s
  else
    let s := (s.modChg fun c => { c with st := st }).raise Ev.chg 2
    let s := s.seeSwitching
    if st = .suspended then s.raise Ev.chg 9 else s

/-! ### The open-circuit voltage (R253, R257) -/

/-- `EST_OCV` of point `k`: the ROM curve's value where none has been written, which -1 stands for (R266). -/
def ocvObject (s : State) (k : Nat) : Int :=
  if s.get (K.EST_OCV k) = -1 then Config.romOcv (s.getN K.PP_CHEM) k else s.get (K.EST_OCV k)

/-- The points of `EST_OCV` ascend strictly (R266). -/
def ocvAscends (s : State) : Bool := (List.range 20).all fun k => decide (s.ocvObject k < s.ocvObject (k + 1))

/-- The configured curve is used: `EST_OCV_SRC` is 1 and the points ascend strictly (R266). -/
def ownCurve (s : State) : Bool := decide (s.get K.EST_OCV_SRC = 1) && s.ocvAscends

/-- Point `k` of the curve in mV per cell. -/
def ocvPoint (s : State) (k : Nat) : Int := if s.ownCurve then s.ocvObject k else Config.romOcv (s.getN K.PP_CHEM) k

/-- The section of the curve that a soc lies in, and how far along it, in 2⁻³². -/
def ocvSection (soc : Int) : Nat × Int :=
  let x := soc * 20
  let k := min 19 (x / 2 ^ 32).toNat
  (k, x - k * 2 ^ 32)

/-- The pack's open-circuit voltage in µV (R253). -/
def ocvPack (s : State) (soc : Int) : Int :=
  let (k, x) := ocvSection soc
  quot (s.get K.PP_CELLS * 1000 * (s.ocvPoint k * 2 ^ 32 + (s.ocvPoint (k + 1) - s.ocvPoint k) * x)) (2 ^ 32)

/-- The slope of the pack's open-circuit voltage in mV over the whole range of soc. -/
def ocvSlope (s : State) (soc : Int) : Int :=
  let k := (ocvSection soc).1
  s.get K.PP_CELLS * 20 * (s.ocvPoint (k + 1) - s.ocvPoint k)

/-- The lowest soc at which the pack's open-circuit voltage equals `uv` µV, held to 0–1 (R257). -/
def socOf (s : State) (uv : Int) : Int :=
  let at_ (k : Nat) : Int := s.get K.PP_CELLS * 1000 * s.ocvPoint k
  if uv ≤ at_ 0 then 0
  else match (List.range 20).find? fun k => decide (uv ≤ at_ (k + 1)) with
    | some k => clampInt 0 (2 ^ 32) (quot ((k : Int) * 2 ^ 32 + quot ((uv - at_ k) * 2 ^ 32) (at_ (k + 1) - at_ k)) 20)
    | none => 2 ^ 32

/-! ### The impedance table (R255) -/

/-- The breakpoints of the rows in 5 % of soc, and of the columns in 0.01 °C. -/
def impRows : List Int := [0, 1, 2, 4, 6, 8, 10, 12, 14, 16, 18, 20]
def impCols : List Int := [-2000, -1000, 0, 1000, 2500, 3500, 4500, 5500]

/-- The default cell of row `r` and column `c` (R255). -/
def impDefault (s : State) (r c : Nat) : ImpCell :=
  let f : Int := ([400, 250, 180, 130, 100, 90, 85, 80] : List Int).getD c 100
  let g : Int := if r = 0 then 15 else if r = 1 then 13 else 10
  let v (k : Nat) : Nat := min 65535 (quot (s.get k * f * g) 1000).toNat
  { r0 := v K.EST_R0_DEF, r1 := v K.EST_R1_DEF, r2 := v K.EST_R2_DEF }

/-- Row `r`, cell `c` of the table: the default cell where nothing has been loaded, written or learned (R255). -/
def impCell (s : State) (r c : Nat) : ImpCell := (s.est.imp.getD (8 * r + c) none).getD (s.impDefault r c)

/-- The interval of ascending breakpoints that holds `x`, clamped at the ends: its lower index, the place in it, its length. -/
def bracket (bs : List Int) (x scale : Int) : Nat × Int × Int :=
  let last := bs.length - 2
  let k := min last ((bs.filter fun b => decide (b * scale ≤ x)).length - 1)
  let lo := bs.getD k 0 * scale
  let hi := bs.getD (k + 1) 0 * scale
  (k, clampInt 0 (hi - lo) (x - lo), hi - lo)

/-- A resistance at (soc, t) by bilinear interpolation, in 2⁻¹⁶ of 0.1 mΩ (R255). -/
def impAt (s : State) (f : ImpCell → Nat) (soc t : Int) : Int :=
  let (r, x, nx) := bracket impRows (soc * 20) (2 ^ 32)
  let (c, y, ny) := bracket impCols t 1
  let v (i j : Nat) : Int := f (s.impCell (r + i) (c + j))
  quot ((((v 0 0) * (nx - x) + (v 1 0) * x) * (ny - y) + ((v 0 1) * (nx - x) + (v 1 1) * x) * y) * 65536) (nx * ny)

/-- The nearer end of an interval; in the middle the lower. -/
def nearer (b : Nat × Int × Int) : Nat := if b.2.2 < 2 * b.2.1 then b.1 + 1 else b.1

/-- Change one cell of the table. -/
def setCell (s : State) (r c : Nat) (x : ImpCell) : State := s.modEst fun e => { e with imp := e.imp.setIfInBounds (8 * r + c) (some x) }

/-- The bytes of row `r` (R265). -/
def impRowBytes (s : State) (r : Nat) : Bytes :=
  (List.range 8).flatMap fun c => let x := s.impCell r c; toLE 2 x.r0 ++ toLE 2 x.r1 ++ toLE 2 x.r2

/-- Row `r` takes the cells that 48 bytes hold (R255, R265). -/
def setRow (s : State) (r : Nat) (bs : Bytes) : State :=
  (List.range 8).foldl (fun (s : State) c =>
    let w (j : Nat) : Nat := ofLE ((bs.drop (6 * c + 2 * j)).take 2)
    s.setCell r c { r0 := w 0, r1 := w 1, r2 := w 2 }) s

/-- A row returns to its defaults (R262). -/
def defaultRow (s : State) (r : Nat) : State :=
  s.modEst fun e => { e with imp := (List.range 8).foldl (fun v c => v.setIfInBounds (8 * r + c) none) e.imp }

/-! ### Records in MRAM (R264, R265) -/

/-- The address of slot `b` of kind number `k`: 0 CORE, 1 + s row s. -/
def estAddr (k b : Nat) : Nat := 0x19C000 + 128 * k + 64 * b

/-- The code of a kind. -/
def estKind (k : Nat) : Nat := if k = 0 then 0x01 else 0x0F + k

/-- The sequence number of the record in a slot, where its CRC and head are valid. -/
def estSeq (s : State) (k b : Nat) : Option Nat :=
  let bs := s.readMram (estAddr k b) 64
  if bs.take 4 = [0x45#8, 0x53#8, BitVec.ofNat 8 (estKind k), 0x01#8] ∧ ofLE (bs.drop 60) = crc32 (bs.take 60) then
    some (ofLE ((bs.drop 4).take 8))
  else none

/-- The slot to load a kind from: the valid one of higher sequence number. -/
def estSlot (s : State) (k : Nat) : Option Nat :=
  match s.estSeq k 0, s.estSeq k 1 with
  | some a, some b => some (if a < b then 1 else 0)
  | some _, none => some 0
  | none, some _ => some 1
  | none, none => none

/-- Write a record of a kind to the older or an invalid slot (R264). -/
def estWrite (s : State) (k : Nat) (body : Bytes) : State :=
  let b := match s.estSlot k with | some b => 1 - b | none => 0
  let q := match s.estSlot k with | some b => (s.estSeq k b).getD 0 + 1 | none => 1
  let bs := [0x45#8, 0x53#8, BitVec.ofNat 8 (estKind k), 0x01#8] ++ toLE 8 q ++ body
  s.writeMram (estAddr k b) (bs ++ toLE 4 (crc32 bs))

/-- Charge units, µA × 10 ms, in one mAs. -/
def unitsPerMas : Int := 100000

/-- The body of CORE (R265). DESIGN CHOICE (log 139): until the learned data is loaded, a record carries what the stored one holds,
with the time of writing. -/
def coreBody (s : State) : Bytes :=
  let learned := toLE 4 (s.getN K.EST_CAPACITY) ++ toLE 4 (s.getN K.EST_CYCLES) ++ toLE 4 (s.est.residue / unitsPerMas).toNat ++
    toLE 2 (s.est.soc * 10000 / 2 ^ 32).toNat ++ toLE 2 0 ++ toLE 8 (s.getN K.EST_LAST_ANCHOR)
  let battery := toLE 4 (s.getN K.EST_BID_REF) ++ toLE 1 (s.getN K.PP_CHEM) ++ toLE 1 (s.getN K.PP_CELLS) ++ toLE 10 0
  let now := toLE 8 s.oasis.seconds
  match s.estSlot 0 with
  | none => learned ++ now ++ battery
  | some b =>
    let bs := s.readMram (estAddr 0 b) 64
    match s.est.start with
    | .boot => ((bs.drop 12).take 24) ++ now ++ ((bs.drop 44).take 16)
    | .bootSwap => ((bs.drop 12).take 24) ++ now ++ ((bs.drop 44).take 16)
    | .bootReset => learned ++ now ++ ((bs.drop 44).take 16)
    | .none => learned ++ now ++ battery
    | .swap => learned ++ now ++ battery

/-- Write the records that wait, unless non-legal writes are blocked (R264). -/
def estFlush (s : State) : State :=
  if s.modes.holdup then s
  else
    let s := if s.est.coreDue then s.estWrite 0 s.coreBody else s
    let s := (List.range 12).foldl (fun (s : State) r => if s.est.rowsDue.testBit r then s.estWrite (r + 1) (s.impRowBytes r) else s) s
    s.modEst fun e => { e with coreDue := false, rowsDue := 0, wrote := e.wrote ||| (2 * e.rowsDue + if e.coreDue then 1 else 0) }

/-- CORE is to be written (R264). -/
def coreWrite (s : State) : State := (s.modEst fun e => { e with coreDue := true }).estFlush

/-- A row is to be written (R255). -/
def rowWrite (s : State) (r : Nat) : State :=
  (s.modEst fun e => { e with rowsDue := e.rowsDue ||| 2 ^ r }).estFlush

/-! ### Rest windows (R231, R260) -/

/-- The path leaves REST (R225, R231): the hold is released. -/
def leaveRest (s : State) (st : PathState) : State :=
  ((s.pathTo st).modPath fun x => { x with restHold := false }).raiseLater Ev.pp 7

/-- A forced window is aborted (R260): without an anchor the request waits 1 h. -/
def abortRest (s : State) : State :=
  if s.path.st = .rest then
    let again := !s.est.windowAnchor
    ((s.leaveRest .vin).modEst fun e => { e with retryWait := again }).raiseLater Ev.est 4
  else s

/-! ### Swap and anchor (R256–R258, R261, R262) -/

/-- The start that follows a swap: learned data that was to be kept and is not loaded yet is still loaded; of data that was reset only
`EST_BID_REF` is, which a swap does not reset (R262, R263). -/
def startAfterSwap (was : EstStart) (keep : Bool) : EstStart :=
  match was, keep with
  | .boot, true => .bootSwap
  | .bootSwap, true => .bootSwap
  | .boot, false => .bootReset
  | .bootSwap, false => .bootReset
  | .bootReset, _ => .bootReset
  | .none, _ => .swap
  | .swap, _ => .swap

/-- What a swap does short of its event (R262): `keep` keeps the learned data. -/
def swapData (s : State) (keep : Bool) : State :=
  let s := (s.bump K.EST_SWAP_COUNT).abortRest
  let s := s.modEst fun e => { e with lastFirst := none, sumQ := 0, start := startAfterSwap e.start keep, swapNow := true }
  if keep then s
  else
    let s := (s.puts [(K.EST_CAPACITY, s.get K.EST_DESIGN_CAP), (K.EST_CYCLES, 0), (K.EST_CYCLE_RESIDUE, 0)]).modEst fun e => { e with residue := 0 }
    (List.range 12).foldl (fun (s : State) r => ((s.defaultRow r).modEst fun e => { e with rowsDue := e.rowsDue ||| 2 ^ r })) s

/-- A battery swap is detected (R262). -/
def swap (s : State) : State := (s.raise Ev.est 5).swapData (s.flag K.EST_SWAP_KEEP)

/-- Confidence in thousandths (R257). -/
def confidence (s : State) : Nat :=
  let last := s.getN K.EST_LAST_ANCHOR
  if !s.oasis.valid || last = 0 then 0
  else (1000 * (259200 - (s.oasis.seconds - last))) / 259200

/-- What every anchor does (R256): soc takes the OCV estimate. -/
def anchorAt (s : State) : State :=
  let s := s.modEst fun e => { e with soc := e.socOcv, p := e.p.set 0 (quot (25 * 2 ^ 128) 1000000), windowAnchor := true }
  let s := s.put K.EST_LAST_ANCHOR s.estSeconds
  let s := (s.bump K.EST_ANCHOR_COUNT).raise Ev.est 0
  if s.est.lowShown && 0 < s.confidence then (s.modEst fun e => { e with lowShown := false }).raise Ev.est 2 else s

/-- The capacity that two first anchors give, rounded down, where R258 permits one: Δq in µA × 10 ms, Δsoc in 2⁻³². -/
def learnCapacity (q design dq dsoc : Int) : Option Int :=
  let n : Int := dq.natAbs * 2 ^ 32
  let d : Int := 360000000 * dsoc.natAbs
  if 100 * (dsoc.natAbs : Int) < 40 * 2 ^ 32 || (dq < 0 && 0 < dsoc) || (0 < dq && dsoc < 0) || dq = 0 then none
  else if 100 * n < 50 * q * d || 150 * q * d < 100 * n then none
  else some (clampInt (design / 2) (design * 11 / 10) (clampInt (q * 9 / 10) (q * 11 / 10) ((3 * q * d + n) / (4 * d))))

/-- A first anchor of a rest tries to learn the capacity (R258). -/
def tryLearn (s : State) : State :=
  let s' := s.modEst fun e => { e with lastFirst := some (e.soc, s.now), sumQ := 0 }
  match s.est.lastFirst with
  | some (soc, at_) =>
    if s.now - at_ ≤ 25920000000000 then
      match learnCapacity s.capacity (s.get K.EST_DESIGN_CAP) s.est.sumQ (s.est.soc - soc) with
      | some q => ((s'.put K.EST_CAPACITY q).raise Ev.est 6).coreWrite
      | none => s'
    else s'
  | none => s'

end State
end Sys2Proof.Machine
end

