-- ==== Sys2Proof/Machine/ModeMoves.lean ====
section
/-! DEFINITION. How the device changes mode (R45–R53): BOOT's start, IDLE and FAILSAFE entries, clears, SHIP, RIDE and wakes. -/

namespace Sys2Proof.Machine
namespace State

/-! ### Levels of R45 and R225 -/

/-- A hand-over to the battery (R225, R226). -/
def handOver (s : State) : State := (((s.pathTo .battery).bump K.PP_HANDOVER_COUNT).raiseLater Ev.pp 0).mirEvent 5 0

/-- Where VIN is absent, a path that VIN would feed goes to the battery or to no source (R225). -/
def pathEval (s : State) : State :=
  if s.path.inService || !s.keeperRuns then s
  else match s.path.st with
    | .start | .vin => if s.batUsable then s.handOver else s.pathTo .noSource
    | _ => s

/-- What VIN did in DORMANT is carried to the path at the exit (R225): VIN in its window qualifies, a qualification whose window was
left is broken off, and a switch-back whose VIN is absent is aborted. -/
def pathCarry (s : State) : State :=
  match s.path.st with
  | .battery => if s.path.inWindow then s.pathTo .qualify else s
  | .qualify => if s.path.inWindow then s else (s.pathTo .battery).bump K.PP_BOUNCE_COUNT
  | .switchback => if s.path.inService then s else ((s.pathTo .battery).bump K.PP_BOUNCE_COUNT).raiseLater Ev.pp 3
  | _ => s

/-- SHIP is entered (R44, R45, R222, R232): the charger stops, BATFET opens, and the Keeper loses its supply. -/
def enterShip (s : State) : State :=
  (((s.chargerStop.modModes fun x => { x with shipLatch := true, shipArmed := false, riding := false }).setMode .ship
    .shipEntry).keeperRest).refreshAux

/-- RIDE (R45): the mode that R42 shows follows. -/
def enterRide (s : State) : State := (s.modModes fun x => { x with riding := true }).chargerStop.evalMode

/-- The rows of R45 whose event is VIN absent for 1 ms: they act as soon as they hold. A running SEAL gains the cause (R47). -/
def supplyLevels (s : State) : State :=
  if s.modes.vinAbsent1ms && !s.path.inService && s.keeperRuns then
    if !s.batUsable then (if s.modes.mode = .seal && s.modes.sealCauses.supplyLoss then s else s.supplyLoss)
    else match s.modes.mode with
      | .idle => if s.modes.shipArmed then s.enterShip else s.enterRide
      | .ramp | .run | .constrained => s.enterRide
      | _ => s
  else s

/-! ### BOOT (R45, R52, R309) -/

/-- The beacon time at which the count starts (R309). -/
def beaconStart (s : State) : Nat :=
  let rtc := if s.oasis.valid then (s.oasis.seconds * 100000000 + s.rtcFrac * 100000000 / 32768) % 2 ^ 64 else 0
  let found := s.modes.beaconSaved.toList ++ s.history.map fun (h : HistEntry) => h.stamp
  let saved := match found.max? with | some b => b + 100000000 | none => 0
  max rtc saved

/-- The highest beacon time is written to MRAM (R417). -/
def saveBeacon (s : State) : State :=
  if s.modes.holdup && s.modes.mode ≠ .seal then s else s.modModes fun x => { x with beaconSaved := some s.now }

/-- The objects that a BOOT does not return to their defaults: those in MRAM and in Oasis. -/
def keptObjs (s : State) : List (Nat × Int) :=
  s.objs.filter fun kv => match Dict.find kv.1 with | some d => d.keep || decide (d.cls = .sealed) | none => false

/-- A phase after a reset: a stored isolation stands (R82). -/
def bootPhase (x : PhaseSt) : PhaseSt :=
  match x.stored with
  | some (why, t) => { st := .isolated, isoReason := why, isoAt := t, stored := x.stored }
  | none => {}

/-- A metering point after a reset: an open instant that had not come is forgotten (R278). -/
def bootPoint (x : PointSt) : PointSt :=
  { x with sess := if x.sess = .opening then .none else x.sess, openTag := none, closeTag := none, closeWait := false, overArmed := true,
           vStuck := false, iStuck := false, vOver := false, iOver := false,
           sumV := 0, sumI := 0, sumP := 0, sumN := 0 }

/-- The state at the start of BOOT (R52): what is not held in MRAM, OTP or Oasis, by the power path's hardware, or by the quench
latch (R182), is as after a reset. DEDUCED (log 176): a held clear stands (R53). -/
def bootFresh (s : State) (cause : Nat) (why : Reason) : State :=
  let src := s.modes.mode
  let t := s.beaconStart
  let b : State :=
    { State.reset with
      pending := s.pending, objs := s.keptObjs, mram := s.mram, now := t, freeIdx := s.freeIdx, answer := s.answer,
      deferred := s.deferred ++ s.afterBoot.filter fun d => !s.deferred.contains d,
      caps := s.otpCaps, history := s.history, otp := { s.otp with window := false, burn := none, burnTag := none },
      modes := { mode := .boot, fsLatched := s.modes.fsLatched, fsTimeWritten := s.modes.fsTimeWritten,
                 fsStoredRetry := s.modes.fsStoredRetry, heldClear := s.modes.heldClear, hrstLow := s.modes.hrstLow, resetCause := cause,
                 vinAbsent1ms := s.modes.vinAbsent1ms, beaconSaved := s.modes.beaconSaved, holdup := false },
      phases := s.phases.map bootPhase,
      sup := { reportDue := s.sup.reportDue, faultReport := s.sup.faultReport, vhk := s.sup.vhk, quenchLatch := s.sup.quenchLatch },
      path := { s.path with cutoffDue := false, st := .start, qualified := false,
                            vinBlock := false, infetOn := s.path.inService && s.path.vinAbove, bat := .unknown, vbatKnown := false,
                            presentRun := 0, probing := false, restHold := false, qualifiedAt := none, ntcOpen := false, ntcShort := false },
      met := { s.met with points := s.met.points.map bootPoint, clockFault := false, frozen := false,
                          jnl := { s.met.jnl with waiting := [], signing := none, timeInvalid := false, recovered := false, warned := false } },
      nvm := { pws := s.nvm.pws.map fun p => { p with lockEnd := none, fails := 0, lockouts := 0 } },
      net := { pwHash := s.net.pwHash },
      seq := { fogDrive := true, fogBall := s.seq.fogBall, bellBall := s.seq.bellBall },
      oasis := s.oasis,
      ledger := { saved := s.ledger.saved },
      sec := { lifecycle := s.otpLifecycle, seedDue := s.seedIntact } }
  let b := { b with est := { b.est with tickAt := t, batFrom := some t } }
  let b := if b.hasPort 1 then b else b.put K.WAKE_ENABLE 0x1BF
  let b := (b.addHistory t src .boot why).put K.RESET_CAUSE cause
  ((b.put K.MODE_ENTERED_AT t).bump K.BOOT_COUNT).loadAccounts

/-- BOOT starts with a cause (R45, R52); the levels of R45 and R225 act from the first instant. -/
def bootStart (s : State) (cause : Nat) (why : Reason) : State := ((s.bootFresh cause why).pathEval).supplyLevels

/-! ### Entries to IDLE (R45, R53, R193) -/

/-- FAULT_RECORDED and SEAL_INCOMPLETE, at the first entry after a SEAL (R192). -/
def newestSnap (s : State) : Option Nat :=
  (List.range 8).foldl (fun (best : Option Nat) k => match s.snapSeqOf k, best with
    | none, b => b
    | some _, none => some k
    | some q, some b => if (s.snapSeqOf b).getD 0 < q then some k else some b) none

/-- The newest snapshot's stage is too low for its causes (R192, R200). -/
def snapIncomplete (s : State) : Bool :=
  match s.newestSnap with
  | some k =>
    let c := ofLE (s.readMram (snapAddr k + 32) 1)
    let g := ofLE (s.readMram (snapAddr k + 33) 1)
    (decide (g < 4) && (c.testBit 0 || c.testBit 2)) || (decide (g < 3) && c.testBit 1)
  | none => false

/-- What R192 reports at the first entry after a SEAL. -/
def reportSeal (s : State) : State :=
  if s.sup.reportDue then
    let f := s.sup.faultReport
    let s := s.modSup fun u => { u with reportDue := false, faultReport := false }
    if f then
      let s := s.raise Ev.sup 0
      if s.snapIncomplete then s.raise Ev.sup 2 else s
    else s
  else s

/-- The Lanterns' wires are released, and their links retrain (R193); their references are set anew where a wire was held (R207). -/
def releaseLanterns (s : State) : State :=
  let released := s.sup.quenchLatch || decide (s.modes.mode = .dormant)
  let s := s.modSup fun u => { u with quenchLatch := false }
  let s := (List.finRange 8).foldl (fun (s : State) (t : Fin 8) =>
    if t = 0 || !s.tileFitted t || (s.tile t).fenced then s
    else if (s.link t).st = .up then s
    else (s.modTile t fun x => { x with quenchUp := false }).beginTraining t) s
  if released then s.unquenchRails.refsDue false else s.unquenchRails

/-- IDLE is entered from BOOT or FAILSAFE (R45, R160, R163, R193): the latch is cleared, FOG released, BELL held, and the
power-up of the auto-start groups starts. -/
def enterIdle (s : State) (why : Reason) : State :=
  let s := s.releaseLanterns
  let s := (s.driveFog false).driveBell true
  let s := (s.setMode .idle why).modModes fun x => { x with serviceFromFailsafe := false, fsPending := false }
  ((s.idleEntry.reportSeal).supplyLevels).autoStart

/-! ### FAILSAFE (R53, R193) -/

/-- The latch word is erased (R53). -/
def eraseLatch (s : State) : State := s.modModes fun x => { x with fsLatched := false, fsTimeWritten := false, fsStoredRetry := 0 }

/-- The retry at a FAILSAFE entry (R53): a stored time resumes; otherwise it is scheduled or exhausted. -/
def scheduleRetry (s : State) (fromService : Bool) : State :=
  if s.modes.fsLatched && s.modes.fsTimeWritten && !fromService then
    let s := s.put K.FS_RETRY_AT s.modes.fsStoredRetry
    if s.modes.fsStoredRetry = 0 then (s.modModes fun x => { x with retryExhausted := true }).raise Ev.mode 3 else s
  else
    let none_ := fromService || s.get K.FS_RETRY_DELAY = 0xFFFFFFFF || s.get K.FS_RETRY_LIMIT ≤ s.get K.FS_RETRY_COUNT
    let at_ := if none_ then 0 else s.now + s.getN K.FS_RETRY_DELAY * 100000
    let s := (s.put K.FS_RETRY_AT at_).modModes fun x => { x with fsTimeWritten := true, fsStoredRetry := at_, retryExhausted := none_ }
    if none_ then s.raise Ev.mode 3 else s

/-- FAILSAFE is entered (R45, R53, R193): the quench latch is set, the Lanterns are unpowered, FOG is driven. -/
def enterFailsafe (s : State) (why : Reason) : State :=
  let fromService := decide (s.modes.mode = .service)
  let s := ((s.chargerStop.modSup fun u => { u with quenchLatch := true }).refsDue false)
  let s := (List.finRange 8).foldl (fun (s : State) (t : Fin 8) =>
    s.modLink t LinkSt.powerOff) s
  let s := (s.driveFog (s.coopBit 0)).driveBell true
  let s := (s.setMode .failsafe why).modModes fun x => { x with fsPending := false, serviceFromFailsafe := false, serviceLeaving := false }
  let s := { s with met := { s.met with frozen := false } }
  let s := (s.refreshAux.raise Ev.mode 1).scheduleRetry fromService
  ((s.raiseDeferred).reportSeal).supplyLevels

/-- A FAILSAFE clear takes effect (R53). -/
def fsClear (s : State) (why : Reason) : State :=
  if s.modes.mode = .failsafe then
    let s := (s.eraseLatch.puts [(K.FS_RETRY_COUNT, 0), (K.FS_RETRY_AT, 0)]).modModes fun x => { x with retryExhausted := false, heldClear := none }
    if s.get K.FS_CAUSE = 5 then s.bootStart 7 why else s.enterIdle why
  else s

/-- A clear by PB or a VIN cycle (R53): in FAILSAFE it is taken; with the latch set in BOOT, or in a SERVICE entered from
FAILSAFE, it is held. -/
def fsClearEvent (s : State) (why : Reason) : State :=
  if s.modes.mode = .failsafe then s.fsClear why
  else if s.modes.fsLatched && (s.modes.mode = .boot || (s.modes.mode = .service && s.modes.serviceFromFailsafe)) then
    s.modModes fun x => { x with heldClear := some (x.heldClear.getD why) }
  else s

/-- The retry time has come (R53). -/
def fsRetry (s : State) : State :=
  if s.modes.mode = .failsafe && s.get K.FS_RETRY_AT ≠ 0 && decide (s.get K.FS_RETRY_AT ≤ (s.now : Int)) then
    let s := (s.puts [(K.FS_RETRY_COUNT, s.get K.FS_RETRY_COUNT + 1), (K.FS_RETRY_AT, 0)]).eraseLatch.raise Ev.mode 2
    if s.get K.FS_CAUSE = 5 then s.bootStart 6 .fsRetry else s.enterIdle .fsRetry
  else s

/-- Rails have been up without fault for `FS_CLEAN_TIME` (R53). -/
def fsCleanTime (s : State) : State :=
  let m := s.shownMode
  if s.get K.FS_CLEAN_TIME ≠ 0 && isNormalMode s.modes.mode && (m = .run || m = .constrained || (m = .ride && s.anyRailLive)) then
    s.put K.FS_RETRY_COUNT 0 else s

/-! ### Wakes (R51) -/

/-- The wake sources that act in the present mode (R51). -/
def wakeMask (s : State) : Nat :=
  let copy := s.oasis.wakeCopy
  match s.modes.mode with
  | .vault => 0x11 ||| (copy &&& 0x0E)
  | .ship => 0x210
  | .dormant => 0x101 ||| (copy &&& (if s.hasPort 1 then 0xFE else 0xBE))
  | _ => 0

/-- A wake event (R45, R51, R229, R232): a VIN arrival also clears the cutoff latch, BATFET then closing once VIN has
qualified. -/
def wake (s : State) (sources : Nat) : State :=
  let s := if sources.testBit 4 && s.path.cutoff then s.modPath fun x => { x with cutoff := false, holdOpen := true } else s
  let hit := sources &&& s.wakeMask
  if hit = 0 || s.modes.waking.isSome then s
  else
    match s.modes.mode with
    | .vault =>
      if !s.modes.vaultLatch then s
      else
        let s := ((s.put K.WAKE_SOURCE hit).bump K.WAKE_COUNT).modModes fun x => { x with vaultLatch := false, waking := some hit }
        if s.modes.heldReset && !s.modes.hrstLow && !s.path.pulse then s.bootStart 2 .wake else s
    | .ship =>
      let s := ((s.put K.WAKE_SOURCE hit).bump K.WAKE_COUNT).modModes fun x => { x with shipLatch := false, waking := some hit }
      if hit.testBit 9 then s else s.modPath fun x => { x with holdOpen := true }
    | .dormant =>
      if s.modes.heldReset then s
      else
      let s := ((s.put K.WAKE_SOURCE hit).bump K.WAKE_COUNT).modModes fun x => { x with waking := some hit }
      let s := { s with now := s.beaconStart }
      s.releaseLanterns
    | _ => s

end State
end Sys2Proof.Machine
end

