-- ==== Sys2Proof/Machine/Charger.lean ====
section
/-! DEFINITION. The charger (R235–R244). -/

namespace Sys2Proof.Machine

/-- The natural logarithm of 2 in 2⁻⁶⁰. -/
def ln2 : Int := 799144290325165979

/-- Twice the inverse hyperbolic tangent of a/b in 2⁻⁶⁰, |a| < b, by its series: `pw` is the power (a/b)^k, k odd. -/
def atanhSeries (a b : Int) : Nat → Nat → Int → Int
  | 0, _, _ => 0
  | n + 1, k, pw => 2 * pw / k + atanhSeries a b n (k + 2) (pw * a * a / (b * b))

/-- ln(a/b) in 2⁻⁶⁰ for positive a and b: a/b is brought into 1–2 by powers of 2. -/
def lnRatio : Nat → Int → Int → Int
  | 0, _, _ => 0
  | n + 1, a, b =>
    if 2 * b ≤ a then ln2 + lnRatio n a (2 * b)
    else if a < b then lnRatio n (2 * a) b - ln2
    else atanhSeries (a - b) (a + b) 48 1 ((a - b) * 2 ^ 60 / (a + b))

namespace State

/-! ### Temperature and zone (R237) -/

/-- The NTC's temperature in 0.01 °C for a reading of `v` mV (R237). -/
def ntcTemp (s : State) (v : Int) : Int :=
  let beta := s.get K.PP_NTC_BETA
  let l := lnRatio 64 (10000 * v) ((1800 - v) * s.get K.PP_NTC_R25)
  quot (100 * 29815 * beta * 2 ^ 60) (100 * beta * 2 ^ 60 + 29815 * l) - 27315

/-- The zone that a temperature gives, from the present one, with the hysteresis of R237; 5 is UNKNOWN. -/
def zoneOf (s : State) (cur : Nat) (t : Int) : Nat :=
  let count (off : Int) : Nat := ((List.range 4).filter fun j => decide (s.get (K.CHG_ZONE_T j) - off ≤ t)).length
  let up := count 0
  let down := count (s.get K.CHG_ZONE_HYST)
  if cur = 5 then up else if cur < up then up else min cur down

/-- A zone in force; ZONE_CHANGE at a change. -/
def setZone (s : State) (z : Nat) : State :=
  if s.chg.zone = z then s else ((s.modChg fun c => { c with zone := z }).put K.CHG_ZONE z).raise Ev.chg 3

/-- A reading of the NTC on a management tick (R237). -/
def readNtc (s : State) (v : Int) : State :=
  if 1750 < v || v < 30 then
    let s := if s.path.ntcOpen || s.path.ntcShort then s else s.raise Ev.chg 10
    ((s.modPath fun x => { x with ntcOpen := decide (1750 < v), ntcShort := decide (v < 30) }).put K.PP_T_BAT (-32768)).setZone 5
  else
    let t := s.ntcTemp v
    ((s.modPath fun x => { x with ntcOpen := false, ntcShort := false }).put K.PP_T_BAT t).setZone (s.zoneOf s.chg.zone t)

/-! ### Targets (R236) -/

/-- VCELL_eff (R243). -/
def vcellEff (s : State) : Int := if s.chg.wdFallback then min (s.get K.CHG_VCELL) (s.get K.CHG_SAFE_VCELL) else s.get K.CHG_VCELL

/-- dv_zone. -/
def dvZone (s : State) : Int := if s.chg.zone < 5 then s.get (K.CHG_ZONE_DV s.chg.zone) else 0

/-- The thresholds of R236 in mV. -/
def vTarget (s : State) : Int := (s.vcellEff - s.dvZone) * s.get K.PP_CELLS
def vPre (s : State) : Int := s.get K.CHG_VPRE_CELL * s.get K.PP_CELLS
def vRecharge (s : State) : Int := s.vTarget - s.get K.CHG_RECHG_DV * s.get K.PP_CELLS
def vOv (s : State) : Int := quot (s.get K.CHG_VCELL * s.get K.PP_CELLS * 1030) 1000

/-- A set point under the ledger cap. -/
def underCap (s : State) (i : Int) : Int := match s.chg.cap with | some c => min i c | none => i

/-- i_set (R236). -/
def iSet (s : State) : Int := s.underCap s.setPoint

/-- The termination current (R236). -/
def iTerm (s : State) : Int := quot (s.ichgEff * s.get K.CHG_ITERM) 100

/-! ### Conditions (R238) -/

/-- Two seconds have passed since VIN last qualified. -/
def vinSettled (s : State) : Bool := match s.path.qualifiedAt with | some t => decide (t + 200000000 ≤ s.now) | none => false

/-- Everything that R238 asks, apart from a pending cycle. -/
def chargeAllowed (s : State) : Bool :=
  s.flag K.CHG_EN &&
  (match s.modes.mode with | .idle => true | .ramp => true | .run => true | .constrained => true | .service => true | _ => false) &&
  decide (s.path.st = .vin) && s.vinSettled && s.batPresent && decide (0 < s.fZone) && decide (0 < s.iSet) && !s.chg.fastStop &&
  !s.therm.shutIdle && !s.chg.ovStop

/-! ### The states (R239) -/

/-- A fault ends the cycle (R239). -/
def chgFault (s : State) (code : Nat) : State := ((s.put K.CHG_FAULT code).chgTo .fault).raise Ev.chg 5

/-- A cycle is pending; a fault is cleared by the causes that R239 lists. -/
def cyclePending (s : State) : State :=
  let s := s.modChg fun c => { c with cyclePending := true }
  if s.chg.st = .fault then (s.put K.CHG_FAULT 0).chgTo .waiting else s

/-- A condition that ends a cycle arises: in WAITING the cycle is no longer pending until its next cause (R238, R239). -/
def endPending (s : State) : State :=
  if s.chg.st = .waiting then s.modChg fun c => { c with cyclePending := false } else s

/-- A cycle starts (R239). -/
def startCycle (s : State) : State :=
  let s := s.modChg fun c => { c with cyclePending := false, preTimer := 0, safeTimer := 0, voltageLoop := false }
  let s := s.chgTo (if s.get K.PP_VBAT < s.vPre then .precharge else .fastCc)
  (s.bump K.CHG_CYCLES).raise Ev.chg 0

/-- Bring the charger to the state that its conditions give (R239). -/
def chargerEval (s : State) : State :=
  if !s.hasCharger then s
  else if !s.flag K.CHG_EN then (if s.chg.st = .disabled then s else s.chgTo .disabled)
  else
    let ends := (decide (s.path.st ≠ .vin) && decide (s.path.st ≠ .rest)) || decide (s.batState = .missing) || decide (s.batState = .shorted)
    match s.chg.st with
    | .disabled => (s.modChg fun c => { c with cyclePending := true }).chgTo .waiting
    | .fault => s
    | .waiting => if s.chg.cyclePending && s.chargeAllowed then s.startCycle else s
    | .done => if ends then (s.modChg fun c => { c with cyclePending := false }).chgTo .waiting else s
    | .precharge | .fastCc | .fastCv =>
      if s.batState = .shorted then s.chgFault 4
      else if ends then (s.modChg fun c => { c with cyclePending := false }).chgTo .waiting
      else if s.chargeAllowed then s else s.chgTo .suspended
    | .suspended =>
      if s.batState = .shorted then s.chgFault 4
      else if ends then (s.modChg fun c => { c with cyclePending := false }).chgTo .waiting
      else if s.chargeAllowed then
        s.chgTo (if s.get K.PP_VBAT < s.vPre then .precharge else if s.vTarget ≤ s.get K.PP_VBAT then .fastCv else .fastCc)
      else s

/-! ### Each tick (R240, R242) -/

/-- `CHG_TIMER` (R242): the timer in use; outside the states in which one counts it keeps what it showed. -/
def shownTimer (s : State) : Int :=
  match s.chg.st with
  | .precharge => s.chg.preTimer
  | .fastCc | .fastCv => s.chg.safeTimer
  | _ => s.get K.CHG_TIMER

/-- The charger's part of a management tick. -/
def chargerTick (s : State) : State :=
  if !s.hasCharger then s
  else
    let s := if s.chg.wdClear then s.modChg fun c => { c with wdFallback := false, wdClear := false } else s
    let s := s.chargerEval
    let i := s.iSet
    let lim := if s.charging then quot (i * clampInt 0 500 (s.get K.CHG_TREG + 500 - s.tMax 0)) 500 else i
    let reg := s.charging && decide (lim < i)
    let half := reg && decide (2 * s.get K.CHG_I < i)
    let s := if reg && !s.chg.thermReg then s.raise Ev.chg 4 else s
    let s := s.modChg fun c =>
      { c with thermReg := reg, halfRate := half,
               preTimer := if c.st = .precharge then c.preTimer + (if half then 5 else 10) else c.preTimer,
               safeTimer := if c.st = .fastCc ∨ c.st = .fastCv then c.safeTimer + (if half then 5 else 10) else c.safeTimer }
    s.puts [(K.CHG_ISET, i), (K.CHG_ILIM, lim), (K.CHG_VTARGET, s.vTarget), (K.CHG_TIMER, s.shownTimer)]

/-- `CHG_STATUS` (R249). -/
def chgStatus (s : State) : Nat :=
  let b (k : Nat) (x : Bool) := if x then 2 ^ k else 0
  let capped := match s.chg.cap with | some c => decide (c = s.iSet) | none => false
  b 0 s.chg.thermReg + b 1 s.chg.halfRate + b 2 capped + b 3 s.chg.fastStop + b 4 s.chg.wdFallback + b 5 s.chg.voltageLoop +
    b 6 s.chg.cyclePending + b 7 s.chg.probePause

/-! ### Events -/

/-- A switching cycle of the buck (R235, R239): the loop of lower duty governs. -/
def chargerCycle (s : State) (current voltage : Int) : State :=
  if s.charging then
    let s := s.modChg fun c => { c with voltageLoop := decide (voltage < current), duty := min voltage current }
    match s.chg.st with
    | .fastCc => if s.chg.voltageLoop then s.chgTo .fastCv else s
    | .fastCv => if s.chg.voltageLoop then s else s.chgTo .fastCc
    | _ => s
  else s

/-- VBAT has been at or above the precharge threshold for 1 s (R239). -/
def prechargeDone (s : State) : State :=
  if s.chg.st = .precharge && decide (s.vPre ≤ s.get K.PP_VBAT) then s.chgTo .fastCc else s

/-- The termination conditions have held for 2 s (R241). -/
def terminate (s : State) : State :=
  let near := decide (1000 * ((s.get K.PP_VBAT - s.vTarget).natAbs : Int) ≤ 5 * s.vTarget)
  if s.chg.st = .fastCv && near && decide (s.get K.CHG_I < s.iTerm) then (s.chgTo .done).raise Ev.chg 1 else s

/-- VBAT has been below the recharge threshold for 1 s in DONE (R239). -/
def recharge (s : State) : State :=
  if s.chg.st = .done && decide (s.get K.PP_VBAT < s.vRecharge) && s.chargeAllowed then s.startCycle else s

/-- A timer has reached its limit (R242). -/
def timerExpiry (s : State) : State :=
  match s.chg.st with
  | .precharge => if s.getN K.CHG_PRE_TIME * 60000 ≤ s.chg.preTimer then s.chgFault 3 else s
  | .fastCc | .fastCv => if s.getN K.CHG_SAFETY_TIME * 60000 ≤ s.chg.safeTimer then s.chgFault (if s.chg.halfRate then 2 else 1) else s
  | _ => s

/-- The over-voltage comparator stops the charger, and the probe runs at once (R244). -/
def ovStopped (s : State) (v : Int) : State :=
  if s.charging && decide (s.vOv < v) then
    ((s.modChg fun c => { c with ovStop := true }).chgTo .suspended).modPath fun x => { x with probing := true }
  else s

/-- 100 ms after an over-voltage stop (R244). -/
def ovCheck (s : State) (v : Int) : State :=
  if s.chg.ovStop then
    let s := s.modChg fun c => { c with ovStop := false }
    if s.batPresent && decide (s.vOv < v) && s.chg.st = .suspended then s.chgFault 5 else s.chargerEval
  else s

/-- The watchdog expires (R243). -/
def wdExpiry (s : State) : State :=
  if s.keeperRuns && s.hasCharger && !s.chg.wdFallback then
    ((s.modChg fun c => { c with wdFallback := true }).bump K.CHG_WD_EXPIRIES).raise Ev.chg 8
  else s

/-- Host contact (R243): the fallback ends at the next tick. -/
def hostContact (s : State) : State := if s.chg.wdFallback then s.modChg fun c => { c with wdClear := true } else s

/-! ### Writes (R248) -/

/-- A write of `CHG_EN` (R239). -/
def writeChgEn (s : State) (acc : Accessor) (v : Nat) : Res :=
  s.writeVia acc K.CHG_EN 1 fun s =>
    if 1 < v then .error .outOfRange else .ok (((s.put K.CHG_EN v).chargerEval).hostContact, .done)

/-- A write of `CHG_START` (R239, R248). -/
def writeChgStart (s : State) (acc : Accessor) (v : Nat) : Res :=
  s.writeVia acc K.CHG_START 1 fun s =>
    if !s.chargeAllowed then .error .modeForbids
    else if v ≠ 0x5A then .error .outOfRange
    else .ok ((s.cyclePending.chargerEval).hostContact, .done)

/-- A write of `CHG_WD_KICK` (R243). -/
def writeWdKick (s : State) (acc : Accessor) (v : Nat) : Res :=
  s.writeVia acc K.CHG_WD_KICK 1 fun s => if v ≠ 0x5A then .error .outOfRange else .ok (s.hostContact, .done)

end State

open State

/-- CHARGER_CYCLE (R235): the duties that the two loops ask for. -/
def execChargerCycle (current voltage : Int) (s : State) : Out := .next (s.chargerCycle current voltage)

/-- CHG_EN_WRITE (R239). -/
def execChgEnWrite (acc : Accessor) (v : Nat) (s : State) : Out := .next (s.access acc fun s => s.writeChgEn acc v)

/-- CHG_START (R248): the write of 0x5A. -/
def execChgStart (acc : Accessor) (s : State) : Out := .next (s.access acc fun s => s.writeChgStart acc 0x5A)

/-- CHG_WD_KICK (R243): the write of 0x5A. -/
def execChgWdKick (acc : Accessor) (s : State) : Out := .next (s.access acc fun s => s.writeWdKick acc 0x5A)

/-- CHG_WATCHDOG_EXPIRY (R243). -/
def execChgWatchdogExpiry (s : State) : Out := .next s.wdExpiry

/-- PRECHARGE_QUALIFIED (R239). -/
def execPrechargeQualified (s : State) : Out := .next s.prechargeDone

/-- CHG_TERMINATION (R241). -/
def execChgTermination (s : State) : Out := .next s.terminate

/-- RECHARGE_THRESHOLD (R239). -/
def execRechargeThreshold (s : State) : Out := .next s.recharge

/-- CHG_TIMER_EXPIRY (R242). -/
def execChgTimerExpiry (s : State) : Out := .next s.timerExpiry

/-- CHG_OV_STOP (R244): VBAT is `v` mV. -/
def execChgOvStop (v : Int) (s : State) : Out := .next (s.ovStopped v)

/-- CHG_OV_CHECK (R244): VBAT is `v` mV. -/
def execChgOvCheck (v : Int) (s : State) : Out := .next (s.ovCheck v)

end Sys2Proof.Machine
end

