-- ==== Sys2Proof/Machine/PowerPath.lean ====
section
/-! DEFINITION. The power path, the battery probe and the PB button (R222–R234). -/

namespace Sys2Proof.Machine
namespace State

/-- VIN is absent (R223). -/
def vinAbsent (s : State) : Bool := !s.path.inService

/-- INFET_G as the ideal-diode controller drives it (R222): `above` says that VIN exceeds VBUS. -/
def setInfet (s : State) (above : Bool) : State :=
  s.modPath fun x => { x with vinAbove := above, infetOn := x.inService && !x.vinBlock && above }

/-- The battery has become unusable while it feeds VBUS (R225, R229, R45): where VBAT or the probe is the reason, the SEAL that
follows ends with the cutoff latch. In SWITCHBACK VIN already feeds VBUS, and nothing changes. In BATTERY outside RIDE, FAILSAFE
and SERVICE the row of R45 for VIN absent 1 ms follows; in QUALIFY no other row would, and SEAL follows as R225 says. -/
def batUnusable (s : State) : State :=
  match s.path.st with
  | .battery | .qualify =>
    if s.batUsable then s
    else
      let drained := s.vbatLow || decide (s.path.bat = .missing) || decide (s.path.bat = .shorted)
      let qualifying := decide (s.path.st = .qualify)
      let s := (s.pathTo .noSource).modPath fun x => { x with cutoffDue := x.cutoffDue || drained }
      match s.modes.mode with
      | .ride | .failsafe | .service => s.supplyLoss
      | _ => if qualifying then s.supplyLoss else s.supplyLevels
  | _ => s

/-- The charger stops switching as VIN trips (R226); the state that follows is the one of R239. -/
def chargerHalt (s : State) : State := if s.charging then s.modChg fun c => { c with st := .suspended } else s

/-- VIN becomes absent (R223–R226); `high` says above `PP_VIN_OV`. A REST hold is released by the same edge (R224), the charge cycle
ends, and a qualification that was running is counted as broken off. -/
def vinTrip (s : State) (high : Bool) : State :=
  if !s.path.inService then s
  else
    let bounce := s.path.inWindow && !s.path.qualified
    let s := s.modPath fun x =>
      { x with inService := false, inWindow := false, qualified := false, vinAbove := false, infetOn := false, restHold := false }
    if !s.keeperRuns then s
    else
      let s := (s.puts [(K.PP_LOSS_REASON, if high then 2 else 1), (K.PP_HANDOVER_AT, s.now)]).modPath fun x => { x with vinBlock := true }
      let s := s.chargerHalt
      let s := if bounce then s.bump K.PP_BOUNCE_COUNT else s
      let s := match s.path.st with
        | .qualify => s.pathTo .battery
        | .switchback => ((s.pathTo .battery).bump K.PP_BOUNCE_COUNT).raiseLater Ev.pp 3
        | .rest => s.abortRest.handOver
        | _ => s.pathEval
      s.endPending.chargerEval.batUnusable

/-- VIN comes into service (R222, R223). -/
def vinInService (s : State) (above : Bool) : State :=
  if s.path.inService then s
  else
    ((s.modPath fun x => { x with inService := true, vinBlock := x.vinBlock && s.keeperRuns }).modModes fun m =>
      { m with vinAbsent1ms := false }).setInfet above

/-- VIN enters its window (R223, R225). -/
def windowEnter (s : State) : State :=
  if !s.path.inService || s.path.inWindow then s
  else
    let s := s.modPath fun x => { x with inWindow := true }
    if s.keeperRuns && s.path.st = .battery then s.pathTo .qualify else s

/-- VIN leaves its window: a qualification that runs restarts and is counted (R223, R225). -/
def windowExit (s : State) : State :=
  if !s.path.inWindow then s
  else
    let s := s.modPath fun x => { x with inWindow := false }
    if !s.keeperRuns then s
    else
      let s := if s.path.qualified then s else s.bump K.PP_BOUNCE_COUNT
      if s.path.st = .qualify then s.pathTo .battery else s

/-- VIN has qualified (R223, R225, R53): VIN_BLOCK is cleared, a charge cycle is pending, and a VIN cycle clears FAILSAFE. -/
def vinQualified (s : State) : State :=
  if !s.path.inWindow || s.path.qualified || !s.keeperRuns then s
  else
    let cycle := s.path.vinCycle
    let s := s.modPath fun x => { x with qualified := true, qualifiedAt := some s.now, vinCycle := false }
    let s := s.unblockVin.raiseLater Ev.pp 1
    let s := match s.path.st with
      | .start => (s.pathTo .vin).modPath fun x => { x with holdOpen := false }
      | .qualify => s.pathTo .switchback
      | _ => s
    let s := s.cyclePending.chargerEval
    if cycle then s.fsClearEvent .fsClearVin else s

/-- VBUS has reached VIN − 500 mV (R225, R227): the path is VIN, and RIDE ends. -/
def switchbackDone (s : State) : State :=
  if s.keeperRuns && s.path.st = .switchback then
    let s := ((s.pathTo .vin).raiseLater Ev.pp 2).modModes fun x => { x with riding := false }
    s.evalMode.chargerEval
  else s

/-- VIN has been absent for 1 ms (R45, R53). -/
def vinGone (s : State) : State :=
  if s.path.inService then s
  else
    let s := (s.modModes fun m => { m with vinAbsent1ms := true }).modPath fun x => { x with vinCycle := true }
    s.pathEval.supplyLevels

/-- VBAT has stayed below the cutoff for 10 ms while the battery feeds VBUS (R229). -/
def vbatCutoff (s : State) (v : Int) : State :=
  if s.keeperRuns && decide (v < s.cutoffMv) then ((s.put K.PP_VBAT v).modPath fun x => { x with vbatKnown := true }).batUnusable else s

/-! ### The probe (R230) -/

/-- A probe starts; while the charger switches, it pauses it (R230). The charger switches again at its end. -/
def startProbe (s : State) : State :=
  if s.keeperRuns && s.batfetClosed && !s.onBattery && !s.path.probing then
    let pause := s.charging
    (s.modPath fun x => { x with probing := true }).modChg fun c => { c with probePause := pause }
  else s

/-- A finding of the probe: MISSING and SHORTED stand at once, two PRESENT in a row are needed to leave them (R230); an
insertion is a swap and makes a charge cycle pending (R239, R261). -/
def setBat (s : State) (f : BatState) : State :=
  let old := s.path.bat
  match f with
  | .missing =>
    let s := (s.modPath fun x => { x with bat := .missing, presentRun := 0 }).endPending
    if old = .missing then s else s.raise Ev.chg 6
  | .present =>
    if old = .missing || old = .shorted then
      if 1 ≤ s.path.presentRun then
        let s := s.modPath fun x => { x with bat := .present, presentRun := 0 }
        if old = .missing then ((s.raise Ev.chg 7).swap).cyclePending else s
      else s.modPath fun x => { x with presentRun := 1 }
    else s.modPath fun x => { x with bat := .present, presentRun := 0 }
  | .shorted => (s.modPath fun x => { x with bat := .shorted, presentRun := 0 }).endPending
  | .unknown | .disconnected => s.modPath fun x => { x with bat := f, presentRun := 0 }

/-- The end of a probe's pulse: VBAT rose by `rise` mV and ended at `endV` mV (R230). -/
def probeResult (s : State) (rise endV : Int) : State :=
  if !s.path.probing then s
  else
    let s := ((s.modPath fun x => { x with probing := false }).modChg fun c => { c with probePause := false }).seeSwitching
    if !s.keeperRuns || !s.batfetClosed then s
    else
      let f : BatState := if 250 < rise then .missing else if endV < 400 * s.get K.PP_CELLS then .shorted else .present
      let s := s.setBat f
      s.chargerEval.batUnusable

/-! ### REST (R231) -/

/-- The conditions of R231, apart from the request. -/
def restAllowed (s : State) : Bool :=
  (!s.hasCharger || decide (s.chg.st = .done) || decide (s.chg.st = .disabled)) && s.batPresent &&
  (match s.modes.mode with | .idle => true | .ramp => true | .run => true | .constrained => true | _ => false)

/-- A pending request enters REST (R225, R231): the hold keeps BATPATH off. -/
def restEnter (s : State) : State :=
  if s.est.pending && s.path.st = .vin && s.restAllowed then
    ((((s.pathTo .rest).modPath fun x => { x with restHold := true, batpathOn := false }).modEst fun e =>
      { e with pending := false, windowAnchor := false, retryWait := false }).raise Ev.pp 7)
  else s

/-- The rest window is over (R260). -/
def restEnd (s : State) : State := if s.path.st = .rest then s.leaveRest .vin else s

/-! ### PB (R233, R234) -/

/-- A recognised press (R51, R233). -/
def pbPress (s : State) : State := (s.modPath fun x => { x with pbPressed := true }).wake 1

/-- A short press is released (R53, R233). -/
def pbShort (s : State) : State :=
  if !s.path.pbPressed then s
  else
    let s := s.modPath fun x => { x with pbPressed := false }
    if s.keeperRuns then (s.raiseLater Ev.pp 5).fsClearEvent .fsClearPb else s

/-- PB has been low for 8 s (R232, R234): it ends SHIP, or opens BATFET and drains VHK. -/
def pbLong (s : State) : State :=
  if s.modes.mode = .ship then s.wake 0x200
  else
    let s := s.modPath fun x => { x with pulse := true, pulseOpen := true, pbReset := true }
    if s.keeperRuns then s.batUnusable.supplyLevels else s

/-- 400 ms after a long press BATFET may close, and the pulse ends once VHK is below POR (R234). -/
def pulseRelease (s : State) : State :=
  if s.path.pulseOpen then s.modPath fun x => { x with pulseOpen := false, pulse := x.pulse && decide (s.modes.mode ≠ .vault) } else s

/-- `PP_STATUS` (R246). -/
def ppStatus (s : State) : Nat :=
  let b (k : Nat) (x : Bool) := if x then 2 ^ k else 0
  let x := s.path
  b 0 x.inService + b 1 x.inWindow + b 2 x.qualified + b 3 x.vinBlock + b 4 x.infetOn + b 5 x.batpathOn + b 6 s.batfetClosed +
    b 7 s.batUsable + b 8 x.restHold + b 9 x.pbPressed + b 10 x.ntcOpen + b 11 x.ntcShort

end State

open State

/-- VIN_COMPARATOR_TRIP (R226): VIN falls below `PP_VIN_LOSS`, or rises above `PP_VIN_OV` (`high`). -/
def execVinComparatorTrip (high : Bool) (s : State) : Out := .next (s.vinTrip high)

/-- VIN_IN_SERVICE (R222): `above` says that VIN exceeds VBUS. -/
def execVinInService (above : Bool) (s : State) : Out := .next (s.vinInService above)

/-- VIN_WINDOW_ENTER (R225). -/
def execVinWindowEnter (s : State) : Out := .next s.windowEnter

/-- VIN_WINDOW_EXIT (R223). -/
def execVinWindowExit (s : State) : Out := .next s.windowExit

/-- VIN_QUALIFIED (R225). -/
def execVinQualified (s : State) : Out := .next s.vinQualified

/-- SWITCHBACK_DONE (R225). -/
def execSwitchbackDone (s : State) : Out := .next s.switchbackDone

/-- VIN_ABSENT_1MS (R45). -/
def execVinAbsent1ms (s : State) : Out := .next s.vinGone

/-- VBAT_CUTOFF (R229): VBAT has stayed at `v` mV or less. -/
def execVbatCutoff (v : Int) (s : State) : Out := .next (s.vbatCutoff v)

/-- BATTERY_UNUSABLE (R229). -/
def execBatteryUnusable (s : State) : Out := .next (if s.keeperRuns then s.batUnusable else s)

/-- BATPATH_ON_CHANGE (R222): the battery path conducts, except under the REST hold, or stops. -/
def execBatpathOnChange (on : Bool) (s : State) : Out :=
  .next (let c := on && !s.path.restHold
         ((s.modPath fun x => { x with batpathOn := c }).modEst fun e => { e with batpathSeen := e.batpathSeen || c }).pathEval)

/-- BATTERY_PROBE (R230). -/
def execBatteryProbe (s : State) : Out := .next s.startProbe

/-- PROBE_RESULT (R230). -/
def execProbeResult (rise endV : Int) (s : State) : Out := .next (s.probeResult rise endV)

/-- REST_ENTER (R231). -/
def execRestEnter (s : State) : Out := .next s.restEnter

/-- REST_WINDOW_END (R260). -/
def execRestWindowEnd (s : State) : Out := .next s.restEnd

/-- PB_PRESS (R233). -/
def execPbPress (s : State) : Out := .next s.pbPress

/-- PB_SHORT_PRESS (R233). -/
def execPbShortPress (s : State) : Out := .next s.pbShort

/-- PB_LONG_PRESS (R234). -/
def execPbLongPress (s : State) : Out := .next s.pbLong

/-- LONG_PRESS_BATFET_RELEASE (R234). -/
def execLongPressBatfetRelease (s : State) : Out := .next s.pulseRelease

end Sys2Proof.Machine
end

