-- ==== Sys2Proof/Machine/Estimator.lean ====
section
/-! DEFINITION. The battery estimator's tick and commands (R251–R264). -/

namespace Sys2Proof.Machine
namespace State

/-! ### The current (R252) -/

/-- The share of the tick, the last 10 ms, with ON_BATTERY: time and length in beacon ticks. -/
def batShare (s : State) : Int × Int :=
  let w := s.now - 1000000
  let past := (s.est.batPast.map fun x => x.2 - max x.1 w).sum
  (past + (match s.est.batFrom with | some t => s.now - max t w | none => 0), (max 1 (s.now - w) : Nat))

/-- The battery current of the tick in µA, positive into the battery (R252). -/
def batCurrent (s : State) : Int :=
  let (on, len) := s.batShare
  let p := s.get K.LEDGER_P_IN
  let v := s.get K.PP_VBAT
  if s.path.st = .rest then 0
  else if 0 < on then
    let i0 := quot (p * 1000000) v
    quot (-(min on len) * p * 1000000 * 10000000) (len * (v * 10000000 - (i0.natAbs : Int) * s.get K.EST_PATH_R))
  else if s.est.chgSeen then s.get K.CHG_I * 1000
  else 0

/-- The tick's source is mixed: ON_BATTERY or the charger changed in it (R252, R255). -/
def mixedTick (s : State) : Bool :=
  let (on, len) := s.batShare
  (decide (0 < on) && decide (on < len)) || (s.est.chgSeen && (!s.est.chgStart || !s.switching))

/-- The battery temperature in 0.01 °C and whether it is unknown (R253). -/
def batTemp (s : State) : Int × Bool :=
  let t := s.get K.PP_T_BAT
  if t = -32768 || t = 32768 then (2500, true) else (t, false)

/-! ### The filter (R254) -/

/-- One predict and correct step with current `i` µA (R254). -/
def filterStep (s : State) (i : Int) : State :=
  let e := s.est
  let t := s.batTemp.1
  let q := s.capacity
  let r0 := s.impAt (·.r0) e.soc t
  let r1 := s.impAt (·.r1) e.soc t
  let r2 := s.impAt (·.r2) e.soc t
  let one : Int := 2 ^ 80
  let a1 := expSeries (s.getN K.EST_TAU1) 40 1 one
  let a2 := expSeries (s.getN K.EST_TAU2) 40 1 one
  let soc := e.soc + quot (i * 10 * 2 ^ 32) (3600000000 * q)
  let v1 := quot (a1 * e.v1 * 655360000 + (one - a1) * r1 * i) (one * 655360000)
  let v2 := quot (a2 * e.v2 * 655360000 + (one - a2) * r2 * i) (one * 655360000)
  let sig := (s.get K.EST_I_SIGMA * i.natAbs + s.get K.EST_I_FLOOR * 1000000) * 10
  let den := 3600000000000 * q
  let sc : Int := 2 ^ 128
  let pss := e.p[0] + quot (sig * sig * sc) (den * den)
  let ps1 := quot (a1 * e.p[1]) one
  let ps2 := quot (a2 * e.p[2]) one
  let p11 := quot (a1 * a1 * e.p[3]) (one * one) + quot sc 100
  let p12 := quot (a1 * a2 * e.p[4]) (one * one)
  let p22 := quot (a2 * a2 * e.p[5]) (one * one) + quot sc 100
  let y := s.get K.PP_VBAT * 1000 - (s.ocvPack soc + quot (r0 * i) 655360000 + v1 + v2)
  let h := s.ocvSlope soc
  let ks := pss * h + ps1 + ps2
  let k1 := ps1 * h + p11 + p12
  let k2 := ps2 * h + p12 + p22
  let d := h * ks + k1 + k2 + s.get K.EST_V_SIGMA * s.get K.EST_V_SIGMA * sc
  let p := #v[pss - quot (ks * ks) d, ps1 - quot (ks * k1) d, ps2 - quot (ks * k2) d, p11 - quot (k1 * k1) d, p12 - quot (k1 * k2) d,
    p22 - quot (k2 * k2) d]
  s.modEst fun e =>
    { e with soc := clampInt 0 (2 ^ 32) (soc + quot (ks * y * 2 ^ 32) (d * 1000)), v1 := v1 + quot (k1 * y) d, v2 := v2 + quot (k2 * y) d, p := p }

/-- The OCV estimate of a tick, before its filter (R257). -/
def ocvNow (s : State) (i : Int) (v1 v2 : Int) : Int :=
  s.socOf (s.get K.PP_VBAT * 1000 - quot (s.impAt (·.r0) s.est.soc s.batTemp.1 * i) 655360000 - v1 - v2)

/-- soc_ocv follows with a time constant of 60 s (R257). -/
def ocvStep (s : State) (i : Int) : State :=
  let one : Int := 2 ^ 80
  let a := expSeries 60000 40 1 one
  let x := s.ocvNow i s.est.v1 s.est.v2
  s.modEst fun e => { e with socOcv := quot (a * e.socOcv + (one - a) * x) one }

/-! ### Learning the impedance (R255) -/

/-- A step of the current teaches the nearest cell, at most once per second (R255). -/
def learnStep (s : State) (i : Int) (temp : Int) : State :=
  match s.est.prev with
  | some (v, j) =>
    let dv := s.get K.PP_VBAT - v
    let di := i - j
    let r := nearer (bracket impRows (s.est.soc * 20) (2 ^ 32))
    let c := nearer (bracket impCols temp 1)
    let ready := match s.est.learnt.getD (8 * r + c) none with | some t => decide (t + 100000000 ≤ s.now) | none => true
    if decide (10 * (di.natAbs : Int) < s.capacity * 1000) || !ready then s
    else
      let g := clampInt 524288 2097152 (quot (dv * 655360000000 * 1048576) (di * s.impAt (·.r0) s.est.soc temp))
      let f (x : Nat) : Nat := min 65535 (quot (x * (7 * 1048576 + g)) 8388608).toNat
      let x := s.impCell r c
      let s := (s.setCell r c ⟨f x.r0, f x.r1, f x.r2⟩).modEst fun e => { e with learnt := e.learnt.setIfInBounds (8 * r + c) (some s.now) }
      s.rowWrite r
  | none => s

/-! ### Starts (R262–R264) -/

/-- Load the learned data of one kind, or its defaults with NV_DEFAULT (R263, R264). -/
def loadRow (s : State) (r : Nat) : State :=
  match s.estSlot (r + 1) with
  | some b => s.setRow r (s.readMram (estAddr (r + 1) b + 12) 48)
  | none => (s.defaultRow r).raise Ev.est 8

/-- A row that was reset is not loaded; without a record of it NV_DEFAULT is raised as for any other (R263, R264). -/
def rowMissing (s : State) (r : Nat) : State := if (s.estSlot (r + 1)).isNone then s.raise Ev.est 8 else s

/-- soc_ocv computed with v1 = v2 = 0 (R262, R263). -/
def startOcv (s : State) (i : Int) : State :=
  let s := s.modEst fun e => { e with v1 := 0, v2 := 0 }
  let x := s.ocvNow i 0 0
  s.modEst fun e => { e with socOcv := x }

/-- The start after a swap (R262). -/
def startSwap (s : State) (i : Int) : State :=
  let s := (s.startOcv i).modEst fun e => { e with start := .none, soc := e.socOcv }
  (s.put K.EST_LAST_ANCHOR 0).coreWrite

/-- The six values of the covariance at a start after BOOT, which R263 does not give. -/
def freeCovariance (s : State) : State :=
  let n := s.freeIdx
  { s with freeIdx := n + 6, est := { s.est with p := Vector.ofFn fun k : Fin 6 => Config.freeValue (n + k.val) } }

/-- The start after BOOT (R263): load, choose soc and anchor; another chemistry or cell count than the record's is a swap
(R261), and one that has been detected since BOOT decides the start (R262); of learned data that was reset only `EST_BID_REF` is loaded. -/
def startBoot (s : State) (i : Int) (swapped reset : Bool) : State :=
  let s := (List.range 12).foldl (fun (s : State) r => if reset then s.rowMissing r else s.loadRow r) s
  let s := s.freeCovariance
  let s := s.modEst fun e => { e with start := .none }
  match s.estSlot 0 with
  | none =>
    let s := s.raise Ev.est 8
    let s := (if reset then s else s.puts [(K.EST_CAPACITY, s.get K.EST_DESIGN_CAP), (K.EST_LAST_ANCHOR, 0)]).startOcv i
    if swapped then s.startSwap i else s.modEst fun e => { e with soc := e.socOcv }
  | some b =>
    let bs := s.readMram (estAddr 0 b) 64
    let f (a n : Nat) : Nat := ofLE ((bs.drop a).take n)
    let design := s.get K.EST_DESIGN_CAP
    let q : Int := f 12 4
    let q := if 2 * q < design || 11 * design < 10 * q then design else q
    let s := s.put K.EST_BID_REF (f 44 4)
    let s := if reset then s
      else (s.puts [(K.EST_CAPACITY, q), (K.EST_CYCLES, f 16 4), (K.EST_LAST_ANCHOR, f 28 8)]).modEst fun e =>
        { e with residue := f 20 4 * unitsPerMas }
    let other := decide (s.get K.PP_CHEM ≠ f 48 1) || decide (s.get K.PP_CELLS ≠ f 49 1)
    let s := (if other then s.swap else s).startOcv i
    if swapped || other then s.startSwap i
    else if !s.oasis.valid then (s.put K.EST_LAST_ANCHOR 0).modEst fun e => { e with soc := e.socOcv }
    else if f 36 8 + 1200 ≤ s.oasis.seconds then s.anchorAt
    else s.modEst fun e => { e with soc := quot (f 24 2 * 2 ^ 32) 10000 }

/-! ### Rest (R256) -/

/-- The tick counts towards rest (R256). -/
def restTick (s : State) (i : Int) : State :=
  let quiet := decide (50 * (i.natAbs : Int) < s.capacity * 1000) && !s.est.chgSeen && (!s.est.batpathSeen || !s.est.otherPath)
  s.modEst fun e => if quiet then { e with rest := e.rest + 1 } else { e with rest := 0, anchors := 0 }

/-- An anchor is due (R256): 20 min of rest, then every 10 min. The one of a tick with a swap, found or due, is discarded
(R262). -/
def restAnchor (s : State) : State :=
  let e := s.est
  if 120000 + 60000 * e.anchors ≤ e.rest && s.batPresent && e.start = .none then
    let s := s.modEst fun e => { e with anchors := e.anchors + 1 }
    if e.swapTick || 100 ≤ e.bidRun then s
    else
      let s := s.anchorAt
      if e.anchors = 0 then s.tryLearn else s
  else s

/-! ### What the objects show -/

/-- `EST_STATE` (R251). -/
def estState (s : State) : Nat :=
  let on := s.portsOpen
  match s.batState with
  | .present => if !on then 0 else if 0 < s.confidence then 1 else 2
  | .missing | .shorted => if on then 3 else 0
  | _ => 0

/-- `EST_STATUS` (R267). -/
def estStatus (s : State) : Nat :=
  let b (k : Nat) (x : Bool) := if x then 2 ^ k else 0
  let st := s.estState
  b 0 (st = 1 || st = 2) + b 1 (decide (0 < s.est.rest)) + b 2 (st = 2) + b 3 s.est.pending + b 4 (decide (s.path.st = .rest)) +
    b 5 s.batTemp.2 + b 6 (s.est.coreDue || s.est.rowsDue ≠ 0)

/-- The filter's values of the last tick (R266). -/
def showEst (s : State) : State :=
  let e := s.est
  let soc := e.soc * 10000 / 2 ^ 32
  let ocv := e.socOcv * 10000 / 2 ^ 32
  let shown := if 0 < s.confidence then soc else ocv
  let remain := quot (e.soc * s.capacity) (2 ^ 32)
  let mean := quot e.means.sum (max 1 e.means.length)
  let tte := if mean < 0 then min 0xFFFFFFFF (quot (remain * 3600 * 1000) (-mean)) else 0xFFFFFFFF
  let s := s.puts [(K.EST_SOC, shown), (K.EST_SOC_OCV, ocv), (K.EST_CONFIDENCE, s.confidence), (K.EST_REMAIN, remain), (K.EST_TTE, tte),
    (K.EST_VPOL, quot (e.v1 + e.v2) 1000)]
  let alarm := s.get K.EST_SOC_ALARM
  if e.socArmed && decide (shown < alarm) then (s.modEst fun x => { x with socArmed := false }).raise Ev.est 7
  else if !e.socArmed && decide (alarm + 200 < shown) then s.modEst fun x => { x with socArmed := true }
  else s

/-! ### The tick (R251–R261) -/

/-- BID's reading of `v` mV (R261): 0, 0xFFFF_FFFF or a resistance in Ω. -/
def readBid (s : State) (v : Int) : State :=
  let x : Int := if v < 30 then 0 else if 1750 < v then 0xFFFFFFFF else quot (10000 * v) (1800 - v)
  s.put K.EST_BID x

/-- The tick counts towards a change of the identity on BID, or restarts the count (R261). -/
def bidTick (s : State) : State :=
  let x := s.get K.EST_BID
  let r := s.get K.EST_BID_REF
  let fixed (z : Int) : Bool := decide (z = 0) || decide (z = 0xFFFFFFFF)
  let differs := if fixed x || fixed r then decide (x ≠ r) else decide (5 * r < 100 * ((x - r).natAbs : Int))
  s.modEst fun e => { e with bidRun := if differs then e.bidRun + 1 else 0 }

/-- The NTC reads a temperature after 1 s of NTC_OPEN: a swap (R261). -/
def ntcSwap (s : State) : State :=
  if s.path.ntcOpen then s.modEst fun e => { e with ntcOpenRun := e.ntcOpenRun + 1 }
  else
    let was := s.est.ntcOpenRun
    let s := s.modEst fun e => { e with ntcOpenRun := 0 }
    if 100 ≤ was && !s.path.ntcShort then s.swap else s

/-- The start on the first tick with the battery PRESENT after BOOT or a swap (R262, R263). -/
def estStart (s : State) (i : Int) : State :=
  let s := match s.est.start with
    | .boot => s.startBoot i false false
    | .bootSwap => s.startBoot i true false
    | .bootReset => s.startBoot i true true
    | .swap => s.startSwap i
    | .none => s
  s.modEst fun e => { e with ran := true }

/-- The filter's part of a tick (R251): it runs with the battery PRESENT, from the tick on which it starts (R254). -/
def estRun (s : State) (i : Int) (mixed : Bool) : State :=
  match s.batState with
  | .present =>
    let s := s.estStart i
    let s := if mixed || s.batTemp.2 then s else s.learnStep i s.batTemp.1
    ((s.filterStep i).ocvStep i).showEst
  | .missing | .shorted => s.put K.EST_SOC 0xFFFF
  | _ => s

/-- What every tick counts: the charge between anchors (R258), the discharge (R259), the mean current (R266) and the rest (R256). -/
def estCount (s : State) (i : Int) : State :=
  let s := s.modEst fun e =>
    { e with sumQ := e.sumQ + i, residue := if i < 0 then e.residue - i else e.residue, means := (i :: e.means).take 6000 }
  let full := s.capacity * 3600 * unitsPerMas
  let s := if decide (full ≤ s.est.residue) then ((s.modEst fun e => { e with residue := e.residue - full }).bump K.EST_CYCLES) else s
  (s.puts [(K.EST_I, quot i 1000), (K.EST_CYCLE_RESIDUE, s.est.residue / (unitsPerMas * 3600))]).restTick i

/-- A window whose conditions no longer hold is aborted (R260). In REST the charger's state does not change. -/
def restCheck (s : State) : State := if s.path.st = .rest && !s.restAllowed then s.abortRest else s

/-- The estimator's part of a management tick (R251). -/
def estTick (s : State) : State :=
  let s := if s.portsOpen then
      let s := ((s.modEst fun e => { e with wrote := 0 }).restCheck.ntcSwap).bidTick
      let i := s.batCurrent
      let mixed := s.mixedTick
      let s := (s.estRun i mixed).estCount i
      let v := s.get K.PP_VBAT
      (s.modEst fun e => { e with prev := if mixed then none else some (v, i) }).estFlush
    else s
  let dis := match s.path.st with | .battery => true | .qualify => true | .switchback => true | _ => false
  let chg := s.switching
  let on := s.path.batpathOn
  let bat := s.onBattery
  s.modEst fun e =>
    { e with tickAt := s.now, swapTick := e.swapNow, swapNow := false,
             batFrom := if bat then some s.now else none, batPast := [], chgSeen := chg, chgStart := chg,
             batpathSeen := on, otherPath := !dis }

/-! ### Requests (R257, R260) -/

/-- 72 h have passed since the last anchor (R257). -/
def confidenceExpired (s : State) : State :=
  if s.portsOpen && s.est.ran && s.batPresent && s.confidence = 0 && !s.est.lowShown then
    (s.modEst fun e => { e with lowShown := true }).raise Ev.est 1 else s

/-- A forced rest window is requested (R260). -/
def restRequest (s : State) : State :=
  let due := decide (s.confidence = 0) ||
    decide (s.getN K.EST_FREST_AFTER * 3600 + s.getN K.EST_LAST_ANCHOR ≤ s.oasis.seconds)
  if s.portsOpen && s.flag K.EST_FREST_EN && due && !s.est.pending && !s.est.retryWait && s.path.st ≠ .rest then
    (s.modEst fun e => { e with pending := true }).raise Ev.est 3
  else s

/-- The request is raised again 1 h after an abort without an anchor (R260). -/
def restRetry (s : State) : State :=
  if s.portsOpen && s.est.retryWait then
    let s := s.modEst fun e => { e with retryWait := false }
    if s.flag K.EST_FREST_EN then (s.modEst fun e => { e with pending := true }).raise Ev.est 3 else s
  else s

/-- BID has differed from its reference for 100 ticks (R261): the swap is one of the tick that ended them. -/
def bidChange (s : State) : State :=
  if s.portsOpen && 100 ≤ s.est.bidRun then
    let later := s.est.swapNow
    (((s.put K.EST_BID_REF (s.get K.EST_BID)).modEst fun e => { e with bidRun := 0 }).swap).modEst fun e =>
      { e with swapTick := true, swapNow := later }
  else s

/-! ### Writes (R266) -/

/-- The modes of `EST_IMP_ROW` and `EST_LEARN_RESET` (R266). -/
def learnMode (s : State) : Bool := s.idleCond || decide (s.modes.mode = .service)

/-- A write of a row of the impedance table (R255). -/
def writeImpRow (s : State) (acc : Accessor) (r : Fin 12) (data : Bytes) : Res :=
  s.writeVia acc (K.EST_IMP_ROW r) data.length fun s =>
    if !s.learnMode then .error .modeForbids else .ok ((s.setRow r data).rowWrite r, .done)

/-- A write of `EST_LEARN_RESET` (R262): a swap without its event. -/
def writeLearnReset (s : State) (acc : Accessor) (v : Nat) : Res :=
  s.writeVia acc K.EST_LEARN_RESET 1 fun s =>
    if !s.learnMode then .error .modeForbids
    else if v ≠ 0x5A then .error .outOfRange
    else .ok ((s.swapData false).coreWrite, .done)

/-- A write of `EST_FREST_ABORT` (R260). -/
def writeRestAbort (s : State) (acc : Accessor) (v : Nat) : Res :=
  s.writeVia acc K.EST_FREST_ABORT 1 fun s => if v ≠ 0x5A then .error .outOfRange else .ok (s.abortRest, .done)

end State

open State

/-- REST_ANCHOR (R256). -/
def execRestAnchor (s : State) : Out := .next (if s.portsOpen then s.restAnchor else s)

/-- CONFIDENCE_EXPIRED (R257). -/
def execConfidenceExpired (s : State) : Out := .next s.confidenceExpired

/-- FORCED_REST_REQUEST (R260). -/
def execForcedRestRequest (s : State) : Out := .next s.restRequest

/-- FORCED_REST_RETRY (R260). -/
def execForcedRestRetry (s : State) : Out := .next s.restRetry

/-- BID_CHANGE (R261). -/
def execBidChange (s : State) : Out := .next s.bidChange

/-- EST_IMP_ROW_WRITE (R255). -/
def execEstImpRowWrite (acc : Accessor) (r : Fin 12) (data : Bytes) (s : State) : Out :=
  .next (s.access acc fun s => s.writeImpRow acc r data)

/-- EST_LEARN_RESET (R262): the write of 0x5A. -/
def execEstLearnReset (acc : Accessor) (s : State) : Out := .next (s.access acc fun s => s.writeLearnReset acc 0x5A)

/-- EST_FREST_ABORT (R260): the write of 0x5A. -/
def execEstFrestAbort (acc : Accessor) (s : State) : Out := .next (s.access acc fun s => s.writeRestAbort acc 0x5A)

/-- CORE_RECORD_WRITE (R264). -/
def execCoreRecordWrite (s : State) : Out := .next (if s.portsOpen then s.coreWrite else s)

end Sys2Proof.Machine
end

