-- ==== Sys2Proof/Machine/Oasis.lean ====
section
/-! DEFINITION. Oasis and the real-time clock (R471–R488): the source of the domain, the seconds, setting and adjusting,
the calendar, the alarm, WAKE and TAMPER. -/

namespace Sys2Proof.Machine

/-! ### The calendar (R482) -/

/-- Days from 2000-01-01 to the first day of year 2000 + `y`. -/
def daysBefore (y : Nat) : Nat := 365 * y + (y + 3) / 4 - (y + 99) / 100 + (y + 399) / 400

/-- The year after 2000 in which day `d` falls. -/
def yearOf (d : Nat) : Nat :=
  let g := d * 400 / 146097
  if daysBefore (g + 1) ≤ d then g + 1 else if daysBefore g ≤ d then g else g - 1

/-- Leap years (R482). -/
def leapYear (y : Nat) : Bool := decide (y % 4 = 0) && (decide (y % 100 ≠ 0) || decide (y % 400 = 0))

/-- The lengths of the months of a year. -/
def monthLengths (y : Nat) : List Nat := [31, if leapYear y then 29 else 28, 31, 30, 31, 30, 31, 31, 30, 31, 30, 31]

/-- The month, from 1, and the day of the month that lie `d` days into the months listed. -/
def monthDay (m : Nat) : List Nat → Nat → Nat × Nat
  | [], d => (m, d + 1)
  | l :: ls, d => if d < l then (m, d + 1) else monthDay (m + 1) ls (d - l)

/-- The calendar ends here: 10000-01-01 (R482). -/
def calendarEnd : Nat := 252455616000

/-- `CAL_NOW` for a count of seconds: 0 at or beyond the calendar's end (R482). -/
def calendarOf (sec : Nat) : Nat :=
  if calendarEnd ≤ sec then 0
  else
    let d := sec / 86400
    let t := sec % 86400
    let y := yearOf d
    let md := monthDay 1 (monthLengths (2000 + y)) (d - daysBefore y)
    2000 + y + md.1 * 2 ^ 16 + md.2 * 2 ^ 24 + t / 3600 * 2 ^ 32 + t / 60 % 60 * 2 ^ 40 + t % 60 * 2 ^ 48 + ((d + 5) % 7 + 1) * 2 ^ 56

/-- A calendar value checked field by field: the seconds, or the result code of the first failure (R482). -/
def calendarSeconds (v : Nat) : Except Nat Nat :=
  let f (lo w : Nat) := v / 2 ^ lo % 2 ^ w
  let (y, mo, d, h, mi, se) := (f 0 16, f 16 8, f 24 8, f 32 8, f 40 8, f 48 8)
  if y < 2000 || 9999 < y then .error 1
  else if mo = 0 || 12 < mo then .error 2
  else if d = 0 || (monthLengths y).getD (mo - 1) 0 < d then .error 3
  else if 23 < h then .error 4
  else if 59 < mi then .error 5
  else if 59 < se then .error 6
  else .ok ((daysBefore (y - 2000) + ((monthLengths y).take (mo - 1)).sum + d - 1) * 86400 + h * 3600 + mi * 60 + se)

/-- The largest count of seconds (R476). -/
def maxSeconds : Nat := 0xFFFFFFFFFF

namespace State

/-- `RTC_NOW`: seconds and fraction (R474). -/
def rtcNow (s : State) : Nat := s.oasis.seconds * 32768 + s.rtcFrac

/-! ### Alarm (R483) -/

/-- The alarm fires when the seconds have reached it; a period moves it above the present seconds (R483). -/
def alarmCheck (s : State) : State :=
  let a := s.getN K.RTC_ALARM
  let p := s.getN K.RTC_ALARM_PERIOD
  if a = 0 || s.oasis.seconds < a then s
  else
    let next := if p = 0 then 0 else a + ((s.oasis.seconds - a) / p + 1) * p
    ((s.put K.RTC_ALARM next).raiseLater Ev.rtc 0).wake 4

/-- The prescaler wraps (R475, R476): the seconds increase by 1, and stop at their maximum. -/
def rtcSecond (s : State) : State :=
  if s.oasis.supply = .lost || s.oasis.saturated then s
  else if maxSeconds ≤ s.oasis.seconds then
    (s.modOasis fun o => { o with seconds := maxSeconds, frac := 0x7FFF, fracAt := s.now, saturated := true }).raiseLater Ev.rtc 9
  else ((s.modOasis fun o => { o with seconds := o.seconds + 1, frac := 0, fracAt := s.now }).raiseLater Ev.rtc 1).alarmCheck

/-! ### Setting and adjusting (R478–R481) -/

/-- The journal event data of R481. -/
def timeData (s : State) (acc : Accessor) (sec frac source : Nat) (adj : Int) : Bytes :=
  toLE 8 s.oasis.seconds ++ toLE 2 s.rtcFrac ++ toLE 8 sec ++ toLE 2 frac ++ toLE 1 (s.roleOf acc).code ++
    toLE 1 source ++ toLE 1 (if s.oasis.valid then 1 else 0) ++ [0#8] ++ toLE 4 (unsigned 32 adj)

/-- An accepted time write (R478): the journal record, with the time after the change, then the change; refused with BUSY
where the record does not fit. A set makes the time valid (R479). -/
def changeTime (s : State) (acc : Accessor) (sec frac source : Nat) (adj : Int) : Res :=
  let isSet := decide (source ≠ 2)
  if s.hasMetering && !s.promiseRoom then .error .busy
  else
    let data := s.timeData acc sec frac source adj
    let t := s.modOasis fun o =>
      { o with seconds := sec, frac := frac, fracAt := s.now, valid := o.valid || isSet, saturated := o.saturated && !isSet }
    let t := t.journalEvent (if isSet then .timeSet else .timeAdjust) 0xFF data
    let t := if isSet then t.modJnl fun j => { j with timeInvalid := false } else t
    .ok (((t.put K.RTC_SET_RESULT 0).raise Ev.rtc (if isSet then 2 else 3)).alarmCheck, .done)

/-- A refused time write: `RTC_SET_RESULT` gives the reason (R478). -/
def refuseTime (s : State) (result : Int) (a : Abort) : Res := .ok (s.put K.RTC_SET_RESULT result, .abort a)

/-- A write of `RTC_SET_SECONDS` (R479). -/
def writeRtcSet (s : State) (acc : Accessor) (v : Nat) : Res :=
  s.writeVia acc K.RTC_SET_SECONDS 8 fun s =>
    if maxSeconds < v then s.refuseTime 7 .outOfRange else s.changeTime acc v 0 0 0

/-- A write of `CAL_SET` (R482). -/
def writeCalSet (s : State) (acc : Accessor) (v : Nat) : Res :=
  s.writeVia acc K.CAL_SET 8 fun s =>
    match calendarSeconds v with
    | .error r => s.refuseTime r .outOfRange
    | .ok sec => s.changeTime acc sec 0 1 0

/-- A write of `RTC_ADJUST` (R480): the checks in the order of R478. -/
def writeRtcAdjust (s : State) (acc : Accessor) (v : Int) : Res :=
  s.writeVia acc K.RTC_ADJUST 4 fun s =>
    let t : Int := s.rtcNow + v
    if v < -117964800 || 117964800 < v then s.refuseTime 7 .outOfRange
    else if !s.oasis.valid then s.refuseTime 8 .modeForbids
    else if t < 0 || (maxSeconds * 32768 + 0x7FFF : Nat) < t then s.refuseTime 7 .outOfRange
    else s.changeTime acc (t.toNat / 32768) (t.toNat % 32768) 2 v

/-- A write of `RTC_ALARM` (R483): at or below the present seconds it fires at once. -/
def writeRtcAlarm (s : State) (acc : Accessor) (v : Nat) : Res :=
  s.writeVia acc K.RTC_ALARM 8 fun s => .ok ((s.put K.RTC_ALARM v).alarmCheck, .done)

/-! ### The oscillator (R477) -/

/-- The crystal fails while the Keeper runs (R477): the RC counts on, and the time is invalid. -/
def oscFault (s : State) : State :=
  if !s.keeperRuns || s.oasis.oscRc then s
  else
    let was := s.oasis.valid
    let s := (s.modOasis fun o => { o with oscRc := true, valid := false }).raiseLater Ev.rtc 10
    if was && s.portsOpen then s.journalTimeInvalid 2 else s

/-! ### The supply (R472) -/

/-- VBK is eligible from 2.20 V and remains so down to 2.15 V (R472). -/
def noteVbk (s : State) (vbk : Nat) : State :=
  s.modOasis fun o => { o with vbkEligible := decide (2200 ≤ vbk) || (o.vbkEligible && decide (2150 ≤ vbk)) }

/-- The first row of R472: VBK is eligible and at least 50 mV above VCELL. -/
def vbkWins (s : State) (vbk vcell : Nat) : Bool := s.oasis.vbkEligible && decide (vcell + 50 ≤ vbk)

/-- Oasis changes to a source, counted and reported (R472). -/
def switchSupply (s : State) (src : OasisSupply) : State :=
  let (s, sat) := (s.modOasis fun o => { o with supply := src }).addSat K.OASIS_SWITCHES 1
  let s := s.raiseLater Ev.rtc 8
  if sat then s.raiseLater Ev.rtc 11 else s

/-- The rows of R472 that lead to CELL or VBK, with VBK, VCELL and VOAS in mV. -/
def oasisSwitch (s : State) (vbk vcell voas : Nat) : State :=
  let s := s.noteVbk vbk
  match s.oasis.supply with
  | .cell => if s.vbkWins vbk vcell then s.switchSupply .vbk else s
  | .vbk => if vbk + 50 ≤ vcell || vbk < 2150 then s.switchSupply .cell else s
  | .reservoir =>
    if s.oasis.vbkEligible && voas ≤ vbk then s.modOasis fun o => { o with supply := .vbk }
    else if voas ≤ vcell then s.modOasis fun o => { o with supply := .cell }
    else s
  | .lost => s

/-- The selected source falls more than 100 mV below VOAS with no other source eligible and higher (R472). -/
def oasisGap (s : State) (vbk vcell voas : Nat) : State :=
  let s := s.noteVbk vbk
  match s.oasis.supply with
  | .cell =>
    if vcell + 100 < voas && !(s.oasis.vbkEligible && decide (vcell < vbk)) then s.modOasis fun o => { o with supply := .reservoir } else s
  | .vbk => if vbk + 100 < voas && !decide (vbk < vcell) then s.modOasis fun o => { o with supply := .reservoir } else s
  | _ => s

/-- Every item of R471 takes its loss value (R472). -/
def oasisLost (s : State) : State :=
  let s := s.puts [(K.RTC_CAL, 0), (K.RTC_ALARM, 0), (K.RTC_ALARM_PERIOD, 0), (K.OASIS_RETAIN, 0),
    (K.TAMPER_CFG, Dict.default K.TAMPER_CFG), (K.TAMPER_AT, 0), (K.TAMPER_COUNT, 0)]
  let s := s.modOasis fun o => { ({} : OasisSt) with supply := .lost, oscRc := o.oscRc, backupLost := o.backupLost, cellLow := o.cellLow }
  (s.modModes fun x => { x with vaultLatch := false, shipLatch := false }).modPath fun x =>
    { x with cutoff := false, holdOpen := false, pbPressed := false }

/-- VOAS rises above 1.75 V from either source: counting restarts from 0 (R472). -/
def oasisReturn (s : State) (vbk vcell voas : Nat) : State :=
  if s.oasis.supply = .lost && 1750 < voas then
    let s := s.noteVbk vbk
    s.modOasis fun o => { o with supply := if s.vbkWins vbk vcell then .vbk else .cell, seconds := 0, frac := 0, fracAt := s.now, alive := false }
  else s

/-! ### TAMPER and WAKE (R484, R485) -/

/-- A tamper event (R485). -/
def tamper (s : State) : State :=
  if s.oasis.supply = .lost then s
  else
    let s := if s.oasis.tamperLatched then s else s.put K.TAMPER_AT s.rtcNow
    let (s, sat) := (s.modOasis fun o => { o with tamperLatched := true }).addSat K.TAMPER_COUNT 1
    let s := if bitOf (s.get K.TAMPER_CFG) 4 then s.put K.OASIS_RETAIN 0 else s
    let s := s.raiseLater Ev.rtc 4
    (if sat then s.raiseLater Ev.rtc 11 else s).wake 8

/-- A write of `TAMPER_CLEAR` (R485). -/
def writeTamperClear (s : State) (acc : Accessor) (v : Nat) : Res :=
  s.writeVia acc K.TAMPER_CLEAR 1 fun s =>
    if v ≠ 0x5A then .error .outOfRange
    else .ok ((s.put K.TAMPER_AT 0).modOasis fun o => { o with tamperLatched := false }, .done)

/-- VCELL has been below `OASIS_CELL_LOW` for 1 s (R486). -/
def cellLow (s : State) : State :=
  if s.keeperRuns && !s.oasis.cellLow && decide (s.get K.OASIS_VCELL < s.get K.OASIS_CELL_LOW) then
    (s.modOasis fun o => { o with cellLow := true }).raiseLater Ev.rtc 7
  else s

/-- CELL_LOW is armed again 100 mV above the threshold (R486). -/
def cellRearm (s : State) : State :=
  if s.get K.OASIS_CELL_LOW + 100 ≤ s.get K.OASIS_VCELL then s.modOasis fun o => { o with cellLow := false } else s

/-- `RTC_STATUS` (R487). -/
def rtcStatus (s : State) : Nat :=
  let b (k : Nat) (x : Bool) := if x then 2 ^ k else 0
  let o := s.oasis
  b 0 o.valid + b 1 o.backupLost + b 2 o.oscRc + b 3 o.saturated + b 4 (decide (calendarEnd ≤ o.seconds)) + b 5 o.tamperLatched +
    b 6 (decide (s.get K.OASIS_VCELL < s.get K.OASIS_CELL_LOW)) + b 7 (decide (o.supply = .vbk)) + b 8 (decide (s.get K.RTC_ALARM ≠ 0))

/-- `OASIS_SUPPLY` (R486). -/
def oasisSupplyCode (s : State) : Nat := match s.oasis.supply with | .cell => 0 | .vbk => 1 | .reservoir => 2 | .lost => 0

end State

/-- RTC_SECOND (R475, R476): the prescaler wraps. -/
def execRtcSecond (s : State) : Out := .next s.rtcSecond

/-- RTC_SET_SECONDS (R479). -/
def execRtcSetSeconds (acc : Accessor) (v : Nat) (s : State) : Out := .next (s.access acc fun s => s.writeRtcSet acc v)

/-- CAL_SET (R482). -/
def execCalSet (acc : Accessor) (v : Nat) (s : State) : Out := .next (s.access acc fun s => s.writeCalSet acc v)

/-- RTC_ADJUST (R480). -/
def execRtcAdjust (acc : Accessor) (v : Int) (s : State) : Out := .next (s.access acc fun s => s.writeRtcAdjust acc v)

/-- RTC_ALARM_WRITE (R483). -/
def execRtcAlarmWrite (acc : Accessor) (v : Nat) (s : State) : Out := .next (s.access acc fun s => s.writeRtcAlarm acc v)

/-- RTC_OSC_FAULT (R477): 1 ms without crystal edges. -/
def execRtcOscFault (s : State) : Out := .next s.oscFault

/-- RTC_CRYSTAL_RETURN (R477): 64 consecutive crystal edges; `RTC_VALID` stays as it is. -/
def execRtcCrystalReturn (s : State) : Out := .next (s.modOasis fun o => { o with oscRc := false })

/-- OASIS_SUPPLY_SWITCH (R472). -/
def execOasisSupplySwitch (vbk vcell voas : Nat) (s : State) : Out := .next (s.oasisSwitch vbk vcell voas)

/-- OASIS_RESERVOIR (R472). -/
def execOasisReservoir (vbk vcell voas : Nat) (s : State) : Out := .next (s.oasisGap vbk vcell voas)

/-- OASIS_DOMAIN_LOST (R472): VOAS below 1.60 V. -/
def execOasisDomainLost (s : State) : Out := .next s.oasisLost

/-- OASIS_DOMAIN_RETURN (R472). -/
def execOasisDomainReturn (vbk vcell voas : Nat) (s : State) : Out := .next (s.oasisReturn vbk vcell voas)

/-- TAMPER (R485): TAMPER held active for the filter time. -/
def execTamper (s : State) : Out := .next s.tamper

/-- TAMPER_CLEAR (R485). -/
def execTamperClear (acc : Accessor) (s : State) : Out := .next (s.access acc fun s => s.writeTamperClear acc 0x5A)

/-- WAKE_INPUT (R484): a recognised WAKE low while the Keeper runs. -/
def execWakeInput (s : State) : Out := .next (if s.keeperRuns then s.raiseLater Ev.rtc 5 else s)

/-- CELL_LOW (R486). -/
def execCellLow (s : State) : Out := .next s.cellLow

end Sys2Proof.Machine
end

