-- ==== Sys2Proof/Machine/Checks.lean ====
section
/-! DEFINITION. The cross-object rules: a rail's configuration (R93–R96, R112), the sequencer's (R148, R150), and the ranges
that name another object (R223); how they are tested at a commit (R359) and how a rail is built at BOOT (R94, R95). -/

namespace Sys2Proof.Machine

/-- A failed rule: the abort code, the staged objects that it relates, and for a rail the build result of R94. -/
structure RuleFault where
  code : Abort
  relates : Nat → Bool
  build : Option (Fin 32 × Nat)

/-- The phases up to and with `p` in a list lie on more than four tiles (R93). -/
def pastFourTiles (ps : List (Fin 56)) (p : Fin 56) : Bool :=
  let upTo := ps.takeWhile (· ≠ p) ++ [p]
  decide (4 < ((List.finRange 8).filter fun t => upTo.any fun q => decide (tileOf q = t)).length)

/-- A used entry follows an unused one (R94 LIST_GAP). -/
def hasGap (vs : List Int) : Bool := (vs.dropWhile (· ≠ 0xFF)).any (· ≠ 0xFF)

/-- The settings that are identical across the listed phases of a rail (R67, R93). -/
def sharedSettings (p : Nat) : List Nat :=
  [K.PH_FSW p, K.PH_COMP_KP p, K.PH_COMP_KI p, K.PH_COMP_KD p, K.PH_COMP_DFILT p, K.PH_COMP_IMAX p, K.PH_TRIM_GAIN p,
   K.PH_TRIM_LIMIT p, K.PH_ILIM_PEAK p, K.PH_ILIM_AVG p, K.PH_OPEN_MIN p]

namespace State

/-! ### A rail's configuration (R93, R94) -/

/-- A phase can be built into a rail: present, on a tile that is not fenced, and not ISOLATED (R94, R95). -/
def buildable (s : State) (p : Fin 56) : Bool :=
  s.phasePresent p && !(s.tile (tileOf p)).fenced && decide ((s.phase p).st ≠ .isolated)

/-- Members and spares in use after the replacement of R95, and the first member that found none. -/
def resolveLists (s : State) (ms ss : List (Fin 56)) : List (Fin 56) × List (Fin 56) × Option (Fin 56) :=
  ms.foldl (fun (acc : List (Fin 56) × List (Fin 56) × Option (Fin 56)) m =>
    if s.buildable m then (acc.1 ++ [m], acc.2.1, acc.2.2)
    else match acc.2.1 with
      | q :: qs => (acc.1 ++ [q], qs, acc.2.2)
      | [] => (acc.1, [], some (acc.2.2.getD m))) ([], ss.filter s.buildable, none)

/-- The configured members after which a rail is built (R95). -/
def minBuild (s : State) (r : Fin 32) : Nat :=
  let n := s.getN (K.RAIL_MIN_BUILD r)
  if n = 0 then s.configuredCount r else n

/-- The listed phases of a rail's configuration (R93). -/
def listed (s : State) (r : Fin 32) : List (Fin 56) := s.memberList r ++ s.spareList r

/-- The load-line rule of R93 in 10⁻⁶ mV. -/
def loadlineOk (v : State) (r : Fin 32) (p : Fin 56) : Bool :=
  decide (v.get (K.RAIL_LOADLINE r) * v.get (K.PH_ILIM_AVG p) * (v.configuredCount r : Int) ≤ v.get (K.SUP_UV_MARGIN r) * 1000000)

/-- The coil-mode rules (R112). -/
def coilOk (v : State) (r : Fin 32) : Bool :=
  let ms := v.memberList r
  let n : Int := v.configuredCount r
  let lim := match ms with | p :: _ => v.get (K.PH_ILIM_AVG p) | [] => 0
  decide (n ≤ 4) && ms.all (fun p => isBus p && decide (v.get (K.PH_SHED_EN p) = 0)) && decide (v.get (K.RAIL_LOADLINE r) = 0) &&
    decide (100 ≤ v.get (K.RAIL_COIL_IHOLD r)) && decide (v.get (K.RAIL_COIL_IHOLD r) ≤ v.get (K.RAIL_COIL_IPULL r)) &&
    decide (v.get (K.RAIL_COIL_IPULL r) ≤ lim * n)

/-- The build result of a rail with the configuration of `v` (R94): the code, and the offending phase or 0xFF. A commit
tests the phases that it adds against those in force in `s`; BOOT applies the replacement of R95. -/
def railCheck (s v : State) (r : Fin 32) (boot : Bool) : Nat × Nat :=
  let ms := v.memberList r
  let all := v.listed r
  let entries := (List.range 16).map fun j => v.get (K.RAIL_MEMBERS r j)
  let spareEntries := (List.range 4).map fun j => v.get (K.RAIL_SPARES r j)
  match all, ms with
  | _, [] => (0x01, 0xFF)
  | [], _ => (0x01, 0xFF)
  | p0 :: _, _ :: _ =>
    let bus := isBus p0
    let everywhere := (List.finRange 32).flatMap v.listed
    let added := all.find? fun p => !(s.listed r).contains p && !s.buildable p
    let res := s.resolveLists ms (v.spareList r)
    let here : List (Fin 56) := all.filter fun (p : Fin 56) => s.phasePresent p
    let vmin := v.get (K.RAIL_VMIN r)
    let vset := v.get (K.RAIL_VSET r)
    let vmax := v.get (K.RAIL_VMAX r)
    if hasGap entries || hasGap spareEntries then (0x0B, 0xFF)
    else match all.find? fun p => isBus p != bus with
    | some p => (0x02, p.val)
    | none => match all.find? fun p => pastFourTiles all p with
    | some p => (0x03, p.val)
    | none => match all.find? fun p => decide (1 < everywhere.count p) with
    | some p => (0x04, p.val)
    | none =>
      if boot && res.1.length < v.minBuild r then (0x05, (res.2.2.getD p0).val)
      else match (if boot then none else added) with
      | some p => (0x05, p.val)
      | none => match here with
      | [] => (0x05, p0.val)
      | q :: _ =>
        if vmin < (if bus then 3300 else 450) || vset < vmin || vmax < vset || (if bus then 28000 else 5500) < vmax then (0x06, 0xFF)
        else match here.find? fun (p : Fin 56) => ((sharedSettings p).zip (sharedSettings q)).any fun k => decide (v.get k.1 ≠ v.get k.2) with
        | some p => (0x07, p.val)
        | none =>
          let f := v.get (K.PH_FSW q)
          if (if bus then 5 * vmin < 12 * f else 5 * vmin < 3 * f) then (0x08, q.val)
          else if !v.loadlineOk r q then (0x09, 0xFF)
          else if v.get (K.RAIL_MODE r) = 1 && !v.coilOk r then (0x0A, 0xFF)
          else (0x00, 0xFF)

/-- `RAIL_BUILD_RESULT` of a check (R94). -/
def buildWord (c : Nat × Nat) : Nat := c.1 + 256 * c.2

/-- The abort code of a build result at a commit (R94). -/
def buildAbort (s : State) (c : Nat × Nat) : Abort :=
  if c.1 = 0x06 || c.1 = 0x08 then .outOfRange
  else if c.1 = 0x05 && !s.phasePresent c.2 then .unitAbsent
  else .stagedConflict

/-- An object of the member or spare list of a rail. -/
def listKey (r : Fin 32) (k : Nat) : Bool := !(listRails [(k, 0)]).isEmpty && (listRails [(k, 0)]).contains r

/-- An object of the kind `f` of a listed phase. -/
def phaseKey (v : State) (r : Fin 32) (f : Nat → Nat) (k : Nat) : Bool := (v.listed r).any fun p => decide (f p = k)

/-- The objects that a check of R94 relates (R359). -/
def checkRelates (v : State) (r : Fin 32) (code k : Nat) : Bool :=
  match code with
  | 0x04 => !(listRails [(k, 0)]).isEmpty
  | 0x06 => k = K.RAIL_VMIN r || k = K.RAIL_VMAX r
  | 0x07 => (v.listed r).any fun p => (sharedSettings p).contains k
  | 0x08 => v.phaseKey r K.PH_FSW k || k = K.RAIL_VMIN r
  | 0x09 => k = K.RAIL_LOADLINE r || k = K.SUP_UV_MARGIN r || v.phaseKey r K.PH_ILIM_AVG k
  | 0x0A => k = K.RAIL_MODE r || k = K.RAIL_LOADLINE r || k = K.RAIL_COIL_IHOLD r || k = K.RAIL_COIL_IPULL r ||
      v.phaseKey r K.PH_ILIM_AVG k
  | _ => listKey r k

/-- Some rule of a rail relates the object. -/
def railRelates (v : State) (r : Fin 32) (k : Nat) : Bool :=
  listKey r k || [0x06, 0x07, 0x08, 0x09, 0x0A].any fun c => v.checkRelates r c k

/-- The rules of a rail at a commit (R94, R96). -/
def railRule (s v : State) (r : Fin 32) : Option RuleFault :=
  let st := (s.rail r).st
  let moved := decide (v.get (K.RAIL_MODE r) ≠ s.get (K.RAIL_MODE r))
  let gone := (v.memberList r).isEmpty && !(s.memberList r).isEmpty
  let retyped := match v.memberList r with | p :: _ => isBus p != (s.rail r).bus | [] => false
  if st ≠ .off && st ≠ .unbuilt && (moved || gone || retyped) then
    some { code := .modeForbids, relates := fun k => k = K.RAIL_MODE r || listKey r k, build := none }
  else
    let c := s.railCheck v r false
    if c.1 ≤ 1 then none
    else some { code := s.buildAbort c, relates := v.checkRelates r c.1, build := some (r, buildWord c) }

/-! ### The sequencer's rules (R148, R150) -/

/-- Following `GRP_AFTER` from group `g` for `n` steps does not end: a cycle (R148). -/
def afterLoops (v : State) : Nat → Nat → Bool
  | 0, _ => true
  | n + 1, g => if 15 < g then false else afterLoops v n (v.getN (K.GRP_AFTER g))

/-- An object that is some group's `GRP_AFTER`. -/
def afterKey (k : Nat) : Bool := (List.range 16).any fun g => decide (K.GRP_AFTER g = k)

/-- The rule of R148: no `GRP_AFTER` leads into a cycle. -/
def afterRule (v : State) : Option RuleFault :=
  let bad := (List.range 16).filter fun g => v.afterLoops 17 g
  if bad.isEmpty then none
  else some { code := .stagedConflict, relates := fun k => bad.any fun g => decide (K.GRP_AFTER g = k), build := none }

/-- An object of the step table. -/
def stepKey (k : Nat) : Bool := 0x220000 ≤ k && k ≤ 0x22FF00 && k % 256 = 0

/-- A fault of the steps listed, which relates `also` too; none where the list is empty. -/
def stepsFault (code : Abort) (bad : List Nat) (also : Nat → Bool) : Option RuleFault :=
  if bad.isEmpty then none
  else some { code := code, relates := fun k => also k || bad.any fun n => decide (K.SEQ_STEP n = k), build := none }

/-- The rule of R150, its codes in the order of R354. -/
def stepRule (s v : State) : Option RuleFault :=
  let all := List.range 256
  let busy (g : Nat) : Bool := (List.finRange 16).any fun x => decide (x.val = g) && decide ((s.group x).st ≠ .down)
  let held (x : Step) : Bool := x.valid && busy x.group
  let moved := all.filter fun k => decide (v.get (K.SEQ_STEP k) ≠ s.get (K.SEQ_STEP k)) && (held (s.step k) || held (v.step k))
  let outside := all.filter fun k =>
    let x := v.step k
    x.reserved || decide (x.wait = 3) || decide (x.tpgq < 10) || decide (10000 < x.tpgq) || decide (x.timeout = 0) ||
      decide (10000 < x.timeout)
  let valid := all.filter fun k => (v.step k).valid
  let named := valid.flatMap fun k => (v.step k).railList
  let twice := valid.filter fun k => (v.step k).railList.any fun r => decide (1 < named.count r)
  let bell := valid.filter fun k => ((v.step k).bellUp || (v.step k).bellDown) &&
    (!v.flag (K.GRP_COOP (v.step k).group) || !(v.getN K.SEQ_COOP).testBit 2)
  let legacy := valid.filter fun k =>
    decide ((v.step k).slaves ≠ 0) && (decide (v.get K.SEQ_LEGACY_MODE ≠ 1) ||
      (v.step k).slaveList.any fun j => !(v.getN K.SEQ_LEGACY_SLAVES).testBit j)
  (stepsFault .modeForbids moved fun _ => false).or <|
  (stepsFault .outOfRange outside fun _ => false).or <|
  (stepsFault .stagedConflict twice fun _ => false).or <|
  (stepsFault .stagedConflict bell fun k => k = K.SEQ_COOP || bell.any fun n => decide (K.GRP_COOP (v.step n).group = k)).or <|
  stepsFault .stagedConflict legacy fun k => k = K.SEQ_LEGACY_SLAVES

/-! ### Ranges that name another object -/

/-- A rule that relates the objects `ks` and asks `ok`. -/
def pairRule (ks : List Nat) (ok : Bool) (code : Abort) (k : Nat) : Option RuleFault :=
  if ks.contains k && !ok then some { code := code, relates := ks.contains, build := none } else none

/-- V_max of R223 in mV. -/
def packVmax (v : State) : Int := (if v.get K.PP_CHEM = 1 then 3650 else 4200) * v.get K.PP_CELLS

/-- The zone temperatures ascend (R237). -/
def zonesAscend (v : State) : Bool := (List.range 3).all fun j => decide (v.get (K.CHG_ZONE_T j) < v.get (K.CHG_ZONE_T (j + 1)))

/-- The ranges that name another staged object, and R223, where object `k` is among those related. -/
def rangeRules (v : State) (k : Nat) : Option RuleFault :=
  let ge (a b : Nat) (d : Int) : Bool := decide (v.get b + d ≤ v.get a)
  (pairRule [K.PP_VIN_LOSS] (decide (v.packVmax + 2000 ≤ v.get K.PP_VIN_LOSS)) .stagedConflict k).or <|
  (pairRule [K.PP_VIN_MIN, K.PP_VIN_MAX] (ge K.PP_VIN_MAX K.PP_VIN_MIN 2000) .outOfRange k).or <|
  (pairRule [K.PP_VIN_MIN, K.PP_VIN_LOSS] (ge K.PP_VIN_MIN K.PP_VIN_LOSS 1000) .outOfRange k).or <|
  (pairRule [K.PP_VIN_MAX, K.PP_VIN_OV] (ge K.PP_VIN_OV K.PP_VIN_MAX 1000) .outOfRange k).or <|
  (pairRule [K.SIR_T_WARN, K.SIR_T_SHUT] (ge K.SIR_T_SHUT K.SIR_T_WARN 200) .outOfRange k).or <|
  (pairRule [K.LEDGER_TDERATE_START, K.LEDGER_TDERATE_END] (ge K.LEDGER_TDERATE_END K.LEDGER_TDERATE_START 500) .outOfRange k).or <|
  (pairRule [K.EST_TAU1, K.EST_TAU2] (ge K.EST_TAU2 K.EST_TAU1 1) .outOfRange k).or <|
  pairRule ((List.range 4).map fun j => K.CHG_ZONE_T j) v.zonesAscend .outOfRange k

/-- The first rule that relates object `k` and fails. -/
def ruleAt (s v : State) (k : Nat) : Option RuleFault :=
  let rails := (List.finRange 32).filter fun r => v.railRelates r k || k = K.RAIL_MODE r
  (rails.findSome? fun r => s.railRule v r).or <|
  (if afterKey k then v.afterRule else none).or <|
  (if stepKey k then s.stepRule v else none).or <|
  v.rangeRules k

/-- The rules on one configuration, in ascending staged object: the fault, and the staged object that it names: of those
that the rule relates the lowest (R359). -/
def checkView (s v : State) (kvs : List (Nat × Int)) : Option (RuleFault × Nat) :=
  kvs.findSome? fun kv => (s.ruleAt v kv.1).map fun f => (f, ((kvs.find? fun x => f.relates x.1).getD kv).1)

/-- The staged objects of stages 1 to `n` of R361. -/
def stagedUpTo (s : State) (n : Nat) : List (Nat × Int) := s.cfg.staged.filter fun kv => s.stageOf kv.1 kv.2 ≤ n

/-- The three configurations of R359. -/
def checkCommit (s : State) : Option (RuleFault × Nat) :=
  let kvs := s.cfg.staged
  (s.checkView (s.puts (s.stagedUpTo 1)) kvs).or <|
  (s.checkView (s.puts (s.stagedUpTo 2)) kvs).or <|
  s.checkView (s.puts kvs) kvs

/-! ### Building at BOOT (R94, R95) -/

/-- Build one rail from its configuration; one that fails is left UNBUILT and raises BUILD_FAILED. -/
def buildRail (s : State) (r : Fin 32) : State :=
  let c := s.railCheck s r true
  let s := s.put (K.RAIL_BUILD_RESULT r) (buildWord c)
  if c.1 = 0 then
    let res := s.resolveLists (s.memberList r) (s.spareList r)
    let set (role : PhRole) (s : State) (p : Fin 56) : State := s.modPhase p fun x => { x with rail := some r, role := role }
    let s := (s.forPhases res.1 (set .member)).forPhases res.2.1 (set .spare)
    (s.modRail r fun x => { x with members := res.1, spares := res.2.1, bus := res.1.any isBus, st := .off }).refreshDegraded r
  else if c.1 = 1 then s
  else s.raise (Ev.rail r) 0

end State
end Sys2Proof.Machine
end

