-- ==== Sys2Proof/Machine/Commit.lean ====
section
/-! DEFINITION. STAGED and BOOT-class writes, and the commit (R357–R365). -/

namespace Sys2Proof.Machine
namespace State

/-! ### Writes of a class (R351, R357, R358) -/

/-- The value lies in the object's range, under the chemistry in force (R348). -/
def valueOk (s : State) (d : ObjDef) (key : Nat) (v : Int) : Bool :=
  (d.type ≠ .bool || decide (v = 0) || decide (v = 1)) && Dict.inRange (Dict.rangeOf d (s.getN K.PP_CHEM) key) v

/-- The highest limit of a rail: `PH_ILIM_AVG` times its member count (R118, R141). -/
def limitMax (s : State) (r : Fin 32) : Int :=
  match (s.memberList r).head? with
  | some p => s.get (K.PH_ILIM_AVG p) * (s.memberList r).length
  | none => 0

/-- The STAGED objects that a rail's current limits are checked against (R364). -/
def limitKeys (s : State) (r : Fin 32) : List Nat :=
  ((List.range 16).map fun j => K.RAIL_MEMBERS r j) ++ ((s.memberList r).map fun p => K.PH_ILIM_AVG p)

/-- Why an object cannot be mapped into the window (R381); 0 maps none. -/
def winFault (s : State) (v : Nat) : Option Abort :=
  if v = 0 then none
  else match Dict.find v with
    | none => some .noSuchObject
    | some d =>
      if d.type = .domain || d.type = .vis || d.access = .wo then some .typeMismatch
      else if 4 < d.size then some .outOfRange
      else if s.absent v then some .unitAbsent else none

/-- Permitted values that are no interval of their own row: the rates of R323, the cell counts of R228, `CHG_IPRE` (R248), the priorities of
groups 28–31 (R413), the objects that the window may map (R381), and limits that are unsigned in effect (R118, R141). -/
def setOk (s : State) (key : Nat) (v : Int) : Bool :=
  if key = K.NET_A_NOM_RATE || key = K.NET_B_NOM_RATE then [125, 250, 500, 1000].contains v
  else if key = K.NET_A_DATA_RATE || key = K.NET_B_DATA_RATE then [1000, 2000, 4000, 5000, 8000].contains v
  else if key = K.PP_CELLS then
    if (Store.lookup K.PP_CHEM s.cfg.bootPending).getD (s.get K.PP_CHEM) = 1 then 4 ≤ v && v ≤ 8 else 2 ≤ v && v ≤ 7
  else if key = K.CHG_IPRE then 50 ≤ v && v ≤ 2000
  else if key / 256 = K.INT_PRIO 0 / 256 then 0 ≤ v && v ≤ (if K.INT_PRIO 28 ≤ key then 0 else 7)
  else if key = K.INT_THRESHOLD then 0 ≤ v && v ≤ 7
  else if key / 256 = K.LP_WIN_MAP 0 / 256 then (s.winFault v.toNat).isNone
  else if (List.range 32).any fun r => key = K.LEDGER_CAP_FLOOR r then 0 ≤ v
  else if (List.range 32).any fun r => key = K.RAIL_ILIM_SET r then v = 0 || 100 ≤ v
  else true

/-- A STAGED write enters the staging set (R358). -/
def stageValue (s : State) (acc : Accessor) (d : ObjDef) (key : Nat) (v : Int) : Res :=
  let who := s.issuerOf acc
  if !s.valueOk d key v then .error .outOfRange
  else if s.commitRunning then .error .busy
  else if s.cfg.owner.isSome && s.cfg.owner ≠ some who then .error .busy
  else if (Store.lookup key s.cfg.staged).isNone && 512 ≤ s.cfg.staged.length then .error .busy
  else .ok (s.modCfg fun c => { c with owner := some who, staged := Store.insert key v c.staged }, .done)

/-- A BOOT-class write is held pending (R357); none while the condition of RAMP, RUN or CONSTRAINED holds (R43). -/
def pendValue (s : State) (d : ObjDef) (key : Nat) (v : Int) : Res :=
  if s.ramping || s.anyRailLive then .error .modeForbids
  else if !s.valueOk d key v || !s.setOk key v then .error .outOfRange
  else .ok (s.modCfg fun c => { c with bootPending := Store.insert key v c.bootPending }, .done)

/-! ### The commit (R359–R365) -/

/-- A write of `CFG_COMMIT` (R358, R359): 0x5A commits, 0xA5 discards; both are the owner's. -/
def writeCommit (s : State) (acc : Accessor) (v : Nat) : Res :=
  s.writeVia acc K.CFG_COMMIT 1 fun s =>
    let who := s.issuerOf acc
    if v ≠ 0x5A && v ≠ 0xA5 then .error .outOfRange
    else if s.commitRunning then .error .busy
    else if s.cfg.owner.isSome && s.cfg.owner ≠ some who then .error .busy
    else if v = 0xA5 then .ok (s.discardStaging, .done)
    else s.withTag acc .commit K.CFG_COMMIT fun s t =>
      let s := s.put K.CFG_COMMIT_TAG t
      if s.cfg.staged.isEmpty then (s.put K.CFG_COMMIT_RESULT 7).finish t .completed 7
      else s.modCfg fun c => { c with phase := .checking, tag := some t }

/-- An object that belongs to rail `r`: its block, or its element of a per-rail array of supervision (R362). -/
def railObject (r : Fin 32) (k : Nat) : Bool :=
  (0x3000 + 0x20 * r.val ≤ k / 256 && k / 256 < 0x3020 + 0x20 * r.val) ||
    (0x2310 ≤ k / 256 && k / 256 ≤ 0x2316 && k % 256 = r.val + 1)

/-- The tiles involved in the commit (R362); none in FAILSAFE (R365). -/
def involvedTiles (s : State) : Nat :=
  let kvs := s.cfg.staged
  let v := s.puts kvs
  let rails := (List.finRange 32).filter fun r => kvs.any fun kv => railObject r kv.1
  let listed := rails.flatMap fun r => s.listed r ++ v.listed r
  let owned := (List.finRange 56).filter fun p => kvs.any fun kv => decide (kv.1 / 256 / 0x20 = (0x3800 + 0x20 * p.val) / 0x20)
  if s.modes.mode = .failsafe then 0
  else ((List.finRange 8).map fun t =>
    if s.tilePowered t && (listed ++ owned).any fun p => decide (tileOf p = t) then 2 ^ t.val else 0).sum

/-- The checks of R359 are done: the commit is refused, or prepares go to the tiles involved (R362). -/
def checksDone (s : State) : State :=
  if s.cfg.phase ≠ .checking then s
  else match s.checkCommit with
    | some (f, key) =>
      let s := match f.build with | some (r, w) => s.put (K.RAIL_BUILD_RESULT r) w | none => s
      (s.puts [(K.CFG_COMMIT_ABORT, f.code.code), (K.CFG_STAGED_FAULT, key)]).abandonCommit 2 .refused f.code.code
    | none =>
      let tiles := s.involvedTiles
      (s.modCfg fun c => { c with phase := .prepared, tiles := tiles, acked := 0, ackAt := s.now }).readyAll false 5 fun t => tiles.testBit t.val

/-- An UNBUILT rail whose configuration a commit completed is built (R107). DEDUCED (log 177): R95's `RAIL_MIN_BUILD` belongs to the build
at BOOT and is not tested here. -/
def buildCommitted (s : State) (kvs : List (Nat × Int)) : State :=
  (List.finRange 32).foldl (fun (s : State) r =>
    if (s.rail r).st = .unbuilt && kvs.any (fun kv => s.railRelates r kv.1) && (s.railCheck s r false).1 = 0 then
      (s.listsAtRest r (s.memberList r) (s.spareList r)).refreshDegraded r
    else s) s

/-- The membership that a commit gave a rail that is up holds no phase but ISOLATED ones, isolated since the prepare: its last member is
lost (R80, R81). -/
def lastLost (s : State) (kvs : List (Nat × Int)) : State :=
  (listRails kvs).foldl (fun (s : State) r =>
    if (s.rail r).st.live && !(s.rail r).members.isEmpty && (s.usableMembers r).isEmpty then
      s.railFault ⟨0x06, .rail, r.val, 0⟩ (some s.now)
    else s) s

/-- A commit that passes records BUILT for the built rails that its objects concern (R94). -/
def recordBuilt (s : State) (kvs : List (Nat × Int)) : State :=
  (List.finRange 32).foldl (fun (s : State) r =>
    if (s.rail r).st ≠ .unbuilt && kvs.any fun kv => s.railRelates r kv.1 then s.put (K.RAIL_BUILD_RESULT r) 0xFF00 else s) s

/-- The first 10 µs-aligned beacon tick at or after `t`. -/
def alignUp (t : Nat) : Nat := (t + 999) / 1000 * 1000

/-- The apply tick that comes next: A1 is at least 10 µs after the last acknowledgement (R362), A2 10 µs after A1, and A3 follows the
frame pulse with which the last change of A2 lands (R361). -/
def applyTick (s : State) : Nat :=
  match s.cfg.phase with
  | .prepared => alignUp (max s.now (s.cfg.ackAt + 1000))
  | .stage1 => alignUp (max s.now (s.getN K.CFG_COMMIT_AT + 1000))
  | _ =>
    let landed := if s.cfg.fswDue.isEmpty then s.now else (s.pulseFrom s.cfg.fswFrom).getD s.now
    alignUp (max s.now landed + 1)

/-- The next apply tick of the commit: A1, A2 or A3 (R361). -/
def stageApply (s : State) : State :=
  let kvs := s.cfg.staged
  match s.cfg.phase with
  | .prepared =>
    if s.missingTiles ≠ 0 then s
    else
      let s := s.timeTo s.applyTick
      let first := s.stagedUpTo 1
      let s := match s.cfg.tag with
        | some t => s.setOp t { s.op t with doneSeen := true }
        | none => s
      (((s.puts first).put K.CFG_COMMIT_AT s.now).modCfg fun c => { c with phase := .stage1 })
  | .stage1 =>
    let s := s.timeTo s.applyTick
    (((s.applyStaged (s.stagedUpTo 2)).buildCommitted kvs).modCfg fun c => { c with phase := .stage2 }).lastLost kvs
  | .stage2 =>
    if !s.cfg.fswDue.isEmpty && (s.pulseFrom s.cfg.fswFrom).isNone then s else
    let s := s.timeTo s.applyTick
    ((((s.landFsw.puts kvs).buildCommitted kvs).recordBuilt kvs).put K.CFG_COMMIT_TILES 0).endCommit 1 .completed 1
  | _ => s

/-- `CFG_STAGE_TIMEOUT` passes without a write of the owner (R358). -/
def stageTimeout (s : State) : State := if s.cfg.owner.isSome then s.discardStaging else s

end State

/-- CFG_COMMIT (R359). -/
def execCfgCommit (acc : Accessor) (s : State) : Out := .next (s.access acc fun s => s.writeCommit acc 0x5A)

/-- CFG_DISCARD (R358). -/
def execCfgDiscard (acc : Accessor) (s : State) : Out := .next (s.access acc fun s => s.writeCommit acc 0xA5)

/-- STAGE_TIMEOUT (R358). -/
def execStageTimeout (s : State) : Out := .next s.stageTimeout

/-- COMMIT_CHECKS_DONE (R359). -/
def execCommitChecksDone (s : State) : Out := .next s.checksDone

/-- COMMIT_ACK_TIMEOUT (R362): an acknowledgement is missing 100 µs after the prepare. -/
def execCommitAckTimeout (s : State) : Out := .next (if s.missingTiles ≠ 0 then s.refuseCommit else s)

/-- COMMIT_STAGE_APPLY (R361). -/
def execCommitStageApply (s : State) : Out := .next s.stageApply

end Sys2Proof.Machine
end

