-- ==== Sys2Proof/Machine/Image.lean ====
section
/-! DEFINITION. Where values come from: the OTP configuration layer (R453), the configuration image and its slots
(R356, R366–R369). -/

namespace Sys2Proof.Machine

/-- The entries of an image: index, subindex, length, value (R367). The first argument bounds their number. -/
def imageEntries : Nat → Bytes → List (Nat × Bytes)
  | n + 1, a :: b :: c :: l :: rest =>
    if rest.length < l.toNat then [] else (ofLE [c, a, b], rest.take l.toNat) :: imageEntries n (rest.drop l.toNat)
  | _, _ => []

/-- The bytes of entries. -/
def entryBytes (es : List (Nat × Bytes)) : Bytes :=
  es.flatMap fun e => toLE 2 (e.1 / 256) ++ toLE 1 (e.1 % 256) ++ toLE 1 e.2.length ++ e.2

/-- An image (R367). -/
def imageOf (seq id flags : Nat) (es : List (Nat × Bytes)) : Bytes :=
  let body := entryBytes es
  let head := toLE 4 0x49474643 ++ toLE 2 1 ++ toLE 2 0x0100 ++ toLE 8 seq ++ toLE 4 id ++ toLE 4 (36 + body.length) ++
    toLE 2 es.length ++ toLE 1 flags ++ List.replicate 5 0#8
  head ++ body ++ toLE 4 (crc32 (head ++ body))

/-- A field of an image. -/
def imageField (bs : Bytes) (lo n : Nat) : Nat := ofLE ((bs.drop lo).take n)

/-- Magic, layout version, total size and CRC are right (R366, R369). -/
def imageSound (bs : Bytes) : Bool :=
  let n := imageField bs 20 4
  decide (imageField bs 0 4 = 0x49474643) && decide (imageField bs 4 2 = 1) && decide (36 ≤ n) && decide (n ≤ 32768) &&
    decide (n = bs.length) && decide (imageField bs (n - 4) 4 = crc32 (bs.take (n - 4)))

/-- The entries of a sound image. -/
def imageList (bs : Bytes) : List (Nat × Bytes) := imageEntries (imageField bs 24 2) ((bs.take (bs.length - 4)).drop 32)

/-- The address of a slot (R417): 0 A, 1 B. -/
def slotAddr (k : Nat) : Nat := 0x18A000 + 0x8000 * k

/-- The accesses and classes that an image or the OTP layer may name (R368, R453). -/
def ObjDef.layered (d : ObjDef) : Bool :=
  d.access = .rw && (d.cls = .live || d.cls = .staged || d.cls = .boot)

/-- Objects of no single stored value: those of RW1C fields, and those that act on a unit or are kept per accessor. An entry
for one sets nothing. -/
def noLayer (d : ObjDef) (key : Nat) : Bool :=
  (match d.kind with | .event _ _ => true | _ => false) ||
    [K.OP_DONE_MAP_LO, K.OP_DONE_MAP_HI, K.DESC_SELECT, K.MRAM_RAW_PART, K.MRAM_RAW_OFFSET, K.MRAM_RAW_DATA, K.OTP_ROW, K.OTP_DATA,
     K.NET_MY_EVENT_MASK, K.SIR_EVENT_TILES].contains key ||
    (K.EST_IMP_ROW 0 ≤ key && key ≤ K.EST_IMP_ROW 11)

namespace State

/-! ### Slots (R366) -/

/-- The image in a slot, where the slot is valid (R366). -/
def slotImage (s : State) (k : Nat) : Option Bytes :=
  let n := ofLE (s.readMram (slotAddr k + 20) 4)
  if n ≤ 32768 then
    let bs := s.readMram (slotAddr k) n
    if imageSound bs && imageField bs 7 1 = 1 then some bs else none
  else none

/-- The valid slot of the higher sequence number (R366). -/
def bootSlot (s : State) : Option (Nat × Bytes) :=
  match s.slotImage 0, s.slotImage 1 with
  | some a, some b => if imageField a 8 8 < imageField b 8 8 then some (1, b) else some (0, a)
  | some a, none => some (0, a)
  | none, some b => some (1, b)
  | none, none => none

/-- The slot that saves go to: the one not loaded at this BOOT, or A (R369). -/
def otherSlot (s : State) : Nat := if s.get K.CFG_ACTIVE_SLOT = 0 then 1 else 0

/-- `CFG_NEXT_SLOT` (R373). -/
def nextSlot (s : State) : Nat :=
  match s.slotImage s.otherSlot with
  | some b => if s.getN K.CFG_ACTIVE_SEQ < imageField b 8 8 then 2 else 1
  | none => 0

/-! ### The layers below the image (R356, R453) -/

/-- The entry of an OTP configuration row: key, length and value; none for an unused or an uncorrectable row. -/
def otpEntry (s : State) (r : Nat) : Option (Nat × Nat × Nat) :=
  let v := (s.otpRow r).data
  if v = 0 || !s.otpClean r then none
  else some (v % 0x10000 * 256 + v / 0x10000 % 256, v / 0x1000000 % 256, v / 0x100000000)

/-- The entry sets its object (R453): defined, present, of its size, in range, RW of class LIVE, STAGED or BOOT. -/
def entryOk (s : State) (key : Nat) (bs : Bytes) : Bool :=
  match Dict.find key with
  | some d => !s.absent key && d.layered && decide (bs.length = d.size) && s.valueOk d key (d.value bs) && s.setOk key (d.value bs)
  | none => false

/-- The value of bytes under the object's type. -/
def entryValue (key : Nat) (bs : Bytes) : Int := match Dict.find key with | some d => d.value bs | none => 0

/-- The entries of the OTP configuration layer in row order (R453). -/
def otpEntries (s : State) : List (Nat × Bytes) :=
  (List.range 880).filterMap fun k => (s.otpEntry (128 + k)).map fun e => (e.1, toLE e.2.1 e.2.2)

/-- The value of an object below the image layer (R356). -/
def belowImage (s : State) (es : List (Nat × Bytes)) (key : Nat) : Int :=
  match (es.reverse.find? fun e => decide (e.1 = key) && s.entryOk key e.2) with
  | some e => entryValue key e.2
  | none => match Dict.find key with
    | some d => Dict.romValue d (s.getN K.PP_CHEM) key
    | none => 0

/-! ### Saving (R369) -/

/-- The entries that a save composes: LIVE and STAGED values in force that differ from those below the image, and every
pending BOOT value. -/
def saveEntries (s : State) : List (Nat × Bytes) :=
  let otp := s.otpEntries
  let keys := (s.objs.map fun kv => kv.1) ++ (otp.map fun e => e.1) ++ [K.PP_CUTOFF_CELL, K.CHG_VCELL, K.CHG_VPRE_CELL]
  let live : List (Nat × Bytes) := keys.foldl (fun (acc : List (Nat × Bytes)) key =>
    match Dict.find key with
    | some d =>
      if d.layered && d.cls ≠ .boot && !noLayer d key && d.size ≤ 255 && !s.absent key && s.get key ≠ s.belowImage otp key then
        Store.insert key (d.bytes (s.get key)) acc
      else acc
    | none => acc) []
  s.cfg.bootPending.foldl (fun (acc : List (Nat × Bytes)) kv =>
    match Dict.find kv.1 with
    | some d => Store.insert kv.1 (d.bytes kv.2) acc
    | none => acc) live

/-- Store an image in a slot. -/
def storeImage (s : State) (slot : Nat) (bs : Bytes) : State := s.writeMram (slotAddr slot) bs

/-- A slot is made invalid: its first four bytes are erased. -/
def voidSlot (s : State) (slot : Nat) : State := s.eraseMram (slotAddr slot) 4

/-- The tag of the save under way. -/
def saveTag (s : State) : Option Nat :=
  (List.range 128).find? fun t => decide ((s.op t).kind = .cfgSave) && (s.op t).status.isOpen

/-- A write of `CFG_SAVE` (R369). -/
def writeSave (s : State) (acc : Accessor) (v : Nat) : Res :=
  s.writeVia acc K.CFG_SAVE 1 fun s =>
    if v ≠ 0x5A then .error .outOfRange
    else if s.modes.holdup || s.commitRunning || s.cfg.saving.isSome then .error .busy
    else s.withTag acc .cfgSave K.CFG_SAVE fun s _ =>
      let img := imageOf (s.getN K.CFG_ACTIVE_SEQ + 1) 0 1 s.saveEntries
      (s.modCfg fun c => { c with saving := some (s.otherSlot, img) }).voidSlot s.otherSlot

/-- The image of a save or of an image write is written (R369); with a save, the pending values that it holds are saved (R357); one
that is larger than a slot is not written, and its tag FAILED. -/
def saveDone (s : State) : State :=
  match s.cfg.saving with
  | none => s
  | some (slot, img) =>
    let t := s.saveTag
    let s := s.modCfg fun c => { c with saving := none }
    let saved (kv : Nat × Int) : Bool := (imageList img).any fun e => decide (e.1 = kv.1) && decide (entryValue e.1 e.2 = kv.2)
    if img.length ≤ 32768 then
      let s := s.storeImage slot img
      if t.isNone then s
      else (s.modCfg fun c => { c with bootPending := c.bootPending.filter fun kv => !saved kv }).finish? t .completed
    else s.finish? t .failed

/-- A write of `CFG_ERASE` (R369). -/
def writeErase (s : State) (acc : Accessor) (v : Nat) : Res :=
  s.writeVia acc K.CFG_ERASE 1 fun s =>
    if !(s.idleCond || s.modes.mode = .failsafe || s.modes.mode = .service) then .error .modeForbids
    else if v ≠ 0x5A then .error .outOfRange
    else if s.modes.holdup then .error .busy
    else .ok ((s.voidSlot 0).voidSlot 1, .done)

/-- A complete image written to `CFG_IMAGE_WRITE` (R369): accepted, it is in progress until CFG_SAVE_DONE. -/
def writeImage (s : State) (acc : Accessor) (data : Bytes) : Res :=
  match s.reachAs true acc K.CFG_IMAGE_WRITE with
  | .error e => .error e
  | .ok d =>
    if !d.sizeOk data.length || !imageSound data || entryBytes (imageList data) ≠ (data.take (data.length - 4)).drop 32 then
      .error .typeMismatch
    else if !s.debugAllows acc true K.CFG_IMAGE_WRITE then .error .debugForbids
    else if !s.roleOk acc d then .error .roleDenied
    else if s.modes.holdup || s.cfg.saving.isSome then .error .busy
    else match (imageList data).find? fun e => match Dict.find e.1 with | some d => !d.layered | none => true with
      | some e => .ok (s.put K.CFG_FIRST_REJECT e.1, .abort .stagedConflict)
      | none =>
        let head := data.take 8 ++ toLE 8 (s.getN K.CFG_ACTIVE_SEQ + 1) ++ (data.drop 16).take (data.length - 20)
        .ok ((s.modCfg fun c => { c with saving := some (s.otherSlot, head ++ toLE 4 (crc32 head)) }).voidSlot s.otherSlot, .done)

/-! ### BOOT (R368) -/

/-- Count a rejected entry and name the first. -/
def rejectEntry (s : State) (key : Nat) : State :=
  let s := s.put K.CFG_ENTRIES_REJECTED (s.get K.CFG_ENTRIES_REJECTED + 1)
  if s.get K.CFG_FIRST_REJECT = 0 then s.put K.CFG_FIRST_REJECT key else s

/-- One entry of the loaded image. -/
def bootEntry (s : State) (e : Nat × Bytes) : State :=
  match Dict.find e.1 with
  | some d =>
    if s.absent e.1 then s.put K.CFG_ENTRIES_ABSENT (s.get K.CFG_ENTRIES_ABSENT + 1)
    else if s.entryOk e.1 e.2 then
      let s := if noLayer d e.1 then s else s.put e.1 (s.loadedAs e.1 (d.value e.2))
      s.put K.CFG_ENTRIES_APPLIED (s.get K.CFG_ENTRIES_APPLIED + 1)
    else s.rejectEntry e.1
  | none => s.rejectEntry e.1

/-- One entry of the OTP layer (R453). -/
def bootOtpEntry (s : State) (e : Nat × Bytes) : State :=
  if s.entryOk e.1 e.2 then
    match Dict.find e.1 with
    | some d => if noLayer d e.1 then s else s.put e.1 (s.loadedAs e.1 (d.value e.2))
    | none => s
  else s.put K.OTP_CFG_REJECTED (s.get K.OTP_CFG_REJECTED + 1)

/-- The rules of R368 beside those of rails that fail on the values in force. -/
def bootFaults (s : State) : List RuleFault :=
  let pair (a b : Nat) (ok : Bool) := pairRule [a, b] ok .outOfRange a
  let cells := s.get K.PP_CELLS
  let capped (r : Fin 32) (key : Nat) : Option RuleFault :=
    pairRule (key :: s.limitKeys r) (decide (s.get key ≤ s.limitMax r)) .outOfRange key
  s.afterRule.toList ++ (s.stepRule s).toList ++
  ([K.PP_VIN_MIN, K.PP_VIN_MAX, K.PP_VIN_LOSS, K.SIR_T_WARN, K.LEDGER_TDERATE_START, K.EST_TAU1, K.CHG_ZONE_T 0].filterMap s.rangeRules) ++
  (pair K.PP_CHEM K.PP_CELLS (if s.get K.PP_CHEM = 1 then 4 ≤ cells && cells ≤ 8 else 2 ≤ cells && cells ≤ 7)).toList ++
  (pair K.CHG_IPRE K.CHG_ICHG (decide (s.get K.CHG_IPRE ≤ s.get K.CHG_ICHG))).toList ++
  (pairRule ((List.range 21).map fun k => K.EST_OCV k) (s.get K.EST_OCV_SRC ≠ 1 || s.ocvAscends) .stagedConflict (K.EST_OCV 0)).toList ++
  ((List.finRange 32).flatMap fun r => (capped r (K.RAIL_ILIM_SET r)).toList ++ (capped r (K.LEDGER_CAP_FLOOR r)).toList) ++
  (List.range 56).filterMap fun p => pair (K.PH_SHED_LO p) (K.PH_SHED_HI p) (decide (s.get (K.PH_SHED_LO p) < s.get (K.PH_SHED_HI p)))

/-- Every object that a failing rule relates returns to its value below the image, and is counted as rejected (R368). The
first argument bounds the rounds: each fault clears at least one entry. -/
def bootRules (otp image : List (Nat × Bytes)) : Nat → State → State
  | 0, s => s
  | n + 1, s =>
    let hits (f : RuleFault) := image.filter fun e => f.relates e.1 && s.entryOk e.1 e.2
    match s.bootFaults.find? fun f => !(hits f).isEmpty with
    | none => s
    | some f =>
      let hit := hits f
      bootRules otp (image.filter fun e => !f.relates e.1) n
        (hit.foldl (fun (s : State) (e : Nat × Bytes) => rejectEntry (s.put e.1 (s.belowImage otp e.1)) e.1) s)

/-- The ROM values that follow the chemistry (R248). -/
def chemDefaults (s : State) : State :=
  if s.get K.PP_CHEM = 1 then
    [K.PP_CUTOFF_CELL, K.CHG_VCELL, K.CHG_VPRE_CELL].foldl (fun (s : State) (k : Nat) =>
      match Dict.find k with | some d => s.put k (Dict.romValue d 1 k) | none => s) s
  else s

/-- The chemistry that the entries give: ranges and defaults follow it, so it is set ahead of them. -/
def chemFirst (es : List (Nat × Bytes)) (s : State) : State :=
  match es.reverse.find? fun e => decide (e.1 = K.PP_CHEM) && s.entryOk e.1 e.2 with
  | some e => s.put K.PP_CHEM (entryValue e.1 e.2)
  | none => s

/-- The configuration image is selected and loaded over the OTP layer (R356, R366, R368). -/
def loadConfig (s : State) : State :=
  let otp := s.otpEntries
  let image := match s.bootSlot with | some (_, bs) => imageList bs | none => []
  let all := otp ++ image
  let s := chemFirst all (otp.foldl bootOtpEntry (chemFirst all s).chemDefaults)
  match s.bootSlot with
  | none => s.put K.CFG_ACTIVE_SLOT 0xFF
  | some (slot, bs) =>
    let s := s.puts [(K.CFG_ACTIVE_SLOT, slot), (K.CFG_ACTIVE_SEQ, imageField bs 8 8), (K.CFG_ACTIVE_ID, imageField bs 16 4)]
    bootRules otp image image.length (image.foldl bootEntry s)

end State

/-- CFG_SAVE (R369). -/
def execCfgSave (acc : Accessor) (s : State) : Out := .next (s.access acc fun s => s.writeSave acc 0x5A)

/-- CFG_SAVE_DONE (R369): the end of a save or of an image write. -/
def execCfgSaveDone (s : State) : Out := .next s.saveDone

/-- CFG_ERASE (R369). -/
def execCfgErase (acc : Accessor) (s : State) : Out := .next (s.access acc fun s => s.writeErase acc 0x5A)

/-- CFG_IMAGE_WRITE (R369): a complete image. -/
def execCfgImageWrite (acc : Accessor) (data : Bytes) (s : State) : Out := .next (s.access acc fun s => s.writeImage acc data)

end Sys2Proof.Machine
end

