-- ==== Sys2Proof/Machine/Requests.lean ====
section
/-! DEFINITION. Requests for a mode (R49–R51, R193), and aborts of tagged operations (R406–R408). -/

namespace Sys2Proof.Machine
namespace State

/-! ### Entries to VAULT and DORMANT (R45, R51) -/

/-- An entry to VAULT or DORMANT is abandoned because of a wake event (R51). -/
def abandonEntry (s : State) (hit : Nat) (why : Reason) : State :=
  ((s.put K.WAKE_SOURCE hit).addHistory s.now .idle .idle why).raise Ev.mode 4

/-- The wake events among `woken` that a request for mode `v` recognises, by `WAKE_ENABLE` as it is copied (R51). -/
def wakeHits (s : State) (v woken : Nat) : Nat :=
  let en := s.getN K.WAKE_ENABLE
  woken &&& (if v = 1 then 0x11 ||| (en &&& 0x0E) else 0x101 ||| (en &&& (if s.hasPort 1 then 0xFE else 0xBE)))

/-- VAULT is entered (R44, R45): the charger stops, the latch is set and the Keeper is held in reset. -/
def enterVault (s : State) : State :=
  let s := s.chargerStop.modOasis fun o => { o with wakeCopy := s.getN K.WAKE_ENABLE }
  let s := s.modModes fun x => { x with vaultLatch := true, heldReset := true, shipArmed := false, riding := false }
  ((s.setMode .vault .hostRequest).keeperRest).refreshAux

/-- The sensor that the guard of R214 watches: K1, or the lower-numbered of the other valid Keeper sensors. -/
def guardSensor (s : State) : Option (Fin 3) :=
  let ok (k : Fin 4) : Bool := decide (s.therm.tiles[(0 : Fin 8)].sensors[k].st = .valid)
  if ok 1 then some 1 else if ok 0 then some 0 else if ok 2 then some 2 else none

/-- A partner's block transfer is forgotten. -/
def dropBlocks (s : State) : State :=
  { s with net := { s.net with partners := s.net.partners.map fun p => p.map fun q => { q with block := none } } }

/-- DORMANT is entered (R44, R45, R214, R260, R358, R419, R430, R436, R464): a rest window ends, the charger stops, and the Keeper goes
into retention. -/
def enterDormant (s : State) : State :=
  let s := s.abortRest.chargerStop.modOasis fun o => { o with wakeCopy := s.getN K.WAKE_ENABLE }
  let s := (((s.quenchDma).dropBlocks).mirDormant.discardStaging).endUnlocks fun _ => true
  let s := (s.modSec fun x => { x with dbgNonce := none }).setLevel .none
  let s := s.modModes fun x => { x with riding := false }
  let s := ((s.setMode .dormant .hostRequest).keeperRest).refreshAux
  let s := (List.finRange 8).foldl (fun (s : State) (t : Fin 8) =>
    s.modLink t LinkSt.powerOff) s
  let kept := (List.finRange 4).any fun k => decide ((s.aux k).st ≠ .off)
  { s with therm := { s.therm with guardOn := if kept then s.guardSensor else none, guardLimit := s.get K.SIR_T_SHUT,
                                   guardRun := 0, guardTripped := false } }

/-! ### SERVICE (R45, R193) -/

/-- SERVICE is entered: from FAILSAFE any retry is cancelled, and for a rail fault the Lanterns are released; FOG stays
driven. -/
def enterService (s : State) : State :=
  if s.modes.mode = .failsafe then
    let s := (s.put K.FS_RETRY_AT 0).modModes fun x => { x with serviceFromFailsafe := true, fsStoredRetry := 0 }
    let s := if s.get K.FS_CAUSE = 5 then s else s.releaseLanterns
    (s.setMode .service .hostRequest).refreshAux
  else ((s.modModes fun x => { x with serviceFromFailsafe := false, riding := false }).setMode .service .hostRequest).refreshAux

/-- The rails that were up are off and SERVICE is left: for FAILSAFE where its latch is set, and otherwise for the mode that
R42 shows (R45). -/
def finishService (s : State) : State :=
  if s.modes.mode = .service && s.modes.serviceLeaving && !s.anyRailLive then
    if s.modes.fsLatched then s.enterFailsafe .hostRequest
    else
      let s := s.modModes fun x => { x with serviceLeaving := false, serviceFromFailsafe := false }
      let s := s.driveFog false
      ((s.setMode .idle .hostRequest).idleEntry).supplyLevels
  else s

/-! ### `MODE_REQUEST` (R49) -/

/-- What an accepted request for VAULT, SHIP or DORMANT saves first: the energy accounts and CORE (R140, R264). -/
def saveForRest (s : State) : State := s.saveAccounts.coreWrite

/-- An accepted request acts; `woken` are the wake events recorded while VAULT or DORMANT is being entered (R51). `beaten` says that
a rail fault, HRST or supply loss arrived while the request was being carried out: the request is dropped (R47). -/
def modeRequest (s : State) (v woken : Nat) (beaten : Bool) : State :=
  let s := if v ≤ 3 then s.saveForRest else s
  if beaten then s
  else if v = 1 then
    let hit := s.wakeHits 1 woken
    if hit = 0 then s.enterVault else s.abandonEntry hit .vaultAbandoned
  else if v = 2 then
    if !s.path.inService then s.enterShip
    else (s.modModes fun x => { x with shipArmed := true }).raise Ev.mode 6
  else if v = 3 then
    let hit := s.wakeHits 3 woken
    if hit = 0 then s.enterDormant else s.abandonEntry hit .dormantAbandoned
  else if v = 12 then s.enterService
  else match s.modes.mode with
    | .service => s.leaveService.finishService
    | .failsafe => s.fsClear .fsClearCommand
    | _ => s.modModes fun x => { x with shipArmed := false }

/-- A write of `MODE_REQUEST`, its checks in the order of R49. -/
def writeModeRequest (s : State) (acc : Accessor) (v woken : Nat) (beaten : Bool) : Res :=
  match s.reachWrite acc K.MODE_REQUEST 1 with
  | .error e => .error e
  | .ok _ =>
    let fs : Bool := s.modes.mode = .failsafe
    if !([1, 2, 3, 5, 12].contains v) then .error .outOfRange
    else if v ≠ 5 && !s.idleCond && !(v = 12 && fs) then .error .modeForbids
    else if v ≠ 5 && s.sessionOpen then .error .modeForbids
    else if s.anyRunning || s.modes.serviceLeaving then .error .busy
    else if (v = 12 || (v = 5 && fs)) && !s.installerUp acc then .error .roleDenied
    else if v = 12 && !s.serviceAllowed then .error .debugForbids
    else if v = 5 && s.modes.mode ≠ .service && !fs && !(s.idleCond && s.modes.shipArmed) then .error .modeForbids
    else .ok (s.modeRequest v woken beaten, .done)

/-- A write of `WAKE_ENABLE` (R51). -/
def writeWakeEnable (s : State) (v : Nat) : State := s.put K.WAKE_ENABLE (s.wakeEnableOf v)

/-! ### `OP_ABORT` (R406–R408) -/

/-- The kinds that R407 lets be aborted; an entry that no operation has used is of none. -/
def abortable : OpKind → Bool
  | .groupDown | .sessionClose | .cfgSave | .otp | .lifecycle => false
  | _ => true

/-- The number of the unit whose object started an operation, `stride` indices apart from `base`. -/
def unitOfKey (key base stride : Nat) : Nat := (key / 256 - base) / stride

/-- An accepted abort of an open operation reaches what carries it out (R407). -/
def abortActs (s : State) (t : Nat) : State :=
  let e := s.op t
  match e.kind with
  | .railVoltage =>
    match (List.finRange 32).find? fun r => decide (r.val = unitOfKey e.key 0x3000 0x20) with
    | some r => s.sendRail r (.abort t)
    | none => s
  | .groupUp =>
    match (List.finRange 16).find? fun g => decide (g.val = unitOfKey e.key 0x2100 8) with
    | some g => (s.powerDown 16 g none).releaseDependants
    | none => s
  | .sessionOpen =>
    match (List.finRange 4).find? fun m => decide (m.val = unitOfKey e.key 0x6100 0x100) with
    | some m => s.endOpening m (.inl .aborted)
    | none => s
  | .commit => if e.doneSeen then s.loseAbort t else s.abandonCommit 4 .aborted
  | .dma =>
    match (List.finRange 8).find? fun c => decide (c.val = unitOfKey e.key 0x7200 0x10) with
    | some c => s.abortDma c
    | none => s
  | _ => s

/-- A write of `OP_ABORT` (R408). -/
def writeAbort (s : State) (acc : Accessor) (v : Nat) : Res :=
  match s.reachWrite acc K.OP_ABORT 1 with
  | .error e => .error e
  | .ok _ =>
    let e := s.op v
    if 0x7F < v then .error .outOfRange
    else if e.issuer ≠ s.issuerOf acc && !s.installerUp acc then .error .roleDenied
    else if !abortable e.kind then .error .modeForbids
    else if !e.status.isOpen then .ok (s.put K.OP_ABORT_LAST ((v : Int) + 0x300), .done)
    else if e.abort = .requested then .ok (s, .done)
    else .ok ((s.setOp v { e with abort := .requested }).abortActs v, .done)

/-- A write of `OP_DONE_MAP` (R411): its 1 bits are cleared. -/
def clearDone (s : State) (key v : Nat) : State := s.clearBits key v

end State

/-- MODE_REQUEST_VAULT (R49, R51): the write of 1, and the wake events recorded before the latch is set. -/
def execModeRequestVault (acc : Accessor) (woken : Nat) (beaten : Bool) (s : State) : Out :=
  .next (s.access acc fun s => s.writeModeRequest acc 1 woken beaten)

/-- MODE_REQUEST_SHIP (R49): the write of 2. -/
def execModeRequestShip (acc : Accessor) (beaten : Bool) (s : State) : Out :=
  .next (s.access acc fun s => s.writeModeRequest acc 2 0 beaten)

/-- MODE_REQUEST_DORMANT (R49, R51): the write of 3, and the wake events recorded before retention is reached. -/
def execModeRequestDormant (acc : Accessor) (woken : Nat) (beaten : Bool) (s : State) : Out :=
  .next (s.access acc fun s => s.writeModeRequest acc 3 woken beaten)

/-- MODE_REQUEST_IDLE (R49, R53): the write of 5, which acts at once. -/
def execModeRequestIdle (acc : Accessor) (s : State) : Out := .next (s.access acc fun s => s.writeModeRequest acc 5 0 false)

/-- MODE_REQUEST_SERVICE (R49, R193): the write of 12. -/
def execModeRequestService (acc : Accessor) (beaten : Bool) (s : State) : Out :=
  .next (s.access acc fun s => s.writeModeRequest acc 12 0 beaten)

/-- OP_ABORT (R408). -/
def execOpAbort (acc : Accessor) (tag : Nat) (s : State) : Out := .next (s.access acc fun s => s.writeAbort acc tag)

/-- TAG_RESERVATION_EXPIRY (R403). -/
def execTagReservationExpiry (t : Fin 128) (s : State) : Out := .next (s.freeTag t)

end Sys2Proof.Machine
end

