-- ==== Sys2Proof/Machine/NetOps.lean ====
section
/-! DEFINITION. The field network's shared moves: sending, the partner table, evictions (R323–R338, R341). -/

namespace Sys2Proof.Machine

/-- The FD length that holds `n` bytes (R327). -/
def fdLength (n : Nat) : Nat := (([0, 1, 2, 3, 4, 5, 6, 7, 8, 12, 16, 20, 24, 32, 48, 64] : List Nat).find? fun l => n ≤ l).getD 64

/-- The bytes of a frame before its CRC: the content, filled with zeros to the FD length (R327). -/
def fdBody (bs : Bytes) : Bytes := bs ++ List.replicate (fdLength (bs.length + 4) - 4 - bs.length) 0#8

/-- The priority of a function (R326). -/
def funcPrio (func : Nat) : Nat :=
  if func = 0x10 || func = 0x11 then 1
  else if func = 0x04 then 2
  else if func ≤ 0x03 then 3
  else if func ≤ 0x0B || (0x18 ≤ func && func ≤ 0x1B) then 4
  else if func ≤ 0x0F then 5
  else 6

/-- The identifier of a frame (R325). -/
def frameId (func dst src xid : Nat) : Nat := funcPrio func * 2 ^ 26 + func * 2 ^ 21 + dst * 2 ^ 14 + src * 2 ^ 7 + xid

/-- The CRC of the object protocol, over the identifier and every byte before it (R327). -/
def frameCrc32 (id : Nat) (body : Bytes) : Nat := crc32 (toLE 4 id ++ body)

/-- The last four bytes of a frame hold its CRC (R327). -/
def frameWhole (id : Nat) (bytes : Bytes) : Bool :=
  let n := bytes.length - 4
  decide (4 ≤ bytes.length) && decide (ofLE (bytes.drop n) = frameCrc32 id (bytes.take n))

/-- Error-passive: an error counter stands above 127 (R323). -/
def PortSt.errorPassive (p : PortSt) : Bool := decide (127 < p.txErr) || decide (127 < p.rxErr)

/-- A frame with some of its data bits inverted before the CAN CRC is computed: the content, and after it the protocol CRC (R316, R327). -/
def Sent.inverted (f : Sent) (bits : List Nat) : Sent :=
  let w := bits.foldl (fun (w : Nat) k => w ^^^ 2 ^ k) (ofLE (f.body ++ toLE 4 f.crc))
  { f with body := toLE f.body.length w, crc := w / 256 ^ f.body.length, fate := .altered }

/-- The data bits of a received frame: content and protocol CRC (R316); of one whose CRC fails the content is not kept. -/
def RxFrame.bits : RxFrame → Nat
  | .whole _ f => 8 * (f.body.length + 4)
  | .badCrc _ => 0

namespace State

/-- The node ID in use (R342). -/
def nodeId (s : State) : Nat := if s.get K.NET_NODE_ID = 0 then 0x40 + Config.addrPins % 8 else s.getN K.NET_NODE_ID

/-! ### Ports (R323, R324) -/

/-- A port is enabled by its object, and the part has it. -/
def portEnabled (s : State) (q : Nat) : Bool := s.hasPort q && s.flag (if q = 0 then K.NET_A_EN else K.NET_B_EN)

/-- Bus-off of a port. -/
def portOff (s : State) (q : Nat) : Bool := match s.net.ports[q]? with | some p => p.busOff | none => true

/-- A port runs: enabled, in a mode in which the network runs, and not bus-off (R324). -/
def portUp (s : State) (q : Nat) : Bool := s.portsOpen && s.portEnabled q && !s.portOff q

/-- Change a port's controller. -/
def modCan (s : State) (q : Fin 2) (f : PortSt → PortSt) : State := s.modNet fun n => { n with ports := n.ports.set q (f n.ports[q]) }

/-- Change the controller of a port by its number. -/
def modCanAt (s : State) (q : Nat) (f : PortSt → PortSt) : State :=
  (List.finRange 2).foldl (fun (s : State) k => if k.val = q then s.modCan k f else s) s

/-- A frame sent and acknowledged lowers the transmit error counter (R323). -/
def canSent (s : State) (q : Nat) : State := s.modCanAt q fun p => { p with txErr := p.txErr - 1 }

/-- A frame received whole lowers the receive error counter, from above 127 to a value below that the standard leaves open (R323). -/
def canReceived (s : State) (q : Nat) : State :=
  let high := match s.net.ports[q]? with | some p => decide (127 < p.rxErr) | none => false
  let (v, s) := if high then s.fresh else (0, s)
  s.modCanAt q fun p => { p with rxErr := if 127 < p.rxErr then 119 + (v % 9).toNat else p.rxErr - 1 }

/-- A port is error-passive. -/
def errorPassiveAt (s : State) (q : Nat) : Bool := match s.net.ports[q]? with | some p => p.errorPassive | none => false

/-- A frame that the controller discards as an error raises the receive error counter; one that passes 127 makes the port error-passive
(R316, R323). -/
def canBadFrame (s : State) (q : Nat) : State :=
  let t := s.modCanAt q fun p => { p with rxErr := min 255 (p.rxErr + 1) }
  if t.errorPassiveAt q && !s.errorPassiveAt q then t.raise Ev.net 8 else t

/-- A counter of a port: 0 frames sent, 1 received, 2 error frames, 3 bus-offs (R343). -/
def countPort (s : State) (q k : Nat) : State := s.bump ((if q = 0 then K.NET_A_COUNTS else K.NET_B_COUNTS) k)

/-! ### Sending (R316, R325–R327) -/

/-- Put a frame on the wire. -/
def wireOut (s : State) (f : Sent) : State := s.modNet fun n => { n with out := n.out ++ [f] }

/-- The device sends a frame, past Haboob's TX target (R316). -/
def netSend (s : State) (port func dst xid : Nat) (content : Bytes) : State :=
  let s := (s.countPort port 0).canSent port
  let id := frameId func dst s.nodeId xid
  let f : Sent :=
    { port := port, func := func, dst := dst, xid := xid, body := fdBody content, id := id, crc := frameCrc32 id (fdBody content) }
  let (hit, s) := s.habItem (if port = 0 then 0x41 else 0x43) (8 * (f.body.length + 4))
  let act := s.get K.HAB_ACTION
  let held := s.net.heldTx
  if hit && act = 4 && held.isNone then s.modNet fun n => { n with heldTx := some f }
  else
    let fate : Fate := if !hit || act = 4 then .whole else if act = 0 then .dropped else if act = 3 then .badCrc else .altered
    let s := s.wireOut (if fate = .altered then f.inverted s.hab.bits else { f with fate := fate })
    match held with
    | some g => if g.port = port then (s.modNet fun n => { n with heldTx := none }).wireOut g else s
    | none => s

/-- Forget the frames of the command before. -/
def netBegin (s : State) : State := s.modNet fun n => { n with out := [] }

/-- Send a frame to a partner. -/
def sendTo (s : State) (p : Partner) (func xid : Nat) (content : Bytes) : State := s.netSend p.port func p.node xid content

/-- The content of an ABORT (R331). -/
def abortBody (key : Nat) (a : Abort) : Bytes := toLE 2 (key / 256) ++ toLE 1 (key % 256) ++ [0#8] ++ toLE 2 a.code ++ toLE 2 0

/-! ### The partner table (R330, R335) -/

/-- The slot of a partner. -/
def partnerAt (s : State) (port node : Nat) : Option (Fin 64) :=
  (List.finRange 64).find? fun i => match s.partner i with | some p => decide (p.port = port) && decide (p.node = node) | none => false

/-- Change a partner. -/
def modPartner (s : State) (i : Fin 64) (f : Partner → Partner) : State := s.setPartner i ((s.partner i).map f)

/-- Partners joined. -/
def partnerCount (s : State) : Nat := ((List.finRange 64).filter fun i => (s.partner i).isSome).length

/-- A partner's block transfer is over without a revocation: its lease ends (R332). -/
def endBlock (s : State) (i : Fin 64) : State :=
  match (s.partner i).bind fun p => p.block with
  | some b =>
    let s := s.modPartner i fun p => { p with block := none }
    if b.lost.isNone then s.closeChannel b.channel else s
  | none => s

/-- The lease of a partner's block transfer is revoked: the transfer ends with ABORT LEASE_REVOKED (R194, R195, R333). -/
def revokeBlock (s : State) (i : Fin 64) : State :=
  match s.partner i with
  | some p => match p.block with
    | some b =>
      let s := s.modPartner i fun p => { p with block := none }
      let s := if b.lost.isNone then (s.haltChannel b.channel 2 .failed).leaseRevoked 3 else s
      if s.portUp p.port then s.sendTo p 0x0B b.xid (abortBody b.key .leaseRevoked) else s
    | none => s
  | none => s

/-- Block transfers that have lost their channel end with ABORT and the code of the halt, where their port can send it (R430). -/
def settleBlocks (s : State) : State :=
  (List.finRange 64).foldl (fun (s : State) i => match s.partner i with
    | some p => match p.block with
      | some b => match b.lost with
        | some e =>
          if s.portUp p.port then (s.modPartner i fun p => { p with block := none }).sendTo p 0x0B b.xid (abortBody b.key e) else s
        | none => s
      | none => s
    | none => s) s

/-- A partner is evicted (R335): its block transfer, role and queue end, its staging set is discarded (R358), its unlocks end
(R419). -/
def evict (s : State) (i : Fin 64) (reason : Nat) : State :=
  match s.partner i with
  | none => s
  | some _ =>
    let s := (s.revokeBlock i).setPartner i none
    let s := s.endUnlocks fun u => u.holder = some i
    let s := if s.cfg.owner = some (.slot i) then s.discardStaging else s
    (s.put K.NET_LAST_EVICT reason).raise Ev.net 1

/-- Every partner of a port is evicted with PORT_DOWN (R335). -/
def evictPort (s : State) (q : Nat) : State :=
  (List.finRange 64).foldl (fun (s : State) i => match s.partner i with
    | some p => if p.port = q then s.evict i 6 else s
    | none => s) s

/-! ### Events to partners (R336) -/

/-- The content of an EVENT. -/
def eventBody (e : EventRec) : Bytes := toLE 2 e.source ++ toLE 8 e.raisedAt ++ toLE 2 e.value ++ toLE 1 e.counter ++ toLE 3 0

/-- Send the queued events that have not been sent: a version-1 partner's leave its queue, a version-2 partner's wait for
their EVENT_ACK. -/
def sendEvents (s : State) : State :=
  (List.finRange 64).foldl (fun (s : State) i => match s.partner i with
    | some p =>
      if !s.portUp p.port then s
      else
        let due := p.queue.filter fun e => decide (e.sent = 0)
        let s := due.foldl (fun (s : State) (e : EventRec) => s.sendTo p 0x10 0 (eventBody e)) s
        s.modPartner i fun p =>
          { p with queue := if p.version = 1 then p.queue.filter fun e => decide (e.sent ≠ 0)
                            else p.queue.map fun e => if e.sent = 0 then { e with sent := 1 } else e }
    | none => s) s

/-- An EVENT has not been acknowledged for 100 ms: it is resent, at most 3 times, and then dropped. -/
def resendEvent (s : State) (i : Fin 64) (counter : Nat) : State :=
  match s.partner i with
  | none => s
  | some p => match p.queue.find? fun e => decide (e.counter = counter) && decide (e.sent ≠ 0) with
    | none => s
    | some e =>
      if 4 ≤ e.sent then
        (s.modPartner i fun p => { p with queue := p.queue.erase e }).countDrops 1
      else if s.portUp p.port then
        (s.modPartner i fun p => { p with queue := p.queue.map fun x => if x = e then
          { x with sent := x.sent + 1 } else x }).sendTo p 0x10 0
          (eventBody e)
      else s

/-! ### Writes of the network's objects (R335, R338, R341, R343) -/

/-- A write of `NET_EVICT`. -/
def writeEvict (s : State) (acc : Accessor) (v : Nat) : Res :=
  s.writeVia acc K.NET_EVICT 1 fun s =>
    match (List.finRange 64).find? fun i => decide (i.val = v) with
    | some i => .ok (s.netBegin.evict i 5, .done)
    | none => .error .outOfRange

/-- A role falls back to PEER for every partner that holds it. -/
def dropRole (s : State) (r : Role) : State :=
  s.modNet fun n => { n with partners := n.partners.map fun p => p.map fun q => if q.role = r then { q with role := .peer } else q }

/-- A write of `NET_INSTALLER_PW` (R341): only the digest is kept, in MRAM. -/
def writeInstallerPw (s : State) (acc : Accessor) (data : Bytes) : Res :=
  match s.reach acc K.NET_INSTALLER_PW with
  | .error e => .error e
  | .ok _ =>
    if !s.debugAllows acc true K.NET_INSTALLER_PW then .error .debugForbids
    else if s.roleOf acc ≠ .host && s.roleOf acc ≠ .installer then .error .roleDenied
    else if data.length < 8 || 32 < data.length || data.any fun b => 128 ≤ b.toNat then .error .outOfRange
    else if s.modes.holdup then .error .busy
    else .ok ((s.modNet fun n => { n with pwHash := some (sha256 data) }).dropRole .installer, .done)

/-- A write of `NET_AUTH_TOKEN` (R339): one token for each partner; none for other accessors. -/
def writeToken (s : State) (acc : Accessor) (data : Bytes) : Res :=
  match s.reachWrite acc K.NET_AUTH_TOKEN data.length with
  | .error e => .error e
  | .ok _ => match acc with
    | .partner i => .ok (s.modPartner i fun p => { p with token := data }, .done)
    | _ => .error .roleDenied

/-- A write of `NET_MY_EVENT_MASK` (R336): the writing partner's own mask. -/
def writeMask (s : State) (acc : Accessor) (v : Nat) : Res :=
  match s.reachWrite acc K.NET_MY_EVENT_MASK 4 with
  | .error e => .error e
  | .ok _ => match acc with
    | .partner i => .ok (s.modPartner i fun p => { p with mask := v }, .done)
    | _ => .error .roleDenied

/-- The objects that the entries in use of a telemetry map name. -/
def tlmKeys (s : State) (m : Nat) : List Nat := (List.range (s.getN (K.TLM_COUNT m))).map fun j => s.getN (K.TLM_ENTRY m j)

/-- What is wrong with one entry of a map (R338). -/
def tlmEntryFault (s : State) (key : Nat) : Option Abort :=
  match Dict.find key with
  | none => some .noSuchObject
  | some d =>
    if d.type = .domain || d.type = .vis || d.access = .wo then some .typeMismatch
    else if s.absent key then some .unitAbsent else none

/-- The refusal of R338, its conditions in the order of its table. -/
def tlmFault (s : State) (m : Nat) : Option Abort :=
  let faults := (s.tlmKeys m).filterMap s.tlmEntryFault
  let size : Nat := ((s.tlmKeys m).map fun k => match Dict.find k with | some d => d.size | none => 0).sum
  (([.noSuchObject, .typeMismatch, .unitAbsent] : List Abort).find? fun a => faults.contains a).or <|
  (if 54 < size then some .outOfRange else none).or <|
  if s.portEnabled (s.getN (K.TLM_PORT m)) then none else some .unitAbsent

/-- A write of `TLM_EN` (R338). -/
def writeTlmEn (s : State) (acc : Accessor) (m : Fin 8) (v : Nat) : Res :=
  s.writeVia acc (K.TLM_EN m) 1 fun s =>
    if 1 < v then .error .outOfRange
    else if v = 0 then .ok (s.put (K.TLM_EN m) 0, .done)
    else match s.tlmFault m with
      | some a => .error a
      | none => .ok (s.put (K.TLM_EN m) 1, .done)

end State

/-- DMA_RETRY (R430). -/
def execDmaRetry (c : Fin 8) (s : State) : Out := .next (s.netBegin.dmaRetry c).settleBlocks

/-- MRAM_LEASE_REVOKE (R194): the holder of the shared port, a channel or (none) a firmware service, loses it; the
estimator writes its records again on the next tick (R264). -/
def execMramLeaseRevoke (c : Option (Fin 8)) (s : State) : Out :=
  .next <|
    if s.keeperRuns then
      match c with
      | some c => if (s.channel c).st = .running then (s.netBegin.revokeHost c 2).settleBlocks else s
      | none => { s.leaseRevoked 2 with est := s.est.retry }
    else s

/-- NET_EVICT (R335). -/
def execNetEvict (acc : Accessor) (slot : Nat) (s : State) : Out := .next (s.access acc fun s => s.writeEvict acc slot)

/-- NET_INSTALLER_PW (R341). -/
def execNetInstallerPw (acc : Accessor) (data : Bytes) (s : State) : Out :=
  .next (s.access acc fun s => s.writeInstallerPw acc data)

/-- TLM_EN_WRITE (R338). -/
def execTlmEnWrite (acc : Accessor) (m : Fin 8) (v : Nat) (s : State) : Out := .next (s.access acc fun s => s.writeTlmEn acc m v)

end Sys2Proof.Machine
end

