-- ==== Sys2Proof/Machine/View.lean ====
section
/-! DEFINITION. What reads of the dictionary return: an object that shows a state machine, a queue or a table is formed from
it at the read; every other object holds its own value; some reads have an effect (R349, R350, R354). -/

namespace Sys2Proof.Machine

/-- A field map: the first element at bit 0. -/
def bitsOf : List Bool → Nat
  | [] => 0
  | b :: bs => (if b then 1 else 0) + 2 * bitsOf bs

/-- The operation kinds of R407, R425 and R458. -/
def OpKind.code : OpKind → Nat
  | .none => 0 | .railVoltage => 1 | .groupUp => 2 | .groupDown => 3 | .sessionOpen => 4 | .sessionClose => 5 | .commit => 6
  | .cfgSave => 7 | .dma => 8 | .otp => 9 | .lifecycle => 10

namespace State

/-! ### Modes, phases, rails, AUX, groups (R54, R89, R118–R121, R168) -/

/-- An entry of `MODE_HISTORY` (R55); an entry that does not exist reads as zeros. -/
def historyBytes (s : State) (j : Nat) : Bytes :=
  match s.history[j]? with
  | some e => toLE 8 e.stamp ++ toLE 1 e.src.code ++ toLE 1 e.dst.code ++ toLE 2 e.reason.code ++ toLE 4 e.rtc
  | none => toLE 16 0

/-- `SUP_STATUS` (R200). -/
def supStatus (s : State) : Nat :=
  bitsOf [s.sup.quenchLatch, s.tiles.toList.any fun t => t.fenced, decide (s.modes.mode = .seal) && !s.modes.heldReset,
    s.snapIncomplete, s.bus.stuck, s.modes.holdup]

/-- The snapshot slots, the newest first, the empty ones last (R185). -/
def snapOrder (s : State) : List Nat :=
  let held := (List.range 8).filter fun k => (s.snapSeqOf k).isSome
  (held.mergeSort fun a b => decide ((s.snapSeqOf b).getD 0 ≤ (s.snapSeqOf a).getD 0)) ++
    (List.range 8).filter fun k => (s.snapSeqOf k).isNone

/-! ### Metering, the journal, the network (R295, R344) -/

/-- `MET_STATUS` (R295). -/
def metStatus (s : State) : Nat := bitsOf [s.samplingOn, s.met.clockFault, s.mclkOn 0, s.mclkOn 1, s.met.frozen]

/-- `JNL_STATUS` (R295). -/
def jnlStatus (s : State) : Nat :=
  bitsOf [!s.startRoom, decide (s.getN K.JNL_WARN_LEVEL ≤ s.jnlUsed), s.met.jnl.timeInvalid, decide (s.get K.JNL_EVENTS_LOST ≠ 0),
    s.met.jnl.signing.isSome, s.sec.key.isNone, s.met.jnl.recovered]

/-- What a session has moved: since its open instant, or in the last one (R292). -/
def sessionEnergy (s : State) (m : Fin 4) (isImport : Bool) : Nat :=
  let x := s.point m
  if x.sess = .opened || x.sess = .closing then (if isImport then x.imp - x.startImp else x.exp - x.startExp)
  else if isImport then x.lastImp else x.lastExp

/-- The roles that R341 can lock out. -/
def lockRoles : List Role := [.installer, .metrologist, .vendor]

/-- `NET_STATUS` (R344). -/
def netStatus (s : State) : Nat :=
  let port (q : Nat) : List Bool := match s.net.ports[q]? with
    | some p => [s.portUp q, p.errorPassive, p.busOff]
    | none => [false, false, false]
  bitsOf (port 0 ++ port 1 ++ [decide (s.partnerCount = 64), lockRoles.any s.lockedOut])

/-- `NET_AUTH_LOCK`: the longest remaining lockout in seconds (R341). -/
def authLock (s : State) : Nat :=
  (s.net.locks.toList.map fun l => match l.lockEnd with | some e => (e - s.now + 99999999) / 100000000 | none => 0).foldl max 0

/-- `NET_AUTH_FAILS`: failures in a row of the role that failed last. -/
def authFails (s : State) : Nat := match s.net.lastFail with | some k => min 65535 s.net.locks[k].fails | none => 0

/-- An entry of the partner table (R344). -/
def partnerBytes (s : State) (i : Fin 64) : Bytes :=
  match s.partner i with
  | none => toLE 32 0
  | some p =>
    let b := match p.block with | none => 0 | some b => if b.write then 2 else 1
    toLE 1 1 ++ toLE 1 p.port ++ toLE 1 p.node ++ toLE 1 p.version ++ toLE 1 p.role.code ++ toLE 1 b ++ toLE 2 p.period ++
      toLE 8 (ofLE p.identity) ++ toLE 8 p.joinedAt ++ toLE 8 p.heardAt

/-! ### Identity, configuration, ports (R370–R374, R394) -/

/-- The pairs of absent units (R3). -/
def absentPairs (s : State) : Nat :=
  (Dict.allObjs.map fun d => ((List.range d.units).map fun u =>
    ((List.range (d.subHi - d.subLo + 1)).filter fun j => s.absent ((d.index + d.stride * u) * 256 + d.subLo + j)).length).sum).sum

/-- A write of the pair starts a tagged operation (R372). -/
def tagged (d : ObjDef) : Bool :=
  let k := d.index * 256 + d.subLo
  [K.RAIL_VSET 0, K.GRP_CMD 0, K.MP_SESS_CMD 0, K.CFG_COMMIT, K.CFG_SAVE, K.DMA_START 0, K.OTP_DATA,
    K.OTP_REBURN, K.LC_ADVANCE].contains k

/-- `DESC` of the pair selected (R372). -/
def descBytes (s : State) (key : Nat) : Bytes :=
  match Dict.find key with
  | none => toLE 8 0
  | some d =>
    toLE 1 d.type.code ++ toLE 1 d.access.code ++ toLE 1 d.cls.code ++
      toLE 1 (bitsOf [!s.absent key, decide (d.protective ≠ .no), tagged d]) ++ toLE 2 d.size ++ toLE 1 (Dict.highestSub (key / 256)) ++
      [0#8]

/-- `CFG_STATUS` (R374). -/
def cfgStatus (s : State) : Nat :=
  bitsOf [s.cfg.owner.isSome, s.commitRunning, !s.cfg.bootPending.isEmpty, s.cfg.saving.isSome, decide (s.nextSlot = 2),
    decide (s.get K.CFG_ACTIVE_SLOT = 0xFF)]

/-- The image loaded at this BOOT (R366); nothing where none was. -/
def loadedImage (s : State) : Bytes := if s.get K.CFG_ACTIVE_SLOT = 0xFF then [] else (s.slotImage (s.getN K.CFG_ACTIVE_SLOT)).getD []

/-- `LP_STATUS` (R394). -/
def lpStatus (s : State) : Nat :=
  let box (q : Fin 2) : Mailbox := s.ports.port[q].box
  let holds (q : Fin 2) : Bool := (box q).channel.any fun c => decide (s.dma[c].st = .running)
  bitsOf [s.intLow, (box 0).busy, (box 1).busy, holds 0, holds 1, s.bus.clearing]

/-- `OP_ENTRY` of a tag (R404); an entry that no operation has used reads 0. -/
def opBytes (s : State) (t : Nat) : Bytes :=
  let e := s.op t
  if e.kind = .none then toLE 32 0
  else
    toLE 1 e.status.code ++ toLE 1 e.kind.code ++ toLE 1 e.issuer.code ++ toLE 1 e.abort.code ++ toLE 2 (e.key / 256) ++
      toLE 1 (e.key % 256) ++ toLE 1 e.result ++ toLE 8 e.acceptedAt ++ toLE 8 e.finalAt ++ toLE 2 e.abortCode ++
      toLE 1 (e.joined.getD 0xFF) ++ toLE 5 0

/-- The 16 causes of group `g` in a word of the tree (R396). -/
def groupWord (w : BitVec 512) (g : Nat) : Nat := w.toNat / 2 ^ (16 * g + 1) % 65536

/-- `INT_SUMMARY` (R413). -/
def intSummary (s : State) : Nat := bitsOf ((List.range 32).map fun g => decide (groupWord s.ints.pending g ≠ 0))

/-! ### Security (R469) -/

/-- `OTP_STATUS` (R469). -/
def otpStatus (s : State) : Nat :=
  bitsOf [s.otp.window, s.otp.burn.isSome || s.sec.transition.isSome, decide (1750 ≤ s.get K.OTP_VQPS) && decide (s.get K.OTP_VQPS ≤ 1850), s.sec.seedDue]

/-- `SEC_STATUS` (R469). -/
def secStatus (s : State) : Nat := bitsOf [s.sec.key.isSome, s.roleAvailable .metrologist, s.sec.halted, s.sec.testMode]

/-- A row as `OTP_DATA` reads it: voted, corrected, or 0 for the seed (R445). -/
def otpRead (s : State) (r : Nat) : Nat :=
  if 80 ≤ r && r < 84 then 0
  else if r < 6 then s.otpVote (r / 3 * 3)
  else (s.otpRow r).data

/-- Rows 8 and 9 as the identity objects show them: an uncorrectable row reads 0 (R452). -/
def identityRow (s : State) (r : Nat) : Nat := if s.otpClean r then (s.otpRow r).data else 0

/-- `GRP_WAIT` (R147, R151, R168): the first closed gate of a HELD group; while a step waits for its condition, PG of its rails first and
then its slaves. DEDUCED (log 159): a step whose rails wait for anything but PG shows 0. -/
def groupWait (s : State) (g : Fin 16) : GrpWait :=
  let x := s.group g
  match x.st, x.stage, x.cur with
  | .held, _, _ => s.closedGate g
  | .rising, .sent, some k =>
    let st := s.step k
    if st.wait = 0 && !(st.railList.all fun r => s.railMeets st r) then .qualify
    else if st.wait ≠ 2 && !(st.slaveList.all fun j => (s.slave j).done) then .legacy
    else .none
  | _, _, _ => x.wait

/-! ### The values shown -/

/-- The element at `u` of a finite range of `n`. -/
def unit (n : Nat) [NeZero n] (u : Nat) : Fin n := Fin.ofNat n u

/-- How an object's value is formed: from the machine, the reader, the unit and the element of its array. -/
abbrev Shown := State → Accessor → Nat → Nat → Int

/-- An entry of the table of shown values: the pair of unit 0 and element 0, and how its value is formed. -/
def show_ (key : Nat) (f : Shown) : Nat × Shown := (key, f)

/-- Chapters 02–08. -/
def shownPower : List (Nat × Shown) := [
  show_ K.MODE_CURRENT fun s _ _ _ => s.modes.mode.code,
  show_ K.MODE_FLAGS fun s _ _ _ => s.modeFlags,
  show_ K.MODE_HISTORY_COUNT fun s _ _ _ => s.history.length,
  show_ (K.MODE_HISTORY 0) fun s _ _ j => ofLE (s.historyBytes j),
  show_ (K.PH_TYPE 0) fun _ _ u _ => if isBus (unit 56 u) then 1 else 0,
  show_ (K.PH_STATE 0) fun s _ u _ => (s.phase (unit 56 u)).st.code,
  show_ (K.PH_RAIL 0) fun s _ u _ => match (s.phase (unit 56 u)).rail with | some r => r.val | none => 0xFF,
  show_ (K.PH_ROLE 0) fun s _ u _ => (s.phase (unit 56 u)).role.code,
  show_ (K.PH_SLOT 0) fun s _ u _ => (s.phase (unit 56 u)).slot,
  show_ (K.PH_ISO_REASON 0) fun s _ u _ => (s.phase (unit 56 u)).isoReason.code,
  show_ (K.PH_ISO_AT 0) fun s _ u _ => (s.phase (unit 56 u)).isoAt,
  show_ (K.PH_STATUS 0) fun s _ u _ => s.phStatus (unit 56 u),
  show_ (K.PH_TRIM 0) fun s _ u _ => (s.phase (unit 56 u)).trim,
  show_ (K.RAIL_STATE 0) fun s _ u _ => (s.rail (unit 32 u)).st.code,
  show_ (K.RAIL_TYPE 0) fun s _ u _ =>
    let x := s.rail (unit 32 u)
    if x.st = .unbuilt then 0xFF else if x.bus then 1 else 0,
  show_ (K.RAIL_MEMBERS_COUNT 0) fun s _ u _ => (s.memberList (unit 32 u)).length,
  show_ (K.RAIL_SPARES_COUNT 0) fun s _ u _ => (s.spareList (unit 32 u)).length,
  show_ (K.RAIL_ILIM 0) fun s _ u _ => s.railLimit (unit 32 u),
  show_ (K.RAIL_HEALTHY 0) fun s _ u _ => (s.healthyMembers (unit 32 u)).length,
  show_ (K.RAIL_ACTIVE 0) fun s _ u _ => (s.activeMembers (unit 32 u)).length,
  show_ (K.RAIL_STATUS 0) fun s _ u _ => s.railStatus (unit 32 u),
  show_ (K.AUX_STATE 0) fun s _ u _ => (s.aux (unit 4 u)).st.code,
  show_ (K.GRP_STATE 0) fun s _ u _ => (s.group (unit 16 u)).st.code,
  show_ (K.GRP_PENDING 0) fun s _ u _ => if (s.group (unit 16 u)).latched then 1 else 0,
  show_ (K.GRP_STEP 0) fun s _ u _ => (s.group (unit 16 u)).cur.getD 0xFF,
  show_ (K.GRP_WAIT 0) fun s _ u _ => (s.groupWait (unit 16 u)).code,
  show_ K.SEQ_STATUS fun s _ _ _ => s.seqStatus,
  show_ K.SUP_STATUS fun s _ _ _ => s.supStatus,
  show_ K.SUP_SNAP_VALID fun s _ _ _ => ((List.range 8).filter fun k => (s.snapSeqOf k).isSome).length,
  show_ (K.SUP_SNAP 0) fun s _ _ j => ofLE (s.readMram (snapAddr (s.snapOrder.getD j 0)) 4096),
  show_ (K.SIR_SENSOR_STATE 0 0) fun s _ u j => if u = 0 && j = 3 then 4 else s.cutValue (K.SIR_SENSOR_STATE u j),
  show_ K.SIR_STATUS fun s _ _ _ => s.sirStatus]

/-- Chapters 09–13. -/
def shownHub : List (Nat × Shown) := [
  show_ K.PP_STATE fun s _ _ _ => s.path.st.code,
  show_ K.PP_STATUS fun s _ _ _ => s.ppStatus,
  show_ K.PP_BAT_STATE fun s _ _ _ => s.batState.code,
  show_ K.CHG_STATE fun s _ _ _ => s.chg.st.code,
  show_ K.CHG_STATUS fun s _ _ _ => s.chgStatus,
  show_ K.EST_STATE fun s _ _ _ => s.estState,
  show_ K.EST_STATUS fun s _ _ _ => s.estStatus,
  show_ (K.EST_OCV 0) fun s _ _ j => s.ocvObject j,
  show_ (K.EST_IMP_ROW 0) fun s _ _ j => ofLE (s.impRowBytes j),
  show_ K.MET_STATUS fun s _ _ _ => s.metStatus,
  show_ K.MET_VERSION fun _ _ _ _ => Config.metVersion,
  show_ (K.MP_E_EXPORT 0) fun s _ u _ => (s.point (unit 4 u)).exp,
  show_ (K.MP_E_IMPORT 0) fun s _ u _ => (s.point (unit 4 u)).imp,
  show_ (K.MP_INPUT 0) fun s _ u _ => s.mpInput (unit 4 u),
  show_ (K.MP_SESS_STATE 0) fun s _ u _ => (s.point (unit 4 u)).sess.code,
  show_ (K.MP_SESS_START_SEQ 0) fun s _ u _ => (s.point (unit 4 u)).startSeq,
  show_ (K.MP_SESS_E_EXPORT 0) fun s _ u _ => s.sessionEnergy (unit 4 u) false,
  show_ (K.MP_SESS_E_IMPORT 0) fun s _ u _ => s.sessionEnergy (unit 4 u) true,
  show_ (K.MP_SESS_END_SEQ 0) fun s _ u _ => (s.point (unit 4 u)).endSeq,
  show_ K.JNL_STATUS fun s _ _ _ => s.jnlStatus,
  show_ K.JNL_NEXT_SEQ fun s _ _ _ => s.met.jnl.next,
  show_ K.JNL_ACK fun s _ _ _ => s.met.jnl.ack,
  show_ K.JNL_FREE fun s _ _ _ => s.jnlFree,
  show_ K.JNL_OLDEST_SEQ fun s _ _ _ => s.jnlOldest,
  show_ K.JNL_PUBKEY fun s _ _ _ => ofLE s.publicKey,
  show_ K.BEAM_UP fun s _ _ _ => s.beamUp,
  show_ K.TB_NOW fun s _ _ _ => s.now,
  show_ (K.BEAM_STATE 1) fun s _ u _ => (s.link (unit 8 (u + 1))).st.code,
  show_ (K.BEAM_TILE_STATUS 1) fun s _ u _ => s.beamTileStatus (unit 8 (u + 1)),
  show_ K.NET_STATUS fun s _ _ _ => s.netStatus,
  show_ K.NET_NODE_ID_USED fun s _ _ _ => s.nodeId,
  show_ K.NET_AUTH_FAILS fun s _ _ _ => s.authFails,
  show_ K.NET_AUTH_LOCK fun s _ _ _ => s.authLock,
  show_ K.NET_PARTNERS fun s _ _ _ => s.partnerCount,
  show_ (K.NET_PARTNER 0) fun s _ _ j => ofLE (s.partnerBytes (unit 64 j)),
  show_ K.NET_MY_EVENT_MASK fun s acc _ _ => match acc with
    | .partner i => match s.partner i with | some p => p.mask | none => 0
    | _ => 0]

/-- Chapters 14–19. -/
def shownKeeper : List (Nat × Shown) := [
  show_ K.ID_PART fun s _ _ _ => s.identityRow 9,
  show_ K.ID_SERIAL fun s _ _ _ => s.identityRow 8,
  show_ K.ID_FW_VERSION fun _ _ _ _ => Config.fwVersion,
  show_ K.ID_ROM_VERSION fun _ _ _ _ => Config.romVersion,
  show_ (K.ID_DIE_REV 0) fun s _ _ j => if s.tileFitted j then Config.dieRevision j else 0,
  show_ K.CAP_UNITS fun s _ _ _ => s.caps.units,
  show_ K.CAP_TILES fun s _ _ _ => s.caps.tiles,
  show_ K.CAP_PHASES fun s _ _ _ => s.caps.phases,
  show_ K.CAP_MP fun s _ _ _ => s.caps.mp,
  show_ K.CAP_DICT_PRESENT fun s _ _ _ => s.get K.CAP_DICT_ENTRIES - s.absentPairs,
  show_ K.DESC_SELECT fun s acc _ _ => s.ports.descSel[holderPlace (holderOf acc)],
  show_ K.DESC fun s acc _ _ => ofLE (s.descBytes s.ports.descSel[holderPlace (holderOf acc)]),
  show_ K.CFG_STATUS fun s _ _ _ => s.cfgStatus,
  show_ K.CFG_STAGED_COUNT fun s _ _ _ => s.cfg.staged.length,
  show_ K.CFG_STAGE_OWNER fun s _ _ _ => match s.cfg.owner with | some o => o.code | none => 0,
  show_ K.CFG_BOOT_PENDING fun s _ _ _ => s.cfg.bootPending.length,
  show_ K.CFG_NEXT_SLOT fun s _ _ _ => s.nextSlot,
  show_ K.LP_STATUS fun s _ _ _ => s.lpStatus,
  show_ K.LP_TW_ADDR fun _ _ _ _ => ((0x30 + Config.addrPins % 8 : Nat) : Int),
  show_ K.OP_FREE fun s _ _ _ => s.freeTags,
  show_ (K.OP_ENTRY 0) fun s _ _ j => ofLE (s.opBytes j),
  show_ K.INT_SUMMARY fun s _ _ _ => s.intSummary,
  show_ (K.INT_PENDING 0) fun s _ _ j => groupWord s.ints.pending j,
  show_ (K.INT_INSERVICE 0) fun s _ _ j => groupWord s.ints.inService j,
  show_ (K.MRAM_PART_BASE 0) fun _ _ _ j => match partitions[j]? with | some p => p.base | none => 0,
  show_ (K.MRAM_PART_SIZE 0) fun _ _ _ j => match partitions[j]? with | some p => p.size | none => 0,
  show_ (K.MRAM_PART_FLAGS 0) fun s acc _ j => s.partFlags (holderOf acc) j,
  show_ K.MRAM_RAW_PART fun s acc _ _ => (s.rawPos (holderOf acc)).1,
  show_ K.MRAM_RAW_OFFSET fun s acc _ _ => (s.rawPos (holderOf acc)).2,
  show_ K.MRAM_PW_LOCK_LEFT fun s _ _ _ => s.lockLeft,
  show_ (K.DMA_CH_STATE 0) fun s _ u _ => (s.channel (unit 8 u)).st.code,
  show_ K.MIR_STATE fun s _ _ _ => s.mir.st.code,
  show_ K.MIR_FRAME_SIZE fun s _ _ _ => s.mirFrameSize,
  show_ K.MIR_CAPACITY fun s _ _ _ => s.mirCapacity,
  show_ K.OTP_STATUS fun s _ _ _ => s.otpStatus,
  show_ K.OTP_ROW fun s acc _ _ => s.otp.rowSel[holderPlace (holderOf acc)],
  show_ K.OTP_DATA fun s acc _ _ => s.otpRead s.otp.rowSel[holderPlace (holderOf acc)],
  show_ K.OTP_ROW_STATE fun s acc _ _ => s.otpRowState s.otp.rowSel[holderPlace (holderOf acc)],
  show_ K.OTP_SPARES_FREE fun s _ _ _ => 16 - s.otp.spares.length,
  show_ K.SEC_STATUS fun s _ _ _ => s.secStatus,
  show_ K.LC_STATE fun s _ _ _ => s.sec.lifecycle.code,
  show_ K.DBG_LEVEL fun s _ _ _ => s.sec.level.code,
  show_ K.SEC_VENDOR_KEY fun _ _ _ _ => ofLE ((List.range 64).map Config.vendorKey),
  show_ K.SEC_METRO_KEY fun s _ _ _ => ofLE (s.otpBytes 72 8),
  show_ K.RTC_STATUS fun s _ _ _ => s.rtcStatus,
  show_ K.RTC_VALID fun s _ _ _ => if s.oasis.valid then 1 else 0,
  show_ K.RTC_NOW fun s _ _ _ => s.rtcNow,
  show_ K.RTC_SECONDS fun s _ _ _ => s.oasis.seconds,
  show_ K.CAL_NOW fun s _ _ _ => calendarOf s.oasis.seconds,
  show_ K.OASIS_SUPPLY fun s _ _ _ => s.oasisSupplyCode]

/-- The value that a read of a pair shows (R350). -/
def shown (s : State) (acc : Accessor) (d : ObjDef) (key : Nat) : Int :=
  match (shownPower ++ shownHub ++ shownKeeper).find? fun x => decide (x.1 = d.index * 256 + d.subLo) with
  | some x => x.2 s acc (Dict.unitOf d (key / 256)) (key % 256 - d.subLo)
  | none => s.cutValue key

/-! ### Reads -/

/-- A DOMAIN or VIS whose length varies: the text or bytes as they stand. -/
def varying (s : State) (key : Nat) : Option Bytes :=
  if key = K.MIR_DATA then some (s.mir.frames.flatten.take (s.getN K.MIR_FRAMES * s.mir.size))
  else if key = K.CFG_IMAGE_READ then some s.loadedImage
  else none

/-- A read of a plain object (R349, R350, R354). -/
def plainRead (s : State) (acc : Accessor) (key : Nat) : Res :=
  match s.reach acc key with
  | .error e => .error e
  | .ok d =>
    if d.access = .wo then .error .typeMismatch
    else if !s.debugAllows acc false key then .error .debugForbids
    else if key = K.MIR_DATA && s.mirBusy then .error .busy
    else .ok (s, .data ((s.varying key).getD (d.bytes (s.shown acc d key))))

/-- A read of `NET_EVENTS_DROPPED` re-arms EVENTS_DROPPED (R336). -/
def readDropped (s : State) (acc : Accessor) : Res :=
  match s.plainRead acc K.NET_EVENTS_DROPPED with
  | .error e => .error e
  | .ok (s, a) => .ok (s.modNet fun n => { n with dropArmed := true }, a)

/-- A read of `MP_OVERRANGE_COUNT` re-arms OVERRANGE while no session is open (R272). -/
def readOverrange (s : State) (acc : Accessor) (m : Fin 4) : Res :=
  match s.plainRead acc (K.MP_OVERRANGE_COUNT m) with
  | .error e => .error e
  | .ok (s, a) => .ok (s.modPoint m fun x => { x with overArmed := true }, a)

/-- The reads that change the machine, by the pair of unit 0. -/
def readers : List (Nat × (State → Accessor → Nat → Res)) := [
  (K.NET_EVENTS_DROPPED, fun (s : State) acc _ => s.readDropped acc),
  (K.MP_OVERRANGE_COUNT 0, fun (s : State) acc u => s.readOverrange acc (unit 4 u)),
  (K.PH_I_PEAK 0, fun (s : State) acc u => s.readPeak acc (unit 56 u)),
  (K.BEAM_TIME_OFFSET_MAX 1, fun (s : State) acc u => s.readOffsetMax acc (unit 8 (u + 1))),
  (K.JNL_READ_REC, fun (s : State) acc _ => s.readJnlRec acc),
  (K.JNL_READ_BLOCK, fun (s : State) acc _ => s.readJnlBlock acc),
  (K.MRAM_RAW_DATA, fun (s : State) acc _ => s.readRaw acc [] []),
  (K.DBG_CHALLENGE, fun (s : State) acc _ => s.readChallenge acc),
  (K.LC_RETURN_NONCE, fun (s : State) acc _ => s.readReturnNonce acc)]

/-- A read of any object by any accessor (R349, R350). -/
def readObject (s : State) (acc : Accessor) (key : Nat) : Res :=
  match Dict.find key with
  | none => s.plainRead acc key
  | some d =>
    match readers.find? fun x => decide (x.1 = d.index * 256 + d.subLo) with
    | some x => if s.debugAllows acc false key then x.2 s acc (Dict.unitOf d (key / 256)) else s.plainRead acc key
    | none => s.plainRead acc key

end State

/-- NET_EVENTS_DROPPED_READ (R336). -/
def execNetEventsDroppedRead (acc : Accessor) (s : State) : Out := .next (s.access acc fun s => s.readDropped acc)

end Sys2Proof.Machine
end

