-- ==== Sys2Proof/Machine/Objects.lean ====
section
/-! DEFINITION. Writes of the dictionary: every writable pair's own rule, and the rule of its class (R349–R352, R357, R358). -/

namespace Sys2Proof.Machine

/-- The bits that an event object and its enable object implement (R396, R397); the others read 0 and ignore writes. -/
def EventObj.mask (e : EventObj) : Nat :=
  if !e.perUnit then
    ((List.range 16).map fun k => match Ev.ofSource (e.base + k) with
      | some (x, _) => if x.base = e.base then 2 ^ k else 0
      | none => 0).sum
  else if e.base < 97 then 0x7FF
  else if e.base < 101 then 0x1F
  else if e.base < 193 then 0x7FF
  else if e.base < 293 then 0xFF
  else if e.base = 293 then 0x3
  else if e.base = 353 then 0x7F
  else if e.base < 377 then 0x1F
  else 0xF

namespace State

/-! ### LIVE objects without a rule of their own -/

/-- A LIVE value is taken at once (R351). -/
def liveValue (s : State) (d : ObjDef) (key : Nat) (v : Int) : Res :=
  if s.valueOk d key v then .ok (s.put key v, .done) else .error .outOfRange

/-- A write of an event object clears its 1 bits (R398). -/
def clearEvents (s : State) (e : EventObj) (v : Nat) : State :=
  let was := s.intLow
  ((s.clearBits e.key v).refreshSources e (s.getN (e.key + 1))).noteRelease was

/-- The sources that an enable word change raises: those with a bit newly enabled that is 1 (R398). -/
def newlyRaised (s : State) (e : EventObj) (before : Nat) : List Nat :=
  let bits := s.getN e.key &&& s.getN (e.key + 1) &&& (0xFFFF ^^^ before)
  if e.perUnit then (if bits = 0 then [] else [e.base])
  else ((List.range 16).filter fun k => bits.testBit k).map fun k => e.base + k

/-- A write of an enable object: a bit that becomes 1 while its event bit is 1 raises the cause, and partners hear of it
(R336, R398). -/
def setEnable (s : State) (e : EventObj) (v : Nat) : State :=
  let was := s.intLow
  let before := s.getN (e.key + 1)
  let s := (s.put (e.key + 1) (v &&& e.mask : Nat)).refreshSources e before
  let s := (s.newlyRaised e before).foldl (fun (s : State) (n : Nat) =>
    let (s, drops) := s.queueEvents n (s.getN e.key)
    s.countDrops drops) s
  s.noteRelease was

/-! ### LIVE objects whose range or effect has a rule -/

/-- `PH_SHED_LO` and `PH_SHED_HI` keep their order (R87, R89). -/
def writeShed (s : State) (p : Fin 56) (isHi : Bool) (v : Int) : Res :=
  if s.shedBoundsOk p (if isHi then none else some v) (if isHi then some v else none) then
    .ok (s.put (if isHi then K.PH_SHED_HI p else K.PH_SHED_LO p) v, .done)
  else .error .stagedConflict

/-- `RAIL_ILIM_SET` (R108, R118, R364). -/
def writeIlimSet (s : State) (r : Fin 32) (v : Int) : Res :=
  if v ≠ 0 && (v < 100 || s.limitMax r < v) then .error .outOfRange
  else if s.commitStages (s.limitKeys r) then .error .busy
  else .ok ((s.put (K.RAIL_ILIM_SET r) v).refreshLimiting r, .done)

/-- `LEDGER_CAP_FLOOR` (R141, R364). -/
def writeCapFloor (s : State) (r : Fin 32) (v : Int) : Res :=
  if v < 0 || s.limitMax r < v then .error .outOfRange
  else if s.commitStages (s.limitKeys r) then .error .busy
  else .ok (s.put (K.LEDGER_CAP_FLOOR r) v, .done)

/-- `CHG_IPRE` (R248): 50 mA to the lower of 2,000 mA and `CHG_ICHG`. -/
def writeIpre (s : State) (v : Int) : Res :=
  if 50 ≤ v && v ≤ min 2000 (s.get K.CHG_ICHG) then .ok (s.put K.CHG_IPRE v, .done) else .error .outOfRange

/-- `INT_PRIO` (R413): groups 28–31 take only 0. -/
def writePrio (s : State) (g : Nat) (v : Int) : Res :=
  if v < 0 || 7 < v || (28 ≤ g && v ≠ 0) then .error .outOfRange
  else .ok ((s.put (K.INT_PRIO g) v).noteRelease s.intLow, .done)

/-- `INT_THRESHOLD` (R399, R413). -/
def writeThreshold (s : State) (v : Int) : Res :=
  if v < 0 || 7 < v then .error .outOfRange else .ok ((s.put K.INT_THRESHOLD v).noteRelease s.intLow, .done)

/-- `LP_WIN_MAP` (R381). -/
def writeWinMap (s : State) (j v : Nat) : Res :=
  match s.winFault v with
  | some e => .error e
  | none => .ok (s.put (K.LP_WIN_MAP j) v, .done)

/-- `DESC_SELECT` (R370): one value for each holder. -/
def writeDescSelect (s : State) (acc : Accessor) (v : Nat) : Res :=
  .ok ({ s with ports := { s.ports with descSel := s.ports.descSel.set (holderPlace (holderOf acc)) v } }, .done)

/-- `OTP_ROW` (R448): one value for each holder. -/
def writeOtpRow (s : State) (acc : Accessor) (v : Nat) : Res :=
  if v ≤ 1023 then .ok (s.modOtp fun o => { o with rowSel := o.rowSel.set (holderPlace (holderOf acc)) v }, .done)
  else .error .outOfRange

/-- `LC_RETURN_TOKEN` (R461). -/
def writeReturnToken (s : State) (data : Bytes) : Res := .ok (s.modSec fun x => { x with returnToken := data }, .done)

/-- A map object of telemetry other than `TLM_EN` (R338). -/
def writeTlm (s : State) (d : ObjDef) (m : Nat) (key : Nat) (v : Int) : Res :=
  if !s.valueOk d key v then .error .outOfRange
  else if s.flag (K.TLM_EN m) then .error .busy
  else .ok (s.put key v, .done)

/-- A setting of Mirage (R434). -/
def writeMirSetting (s : State) (d : ObjDef) (key : Nat) (v : Int) : Res :=
  if !s.valueOk d key v then .error .outOfRange
  else if s.mirBusy then .error .busy
  else .ok (s.put key v, .done)

/-! ### The table of writers -/

/-- What a write of a pair does once it has passed the checks of R354 up to the role: the machine, the writer, the unit, the
element of its array, the row, the pair and the bytes. -/
abbrev Writer := State → Accessor → Nat → Nat → ObjDef → Nat → Bytes → Res

/-- A presented password (R419). -/
def presentRes (s : State) (acc : Accessor) (bs : Bytes) : Res :=
  match s.presentPw acc bs with
  | .ok (t, none) => .ok (t, .done)
  | .ok (t, some e) => .ok (t, .abort e)
  | .error e => .error e

/-- An entry of the table of writers: the pair of unit 0 and element 0, and what a write of it does. -/
def write_ (key : Nat) (f : Writer) : Nat × Writer := (key, f)

/-- Chapters 02–08. -/
def writersPower : List (Nat × Writer) := [
  write_ K.MODE_REQUEST fun s acc _ _ _ _ bs => s.writeModeRequest acc (ofLE bs) 0 false,
  write_ K.WAKE_ENABLE fun s _ _ _ _ _ bs => .ok (s.writeWakeEnable (ofLE bs), .done),
  write_ (K.PH_CLEAR_ISO 0) fun s acc u _ _ _ bs => s.writePhClearIso acc (unit 56 u) (ofLE bs),
  write_ (K.PH_ISOLATE 0) fun s acc u _ _ _ bs => s.writePhIsolate acc (unit 56 u) (ofLE bs),
  write_ (K.PH_SHED_LO 0) fun s _ u _ d _ bs => s.writeShed (unit 56 u) false (d.value bs),
  write_ (K.PH_SHED_HI 0) fun s _ u _ d _ bs => s.writeShed (unit 56 u) true (d.value bs),
  write_ (K.RAIL_VSET 0) fun s acc u _ _ _ bs => s.writeRailVset acc (unit 32 u) (ofLE bs),
  write_ (K.RAIL_ILIM_SET 0) fun s _ u _ d _ bs => s.writeIlimSet (unit 32 u) (d.value bs),
  write_ (K.RAIL_CTRL 0) fun s acc u _ _ _ bs => s.writeRailCtrl acc (unit 32 u) (ofLE bs),
  write_ (K.AUX_VSET 0) fun s acc u _ _ _ bs => s.writeAuxVset acc (unit 4 u) (ofLE bs),
  write_ (K.AUX_EN 0) fun s acc u _ _ _ bs => s.writeAuxEn acc (unit 4 u) (ofLE bs),
  write_ (K.LEDGER_CAP_FLOOR 0) fun s _ _ j d _ bs => s.writeCapFloor (unit 32 j) (d.value bs),
  write_ K.LEDGER_E_CLEAR fun s acc _ _ _ _ bs => s.writeEClear acc (ofLE bs),
  write_ (K.GRP_CMD 0) fun s acc u _ _ _ bs => s.writeGrpCmd acc (unit 16 u) (ofLE bs),
  write_ K.SEQ_CHATTER_CLEAR fun s acc _ _ _ _ bs => s.writeChatterClear acc (ofLE bs),
  write_ K.SUP_QUENCH fun s acc _ _ _ _ bs => s.writeSupQuench acc (ofLE bs),
  write_ K.SUP_SNAP_TAKE fun s acc _ _ _ _ bs => s.writeSnapTake acc (ofLE bs),
  write_ K.SUP_SNAP_CLEAR fun s acc _ _ _ _ bs => s.writeSnapClear acc (ofLE bs),
  write_ K.SIR_SENSOR_RESET fun s acc _ _ _ _ bs => s.writeSensorReset acc (ofLE bs),
  write_ K.SIR_EVENT_TILES fun s _ _ _ _ key bs => .ok (s.clearBits key (ofLE bs), .done)]

/-- Chapters 09–13. -/
def writersHub : List (Nat × Writer) := [
  write_ K.CHG_EN fun s acc _ _ _ _ bs => s.writeChgEn acc (ofLE bs),
  write_ K.CHG_START fun s acc _ _ _ _ bs => s.writeChgStart acc (ofLE bs),
  write_ K.CHG_IPRE fun s _ _ _ d _ bs => s.writeIpre (d.value bs),
  write_ K.CHG_WD_KICK fun s acc _ _ _ _ bs => s.writeWdKick acc (ofLE bs),
  write_ K.EST_FREST_ABORT fun s acc _ _ _ _ bs => s.writeRestAbort acc (ofLE bs),
  write_ (K.EST_IMP_ROW 0) fun s acc _ j _ _ bs => s.writeImpRow acc (unit 12 j) bs,
  write_ K.EST_LEARN_RESET fun s acc _ _ _ _ bs => s.writeLearnReset acc (ofLE bs),
  write_ K.MET_E_CLEAR fun s acc _ _ _ _ bs => s.writeMetEClear acc (ofLE bs),
  write_ (K.MP_SESS_CMD 0) fun s acc u _ _ _ bs => s.writeSessCmd acc (unit 4 u) (ofLE bs),
  write_ K.JNL_WARN_LEVEL fun s acc _ _ _ _ bs => s.writeWarnLevel acc bs,
  write_ K.JNL_ACK fun s acc _ _ _ _ bs => s.writeJnlAck acc (ofLE bs),
  write_ K.JNL_INIT fun s acc _ _ _ _ bs => s.writeJnlInit acc (ofLE bs),
  write_ K.HAB_ARM fun s acc _ _ _ _ bs => s.writeHabArm acc (ofLE bs),
  write_ K.NET_INSTALLER_PW fun s acc _ _ _ _ bs => s.writeInstallerPw acc bs,
  write_ K.NET_AUTH_TOKEN fun s acc _ _ _ _ bs => s.writeToken acc bs,
  write_ K.NET_EVICT fun s acc _ _ _ _ bs => s.writeEvict acc (ofLE bs),
  write_ K.NET_MY_EVENT_MASK fun s acc _ _ _ _ bs => s.writeMask acc (ofLE bs),
  write_ (K.TLM_EN 0) fun s acc u _ _ _ bs => s.writeTlmEn acc (unit 8 u) (ofLE bs),
  write_ (K.TLM_PERIOD 0) fun s _ u _ d key bs => s.writeTlm d u key (d.value bs),
  write_ (K.TLM_DEST 0) fun s _ u _ d key bs => s.writeTlm d u key (d.value bs),
  write_ (K.TLM_PORT 0) fun s _ u _ d key bs => s.writeTlm d u key (d.value bs),
  write_ (K.TLM_COUNT 0) fun s _ u _ d key bs => s.writeTlm d u key (d.value bs),
  write_ (K.TLM_ENTRY 0 0) fun s _ u _ d key bs => s.writeTlm d u key (d.value bs)]

/-- Chapters 14–19. -/
def writersKeeper : List (Nat × Writer) := [
  write_ K.DESC_SELECT fun s acc _ _ _ _ bs => s.writeDescSelect acc (ofLE bs),
  write_ K.CFG_COMMIT fun s acc _ _ _ _ bs => s.writeCommit acc (ofLE bs),
  write_ K.CFG_SAVE fun s acc _ _ _ _ bs => s.writeSave acc (ofLE bs),
  write_ K.CFG_ERASE fun s acc _ _ _ _ bs => s.writeErase acc (ofLE bs),
  write_ K.CFG_IMAGE_WRITE fun s acc _ _ _ _ bs => s.writeImage acc bs,
  write_ (K.LP_WIN_MAP 0) fun s _ _ j _ _ bs => s.writeWinMap j (ofLE bs),
  write_ K.OP_ABORT fun s acc _ _ _ _ bs => s.writeAbort acc (ofLE bs),
  write_ K.OP_DONE_MAP_LO fun s _ _ _ _ key bs => .ok (s.clearDone key (ofLE bs), .done),
  write_ K.OP_DONE_MAP_HI fun s _ _ _ _ key bs => .ok (s.clearDone key (ofLE bs), .done),
  write_ (K.INT_PRIO 0) fun s _ _ j d _ bs => s.writePrio j (d.value bs),
  write_ K.INT_THRESHOLD fun s _ _ _ d _ bs => s.writeThreshold (d.value bs),
  write_ K.MRAM_RAW_PART fun s acc _ _ _ _ bs => s.writeRawPos acc false (ofLE bs),
  write_ K.MRAM_RAW_OFFSET fun s acc _ _ _ _ bs => s.writeRawPos acc true (ofLE bs),
  write_ K.MRAM_RAW_DATA fun s acc _ _ _ _ bs => s.writeRaw acc bs,
  write_ K.MRAM_PW_PRESENT fun s acc _ _ _ _ bs => s.presentRes acc bs,
  write_ K.MRAM_PW_SET fun s acc _ _ _ _ bs => s.setPw acc bs,
  write_ K.MRAM_PW_LOCK fun s acc _ _ _ _ bs => s.lockPw acc (ofLE bs),
  write_ K.MRAM_PW_RESET fun s acc _ _ _ _ bs => s.writePwReset acc (ofLE bs),
  write_ (K.DMA_DESC 0) fun s acc u _ _ _ bs => s.writeDmaDesc acc (unit 8 u) bs,
  write_ (K.DMA_START 0) fun s acc u _ _ _ bs => s.writeDmaStart acc (unit 8 u) (ofLE bs),
  write_ (K.MIR_STREAM 0) fun s _ _ _ d key bs => s.writeMirSetting d key (d.value bs),
  write_ K.MIR_DECIM fun s _ _ _ d key bs => s.writeMirSetting d key (d.value bs),
  write_ K.MIR_PRE fun s _ _ _ d key bs => s.writeMirSetting d key (d.value bs),
  write_ K.MIR_POST fun s _ _ _ d key bs => s.writeMirSetting d key (d.value bs),
  write_ K.MIR_TRIG_KIND fun s _ _ _ d key bs => s.writeMirSetting d key (d.value bs),
  write_ K.MIR_TRIG_ARG fun s _ _ _ d key bs => s.writeMirSetting d key (d.value bs),
  write_ K.MIR_TRIG_LEVEL fun s _ _ _ d key bs => s.writeMirSetting d key (d.value bs),
  write_ K.MIR_ARM fun s acc _ _ _ _ bs => s.writeMirArm acc (ofLE bs),
  write_ K.OTP_ROW fun s acc _ _ _ _ bs => s.writeOtpRow acc (ofLE bs),
  write_ K.OTP_DATA fun s acc _ _ _ _ bs => s.writeOtpData acc (ofLE bs),
  write_ K.OTP_WINDOW fun s acc _ _ _ _ bs => s.writeOtpWindow acc (ofLE bs),
  write_ K.OTP_REBURN fun s acc _ _ _ _ bs => s.writeOtpReburn acc (ofLE bs),
  write_ K.LC_ADVANCE fun s acc _ _ _ _ bs => .ok (s.writeAdvance acc (ofLE bs)),
  write_ K.LC_RETURN_TOKEN fun s _ _ _ _ _ bs => s.writeReturnToken bs,
  write_ K.DBG_LEVEL_REQ fun s acc _ _ _ _ bs => .ok (s.writeLevelReq acc (ofLE bs)),
  write_ K.DBG_PROOF fun s acc _ _ _ _ bs => s.writeProof acc bs,
  write_ K.DBG_HALT fun s acc _ _ _ _ bs => s.writeHalt acc (ofLE bs),
  write_ K.RTC_SET_SECONDS fun s acc _ _ _ _ bs => s.writeRtcSet acc (ofLE bs),
  write_ K.RTC_ADJUST fun s acc _ _ d _ bs => s.writeRtcAdjust acc (d.value bs),
  write_ K.CAL_SET fun s acc _ _ _ _ bs => s.writeCalSet acc (ofLE bs),
  write_ K.RTC_ALARM fun s acc _ _ _ _ bs => s.writeRtcAlarm acc (ofLE bs),
  write_ K.TAMPER_CFG fun s _ _ _ _ key bs => .ok (s.put key ((ofLE bs % 32 : Nat) : Int), .done),
  write_ K.TAMPER_CLEAR fun s acc _ _ _ _ bs => s.writeTamperClear acc (ofLE bs)]

/-- Objects whose own chapter orders the checks (R315, R341, R369, R459, R463, R478). -/
def ownChecks (key : Nat) : Bool :=
  [K.NET_INSTALLER_PW, K.DBG_PROOF, K.DBG_LEVEL_REQ, K.LC_ADVANCE, K.RTC_SET_SECONDS, K.RTC_ADJUST, K.CAL_SET, K.CFG_IMAGE_WRITE].contains key ||
    decide (key / 256 = K.HAB_ARM / 256) || decide (key / 256 = K.HAB_TARGET / 256)

/-- Objects whose writers check the role themselves, after what R354 puts before it (R418, R419, R425, R429). -/
def ownRole (key : Nat) : Bool :=
  [K.MRAM_RAW_DATA, K.MRAM_PW_SET].contains key || (List.range 8).any fun c => key = K.DMA_DESC c || key = K.DMA_START c

/-- What a write does that has passed the checks up to the role: by its class, and a LIVE write by its own rule, the rule of
event and enable objects, or the plain one (R351). One of an absent unit's event or enable object has no effect (R4). -/
def applyWrite (s : State) (acc : Accessor) (d : ObjDef) (key : Nat) (bs : Bytes) : Res :=
  let v := d.value bs
  if s.absent key then .ok (s, .done)
  else match d.cls with
  | .sealed => s.writeSealed acc key bs
  | .staged => s.stageValue acc d key v
  | .boot => s.pendValue d key v
  | _ =>
    match (writersPower ++ writersHub ++ writersKeeper).find? fun x => decide (x.1 = d.index * 256 + d.subLo) with
    | some x => x.2 s acc (Dict.unitOf d (key / 256)) (key % 256 - d.subLo) d key bs
    | none =>
      match d.kind with
      | .event _ _ => match evOfKey key with
        | some e => .ok (s.clearEvents e v.toNat, .done)
        | none => .error .noSuchObject
      | .enable => match evOfKey (key - 1) with
        | some e => .ok (s.setEnable e v.toNat, .done)
        | none => .error .noSuchObject
      | _ => if key / 256 = K.HAB_TARGET / 256 then s.writeHabSetting acc key bs else s.liveValue d key v

/-- A write of any object by any accessor (R349–R354). -/
def writeObject (s : State) (acc : Accessor) (key : Nat) (bs : Bytes) : Res :=
  match s.reachAs true acc key with
  | .error e => .error e
  | .ok d =>
    let r : Res :=
      if ownChecks key && (d.sizeOk bs.length || key = K.NET_INSTALLER_PW) then s.applyWrite acc d key bs
      else match s.reachWrite acc key bs.length with
        | .error e => .error e
        | .ok d => if d.cls ≠ .sealed && !ownRole key && !s.roleOk acc d then .error .roleDenied else s.applyWrite acc d key bs
    match r with
    | .ok (t, a) => .ok (if 0x4100 ≤ key / 256 && key / 256 < 0x4200 &&
      (match a with | .abort _ => false | _ => true) then t.hostContact else t, a)
    | .error e => .error e

/-- The role and the mode of a write of `n` bytes in parts, checked before its data comes (R332, R384): the mode is the one that a write of
zeros meets. -/
def writeBarred (s : State) (acc : Accessor) (d : ObjDef) (key n : Nat) : Option Abort :=
  match (if d.cls = .sealed then s.sealedRole acc else if s.roleOk acc d then none else some .roleDenied) with
  | some e => some e
  | none => match s.writeObject acc key (List.replicate n 0#8) with
    | .error .modeForbids => some .modeForbids
    | _ => none

end State

/-- OBJECT_WRITE (R351): a write of any object. -/
def execObjectWrite (acc : Accessor) (key : Nat) (data : Bytes) (s : State) : Out :=
  .next (s.access acc fun s => s.writeObject acc key data)

/-- STAGED_WRITE (R358). -/
def execStagedWrite (acc : Accessor) (key : Nat) (data : Bytes) (s : State) : Out :=
  .next (s.access acc fun s => s.writeObject acc key data)

/-- BOOT_CLASS_WRITE (R357). -/
def execBootClassWrite (acc : Accessor) (key : Nat) (data : Bytes) (s : State) : Out :=
  .next (s.access acc fun s => s.writeObject acc key data)

end Sys2Proof.Machine
end

