-- ==== Sys2Proof/Machine/Ports.lean ====
section
/-! DEFINITION. The local ports: frames and their checks, the window, claims and completions, the mailboxes and segmented
transfers (R375–R390, R398–R402, R410). Port 0 is SPI and port 1 the two-wire target. -/

namespace Sys2Proof.Machine

/-- The CRC-8 of R377: polynomial 0x2F, initial value 0xFF. -/
def crc8 (bs : Bytes) : Byte := crc8Of 0x2F 0xFF bs

/-- What the host's bytes of a frame say (R376–R379, R387): a frame error, a failed CRC, or one of the frames. -/
inductive PortFrame
  | badForm
  | badCrc
  | winRead (r : Nat)
  | winWrite (r v : Nat)
  | read (key offset len : Nat)
  | write (op : Nat) (key offset : Nat) (data : Bytes)
  | response
  deriving DecidableEq, Repr

/-- The frame that the host's bytes are, the write part on the two-wire bus; `want` is the L of the port's last request, and `cut` says that
a byte was cut short. DEDUCED (log 157): a CRC is looked for only in a frame of the length of R376. -/
def hostFrame (q : Fin 2) (want : Nat) (bs : Bytes) (cut : Bool) : PortFrame :=
  let field (k n : Nat) : Nat := ofLE ((bs.drop k).take n)
  let whole (n at_ : Nat) (f : PortFrame) : PortFrame :=
    if cut || bs.length ≠ n then .badForm else if bs.getD at_ 0#8 = crc8 (bs.take at_) then f else .badCrc
  let cmd := field 0 1
  let len := field 9 2
  let key := field 2 2 * 256 + field 4 1
  if bs.isEmpty then .badForm
  else if cmd < 0x40 then whole (if q = 0 then 7 else 2) 1 (.winRead cmd)
  else if cmd < 0x80 then whole 6 5 (if cmd = 0x46 || cmd = 0x47 then .winWrite (cmd - 0x40) (field 1 4) else .badForm)
  else if cmd = 0x81 then whole (if q = 0 then 9 + want else 2) 1 .response
  else if cmd ≠ 0x80 || 256 < len then .badForm
  else match field 1 1 with
    | 0 => whole 12 11 (.read key (field 5 4) len)
    | 1 | 2 | 3 => whole (12 + len) (11 + len) (.write (field 1 1) key (field 5 4) ((bs.drop 11).take len))
    | _ => .badForm

/-- How many bytes the read part of a frame has on the two-wire bus (R387). -/
def PortFrame.readPart (want : Nat) : PortFrame → Nat
  | .winRead _ => 7
  | .response => 9 + want
  | _ => 0

/-- What a two-wire read part of `reads` bytes returns of the device's bytes: bytes beyond the frame are 0xFF (R387). -/
def twRead (reads : Nat) : Answer → Answer
  | .data bs => .data ((bs ++ List.replicate reads 0xFF#8).take reads)
  | .done => if reads = 0 then .done else .data (List.replicate reads 0xFF#8)
  | a => a

/-- The accessor behind a port. -/
def portAcc (q : Fin 2) : Accessor := if q = 0 then .spi else .tw

namespace State

/-- The port. -/
def port (s : State) (q : Fin 2) : LocalPort := s.ports.port[q]

/-- Change a port. -/
def modPort (s : State) (q : Fin 2) (f : LocalPort → LocalPort) : State :=
  { s with ports := { s.ports with port := s.ports.port.set q (f s.ports.port[q]) } }

/-- Change a mailbox. -/
def modBox (s : State) (q : Fin 2) (f : Mailbox → Mailbox) : State := s.modPort q fun p => { p with box := f p.box }

/-- STAT (R379). -/
def stat (s : State) (q : Fin 2) : Nat :=
  let p := s.port q
  bitsOf [s.portsOpen, s.intLow, p.crcErr, p.frameErr, p.box.busy, p.box.ready, true]

/-- The target answers at its address (R386); SPI always does. -/
def targetOn (s : State) (q : Fin 2) : Bool := q = 0 || s.flag K.LP_TW_EN

/-- The target is in a transaction at one of its addresses: its own, or the legacy one in slave mode (R386). -/
def anyTarget (s : State) : Bool := s.portsOpen && (s.targetOn 1 || decide (s.get K.SEQ_LEGACY_MODE = 2))

/-! ### Frames (R378, R379, R387) -/

/-- A valid frame takes effect: it is counted, and the error bits of STAT are those of this frame. -/
def frameTaken (s : State) (q : Fin 2) : State :=
  (s.bump (if q = 0 then K.LP_SPI_FRAMES else K.LP_TW_FRAMES)).modPort q fun p => { p with crcErr := false, frameErr := false }

/-- An error event that a port raises at most once in a second (R395). -/
def oncePerSecond (now : Nat) (last : Option Nat) : Bool := match last with | some t => decide (t + 100000000 ≤ now) | none => true

/-- A frame that failed its host CRC is counted and reported. -/
def noteCrc (s : State) (q : Fin 2) : State :=
  let s := s.bump (if q = 0 then K.LP_SPI_CRC_ERRS else K.LP_TW_CRC_ERRS)
  if oncePerSecond s.now (s.port q).crcAt then
    (s.modPort q fun p => { p with crcAt := some s.now }).raise Ev.lp (if q = 0 then 0 else 2)
  else s

/-- A frame error is counted and reported. -/
def noteFrame (s : State) (q : Fin 2) : State :=
  let s := s.bump (if q = 0 then K.LP_SPI_FRAME_ERRS else K.LP_TW_FRAME_ERRS)
  if oncePerSecond s.now (s.port q).frameAt then
    (s.modPort q fun p => { p with frameAt := some s.now }).raise Ev.lp (if q = 0 then 1 else 3)
  else s

/-- A frame that has no effect (R378): only the error bits of STAT, the counters and the events show it. -/
def frameBad (s : State) (q : Fin 2) (crcErr frameErr : Bool) : State :=
  let s := s.modPort q fun p => { p with crcErr := crcErr, frameErr := frameErr }
  let s := if crcErr then s.noteCrc q else s
  if frameErr then s.noteFrame q else s

/-- What the host reads during a frame without a value: STAT, then 0xFF; a two-wire write part returns nothing. -/
def writeAnswer (q : Fin 2) (st n : Nat) : Answer := if q = 0 then .data (toLE 1 st ++ List.replicate n 0xFF#8) else .done

/-- The device's bytes of a frame of `n` bytes with the command byte `cmd` that has no effect (R376, R379): STAT, then 0xFF. The bytes in
which a window read or an object response would return its value are free (log 187). -/
def deadAnswer (s : State) (q : Fin 2) (cmd n : Nat) : State :=
  if q = 0 && (cmd < 0x40 || cmd = 0x81) then
    let (vs, t) := s.freeBytes (n - 2)
    { t with answer := .data ((toLE 1 (s.stat q) ++ [0xFF#8] ++ vs).take n) }
  else { s with answer := if n = 0 then .data [] else writeAnswer q (s.stat q) (n - 1) }

/-- A frame of `n` bytes at a port: silent where the port is off or the Keeper held in reset; answered without effect on SPI in BOOT and
SEAL, where only the error bits of STAT follow it; and otherwise `f` (R44, R379, R386). -/
def onPort (s : State) (q : Fin 2) (cmd n : Nat) (crcErr frameErr : Bool) (f : State → State) : State :=
  if s.portsOpen && s.targetOn q then f s
  else if q = 0 && s.answersBusy then (s.deadAnswer q cmd n).modPort q fun p => { p with crcErr := crcErr, frameErr := frameErr }
  else { s with answer := .silent }

/-! ### The window (R380–R382) -/

/-- A window register as port `q` reads it (R380, R381); a read of register 5 shows the source that it claims. -/
def winValue (s : State) (q : Fin 2) (r : Nat) : Nat :=
  if r = 0 then 0x38365646
  else if r = 1 then s.modes.mode.code + 256 * s.modeFlags
  else if r = 2 then s.getN K.BEAM_CUT_SEQ
  else if r = 4 then s.intSummary
  else if r = 5 then s.bestSource
  else if r = 7 then s.getN K.INT_THRESHOLD
  else if 8 ≤ r && r < 24 then groupWord s.ints.pending (2 * (r - 8)) + 65536 * groupWord s.ints.pending (2 * (r - 8) + 1)
  else if r = 24 then s.now % 2 ^ 32
  else if r = 25 then s.ports.latch[q.val]
  else if r = 26 then (s.port q).lastClaim
  else if 32 ≤ r && r < 64 then
    let key := s.getN (K.LP_WIN_MAP (r - 32))
    match Dict.find key with
    | some d => if key = 0 then 0 else unsigned 32 (s.shown (portAcc q) d key)
    | none => 0
  else 0

/-- The device's bytes of a window read (R376). -/
def winAnswer (st v : Nat) : Answer :=
  let bs := toLE 1 st ++ [0xFF#8] ++ toLE 4 v
  .data (bs ++ [crc8 bs])

/-- A window read of INT_CLAIM claims a source (R399). -/
def claim (s : State) (q : Fin 2) : State :=
  let st := s.stat q
  let n := s.bestSource
  let was := s.intLow
  let s := (s.frameTaken q).modPort q fun p => { p with lastClaim := n }
  let s := if n = 0 then s else ((s.setPending n false).setInService n true).bump K.INT_CLAIMS
  { s.noteRelease was with answer := winAnswer st n }

/-- A window write of INT_COMPLETE (R398, R400): re-fire where an enabled bit is left; a stray completion changes nothing. -/
def complete (s : State) (q : Fin 2) (n : Nat) : State :=
  let st := s.stat q
  let was := s.intLow
  let s := s.frameTaken q
  let s :=
    if n < 512 && s.isInService n then
      let left := decide (s.enabledBits n ≠ 0)
      let s := (s.setInService n false).setPending n left
      if left then s.bump K.INT_REFIRES else s
    else (s.bump K.INT_STRAY_COMPLETES).raise Ev.op 5
  { s.noteRelease was with answer := writeAnswer q st 5 }

/-- A read of TB_LO latches the high word for the port (R380, R410). -/
def tbLow (s : State) (q : Fin 2) : State :=
  let st := s.stat q
  let s := s.frameTaken q
  { s with ports := { s.ports with latch := s.ports.latch.set q.val (s.now / 2 ^ 32 % 2 ^ 32) }, answer := winAnswer st (s.now % 2 ^ 32) }

/-- A window read of any other register (R380). -/
def winRead (s : State) (q : Fin 2) (r : Nat) : State := { s.frameTaken q with answer := winAnswer (s.stat q) (s.winValue q r) }

/-- A window write of INT_THRESHOLD: bits above its width are ignored (R380, R399). -/
def winThreshold (s : State) (q : Fin 2) (v : Nat) : State :=
  let st := s.stat q
  let was := s.intLow
  { ((s.frameTaken q).put K.INT_THRESHOLD ((v % 8 : Nat) : Int)).noteRelease was with answer := writeAnswer q st 5 }

/-- A read of a part of a counter of more than 32 bits by the debug port or a Caravan channel: the low part latches the higher one for the
reader, and the higher part reads the latch (R410). -/
def partRead (s : State) (reader : Fin 11) (key : Nat) (high : Bool) : State :=
  let take (s : State) (d : ObjDef) : State :=
    if high then { s with answer := .data (toLE 4 s.ports.latch[reader.val]) }
    else
      let v := unsigned 64 (s.shown .debug d key)
      { s with ports := { s.ports with latch := s.ports.latch.set reader.val (v / 2 ^ 32) }, answer := .data (toLE 4 v) }
  match s.reach .debug key with
  | .error e => { s with answer := .abort e }
  | .ok d =>
    if d.size ≤ 4 || d.type = .domain || d.type = .vis then { s with answer := .abort .typeMismatch }
    else if reader = 2 && !s.debugAllows .debug false key then { s with answer := .abort .debugForbids }
    else take s d

/-! ### The mailboxes (R383, R384) -/

/-- How an access ends in a mailbox: the machine, the abort code, the tag and the data. -/
def runAccess (s : State) (f : State → Res) : State × Nat × Nat × Bytes :=
  match f s with
  | .ok (t, .data bs) => (t, 0, 0xFF, bs)
  | .ok (t, .tag n) => (t, 0, n, [])
  | .ok (t, .abort a) => (t, a.code, 0xFF, [])
  | .ok (t, _) => (t, 0, 0xFF, [])
  | .error .operationsFull => (s.countFull, Abort.operationsFull.code, 0xFF, [])
  | .error a => (s, a.code, 0xFF, [])

/-- The Caravan channel that a port leases for its segmented transfers (R425). -/
def portChannel (q : Fin 2) : Fin 8 := if q = 0 then 4 else 5

/-- A segmented transfer starts: an earlier one of the port is over, and the port takes its channel (R384, R425). -/
def openSegments (s : State) (q : Fin 2) : State :=
  (s.openChannel (portChannel q)).modBox q fun b => { b with copy := none, seg := none, channel := some (portChannel q), revoked := false }

/-- A segmented transfer is over. -/
def closeSegments (s : State) (q : Fin 2) : State :=
  let s := if (s.port q).box.channel.isSome && (s.channel (portChannel q)).st = .running then s.closeChannel (portChannel q) else s
  s.modBox q fun b => { b with copy := none, seg := none, channel := none }

/-- The lease of a port's segmented transfer is revoked (R194, R195, R384). -/
def revokeSegments (s : State) (q : Fin 2) : State :=
  if (s.port q).box.channel.isSome && (s.channel (portChannel q)).st = .running then
    ((s.haltChannel (portChannel q) 2 .failed).leaseRevoked 3).modBox q fun b =>
      { b with copy := none, seg := none, channel := none, revoked := true }
  else s

/-- The port's transfer has lost its channel: revoked for silence, or halted at everything-off (R384, R430). -/
def segmentsLost (s : State) (q : Fin 2) : Bool :=
  (s.port q).box.revoked || ((s.port q).box.channel.isSome && decide ((s.channel (portChannel q)).st ≠ .running))

/-- The holder's next access is answered with LEASE_REVOKED (R195), or with BUSY where a bus error halted the channel (R430). -/
def answerRevoked (s : State) (q : Fin 2) : State × Nat × Nat × Bytes :=
  (s.modBox q fun b => { b with copy := none, seg := none, channel := none, revoked := false },
    (if (s.port q).box.revoked then Abort.leaseRevoked else s.haltCode (portChannel q)).code, 0xFF, [])

/-- READ (R383, R384). DEDUCED (log 188): an object larger than 256 bytes is copied and read in parts. -/
def boxRead (s : State) (q : Fin 2) (key offset len : Nat) : State × Nat × Nat × Bytes :=
  if offset = 0 then
    match s.runAccess fun s => s.readObject (portAcc q) key with
    | (t, 0, _, bs) =>
      if bs.length ≤ 256 then (t, 0, 0xFF, bs.take len)
      else if s.segmentsLost q then s.answerRevoked q
      else ((t.openSegments q).modBox q fun b => { b with copy := some (key, bs) }, 0, 0xFF, bs.take len)
    | r => r
  else if s.segmentsLost q then s.answerRevoked q
  else match (s.port q).box.copy with
    | some (k, bs) =>
      if k = key && offset ≤ bs.length then
        let part := (bs.drop offset).take len
        (if bs.length ≤ offset + part.length then s.closeSegments q else s, 0, 0xFF, part)
      else (s, Abort.outOfRange.code, 0xFF, [])
    | none => (s, Abort.outOfRange.code, 0xFF, [])

/-- An object that a mailbox WRITE cannot carry: one larger than 256 bytes, or a part of one (R383, R348). -/
def boxWriteCheck (s : State) (q : Fin 2) (key offset : Nat) : Except Abort Unit :=
  match s.reach (portAcc q) key with
  | .error e => .error e
  | .ok d => if 256 < d.size || offset ≠ 0 then .error .typeMismatch else .ok ()

/-- WRITE (R383). -/
def boxWrite (s : State) (q : Fin 2) (key offset : Nat) (bs : Bytes) : State × Nat × Nat × Bytes :=
  s.runAccess fun s => match s.boxWriteCheck q key offset with
    | .error e => .error e
    | .ok _ => s.writeObject (portAcc q) key bs

/-- WRITE_SEG (R384): a segment at offset 0 starts a transfer, with a first check of role and mode; a gap or an overlap ends it. -/
def boxSeg (s : State) (q : Fin 2) (key offset : Nat) (bs : Bytes) : State × Nat × Nat × Bytes :=
  if s.segmentsLost q then s.answerRevoked q
  else if offset = 0 then
    match s.reachAs true (portAcc q) key with
    | .error e => (s, e.code, 0xFF, [])
    | .ok d =>
      if d.access = .ro || d.access = .const then (s, Abort.typeMismatch.code, 0xFF, [])
      else match s.writeBarred (portAcc q) d key d.size with
        | some e => (s, e.code, 0xFF, [])
        | none => ((s.openSegments q).modBox q fun b => { b with seg := some (key, bs) }, 0, 0xFF, [])
  else match (s.port q).box.seg with
    | some (k, have_) =>
      if k = key && offset = have_.length then (s.modBox q fun b => { b with seg := some (k, have_ ++ bs) }, 0, 0xFF, [])
      else (s.closeSegments q, Abort.outOfRange.code, 0xFF, [])
    | none => (s, Abort.outOfRange.code, 0xFF, [])

/-- WRITE_END (R384): the transfer is applied as one write where size and CRC-32 match. -/
def boxEnd (s : State) (q : Fin 2) (key offset : Nat) (bs : Bytes) : State × Nat × Nat × Bytes :=
  if s.segmentsLost q then s.answerRevoked q
  else match (s.port q).box.seg with
    | some (k, data) =>
      let s := s.closeSegments q
      if bs.length = 8 && k = key && offset = data.length && ofLE (bs.take 4) = data.length && ofLE (bs.drop 4) = crc32 data then
        s.runAccess fun s => s.writeObject (portAcc q) key data
      else (s, Abort.typeMismatch.code, 0xFF, [])
    | none => (s, Abort.typeMismatch.code, 0xFF, [])

/-- An object request frame (R379, R383): a frame error while the mailbox executes or where LEN is above 256; otherwise it
takes effect, and its response is ready when MAILBOX_RESPONSE_READY comes. -/
def request (s : State) (q : Fin 2) (len want : Nat) (f : State → State × Nat × Nat × Bytes) : State :=
  s.onPort q 0x80 (12 + len) false ((s.port q).box.busy || decide (256 < len)) fun s =>
    let st := s.stat q
    let s :=
      if (s.port q).box.busy || 256 < len then s.frameBad q false true
      else
        let s := (s.frameTaken q).modBox q fun b => { b with busy := true, ready := false, want := want }
        let (s, code, tag, data) := f s
        if s.modes.mode = .boot then s else s.modBox q fun b => { b with code := code, tag := tag, data := data }
    { s with answer := writeAnswer q st (11 + len) }

/-- An object response frame (R383): it clears OBJ_DONE; a frame error while the mailbox executes. -/
def respond (s : State) (q : Fin 2) : State :=
  s.onPort q 0x81 (9 + (s.port q).box.want) false (s.port q).box.busy fun s =>
    let st := s.stat q
    let b := (s.port q).box
    if b.busy then (s.deadAnswer q 0x81 (9 + b.want)).frameBad q false true
    else
      let bs := toLE 1 st ++ [0xFF#8] ++ toLE 2 b.code ++ toLE 1 b.tag ++ [0#8] ++ toLE 2 b.data.length ++ b.data ++
        List.replicate (b.want - b.data.length) 0#8
      { ((s.frameTaken q).modBox q fun b => { b with ready := false }) with answer := .data (bs ++ [crc8 bs]) }

/-- What a frame of `n` bytes does that is read from the host's bytes (R376, R378). -/
def frameActs (s : State) (q : Fin 2) (cmd n : Nat) : PortFrame → State
  | .badForm => (s.deadAnswer q cmd n).frameBad q false true
  | .badCrc => (s.deadAnswer q cmd n).frameBad q true false
  | .winRead r => if r = 5 then s.claim q else if r = 24 then s.tbLow q else s.winRead q r
  | .winWrite r v => if r = 6 then s.complete q v else s.winThreshold q v
  | .read key offset len => s.request q 0 len fun s => s.boxRead q key offset len
  | .write op key offset data => s.request q data.length 0 fun s =>
      if op = 1 then s.boxWrite q key offset data else if op = 2 then s.boxSeg q key offset data else s.boxEnd q key offset data
  | .response => s.respond q

/-- A frame arrives as bytes; a two-wire read part of the wrong length is a frame error (R387). -/
def portFrame (s : State) (q : Fin 2) (bs : Bytes) (cut : Bool) (reads : Nat) : State :=
  let want := (s.port q).box.want
  let f := hostFrame q want bs cut
  let cmd := (bs.headD 0#8).toNat
  s.onPort q cmd bs.length (f = .badCrc) (f = .badForm) fun s =>
    let t := s.frameActs q cmd bs.length f
    if q = 0 then t
    else
      let t : State := { t with answer := twRead reads t.answer }
      if f ≠ .badForm && f ≠ .badCrc && reads ≠ f.readPart want then t.frameBad 1 false true else t

end State

/-- SPI_FRAME_INVALID (R378): the host's bytes of a frame on either local port, whether a byte was cut short, and the bytes of a two-wire
read part; a frame that is not valid has no effect. -/
def execSpiFrameInvalid (port : Fin 2) (bytes : Bytes) (cut : Bool) (reads : Nat) (s : State) : Out :=
  .next (s.portFrame port bytes cut reads)

/-- INT_CLAIM (R399). -/
def execIntClaim (port : Fin 2) (s : State) : Out := .next (s.onPort port 5 7 false false fun s => s.claim port)

/-- INT_COMPLETE (R400). -/
def execIntComplete (port : Fin 2) (n : Nat) (s : State) : Out := .next (s.onPort port 0x46 6 false false fun s => s.complete port n)

/-- TB_LO_READ (R380). -/
def execTbLoRead (port : Fin 2) (s : State) : Out := .next (s.onPort port 24 7 false false fun s => s.tbLow port)

/-- COUNTER_LOW_READ (R410): readers 0 and 1 are the local ports, whose window shows `TB_NOW` alone of the wide counters; 2 is
the debug port and 3–10 are the Caravan channels. `high` is a later read of the higher part, which returns the reader's latch. -/
def execCounterLowRead (reader : Fin 11) (key : Nat) (high : Bool) (s : State) : Out :=
  .next (match reader with
    | 0 => if key = K.TB_NOW then s.onPort 0 (if high then 25 else 24) 7 false false fun s => if high then s.winRead 0 25 else s.tbLow 0 else s
    | 1 => if key = K.TB_NOW then s.onPort 1 (if high then 25 else 24) 7 false false fun s => if high then s.winRead 1 25 else s.tbLow 1 else s
    | r => if s.portsOpen then s.partRead r key high else { s with answer := .silent })

/-- OBJECT_REQUEST_READ (R383, R384). -/
def execObjectRequestRead (port : Fin 2) (key offset len : Nat) (s : State) : Out :=
  .next (if 256 < len then s.onPort port 0x80 12 false true fun s => (s.deadAnswer port 0x80 12).frameBad port false true
    else s.request port 0 len fun s => s.boxRead port key offset len)

/-- OBJECT_REQUEST_WRITE (R383). -/
def execObjectRequestWrite (port : Fin 2) (key offset : Nat) (data : Bytes) (s : State) : Out :=
  .next (s.request port data.length 0 fun s => s.boxWrite port key offset data)

/-- OBJECT_REQUEST_WRITE_SEG (R384). -/
def execObjectRequestWriteSeg (port : Fin 2) (key offset : Nat) (data : Bytes) (s : State) : Out :=
  .next (s.request port data.length 0 fun s => s.boxSeg port key offset data)

/-- OBJECT_REQUEST_WRITE_END (R384). -/
def execObjectRequestWriteEnd (port : Fin 2) (key offset : Nat) (data : Bytes) (s : State) : Out :=
  .next (s.request port data.length 0 fun s => s.boxEnd port key offset data)

/-- MAILBOX_RESPONSE_READY (R383). -/
def execMailboxResponseReady (port : Fin 2) (s : State) : Out :=
  .next (if (s.port port).box.busy then s.modBox port fun b => { b with busy := false, ready := true } else s)

/-- OBJECT_RESPONSE (R383). -/
def execObjectResponse (port : Fin 2) (s : State) : Out := .next (s.respond port)

/-- SEGMENT_SILENCE (R384). -/
def execSegmentSilence (port : Fin 2) (s : State) : Out := .next (s.revokeSegments port)

/-- TW_STRETCH_LIMIT (R388): the read, of `reads` bytes, returns 0xFF bytes and counts as a frame error. -/
def execTwStretchLimit (reads : Nat) (s : State) : Out :=
  .next (if s.anyTarget then { s.frameBad 1 false true with answer := .data (List.replicate reads 0xFF#8) } else { s with answer := .silent })

/-- TW_TIMEOUT (R388). -/
def execTwTimeout (s : State) : Out :=
  .next (if s.anyTarget then { (s.bump K.LP_TW_TIMEOUTS).raise Ev.lp 4 with answer := .silent } else { s with answer := .silent })

/-- INT_RELEASE_HOLD_END (R391): INT is driven low again where a source is claimable. -/
def execIntReleaseHoldEnd (s : State) : Out := .next { s with ints := { s.ints with releaseHold := false } }

end Sys2Proof.Machine
end

