-- ==== Sys2Proof/Machine/Network.lean ====
section
/-! DEFINITION. The object protocol on CAN FD: frames received, HAIL, transfers, blocks, proofs, events, heartbeats and
telemetry (R316, R323–R345). -/

namespace Sys2Proof.Machine

/-- The length of a function's frame before its CRC is one that R326 gives it. -/
def lengthOk (func n : Nat) : Bool :=
  match func with
  | 0x01 => n = 16 | 0x03 => n = 4 | 0x04 => n = 8 | 0x08 => n = 4 | 0x09 => 8 ≤ n && n ≤ 60 | 0x0B => n = 8 | 0x0C => n = 8
  | 0x0D => 4 ≤ n && n ≤ 60 | 0x0E => n = 4 | 0x0F => n = 8 | 0x11 => n = 4 | 0x18 => n = 4 | 0x1A => n = 44
  | _ => false

/-- `n` bytes of a frame from byte `k`, as a number. -/
def Frame.at_ (f : Frame) (k n : Nat) : Nat := ofLE ((f.body.drop k).take n)

/-- The object that a frame names in its bytes 0–2. -/
def Frame.key (f : Frame) : Nat := f.at_ 0 2 * 256 + f.at_ 2 1

/-- Bytes 0–7 of the serial number (R328). -/
def serialBytes : Bytes := toLE 8 Config.serialNumber

/-- A role code of R352 that AUTH_REQ may name. -/
def roleOfCode (c : Nat) : Option Role :=
  match c with
  | 2 => some .peer | 3 => some .installer | 4 => some .metrologist | 5 => some .vendor | _ => none

namespace State

/-! ### Joining (R328–R330) -/

/-- HAIL_ACK; slot 0xFF where refused. -/
def hailAck (s : State) (f : Frame) (dst version result slot : Nat) : State :=
  s.netSend f.port 0x02 dst f.xid (serialBytes ++ toLE 1 version ++ toLE 1 result ++ toLE 2 (s.getN K.NET_HB_PERIOD) ++ toLE 1 slot ++
    toLE 1 s.modes.mode.code ++ toLE 2 s.modeFlags)

/-- NODE_ID_CONFLICT, once per second (R342). -/
def noteConflict (s : State) : State :=
  if oncePerSecond s.now s.net.conflictAt then (s.modNet fun n => { n with conflictAt := some s.now }).raise Ev.net 9 else s

/-- The highest version in both masks (R329). -/
def commonVersion (mask : Nat) : Nat := if mask.testBit 1 then 2 else if mask.testBit 0 then 1 else 0

/-- The entry that a full table gives up: the PEER heard least recently that has been silent for 1 s (R330). -/
def displaced (s : State) : Option (Fin 64) :=
  (List.finRange 64).foldl (fun (best : Option (Fin 64)) (i : Fin 64) => match s.partner i with
    | some p =>
      if p.role = .peer && p.heardAt + 100000000 ≤ s.now then
        match best.bind s.partner with
        | some b => if p.heardAt < b.heardAt then some i else best
        | none => some i
      else best
    | none => best) none

/-- The slot that a HAIL_REQ takes, after the eviction that makes room (R330). -/
def hailSlot (s : State) (f : Frame) : State × Option (Fin 64) :=
  match s.partnerAt f.port f.src with
  | some i => (s.evict i 3, some i)
  | none => match (List.finRange 64).find? fun (i : Fin 64) => (s.partner i).isNone with
    | some i => (s, some i)
    | none => match s.displaced with
      | some i => (s.evict i 4, some i)
      | none => (s, none)

/-- A HAIL_REQ to the device's node ID (R328–R330). -/
def hail (s : State) (f : Frame) : State :=
  let v := commonVersion (f.at_ 8 1)
  if v = 0 then (s.hailAck f f.src 0 1 0xFF).raise Ev.net 2
  else match s.hailSlot f with
    | (s, none) => (s.hailAck f f.src 0 2 0xFF).raise Ev.net 2
    | (s, some i) =>
      let period := f.at_ 10 2
      let p : Partner :=
        { port := f.port, node := f.src, version := v, identity := f.body.take 8, joinedAt := s.now, heardAt := s.now, activeAt := s.now,
          period := if 100 ≤ period && period ≤ 60000 then period else 60000 }
      ((s.setPartner i (some p)).raise Ev.net 0).hailAck f f.src v 0 i.val

/-- The announcement at an IDLE entry from BOOT (R330). -/
def announce (s : State) : State :=
  (List.range 2).foldl (fun (s : State) (q : Nat) =>
    if s.portUp q then
      s.netSend q 0x01 0 0 (serialBytes ++ toLE 1 3 ++ toLE 1 0 ++ toLE 2 (s.getN K.NET_HB_PERIOD) ++ toLE 4 0)
    else s) s.netBegin

/-! ### Requests and replies (R331) -/

/-- The content of an ABORT with a code. -/
def abortContent (key code : Nat) : Bytes := toLE 2 (key / 256) ++ toLE 1 (key % 256) ++ [0#8] ++ toLE 2 code ++ toLE 2 0

/-- The content of a RESPONSE. -/
def responseContent (key tag : Nat) (data : Bytes) : Bytes :=
  toLE 2 (key / 256) ++ toLE 1 (key % 256) ++ toLE 1 data.length ++ toLE 1 tag ++ toLE 3 0 ++ data

/-- What answers an access: RESPONSE, or ABORT. -/
def replyOf (key : Nat) (r : Nat × Nat × Bytes) : Nat × Bytes :=
  if r.1 = 0 then (0x0A, responseContent key r.2.1 r.2.2) else (0x0B, abortContent key r.1)

/-- A reply goes out unless the access itself led to SEAL or BOOT, where the port is silent (R324). -/
def replyTo (s : State) (p : Partner) (xid : Nat) (reply : Nat × Bytes) : State :=
  if s.modes.mode = .seal || s.modes.mode = .boot then s else s.sendTo p reply.1 xid reply.2

/-- A request is answered: with the stored reply where it matches one of the last 500 ms in every byte, and otherwise by
carrying it out (R331). -/
def answerRequest (s : State) (i : Fin 64) (p : Partner) (func : Nat) (f : Frame) (run : State → State × Nat × Nat × Bytes) : State :=
  let recent := p.stored.filter fun (x : Stored) => decide (s.now < x.at_ + 50000000)
  match recent.find? fun (x : Stored) => decide (x.xid = f.xid) && decide (x.request = (func, f.body)) with
  | some x => s.sendTo p x.reply.1 f.xid x.reply.2
  | none =>
    let at_ := s.now
    let (s, r) := run s
    let reply := replyOf f.key r
    let keep (x : Partner) : Partner :=
      { x with stored := (recent.filter fun (y : Stored) => decide (y.xid ≠ f.xid)) ++
                 [{ xid := f.xid, request := (func, f.body), reply := reply, at_ := at_ }] }
    (s.modPartner i keep).replyTo p f.xid reply

/-- An object that a single request cannot carry (R331). -/
def shortCheck (s : State) (i : Fin 64) (key : Nat) : Except Abort Unit :=
  match s.reach (.partner i) key with
  | .error e => .error e
  | .ok d => if 52 < d.size then .error .typeMismatch else .ok ()

/-- READ_REQ (R331). -/
def readReq (s : State) (i : Fin 64) (p : Partner) (f : Frame) : State :=
  s.answerRequest i p 0x08 f fun s => s.runAccess fun s => match s.shortCheck i f.key with
    | .error e => .error e
    | .ok _ => s.readObject (.partner i) f.key

/-- WRITE_REQ (R331); a size that the frame does not hold is a frame of the wrong length, which is ignored. -/
def writeReq (s : State) (i : Fin 64) (p : Partner) (f : Frame) : State :=
  let n := f.at_ 3 1
  if 52 < n || f.body.length < 8 + n then s
  else s.answerRequest i p 0x09 f fun s => s.runAccess fun s => match s.shortCheck i f.key with
    | .error e => .error e
    | .ok _ => s.writeObject (.partner i) f.key ((f.body.drop 8).take n)

/-! ### Blocks (R332, R333) -/

/-- The content of a BLOCK_ACK: the last SEQ received in order, when `n` segments have been. -/
def blockAck (n status : Nat) : Bytes := toLE 1 ((n + 255) % 256) ++ toLE 1 status ++ toLE 2 0

/-- The segments of a block of `len` bytes. -/
def segCount (len : Nat) : Nat := (len + 55) / 56

/-- The content of segment `k` of the data. -/
def segContent (data : Bytes) (k : Nat) : Bytes :=
  let part := (data.drop (56 * k)).take 56
  toLE 1 (k % 256) ++ toLE 1 part.length ++ toLE 2 0 ++ part

/-- Change a partner's block transfer. -/
def modBlock (s : State) (i : Fin 64) (f : BlockXfer → BlockXfer) : State := s.modPartner i fun p => { p with block := p.block.map f }

/-- Send what a block read may send: at most 8 segments ahead of the last acknowledgement, and BLOCK_END once every segment is
acknowledged. -/
def pumpBlock (s : State) (i : Fin 64) : State :=
  match s.partner i with
  | some p => match p.block with
    | some b =>
      let n := segCount b.data.length
      let upto := min n (b.acked + 8)
      let s := ((List.range upto).filter fun (k : Nat) => decide (b.next ≤ k)).foldl (fun (s : State) (k : Nat) =>
        s.sendTo p 0x0D b.xid (segContent b.data k)) s
      if b.acked = n then
        (s.modBlock i fun b => { b with next := n + 1 }).sendTo p 0x0F b.xid (toLE 4 b.data.length ++ toLE 4 (crc32 b.data))
      else s.modBlock i fun b => { b with next := max b.next upto }
    | none => s
  | none => s

/-- The free channel of the network (R425). -/
def freeChannel (s : State) : Option (Fin 8) :=
  ([0, 1, 2, 3] : List (Fin 8)).find? fun (c : Fin 8) => decide ((s.channel c).st ≠ .running)

/-- The checks of a block that writes (R332). -/
def blockWriteCheck (s : State) (i : Fin 64) (key total : Nat) : Except Abort Unit :=
  match s.reachWrite (.partner i) key total with
  | .error e => .error e
  | .ok d => match s.writeBarred (.partner i) d key total with
    | some e => .error e
    | none => .ok ()

/-- A transfer has lost its channel (R430). -/
def blockLost (_s : State) (b : BlockXfer) : Bool := b.lost.isSome

/-- A transfer whose channel has halted ends with ABORT and the code of the halt (R430). -/
def abortBlock (s : State) (i : Fin 64) (p : Partner) (b : BlockXfer) : State :=
  (s.modPartner i fun p => { p with block := none }).sendTo p 0x0B b.xid (abortBody b.key (b.lost.getD .leaseRevoked))

/-- BLOCK_INIT (R332, R333). -/
def blockInit (s : State) (i : Fin 64) (p : Partner) (f : Frame) : State :=
  let total := f.at_ 4 4
  let refuse (s : State) (code : Nat) : State := s.sendTo p 0x0B f.xid (abortContent f.key code)
  let begin_ (s : State) (b : BlockXfer) : State :=
    ((s.openChannel b.channel).modPartner i fun p => { p with block := some b }).sendTo p 0x0E f.xid (blockAck 0 0)
  if p.block.any s.blockLost then (p.block.map fun b => s.abortBlock i p b).getD s
  else if f.at_ 3 1 = 1 then
    match s.blockWriteCheck i f.key total, s.freeChannel with
    | .error e, _ => refuse s e.code
    | .ok _, some c =>
      if p.block.isSome then refuse s Abort.busy.code
      else begin_ s { write := true, key := f.key, total := total, xid := f.xid, channel := c }
    | .ok _, none => refuse s Abort.busy.code
  else if f.at_ 3 1 ≠ 0 then refuse s Abort.outOfRange.code
  else
    match s.reach (.partner i) f.key, s.freeChannel with
    | .error e, _ => refuse s e.code
    | .ok d, some c =>
      if p.block.isSome then refuse s Abort.busy.code
      else match s.runAccess fun s => s.readObject (.partner i) f.key with
        | (t, 0, _, bs) =>
          if total = bs.length || total = d.size then
            (begin_ t { write := false, key := f.key, total := total, data := bs, xid := f.xid, channel := c }).pumpBlock i
          else refuse s Abort.typeMismatch.code
        | (_, code, _, _) => refuse s code
    | .ok _, none => refuse s Abort.busy.code

/-- BLOCK_SEG of a block that is being written (R332); a segment of no transfer is ignored. -/
def blockSeg (s : State) (i : Fin 64) (p : Partner) (f : Frame) : State :=
  match p.block with
  | some b =>
    if !b.write then s
    else if s.blockLost b then s.abortBlock i p b
    else
      let n := f.at_ 1 1
      let all := b.data.length + n
      if f.at_ 0 1 = b.next % 256 && n ≤ 56 && 4 + n ≤ f.body.length && all ≤ b.total && (n = 56 || all = b.total) then
        let s := s.modBlock i fun b => { b with data := b.data ++ (f.body.drop 4).take n, next := b.next + 1 }
        if (b.next + 1) % 8 = 0 || all = b.total then s.sendTo p 0x0E b.xid (blockAck (b.next + 1) 0) else s
      else s.sendTo p 0x0E b.xid (blockAck b.next 1)
  | none => s

/-- BLOCK_ACK of a block that is being read (R332). -/
def blockAcked (s : State) (i : Fin 64) (p : Partner) (f : Frame) : State :=
  match p.block with
  | some b =>
    if b.write then s
    else if s.blockLost b then s.abortBlock i p b
    else
      let status := f.at_ 1 1
      let upto := b.acked + (f.at_ 0 1 + 1 + 256 - b.acked % 256) % 256
      if status = 3 || status = 2 then s.endBlock i
      else if segCount b.data.length < b.next then (if status = 0 then s.endBlock i else s)
      else if b.next < upto then s
      else if status = 1 then (s.modBlock i fun b => { b with acked := upto, next := upto }).pumpBlock i
      else (s.modBlock i fun b => { b with acked := upto }).pumpBlock i
  | none => s

/-- BLOCK_END of a block that is being written: it is applied as one write where size and CRC match (R332). -/
def blockEnd (s : State) (i : Fin 64) (p : Partner) (f : Frame) : State :=
  match p.block with
  | some b =>
    if !b.write then s
    else if s.blockLost b then s.abortBlock i p b
    else
      let s := s.endBlock i
      if f.at_ 0 4 = b.data.length && b.data.length = b.total && f.at_ 4 4 = crc32 b.data then
        let s := s.sendTo p 0x0E b.xid (blockAck b.next 0)
        let (s, r) := s.runAccess fun s => s.writeObject (.partner i) b.key b.data
        s.replyTo p b.xid (replyOf b.key r)
      else s.sendTo p 0x0E b.xid (blockAck b.next 2)
  | none => s

/-! ### Proofs of roles (R339–R341) -/

/-- AUTH_RESULT. -/
def authResult (s : State) (p : Partner) (xid role result : Nat) : State := s.sendTo p 0x1B xid (toLE 1 role ++ toLE 1 result ++ toLE 2 0)

/-- AUTH_REQ (R339): the challenge is not sent where no random number is had (R455). -/
def authReq (s : State) (i : Fin 64) (p : Partner) (f : Frame) : State :=
  let c := f.at_ 0 1
  match roleOfCode c with
  | none => s.authResult p f.xid c 5
  | some .peer => ((s.modPartner i fun p => { p with role := .peer }).raise Ev.net 3).authResult p f.xid c 0
  | some r =>
    match s.drawRandom 16 with
    | (some nonce, s) =>
      (s.modPartner i fun p => { p with nonce := some (r, ⟨nonce, s.now⟩) }).sendTo p 0x19 f.xid (toLE 1 c ++ nonce ++ serialBytes.take 3)
    | (none, s) => s

/-- The result of an AUTH_RESPONSE, in the order of R340. -/
def authCheck (s : State) (p : Partner) (r : Role) (kind : Nat) (proof : Bytes) : Nat :=
  if !s.roleAvailable r then 5
  else if s.lockedOut r then 4
  else match p.nonce with
    | none => 6
    | some (role, n) =>
      if role ≠ r || n.at_ + 1000000000 < s.now then 6
      else if kind = 1 then s.tokenCheck r p.token n.bytes
      else if r = .installer && kind = 0 && s.hmacCheck n.bytes proof p.port p.node then 0
      else 1

/-- AUTH_RESPONSE (R339–R341): the nonce serves one response; results 1, 2 and 3 count as failures. -/
def authResponse (s : State) (i : Fin 64) (p : Partner) (f : Frame) : State :=
  let c := f.at_ 0 1
  match roleOfCode c with
  | some r =>
    let result := if r = .peer then 6 else s.authCheck p r (f.at_ 1 1) ((f.body.drop 4).take 32)
    let s := s.modPartner i fun p => { p with nonce := none }
    let s :=
      if result = 0 then ((s.modPartner i fun p => { p with role := r }).authGranted r).raise Ev.net 3
      else if result ≤ 3 then s.authFailed r
      else s
    s.authResult p f.xid c result
  | none => s.authResult p f.xid c 5

/-! ### Frames received (R325–R330, R336) -/

/-- EVENT_ACK: a version-2 partner's event has arrived (R336). -/
def eventAck (s : State) (i : Fin 64) (f : Frame) : State :=
  s.modPartner i fun p =>
    if p.version = 2 then { p with queue := p.queue.filter fun (e : EventRec) => decide (e.counter ≠ f.at_ 0 1) || decide (e.sent = 0) }
    else p

/-- What a joined partner's frame does. -/
def partnerFrame (s : State) (i : Fin 64) (p : Partner) (func : Nat) (f : Frame) : State :=
  match func with
  | 0x01 => s.hail f
  | 0x03 => s.evict i 2
  | 0x08 => s.readReq i p f
  | 0x09 => s.writeReq i p f
  | 0x0B => s.endBlock i
  | 0x0C => s.blockInit i p f
  | 0x0D => s.blockSeg i p f
  | 0x0E => s.blockAcked i p f
  | 0x0F => s.blockEnd i p f
  | 0x11 => s.eventAck i f
  | 0x18 => s.authReq i p f
  | 0x1A => s.authResponse i p f
  | _ => s

/-- Any valid frame of a partner counts as having heard it (R334); one that is no HEARTBEAT keeps its role (R341). -/
def heard (s : State) (i : Fin 64) (func : Nat) : State :=
  s.modPartner i fun p => { p with heardAt := s.now, activeAt := if func = 0x04 then p.activeAt else s.now }

/-- A frame of a node that has not joined (R329). -/
def strangerFrame (s : State) (func : Nat) (f : Frame) : State :=
  if func = 0x01 then s.hail f
  else if func = 0x03 then s
  else
    let key := if func = 0x08 || func = 0x09 || func = 0x0C then f.key else 0
    s.netSend f.port 0x0B f.src f.xid (abortContent key Abort.versionNotNegotiated.code)

/-- A frame that the object protocol takes (R325, R329, R330, R342). -/
def frameIn (s : State) (func : Nat) (f : Frame) : State :=
  let own := s.nodeId
  if f.src = 0 || 127 ≤ f.src || 127 ≤ f.dst then s
  else if f.src = own then
    let s := if func = 0x01 && f.dst = own && lengthOk func f.body.length then s.hailAck f 0 0 3 0xFF else s
    s.noteConflict
  else if !lengthOk func f.body.length then s
  else if f.dst = own then
    match s.partnerAt f.port f.src with
    | some i =>
      let s := s.heard i func
      match s.partner i with
      | some p => s.partnerFrame i p func f
      | none => s
    | none => s.strangerFrame func f
  else if f.dst = 0 && (func = 0x04 || func = 0x01) then
    match s.partnerAt f.port f.src with
    | some i => s.heard i func
    | none => s
  else s

/-- A frame whose protocol CRC fails is discarded and counted, and reported at the first one in each second (R327). -/
def badFrame (s : State) : State :=
  let s := s.bump K.NET_CRC_FAILS
  if oncePerSecond s.now s.net.crcAt then (s.modNet fun n => { n with crcAt := some s.now }).raise Ev.net 10 else s

/-- A frame that the controller has accepted is counted (R343) and goes to the object protocol where its CRC holds (R327). -/
def frameThrough (s : State) (x : RxFrame) : State :=
  let s := (s.countPort x.port 1).canReceived x.port
  match x with
  | .whole func f => s.frameIn func f
  | .badCrc _ => s.badFrame

/-- A frame reaches a port, past Haboob's RX target (R316, R324): one that is held goes through after the next one on its port. -/
def arrives (s : State) (x : RxFrame) : State :=
  let s := s.netBegin
  if !s.portUp x.port then s
  else
    let (hit, s) := s.habItem (if x.port = 0 then 0x40 else 0x42) x.bits
    let act := s.get K.HAB_ACTION
    if hit && act = 0 then s
    else if hit && act ≠ 4 then (s.countPort x.port 2).canBadFrame x.port
    else match s.net.heldRx with
      | some y => if y.port = x.port then
        ((s.modNet fun n => { n with heldRx := none }).frameThrough x).frameThrough y else s.frameThrough x
      | none => if hit then s.modNet fun n => { n with heldRx := some x } else s.frameThrough x

/-- A frame of the object protocol with a function reaches its port. -/
def received (s : State) (func : Nat) (f : Frame) : State := s.arrives (.whole func f)

/-! ### Heartbeat and telemetry (R334, R337) -/

/-- HEARTBEAT on every enabled port (R334). -/
def heartbeat (s : State) : State :=
  (List.finRange 2).foldl (fun (s : State) (q : Fin 2) =>
    if s.portUp q then
      let c := (s.net.ports[q]).hbCounter
      (s.modCan q fun p => { p with hbCounter := (p.hbCounter + 1) % 256 }).netSend q 0x04 0 0
        (toLE 1 c ++ toLE 1 s.modes.mode.code ++ toLE 2 s.modeFlags ++ toLE 1 s.partnerCount ++ toLE 3 0)
    else s) s.netBegin

/-- A telemetry map is due at the cut just published (R337). -/
def tlmDue (s : State) (m : Fin 8) : Bool :=
  let q := s.getN (K.TLM_PORT m)
  let dest := s.getN (K.TLM_DEST m)
  let hears := match s.partnerAt q dest with
    | some i => match s.partner i with | some p => decide (p.version = 2) | none => false
    | none => false
  s.flag (K.TLM_EN m) && s.net.tlmVals[m].isSome && s.portUp q && decide (s.getN K.BEAM_CUT_AT % (s.getN (K.TLM_PERIOD m) * 100000) = 0) &&
    (decide (dest = 0) || hears)

/-- The values of an enabled map at the cut (R337). -/
def mapValues (s : State) (m : Fin 8) : Option Bytes :=
  if s.flag (K.TLM_EN m) then
    some ((s.tlmKeys m).flatMap fun k => match Dict.find k with | some d => d.bytes (s.shown .spi d k) | none => [])
  else none

/-- The cut of the tick boundary B = `b` × 1,000,000 is published with the tiles' summaries (R313), and the telemetry maps take their
values (R337). -/
def cut (s : State) (b : Nat) (samples : List Sample) : State :=
  let s := ((s.takeSamples samples).put K.BEAM_CUT_SEQ ((s.get K.BEAM_CUT_SEQ + 1) % 4294967296)).put
    K.BEAM_CUT_AT ((b * 1000000 % 2 ^ 64 : Nat) : Int)
  let s := s.publishCut.readyAll true 2 fun _ => true
  s.modNet fun n => { n with tlmVals := Vector.ofFn s.mapValues }

/-- One TELEMETRY frame, with the values of its cut (R337): a cut's map is sent once. -/
def sendMap (s : State) (m : Fin 8) : State :=
  let vals := s.net.tlmVals[m].getD []
  let body := toLE 1 m.val ++ toLE 1 s.net.tlmCount[m] ++ toLE 4 (s.getN K.BEAM_CUT_SEQ) ++ vals
  (s.modNet fun n => { n with tlmCount := n.tlmCount.set m ((n.tlmCount[m] + 1) % 256),
                              tlmVals := n.tlmVals.set m none }).netSend (s.getN (K.TLM_PORT m)) 0x14
    (s.getN (K.TLM_DEST m)) 0 body

/-- Every due map is sent (R337). -/
def telemetry (s : State) : State :=
  (List.finRange 8).foldl (fun (s : State) (m : Fin 8) => if s.tlmDue m then s.sendMap m else s) s.netBegin

/-! ### Ports and leases (R194, R323, R335) -/

/-- A port goes bus-off: its partners are evicted (R323, R335). -/
def canOff (s : State) (q : Fin 2) : State :=
  let s := s.netBegin
  if s.portUp q then
    (((s.modCan q fun p => { p with busOff := true }).countPort q 3).raise Ev.net 6).evictPort q
  else s

/-- A Caravan channel's lease runs out (R194, R195, R430). -/
def revokeChannel (s : State) (c : Fin 8) : State :=
  let s := s.netBegin
  if (s.channel c).st ≠ .running then s
  else if c.val < 4 then
    match (List.finRange 64).find? fun (i : Fin 64) => match (s.partner i).bind fun p => p.block with
        | some b => decide (b.channel = c) | none => false with
    | some i => s.revokeBlock i
    | none => (s.haltChannel c 2 .failed).leaseRevoked 3
  else if c.val < 6 then s.revokeSegments (if c = 4 then 0 else 1)
  else s.revokeHost c 3

end State

/-- CUT_INSTANT (R313): the cut of the tick boundary B = `b` × 1,000,000. -/
def execCutInstant (b : Nat) (samples : List Sample) (s : State) : Out := .next (if s.keeperRuns then s.cut b samples else s)

/-- HAIL_REQ (R328–R330). -/
def execHailReq (f : Frame) (s : State) : Out := .next (s.received 0x01 f)

/-- BYE (R335). -/
def execBye (f : Frame) (s : State) : Out := .next (s.received 0x03 f)

/-- HEARTBEAT (R334). -/
def execHeartbeat (f : Frame) (s : State) : Out := .next (s.received 0x04 f)

/-- READ_REQ (R331). -/
def execReadReq (f : Frame) (s : State) : Out := .next (s.received 0x08 f)

/-- WRITE_REQ (R331). -/
def execWriteReq (f : Frame) (s : State) : Out := .next (s.received 0x09 f)

/-- ABORT from a partner (R331): its transfer is cancelled. -/
def execAbort (f : Frame) (s : State) : Out := .next (s.received 0x0B f)

/-- BLOCK_INIT (R332). -/
def execBlockInit (f : Frame) (s : State) : Out := .next (s.received 0x0C f)

/-- BLOCK_SEG (R332). -/
def execBlockSeg (f : Frame) (s : State) : Out := .next (s.received 0x0D f)

/-- BLOCK_ACK (R332). -/
def execBlockAck (f : Frame) (s : State) : Out := .next (s.received 0x0E f)

/-- BLOCK_END (R332). -/
def execBlockEnd (f : Frame) (s : State) : Out := .next (s.received 0x0F f)

/-- EVENT_ACK (R336). -/
def execEventAck (f : Frame) (s : State) : Out := .next (s.received 0x11 f)

/-- AUTH_REQ (R339); `rng` is the health test of the generator at it (R455). -/
def execAuthReq (f : Frame) (rng : Bool) (s : State) : Out := .next ((s.rngTested rng).received 0x18 f)

/-- AUTH_RESPONSE (R340). -/
def execAuthResponse (f : Frame) (s : State) : Out := .next (s.received 0x1A f)

/-- FRAME_CRC (R327): the identifier and the bytes of a frame whose CRC fails. -/
def execFrameCrc (port : Fin 2) (id : Nat) (bytes : Bytes) (s : State) : Out :=
  .next (if frameWhole id bytes then s.netBegin else s.arrives (.badCrc port))

/-- HEARTBEAT_BROADCAST (R334). -/
def execHeartbeatBroadcast (s : State) : Out := .next s.heartbeat

/-- EVENT_RESEND (R336). -/
def execEventResend (slot : Fin 64) (counter : Nat) (s : State) : Out := .next (s.netBegin.resendEvent slot counter)

/-- TELEMETRY_SEND (R337). -/
def execTelemetrySend (s : State) : Out := .next s.telemetry

/-- PARTNER_SILENT (R335): not heard for `NET_HB_MISS` of its periods, which do not run in DORMANT (R330). -/
def execPartnerSilent (slot : Fin 64) (s : State) : Out := .next (if s.portsOpen then s.netBegin.evict slot 1 else s.netBegin)

/-- BLOCK_SILENCE (R333). -/
def execBlockSilence (slot : Fin 64) (s : State) : Out := .next (s.netBegin.revokeBlock slot)

/-- CAN_BUS_OFF (R323). -/
def execCanBusOff (port : Fin 2) (s : State) : Out := .next (s.canOff port)

/-- CAN_BUS_RECOVERED (R323). -/
def execCanBusRecovered (port : Fin 2) (s : State) : Out :=
  .next (if s.portOff port && s.portsOpen then (s.modCan port fun p => { p with busOff := false, txErr := 0, rxErr := 0 }).raise Ev.net 7 else s)

/-- CAN_ERROR_PASSIVE (R323): the error counters of the port's controller as one of them passes 127. -/
def execCanErrorPassive (port : Fin 2) (txErr rxErr : Nat) (s : State) : Out :=
  .next (if s.portUp port then
      let was := (s.net.ports[port]).errorPassive
      let s := s.modCan port fun p => { p with txErr := txErr, rxErr := rxErr }
      if (s.net.ports[port]).errorPassive && !was then s.raise Ev.net 8 else s
    else s)

/-- ROLE_IDLE_TIMEOUT (R341). -/
def execRoleIdleTimeout (slot : Fin 64) (s : State) : Out := .next (s.modPartner slot fun p => { p with role := .peer })

/-- AUTH_LOCKOUT_EXPIRY (R341). -/
def execAuthLockoutExpiry (k : Fin 3) (s : State) : Out :=
  .next (s.modNet fun n => { n with locks := n.locks.set k { n.locks[k] with lockEnd := none } })

/-- CHANNEL_LEASE_REVOKE (R194). -/
def execChannelLeaseRevoke (c : Fin 8) (s : State) : Out := .next (s.revokeChannel c)

end Sys2Proof.Machine
end

