-- ==== Sys2Proof/Machine/Sealing.lean ====
section
/-! DEFINITION. Sealing (R189–R192, R282): the steps that follow the trigger, the sealing floor, and what SEAL leads to. -/

namespace Sys2Proof.Machine
namespace State

/-! ### The seal record (R186, R189) -/

/-- The stage reached, in `SUP_SEAL_STAGE` and in the seal record of the slot that this SEAL has written. -/
def setStage (s : State) (n vhkEnd : Nat) : State :=
  let s := s.put K.SUP_SEAL_STAGE n
  match s.sup.slot, s.sup.snap with
  | some k, some c =>
    let flags := (if s.sup.overflow then 1 else 0) + (if s.sup.latchWritten then 2 else 0) + (if c.stale then 4 else 0)
    s.writeMram (snapAddr k + 32) (sealRecord c (causeByte s.modes.sealCauses) n flags vhkEnd s.sup.signedMask
      ((s.now - s.modes.sealStart) / 100))
  | _, _ => s

/-- Step 2: the snapshot slot is written (R189). -/
def sealStep2 (s : State) : State :=
  match s.sup.snap, s.sup.slot with
  | some c, none =>
    let flags := (if s.sup.overflow then 1 else 0) + (if s.sup.latchWritten then 2 else 0) + (if c.stale then 4 else 0)
    let rec_ := sealRecord c (causeByte s.modes.sealCauses) 2 flags 0 0 0
    let (s, k) := s.writeSnap c s.sup.primaryAt (s.sup.primary.getD supplyTrigger) s.sup.estimated rec_ s.sup.secondary
    let s := match s.faultSource with
      | some f => s.countRailFault f.trig
      | none => s
    (s.modSup fun u => { u with slot := some k }).put K.SUP_SEAL_STAGE 2
  | _, _ => s

/-! ### Step 3 (R276, R282) -/

/-- The sessions in the order of R282: the one whose signature is being made, then the others in ascending order. -/
def sealOrder (s : State) : List (Fin 4) :=
  let rest := (List.finRange 4).filter fun m =>
    (decide ((s.point m).sess = .opened) || decide ((s.point m).sess = .closing)) && decide (s.met.jnl.signing ≠ some m)
  match s.met.jnl.signing with
  | some m => m :: rest
  | none => rest

/-- The start of step 3: the register copies (R276), and what became of opens before their START (R278). -/
def sealStep3 (s : State) : State :=
  (List.finRange 4).foldl (fun (s : State) (m : Fin 4) =>
    let s := if s.mpPresent m then s.copyRegisters m else s
    s.modPoint m fun x =>
      if x.sess = .opening then { x with sess := .none, openTag := none, closeTag := none, closeWait := false } else x) s

/-- The END of a session with the register values and the RTC time at T, unless it has one (R281, R282, R284). -/
def sealEnd (s : State) (m : Fin 4) : State :=
  let x := s.point m
  if x.endWritten then s
  else
    let (sec, frac) := match s.sup.snap with | some c => (c.rtc, c.frac) | none => (s.oasis.seconds, s.rtcFrac)
    (s.modPoint m fun y => { y with sess := .closing, reason := s.sup.firstReason }).writeEnd m sec frac x.exp x.imp false false

/-- One session is closed and signed (R282). The events that waited for the signature under way follow it (R280). -/
def sealSession (s : State) (m : Fin 4) : State :=
  let waited := if s.met.jnl.signing = some m then s.met.jnl.waiting else []
  let s := (s.sealEnd m).writeSignature m
  let s := s.modJnl fun j => if j.signing = some m then { j with signing := none, waiting := [] } else j
  let s := waited.foldl (fun (s : State) (w : WaitRec) => match w with
    | .start .. => s
    | .finish .. => s
    | w => s.putRecord w) s
  s.modSup fun u => { u with signedMask := u.signedMask ||| 2 ^ m.val }

/-- The energy test of R191 for a reading of VHK in mV: ½ × `SUP_VHK_CAP` × (V² − 6.0²) ≥ 1.62 mJ. -/
def sealEnergy (s : State) (v : Nat) : Bool :=
  decide ((3240000000 : Int) ≤ s.get K.SUP_VHK_CAP * ((v : Int) * v - 36000000))

/-- Sessions in order, each started only if the test of R191 passes for its reading; a signature already being made is not
tested. Says whether all were signed. -/
def sealSessions (s : State) (vhk : Nat) : List (Fin 4) → List Nat → State × Bool
  | [], _ => (s, true)
  | m :: ms, vs =>
    if s.met.jnl.signing = some m then sealSessions (s.sealSession m) vhk ms vs
    else if s.sealEnergy (vs.headD vhk) then sealSessions (s.sealSession m) vhk ms (vs.drop 1)
    else (s, false)

/-! ### Steps 4 and 5 (R189) -/

/-- Step 4: the mode history entry of the SEAL and the isolation records (R55, R82). -/
def sealStep4 (s : State) : State :=
  let why : Reason := if s.sup.firstReason = 2 then .supplyLoss else if s.sup.firstReason = 3 then .railFault else .hrst
  let s := s.addHistory s.modes.sealStart s.modes.sealMode .seal why
  (List.finRange 56).foldl (fun (s : State) (p : Fin 56) => s.modPhase p fun x =>
    if x.st = .isolated ∧ x.isoReason ≠ .fenced ∧ x.stored = none then { x with stored := some (x.isoReason, x.isoAt) } else x) s

/-- The mode that follows SEAL (R45, R48). -/
def sealNext (s : State) : State :=
  if s.modes.sealCauses.supplyLoss then s.holdReset
  else
    let s := (s.modSup fun u => { u with reportDue := true, faultReport := u.slot.isSome }).modPath fun x => { x with cutoffDue := false }
    if s.modes.sealCauses.hrst then
      if s.modes.hrstLow then s.modModes fun x => { x with sealDone := true } else s.bootStart 4 .hrst
    else s.enterFailsafe .sealDone

/-- Sealing runs to its end (R189–R191). `vhks` are the readings of VHK before the sessions, in order, and `vhk` the one at
step 4, which also stands for readings that the list does not give. -/
def sealAll (s : State) (vhks : List Nat) (vhk : Nat) : State :=
  let s := s.sealStep2
  let (s, all) := s.sealStep3.sealSessions vhk s.sealOrder vhks
  let s := s.modSup fun u => { u with vhk := vhk }
  if all then
    let s := s.setStage 3 vhk
    let s := if 7500 ≤ vhk && !s.modes.holdup then s.sealStep4.setStage 4 vhk else s
    (s.mirTruncate.saveBeacon).sealNext
  else s.holdReset

/-- SEAL's steps are in progress. -/
def sealing (s : State) : Bool := decide (s.modes.mode = .seal) && !s.modes.heldReset && !s.modes.sealDone

/-! ### The sealing floor (R191) -/

/-- A write at `a` that VHK cuts short: the 8-byte words up to the one in progress, a free number of them below `n`, hold
what `t` holds there. -/
def tornWrite (s t : State) (a n : Nat) : State :=
  let (v, s) := s.fresh
  s.writeMram a (t.readMram a (8 * (v % (n : Int)).toNat))

/-- The slot of the next record holds all of what `t` holds there. -/
def recordWhole (s t : State) : Bool :=
  decide (s.readMram (jnlAddr s.met.jnl.next) 96 = t.readMram (jnlAddr s.met.jnl.next) 96)

/-- A journal record that VHK cuts short: its words up to the one in progress, or all of them with the header's slot still to be
written, or torn (R286). -/
def tornRecordWrite (s t : State) : State :=
  let (v, s) := s.fresh
  let s := s.tornWrite t (jnlAddr s.met.jnl.next) 13
  if s.recordWhole t && v % 2 = 0 then s.modJnl fun j => { j with header := j.header.tear } else s

/-- The floor comes in a session: while its END is written, or after it its SIGNATURE. -/
def tornSession (s : State) (m : Fin 4) : State :=
  let (v, s) := s.fresh
  let e := s.sealEnd m
  if !(s.point m).endWritten && v % 2 = 0 then s.tornRecordWrite e else e.tornRecordWrite (e.writeSignature m)

/-- The floor comes while the register copies are written: those of lower points are whole, that of point `m` is torn (R276). -/
def tornCopies (s : State) (m : Nat) : State :=
  (List.finRange 4).foldl (fun (s : State) (k : Fin 4) =>
    if !s.mpPresent k || m < k.val then s
    else if k.val < m then s.copyRegisters k
    else s.modPoint k fun x => { x with copy := x.copy.tear }) s

/-- VHK reaches 6.0 V (R191) with `steps` steps of R189 complete and, in step 3, `sessions` sessions signed: what was written
stands (the first action of step 3 may be the one cut short), and the Keeper holds itself in reset. -/
def sealFloor (s : State) (steps sessions : Nat) : State :=
  if steps < 2 then
    (match s.sup.snap, s.sup.slot with
    | some _, none => s.tornWrite s.sealStep2 (snapAddr s.snapSlot) 512
    | _, _ => s).holdReset
  else
    let (v, s) := s.sealStep2.fresh
    let copying := decide (steps < 3) && decide (sessions = 0) && decide (v % 5 < 4)
    let s := if copying then s.tornCopies (v % 5).toNat else s.sealStep3
    let order := s.sealOrder
    let s := (order.take sessions).foldl sealSession s
    if steps < 3 then
      (match order[sessions]? with
      | some m => if copying then s else s.tornSession m
      | none => s).holdReset
    else
      let s := ((order.drop sessions).foldl sealSession s).setStage 3 0
      (if steps < 4 || s.modes.holdup then s else s.sealStep4.setStage 4 0).holdReset

end State

/-- SEAL_DONE (R189): steps 2 to 5. -/
def execSealDone (vhks : List Nat) (vhk : Nat) (s : State) : Out := .next (if s.sealing then s.sealAll vhks vhk else s)

/-- SEALING_FLOOR_REACHED (R191). -/
def execSealingFloorReached (steps sessions : Nat) (s : State) : Out :=
  .next (if s.sealing then s.sealFloor steps sessions else s)

end Sys2Proof.Machine
end

