-- ==== Sys2Proof/Machine/Boot.lean ====
section
/-! DEFINITION. BOOT's steps (R52): the OTP check (R452), the journal key (R456), the self-tests, configuration, and journal
recovery (R291). -/

namespace Sys2Proof.Machine

/-- The RTC seconds of the copy that a point resumes from (R276). -/
def PointSt.copyTime (x : PointSt) : Nat := match x.copy.newest with | some (_, c) => c.rtc | none => 0

/-! ### OTP findings (R452) -/

/-- A finding: its code in `SEC_BOOT_DETAIL`, its row, and whether it is fatal; otherwise it warns. -/
structure OtpFinding where
  code : Nat
  row : Nat
  fatal : Bool
  deriving DecidableEq, Repr

/-- The finding of an uncorrectable ECC row; none where R452 only counts it. -/
def rowFinding (lc : Lifecycle) (r : Nat) : Option OtpFinding :=
  let seed (code : Nat) : Option OtpFinding := match lc with
    | .sealed => some ⟨code, r, true⟩ | .opened => some ⟨code, r, false⟩ | _ => none
  if 8 ≤ r && r < 64 then some ⟨5, r, decide (lc = .opened) || decide (lc = .sealed)⟩
  else if 72 ≤ r && r < 80 then some ⟨4, r, false⟩
  else if 80 ≤ r && r < 84 then seed 2
  else if 84 ≤ r && r < 92 then seed 3
  else if r = 96 || (128 ≤ r && r < 1008) then some ⟨6, r, false⟩
  else none

namespace State

/-- A bit of `BOOT_RESULT` (R52). -/
def bootBit (s : State) (k : Nat) : State := s.put K.BOOT_RESULT (setBit (s.get K.BOOT_RESULT) k)

/-- Set a bit of `BOOT_RESULT` where `b` holds. -/
def bootBitIf (s : State) (b : Bool) (k : Nat) : State := if b then s.bootBit k else s

/-- Voted rows of which one copy differs from the majority: as stored, or as the reading found. -/
def splitRows (s : State) (found : List Nat) : List Nat :=
  (List.range 1024).filter fun r =>
    otpVoted r && (found.contains r || (decide (r < 6) && decide ((s.otpRow r).data ≠ s.otpVote (r / 3 * 3))))

/-- ECC rows that read uncorrectable. -/
def badRows (s : State) : List Nat := (List.range 1008).filter fun r => !otpVoted r && !s.otpClean r

/-- The unambiguous lifecycle fields give SEALED (R452). -/
def surelySealed (s : State) : Bool := decide (6 ≤ s.lcBits 1) && !decide (6 ≤ s.lcBits 2)

/-- The journal key of R456, and whether its public half differs from rows 84–91. -/
def bootKey (s : State) : Option Bytes × Bool :=
  let rows := (List.range 12).all fun k => s.otpClean (80 + k)
  if !(s.sec.lifecycle = .opened || s.sec.lifecycle = .sealed) || !rows then (none, false)
  else match deriveKey s.seedBytes (s.otpRow 8).data with
    | none => (none, false)
    | some d => if ecdsaPublicKey d = s.otpBytes 84 8 then (some d, false) else (none, true)

/-- The OTP step of BOOT (R52, R452, R454, R456); a warning or count finding is reported after BOOT (R470). -/
def bootOtp (s : State) (rep : BootReport) : State :=
  let s := s.modOtp fun o => { o with bad := rep.bad.filter fun r => !otpVoted r && decide (r < 1008) }
  let lc := s.sec.lifecycle
  let (key, differs) := s.bootKey
  let split := s.splitRows rep.split
  let bad := s.badRows
  let amb : Bool := s.lcAmbiguous 0 || s.lcAmbiguous 1 || s.lcAmbiguous 2
  let fs : List OtpFinding := split.map (fun r => ⟨8, r, false⟩) ++ (if amb then [⟨1, 3, s.surelySealed⟩] else []) ++
    bad.filterMap (rowFinding lc) ++ (if differs then (rowFinding lc 80).toList else []) ++
    (if rep.firmwareBad then [⟨7, 0xFFFF, true⟩] else [])
  let right := rep.corrected.filter fun r => !otpVoted r && !bad.contains r
  let s := s.puts [(K.OTP_CORRECTED, right.length + split.length), (K.OTP_UNCORRECTABLE, bad.length)]
  let s := match fs with
    | f :: _ => s.puts [(K.SEC_BOOT_DETAIL, f.code), (K.OTP_FIRST_BAD, f.row)]
    | [] => s
  let s := s.modSec fun x => { x with key := if rep.firmwareBad then none else key, romOnly := rep.firmwareBad }
  let s := (s.bootBitIf (fs.any fun f => !f.fatal) 0).bootBitIf (fs.any fun f => f.fatal) 7
  let counted := !right.isEmpty || decide (lc = .returned) && bad.any fun r => decide (80 ≤ r) && decide (r < 92)
  if counted || fs.any fun f => !f.fatal then s.raiseLater Ev.sec 4 else s

/-- A fatal bit of `BOOT_RESULT` is set. -/
def bootFatal (s : State) : Bool := decide (s.getN K.BOOT_RESULT &&& 0xF0 ≠ 0)

/-- The charger's safe values, from row 96 or the fallback (R453). -/
def safeValues (s : State) : State :=
  let v := if s.otpClean 96 then (s.otpRow 96).data else 0
  let pick (key raw : Nat) (fallback : Int) : Int :=
    match Dict.find key with
    | some d => if raw ≠ 0 && Dict.inRange (Dict.rangeOf d (s.getN K.PP_CHEM) key) raw then raw else fallback
    | none => fallback
  s.puts [(K.CHG_SAFE_ICHG, pick K.CHG_ICHG (v % 65536) 500),
    (K.CHG_SAFE_VCELL, pick K.CHG_VCELL (v / 65536 % 65536) (if s.get K.PP_CHEM = 1 then 3400 else 4000))]

/-- A present tile whose link has not trained by the end of BOOT, or of a DORMANT exit, is fenced (R25, R306). -/
def fenceUntrained (s : State) : State :=
  (List.finRange 8).foldl (fun (s : State) (t : Fin 8) =>
    if t ≠ 0 && s.tileFitted t && !(s.tile t).fenced && decide ((s.link t).st ≠ .up) then s.trainFence t else s) s

/-! ### Journal recovery (R291) -/

/-- Record `q` as its slot holds it. -/
def recordAt (s : State) (q : Nat) : Bytes := s.readMram (jnlAddr q) 96

/-- A record's CRC is right (R283). -/
def recordSound (bs : Bytes) : Bool := decide (ofLE (bs.drop 92) = crc32 (bs.take 92))

/-- A slot holds record `q`: CRC and sequence number. -/
def recordIs (bs : Bytes) (q : Nat) : Bool := recordSound bs && decide (ofLE ((bs.drop 4).take 8) = q)

/-- The newer valid header slot is loaded (R291 step 1). -/
def loadHeader (s : State) : State :=
  match s.met.jnl.header.newest with
  | some (_, n, a) => s.modJnl fun j => { j with next := n, ack := a }
  | none => s

/-- What an adopted record says of its point's session: an END closes it, and a SIGNATURE ends it (R278, R291). -/
def adoptSession (s : State) (q : Nat) (bs : Bytes) : State :=
  match (List.finRange 4).find? fun m => decide (ofLE ((bs.drop 2).take 1) = m.val) with
  | none => s
  | some m =>
    let x := s.point m
    let kind := ofLE (bs.take 1)
    if kind = 2 && decide (x.sess = .opened ∨ x.sess = .closing) && !x.endWritten then
      s.modPoint m fun y => { y with sess := .closing, endWritten := true, endSeq := q,
                                     lastExp := ofLE ((bs.drop 64).take 8), lastImp := ofLE ((bs.drop 72).take 8) }
    else if kind = 3 && decide (x.sess = .closing) && x.endWritten then
      (s.modPoint m fun y => { y with sess := .none, closeTag := none, endWritten := false, closeSeen := false, overSeen := false }).bump
        (K.MP_SESSION_COUNT m)
    else s

/-- Records that were written after the header are adopted (R291 step 1). The first argument bounds their number. -/
def adoptRecords : Nat → State → State
  | 0, s => s
  | n + 1, s =>
    let bs := s.recordAt s.met.jnl.next
    if recordIs bs s.met.jnl.next && decide ((bs.drop 12).take 16 = s.jnlChain) then
      adoptRecords n ((s.adoptSession s.met.jnl.next bs).modJnl fun j => { j with next := j.next + 1 })
    else s

/-- The slot of the next record holds a torn one (R291 step 1). -/
def tornRecord (s : State) : Bool :=
  let bs := s.recordAt s.met.jnl.next
  !recordSound bs && !bs.all (· = 0#8)

/-- Record `q` fails the check of R291 step 2. -/
def recordFails (s : State) (q : Nat) : Bool :=
  let bs := s.recordAt q
  !recordIs bs q || (decide (s.jnlOldest < q) && decide ((bs.drop 12).take 16 ≠ (sha256 (s.recordAt (q - 1))).take 16))

/-- Some of the newest 64 records fail the check. -/
def chainFails (s : State) : Bool :=
  (List.range 64).any fun k =>
    let q := s.met.jnl.next - 1 - k
    decide (k + 1 < s.met.jnl.next) && decide (s.jnlOldest ≤ q) && s.recordFails q

/-- The registers resume from their copies (R276, R291 step 3). -/
def restoreRegisters (s : State) : State :=
  (List.finRange 4).foldl (fun (s : State) (m : Fin 4) => s.modPoint m fun x =>
    match x.copy.newest with
    | some (_, c) => { x with exp := c.exp, imp := c.imp, expRes := c.expRes, impRes := c.impRes }
    | none => { x with exp := 0, imp := 0, expRes := 0, impRes := 0 }) s

/-- The points whose session is not signed. -/
def unsignedPoints (s : State) : List (Fin 4) :=
  (List.finRange 4).filter fun m => decide ((s.point m).sess = .opened) || decide ((s.point m).sess = .closing)

/-- A session that is not signed is closed (R291 step 4). The fraction of its END, and the action byte where there is no key,
are not stated: free values. -/
def recoverSession (s : State) (m : Fin 4) : State :=
  let x := s.point m
  let keyed := s.sec.key.isSome
  let (frac, s) := s.fresh
  let (act, s) := s.fresh
  let s := if x.endWritten then s
    else (s.modPoint m fun y => { y with sess := .closing, reason := 6 }).writeEnd m
      x.copyTime (unsigned 15 frac) x.exp x.imp true (!keyed)
  let s := if keyed then s.writeSignature m
    else s.modPoint m fun y => { y with sess := .none, closeTag := none, endWritten := false, closeSeen := false, overSeen := false }
  let action := if keyed then (if x.endWritten then 2 else 1) else unsigned 8 act
  (s.raiseLater Ev.jnl 3).journalEvent .recovery m.val (toLE 1 m.val ++ toLE 1 action ++ toLE 8 x.startSeq)

/-- The records that every BOOT writes (R276, R290, R291 step 5); `n` sessions were recovered. -/
def bootRecords (s : State) (n : Nat) : State :=
  let s := s.journalEvent .boot 0xFF (toLE 4 (s.getN K.BOOT_COUNT) ++ toLE 1 s.modes.resetCause ++ toLE 1 n)
  let ms := (List.finRange 4).filter fun m => (s.point m).copy.newest.isSome
  let at_ := ms.foldl (fun (a : Nat) m => max a (s.point m).copyTime) 0
  let s := (s.journalEvent .registersRestored 0xFF (toLE 1 (ms.map fun m => 2 ^ m.val).sum ++ toLE 8 at_)).raiseLater Ev.met 1
  if s.oasis.valid then s
  else s.journalTimeInvalid (if s.oasis.backupLost then 1 else if s.oasis.oscRc then 2 else 3)

/-- Journal recovery (R291). -/
def recoverJournal (s : State) : State :=
  if !s.hasMetering then s
  else
    let s := s.loadHeader
    let known := s.met.jnl.next
    let s := adoptRecords 16384 s
    let grown := decide (s.met.jnl.next ≠ known)
    let torn := s.tornRecord
    let s := if torn then ((s.eraseMram (jnlAddr s.met.jnl.next) 96).raiseLater Ev.jnl 4).bump K.JNL_TORN_COUNT else s
    let broken := s.chainFails
    let s := if broken then s.raiseLater Ev.jnl 7 else s
    let s := s.restoreRegisters
    let ms := s.unsignedPoints
    let s := ms.foldl recoverSession s
    let found := grown || torn || broken || !ms.isEmpty
    (((s.modJnl fun j => { j with recovered := found }).bootBitIf found 8).bootRecords ms.length).writeHeader

/-! ### The steps -/

/-- The alive marker of Oasis is read and set (R471). -/
def bootOasis (s : State) : State :=
  let lost := !s.oasis.alive
  let s := s.modOasis fun o => { o with backupLost := lost, alive := true }
  if lost then s.raiseLater Ev.rtc 6 else s

/-- The PLL's step (R52, R275, R309): the links begin their training once it has locked or fallen back (R306). -/
def bootPll (s : State) (fail : Bool) : State :=
  let s := if fail then
      let s := ((s.bootBit 1).put K.TB_SOURCE 1).raiseLater Ev.met 0
      { s with met := { s.met with clockFault := true } }
    else s
  s.trainLinks fun t => decide ((s.link t).st = .idle)

/-- The configuration is loaded, the rails are built, the journal is recovered (R52). -/
def bootLoad (s : State) : State :=
  let s := s.fenceUntrained.loadConfig
  let s := s.bootBitIf (decide (s.get K.CFG_ACTIVE_SLOT = 0xFF)) 3
  let s := (List.finRange 32).foldl buildRail s.safeValues
  let s := s.recoverJournal
  if s.met.clockFault then s.journalEvent .clockFault 0xFF [] else s

/-- BOOT ends (R45, R52, R53): a latch that was set keeps its stored retry time; BOOT_WARNING for a bit that is not fatal, PB_RESET
after a long-press reset (R234), and the mode that follows. An IDLE reached after a wake raises WOKE (R57), and IDLE is announced
(R330). -/
def bootEnd (s : State) : State :=
  let s := if s.getN K.BOOT_RESULT &&& 0x10F ≠ 0 then s.raiseLater Ev.mode 5 else s
  let s := if s.path.pbReset then (s.modPath fun x => { x with pbReset := false }).raiseLater Ev.pp 6 else s
  if s.bootFatal then
    ((s.put K.FS_CAUSE 5).modModes fun x => { x with fsLatched := true, fsTimeWritten := x.fsLatched && x.fsTimeWritten }).enterFailsafe
      .bootFault
  else if s.modes.fsLatched then s.enterFailsafe .bootDone
  else
    let woke : Bool := s.modes.resetCause = 2 || s.modes.resetCause = 3
    let s := s.enterIdle .bootDone
    if s.portsOpen then (if woke then s.raise Ev.mode 4 else s).announce else s

/-- BOOT runs its steps in order; a fatal finding ends it (R52). -/
def bootComplete (s : State) (rep : BootReport) : State :=
  if s.modes.mode = .boot then
    let s := s.bootOasis.bootOtp rep
    if s.bootFatal then s.bootEnd
    else
      let s := (((s.bootPll rep.pllFail).bootBitIf rep.sramFail 4).bootBitIf rep.mramFail 5).bootBitIf rep.seifFail 6
      if s.bootFatal then s.bootEnd else s.bootLoad.bootEnd
  else s

end State

/-- BOOT_COMPLETE (R52). -/
def execBootComplete (rep : BootReport) (s : State) : Out := .next (s.bootComplete rep)

end Sys2Proof.Machine
end

