-- ==== Sys2Proof/Machine/Modes.lean ====
section
/-! DEFINITION. The supply, HRST and wake events of R45–R53, the DORMANT guard of R214 and the DORMANT exit. -/

namespace Sys2Proof.Machine
namespace State

/-- The reset that holds the Keeper in VAULT or SHIP ends, unless HRST or the long-press pulse keeps it (R48, R234, R392). -/
def leaveReset (s : State) : State :=
  if s.modes.hrstLow || s.path.pulse then s.modModes fun x => { x with heldReset := true }
  else match s.modes.mode, s.modes.waking with
    | .ship, _ => s.bootStart 3 .wake
    | _, some _ => s.bootStart 2 .wake
    | _, none => s.bootStart 1 .supplyReturn

/-- VHK passes POR release (R45, R160): fixed logic drives FOG; with its latch clear the device leaves VAULT or SHIP; with the VAULT
latch set the Keeper stays in held reset. -/
def vhkUp (s : State) : State :=
  match s.modes.mode with
  | .vault =>
    let s := { s with seq := { s.seq with fogDrive := true } }
    if s.modes.vaultLatch then s.modModes fun x => { x with heldReset := true } else s.leaveReset
  | .ship => if s.modes.shipLatch then s else { s with seq := { s.seq with fogDrive := true } }.leaveReset
  | _ => s

/-- VAULT without its latch: the Keeper has lost its supply (R45). -/
def loseSupply (s : State) : State :=
  let s := s.modModes fun x => { x with mode := .vault, vaultLatch := false, heldReset := false, sealDone := false, waking := none }
  let s := (s.modPath fun x => { x with pulse := x.pulse && x.pulseOpen, cutoffDue := false }).keeperRest
  s.refreshAux

/-- VHK falls below POR (R45, R48, R234). -/
def vhkDown (s : State) : State :=
  match s.modes.mode with
  | .dormant => s.loseSupply
  | .seal => (s.modSup fun u => { u with reportDue := true, faultReport := u.slot.isSome }).loseSupply
  | .vault =>
    ((s.modModes fun x => { x with heldReset := false }).modPath fun x => { x with pulse := x.pulse && x.pulseOpen }).keeperRest
  | .ship => (s.modModes fun x => { x with heldReset := false }).keeperRest
  | _ => s

/-- VHK falls below 7.5 V (R45, R54): non-legal writes are blocked, and SEAL starts or gains a cause. -/
def vhkWarning (s : State) (vhk : Nat) : State :=
  if s.keeperRuns && !s.modes.holdup then
    let s := (s.modModes fun x => { x with holdup := true }).modSup fun u => { u with vhk := vhk }
    s.supplyLoss.raiseLater Ev.sup 9
  else s

/-- A recognised HRST low (R45, R392): frames on the ports end; SEAL, or in DORMANT a reset that holds until HRST rises. -/
def hrstAssert (s : State) : State :=
  let s := s.modModes fun x => { x with hrstLow := true }
  match s.modes.mode with
  | .vault | .ship => s
  | .dormant => (s.modModes fun x => { x with heldReset := true, waking := none }).keeperRest
  | _ => s.supplyEvent hrstTrigger

/-- HRST rises (R45, R392): a finished SEAL, a reset from DORMANT, or a BOOT that HRST held off, proceeds. -/
def hrstRelease (s : State) : State :=
  if !s.modes.hrstLow then s
  else
    let s := s.modModes fun x => { x with hrstLow := false }
    match s.modes.mode with
    | .seal => if s.modes.sealDone && !s.modes.heldReset then s.bootStart 4 .hrst else s
    | .dormant => if s.modes.heldReset then s.bootStart 4 .hrst else s
    | .vault => if s.modes.heldReset && !s.modes.vaultLatch then s.leaveReset else s
    | .ship => if s.modes.heldReset && !s.modes.shipLatch then s.leaveReset else s
    | _ => s

/-- The held reset after a SEAL ends (R48). DESIGN CHOICE (log 142): its BOOT enters the history with SUPPLY_RETURN, that of a SHIP
exit with WAKE, and that of HRST in DORMANT with HRST, for R55 does not say which. -/
def heldResetEnds (s : State) : State :=
  if s.modes.mode = .seal && s.modes.heldReset && !s.modes.hrstLow && !s.path.pulse then s.bootStart 5 .supplyReturn else s

/-- The retry time is reached (R53). -/
def retryDue (s : State) : State :=
  if s.modes.mode = .failsafe && s.modes.heldClear.isNone && s.get K.FS_RETRY_AT ≠ 0 then
    ({ s with now := max s.now (s.getN K.FS_RETRY_AT) }).fsRetry
  else s

/-- The retained thermal guard samples its sensor (R214): two readings above its limit open the outputs kept on, and wake. -/
def guardSample (s : State) (reading : Int) : State :=
  if s.modes.mode = .dormant && s.therm.guardOn.isSome && !s.therm.guardTripped && !s.modes.heldReset then
    let n := if s.therm.guardLimit < reading then s.therm.guardRun + 1 else 0
    let s := { s with therm := { s.therm with guardRun := n } }
    if n < 2 then s
    else
      let s := s.auxOn.foldl (fun (s : State) (k : Fin 4) => (s.auxOpen k).modAux k fun x => { x with forcedOff := true, heldOff := true }) s
      ({ s.setVpre with therm := { s.therm with guardTripped := true } }).wake 0x100
  else s

/-- DORMANT ends in IDLE (R45, R51, R214): tiles that did not retrain are fenced, WOKE is raised, and the outputs that the guard
opened stay off. Beacon time runs on the RC where the crystal did not lock (R309). -/
def dormantExit (s : State) (pllFail : Bool) : State :=
  match s.modes.mode, s.modes.waking with
  | .dormant, some _ =>
    let tripped := s.therm.guardTripped
    let s := (if pllFail then s.crystalLoss else s.put K.TB_SOURCE 0).fenceUntrained.modModes fun x => { x with waking := none }
    let s := { s with seq := { s.seq with bellDrive := s.coopBit 2 }, therm := { s.therm with guardOn := none, guardTripped := false } }
    let s := ((s.setMode .idle .wake).idleEntry).refsDue true
    let s := if tripped then s.raiseSir 0 7 else s
    ((s.raise Ev.mode 4).pathCarry.pathEval).supplyLevels
  | _, _ => s

end State

/-- VHK_POR_RELEASE (R45). -/
def execVhkPorRelease (s : State) : Out := .next s.vhkUp

/-- VHK_BELOW_POR (R45). -/
def execVhkBelowPor (s : State) : Out := .next s.vhkDown

/-- HOLDUP_WARNING (R45): VHK reads `vhk` mV. -/
def execHoldupWarning (vhk : Nat) (s : State) : Out := .next (s.vhkWarning vhk)

/-- HRST_ASSERT (R392). -/
def execHrstAssert (s : State) : Out := .next s.hrstAssert

/-- HRST_RELEASE (R45). -/
def execHrstRelease (s : State) : Out := .next s.hrstRelease

/-- WAKE_EVENT (R51): the sources recognised in one RTC cycle, laid out as `WAKE_SOURCE`. -/
def execWakeEvent (sources : Nat) (s : State) : Out := .next (s.wake sources)

/-- DORMANT_EXIT_DONE (R51): `pllFail` says that the PLL fell back to the RC (R309). -/
def execDormantExitDone (pllFail : Bool) (s : State) : Out := .next (s.dormantExit pllFail)

/-- HELD_RESET_RELEASE (R48). -/
def execHeldResetRelease (s : State) : Out := .next s.heldResetEnds

/-- FAILSAFE_RETRY (R53). -/
def execFailsafeRetry (s : State) : Out := .next s.retryDue

/-- FS_CLEAN_TIME_REACHED (R53). -/
def execFsCleanTimeReached (s : State) : Out := .next s.fsCleanTime

/-- THERMAL_GUARD_SAMPLE (R214): the sensor reads `reading` in 0.01 °C. -/
def execThermalGuardSample (reading : Int) (s : State) : Out := .next (s.guardSample reading)

end Sys2Proof.Machine
end

