-- ==== Sys2Proof/Machine/Tick.lean ====
section
/-! DEFINITION. The management tick (R131) and the legacy slave's commands (R167). -/

namespace Sys2Proof.Machine
namespace State

/-! ### The tick -/

/-- VQPS over the last tick, which is the last 10 ms (R447): its mean lies in 1,750–1,850 mV and it did not leave that range. A
mean outside the range says that it left. -/
def takeVqps (s : State) (mv : Int) : State :=
  if 1750 ≤ mv ∧ mv ≤ 1850 then s.modOtp fun o => { o with vqpsOk := !o.vqpsLeft, vqpsLeft := false }
  else (s.modOtp fun o => { o with vqpsOk := false, vqpsLeft := false }).closeWindow

/-- Take up one measured value. -/
def takeMeasure (s : State) : Measure → State
  | .obj key v =>
    if key = K.OTP_VQPS then (s.put key v).takeVqps v
    else if key = K.PP_VBAT then (s.put key v).modPath fun x => { x with vbatKnown := true }
    else if s.takes key then s.put key v else s
  | .preRegulator mw => s.modLedger fun l => { l with preIn := mw }
  | .lines fog bell => { s with seq := { s.seq with fogBall := fog, bellBall := bell, fogFrom := if s.seq.fogBall && !fog then s.now else s.seq.fogFrom } }
  | .auxLimit k limit => s.auxLimiting k limit
  | .ntc mv => s.readNtc mv
  | .bid mv => s.readBid mv
  | .vhk mv => s.modSup fun u => { u with vhk := mv }
  | .gates infet batpath =>
    (s.modPath fun x => { x with vinAbove := if x.vinBlock then x.vinAbove else infet, infetOn := infet && x.inService && !x.vinBlock,
                                  batpathOn := batpath && !x.restHold }).modEst fun e =>
      { e with batpathSeen := e.batpathSeen || (batpath && !s.path.restHold) }
  | .chargeSense uv => if !s.hasCharger then s else s.put K.CHG_I (quot (1000 * clampInt (-100000) 100000 uv) (s.get K.CHG_RSENSE))
  | .rtcFraction f => s.modOasis fun o => if o.supply = .lost || o.saturated then o else { o with frac := f % 32768, fracAt := s.now }

/-- A phase's measurements at the tick (R73, R78, R89): its mean current over the tick is the mean of the cycles that count. A phase
that ran none carries none, but one that is ACTIVE, whose mean is not stated, reads a free value. A fenced tile's objects keep their
values (R313). -/
def closePhase (s : State) (p : Fin 56) : State :=
  let x := s.phase p
  if !s.phasePresent p || (s.tile (tileOf p)).fenced then s
  else
    let (v, s) := if x.iN ≠ 0 then (quot x.iSum x.iN, s) else if x.st = .active then s.fresh else (0, s)
    let s := s.puts [(K.PH_I p, v), (K.PH_I_PEAK p, x.peak), (K.PH_DUTY p, x.duty), (K.PH_VCF p, if isBus p then 0 else x.vcf)]
    let s := match x.vbus with
      | some v => if x.cycles = 0 then s else s.put (K.PH_VBUS p) v
      | none => s
    s.modPhase p fun x => { x with iSum := 0, iN := 0 }

/-- A rail's current, power and reference at the tick (R99, R118). -/
def closeRail (s : State) (r : Fin 32) : State :=
  let i := ((s.rail r).members.map fun p => s.get (K.PH_I p)).sum
  s.puts [(K.RAIL_I r, i), (K.RAIL_P r, quot (s.get (K.RAIL_V r) * i) 1000), (K.RAIL_VREF r, s.refMv r)]

/-- The values that the tick forms from what was measured (R99, R115, R118). -/
def closeTick (s : State) : State :=
  let s := (List.finRange 56).foldl closePhase s
  let s := (List.finRange 32).foldl closeRail s
  (List.finRange 4).foldl (fun s k => (s.setAuxLoss k).auxPg k (s.get (K.AUX_V k))) s

/-- FAILSAFE's part of a tick (R53): a held clear is taken first, and otherwise a retry that is due. -/
def failsafeTick (s : State) : State :=
  if s.modes.mode = .failsafe then
    match s.modes.heldClear with
    | some why => s.fsClear why
    | none => s.fsRetry
  else s

/-- The beacon time is saved every 60 s (R309, R417). -/
def beaconTick (s : State) : State :=
  let due := match s.modes.beaconSaved with | some b => decide (b + 6000000000 ≤ s.now) | none => true
  if due then s.saveBeacon else s

/-- What the tick does once the measured values are in: accounts and budgets, groups, temperatures, charger, path,
estimator, then the mode. -/
def tickWork (s : State) : State :=
  let s := ((((s.meterTick.ledgerTick).takeUpGroups).siroccoTick).chargerTick).pathEval
  let s := s.supplyLevels
  if !s.portsOpen then s
  else
    let s := ((s.estTick.cellRearm).failsafeTick).finishService
    if !s.portsOpen then s else ((s.evalMode.beaconTick).netBegin).sendEvents

/-- The management tick: beacon time reaches the next multiple of 10 ms. A halted processor runs no management plane (R466). -/
def managementTick (s : State) (ms : List Measure) : State :=
  let s := if s.keeperRuns then s.timeTo ((s.now / 1000000 + 1) * 1000000) else s
  if !s.portsOpen || s.sec.halted then s else (ms.foldl takeMeasure s).closeTick.tickWork

/-! ### The legacy slave (R167) -/

/-- The device answers the legacy command set: slave mode, with its ports open (R44, R167). -/
def legacySlave (s : State) : Bool := decide (s.get K.SEQ_LEGACY_MODE = 2) && s.portsOpen

/-- An accepted legacy command is counted and reported (R167). -/
def legacyAccepted (s : State) : State := (s.bump K.SEQ_LEGACY_CMD_COUNT).raise Ev.seq 9

/-- The device's address as a legacy slave (R167). -/
def legacyAddr : Nat := 0x58 + Config.addrPins % 8

/-- A legacy frame to 7-bit address `a`: answered at the device's own in slave mode, and otherwise the device is silent. -/
def legacyFrame (s : State) (a : Nat) (f : State → State × Answer) : State :=
  if s.legacySlave && decide (a = legacyAddr) then
    let (t, ans) := f s
    { t with answer := ans }
  else { s with answer := .silent }

/-- A write frame of command `code` with the byte `n` and the CRC that the master sent: a bad CRC is NACKed and the frame discarded
(R164, R167). -/
def legacyWrite (s : State) (a code n crc : Nat) (f : State → State) : State :=
  s.legacyFrame a fun s =>
    if writeFrame a code n = [addressByte a false, BitVec.ofNat 8 code, BitVec.ofNat 8 n, BitVec.ofNat 8 crc] then (f s, .done)
    else (s, .silent)

/-- STAGE_GO and STAGE_DOWN: a group command with the rights of HOST; one that R144 would refuse has no effect. -/
def legacyGroup (s : State) (n : Fin 16) (up : Bool) : State :=
  if !s.groupMode then s
  else match s.groupCommand n up .host with
    | some (t, _) =>
      let t := t.releaseDependants
      ({ t with seq := { t.seq with lastGroup := n.val, lastGo := up, commanded := true } }).legacyAccepted
    | none => s.countFull

/-- The status byte (R164, R167). -/
def legacyStatus (s : State) : Nat :=
  let g : Fin 16 := Fin.ofNat 16 s.seq.lastGroup
  let x := (s.group g).st
  let done : Bool := s.seq.commanded && decide (x = if s.seq.lastGo then .up else .down)
  let busy : Bool := s.seq.commanded && (decide (x = .held) || decide (x = .rising) || decide (x = .falling))
  (if done then 1 else 0) + (if s.modes.mode = .failsafe then 2 else 0) + (if busy then 4 else 0) + 16 * g.val

/-- ALL_OFF: every group that is not DOWN goes down, each with its own tag. -/
def legacyAllOff (s : State) : State :=
  if !s.groupMode then s
  else
    ((List.finRange 16).foldl (fun (s : State) (g : Fin 16) =>
      if (s.group g).st = .down then s
      else match s.groupCommand g false .host with
        | some (t, _) => t.releaseDependants
        | none => s.countFull) s).legacyAccepted

/-- FAULT_CLEAR: a FAILSAFE clear, where `SEQ_LEGACY_ALLOW_CLEAR` allows it. -/
def legacyClear (s : State) : State :=
  if s.flag K.SEQ_LEGACY_ALLOW_CLEAR then s.legacyAccepted.fsClear .fsClearCommand else s

end State

/-- MANAGEMENT_TICK (R131): `ms` are the measured values that are new at the tick. -/
def execManagementTick (ms : List Measure) (s : State) : Out := .next (s.managementTick ms)

/-- LEGACY_STAGE_GO (R167). -/
def execLegacyStageGo (a : Nat) (n : Fin 16) (crc : Nat) (s : State) : Out :=
  .next (s.legacyWrite a 0x10 n crc fun s => s.legacyGroup n true)

/-- LEGACY_STAGE_DOWN (R167). -/
def execLegacyStageDown (a : Nat) (n : Fin 16) (crc : Nat) (s : State) : Out :=
  .next (s.legacyWrite a 0x11 n crc fun s => s.legacyGroup n false)

/-- LEGACY_STATUS_READ (R167). -/
def execLegacyStatusRead (a : Nat) (s : State) : Out :=
  .next (s.legacyFrame a fun s => (s.legacyAccepted, .data (replyBytes a 0x20 (toLE 1 s.legacyStatus))))

/-- LEGACY_ID_READ (R167). -/
def execLegacyIdRead (a : Nat) (s : State) : Out :=
  .next (s.legacyFrame a fun s => (s.legacyAccepted, .data (replyBytes a 0x01 [0x10#8, 0x44#8, 0x68#8])))

/-- LEGACY_ALL_OFF (R167). -/
def execLegacyAllOff (a crc : Nat) (s : State) : Out := .next (s.legacyWrite a 0x31 0 crc fun s => s.legacyAllOff)

/-- LEGACY_FAULT_CLEAR (R167). -/
def execLegacyFaultClear (a crc : Nat) (s : State) : Out := .next (s.legacyWrite a 0x30 0 crc fun s => s.legacyClear)

end Sys2Proof.Machine
end

