-- ==== Sys2Proof/Machine/Dispatch.lean ====
section
/-! DEFINITION. Which meaning each command has. -/

namespace Sys2Proof.Machine

/-- The effect of a command on everything but the queue. -/
def exec (i : Instr) (s : State) : Host.Outcome State Fault Refusal :=
  match i with
  | .vhkPorRelease => Sys2Proof.Machine.execVhkPorRelease s
  | .vhkBelowPor => Sys2Proof.Machine.execVhkBelowPor s
  | .holdupWarning vhk => Sys2Proof.Machine.execHoldupWarning vhk s
  | .hrstAssert => Sys2Proof.Machine.execHrstAssert s
  | .hrstRelease => Sys2Proof.Machine.execHrstRelease s
  | .bootComplete rep => Sys2Proof.Machine.execBootComplete rep s
  | .modeRequestVault acc woken beaten => Sys2Proof.Machine.execModeRequestVault acc woken beaten s
  | .modeRequestShip acc beaten => Sys2Proof.Machine.execModeRequestShip acc beaten s
  | .modeRequestDormant acc woken beaten => Sys2Proof.Machine.execModeRequestDormant acc woken beaten s
  | .modeRequestIdle acc => Sys2Proof.Machine.execModeRequestIdle acc s
  | .modeRequestService acc beaten => Sys2Proof.Machine.execModeRequestService acc beaten s
  | .wakeEvent sources => Sys2Proof.Machine.execWakeEvent sources s
  | .dormantExitDone pllFail => Sys2Proof.Machine.execDormantExitDone pllFail s
  | .vinAbsent1ms => Sys2Proof.Machine.execVinAbsent1ms s
  | .batteryUnusable => Sys2Proof.Machine.execBatteryUnusable s
  | .heldResetRelease => Sys2Proof.Machine.execHeldResetRelease s
  | .failsafeRetry => Sys2Proof.Machine.execFailsafeRetry s
  | .fsCleanTimeReached => Sys2Proof.Machine.execFsCleanTimeReached s
  | .sealDone vhks vhk => Sys2Proof.Machine.execSealDone vhks vhk s
  | .managementTick ms => Sys2Proof.Machine.execManagementTick ms s
  | .syncinEdge periodNs => Sys2Proof.Machine.execSyncinEdge periodNs s
  | .syncinTimeout => Sys2Proof.Machine.execSyncinTimeout s
  | .switchingCycleEdge p inp => Sys2Proof.Machine.execSwitchingCycleEdge p inp s
  | .poolAverageForm r => Sys2Proof.Machine.execPoolAverageForm r s
  | .senseOpenCode p left => Sys2Proof.Machine.execSenseOpenCode p left s
  | .senseTestOutcome p reading stamp => Sys2Proof.Machine.execSenseTestOutcome p reading stamp s
  | .openPhase p => Sys2Proof.Machine.execOpenPhase p s
  | .cfFault p atPrebiasEnd => Sys2Proof.Machine.execCfFault p atPrebiasEnd s
  | .prebiasTimeout p => Sys2Proof.Machine.execPrebiasTimeout p s
  | .prebiasComplete p inp => Sys2Proof.Machine.execPrebiasComplete p inp s
  | .phaseIsolationEdge p => Sys2Proof.Machine.execPhaseIsolationEdge p s
  | .spareCheckDone p finding => Sys2Proof.Machine.execSpareCheckDone p finding s
  | .phClearIso acc p => Sys2Proof.Machine.execPhClearIso acc p s
  | .phIsolate acc p => Sys2Proof.Machine.execPhIsolate acc p s
  | .shedDwellExpired r => Sys2Proof.Machine.execShedDwellExpired r s
  | .phIPeakRead acc p => Sys2Proof.Machine.execPhIPeakRead acc p s
  | .lanternVbusUvlo t => Sys2Proof.Machine.execLanternVbusUvlo t s
  | .railVsetWrite acc r mv => Sys2Proof.Machine.execRailVsetWrite acc r mv s
  | .railCtrlPowerUp acc r => Sys2Proof.Machine.execRailCtrlPowerUp acc r s
  | .railCtrlPowerDown acc r => Sys2Proof.Machine.execRailCtrlPowerDown acc r s
  | .railPowerUpApply r => Sys2Proof.Machine.execRailPowerUpApply r s
  | .railPowerDownApply r => Sys2Proof.Machine.execRailPowerDownApply r s
  | .railVoltageApply r => Sys2Proof.Machine.execRailVoltageApply r s
  | .railAbortApply r => Sys2Proof.Machine.execRailAbortApply r s
  | .onDelayElapsed r => Sys2Proof.Machine.execOnDelayElapsed r s
  | .rampUpStart r v0 => Sys2Proof.Machine.execRampUpStart r v0 s
  | .referenceAtTarget r => Sys2Proof.Machine.execReferenceAtTarget r s
  | .offDelayElapsed r => Sys2Proof.Machine.execOffDelayElapsed r s
  | .referenceBelowFloor r => Sys2Proof.Machine.execReferenceBelowFloor r s
  | .dischargeDone r v => Sys2Proof.Machine.execDischargeDone r v s
  | .dischargeSlow r => Sys2Proof.Machine.execDischargeSlow r s
  | .coilPullInElapsed r => Sys2Proof.Machine.execCoilPullInElapsed r s
  | .coilReleaseEnd r => Sys2Proof.Machine.execCoilReleaseEnd r s
  | .coilOpen r => Sys2Proof.Machine.execCoilOpen r s
  | .ocDwellExpired r stamp => Sys2Proof.Machine.execOcDwellExpired r stamp s
  | .auxEnWrite acc k on => Sys2Proof.Machine.execAuxEnWrite acc k on s
  | .auxVsetWrite acc k mv => Sys2Proof.Machine.execAuxVsetWrite acc k mv s
  | .auxRampDone k v => Sys2Proof.Machine.execAuxRampDone k v s
  | .auxOcDwellExpired k => Sys2Proof.Machine.execAuxOcDwellExpired k s
  | .auxUv k v => Sys2Proof.Machine.execAuxUv k v s
  | .lossHigh => Sys2Proof.Machine.execLossHigh s
  | .fastEstimate => Sys2Proof.Machine.execFastEstimate s
  | .fastCapsInForce => Sys2Proof.Machine.execFastCapsInForce s
  | .ledgerEClear acc => Sys2Proof.Machine.execLedgerEClear acc s
  | .ledgerAccountCopy => Sys2Proof.Machine.execLedgerAccountCopy s
  | .grpCmdPowerUp acc g => Sys2Proof.Machine.execGrpCmdPowerUp acc g s
  | .grpCmdPowerDown acc g => Sys2Proof.Machine.execGrpCmdPowerDown acc g s
  | .groupGatesOpen g => Sys2Proof.Machine.execGroupGatesOpen g s
  | .stepDelayElapsed g => Sys2Proof.Machine.execStepDelayElapsed g s
  | .stepComplete g => Sys2Proof.Machine.execStepComplete g s
  | .stepTimeout g => Sys2Proof.Machine.execStepTimeout g s
  | .pgSample r v => Sys2Proof.Machine.execPgSample r v s
  | .pgQualified r => Sys2Proof.Machine.execPgQualified r s
  | .stepOffDelayElapsed g => Sys2Proof.Machine.execStepOffDelayElapsed g s
  | .stepRailsDown g => Sys2Proof.Machine.execStepRailsDown g s
  | .seqChatterClear acc => Sys2Proof.Machine.execSeqChatterClear acc s
  | .fogLowRecognised => Sys2Proof.Machine.execFogLowRecognised s
  | .fogReleased => Sys2Proof.Machine.execFogReleased s
  | .bellRing => Sys2Proof.Machine.execBellRing s
  | .bellHoldEnd => Sys2Proof.Machine.execBellHoldEnd s
  | .bellTimeout => Sys2Proof.Machine.execBellTimeout s
  | .legacyPoll k reply => Sys2Proof.Machine.execLegacyPoll k reply s
  | .legacyRetry k reply => Sys2Proof.Machine.execLegacyRetry k reply s
  | .legacyStageGo a n crc => Sys2Proof.Machine.execLegacyStageGo a n crc s
  | .legacyStageDown a n crc => Sys2Proof.Machine.execLegacyStageDown a n crc s
  | .legacyStatusRead a => Sys2Proof.Machine.execLegacyStatusRead a s
  | .legacyIdRead a => Sys2Proof.Machine.execLegacyIdRead a s
  | .legacyAllOff a crc => Sys2Proof.Machine.execLegacyAllOff a crc s
  | .legacyFaultClear a crc => Sys2Proof.Machine.execLegacyFaultClear a crc s
  | .railOvTrip r t v stamp => Sys2Proof.Machine.execRailOvTrip r t v stamp s
  | .railUvTrip r v stamp => Sys2Proof.Machine.execRailUvTrip r v stamp s
  | .pgLossTrip r stamp => Sys2Proof.Machine.execPgLossTrip r stamp s
  | .phaseOcTrip p readings stamp => Sys2Proof.Machine.execPhaseOcTrip p readings stamp s
  | .triggerStampTimeout => Sys2Proof.Machine.execTriggerStampTimeout s
  | .sealingFloorReached steps sessions => Sys2Proof.Machine.execSealingFloorReached steps sessions s
  | .senseDisagree r t v lead => Sys2Proof.Machine.execSenseDisagree r t v lead s
  | .supQuench acc => Sys2Proof.Machine.execSupQuench acc s
  | .supSnapTake acc => Sys2Proof.Machine.execSupSnapTake acc s
  | .supSnapClear acc => Sys2Proof.Machine.execSupSnapClear acc s
  | .mramLeaseRevoke c => Sys2Proof.Machine.execMramLeaseRevoke c s
  | .channelLeaseRevoke c => Sys2Proof.Machine.execChannelLeaseRevoke c s
  | .tagReservationExpiry t => Sys2Proof.Machine.execTagReservationExpiry t s
  | .sclStretchTimeout => Sys2Proof.Machine.execSclStretchTimeout s
  | .busClearSample sdaLow => Sys2Proof.Machine.execBusClearSample sdaLow s
  | .busClearRepeat => Sys2Proof.Machine.execBusClearRepeat s
  | .twBusRecovered => Sys2Proof.Machine.execTwBusRecovered s
  | .siroccoUpdate => Sys2Proof.Machine.execSiroccoUpdate s
  | .tempLimitModel => Sys2Proof.Machine.execTempLimitModel s
  | .sensorSample t rs => Sys2Proof.Machine.execSensorSample t rs s
  | .tempLimitSensor => Sys2Proof.Machine.execTempLimitSensor s
  | .sensorBroken => Sys2Proof.Machine.execSensorBroken s
  | .rateSlow t => Sys2Proof.Machine.execRateSlow t s
  | .modelDiverge t => Sys2Proof.Machine.execModelDiverge t s
  | .sirSensorReset acc => Sys2Proof.Machine.execSirSensorReset acc s
  | .thermalGuardSample reading => Sys2Proof.Machine.execThermalGuardSample reading s
  | .vinComparatorTrip high => Sys2Proof.Machine.execVinComparatorTrip high s
  | .vinWindowEnter => Sys2Proof.Machine.execVinWindowEnter s
  | .vinWindowExit => Sys2Proof.Machine.execVinWindowExit s
  | .vinQualified => Sys2Proof.Machine.execVinQualified s
  | .switchbackDone => Sys2Proof.Machine.execSwitchbackDone s
  | .restEnter => Sys2Proof.Machine.execRestEnter s
  | .restWindowEnd => Sys2Proof.Machine.execRestWindowEnd s
  | .vbatCutoff v => Sys2Proof.Machine.execVbatCutoff v s
  | .batteryProbe => Sys2Proof.Machine.execBatteryProbe s
  | .probeResult rise endV => Sys2Proof.Machine.execProbeResult rise endV s
  | .chargerCycle current voltage => Sys2Proof.Machine.execChargerCycle current voltage s
  | .chgEnWrite acc v => Sys2Proof.Machine.execChgEnWrite acc v s
  | .chgStart acc => Sys2Proof.Machine.execChgStart acc s
  | .chgWdKick acc => Sys2Proof.Machine.execChgWdKick acc s
  | .chgWatchdogExpiry => Sys2Proof.Machine.execChgWatchdogExpiry s
  | .prechargeQualified => Sys2Proof.Machine.execPrechargeQualified s
  | .chgTermination => Sys2Proof.Machine.execChgTermination s
  | .rechargeThreshold => Sys2Proof.Machine.execRechargeThreshold s
  | .chgTimerExpiry => Sys2Proof.Machine.execChgTimerExpiry s
  | .chgOvStop v => Sys2Proof.Machine.execChgOvStop v s
  | .chgOvCheck v => Sys2Proof.Machine.execChgOvCheck v s
  | .pbPress => Sys2Proof.Machine.execPbPress s
  | .pbShortPress => Sys2Proof.Machine.execPbShortPress s
  | .pbLongPress => Sys2Proof.Machine.execPbLongPress s
  | .longPressBatfetRelease => Sys2Proof.Machine.execLongPressBatfetRelease s
  | .restAnchor => Sys2Proof.Machine.execRestAnchor s
  | .confidenceExpired => Sys2Proof.Machine.execConfidenceExpired s
  | .forcedRestRequest => Sys2Proof.Machine.execForcedRestRequest s
  | .forcedRestRetry => Sys2Proof.Machine.execForcedRestRetry s
  | .bidChange => Sys2Proof.Machine.execBidChange s
  | .estImpRowWrite acc r data => Sys2Proof.Machine.execEstImpRowWrite acc r data s
  | .estLearnReset acc => Sys2Proof.Machine.execEstLearnReset acc s
  | .estFrestAbort acc => Sys2Proof.Machine.execEstFrestAbort acc s
  | .coreRecordWrite => Sys2Proof.Machine.execCoreRecordWrite s
  | .meteringSample m bitsV bitsI => Sys2Proof.Machine.execMeteringSample m bitsV bitsI s
  | .inputStuck m current => Sys2Proof.Machine.execInputStuck m current s
  | .inputRestored m current => Sys2Proof.Machine.execInputRestored m current s
  | .stuckSessionFault m => Sys2Proof.Machine.execStuckSessionFault m s
  | .pllLockLost => Sys2Proof.Machine.execPllLockLost s
  | .mpSessionOpen acc m => Sys2Proof.Machine.execMpSessionOpen acc m s
  | .mpSessionClose acc m => Sys2Proof.Machine.execMpSessionClose acc m s
  | .sessionOpenInstant m => Sys2Proof.Machine.execSessionOpenInstant m s
  | .sessionCloseInstant m => Sys2Proof.Machine.execSessionCloseInstant m s
  | .sessionSigned m => Sys2Proof.Machine.execSessionSigned m s
  | .registerCopy => Sys2Proof.Machine.execRegisterCopy s
  | .metEClear acc => Sys2Proof.Machine.execMetEClear acc s
  | .calibrationWrite acc key data => Sys2Proof.Machine.execCalibrationWrite acc key data s
  | .jnlAckWrite acc v => Sys2Proof.Machine.execJnlAckWrite acc v s
  | .jnlReadRec acc => Sys2Proof.Machine.execJnlReadRec acc s
  | .jnlReadBlock acc => Sys2Proof.Machine.execJnlReadBlock acc s
  | .jnlInit acc => Sys2Proof.Machine.execJnlInit acc s
  | .flitStatus t seq frame samples => Sys2Proof.Machine.execFlitStatus t seq frame samples s
  | .flitSample t seq samples => Sys2Proof.Machine.execFlitSample t seq samples s
  | .flitAcknak t up payload => Sys2Proof.Machine.execFlitAcknak t up payload s
  | .flitTime t seq b clocks => Sys2Proof.Machine.execFlitTime t seq b clocks s
  | .flitCommand t up seq ack samples => Sys2Proof.Machine.execFlitCommand t up seq ack samples s
  | .flitTrain t mask failedStep => Sys2Proof.Machine.execFlitTrain t mask failedStep s
  | .flitUrgent t seq body => Sys2Proof.Machine.execFlitUrgent t seq body s
  | .flitBad t up word => Sys2Proof.Machine.execFlitBad t up word s
  | .ackTimer t atTile => Sys2Proof.Machine.execAckTimer t atTile s
  | .linkSilent t => Sys2Proof.Machine.execLinkSilent t s
  | .linkClockLost t => Sys2Proof.Machine.execLinkClockLost t s
  | .downLinkLost t => Sys2Proof.Machine.execDownLinkLost t s
  | .linkTrained t mask echoes turnaround => Sys2Proof.Machine.execLinkTrained t mask echoes turnaround s
  | .trainingDeadline t step => Sys2Proof.Machine.execTrainingDeadline t step s
  | .timeFlitTick => Sys2Proof.Machine.execTimeFlitTick s
  | .crystalLoss => Sys2Proof.Machine.execCrystalLoss s
  | .cutInstant b samples => Sys2Proof.Machine.execCutInstant b samples s
  | .habArmCmd acc => Sys2Proof.Machine.execHabArmCmd acc s
  | .habDisarmCmd acc => Sys2Proof.Machine.execHabDisarmCmd acc s
  | .beamTimeOffsetMaxRead acc t => Sys2Proof.Machine.execBeamTimeOffsetMaxRead acc t s
  | .hailReq f => Sys2Proof.Machine.execHailReq f s
  | .bye f => Sys2Proof.Machine.execBye f s
  | .heartbeat f => Sys2Proof.Machine.execHeartbeat f s
  | .readReq f => Sys2Proof.Machine.execReadReq f s
  | .writeReq f => Sys2Proof.Machine.execWriteReq f s
  | .abort f => Sys2Proof.Machine.execAbort f s
  | .blockInit f => Sys2Proof.Machine.execBlockInit f s
  | .blockSeg f => Sys2Proof.Machine.execBlockSeg f s
  | .blockAck f => Sys2Proof.Machine.execBlockAck f s
  | .blockEnd f => Sys2Proof.Machine.execBlockEnd f s
  | .eventAck f => Sys2Proof.Machine.execEventAck f s
  | .authReq f rng => Sys2Proof.Machine.execAuthReq f rng s
  | .authResponse f => Sys2Proof.Machine.execAuthResponse f s
  | .frameCrc port id bytes => Sys2Proof.Machine.execFrameCrc port id bytes s
  | .heartbeatBroadcast => Sys2Proof.Machine.execHeartbeatBroadcast s
  | .eventResend slot counter => Sys2Proof.Machine.execEventResend slot counter s
  | .telemetrySend => Sys2Proof.Machine.execTelemetrySend s
  | .partnerSilent slot => Sys2Proof.Machine.execPartnerSilent slot s
  | .blockSilence slot => Sys2Proof.Machine.execBlockSilence slot s
  | .canBusOff port => Sys2Proof.Machine.execCanBusOff port s
  | .canBusRecovered port => Sys2Proof.Machine.execCanBusRecovered port s
  | .canErrorPassive port txErr rxErr => Sys2Proof.Machine.execCanErrorPassive port txErr rxErr s
  | .netEvict acc slot => Sys2Proof.Machine.execNetEvict acc slot s
  | .netInstallerPw acc data => Sys2Proof.Machine.execNetInstallerPw acc data s
  | .tlmEnWrite acc m v => Sys2Proof.Machine.execTlmEnWrite acc m v s
  | .roleIdleTimeout slot => Sys2Proof.Machine.execRoleIdleTimeout slot s
  | .authLockoutExpiry k => Sys2Proof.Machine.execAuthLockoutExpiry k s
  | .objectWrite acc key data => Sys2Proof.Machine.execObjectWrite acc key data s
  | .stagedWrite acc key data => Sys2Proof.Machine.execStagedWrite acc key data s
  | .bootClassWrite acc key data => Sys2Proof.Machine.execBootClassWrite acc key data s
  | .cfgCommit acc => Sys2Proof.Machine.execCfgCommit acc s
  | .cfgDiscard acc => Sys2Proof.Machine.execCfgDiscard acc s
  | .stageTimeout => Sys2Proof.Machine.execStageTimeout s
  | .commitChecksDone => Sys2Proof.Machine.execCommitChecksDone s
  | .commitAckTimeout => Sys2Proof.Machine.execCommitAckTimeout s
  | .commitStageApply => Sys2Proof.Machine.execCommitStageApply s
  | .cfgSave acc => Sys2Proof.Machine.execCfgSave acc s
  | .cfgSaveDone => Sys2Proof.Machine.execCfgSaveDone s
  | .cfgErase acc => Sys2Proof.Machine.execCfgErase acc s
  | .cfgImageWrite acc data => Sys2Proof.Machine.execCfgImageWrite acc data s
  | .spiFrameInvalid port bytes cut reads => Sys2Proof.Machine.execSpiFrameInvalid port bytes cut reads s
  | .intClaim port => Sys2Proof.Machine.execIntClaim port s
  | .intComplete port n => Sys2Proof.Machine.execIntComplete port n s
  | .tbLoRead port => Sys2Proof.Machine.execTbLoRead port s
  | .counterLowRead reader key high => Sys2Proof.Machine.execCounterLowRead reader key high s
  | .objectRequestRead port key offset len => Sys2Proof.Machine.execObjectRequestRead port key offset len s
  | .objectRequestWrite port key offset data => Sys2Proof.Machine.execObjectRequestWrite port key offset data s
  | .objectRequestWriteSeg port key offset data => Sys2Proof.Machine.execObjectRequestWriteSeg port key offset data s
  | .objectRequestWriteEnd port key offset data => Sys2Proof.Machine.execObjectRequestWriteEnd port key offset data s
  | .mailboxResponseReady port => Sys2Proof.Machine.execMailboxResponseReady port s
  | .objectResponse port => Sys2Proof.Machine.execObjectResponse port s
  | .segmentSilence port => Sys2Proof.Machine.execSegmentSilence port s
  | .twStretchLimit reads => Sys2Proof.Machine.execTwStretchLimit reads s
  | .twTimeout => Sys2Proof.Machine.execTwTimeout s
  | .opAbort acc tag => Sys2Proof.Machine.execOpAbort acc tag s
  | .mramRawRead acc corrected bad => Sys2Proof.Machine.execMramRawRead acc corrected bad s
  | .mramRawWrite acc data => Sys2Proof.Machine.execMramRawWrite acc data s
  | .mramPwPresent acc data => Sys2Proof.Machine.execMramPwPresent acc data s
  | .mramPwSet acc data => Sys2Proof.Machine.execMramPwSet acc data s
  | .mramPwLock acc => Sys2Proof.Machine.execMramPwLock acc s
  | .mramPwReset acc => Sys2Proof.Machine.execMramPwReset acc s
  | .unlockIdleExpiry holder part => Sys2Proof.Machine.execUnlockIdleExpiry holder part s
  | .pwLockoutExpiry k => Sys2Proof.Machine.execPwLockoutExpiry k s
  | .mramPortGrant ue fix => Sys2Proof.Machine.execMramPortGrant ue fix s
  | .scrubBatch weak corrected bad => Sys2Proof.Machine.execScrubBatch weak corrected bad s
  | .dmaStart acc c => Sys2Proof.Machine.execDmaStart acc c s
  | .dmaRetry c => Sys2Proof.Machine.execDmaRetry c s
  | .dmaDone c => Sys2Proof.Machine.execDmaDone c s
  | .mirArmCmd acc => Sys2Proof.Machine.execMirArmCmd acc s
  | .mirStopCmd acc => Sys2Proof.Machine.execMirStopCmd acc s
  | .mirTriggerCmd acc => Sys2Proof.Machine.execMirTriggerCmd acc s
  | .mirageFrame values => Sys2Proof.Machine.execMirageFrame values s
  | .mirageTrigger kind arg before after => Sys2Proof.Machine.execMirageTrigger kind arg before after s
  | .miragePostFull => Sys2Proof.Machine.execMiragePostFull s
  | .mirageRotationDone => Sys2Proof.Machine.execMirageRotationDone s
  | .otpWindowOpen acc => Sys2Proof.Machine.execOtpWindowOpen acc s
  | .otpWindowClose acc => Sys2Proof.Machine.execOtpWindowClose acc s
  | .otpWindowIdle => Sys2Proof.Machine.execOtpWindowIdle s
  | .vqpsLeftWindow => Sys2Proof.Machine.execVqpsLeftWindow s
  | .otpDataWrite acc v => Sys2Proof.Machine.execOtpDataWrite acc v s
  | .otpBurnDone rep => Sys2Proof.Machine.execOtpBurnDone rep s
  | .otpReburn acc => Sys2Proof.Machine.execOtpReburn acc s
  | .lcAdvance acc target rng => Sys2Proof.Machine.execLcAdvance acc target rng s
  | .lifecycleTransitionDone => Sys2Proof.Machine.execLifecycleTransitionDone s
  | .lcReturnNonce acc rng => Sys2Proof.Machine.execLcReturnNonce acc rng s
  | .dbgChallenge acc rng => Sys2Proof.Machine.execDbgChallenge acc rng s
  | .dbgProof acc data => Sys2Proof.Machine.execDbgProof acc data s
  | .dbgLevelReq acc level => Sys2Proof.Machine.execDbgLevelReq acc level s
  | .dbgHaltCmd acc => Sys2Proof.Machine.execDbgHaltCmd acc s
  | .dbgResumeCmd acc => Sys2Proof.Machine.execDbgResumeCmd acc s
  | .debugIdleTimeout => Sys2Proof.Machine.execDebugIdleTimeout s
  | .testNLow => Sys2Proof.Machine.execTestNLow s
  | .rtcSecond => Sys2Proof.Machine.execRtcSecond s
  | .rtcSetSeconds acc v => Sys2Proof.Machine.execRtcSetSeconds acc v s
  | .calSet acc v => Sys2Proof.Machine.execCalSet acc v s
  | .rtcAdjust acc v => Sys2Proof.Machine.execRtcAdjust acc v s
  | .rtcAlarmWrite acc v => Sys2Proof.Machine.execRtcAlarmWrite acc v s
  | .rtcOscFault => Sys2Proof.Machine.execRtcOscFault s
  | .rtcCrystalReturn => Sys2Proof.Machine.execRtcCrystalReturn s
  | .oasisSupplySwitch vbk vcell voas => Sys2Proof.Machine.execOasisSupplySwitch vbk vcell voas s
  | .oasisReservoir vbk vcell voas => Sys2Proof.Machine.execOasisReservoir vbk vcell voas s
  | .oasisDomainLost => Sys2Proof.Machine.execOasisDomainLost s
  | .oasisDomainReturn vbk vcell voas => Sys2Proof.Machine.execOasisDomainReturn vbk vcell voas s
  | .tamper => Sys2Proof.Machine.execTamper s
  | .tamperClear acc => Sys2Proof.Machine.execTamperClear acc s
  | .wakeInput => Sys2Proof.Machine.execWakeInput s
  | .cellLow => Sys2Proof.Machine.execCellLow s
  | .vinInService above => Sys2Proof.Machine.execVinInService above s
  | .lanternVbusUvloRelease t => Sys2Proof.Machine.execLanternVbusUvloRelease t s
  | .intReleaseHoldEnd => Sys2Proof.Machine.execIntReleaseHoldEnd s
  | .dmaGrantTimeout c => Sys2Proof.Machine.execDmaGrantTimeout c s
  | .ledgerCapApply r => Sys2Proof.Machine.execLedgerCapApply r s
  | .batpathOnChange on => Sys2Proof.Machine.execBatpathOnChange on s
  | .mpOverrangeCountRead acc m => Sys2Proof.Machine.execMpOverrangeCountRead acc m s
  | .netEventsDroppedRead acc => Sys2Proof.Machine.execNetEventsDroppedRead acc s

end Sys2Proof.Machine
end

