-- ==== Sys2Proof/Machine/Step.lean ====
section
/-! DEFINITION. One step of the block: the command at the front of the queue. -/

namespace Sys2Proof.Machine

/-- With no command waiting the block idles: beacon time counts one tick where the Keeper runs (DESIGN CHOICE), and nothing
else changes. -/
def State.idle (s : State) : State := if s.keeperRuns then { s with now := s.now + 1 } else s

/-- Take the command at the front of the queue and carry it out; on an empty queue the block idles. -/
def step (s : State) : Host.Outcome State Fault Refusal :=
  match s.pending with
  | [] => .next s.idle
  | c :: rest => exec c { s with pending := rest }

/-- The machine with the command that a word of the opcode table spells at the front of its queue; no row of the table has
bits, so no word spells one. -/
def State.withFetchWord (s : State) (nbits w : Nat) : State :=
  match decodeTableWord nbits w with
  | some c => { s with pending := c :: s.pending }
  | none => s

end Sys2Proof.Machine
end

