-- ==== Sys2Proof/Safety.lean ====
section
/-! DEFINITION. What counts as a safe run, and the terms in which claims about the commands are made. -/

namespace Sys2Proof

/-- A command completes in a state: its meaning answers a next state. -/
def Completes (c : Instr) (s : Machine.State) : Prop := ∃ t, Machine.exec c s = .next t

/-- A step is safe: it answers a next state, neither a fault nor a refusal. -/
def SafeStep (s : Machine.State) : Prop := ∃ t, Machine.step s = .next t

namespace Machine

/-- A port takes a write of `n` bytes to an object: the ports are open, and the checks of R354 that come before the object's
own rules pass. -/
def State.Admits (s : State) (acc : Accessor) (key n : Nat) : Prop :=
  s.portsOpen = true ∧ ∃ d, s.reachWrite acc key n = .ok d ∧ s.roleOk acc d = true

/-- Bit `k` of an event object is 1. -/
def State.Shows (s : State) (e : EventObj) (k : Nat) : Prop := bitOf (s.get e.key) k = true

/-- From `s` to `t` nothing changes but objects, interrupt sources and the partners' event queues. -/
def ReportsOnly (s t : State) : Prop := t = { s with objs := t.objs, ints := t.ints, net := t.net }

/-- Every object outside the list reads in `t` as in `s`. -/
def ObjectsKept (s t : State) (changed : List Nat) : Prop := ∀ key, key ∉ changed → t.get key = s.get key

/-- The objects that an event may write: its own, and those that count events lost by a partner's full queue (R336). -/
def eventObjects (e : EventObj) : List Nat := [e.key, K.NET_EVENTS_DROPPED, K.NET_EVENT]

/-- Something feeds VBUS from the first instant of a BOOT: VIN is in service or has not been absent for 1 ms, or BATFET closes on the
battery (R45, R222, R229). -/
def State.bootFed (s : State) : Bool :=
  !s.modes.vinAbsent1ms || s.path.inService || (!s.path.cutoff && !s.path.holdOpen && !s.path.pulseOpen)

/-- Every rail but `r` is as it was. -/
def OtherRailsKept (r : Fin 32) (s t : State) : Prop := ∀ q, q ≠ r → t.rail q = s.rail q

/-- Every phase but `p` is as it was. -/
def OtherPhasesKept (p : Fin 56) (s t : State) : Prop := ∀ q, q ≠ p → t.phase q = s.phase q

/-- SEAL has started (R45, R180, R189): its mode is set, metrology is frozen, its stage is 1, no rail is live, every AUX
output is off and no phase is in use. Where no commit is under way, every built rail is QUENCHED. -/
def SealStarts (s t : State) : Prop :=
  t.modes.mode = .seal ∧ t.modes.sealMode = s.modes.mode ∧ t.met.frozen = true ∧
    t.get K.SUP_SEAL_STAGE = 1 ∧ (∀ r, (t.rail r).st.live = false) ∧
    (s.cfg.phase = .idle → ∀ r, (s.rail r).st ≠ .unbuilt → (t.rail r).st = .quenched) ∧
    (∀ k, (t.aux k).st = .off) ∧ (∀ p, (t.phase p).st.inUse = false)

/-- SEAL has started for a rail fault (R47, R177, R182, R189): the quench latch is set, FAILSAFE is pending, its cause is 0x0D, and the fault's words show the trigger. -/
def FaultSeals (s t : State) (tr : Trigger) : Prop :=
  SealStarts s t ∧ t.sup.quenchLatch = true ∧ t.sup.primary = some tr ∧ t.modes.sealCauses.railFault = true ∧ t.modes.fsLatched = true ∧
    t.modes.fsPending = true ∧ t.get K.FS_CAUSE = 0x0D ∧ t.get K.SUP_FAULT_CODE = tr.code ∧
    t.get K.SUP_FAULT_KIND = tr.kind.code ∧ t.get K.SUP_FAULT_INDEX = tr.index ∧ t.get K.SUP_FAULT_TILE = tr.tile

/-- SEAL has started for the loss of the supply (R45, R177). -/
def SupplySeals (s t : State) : Prop :=
  SealStarts s t ∧ t.sup.primary = some State.supplyTrigger ∧ t.modes.sealCauses.supplyLoss = true

/-- A flit on tile `n`'s up link that fails its CRC, or, sequenced and with no replay awaited, its SEQ (R301, R303). -/
abbrev State.BadUp (s : State) (n : Fin 8) (word : Nat) : Prop :=
  flitCrc word ≠ word / 2 ^ 72 % 256 ∨
    (word / 32 % 8 ∈ [1, 2, 4, 5, 7] ∧ word % 32 ≠ (s.link n).rxUp ∧ (s.link n).waitUp = false)

/-- Tile `n` has been fenced (R25, R196): its link and its bit show it, and its phases are ISOLATED. -/
def Fences (s t : State) (n : Fin 8) : Prop :=
  (t.tile n).fenced = true ∧ (t.link n).st = .fenced ∧ bitOf (t.get K.SUP_FENCED) n = true ∧
    ∀ p, tileOf p = n → s.phasePresent p = true → (t.phase p).st = .isolated

/-- The next slot of the journal's ring holds a record of that kind, and every other byte of MRAM is as it was (R278, R284). -/
def WritesRecord (s t : State) (kind : Nat) : Prop :=
  t.readMram (jnlAddr s.met.jnl.next) 1 = toLE 1 kind ∧
    ∀ a, a < jnlAddr s.met.jnl.next ∨ jnlAddr s.met.jnl.next + 96 ≤ a → t.mramByte a = s.mramByte a

/-- The CRC byte of a legacy write frame of command `code` with the byte `n` to the device's own address (R164, R167). -/
def slaveCrc (code n : Nat) : Nat :=
  (legacyCrc [addressByte State.legacyAddr false, BitVec.ofNat 8 code, BitVec.ofNat 8 n]).toNat

/-- A frame from another node, addressed to this one, reaches it on a port that is up while no Haboob run is armed (R323, R325, R326). -/
def State.Delivers (s : State) (f : Frame) : Prop :=
  s.portUp f.port = true ∧ s.habArmed = false ∧ s.net.heldRx = none ∧ s.net.heldTx = none ∧ f.src ≠ 0 ∧ f.src < 127 ∧
    f.src ≠ s.nodeId ∧ f.dst = s.nodeId ∧ f.dst < 127

/-- The canonical form of the MRAM array as data: addresses strictly rising, no byte listed that equals what an unlisted one reads as, none
beyond the array (R414). -/
def Memory.wf (m : List Host.Cell) : Bool :=
  Store.wfFrom (fun _ => 0#8) none m && m.all fun c => decide (c.1 < mramSize)

/-- The state's stores are in canonical form: the objects strictly rising by key, none equal to what an unlisted key reads as, and so
the bytes of MRAM. -/
def State.Canonical (s : State) : Prop := Store.wfFrom Dict.default none s.objs = true ∧ Memory.wf s.mram = true

end Machine
end Sys2Proof
end

