-- ==== Sys2Proof/Certificates/Slice0/Obligations.lean ====
section
/-! DEFINITION. The statements for the provers, family by family: what each command answers, what it leaves unchanged, and what every step keeps. -/

section
open Sys2Proof Sys2Proof.Machine Sys2Proof.Machine.State

/-- One step takes the command at the front of the queue and carries it out on the state with the queue's rest; on an empty queue the block
idles, and beacon time counts one tick where the Keeper runs (the model's choice, log entry 3). -/
def Obligations.StepRunsFrontCommand : Prop :=
  (∀ (c : Instr) (rest : List Instr) (s : State), Machine.step { s with pending := c :: rest } = exec c { s with pending := rest }) ∧
  (∀ (s : State), s.pending = [] → Machine.step s = .next (if s.keeperRuns then { s with now := s.now + 1 } else s))

/-- The state after reset is canonical, holds no waiting command and no history, and is VAULT without its latch with the Keeper unpowered: no
port is open, no rail is built, every AUX output and phase is off, no link is up, no operation runs. MRAM lists the factory's journal record
alone (log entry 6). -/
def Obligations.ResetState : Prop :=
  State.reset.Canonical ∧ State.reset.pending = [] ∧ State.reset.objs = [] ∧ State.reset.mram = factoryJournal ∧ State.reset.history = [] ∧
    State.reset.modes.mode = .vault ∧ State.reset.modes.vaultLatch = false ∧ State.reset.modes.shipLatch = false ∧
    State.reset.keeperRuns = false ∧ State.reset.portsOpen = false ∧ (∀ r, (State.reset.rail r).st = .unbuilt) ∧
    (∀ k, (State.reset.aux k).st = .off) ∧ (∀ p, (State.reset.phase p).st = .off) ∧ (∀ n, (State.reset.link n).st ≠ .up) ∧
    (∀ g : Fin 128, (State.reset.op g).reserved = false) ∧ State.reset.sec.lifecycle = .opened ∧ State.reset.sec.level = .none

/-- Every command answers a next state, and every step does. -/
def Obligations.EveryCommandCompletes : Prop :=
  (∀ (c : Instr) (s : State), Completes c s) ∧ ∀ s : State, SafeStep s

/-- The canonical form of the stores is kept by every step: objects and MRAM bytes strictly rising by key, none listed that equals what an
unlisted key reads as, no byte beyond the array of R414. -/
def Obligations.StepKeepsCanonical : Prop :=
  ∀ (s t : State), s.Canonical → Machine.step s = .next t → t.Canonical

/-- R55: No command touches the queue of waiting commands, so a step only takes its front. The mode history holds at most 16 entries, whatever
is commanded. -/
def Obligations.QueueAndHistoryAreKept : Prop :=
  ((∀ (c : Instr) (s t : State), exec c s = .next t → t.pending = s.pending) ∧
  (∀ (s t : State), Machine.step s = .next t → t.pending = s.pending.drop 1)) ∧
  (∀ (s t : State), s.history.length ≤ 16 → Machine.step s = .next t → t.history.length ≤ 16)

/-- R444, R448: No command clears a bit of the OTP array: a row's data and check bits only gain bits. -/
def Obligations.OtpBitsNeverClear : Prop :=
  ∀ (c : Instr) (s t : State) (r : Nat), exec c s = .next t →
    (s.otpRow r).data &&& (t.otpRow r).data = (s.otpRow r).data ∧ (s.otpRow r).check &&& (t.otpRow r).check = (s.otpRow r).check

/-- R45, R47, R49, R51, R193: An accepted `MODE_REQUEST` of 1 sets the VAULT latch and holds the Keeper in reset, of 2 opens BATFET, or arms
SHIP while VIN is present, of 3 puts the Keeper into retention, of 12 enters SERVICE. A wake event recorded first abandons 1 and 3, and a
request that a rail fault, HRST or supply loss beats is dropped: the mode stays. A request that R49 forbids changes nothing but the answer. -/
def Obligations.ModeRequestsTakeEffect : Prop :=
  ∀ (acc : Accessor) (d : ObjDef) (s : State), s.portsOpen = true → s.reachWrite acc K.MODE_REQUEST 1 = .ok d →
    (s.idleCond = true → s.sessionOpen = false → s.anyRunning = false → s.modes.serviceLeaving = false →
      (∀ woken : Nat, s.wakeHits 1 woken = 0 → ∃ t, exec (.modeRequestVault acc woken false) s = .next t ∧ t.answer = .done ∧
        t.modes.mode = .vault ∧ t.modes.vaultLatch = true ∧ t.modes.heldReset = true ∧ (∀ k, (t.aux k).st = .off) ∧
        t.oasis.wakeCopy = s.getN K.WAKE_ENABLE ∧ t.rails = s.rails ∧
        (s.habArmed = false → ∀ a, a < 0x19C000 ∨ 0x19C680 ≤ a → t.mramByte a = s.mramByte a)) ∧
      (∀ woken : Nat, s.wakeHits 1 woken ≠ 0 → ∃ t, exec (.modeRequestVault acc woken false) s = .next t ∧ t.answer = .done ∧
        t.get K.WAKE_SOURCE = s.wakeHits 1 woken ∧ t.modes = s.modes ∧ t.Shows Ev.mode 4 ∧ t.rails = s.rails) ∧
      (s.path.inService = false → ∃ t, exec (.modeRequestShip acc false) s = .next t ∧ t.answer = .done ∧ t.modes.mode = .ship ∧
        t.modes.shipLatch = true ∧ t.batfetClosed = false ∧ t.rails = s.rails ∧
        (s.habArmed = false → ∀ a, a < 0x19C000 ∨ 0x19C680 ≤ a → t.mramByte a = s.mramByte a)) ∧
      (s.path.inService = true → ∃ t, exec (.modeRequestShip acc false) s = .next t ∧ t.answer = .done ∧
        t.modes = { s.modes with shipArmed := true } ∧ t.Shows Ev.mode 6 ∧ t.rails = s.rails) ∧
      (∀ woken : Nat, s.wakeHits 3 woken = 0 → ∃ t, exec (.modeRequestDormant acc woken false) s = .next t ∧ t.answer = .done ∧
        t.modes.mode = .dormant ∧ t.oasis.wakeCopy = s.getN K.WAKE_ENABLE ∧ t.sec.level = .none ∧ t.nvm.unlocks = [] ∧
        (∀ n, (t.link n).st = .off ∨ (t.link n).st = .fenced) ∧ t.rails = s.rails) ∧
      (∀ woken : Nat, s.wakeHits 3 woken ≠ 0 → ∃ t, exec (.modeRequestDormant acc woken false) s = .next t ∧ t.answer = .done ∧
        t.get K.WAKE_SOURCE = s.wakeHits 3 woken ∧ t.modes = s.modes ∧ t.Shows Ev.mode 4 ∧ t.rails = s.rails) ∧
      (s.installerUp acc = true → s.serviceAllowed = true → ∃ t, exec (.modeRequestService acc false) s = .next t ∧ t.answer = .done ∧
        t.modes.mode = .service ∧ t.modes.serviceFromFailsafe = false ∧ t.rails = s.rails ∧ (s.habArmed = false → t.mram = s.mram)) ∧
      (∀ woken : Nat, (∃ t, exec (.modeRequestVault acc woken true) s = .next t ∧ t.answer = .done ∧ t.modes = s.modes ∧ t.rails = s.rails) ∧
        (∃ t, exec (.modeRequestShip acc true) s = .next t ∧ t.answer = .done ∧ t.modes = s.modes ∧ t.rails = s.rails) ∧
        (∃ t, exec (.modeRequestDormant acc woken true) s = .next t ∧ t.answer = .done ∧ t.modes = s.modes ∧ t.rails = s.rails))) ∧
    (s.idleCond = false ∨ s.sessionOpen = true → ∀ (woken : Nat) (beaten : Bool),
      exec (.modeRequestVault acc woken beaten) s = .next { s with answer := .abort .modeForbids } ∧
      exec (.modeRequestShip acc beaten) s = .next { s with answer := .abort .modeForbids } ∧
      exec (.modeRequestDormant acc woken beaten) s = .next { s with answer := .abort .modeForbids } ∧
      (s.modes.mode ≠ .failsafe → exec (.modeRequestService acc beaten) s = .next { s with answer := .abort .modeForbids })) ∧
    (s.idleCond = true → s.sessionOpen = false → s.anyRunning = true ∨ s.modes.serviceLeaving = true → ∀ (woken : Nat) (beaten : Bool),
      exec (.modeRequestVault acc woken beaten) s = .next { s with answer := .abort .busy } ∧
      exec (.modeRequestShip acc beaten) s = .next { s with answer := .abort .busy } ∧
      exec (.modeRequestDormant acc woken beaten) s = .next { s with answer := .abort .busy } ∧
      exec (.modeRequestService acc beaten) s = .next { s with answer := .abort .busy })

/-- R45, R49, R51, R53, R57, R193, R214: A request for IDLE leaves SERVICE, clears FAILSAFE and disarms SHIP; SERVICE from FAILSAFE cancels the
retry and releases the Lanterns; a retry that is due counts and clears the latch, towards IDLE or, after a BOOT fault, towards BOOT; a clean
time resets the count. A wake of DORMANT is noted with its sources and the exit leads to IDLE with WOKE; the retained guard opens the
outputs kept on at the second high reading and wakes with source bit 8. -/
def Obligations.FailsafeServiceAndDormantEnd : Prop :=
  ((∀ (acc : Accessor) (d : ObjDef) (s : State), s.portsOpen = true → s.reachWrite acc K.MODE_REQUEST 1 = .ok d →
    s.anyRunning = false → s.modes.serviceLeaving = false → s.path.inService = true →
    (s.modes.mode = .failsafe → s.installerUp acc = true → s.get K.FS_CAUSE ≠ 5 →
      ∃ t, exec (.modeRequestIdle acc) s = .next t ∧ t.answer = .done ∧ t.modes.mode = .idle ∧ t.modes.fsLatched = false ∧
        t.get K.FS_RETRY_COUNT = 0 ∧ t.get K.FS_RETRY_AT = 0 ∧ t.sup.quenchLatch = false) ∧
    (s.modes.mode = .service → s.anyRailLive = false → s.modes.fsLatched = false →
      ∃ t, exec (.modeRequestIdle acc) s = .next t ∧ t.answer = .done ∧ t.modes.mode = .idle ∧ t.modes.serviceLeaving = false ∧
        t.rails = s.rails) ∧
    (s.idleCond = true → s.modes.shipArmed = true →
      ∃ t, exec (.modeRequestIdle acc) s = .next t ∧ t.answer = .done ∧ t.modes.shipArmed = false ∧
        t.modes.mode = s.modes.mode ∧ t = { s with modes := t.modes, answer := t.answer }) ∧
    (s.modes.mode = .failsafe → s.sessionOpen = false → s.installerUp acc = true → s.serviceAllowed = true →
      s.get K.FS_CAUSE ≠ 5 →
      ∃ t, exec (.modeRequestService acc false) s = .next t ∧ t.answer = .done ∧ t.modes.mode = .service ∧
        t.modes.serviceFromFailsafe = true ∧ t.get K.FS_RETRY_AT = 0 ∧ t.sup.quenchLatch = false ∧
        t.modes.fsLatched = s.modes.fsLatched)) ∧
  (∀ (s : State), s.modes.mode = .failsafe → s.modes.heldClear = none → s.get K.FS_RETRY_AT ≠ 0 → s.path.inService = true →
    (s.get K.FS_CAUSE ≠ 5 → ∃ t, exec .failsafeRetry s = .next t ∧ t.modes.mode = .idle ∧ t.modes.fsLatched = false ∧
      t.get K.FS_RETRY_COUNT = s.get K.FS_RETRY_COUNT + 1 ∧ t.get K.FS_RETRY_AT = 0) ∧
    (s.get K.FS_CAUSE = 5 → ∃ t, exec .failsafeRetry s = .next t ∧ t.modes.mode = .boot ∧ t.get K.RESET_CAUSE = 6 ∧
      t.modes.fsLatched = false)) ∧
  (∀ (s : State), s.get K.FS_CLEAN_TIME ≠ 0 → s.modes.mode = .run → s.modes.riding = false → s.ramping = false → s.anyRailLive = true →
    ∃ t, exec .fsCleanTimeReached s = .next t ∧ t.get K.FS_RETRY_COUNT = 0 ∧ ObjectsKept s t [K.FS_RETRY_COUNT] ∧
      t = { s with objs := t.objs })) ∧
  ((∀ (sources : Nat) (s : State), s.modes.mode = .dormant → s.modes.heldReset = false → s.modes.waking = none →
    sources &&& s.wakeMask ≠ 0 →
    ∃ t, exec (.wakeEvent sources) s = .next t ∧ t.modes.waking = some (sources &&& s.wakeMask) ∧ t.modes.mode = .dormant ∧
      t.get K.WAKE_SOURCE = (sources &&& s.wakeMask : Nat) ∧ t.sup.quenchLatch = false) ∧
  (∀ (h : Nat) (pllFail : Bool) (s : State), s.modes.mode = .dormant → s.modes.waking = some h → s.path.inService = true →
    s.modes.heldReset = false →
    ∃ t, exec (.dormantExitDone pllFail) s = .next t ∧ t.modes.mode = .idle ∧ t.modes.waking = none ∧ t.therm.guardOn = none ∧
      t.Shows Ev.mode 4 ∧ t.Shows Ev.mode 0 ∧ (pllFail = false → t.get K.TB_SOURCE = 0) ∧
      (pllFail = true → s.get K.TB_SOURCE = 0 → t.get K.TB_SOURCE = 1)) ∧
  (∀ (reading : Int) (s : State), s.modes.mode = .dormant → s.therm.guardOn ≠ none → s.therm.guardTripped = false →
    s.modes.heldReset = false → s.therm.guardLimit < reading →
    (s.therm.guardRun = 0 → ∃ t, exec (.thermalGuardSample reading) s = .next t ∧ t.therm.guardRun = 1 ∧
      t.therm.guardTripped = false ∧ t = { s with therm := t.therm }) ∧
    (1 ≤ s.therm.guardRun → ∃ t, exec (.thermalGuardSample reading) s = .next t ∧ t.therm.guardTripped = true ∧
      (∀ k, (t.aux k).st = .off) ∧ (s.modes.waking = none → t.modes.waking = some 0x100 ∧ t.get K.WAKE_SOURCE = 0x100) ∧
      t.modes.mode = .dormant)))

/-- R45, R48, R51, R52, R229, R392: Which events start BOOT, and with which `RESET_CAUSE`: POR release, a wake from VAULT, from SHIP, the end of
a SEAL with cause HRST, and the end of a held reset. A BOOT that nothing feeds passes into SEAL at once. HRST low keeps the Keeper in reset.
With VIN in service, BOOT ends in FAILSAFE with `FS_CAUSE` 5 where a fatal bit of `BOOT_RESULT` is set, in FAILSAFE where its latch is set,
and otherwise in IDLE; firmware that fails its check sets the fatal bit 7. -/
def Obligations.BootStartsAndEnds : Prop :=
  ((∀ (s : State), s.modes.mode = .vault → s.modes.vaultLatch = true →
    ∃ t, exec .vhkPorRelease s = .next t ∧ t.modes.heldReset = true ∧ t.modes.mode = .vault ∧ t.seq.fogDrive = true ∧
      t = { s with modes := t.modes, seq := t.seq }) ∧
  (∀ (s : State), s.modes.mode = .vault → s.modes.vaultLatch = false → s.modes.hrstLow = false → s.path.pulse = false →
    (s.bootFed = true → ∃ t, exec .vhkPorRelease s = .next t ∧ t.modes.mode = .boot ∧
      t.get K.RESET_CAUSE = (if s.modes.waking = none then 1 else 2)) ∧
    (s.bootFed = false → ∃ t, exec .vhkPorRelease s = .next t ∧ t.modes.mode = .seal ∧ t.modes.sealMode = .boot ∧
      t.modes.sealCauses.supplyLoss = true)) ∧
  (∀ (s : State), s.modes.mode = .ship → s.modes.shipLatch = false → s.modes.hrstLow = false → s.path.pulse = false →
    s.bootFed = true →
    ∃ t, exec .vhkPorRelease s = .next t ∧ t.modes.mode = .boot ∧ t.get K.RESET_CAUSE = 3) ∧
  (∀ (sources : Nat) (s : State), s.modes.mode = .vault → s.modes.vaultLatch = true → s.modes.heldReset = true →
    s.modes.waking = none → s.modes.hrstLow = false → s.path.pulse = false → s.bootFed = true → sources &&& 0x11 ≠ 0 →
    ∃ t, exec (.wakeEvent sources) s = .next t ∧ t.modes.mode = .boot ∧ t.get K.RESET_CAUSE = 2 ∧ t.modes.vaultLatch = false) ∧
  (∀ (s : State), s.modes.mode = .seal → s.modes.hrstLow = true → s.modes.sealDone = true → s.modes.heldReset = false → s.bootFed = true →
    ∃ t, exec .hrstRelease s = .next t ∧ t.modes.mode = .boot ∧ t.get K.RESET_CAUSE = 4 ∧ t.modes.hrstLow = false) ∧
  (∀ (s : State), s.modes.mode = .seal → s.modes.heldReset = true → s.modes.hrstLow = false → s.path.pulse = false →
    s.bootFed = true →
    ∃ t, exec .heldResetRelease s = .next t ∧ t.modes.mode = .boot ∧ t.get K.RESET_CAUSE = 5 ∧ t.modes.heldReset = false) ∧
  (∀ (s : State), s.modes.hrstLow = true → s.modes.mode = .seal → exec .heldResetRelease s = .next s)) ∧
  (∀ (rep : BootReport) (s : State), s.modes.mode = .boot → s.path.inService = true →
    ∃ t, exec (.bootComplete rep) s = .next t ∧
      (rep.firmwareBad = true → bitOf (t.get K.BOOT_RESULT) 7 = true ∧ t.sec.romOnly = true) ∧
      (t.getN K.BOOT_RESULT &&& 0xF0 ≠ 0 → t.modes.mode = .failsafe ∧ t.get K.FS_CAUSE = 5 ∧ t.modes.fsLatched = true) ∧
      (t.getN K.BOOT_RESULT &&& 0xF0 = 0 → s.modes.fsLatched = true → t.modes.mode = .failsafe) ∧
      (t.getN K.BOOT_RESULT &&& 0xF0 = 0 → s.modes.fsLatched = false → t.modes.mode = .idle ∧ t.sup.quenchLatch = false))

/-- R45, R48, R54, R189, R190, R191, R392: HRST low and VHK below 7.5 V start SEAL from every mode in which the Keeper runs; VHK below POR leads
from DORMANT and SEAL to VAULT with its latch clear; HRST low in DORMANT holds the Keeper in reset. With no session to sign, a SEAL with
cause SUPPLY_LOSS ends in held reset, one with cause HRST in BOOT once the line is high, one with a rail fault alone in FAILSAFE; the
sealing floor holds the Keeper in reset. -/
def Obligations.SupplyAndHrstSeal : Prop :=
  ((∀ (vhk : Nat) (s : State), s.activeNotSeal = true → s.modes.holdup = false →
    ∃ t, exec (.holdupWarning vhk) s = .next t ∧ SupplySeals s t ∧ t.modes.holdup = true ∧ (K.SUP_EVENT, 9) ∈ t.deferred) ∧
  (∀ (s : State), s.activeNotSeal = true →
    ∃ t, exec .hrstAssert s = .next t ∧ SealStarts s t ∧ t.sup.primary = some hrstTrigger ∧ t.modes.sealCauses.hrst = true ∧
      t.modes.hrstLow = true) ∧
  (∀ (s : State), s.modes.mode = .dormant →
    ∃ t, exec .hrstAssert s = .next t ∧ t.modes.hrstLow = true ∧ t.modes.heldReset = true ∧ t.modes.mode = .dormant ∧
      t = { s with modes := t.modes, path := t.path, seq := t.seq }) ∧
  (∀ (s : State), s.modes.mode = .dormant ∨ s.modes.mode = .seal →
    ∃ t, exec .vhkBelowPor s = .next t ∧ t.modes.mode = .vault ∧ t.modes.vaultLatch = false ∧ t.modes.heldReset = false ∧
      t.seq.fogDrive = false ∧ t.seq.bellDrive = false ∧ t.rails = s.rails ∧ t.mram = s.mram)) ∧
  ((∀ (vhks : List Nat) (vhk : Nat) (s : State), s.modes.mode = .seal → s.modes.heldReset = false → s.modes.sealDone = false →
    (∀ m, (s.point m).sess = .none) → s.met.jnl.signing = none →
    (s.modes.sealCauses.supplyLoss = true → ∃ t, exec (.sealDone vhks vhk) s = .next t ∧ t.modes.heldReset = true ∧
      t.modes.mode = .seal ∧ t.sup.reportDue = true ∧ t.rails = s.rails) ∧
    (s.modes.sealCauses.supplyLoss = false → s.modes.sealCauses.hrst = true →
      (s.modes.hrstLow = false → s.bootFed = true → ∃ t, exec (.sealDone vhks vhk) s = .next t ∧ t.modes.mode = .boot ∧ t.get K.RESET_CAUSE = 4) ∧
      (s.modes.hrstLow = true → ∃ t, exec (.sealDone vhks vhk) s = .next t ∧ t.modes.mode = .seal ∧ t.modes.sealDone = true)) ∧
    (s.modes.sealCauses.supplyLoss = false → s.modes.sealCauses.hrst = false → s.path.inService = true →
      ∃ t, exec (.sealDone vhks vhk) s = .next t ∧ t.modes.mode = .failsafe ∧ t.sup.quenchLatch = true ∧ t.met.frozen = false)) ∧
  (∀ (steps sessions : Nat) (s : State), s.modes.mode = .seal → s.modes.heldReset = false → s.modes.sealDone = false →
    ∃ t, exec (.sealingFloorReached steps sessions) s = .next t ∧ t.modes.heldReset = true ∧ t.modes.mode = .seal ∧
      t.sup.reportDue = true ∧ t.rails = s.rails))

/-- R194, R195, R403, R406, R408: An abort of an open voltage transition by its issuer asks the rail's tiles for it; an abort of an operation
that is over only reports that; another party below INSTALLER is denied; the reservation of a tag, a lease, ends 60 s after its operation
and is counted. -/
def Obligations.AbortsAndTags : Prop :=
  (∀ (acc : Accessor) (v : Nat) (d : ObjDef) (s : State), s.portsOpen = true → s.reachWrite acc K.OP_ABORT 1 = .ok d → v < 128 →
    ((s.op v).issuer ≠ s.issuerOf acc → s.installerUp acc = false →
      exec (.opAbort acc v) s = .next { s with answer := .abort .roleDenied }) ∧
    ((s.op v).issuer = s.issuerOf acc ∨ s.installerUp acc = true → (s.op v).kind = .railVoltage → (s.op v).status.isOpen = false →
      ∃ t, exec (.opAbort acc v) s = .next t ∧ t.answer = .done ∧ t.get K.OP_ABORT_LAST = v + 0x300 ∧
        ObjectsKept s t [K.OP_ABORT_LAST] ∧ t = { s with objs := t.objs, answer := t.answer }) ∧
    (∀ r : Fin 32, (s.op v).issuer = s.issuerOf acc ∨ s.installerUp acc = true → (s.op v).kind = .railVoltage →
      (s.op v).key = K.RAIL_VSET r → (s.op v).status.isOpen = true → (s.op v).abort ≠ .requested →
      ∃ t, exec (.opAbort acc v) s = .next t ∧ t.answer = .done ∧ (t.op v).abort = .requested ∧
        (t.op v).status = (s.op v).status ∧ (t.rail r).cmds = (s.rail r).cmds ++ [.abort v] ∧ OtherRailsKept r s t ∧
        t = { s with ops := t.ops, rails := t.rails, answer := t.answer })) ∧
  (∀ (g : Fin 128) (s : State), (s.op g).reserved = true → (s.op g).status.isOpen = false →
    ∃ t, exec (.tagReservationExpiry g) s = .next t ∧ (t.op g).reserved = false ∧ (t.op g).status = (s.op g).status ∧
      (∀ h : Fin 128, h ≠ g → t.op h = s.op h) ∧ (s.get (K.SUP_LEASE_REVOKES 4) < 0xFFFFFFFF → t.get (K.SUP_LEASE_REVOKES 4) = s.get (K.SUP_LEASE_REVOKES 4) + 1) ∧
      (s.portsOpen = true → t.Shows Ev.sup 4) ∧
      t = { s with ops := t.ops, objs := t.objs, ints := t.ints, net := t.net, deferred := t.deferred })

/-- R98, R100, R101, R102, R107, R118, R193, R406: In SERVICE a write of 1 to `RAIL_CTRL` sends the rail's tiles a power-up, a write of 0 to a
rail that is not OFF a power-down; nothing else changes but the answer. `RAIL_CTRL` refuses MODE_FORBIDS outside SERVICE, a power-up of a
rail that is not OFF, and one under the quench latch; a refusal changes nothing but the answer. A write of `RAIL_VSET` within
`RAIL_VMIN`–`RAIL_VMAX` stores the value; in UP it starts a tagged transition whose command goes to the rail's tiles. A voltage command at
its apply tick retargets the reference of a rail that is ramping up, which is UP at once where the reference stands at the new target; an
abort of the open transition holds the reference, ends the operation ABORTED and leaves `RAIL_VSET` at the held value in whole mV, rounded
down, unless the reference stands at its target: then the operation is COMPLETED and its abort lost. -/
def Obligations.RailCommandsAndVoltage : Prop :=
  ((∀ (acc : Accessor) (r : Fin 32) (s : State), s.Admits acc (K.RAIL_CTRL r) 1 → s.installerUp acc = true →
    s.modes.mode = .service → s.modes.serviceLeaving = false → (s.rail r).st = .off → s.sup.quenchLatch = false →
    ∃ t, exec (.railCtrlPowerUp acc r) s = .next t ∧ (t.rail r).cmds = (s.rail r).cmds ++ [.up] ∧ t.answer = .done ∧
      OtherRailsKept r s t ∧ t = { s with rails := t.rails, answer := t.answer }) ∧
  (∀ (acc : Accessor) (r : Fin 32) (s : State), s.Admits acc (K.RAIL_CTRL r) 1 → s.installerUp acc = true →
    s.modes.mode = .service → s.modes.serviceLeaving = false → (s.rail r).st ≠ .unbuilt → (s.rail r).st ≠ .off →
    ∃ t, exec (.railCtrlPowerDown acc r) s = .next t ∧ (t.rail r).cmds = (s.rail r).cmds ++ [.down] ∧ t.answer = .done ∧
      OtherRailsKept r s t ∧ t = { s with rails := t.rails, answer := t.answer })) ∧
  (∀ (acc : Accessor) (r : Fin 32) (s : State), s.Admits acc (K.RAIL_CTRL r) 1 → s.installerUp acc = true →
    (s.modes.mode ≠ .service → exec (.railCtrlPowerUp acc r) s = .next { s with answer := .abort .modeForbids } ∧
      exec (.railCtrlPowerDown acc r) s = .next { s with answer := .abort .modeForbids }) ∧
    ((s.rail r).st ≠ .off ∨ s.sup.quenchLatch = true →
      exec (.railCtrlPowerUp acc r) s = .next { s with answer := .abort .modeForbids })) ∧
  (∀ (acc : Accessor) (r : Fin 32) (mv : Nat) (s : State), s.Admits acc (K.RAIL_VSET r) 2 → (s.rail r).st ≠ .unbuilt →
    s.get (K.RAIL_VMIN r) ≤ mv → (mv : Int) ≤ s.get (K.RAIL_VMAX r) →
    s.commitStages [K.RAIL_VMIN r, K.RAIL_VMAX r] = false → s.nextTag ≠ none →
    ∃ t, exec (.railVsetWrite acc r mv) s = .next t ∧ t.get (K.RAIL_VSET r) = mv ∧ OtherRailsKept r s t ∧
      ((s.rail r).st = .up → ∃ g, s.nextTag = some g ∧ t.answer = .tag g ∧ t.get (K.RAIL_VSET_TAG r) = g ∧
        (t.rail r).cmds = (s.rail r).cmds ++ [.volt mv (some g)] ∧ (t.op g).status = .running ∧
        (t.op g).kind = .railVoltage ∧ (t.op g).key = K.RAIL_VSET r) ∧
      ((s.rail r).st = .off → t.answer = .done ∧ t = { s with objs := t.objs, answer := t.answer } ∧
        ObjectsKept s t [K.RAIL_VSET r])) ∧
  ((∀ (r : Fin 32) (mv : Int) (s : State), (s.rail r).cmds = [.volt mv none] → (s.rail r).st = .rampUp →
    (s.rail r).refAt s.now ≠ mv * 1000 → ∃ t, exec (.railVoltageApply r) s = .next t ∧ (t.rail r).st = .rampUp ∧ (t.rail r).ref.target = mv * 1000 ∧
      (t.rail r).ref.v0 = (s.rail r).refAt s.now ∧ (t.rail r).ref.t0 = s.now ∧
      (t.rail r).ref.slew = s.get (K.RAIL_SLEW_ON r) ∧ (t.rail r).cmds = [] ∧ OtherRailsKept r s t ∧
      t = { s with rails := t.rails }) ∧
  (∀ (r : Fin 32) (mv : Int) (s : State), (s.rail r).cmds = [.volt mv none] → (s.rail r).st = .rampUp →
    (s.rail r).refAt s.now = mv * 1000 → ∃ t, exec (.railVoltageApply r) s = .next t ∧ (t.rail r).st = .up ∧
      (t.rail r).moving = false ∧ (t.rail r).ref.v0 = mv * 1000 ∧ (t.rail r).cmds = [] ∧ t.Shows (Ev.rail r) 1 ∧
      OtherRailsKept r s t ∧ ObjectsKept s t (eventObjects (Ev.rail r))) ∧
  (∀ (r : Fin 32) (g : Nat) (s : State), (s.rail r).cmds = [.abort g] → (s.rail r).tag = some g → g < 128 →
    (s.op g).status = .running → (s.op g).abort = .requested →
    ((s.rail r).st = .up → (s.rail r).moving = true → (s.rail r).refAt s.now = (s.rail r).ref.target →
      ∃ t, exec (.railAbortApply r) s = .next t ∧ (t.rail r).moving = false ∧ (t.rail r).tag = none ∧
        (t.rail r).ref.v0 = (s.rail r).ref.target ∧ t.get (K.RAIL_VSET r) = s.get (K.RAIL_VSET r) ∧
        (t.op g).status = .completed ∧ (t.op g).abort = .lost ∧ OtherRailsKept r s t) ∧
    ((s.rail r).moving = false ∨ (s.rail r).refAt s.now ≠ (s.rail r).ref.target →
    ∃ t, exec (.railAbortApply r) s = .next t ∧ (t.rail r).moving = false ∧ (t.rail r).tag = none ∧
      (t.rail r).ref.v0 = (s.rail r).refAt s.now ∧ t.get (K.RAIL_VSET r) = (s.rail r).refAt s.now / 1000 ∧
      (t.op g).status = .aborted ∧ (t.op g).abort = .won ∧ OtherRailsKept r s t)))

/-- R105, R107: The power-up chain. At its apply tick a power-up takes an OFF rail to ON_DELAY with the stored target; the end of the on delay
puts the rail and every OFF member into PREBIAS; with no member left in PREBIAS and one ACTIVE the ramp starts from the measured voltage, or
PULL_IN on a coil rail; the reference at its target ends the ramp in UP with STATE_UP. -/
def Obligations.RailPowerUpChain : Prop :=
  (∀ (r : Fin 32) (s : State), RailCmd.up ∈ (s.rail r).cmds → (s.rail r).st = .off →
    ∃ t, exec (.railPowerUpApply r) s = .next t ∧ (t.rail r).st = .onDelay ∧
      (t.rail r).ref.target = s.get (K.RAIL_VSET r) * 1000 ∧ (t.rail r).cmds = (s.rail r).cmds.erase .up ∧
      OtherRailsKept r s t ∧ t = { s with rails := t.rails }) ∧
  (∀ (r : Fin 32) (s : State), (s.rail r).st = .onDelay →
    ∃ t, exec (.onDelayElapsed r) s = .next t ∧ (t.rail r).st = .prebias ∧
      (∀ p, p ∈ (s.rail r).members → (s.phase p).st = .off → (t.phase p).st = .prebias) ∧
      (∀ p, p ∉ (s.rail r).members ∨ (s.phase p).st ≠ .off → t.phase p = s.phase p) ∧
      OtherRailsKept r s t ∧ t = { s with rails := t.rails, phases := t.phases }) ∧
  (∀ (r : Fin 32) (v0 : Int) (s : State), (s.rail r).st = .prebias →
    (∀ p ∈ (s.rail r).members, (s.phase p).st ≠ .prebias) → s.activeMembers r ≠ [] →
    0 ≤ v0 → v0 * 1000 < (s.rail r).ref.target →
    ∃ t, exec (.rampUpStart r v0) s = .next t ∧ OtherRailsKept r s t ∧ t = { s with rails := t.rails } ∧
      (s.coilMode r = false → (t.rail r).st = .rampUp ∧ (t.rail r).ref.v0 = v0 * 1000 ∧ (t.rail r).moving = true ∧
        (t.rail r).ref.slew = s.get (K.RAIL_SLEW_ON r)) ∧
      (s.coilMode r = true → (t.rail r).st = .pullIn ∧ (t.rail r).coilR = 0 ∧ (t.rail r).armed = true)) ∧
  (∀ (r : Fin 32) (s : State), (s.rail r).moving = true → (s.rail r).st = .rampUp →
    ∃ t, exec (.referenceAtTarget r) s = .next t ∧ (t.rail r).st = .up ∧ (t.rail r).moving = false ∧
      (t.rail r).ref.v0 = (s.rail r).ref.target ∧ t.Shows (Ev.rail r) 1 ∧ OtherRailsKept r s t ∧
      ObjectsKept s t (eventObjects (Ev.rail r)))

/-- R106, R107: The power-down chain. At its apply tick a power-down takes a rail that is up to its off delay, a coil in its pull-in to its
release, a ramp back down unless it coasts, and one that has not started its ramp to DISCHARGE or OFF; the end of the off delay starts the
tracked ramp, coasts, or releases a coil; the reference below the floor of the phase type, 450 mV or 3,300 mV, and DISCHARGE_DONE below
`RAIL_VOFF_DONE` or DISCHARGE_SLOW, lead through DISCHARGE to OFF with STATE_OFF. -/
def Obligations.RailPowerDownChain : Prop :=
  (∀ (r : Fin 32) (s : State), RailCmd.down ∈ (s.rail r).cmds → (s.rail r).st = .up ∨ (s.rail r).st = .hold →
    ∃ t, exec (.railPowerDownApply r) s = .next t ∧ (t.rail r).st = .offDelay ∧ (t.rail r).tag = none ∧
      (t.rail r).moving = false ∧ (t.rail r).ref.v0 = (s.rail r).refAt s.now ∧ OtherRailsKept r s t) ∧
  (∀ (r : Fin 32) (s : State), RailCmd.down ∈ (s.rail r).cmds → (s.rail r).st = .pullIn →
    ∃ t, exec (.railPowerDownApply r) s = .next t ∧ (t.rail r).st = .discharge ∧
      (t.rail r).cmds = (s.rail r).cmds.erase .down ∧ OtherRailsKept r s t ∧ t = { s with rails := t.rails }) ∧
  (∀ (r : Fin 32) (s : State), RailCmd.down ∈ (s.rail r).cmds → (s.rail r).st = .rampUp → s.get (K.RAIL_DOWN_MODE r) ≠ 1 →
    ∃ t, exec (.railPowerDownApply r) s = .next t ∧ (t.rail r).st = .rampDown ∧ (t.rail r).ref.target = 0 ∧
      (t.rail r).ref.slew = s.get (K.RAIL_SLEW_OFF r) ∧ OtherRailsKept r s t ∧ t = { s with rails := t.rails }) ∧
  (∀ (r : Fin 32) (s : State), RailCmd.down ∈ (s.rail r).cmds →
    ((s.rail r).st = .onDelay → ∃ t, exec (.railPowerDownApply r) s = .next t ∧ (t.rail r).st = .off ∧ t.Shows (Ev.rail r) 2 ∧
      OtherRailsKept r s t) ∧
    ((s.rail r).st = .prebias ∨ ((s.rail r).st = .rampUp ∧ s.get (K.RAIL_DOWN_MODE r) = 1) →
      ∃ t, exec (.railPowerDownApply r) s = .next t ∧ (t.rail r).st = .discharge ∧ (t.rail r).moving = false ∧ OtherRailsKept r s t ∧
        t = { s with rails := t.rails, phases := t.phases, objs := t.objs, ints := t.ints, net := t.net })) ∧
  (∀ (r : Fin 32) (s : State), (s.rail r).st = .offDelay →
    ∃ t, exec (.offDelayElapsed r) s = .next t ∧ OtherRailsKept r s t ∧
      ((t.rail r).st = if s.coilMode r = true ∨ s.get (K.RAIL_DOWN_MODE r) = 1 then .discharge else .rampDown) ∧
      t = { s with rails := t.rails, phases := t.phases, objs := t.objs, ints := t.ints, net := t.net }) ∧
  (∀ (r : Fin 32) (s : State), (s.rail r).st = .rampDown →
    (s.rail r).refAt s.now < (if (s.rail r).bus = true then 3300000 else 450000) →
    ∃ t, exec (.referenceBelowFloor r) s = .next t ∧ (t.rail r).st = .discharge ∧ (t.rail r).moving = false ∧
      (∀ p ∈ (s.rail r).members, (s.phase p).st ≠ .isolated → (t.phase p).st = .off) ∧ OtherRailsKept r s t ∧
      t = { s with rails := t.rails, phases := t.phases, objs := t.objs, ints := t.ints, net := t.net }) ∧
  (∀ (r : Fin 32) (v : Int) (s : State), (s.rail r).st = .discharge → s.coilMode r = false →
    v < s.get (K.RAIL_VOFF_DONE r) →
    ∃ t, exec (.dischargeDone r v) s = .next t ∧ (t.rail r).st = .off ∧ (t.rail r).pg = false ∧ t.Shows (Ev.rail r) 2 ∧
      (∀ p ∈ (s.rail r).members, (s.phase p).st ≠ .isolated → (t.phase p).st = .off) ∧ OtherRailsKept r s t) ∧
  (∀ (r : Fin 32) (s : State), (s.rail r).st = .discharge → s.coilMode r = false →
    ∃ t, exec (.dischargeSlow r) s = .next t ∧ (t.rail r).st = .off ∧ t.Shows (Ev.rail r) 2 ∧ t.Shows (Ev.rail r) 8 ∧
      OtherRailsKept r s t)

/-- R107, R113, R114, R115, R116, R117, R178: A coil's pull-in ends in HOLD with STATE_UP; its release ends in OFF with STATE_OFF; a reference
at compliance with less than a tenth of the target current raises COIL_OPEN and changes nothing else. Writes of `AUX_EN` and `AUX_VSET`
store their value; a change of an output that is on makes it ramp, and VPRE is 400 mV above the highest set voltage; a ramp ends ON, or past
its ramp in the current limit, with PG at 95 %; below 90 % UV is raised; LOSS_HIGH is raised in every output that is on where their
dissipation is above 600 mW. An AUX over-current in IDLE, with no rail up and no group moving, opens every output, keeps it off and starts
no SEAL. -/
def Obligations.CoilRailsAndAuxOutputs : Prop :=
  ((∀ (r : Fin 32) (s : State), (s.rail r).st = .pullIn →
    ∃ t, exec (.coilPullInElapsed r) s = .next t ∧ (t.rail r).st = .hold ∧ t.Shows (Ev.rail r) 1 ∧ OtherRailsKept r s t ∧
      ObjectsKept s t (eventObjects (Ev.rail r))) ∧
  (∀ (r : Fin 32) (s : State), (s.rail r).st = .discharge → s.coilMode r = true →
    ∃ t, exec (.coilReleaseEnd r) s = .next t ∧ (t.rail r).st = .off ∧ t.Shows (Ev.rail r) 2 ∧ OtherRailsKept r s t) ∧
  (∀ (r : Fin 32) (s : State), (s.rail r).st = .hold → s.coilMode r = true → (s.rail r).compliance = true →
    10 * s.railPoolI r < s.coilTarget r →
    ∃ t, exec (.coilOpen r) s = .next t ∧ t.Shows (Ev.rail r) 9 ∧ ReportsOnly s t ∧
      ObjectsKept s t (eventObjects (Ev.rail r)))) ∧
  ((∀ (acc : Accessor) (k : Fin 4) (on : Bool) (s : State), s.Admits acc (K.AUX_EN k) 1 → s.modes.mode ≠ .failsafe →
    ∃ t, exec (.auxEnWrite acc k on) s = .next t ∧ t.get (K.AUX_EN k) = on.toNat ∧ t.answer = .done ∧
      (on = true → (t.aux k).st ≠ .off) ∧
      t = { s with objs := t.objs, auxs := t.auxs, answer := t.answer }) ∧
  (∀ (acc : Accessor) (k : Fin 4) (mv : Nat) (s : State), s.Admits acc (K.AUX_VSET k) 2 → 800 ≤ mv → mv ≤ 3300 → mv % 50 = 0 →
    ∃ t, exec (.auxVsetWrite acc k mv) s = .next t ∧ t.get (K.AUX_VSET k) = mv ∧ t.answer = .done ∧
      ((s.aux k).st ≠ .off → (t.aux k).st = .ramping ∧ mv + 400 ≤ t.get K.AUX_VPRE ∧ 1200 ≤ t.get K.AUX_VPRE) ∧
      (∀ j, j ≠ k → t.aux j = s.aux j) ∧ ObjectsKept s t [K.AUX_VSET k, K.AUX_VPRE] ∧
      t = { s with objs := t.objs, auxs := t.auxs, answer := t.answer }) ∧
  (∀ (k : Fin 4) (v : Int) (s : State), (s.aux k).st = .ramping →
    ∃ t, exec (.auxRampDone k v) s = .next t ∧ (t.aux k).st = .on ∧
      ((s.aux k).pg = false → 95 * s.get (K.AUX_VSET k) ≤ 100 * v → (t.aux k).pg = true ∧ t.Shows (Ev.aux k) 0) ∧
      ObjectsKept s t (eventObjects (Ev.aux k)) ∧ (∀ j, j ≠ k → t.aux j = s.aux j)) ∧
  (∀ (k : Fin 4) (v : Int) (s : State), (s.aux k).st = .limit → (s.aux k).ramp = true → (s.aux k).pg = false →
    ∃ t, exec (.auxRampDone k v) s = .next t ∧ (t.aux k).st = .limit ∧ (t.aux k).ramp = false ∧
      (95 * s.get (K.AUX_VSET k) ≤ 100 * v → (t.aux k).pg = true ∧ t.Shows (Ev.aux k) 0) ∧
      (∀ j, j ≠ k → t.aux j = s.aux j)) ∧
  (∀ (k : Fin 4) (v : Int) (s : State), (s.aux k).st = .on → 100 * v < 90 * s.get (K.AUX_VSET k) →
    ∃ t, exec (.auxUv k v) s = .next t ∧ t.Shows (Ev.aux k) 1 ∧ ReportsOnly s t ∧
      ObjectsKept s t (eventObjects (Ev.aux k))) ∧
  (∀ (s : State), 600 < s.get (K.AUX_LOSS 0) + s.get (K.AUX_LOSS 1) + s.get (K.AUX_LOSS 2) + s.get (K.AUX_LOSS 3) →
    ∃ t, exec .lossHigh s = .next t ∧ (∀ k : Fin 4, (s.aux k).st ≠ .off → t.Shows (Ev.aux k) 4) ∧ ReportsOnly s t)) ∧
  (∀ (k : Fin 4) (s : State), s.modes.mode = .idle → s.ramping = false → s.anyRailLive = false → (s.aux k).st ≠ .off →
    ∃ t, exec (.auxOcDwellExpired k) s = .next t ∧ t.modes = s.modes ∧ t.rails = s.rails ∧
      (∀ j : Fin 4, (t.aux j).st = .off ∧ (t.aux j).forcedOff = true ∧ (t.aux j).autoOff = true) ∧
      t.Shows (Ev.aux k) 3 ∧ t.Shows Ev.sup 1 ∧ t.Shows Ev.sup 8)

/-- R133, R136, R137, R140: An estimate over the threshold for the second time in a row trips: LEDGER_FAST counts and the comparison is
suspended; the first one only waits. The fast caps that were sent are then in force, and a ledger cap at its tick is its rail's cap and ends
the fast cap that it replaces. A clear zeroes every account, a copy takes every account with its residue. -/
def Obligations.LedgerFastLimitAndAccounts : Prop :=
  (∀ (s : State), s.activeNotSeal = true → s.modes.mode ≠ .boot → s.modes.mode ≠ .failsafe →
    ∃ t, exec .fastEstimate s = .next t ∧ t.ledger.lastFast = s.fastEstimate ∧ t.modes = s.modes ∧ t.mram = s.mram ∧
      t.otp = s.otp ∧ t.met = s.met ∧
      (s.fastEstimate ≤ s.fastThreshold → t.ledger.highRun = 0 ∧ t = { s with ledger := t.ledger }) ∧
      (s.fastThreshold < s.fastEstimate → s.ledger.suspended = false → s.ledger.highRun = 0 →
        t.ledger.highRun = 1 ∧ t = { s with ledger := t.ledger }) ∧
      (s.fastThreshold < s.fastEstimate → s.ledger.suspended = false → 1 ≤ s.ledger.highRun →
        t.ledger.tripped = true ∧ t.ledger.suspended = true ∧ t.ledger.highRun = 0 ∧ t.Shows Ev.ledger 5)) ∧
  (∀ (s : State), ∃ t, exec .fastCapsInForce s = .next t ∧ t.ledger.suspended = s.ledger.short ∧
    (∀ (r : Fin 32) (c : Int), (s.rail r).fastSent = some c → (t.rail r).fastCap = some (min c ((s.rail r).fastCap.getD c)) ∧
      (t.rail r).fastSent = none ∧ (t.rail r).cap = (s.rail r).cap ∧ (t.rail r).st = (s.rail r).st) ∧
    (∀ (r : Fin 32), (s.rail r).fastSent = none → t.rail r = s.rail r) ∧
    t = { s with ledger := t.ledger, rails := t.rails, objs := t.objs, ints := t.ints, net := t.net }) ∧
  (∀ (acc : Accessor) (s : State), s.Admits acc K.LEDGER_E_CLEAR 1 → s.installerUp acc = true →
    ∃ t, exec (.ledgerEClear acc) s = .next t ∧ t.answer = .done ∧ (∀ k ∈ accounts, t.get k = 0) ∧
      t.ledger.residues = List.replicate 40 0 ∧ ObjectsKept s t accounts ∧
      t = { s with objs := t.objs, ledger := t.ledger, answer := t.answer }) ∧
  (∀ (s : State), s.keeperRuns = true → s.modes.holdup = false →
    ∃ t, exec .ledgerAccountCopy s = .next t ∧ t.ledger.saved = (accounts.map fun k => s.getN k).zip s.ledger.residues ∧
      t = { s with ledger := t.ledger }) ∧
  (∀ (r : Fin 32) (c : Option Int) (s : State), (s.rail r).cmds = [.cap c] →
    ∃ t, exec (.ledgerCapApply r) s = .next t ∧ (t.rail r).cap = c ∧ (t.rail r).cmds = [] ∧
      (t.rail r).fastCap = (if s.ledger.fast[r] = none then none else (s.rail r).fastCap) ∧ (t.rail r).st = (s.rail r).st ∧
      OtherRailsKept r s t ∧ ObjectsKept s t (eventObjects (Ev.rail r)))

/-- R63, R83, R85, R89, R361, R491: The eighth SYNCIN period in a row between 16.7 µs and 25 µs makes the frame reference external with that
period, from the next boundary of the internal frame on; an edge of the external reference is followed by a frame pulse at the distance that
this boundary had from its edge (the model's choice, log entry 173), and a `PH_FSW` change that waits takes effect on it; a period outside
the range or a timeout returns the reference to the internal source. Nothing else changes. VBUS under the lockout of a fitted Lantern holds
the switches of its phases open with DROPOUT; its release takes DROPOUT off; phases of other tiles keep their state. A write of 0x5A to
`PH_CLEAR_ISO` takes an isolated phase of a rail that is not up to OFF and deletes its record; an expired dwell marks the highest-numbered
ACTIVE member that may be shed, and its next cycle edge takes it to SHED; a read of `PH_I_PEAK` answers it and restarts it at 0. -/
def Obligations.FrameLockoutAndShedding : Prop :=
  ((∀ (ns : Nat) (s : State), s.keeperRuns = true → 16700 ≤ ns → ns ≤ 25000 → 7 ≤ s.frame.inRange → s.frame.external = false →
    s.frame.base ≤ s.now → s.cfg.fswDue = [] →
    ∃ t, exec (.syncinEdge ns) s = .next t ∧ t.frame.external = true ∧ t.frame.period = ns ∧ t.frame.edge = s.now ∧
      s.now ≤ t.frame.start ∧ t.frame.start < s.now + 2000 ∧ (t.frame.start - s.frame.base) % 2000 = 0 ∧
      t.frame.pulses = [t.frame.start] ∧ t.frame.offset = t.frame.start - s.now ∧ t = { s with frame := t.frame }) ∧
  (∀ (ns : Nat) (s : State), s.keeperRuns = true → 16700 ≤ ns → ns ≤ 25000 → s.frame.external = true → s.frame.offset = 0 →
    s.frame.start < s.cfg.fswFrom → s.cfg.fswFrom ≤ s.now → (∀ p ∈ s.frame.pulses, p ≤ s.now) →
    ∃ t, exec (.syncinEdge ns) s = .next t ∧ t.frame.external = true ∧ t.frame.period = ns ∧ t.frame.edge = s.now ∧
      t.frame.offset = 0 ∧ t.frame.pulses.head? = some s.now ∧
      t = { s with frame := t.frame, objs := (s.puts s.cfg.fswDue).objs, cfg := { s.cfg with fswDue := [] } }) ∧
  (∀ (ns : Nat) (s : State), s.keeperRuns = true → ns < 16700 ∨ 25000 < ns → s.cfg.fswDue = [] →
    ∃ t, exec (.syncinEdge ns) s = .next t ∧ t.frame.external = false ∧ t.frame.inRange = 0 ∧ t.frame.period = 20000 ∧
      t.frame.edge = s.now ∧ t = { s with frame := t.frame }) ∧
  (∀ (s : State), s.keeperRuns = true → s.cfg.fswDue = [] →
    ∃ t, exec .syncinTimeout s = .next t ∧ t.frame.external = false ∧ t.frame.period = 20000 ∧ t.frame.inRange = 0 ∧
      t.frame.edge = s.frame.edge ∧ t = { s with frame := t.frame })) ∧
  ((∀ (n : Fin 8) (s : State), n ≠ 0 → s.tileFitted n = true →
    ∃ t, exec (.lanternVbusUvlo n) s = .next t ∧ (t.tile n).uvlo = true ∧
      (∀ p, tileOf p = n → (t.phase p).duty = 0 ∧ (t.phase p).dropout = true ∧ (t.phase p).st = (s.phase p).st) ∧
      (∀ p, tileOf p ≠ n → t.phase p = s.phase p) ∧ t = { s with phases := t.phases, tiles := t.tiles }) ∧
  (∀ (n : Fin 8) (s : State), (s.tile n).uvlo = true →
    ∃ t, exec (.lanternVbusUvloRelease n) s = .next t ∧ (t.tile n).uvlo = false ∧
      (∀ p, tileOf p = n → (t.phase p).dropout = false ∧ (t.phase p).st = (s.phase p).st) ∧
      (∀ p, tileOf p ≠ n → t.phase p = s.phase p) ∧ t = { s with phases := t.phases, tiles := t.tiles })) ∧
  ((∀ (acc : Accessor) (p : Fin 56) (s : State), s.Admits acc (K.PH_CLEAR_ISO p) 1 → s.installerUp acc = true →
    s.modes.mode = .failsafe ∨ s.modes.mode = .service → (∀ r, (s.phase p).rail = some r → (s.rail r).st.live = false) →
    (s.phase p).st = .isolated → (s.phase p).isoReason ≠ .fenced →
    ∃ t, exec (.phClearIso acc p) s = .next t ∧ t.answer = .done ∧ (t.phase p).st = .off ∧ (t.phase p).isoReason = .none ∧
      (t.phase p).stored = none ∧ OtherPhasesKept p s t) ∧
  (∀ (r : Fin 32) (p : Fin 56) (s : State), s.mayShed r = true → 2 ≤ (s.stayingMembers r).length →
    ((s.railCycleI r).natAbs : Int) < s.shedThreshold r K.PH_SHED_LO * (((s.stayingMembers r).length : Int) - 1) →
    ((sortPhases (s.stayingMembers r)).filter fun q : Fin 56 => s.flag (K.PH_SHED_EN q)).getLast? = some p →
    ∃ t, exec (.shedDwellExpired r) s = .next t ∧ t.phase p = { s.phase p with next := some .shed } ∧ OtherPhasesKept p s t ∧
      OtherRailsKept r s t ∧ t = { s with phases := t.phases, rails := t.rails }) ∧
  (∀ (p : Fin 56) (r : Fin 32) (inp : CycleInput) (s : State), (s.phase p).st = .active → (s.phase p).rail = some r →
    (s.phase p).declared = .none → (s.phase p).next = some .shed → s.phasePresent p = true →
    ∃ t, exec (.switchingCycleEdge p inp) s = .next t ∧ (t.phase p).st = .shed ∧ (t.phase p).duty = 0 ∧
      (t.phase p).trim = (s.phase p).trim ∧ t.Shows (Ev.phase p) 6 ∧ OtherPhasesKept p s t ∧ t.rails = s.rails) ∧
  (∀ (acc : Accessor) (p : Fin 56) (d : ObjDef) (s : State), s.portsOpen = true → s.reach acc (K.PH_I_PEAK p) = .ok d →
    s.debugAllows acc false (K.PH_I_PEAK p) = true →
    ∃ t, exec (.phIPeakRead acc p) s = .next t ∧ t.answer = .data (d.bytes (s.cutValue (K.PH_I_PEAK p))) ∧
      t.cutValue (K.PH_I_PEAK p) = 0 ∧ (t.phase p).peak = 0 ∧ OtherPhasesKept p s t ∧ ObjectsKept s t [K.PH_I_PEAK p] ∧
      t = { s with phases := t.phases, objs := t.objs, published := t.published, answer := t.answer }))

/-- R60, R66, R68, R70, R72, R79, R108, R491: A cycle edge of an ACTIVE member with no finding counts the cycle, takes in its current less the
bias offset, the clamp c that acted and its peak flag, and leaves a duty not below the on-time minimum, or none with DROPOUT under its
tile's lockout. The cycle edge of a phase with a declared finding isolates it for that reason. The pool average of a rail with a counting
ACTIVE member is the mean of their cycle currents, and every ACTIVE member receives it; nothing but that rail, those phases and what waits
on the links changes. -/
def Obligations.CycleEdgeAndPoolAverage : Prop :=
  (∀ (p : Fin 56) (r : Fin 32) (inp : CycleInput) (s : State), (s.phase p).st = .active → (s.phase p).rail = some r →
    (s.phase p).declared = .none → (s.phase p).next = none →
    ∃ t, exec (.switchingCycleEdge p inp) s = .next t ∧ (t.phase p).st = .active ∧
      (t.phase p).cycles = (s.phase p).cycles + 1 ∧ (t.phase p).iCycle = inp.raw - (s.phase p).offset ∧
      (t.phase p).limited = decide (s.clampOf r < inp.demand) ∧
      (t.phase p).peakLimiting = inp.peak ∧
      ((s.tile (tileOf p)).uvlo = true → (t.phase p).duty = 0 ∧ (t.phase p).dropout = true) ∧
      ((s.tile (tileOf p)).uvlo = false → s.dutyLo p ≤ (t.phase p).duty) ∧
      t.mram = s.mram ∧ t.modes = s.modes ∧ t.otp = s.otp ∧ t.met = s.met) ∧
  (∀ (p : Fin 56) (inp : CycleInput) (s : State), (s.phase p).st ≠ .isolated → (s.phase p).declared ≠ .none →
    ∃ t, exec (.switchingCycleEdge p inp) s = .next t ∧ (t.phase p).st = .isolated ∧
      (t.phase p).isoReason = (s.phase p).declared ∧ (t.phase p).isoAt = s.now) ∧
  (∀ (r : Fin 32) (s : State), (s.activeMembers r).filter (fun p => !(s.phase p).excluded) ≠ [] →
    ∃ t, exec (.poolAverageForm r) s = .next t ∧ ∃ a,
      a = quot (((s.activeMembers r).filter fun p => !(s.phase p).excluded).map fun p => (s.phase p).iCycle).sum
        ((s.activeMembers r).filter fun p => !(s.phase p).excluded).length ∧
      (t.rail r).avg = some a ∧ (t.rail r).avgCount = (s.activeMembers r).length ∧
      (∀ p ∈ s.activeMembers r, (t.phase p).avg = some a ∧ (t.phase p).avgStale = false) ∧
      (∀ p, p ∉ s.activeMembers r → t.phase p = s.phase p) ∧ OtherRailsKept r s t ∧
      t = { s with rails := t.rails, phases := t.phases, links := t.links })

/-- R73, R75, R77, R78, R83: A sense-open code starts a polarity test with its cycle excluded; an outcome between the two codes ends the test
and nothing more; negative full scale declares a sense loss, with its event, where the phase is not its rail's last. An open phase, a
flying-capacitor fault and, in SERVICE, a write of 0xA5 to `PH_ISOLATE` declare their finding for the phase's next cycle edge; a
`PH_ISOLATE` of a phase that does not switch isolates it at once. -/
def Obligations.PhaseFindings : Prop :=
  ((∀ (p : Fin 56) (left : Bool) (s : State), (s.phase p).st.inUse = true → (s.phase p).testing = false →
    (s.phase p).testDone = false ∨ left = true → (s.phase p).declared = .none →
    ∃ t, exec (.senseOpenCode p left) s = .next t ∧ (t.phase p).testing = true ∧ (t.phase p).frozen = true ∧
      (t.phase p).st = (s.phase p).st ∧ OtherPhasesKept p s t ∧
      t = { s with phases := t.phases, objs := t.objs, ints := t.ints, net := t.net, deferred := t.deferred }) ∧
  (∀ (p : Fin 56) (reading : Int) (stamp : Option Nat) (s : State), (s.phase p).testing = true → -8192 < reading → reading < 8191 →
    ∃ t, exec (.senseTestOutcome p reading stamp) s = .next t ∧ (t.phase p).testing = false ∧ OtherPhasesKept p s t ∧
      t = { s with phases := t.phases }) ∧
  (∀ (p : Fin 56) (reading : Int) (stamp : Option Nat) (s : State), (s.phase p).testing = true → reading ≤ -8192 →
    (s.phase p).st.inUse = true → (s.phase p).declared = .none → s.phasePresent p = true →
    (∀ r, (s.phase p).rail = some r → s.usableMembers r ≠ [p]) →
    ∃ t, exec (.senseTestOutcome p reading stamp) s = .next t ∧ (t.phase p).declared = .senseLoss ∧
      (t.phase p).testing = false ∧ t.Shows (Ev.phase p) 0 ∧ OtherPhasesKept p s t)) ∧
  ((∀ (p : Fin 56) (s : State), (s.phase p).st = .active → (s.phase p).declared = .none → s.phasePresent p = true →
    ∃ t, exec (.openPhase p) s = .next t ∧ (t.phase p).declared = .openPhase ∧ t.Shows (Ev.phase p) 1 ∧ OtherPhasesKept p s t ∧
      ObjectsKept s t (eventObjects (Ev.phase p))) ∧
  (∀ (p : Fin 56) (atEnd : Bool) (s : State), isBus p = false → (s.phase p).st.inUse = true →
    decide ((s.phase p).st = .prebias) = atEnd → (s.phase p).declared = .none → s.phasePresent p = true →
    ∃ t, exec (.cfFault p atEnd) s = .next t ∧ (t.phase p).declared = .cfFault ∧ t.Shows (Ev.phase p) 2 ∧ OtherPhasesKept p s t ∧
      ObjectsKept s t (eventObjects (Ev.phase p))) ∧
  (∀ (acc : Accessor) (p : Fin 56) (s : State), s.Admits acc (K.PH_ISOLATE p) 1 → s.installerUp acc = true →
    s.modes.mode = .service → (s.phase p).declared = .none →
    ∃ t, exec (.phIsolate acc p) s = .next t ∧ t.answer = .done ∧
      ((s.phase p).st.inUse = true → (t.phase p).declared = .host ∧ (t.phase p).st = (s.phase p).st ∧ OtherPhasesKept p s t) ∧
      ((s.phase p).st = .off → (t.phase p).st = .isolated ∧ (t.phase p).isoReason = .host)))

/-- R72, R78, R79, R80, R81, R82, R84: A prebias timeout, under the finding that is declared already where there is one, the cycle edge after a
declared finding and a failed pre-join check isolate the phase: its switches are open, the reason and the time are recorded, and the record
is stored in MRAM unless the phase was fenced or non-legal writes are blocked. A phase that completes its prebias keeps the bias offset that
it measured; a member is ACTIVE with trim 0 and a duty within its bounds, or 0 under its tile's lockout, a spare stands by; a spare whose
pre-join check passes is an ACTIVE member with trim 0 and leaves the spares. -/
def Obligations.IsolationAndJoining : Prop :=
  ((∀ (p : Fin 56) (s : State), (s.phase p).st = .prebias →
    ∃ t, exec (.prebiasTimeout p) s = .next t ∧ (t.phase p).st = .isolated ∧
      ((s.phase p).declared = .none → (t.phase p).isoReason = .prebiasTimeout ∧
        (s.modes.holdup = false → (t.phase p).stored = some (.prebiasTimeout, s.now))) ∧
      ((s.phase p).declared ≠ .none → (t.phase p).isoReason = (s.phase p).declared) ∧
      (t.phase p).isoAt = s.now ∧ (t.phase p).duty = 0) ∧
  (∀ (p : Fin 56) (s : State), (s.phase p).st ≠ .isolated → (s.phase p).declared ≠ .none →
    ∃ t, exec (.phaseIsolationEdge p) s = .next t ∧ (t.phase p).st = .isolated ∧
      (t.phase p).isoReason = (s.phase p).declared ∧ (t.phase p).isoAt = s.now ∧
      (s.modes.holdup = false → (s.phase p).declared ≠ .fenced →
        (t.phase p).stored = some ((s.phase p).declared, s.now)) ∧
      (s.modes.holdup = true → (t.phase p).stored = (s.phase p).stored)) ∧
  (∀ (p : Fin 56) (r : Fin 32) (why : IsoReason) (s : State), (s.phase p).rail = some r → (s.phase p).st = .spare →
    (s.phase p).joining = true → why ≠ .none →
    ∃ t, exec (.spareCheckDone p why) s = .next t ∧ (t.phase p).st = .isolated ∧ (t.phase p).isoReason = why)) ∧
  ((∀ (p : Fin 56) (r : Fin 32) (inp : PrebiasInput) (s : State), (s.phase p).st = .prebias → (s.phase p).declared = .none →
    (s.phase p).rail = some r →
    ∃ t, exec (.prebiasComplete p inp) s = .next t ∧ (t.phase p).offset = inp.offset ∧
      ((s.phase p).role ≠ .spare → (t.phase p).st = .active ∧ (t.phase p).trim = 0 ∧
        ((s.tile (tileOf p)).uvlo = true → (t.phase p).duty = 0) ∧ ((s.tile (tileOf p)).uvlo = false → s.dutyLo p ≤ (t.phase p).duty)) ∧
      ((s.phase p).role = .spare → (t.phase p).st = .spare)) ∧
  (∀ (p : Fin 56) (r : Fin 32) (s : State), (s.phase p).rail = some r → (s.phase p).st = .spare → (s.phase p).joining = true →
    ∃ t, exec (.spareCheckDone p .none) s = .next t ∧ (t.phase p).st = .active ∧ (t.phase p).role = .member ∧
      (t.phase p).trim = 0 ∧ p ∈ (t.rail r).members ∧ p ∉ (t.rail r).spares ∧ OtherRailsKept r s t))

/-- R45, R152, R154, R161, R163, R177, R180, R189: A rail fault in a mode that supplies rails starts SEAL. Which detector reports it and its
code, kind, index and tile: rail over- and under-voltage, over-current dwell, PG loss, phase over-current by four samples or polarity test,
AUX over-current, and the host's quench. A step's timeout, a missing ring and FOG pulled low by another part while rails are up are sequence
faults: the fault is recorded, SEQ_FAULT raised, and SEAL starts with fault code 0x08. -/
def Obligations.FaultsStartSeal : Prop :=
  ((∀ (r : Fin 32) (n : Fin 8) (v : Int) (stamp : Option Nat) (s : State), s.faultMode = true → s.holdsMember r n = true →
    (s.rail r).st ≠ .unbuilt → s.get (K.RAIL_VMAX r) + s.get (K.SUP_OV_MARGIN r) < v →
    ∃ t, exec (.railOvTrip r n v stamp) s = .next t ∧ FaultSeals s t ⟨0x01, .rail, r.val, n.val⟩) ∧
  (∀ (r : Fin 32) (v : Int) (stamp : Option Nat) (s : State), s.faultMode = true → s.uvArmed r = true →
    v * 1000 < s.windowRef r - s.get (K.SUP_UV_MARGIN r) * 1000 →
    ∃ t, exec (.railUvTrip r v stamp) s = .next t ∧ FaultSeals s t ⟨0x02, .rail, r.val, s.leadTile r⟩) ∧
  (∀ (r : Fin 32) (stamp : Option Nat) (s : State), s.faultMode = true → (s.rail r).limiting = true → (s.rail r).capped = false →
    ∃ t, exec (.ocDwellExpired r stamp) s = .next t ∧ FaultSeals s t ⟨0x03, .rail, r.val, s.leadTile r⟩) ∧
  (∀ (r : Fin 32) (stamp : Option Nat) (s : State), s.faultMode = true → s.pgLossOn r = true → (s.rail r).pg = false →
    ∃ t, exec (.pgLossTrip r stamp) s = .next t ∧ FaultSeals s t ⟨0x04, .rail, r.val, s.leadTile r⟩) ∧
  (∀ (p : Fin 56) (readings : Vector Int 4) (stamp : Option Nat) (s : State), s.faultMode = true → (s.phase p).st.inUse = true →
    (∀ i ∈ readings.toList, 5 * s.get (K.PH_ILIM_PEAK p) ≤ 4 * ((i - (s.phase p).offset).natAbs : Int)) →
    ∃ t, exec (.phaseOcTrip p readings stamp) s = .next t ∧ FaultSeals s t ⟨0x05, .phase, p.val, (tileOf p).val⟩) ∧
  (∀ (p : Fin 56) (reading : Int) (stamp : Option Nat) (s : State), s.faultMode = true → (s.phase p).testing = true →
    8191 ≤ reading →
    ∃ t, exec (.senseTestOutcome p reading stamp) s = .next t ∧ FaultSeals s t ⟨0x05, .phase, p.val, (tileOf p).val⟩) ∧
  (∀ (k : Fin 4) (s : State), s.faultMode = true → (s.aux k).st ≠ .off →
    ∃ t, exec (.auxOcDwellExpired k) s = .next t ∧ FaultSeals s t ⟨0x07, .aux, k.val, 0⟩) ∧
  (∀ (acc : Accessor) (s : State), s.Admits acc K.SUP_QUENCH 1 → s.installerUp acc = true → s.faultMode = true →
    ∃ t, exec (.supQuench acc) s = .next t ∧ t.answer = .done ∧ FaultSeals s t ⟨0x0A, .keeper, 0, 0⟩)) ∧
  ((∀ (g : Fin 16) (k : Nat) (s : State), s.faultMode = true → (s.group g).st = .rising → (s.group g).stage = .sent →
    (s.group g).cur = some k → s.stepMet (s.step k) = false →
    ∃ t, exec (.stepTimeout g) s = .next t ∧ FaultSeals s t ⟨0x08, .group, g.val, 0⟩ ∧ t.get K.SEQ_FAULT_GROUP = g.val ∧
      t.get K.SEQ_FAULT_STEP = k ∧ t.Shows Ev.seq 3) ∧
  (∀ (g : Fin 16) (s : State), s.faultMode = true → s.bellGroup .bell = some g →
    ∃ t, exec .bellTimeout s = .next t ∧ FaultSeals s t ⟨0x08, .group, g.val, 0⟩ ∧
      t.get K.SEQ_FAULT_CODE = GrpResult.bellTimeout.code ∧ t.Shows Ev.seq 3) ∧
  (∀ (s : State), s.faultMode = true → s.fogHeard = true → s.ramping = true ∨ s.railsBusy = true →
    ∃ t, exec .fogLowRecognised s = .next t ∧ ∃ g, FaultSeals s t ⟨0x08, .group, g, 0⟩ ∧
      t.get K.SEQ_FAULT_CODE = GrpResult.fogExternal.code ∧ t.seq.fogLow = true))

/-- R176, R183, R185, R199: A sense disagreement is reported and nothing else; a stamp that does not come leaves the estimate; a snapshot taken
by hand gets the next sequence number and raises SNAP_TAKEN; SUP_SNAP_CLEAR erases partition 2 and no other byte of MRAM. -/
def Obligations.SupervisionReportsAndSnapshots : Prop :=
  (∀ (r : Fin 32) (n : Fin 8) (v lead : Int) (s : State), (∃ p ∈ s.activeMembers r, tileOf p = n) →
    (s.rail r).ref.target < 50000 * ((v - lead).natAbs : Int) →
    ∃ t, exec (.senseDisagree r n v lead) s = .next t ∧ t.Shows Ev.sup 7 ∧ ReportsOnly s t ∧
      ObjectsKept s t (eventObjects Ev.sup)) ∧
  (∀ (s : State), ∃ t, exec .triggerStampTimeout s = .next t ∧ t.sup.awaitingStamp = false ∧
    t.sup.estimated = s.sup.estimated ∧ t.sup.primaryAt = s.sup.primaryAt ∧ t = { s with sup := t.sup }) ∧
  (∀ (acc : Accessor) (s : State), s.Admits acc K.SUP_SNAP_TAKE 1 → s.modes.holdup = false →
    ∃ t, exec (.supSnapTake acc) s = .next t ∧ t.answer = .done ∧ t.get K.SUP_SNAP_SEQ = s.getN K.SUP_SNAP_SEQ + 1 ∧
      t.Shows Ev.sup 1 ∧ t.modes = s.modes ∧ t.rails = s.rails ∧
      (∀ a, a < snapAddr s.snapSlot ∨ snapAddr s.snapSlot + 4096 ≤ a → t.mramByte a = s.mramByte a)) ∧
  (∀ (acc : Accessor) (s : State), s.Admits acc K.SUP_SNAP_CLEAR 1 → s.installerUp acc = true →
    ∃ t, exec (.supSnapClear acc) s = .next t ∧ t.answer = .done ∧
      (∀ a, 0x182000 ≤ a → a < 0x18A000 → t.mramByte a = 0) ∧
      (∀ a, a < 0x182000 ∨ 0x18A000 ≤ a → t.mramByte a = s.mramByte a) ∧
      t = { s with mram := t.mram, answer := t.answer })

/-- R144, R145, R156: A write of `GRP_CMD` takes the next free tag, shows it in `GRP_TAG` and answers it. A power-up of a DOWN group waits for
the next management tick; a power-down of an UP group with no dependants starts FALLING with its last step's off delay. -/
def Obligations.GroupCommandsTakeATag : Prop :=
  (∀ (acc : Accessor) (g : Fin 16) (n : Nat) (s : State), s.Admits acc (K.GRP_CMD g) 1 → s.installerUp acc = true →
    s.groupMode = true → s.nextTag = some n → (∀ h, (s.group h).stage ≠ .dependants) → (s.group g).st = .down →
    (s.group g).waiting = false →
    ∃ t, exec (.grpCmdPowerUp acc g) s = .next t ∧ t.answer = .tag n ∧ t.get (K.GRP_TAG g) = n ∧ (t.group g).st = .down ∧
      (t.group g).waiting = true ∧ (t.group g).latchTag = some n ∧ (t.op n).status = .running ∧ (t.op n).kind = .groupUp ∧
      (∀ h, h ≠ g → t.group h = s.group h) ∧ t.rails = s.rails ∧ t.modes = s.modes ∧ t.mram = s.mram) ∧
  (∀ (acc : Accessor) (g : Fin 16) (n k : Nat) (s : State), s.Admits acc (K.GRP_CMD g) 1 → s.installerUp acc = true →
    s.groupMode = true → s.nextTag = some n → (∀ h, (s.group h).stage ≠ .dependants) → s.dependants g = [] →
    (s.group g).st = .up → (s.group g).sentSteps.head? = some k →
    ∃ t, exec (.grpCmdPowerDown acc g) s = .next t ∧ t.answer = .tag n ∧ t.get (K.GRP_TAG g) = n ∧
      (t.group g).st = .falling ∧ (t.group g).tag = some n ∧ (t.op n).kind = .groupDown ∧
      ((s.group g).stage = .idle → (t.group g).stage = .offDelay ∧ (t.group g).cur = some k ∧ t.rails = s.rails) ∧
      (∀ h, h ≠ g → t.group h = s.group h))

/-- R147, R151, R152, R155, R156, R163, R165: A HELD group shows its first closed gate, or rises and takes up its first step; at the end of a
step's delay, once admitted, every OFF rail of the step is sent a power-up and every slave is owed STAGE_GO, a lost one after an ID_READ; a
complete step comes to its bell point where BELL is enabled, to the next step, or, after the last one, to UP with GROUP_UP. At the end of a
falling step's off delay every rail of the step that is on is sent a power-down, and every slave that is not lost is owed STAGE_DOWN; once
they are down the step comes to its bell point where BELL is enabled or, as the last one, leaves the group DOWN with GROUP_DOWN. -/
def Obligations.GroupsRiseAndFall : Prop :=
  ((∀ (g : Fin 16) (s : State), (s.group g).st = .held → s.closedGate g ≠ .none →
    (∀ h, h < g → (s.group h).st ≠ .held) → (∀ h, (s.group h).stage ≠ .dependants) →
    ∃ t, exec (.groupGatesOpen g) s = .next t ∧ (t.group g).st = .held ∧ (t.group g).wait = s.closedGate g ∧
      (∀ h, h ≠ g → t.group h = s.group h) ∧ t = { s with seq := t.seq }) ∧
  (∀ (g : Fin 16) (k : Nat) (s : State), (s.group g).st = .held → s.closedGate g = .none → (s.groupSteps g).head? = some k →
    (∀ r ∈ (s.step k).railList, (s.rail r).st ≠ .unbuilt) → (∀ h, h < g → (s.group h).st ≠ .held) →
    (∀ h, h ≠ g → (s.group h).stage ≠ .dependants) →
    ∃ t, exec (.groupGatesOpen g) s = .next t ∧ (t.group g).st = .rising ∧ (t.group g).cur = some k ∧
      (t.group g).stage = .asking ∧ (t.group g).sentSteps = [] ∧ (∀ h, h ≠ g → t.group h = s.group h) ∧
      t = { s with seq := t.seq, ops := t.ops }) ∧
  (∀ (g : Fin 16) (k : Nat) (s : State), (s.group g).st = .rising → (s.group g).stage = .asking → (s.group g).cur = some k →
    (s.group g).admitted = true → s.bus.stuck = false ∨ (s.step k).slaveList = [] →
    ∃ t, exec (.stepDelayElapsed g) s = .next t ∧ (t.group g).stage = .sent ∧
      (t.group g).sentSteps = k :: (s.group g).sentSteps ∧
      (∀ r ∈ (s.step k).railList, (s.rail r).st = .off → (t.rail r).cmds = (s.rail r).cmds ++ [.up]) ∧
      (∀ r, r ∉ (s.step k).railList → t.rail r = s.rail r) ∧ (∀ h, h ≠ g → t.group h = s.group h) ∧
      (∀ j ∈ (s.step k).slaveList, (t.slave j).done = false ∧ (t.slave j).owed =
        (s.slave j).owed ++ ((if (s.slave j).lost = true then [.idRead] else []) ++ [.stageGo (s.step k).stage])) ∧
      t = { s with seq := t.seq, rails := t.rails }) ∧
  (∀ (g : Fin 16) (k : Nat) (s : State), (s.group g).st = .rising → (s.group g).stage = .sent → (s.group g).cur = some k →
    s.stepMet (s.step k) = true →
    ∃ t, exec (.stepComplete g) s = .next t ∧
      ((s.step k).bellUp = true → s.coopBit 2 = true → (t.group g).stage = .bell ∧ (t.group g).st = .rising ∧ t.seq.bellDrive = false) ∧
      ((s.step k).bellUp = false ∨ s.coopBit 2 = false → (∀ j ∈ s.groupSteps g, j ≤ k) → (t.group g).st = .up ∧ t.Shows Ev.seq 0 ∧
        t.get (K.GRP_RESULT g) = GrpResult.upDone.code) ∧
      (∀ j : Nat, (s.step k).bellUp = false ∨ s.coopBit 2 = false → ((s.groupSteps g).find? fun i => decide (k < i)) = some j →
        (∀ r ∈ (s.step j).railList, (s.rail r).st ≠ .unbuilt) → (t.group g).cur = some j ∧ (t.group g).stage = .asking))) ∧
  ((∀ (g : Fin 16) (k : Nat) (s : State), (s.group g).st = .falling → (s.group g).stage = .offDelay → (s.group g).cur = some k →
    ∃ t, exec (.stepOffDelayElapsed g) s = .next t ∧ (t.group g).stage = .downSent ∧ (t.group g).st = .falling ∧
      (∀ r ∈ (s.step k).railList, (s.rail r).st ≠ .off → (s.rail r).st ≠ .unbuilt →
        (t.rail r).cmds = (s.rail r).cmds ++ [.down]) ∧
      (∀ r, r ∉ (s.step k).railList → t.rail r = s.rail r) ∧ (∀ h, h ≠ g → t.group h = s.group h) ∧
      (∀ j ∈ (s.step k).slaveList, (s.slave j).lost = false → (t.slave j).owed = (s.slave j).owed ++ [.stageDown (s.step k).stage]) ∧
      t.mram = s.mram ∧ t.modes = s.modes) ∧
  (∀ (g : Fin 16) (k : Nat) (s : State), (s.group g).st = .falling → (s.group g).stage = .downSent → (s.group g).cur = some k →
    s.stepDown (s.step k) = true →
    ∃ t, exec (.stepRailsDown g) s = .next t ∧
      ((s.step k).bellDown = true → s.coopBit 2 = true → (t.group g).stage = .bell ∧ t.seq.bellDrive = false) ∧
      ((s.step k).bellDown = false ∨ s.coopBit 2 = false → (s.group g).sentSteps = [k] → (s.group g).latched = false →
        (t.group g).st = .down ∧ (t.group g).downAt = some s.now ∧ t.Shows Ev.seq 1)))

/-- R153, R160, R161, R163, R169, R174: A PG sample shows the comparator's verdict; PG held for the qualification time qualifies the rail,
disarms its qualifier and sends its OFF spares into PREBIAS. FOG low with nothing up is only reported, and its release ends it; the ring is
held, and at the end of the hold BELL is driven again where `SEQ_COOP` enables it; `SEQ_CHATTER_CLEAR` clears the 32 chatter counts and no
other object. -/
def Obligations.PowerGoodAndSharedLines : Prop :=
  ((∀ (r : Fin 32) (v : Int) (s : State),
    ∃ t, exec (.pgSample r v) s = .next t ∧ (t.rail r).pg = s.pgAt r v ∧ (t.rail r).st = (s.rail r).st ∧ OtherRailsKept r s t ∧
      t = { s with rails := t.rails, objs := t.objs, ints := t.ints, net := t.net }) ∧
  (∀ (r : Fin 32) (s : State), (s.rail r).armed = true → (s.rail r).pg = true →
    ∃ t, exec (.pgQualified r) s = .next t ∧ (t.rail r).qualified = true ∧ (t.rail r).everQualified = true ∧
      (t.rail r).armed = false ∧ (∀ p ∈ (s.rail r).spares, (s.phase p).st = .off → (t.phase p).st = .prebias) ∧
      (∀ p, p ∉ (s.rail r).spares → t.phase p = s.phase p) ∧ OtherRailsKept r s t ∧
      t = { s with rails := t.rails, phases := t.phases })) ∧
  ((∀ (s : State), s.portsOpen = true → s.fogHeard = true → s.ramping = false → s.railsBusy = false →
    ∃ t, exec .fogLowRecognised s = .next t ∧ t.seq.fogBall = true ∧ t.seq.fogLow = true ∧ t.Shows Ev.seq 6 ∧
      t.modes = s.modes ∧ t.rails = s.rails) ∧
  (∀ (s : State), s.portsOpen = true → s.seq.fogLow = true → s.seq.fogDrive = false →
    ∃ t, exec .fogReleased s = .next t ∧ t.seq.fogBall = false ∧ t.seq.fogLow = false ∧ t.Shows Ev.seq 7 ∧
      t.modes = s.modes ∧ t.rails = s.rails) ∧
  (∀ (g : Fin 16) (s : State), s.bellGroup .bell = some g →
    ∃ t, exec .bellRing s = .next t ∧ (t.group g).stage = .rung ∧ (t.group g).st = (s.group g).st ∧
      (∀ h, h ≠ g → t.group h = s.group h) ∧ t = { s with seq := t.seq }) ∧
  (∀ (g : Fin 16) (s : State), s.bellGroup .rung = some g → (s.group g).st = .rising →
    (∀ j ∈ s.groupSteps g, (s.group g).cur.all fun k => decide (j ≤ k)) →
    ∃ t, exec .bellHoldEnd s = .next t ∧ t.seq.bellDrive = s.coopBit 2 ∧
      ((s.group g).cur ≠ none → (t.group g).st = .up ∧ (t.group g).stage = .idle ∧ t.Shows Ev.seq 0)) ∧
  (∀ (acc : Accessor) (s : State), s.Admits acc K.SEQ_CHATTER_CLEAR 1 → s.installerUp acc = true →
    ∃ t, exec (.seqChatterClear acc) s = .next t ∧ t.answer = .done ∧ (∀ r : Fin 32, t.get (K.SEQ_PG_CHATTER r) = 0) ∧
      ObjectsKept s t ((List.range 32).map K.SEQ_PG_CHATTER) ∧ t = { s with objs := t.objs, answer := t.answer }))

/-- R164, R165, R167: As legacy master the device notes the status byte of a slave that a running step names, whose reply carries the right CRC,
and the stage that a rising step waits for; a transaction that fails or whose CRC is wrong is tried again, and the third failure in a row
loses the slave with LEGACY_LOST; an ID_READ that answers 0x4410 puts a slave to use again. In slave mode with its ports open the device
answers at its address the legacy commands that carry the right CRC: STATUS_READ with the status byte of the last commanded group, ID_READ
with 0x10, 0x44 and 0x68, each under the CRC of the frame, and each accepted command is counted and reported. A wrong CRC has no effect;
otherwise no target answers and nothing changes. -/
def Obligations.LegacyMasterAndSlave : Prop :=
  ((∀ (k : Fin 8) (b : Byte) (s : State), s.masterPolls k = true → (s.slave k).retry = false → (s.slave k).owed = [] →
    s.stepNames k = true → (s.slave k).lost = false → s.slaveGroup k = none →
    ∃ t, exec (.legacyPoll k (.data (replyBytes (0x58 + k.val) 0x20 [b]))) s = .next t ∧ t.get (K.SEQ_LEGACY_STATUS k) = b.toNat ∧
      (t.slave k).fails = 0 ∧ (t.slave k).lost = false ∧ (∀ j, j ≠ k → t.slave j = s.slave j) ∧
      ObjectsKept s t [K.SEQ_LEGACY_STATUS k] ∧ t = { s with seq := t.seq, objs := t.objs, bus := t.bus }) ∧
  (∀ (k : Fin 8) (g : Fin 16) (n : Nat) (b : Byte) (s : State), s.masterPolls k = true → (s.slave k).retry = false →
    (s.slave k).owed = [] → (s.slave k).lost = false → s.slaveGroup k = some g → (s.group g).cur = some n →
    b.toNat.testBit 1 = false → b.toNat.testBit 0 = true → b.toNat / 16 = (s.step n).stage →
    ∃ t, exec (.legacyPoll k (.data (replyBytes (0x58 + k.val) 0x20 [b]))) s = .next t ∧ (t.slave k).done = true ∧
      t.get (K.SEQ_LEGACY_STATUS k) = b.toNat ∧ (∀ j, j ≠ k → t.slave j = s.slave j) ∧
      t = { s with seq := t.seq, objs := t.objs, bus := t.bus }) ∧
  (∀ (k : Fin 8) (f : LegFrame) (s : State), s.masterPolls k = true → (s.slave k).retry = false → (s.slave k).fails < 2 →
    s.legacyRun k = some f →
    (∃ t, exec (.legacyPoll k .nack) s = .next t ∧ (t.slave k).fails = (s.slave k).fails + 1 ∧ (t.slave k).retry = true ∧
      (∀ j, j ≠ k → t.slave j = s.slave j) ∧ t = { s with seq := t.seq, bus := t.bus }) ∧
    (∀ bs : Bytes, f.reads (0x58 + k.val) bs = none →
      ∃ t, exec (.legacyPoll k (.data bs)) s = .next t ∧ (t.slave k).fails = (s.slave k).fails + 1 ∧ (t.slave k).retry = true ∧
      (∀ j, j ≠ k → t.slave j = s.slave j) ∧ t = { s with seq := t.seq, bus := t.bus })) ∧
  (∀ (k : Fin 8) (s : State), s.masterPolls k = true → (s.slave k).retry = true → 2 ≤ (s.slave k).fails →
    s.legacyRun k ≠ none → s.slaveGroup k = none →
    ∃ t, exec (.legacyRetry k .nack) s = .next t ∧ (t.slave k).lost = true ∧ bitOf (t.get K.SEQ_LEGACY_LOST) k = true ∧
      t.Shows Ev.seq 8 ∧ (∀ j, j ≠ k → t.slave j = s.slave j) ∧ t.modes = s.modes ∧ t.rails = s.rails) ∧
  (∀ (k : Fin 8) (ver : Byte) (rest : List LegFrame) (s : State), s.masterPolls k = true → (s.slave k).retry = true →
    (s.slave k).owed = .idRead :: rest →
    ∃ t, exec (.legacyRetry k (.data (replyBytes (0x58 + k.val) 0x01 [0x10#8, 0x44#8, ver]))) s = .next t ∧
      (t.slave k).lost = false ∧ (t.slave k).fails = 0 ∧ (t.slave k).retry = false ∧ (t.slave k).owed = rest ∧
      ObjectsKept s t [K.SEQ_LEGACY_LOST] ∧ t = { s with seq := t.seq, objs := t.objs, bus := t.bus })) ∧
  ((∀ (s : State), s.legacySlave = true → s.get K.SEQ_LEGACY_CMD_COUNT < 4294967294 →
    (∃ t, exec (.legacyStatusRead legacyAddr) s = .next t ∧ t.answer = .data (replyBytes legacyAddr 0x20 (toLE 1 s.legacyStatus)) ∧
      t.seq = s.seq ∧ t.rails = s.rails ∧ t.get K.SEQ_LEGACY_CMD_COUNT = s.get K.SEQ_LEGACY_CMD_COUNT + 1 ∧ t.Shows Ev.seq 9) ∧
    (∃ t, exec (.legacyIdRead legacyAddr) s = .next t ∧ t.answer = .data (replyBytes legacyAddr 0x01 [0x10#8, 0x44#8, 0x68#8]) ∧
      t.seq = s.seq ∧ t.rails = s.rails ∧ t.get K.SEQ_LEGACY_CMD_COUNT = s.get K.SEQ_LEGACY_CMD_COUNT + 1 ∧ t.Shows Ev.seq 9) ∧
    (s.groupMode = true → (∀ g, (s.group g).st = .down) →
      ∃ t, exec (.legacyAllOff legacyAddr (slaveCrc 0x31 0)) s = .next t ∧ t.answer = .done ∧ t.seq = s.seq ∧ t.rails = s.rails ∧
        t.get K.SEQ_LEGACY_CMD_COUNT = s.get K.SEQ_LEGACY_CMD_COUNT + 1 ∧ t.Shows Ev.seq 9) ∧
    (s.flag K.SEQ_LEGACY_ALLOW_CLEAR = true → s.modes.mode = .failsafe → s.get K.FS_CAUSE ≠ 5 → s.path.inService = true →
      ∃ t, exec (.legacyFaultClear legacyAddr (slaveCrc 0x30 0)) s = .next t ∧ t.answer = .done ∧ t.modes.mode = .idle ∧
        t.modes.fsLatched = false) ∧
    (s.flag K.SEQ_LEGACY_ALLOW_CLEAR = false →
      exec (.legacyFaultClear legacyAddr (slaveCrc 0x30 0)) s = .next { s with answer := .done })) ∧
  (∀ (g : Fin 16) (n : Nat) (s : State), s.legacySlave = true → s.groupMode = true → s.nextTag = some n →
    (∀ h, (s.group h).stage ≠ .dependants) →
    ((s.group g).st = .down → (s.group g).waiting = false →
      ∃ t, exec (.legacyStageGo legacyAddr g (slaveCrc 0x10 g)) s = .next t ∧ t.answer = .done ∧ (t.group g).waiting = true ∧
        t.seq.lastGroup = g.val ∧ t.seq.lastGo = true ∧ t.seq.commanded = true ∧ (t.op n).kind = .groupUp ∧ t.rails = s.rails ∧
        (∀ h, h ≠ g → t.group h = s.group h)) ∧
    (∀ k : Nat, s.dependants g = [] → (s.group g).st = .up → (s.group g).stage = .idle → (s.group g).sentSteps.head? = some k →
      ∃ t, exec (.legacyStageDown legacyAddr g (slaveCrc 0x11 g)) s = .next t ∧ t.answer = .done ∧ (t.group g).st = .falling ∧
        t.seq.lastGroup = g.val ∧ t.seq.lastGo = false ∧ t.seq.commanded = true ∧ (t.op n).kind = .groupDown ∧
        (∀ h, h ≠ g → t.group h = s.group h))) ∧
  (∀ (g : Fin 16) (e : Nat) (s : State), 0 < e → e < 256 →
    exec (.legacyStageGo legacyAddr g (slaveCrc 0x10 g + e)) s = .next { s with answer := .silent } ∧
    exec (.legacyStageDown legacyAddr g (slaveCrc 0x11 g + e)) s = .next { s with answer := .silent } ∧
    exec (.legacyAllOff legacyAddr (slaveCrc 0x31 0 + e)) s = .next { s with answer := .silent } ∧
    exec (.legacyFaultClear legacyAddr (slaveCrc 0x30 0 + e)) s = .next { s with answer := .silent }) ∧
  (∀ (g : Fin 16) (a crc : Nat) (s : State), s.legacySlave = false ∨ a ≠ legacyAddr →
    exec (.legacyStageGo a g crc) s = .next { s with answer := .silent } ∧ exec (.legacyStageDown a g crc) s = .next { s with answer := .silent } ∧
    exec (.legacyStatusRead a) s = .next { s with answer := .silent } ∧ exec (.legacyIdRead a) s = .next { s with answer := .silent } ∧
    exec (.legacyAllOff a crc) s = .next { s with answer := .silent } ∧ exec (.legacyFaultClear a crc) s = .next { s with answer := .silent }))

/-- R194, R197, R389, R390: A clock stretched too long, or SDA low at a START or STOP, revokes the bus and starts a bus clear; its end shows the
bus STUCK if SDA is still low, with TWO_WIRE_STUCK; a stuck bus is cleared again, and is free again when it recovers. -/
def Obligations.TwoWireBusClear : Prop :=
  (∀ (s : State), s.drivesBus = true →
    ∃ t, exec .sclStretchTimeout s = .next t ∧ t.bus.clearing = true ∧ t.bus.stuck = s.bus.stuck ∧ t.modes = s.modes) ∧
  (∀ (sdaLow : Bool) (s : State), s.bus.clearing = true →
    ∃ t, exec (.busClearSample sdaLow) s = .next t ∧ t.bus.clearing = false ∧ t.bus.stuck = (s.bus.stuck || sdaLow) ∧
      (sdaLow = true → s.portsOpen = true → t.Shows Ev.sup 5) ∧
      (sdaLow = false → t.modes = s.modes ∧ t.seq = s.seq)) ∧
  (∀ (s : State), s.portsOpen = true → s.bus.stuck = true →
    ∃ t, exec .busClearRepeat s = .next t ∧ t.bus.clearing = true ∧ t = { s with bus := t.bus }) ∧
  (∀ (s : State), s.portsOpen = true → s.bus.stuck = true →
    ∃ t, exec .twBusRecovered s = .next t ∧ t.bus.stuck = false ∧ t.Shows Ev.sup 6 ∧ t.modes = s.modes ∧
      t.rails = s.rails) ∧
  (∀ (k : Fin 8) (s : State), s.masterPolls k = true → (s.slave k).retry = false → s.legacyRun k ≠ none →
    ∃ t, exec (.legacyPoll k .sdaLow) s = .next t ∧ t.bus.clearing = true ∧ t.bus.stuck = false ∧ (t.slave k).retry = true ∧
      (t.slave k).fails = (s.slave k).fails ∧ t.Shows Ev.sup 4 ∧ t.modes = s.modes ∧ t.rails = s.rails)

/-- R378, R379, R383, R384, R388: A mailbox request makes the mailbox busy and leaves its response, which is ready when execution ends and is
read once; a busy mailbox takes no request; segments join under a lease, which silence revokes, and WRITE_END applies them as one write; a
bad frame only shows in STAT and its counters. -/
def Obligations.MailboxRequests : Prop :=
  (∀ (q : Fin 2) (r : Fin 32) (d : ObjDef) (s : State), s.portsOpen = true → s.targetOn q = true → s.reach (portAcc q) (K.RAIL_VSET r) = .ok d →
    ((s.port q).box.busy = false → ∃ t, exec (.objectRequestRead q (K.RAIL_VSET r) 0 2) s = .next t ∧ (t.port q).box.busy = true ∧
      (t.port q).box.ready = false ∧ (t.port q).box.code = 0 ∧ (t.port q).box.data = (d.bytes (s.get (K.RAIL_VSET r))).take 2 ∧
      t.get (K.RAIL_VSET r) = s.get (K.RAIL_VSET r) ∧ t.modes = s.modes ∧ t.rails = s.rails) ∧
    ((s.port q).box.busy = true → ∃ t, exec (.objectRequestRead q (K.RAIL_VSET r) 0 2) s = .next t ∧
      (t.port q).box = (s.port q).box ∧ (t.port q).frameErr = true ∧ t.modes = s.modes ∧ t.rails = s.rails)) ∧
  (∀ (q : Fin 2) (data : Bytes) (d : ObjDef) (v : Int) (s : State), s.portsOpen = true → s.targetOn q = true →
    s.reach (portAcc q) K.PP_TVINQ = .ok d → (s.port q).box.busy = false → data.length = 2 → d.value data = v →
    (10 ≤ v → v ≤ 10000 → ∃ t, exec (.objectRequestWrite q K.PP_TVINQ 0 data) s = .next t ∧ t.get K.PP_TVINQ = v ∧
      (t.port q).box.busy = true ∧ (t.port q).box.code = 0 ∧ t.modes = s.modes ∧ t.rails = s.rails) ∧
    (v < 10 ∨ 10000 < v → ∃ t, exec (.objectRequestWrite q K.PP_TVINQ 0 data) s = .next t ∧
      t.get K.PP_TVINQ = s.get K.PP_TVINQ ∧ (t.port q).box.code = Abort.outOfRange.code)) ∧
  (∀ (q : Fin 2) (key : Nat) (data : Bytes) (d : ObjDef) (s : State), s.portsOpen = true → s.targetOn q = true →
    s.reachAs true (portAcc q) key = .ok d → d.access = .rw ∨ d.access = .wo → s.writeBarred (portAcc q) d key d.size = none →
    s.segmentsLost q = false → (s.port q).box.busy = false → data.length ≤ 256 →
    ∃ t, exec (.objectRequestWriteSeg q key 0 data) s = .next t ∧ (t.port q).box.seg = some (key, data) ∧
      (t.channel (portChannel q)).st = .running ∧ (t.port q).box.code = 0 ∧ t.modes = s.modes ∧ t.rails = s.rails) ∧
  (∀ (q : Fin 2) (key : Nat) (data have_ : Bytes) (s : State), s.portsOpen = true → s.targetOn q = true →
    (s.port q).box.busy = false → (s.port q).box.seg = some (key, have_) → s.segmentsLost q = false → have_ ≠ [] →
    data.length ≤ 256 →
    (∃ t, exec (.objectRequestWriteSeg q key have_.length data) s = .next t ∧
      (t.port q).box.seg = some (key, have_ ++ data) ∧ t.modes = s.modes ∧ t.rails = s.rails) ∧
    (data.length = 8 → ofLE (data.take 4) ≠ have_.length ∨ ofLE (data.drop 4) ≠ crc32 have_ →
      ∃ t, exec (.objectRequestWriteEnd q key have_.length data) s = .next t ∧ (t.port q).box.seg = none ∧
        (t.port q).box.code = Abort.typeMismatch.code ∧ t.modes = s.modes ∧ t.rails = s.rails) ∧
    (∀ (d : ObjDef) (v : Int), key = K.PP_TVINQ → s.reachWrite (portAcc q) key have_.length = .ok d →
      s.roleOk (portAcc q) d = true → d.value have_ = v → data = toLE 4 have_.length ++ toLE 4 (crc32 have_) →
      ∃ t, exec (.objectRequestWriteEnd q key have_.length data) s = .next t ∧ (t.port q).box.seg = none ∧
        (t.port q).box.channel = none ∧ t.modes = s.modes ∧ t.rails = s.rails ∧
        (10 ≤ v → v ≤ 10000 → t.get K.PP_TVINQ = v ∧ (t.port q).box.code = 0) ∧
        (v < 10 ∨ 10000 < v → t.get K.PP_TVINQ = s.get K.PP_TVINQ ∧ (t.port q).box.code = Abort.outOfRange.code))) ∧
  (∀ (q : Fin 2) (s : State), (s.port q).box.busy = true →
    ∃ t, exec (.mailboxResponseReady q) s = .next t ∧ (t.port q).box.busy = false ∧ (t.port q).box.ready = true ∧
      (t.port q).box.data = (s.port q).box.data ∧ t = { s with ports := t.ports }) ∧
  (∀ (q : Fin 2) (s : State), s.portsOpen = true → s.targetOn q = true → (s.port q).box.busy = false →
    ∃ t, exec (.objectResponse q) s = .next t ∧ ∃ bs, t.answer = .data bs ∧ (bs.drop 2).take 2 = toLE 2 (s.port q).box.code ∧
      (bs.drop 8).take (s.port q).box.data.length = (s.port q).box.data ∧ (t.port q).box.ready = false ∧ t.modes = s.modes) ∧
  (∀ (q : Fin 2) (s : State), (s.port q).box.channel ≠ none → (s.channel (portChannel q)).st = .running →
    ∃ t, exec (.segmentSilence q) s = .next t ∧ (t.port q).box.revoked = true ∧ (t.port q).box.seg = none ∧
      (t.channel (portChannel q)).st = .halted ∧ (s.portsOpen = true → t.Shows Ev.sup 4) ∧ t.modes = s.modes ∧ t.rails = s.rails) ∧
  (∀ (bytes : Bytes) (reads r : Nat) (s : State), s.portsOpen = true → r ≠ 5 → r ≠ 24 →
    hostFrame 0 (s.port 0).box.want bytes false = .winRead r →
    ∃ t, exec (.spiFrameInvalid 0 bytes false reads) s = .next t ∧ t.answer = State.winAnswer (s.stat 0) (t.winValue 0 r) ∧
      (t.port 0).crcErr = false ∧ (t.port 0).frameErr = false ∧ t.ints.inService = s.ints.inService ∧ t.modes = s.modes ∧
      t.rails = s.rails) ∧
  (∀ (q : Fin 2) (bytes : Bytes) (cut : Bool) (reads : Nat) (f : PortFrame) (s : State), s.portsOpen = true → s.targetOn q = true →
    hostFrame q (s.port q).box.want bytes cut = f → f = .badForm ∨ f = .badCrc →
    ∃ t, exec (.spiFrameInvalid q bytes cut reads) s = .next t ∧ (t.port q).crcErr = decide (f = .badCrc) ∧
      (t.port q).frameErr = decide (f = .badForm) ∧ (t.port q).box = (s.port q).box ∧ t = { s with objs := t.objs, ints := t.ints, net := t.net, ports := t.ports, freeIdx := t.freeIdx, answer := t.answer }) ∧
  (∀ (reads : Nat) (s : State), s.portsOpen = true → s.targetOn 1 = true →
    (∃ t, exec (.twStretchLimit reads) s = .next t ∧ (t.port 1).frameErr = true ∧ (t.port 1).box = (s.port 1).box ∧ t.answer = .data (List.replicate reads 0xFF#8) ∧
      t.modes = s.modes ∧ t.rails = s.rails) ∧
    (s.get K.LP_TW_TIMEOUTS < 4294967294 → ∃ t, exec .twTimeout s = .next t ∧
      t.get K.LP_TW_TIMEOUTS = s.get K.LP_TW_TIMEOUTS + 1 ∧ t.Shows Ev.lp 4 ∧ t.ports = s.ports ∧ t.modes = s.modes ∧ t.rails = s.rails))

/-- R204, R206, R207, R208, R209, R210, R211, R212, R213, R218: An update advances every lag of every fitted tile and its junction; a sample
takes every reading in, and one outside the sensor's range breaks it; a sensor that disagrees for 8 samples is broken; a tile leaves fast
rate, a divergence is reported, and a reset in SERVICE makes every DISAGREE sensor valid. The junction of tile 0 or a hot spot above
`SIR_T_SHUT` for 10 updates, and a valid sensor above it in 2 samples, are TEMP_LIMIT faults that start SEAL while rails may be up; of those
that stand the lowest tile's is recorded, and of one tile the model's before a sensor's; in IDLE they open every AUX output, stop the
charger and start no SEAL. -/
def Obligations.ThermalModelAndLimits : Prop :=
  ((∀ (s : State), s.siroccoRuns = true →
    ∃ t, exec .siroccoUpdate s = .next t ∧
      (∀ n : Fin 8, s.tileFitted n = true →
        (∀ i : Fin 4, (t.thermTile n).dt[i] = lag (s.thermTile n).dt[i] (s.tileInput n)
          (s.get (if n = 0 then K.SIR_KEEPER_R i else K.SIR_LANTERN_R i))
          (s.getN (if n = 0 then K.SIR_KEEPER_TAU i else K.SIR_LANTERN_TAU i))) ∧
        (t.thermTile n).tj = (s.thermTile n).tref + (t.thermTile n).dt.toList.sum ∧
        (t.thermTile n).tref = (s.thermTile n).tref) ∧
      (∀ n : Fin 8, s.tileFitted n = false → t.thermTile n = s.thermTile n) ∧
      (∀ p, (t.phase p).thN = 0 ∧ (t.phase p).st = (s.phase p).st) ∧ t.rails = s.rails ∧ t.modes = s.modes ∧ t.mram = s.mram) ∧
  (∀ (n : Fin 8) (rs : Vector Int 4) (s : State), s.siroccoRuns = true → n = 0 ∨ s.tilePowered n = true →
    ∃ t, exec (.sensorSample n rs) s = .next t ∧
      (∀ k ∈ sensorsOf n, (t.sensor n k).reading = some rs[k] ∧
        ((s.sensor n k).st = .valid → (t.sensor n k).st =
          if rs[k] < -5500 then .opened else if 17500 < rs[k] then .short else .valid)) ∧
      (∀ m, m ≠ n → t.thermTile m = s.thermTile m) ∧ t.rails = s.rails ∧ t.modes = s.modes ∧ t.mram = s.mram) ∧
  (∀ (n : Fin 8) (k : Fin 4) (s : State), s.siroccoRuns = true → (∀ m, s.sensorTrips m = []) → k ∈ sensorsOf n →
    (s.sensor n k).st = .valid → 8 ≤ (s.sensor n k).disRun → s.disagrees n k = true →
    (∀ m j, (m, j) ≠ (n, k) → (s.sensor m j).disRun < 8) →
    ∃ t, exec .sensorBroken s = .next t ∧ (t.sensor n k).st = .disagree ∧ t.Shows Ev.sir 4 ∧
      (∀ m j, (m, j) ≠ (n, k) → t.sensor m j = s.sensor m j) ∧ t.rails = s.rails ∧ t.modes = s.modes) ∧
  (∀ (n : Fin 8) (s : State), s.siroccoRuns = true → (s.thermTile n).fast = true → (s.thermTile n).low = true →
    ∃ t, exec (.rateSlow n) s = .next t ∧ (t.thermTile n).fast = false ∧ t.Shows Ev.sir 3 ∧
      (∀ m, m ≠ n → t.thermTile m = s.thermTile m) ∧ ObjectsKept s t (K.SIR_EVENT_TILES :: eventObjects Ev.sir)) ∧
  (∀ (n : Fin 8) (s : State), s.siroccoRuns = true → (s.thermTile n).far = true → (s.thermTile n).diverge = false →
    ∃ t, exec (.modelDiverge n) s = .next t ∧ (t.thermTile n).diverge = true ∧ t.Shows Ev.sir 6 ∧
      (∀ m, m ≠ n → t.thermTile m = s.thermTile m) ∧ ObjectsKept s t (K.SIR_EVENT_TILES :: eventObjects Ev.sir)) ∧
  (∀ (acc : Accessor) (s : State), s.Admits acc K.SIR_SENSOR_RESET 1 → s.installerUp acc = true → s.modes.mode = .service →
    ∃ t, exec (.sirSensorReset acc) s = .next t ∧ t.answer = .done ∧
      (∀ n k, (s.sensor n k).st = .disagree → (t.sensor n k).st = .valid ∧ (t.sensor n k).disRun = 0) ∧
      (∀ n k, (s.sensor n k).st ≠ .disagree → t.sensor n k = s.sensor n k) ∧
      t = { s with therm := t.therm, answer := t.answer })) ∧
  ((∀ (s : State), s.siroccoRuns = true → s.faultMode = true → 10 ≤ (s.thermTile 0).hotRun →
    ∃ t, exec .tempLimitModel s = .next t ∧ FaultSeals s t ⟨0x09, .keeper, 0, 0⟩) ∧
  (∀ (p : Fin 56) (s : State), s.siroccoRuns = true → s.faultMode = true → (s.thermTile 0).hotRun < 10 → 10 ≤ (s.phase p).hotRun →
    (∀ q, q ≠ p → (s.phase q).hotRun < 10) → (∀ m, m < tileOf p → s.sensorTrips m = []) →
    ∃ t, exec .tempLimitModel s = .next t ∧ FaultSeals s t ⟨0x09, .phase, p.val, (tileOf p).val⟩) ∧
  (∀ (n : Fin 8) (k : Fin 4) (s : State), s.siroccoRuns = true → s.faultMode = true →
    k ∈ s.validSensors n → 2 ≤ (s.sensor n k).hotRun → (∀ j, j < k → (s.sensor n j).hotRun < 2) →
    (∀ m, m ≤ n → s.modelTrips m = []) → (∀ m, m < n → s.sensorTrips m = []) →
    ∃ t, exec .tempLimitSensor s = .next t ∧ FaultSeals s t ⟨0x09, .keeper, 0x10 + k.val, n.val⟩) ∧
  (∀ (s : State), s.siroccoRuns = true → s.modes.mode = .idle → s.ramping = false → s.anyRailLive = false →
    s.therm.shutIdle = false → 10 ≤ (s.thermTile 0).hotRun →
    ∃ t, exec .tempLimitModel s = .next t ∧ t.therm.shutIdle = true ∧ t.modes = s.modes ∧ t.rails = s.rails ∧
      t.charging = false ∧ (∀ j : Fin 4, (t.aux j).st = .off) ∧ t.Shows Ev.sir 7))

/-- R416, R418, R419, R420, R423: Raw access reads and writes at the accessor's own position, which moves on by what was moved. A read answers
at most 256 bytes of the partition; a write stores its bytes there and changes no other byte of the array. The partitions whose record
layout is not given, the journal headers and METRO, are left out of the read's clause: what they read as is free. A scrub batch moves the
position on by 64 words, around the array, and leaves every byte of it as it was; a pass that ends and rewritten weak words are reported.
The right password unlocks its partition for the holder, a wrong one is answered PASSWORD_REQUIRED and changes no unlock; a password that is
set is held as its SHA-256 digest; a lock, and 600 s without access, end the holder's unlocks; a lockout ends. -/
def Obligations.MramAccessAndPasswords : Prop :=
  ((∀ (acc : Accessor) (corrected bad : List Nat) (d : ObjDef) (part : Partition) (s : State), s.portsOpen = true →
    s.reach acc K.MRAM_RAW_DATA = .ok d →
    partitions[(s.rawPos (holderOf acc)).1]? = some part → s.pwBars (holderOf acc) (s.rawPos (holderOf acc)).1 false = false →
    part.rawRead = true →
    (part.base + (s.rawPos (holderOf acc)).2 + 256 ≤ 0x180000 ∨ 0x182000 ≤ part.base + (s.rawPos (holderOf acc)).2) →
    ∃ t, exec (.mramRawRead acc corrected bad) s = .next t ∧
      t.answer = .data (s.readMram (part.base + (s.rawPos (holderOf acc)).2) (min 256 (part.size - (s.rawPos (holderOf acc)).2))) ∧
      (t.rawPos (holderOf acc)).2 = (s.rawPos (holderOf acc)).2 + min 256 (part.size - (s.rawPos (holderOf acc)).2) ∧
      (t.rawPos (holderOf acc)).1 = (s.rawPos (holderOf acc)).1 ∧ t.mram = s.mram ∧
      (corrected = [] → bad = [] → t = { s with nvm := t.nvm, answer := t.answer })) ∧
  (∀ (acc : Accessor) (data : Bytes) (part : Partition) (s : State), s.Admits acc K.MRAM_RAW_DATA data.length →
    partitions[(s.rawPos (holderOf acc)).1]? = some part → s.pwBars (holderOf acc) (s.rawPos (holderOf acc)).1 true = false →
    part.rawWrite = true → data ≠ [] → (s.rawPos (holderOf acc)).2 + data.length ≤ part.size → s.modes.holdup = false →
    ∃ t, exec (.mramRawWrite acc data) s = .next t ∧ t.answer = .done ∧
      t.readMram (part.base + (s.rawPos (holderOf acc)).2) data.length = data ∧
      (∀ a, a < part.base + (s.rawPos (holderOf acc)).2 ∨ part.base + (s.rawPos (holderOf acc)).2 + data.length ≤ a →
        t.mramByte a = s.mramByte a) ∧
      (t.rawPos (holderOf acc)).2 = (s.rawPos (holderOf acc)).2 + data.length ∧
      t = { s with mram := t.mram, nvm := t.nvm, answer := t.answer })) ∧
  (∀ (weak corrected : Nat) (bad : List (Fin 64)) (s : State), s.activeNotSeal = true → s.modes.holdup = false →
    ∃ t, exec (.scrubBatch weak corrected bad) s = .next t ∧
      t.get K.MRAM_SCRUB_POS = ((s.getN K.MRAM_SCRUB_POS + 64) % 262144 : Nat) ∧ t.mram = s.mram ∧ t.nvm.rewrites = [] ∧ ReportsOnly { s with nvm := t.nvm } t ∧
      (weak ≠ 0 ∨ corrected ≠ 0 → t.Shows Ev.mram 2) ∧ (corrected ≠ 0 → t.Shows Ev.mram 0) ∧ (bad ≠ [] → t.Shows Ev.mram 1) ∧
      ((s.getN K.MRAM_SCRUB_POS + 64) % 262144 = 0 → t.Shows Ev.mram 3)) ∧
  ((∀ (acc : Accessor) (data word : Bytes) (part : Nat) (wr : Bool) (i : Fin 4) (h : Bytes) (s : State),
    s.Admits acc K.MRAM_PW_PRESENT data.length → pwFields data = some (part, wr, i, word) → (s.pw i).lockEnd = none →
    (s.pw i).hash = some h →
    ∃ t, exec (.mramPwPresent acc data) s = .next t ∧
      (sha256 word = h → t.answer = .done ∧ ⟨holderOf acc, part, wr⟩ ∈ t.nvm.unlocks ∧ (t.pw i).fails = 0 ∧
        t = { s with nvm := t.nvm, answer := t.answer }) ∧
      (sha256 word ≠ h → t.answer = .abort .passwordRequired ∧ t.nvm.unlocks = s.nvm.unlocks ∧ t.Shows Ev.mram 4 ∧
        ((s.pw i).fails < 4 → (t.pw i).fails = (s.pw i).fails + 1 ∧ (t.pw i).lockEnd = none) ∧
        (4 ≤ (s.pw i).fails → (t.pw i).lockEnd = some (s.now + min 3600 (300 * 2 ^ (s.pw i).lockouts) * 100000000) ∧
          t.Shows Ev.mram 5))) ∧
  (∀ (acc : Accessor) (data word : Bytes) (part : Nat) (wr : Bool) (i : Fin 4) (d : ObjDef) (s : State), s.portsOpen = true →
    s.reachWrite acc K.MRAM_PW_SET data.length = .ok d → pwFields data = some (part, wr, i, word) →
    s.pwBars (holderOf acc) part wr = false → s.installerUp acc = true → 8 ≤ word.length → word.length ≤ 32 →
    s.modes.holdup = false →
    ∃ t, exec (.mramPwSet acc data) s = .next t ∧ t.answer = .done ∧ (t.pw i).hash = some (sha256 word) ∧
      (∀ j, j ≠ i → t.pw j = s.pw j) ∧ t = { s with nvm := t.nvm, answer := t.answer }) ∧
  (∀ (acc : Accessor) (s : State), s.Admits acc K.MRAM_PW_LOCK 1 →
    ∃ t, exec (.mramPwLock acc) s = .next t ∧ t.answer = .done ∧
      (∀ u : Unlock, u ∈ t.nvm.unlocks ↔ u ∈ s.nvm.unlocks ∧ u.holder ≠ holderOf acc) ∧
      t = { s with nvm := t.nvm, answer := t.answer }) ∧
  (∀ (holder : Option (Fin 64)) (part : Nat) (s : State), s.transferNames holder part = false →
    ∃ t, exec (.unlockIdleExpiry holder part) s = .next t ∧
      (∀ u : Unlock, u ∈ t.nvm.unlocks ↔ u ∈ s.nvm.unlocks ∧ ¬(u.holder = holder ∧ u.part = part)) ∧
      t = { s with nvm := t.nvm }) ∧
  (∀ (i : Fin 4) (s : State),
    ∃ t, exec (.pwLockoutExpiry i) s = .next t ∧ (t.pw i).lockEnd = none ∧ (t.pw i).lockouts = (s.pw i).lockouts ∧
      (∀ j, j ≠ i → t.pw j = s.pw j) ∧ t = { s with nvm := t.nvm }))

/-- R194, R195, R264, R425, R428, R429, R430, R431: An accepted start takes a tag and puts the channel at the head of its descriptor; the
Keeper's own channels 0 to 5 answer a start TYPE_MISMATCH and stay as they are; the first start by the issuer whose lease was revoked is
answered LEASE_REVOKED. A burst that meets an uncorrectable word moves nothing and makes a retry due; so does a grant that does not come; a
retry within its limit goes on, one beyond it halts the channel with reason 1; a run whose elements have moved ends DONE with its tag
COMPLETED; the lease lost halts the channel with reason 2, and the estimator, where it loses the port, has its records to write again. One
granted burst moves a descriptor of one element: the destination then holds the bytes that the source held, every other byte of MRAM is as
it was, and the run has moved all its elements. -/
def Obligations.DmaChannels : Prop :=
  ((∀ (acc : Accessor) (c : Fin 8) (n : Nat) (d : ObjDef) (s : State), s.portsOpen = true →
    s.reachWrite acc (K.DMA_START c) 1 = .ok d → 6 ≤ c.val →
    s.regionBarred (holderOf acc) (s.desc c).src (s.desc c).size false = false →
    s.regionBarred (holderOf acc) (s.desc c).dst (s.desc c).size true = false →
    ((s.desc c).store = true → s.regionBarred (holderOf acc) (s.desc c).checkAddr 4 true = false) →
    s.installerUp acc = true → (s.desc c).wellFormed = true → (s.desc c).addressed = true → (s.channel c).st ≠ .running →
    (regionOf (s.desc c).src (s.desc c).size = some .mirage → s.mirBusy = false) → (s.channel c).revokedOf.contains (s.issuerOf acc) = false →
    s.nextTag = some n →
    ∃ t, exec (.dmaStart acc c) s = .next t ∧ t.answer = .tag n ∧ (t.channel c).st = .running ∧ (t.channel c).tag = some n ∧
      (t.channel c).src = (s.desc c).src ∧ (t.channel c).dst = (s.desc c).dst ∧ (t.channel c).moved = false ∧
      t.get (K.DMA_CH_TAG c) = n ∧ t.get (K.DMA_CH_HALT c) = 0 ∧ (t.op n).kind = .dma ∧ (t.op n).status = .running ∧
      (∀ b, b ≠ c → t.channel b = s.channel b) ∧ t.mram = s.mram) ∧
  (∀ (acc : Accessor) (c : Fin 8) (d : ObjDef) (s : State), s.portsOpen = true → s.reachWrite acc (K.DMA_START c) 1 = .ok d →
    c.val < 6 → exec (.dmaStart acc c) s = .next { s with answer := .abort .typeMismatch }) ∧
  (∀ (acc : Accessor) (c : Fin 8) (d : ObjDef) (s : State), s.portsOpen = true → s.reachWrite acc (K.DMA_START c) 1 = .ok d → 6 ≤ c.val →
    s.regionBarred (holderOf acc) (s.desc c).src (s.desc c).size false = false →
    s.regionBarred (holderOf acc) (s.desc c).dst (s.desc c).size true = false → (s.desc c).store = false → s.installerUp acc = true →
    (s.desc c).wellFormed = true → (s.desc c).addressed = true → (s.channel c).st ≠ .running →
    (regionOf (s.desc c).src (s.desc c).size = some .mirage → s.mirBusy = false) → (s.channel c).revokedOf.contains (s.issuerOf acc) = true →
    ∃ t, exec (.dmaStart acc c) s = .next t ∧ t.answer = .abort .leaseRevoked ∧ t.channel c = { s.channel c with revokedOf := (s.channel c).revokedOf.erase (s.issuerOf acc) } ∧
      (∀ b, b ≠ c → t.channel b = s.channel b) ∧ t = { s with dma := t.dma, answer := t.answer })) ∧
  ((∀ (c : Fin 8) (s : State), s.modes.holdup = false → s.activeNotSeal = true → 6 ≤ c.val → (s.channel c).st = .running →
    (s.channel c).moved = false → (s.channel c).retryDue = false →
    (∀ b : Fin 8, 6 ≤ b.val → b < c → (s.channel b).st ≠ .running) → 0x20000000 ≤ (s.channel c).src →
    ∃ t, exec (.mramPortGrant (some 0) []) s = .next t ∧ (t.channel c).retryDue = true ∧
      (t.channel c).fails = (s.channel c).fails + 1 ∧ t.get K.MRAM_LAST_UE = (s.channel c).src - (s.channel c).src % 8 ∧ t.Shows Ev.mram 1 ∧
      t.mram = s.mram ∧ (∀ b, b ≠ c → t.channel b = s.channel b)) ∧
  (∀ (c : Fin 8) (s : State), (s.channel c).st = .running → (s.channel c).retryDue = false → (s.channel c).moved = false →
    ∃ t, exec (.dmaGrantTimeout c) s = .next t ∧ (t.channel c).retryDue = true ∧
      (t.channel c).fails = (s.channel c).fails + 1 ∧ (∀ b, b ≠ c → t.channel b = s.channel b) ∧ t = { s with dma := t.dma }) ∧
  (∀ (c : Fin 8) (s : State), (s.channel c).st = .running → (s.channel c).retryDue = true →
    ∃ t, exec (.dmaRetry c) s = .next t ∧ (t.channel c).retryDue = false ∧
      ((s.channel c).fails < (s.desc c).retryLimit → (t.channel c).st = .running ∧ t.Shows (Ev.dma c) 2) ∧
      ((s.desc c).retryLimit ≤ (s.channel c).fails → (t.channel c).st = .halted ∧ t.get (K.DMA_CH_HALT c) = 1 ∧
        t.Shows (Ev.dma c) 1) ∧ (∀ b, b ≠ c → t.channel b = s.channel b) ∧ t.mram = s.mram) ∧
  (∀ (c : Fin 8) (n : Nat) (s : State), (s.channel c).st = .running → (s.channel c).moved = true → (s.desc c).verify = false →
    (s.desc c).store = false → (s.channel c).tag = some n → n < 128 → (s.op n).status = .running →
    ∃ t, exec (.dmaDone c) s = .next t ∧ (t.channel c).st = .done ∧ (t.channel c).tag = none ∧ t.Shows (Ev.dma c) 0 ∧
      (t.op n).status = .completed ∧ (∀ b, b ≠ c → t.channel b = s.channel b) ∧ t.mram = s.mram) ∧
  (∀ (c : Fin 8) (s : State), s.keeperRuns = true → (s.channel c).st = .running →
    ∃ t, exec (.mramLeaseRevoke (some c)) s = .next t ∧ (t.channel c).st = .halted ∧ t.get (K.DMA_CH_HALT c) = 2 ∧
      (s.portsOpen = true → t.Shows Ev.sup 4) ∧ (∀ b, b ≠ c → t.channel b = s.channel b) ∧ t.mram = s.mram) ∧
  (∀ (s : State), s.keeperRuns = true →
    ∃ t, exec (.mramLeaseRevoke none) s = .next t ∧ (s.portsOpen = true → t.Shows Ev.sup 4) ∧
      t.est = { s.est with coreDue := s.est.coreDue || s.est.wrote.testBit 0, rowsDue := s.est.rowsDue ||| s.est.wrote / 2 } ∧
      t = { s with est := t.est, objs := t.objs, ints := t.ints, net := t.net, deferred := t.deferred })) ∧
  (∀ (c : Fin 8) (p q : Nat) (s : State), s.modes.holdup = false → s.activeNotSeal = true → 6 ≤ c.val →
    (∀ b : Fin 8, 6 ≤ b.val → b < c → (s.channel b).st ≠ .running) → (s.channel c).st = .running → (s.channel c).moved = false →
    (s.channel c).retryDue = false → (s.channel c).k0 = 0 → (s.channel c).k1 = 0 → (s.channel c).k2 = 0 →
    (s.desc c).count0 = 1 → (s.desc c).count1 = 1 → (s.desc c).count2 = 1 →
    (s.channel c).src = (s.desc c).src → (s.channel c).dst = (s.desc c).dst →
    regionOf (s.desc c).src (s.desc c).size = some (.part p) → p ≠ 0 → p ≠ 1 →
    regionOf (s.desc c).dst (s.desc c).size = some (.part q) → s.get (K.DMA_CH_ELEMENTS c) < 4294967295 →
    ∃ t, exec (.mramPortGrant none []) s = .next t ∧ (t.channel c).moved = true ∧ (t.channel c).st = .running ∧
      t.readMram ((s.desc c).dst - 0x20000000) (s.desc c).size = s.readMram ((s.desc c).src - 0x20000000) (s.desc c).size ∧
      (∀ a, a < (s.desc c).dst - 0x20000000 ∨ (s.desc c).dst - 0x20000000 + (s.desc c).size ≤ a →
        t.mramByte a = s.mramByte a) ∧
      t.get (K.DMA_CH_ELEMENTS c) = s.get (K.DMA_CH_ELEMENTS c) + 1 ∧ (∀ b, b ≠ c → t.channel b = s.channel b))

/-- R433, R434, R435, R436, R437: Mirage is armed with an empty ring from the next 10 µs boundary. A frame joins the ring, which then holds no
more than its capacity; the first frame at or after the trigger's time is the trigger frame, behind at most `MIR_PRE` others, and the frames
after it count down the post window. A trigger of the chosen kind, a write of 0x3C and everything-off trigger an ARMED capture at the
present time; a stop and a full post window end the recording; the rotation publishes it. -/
def Obligations.MirageCapture : Prop :=
  (∀ (acc : Accessor) (d : ObjDef) (s : State), s.portsOpen = true → s.reachWrite acc K.MIR_ARM 1 = .ok d →
    s.installerUp acc = true → s.mirArmCheck = none →
    ∃ t, exec (.mirArmCmd acc) s = .next t ∧ t.answer = .done ∧ t.mir.st = .armed ∧ t.mir.frames = [] ∧ t.mir.next = 0 ∧
      t.mir.trigTime = none ∧ t.mir.trigFrame = none ∧ t.mir.ended = none ∧ t.mir.t0 = (s.now / 1000 + 1) * 1000 ∧
      t.mir.size = s.mirFrameSize ∧ t = { s with mir := t.mir, ints := { s.ints with firedAt := none }, answer := t.answer }) ∧
  (∀ (acc : Accessor) (d : ObjDef) (s : State), s.portsOpen = true → s.reachWrite acc K.MIR_ARM 1 = .ok d →
    s.installerUp acc = true → s.mirBusy = true → s.mir.ended = none →
    ∃ t, exec (.mirStopCmd acc) s = .next t ∧ t.answer = .done ∧ t = { s with mir := { s.mir with ended := some .stopped }, answer := .done }) ∧
  (∀ (acc : Accessor) (d : ObjDef) (s : State), s.portsOpen = true → s.reachWrite acc K.MIR_ARM 1 = .ok d →
    s.installerUp acc = true → s.mir.st = .armed → s.mir.ended = none →
    ∃ t, exec (.mirTriggerCmd acc) s = .next t ∧ t.answer = .done ∧ t.mir = { s.mir with st := .triggered, trigTime := some s.now } ∧
      t.Shows Ev.mir 0 ∧ ObjectsKept s t (eventObjects Ev.mir) ∧
      t = { s with mir := t.mir, objs := t.objs, ints := t.ints, net := t.net, answer := t.answer }) ∧
  (∀ (values : List (Option Int)) (s : State), s.keeperRuns = true → s.mirBusy = true → s.mir.ended = none → s.ints.firedAt = none →
    (s.mir.st = .triggered → s.mir.trigFrame ≠ none → s.mir.postLeft ≠ 0) →
    ∃ t, exec (.mirageFrame values) s = .next t ∧ (∃ f : Bytes, f.length = s.mirFrameSize ∧
        (s.mir.trigFrame = none → s.mir.trigTime.all (fun at_ => decide (s.mirFrameTime s.mir.next < at_)) = true →
          t.mir.frames = (s.mir.frames ++ [f]).drop (s.mir.frames.length + 1 - s.mirCapacity) ∧
            t.mir.frames.length ≤ s.mirCapacity ∧ t.mir.trigFrame = none) ∧
        (∀ at_ : Nat, s.mir.trigFrame = none → s.mir.trigTime = some at_ → at_ ≤ s.mirFrameTime s.mir.next →
          t.mir.frames = s.mir.frames.drop (s.mir.frames.length - min (s.getN K.MIR_PRE) s.mir.frames.length) ++ [f] ∧
            t.mir.preValid = min (s.getN K.MIR_PRE) s.mir.frames.length ∧ t.mir.trigFrame = some s.mir.next ∧
            t.mir.postLeft = s.getN K.MIR_POST - 1) ∧
        (s.mir.trigFrame ≠ none → t.mir.frames = s.mir.frames ++ [f] ∧ t.mir.trigFrame = s.mir.trigFrame ∧
          t.mir.postLeft = s.mir.postLeft - 1)) ∧
      t.mir.next = s.mir.next + 1 ∧ t.mir.st = s.mir.st ∧ t.mir.ended = none ∧ ObjectsKept s t (eventObjects Ev.mir) ∧
      t = { s with mir := t.mir, objs := t.objs, ints := t.ints, net := t.net, deferred := t.deferred }) ∧
  (∀ (kind arg at_ : Nat) (before after : Int) (s : State), s.keeperRuns = true → s.mir.st = .armed → s.mir.ended = none →
    s.getN K.MIR_TRIG_KIND = kind → s.getN K.MIR_TRIG_ARG = arg →
    (kind = 3 ∧ at_ = s.now ∧ before < s.get K.MIR_TRIG_LEVEL ∧ s.get K.MIR_TRIG_LEVEL ≤ after) ∨
      (kind = 4 ∧ at_ = s.now ∧ s.get K.MIR_TRIG_LEVEL ≤ before ∧ after < s.get K.MIR_TRIG_LEVEL) ∨
      (kind = 6 ∧ s.ints.firedAt = some at_) →
    ∃ t, exec (.mirageTrigger kind arg before after) s = .next t ∧ t.mir = { s.mir with st := .triggered, trigTime := some at_ } ∧
      (s.portsOpen = true → t.Shows Ev.mir 0) ∧ ObjectsKept s t (eventObjects Ev.mir) ∧
      t = { s with mir := t.mir, objs := t.objs, ints := t.ints, net := t.net, deferred := t.deferred }) ∧
  (∀ (s : State), s.mir.st = .triggered → s.mir.trigFrame ≠ none → s.mir.postLeft = 0 → s.mir.ended = none →
    ∃ t, exec .miragePostFull s = .next t ∧ t = { s with mir := { s.mir with ended := some .done } }) ∧
  (∀ (how : MirState) (s : State), s.keeperRuns = true → s.mir.ended = some how →
    ∃ t, exec .mirageRotationDone s = .next t ∧ t.mir = { s.mir with st := how, ended := none } ∧
      t.get K.MIR_FRAMES = s.mir.frames.length ∧ t.get K.MIR_PRE_VALID = s.mir.preValid ∧
      (s.mir.frames ≠ [] → t.get K.MIR_FIRST_AT = s.mirFrameTime (s.mir.next - s.mir.frames.length)) ∧
      (∀ k ∈ s.mir.trigFrame, t.get K.MIR_TRIG_AT = s.mirFrameTime k) ∧ (s.portsOpen = true → t.Shows Ev.mir 1) ∧
      t = { s with mir := t.mir, objs := t.objs, ints := t.ints, net := t.net, deferred := t.deferred })

/-- R235, R239, R241, R243, R244, R248: In each cycle of the charger the loop of lower duty governs; a precharged pack goes to FAST_CC, a
terminated cycle is DONE, a pack below the recharge threshold starts a new one; an expired timer is a fault with its code. `CHG_EN` at 0
disables the charger, `CHG_START` starts a cycle where the conditions of R238 hold and clears a fault, a kick ends the watchdog's fallback
at the next tick, an expiry starts it; an over-voltage stop suspends and probes, and a pack still above the threshold 100 ms later is a
fault with code 5. -/
def Obligations.ChargerRuns : Prop :=
  ((∀ (current voltage : Int) (s : State), s.charging = true →
    ∃ t, exec (.chargerCycle current voltage) s = .next t ∧ t.chg.duty = min voltage current ∧
      t.chg.voltageLoop = decide (voltage < current) ∧
      (s.chg.st = .fastCc ∨ s.chg.st = .fastCv → t.chg.st = if voltage < current then .fastCv else .fastCc) ∧
      (s.chg.st = .precharge → t.chg.st = .precharge) ∧ t.modes = s.modes ∧ t.rails = s.rails ∧ t.path = s.path ∧ t.mram = s.mram) ∧
  (∀ (s : State), s.chg.st = .precharge → s.vPre ≤ s.get K.PP_VBAT →
    ∃ t, exec .prechargeQualified s = .next t ∧ t.chg.st = .fastCc ∧ t.modes = s.modes ∧ t.rails = s.rails ∧ t.path = s.path ∧
      ObjectsKept s t (eventObjects Ev.chg)) ∧
  (∀ (s : State), s.hasCharger = true → s.chg.st = .fastCv → s.get K.CHG_I < s.iTerm →
    1000 * ((s.get K.PP_VBAT - s.vTarget).natAbs : Int) ≤ 5 * s.vTarget →
    ∃ t, exec .chgTermination s = .next t ∧ t.chg.st = .done ∧ t.Shows Ev.chg 1 ∧ t.modes = s.modes ∧ t.rails = s.rails ∧
      ObjectsKept s t (eventObjects Ev.chg)) ∧
  (∀ (s : State), s.hasCharger = true → s.chg.st = .done → s.get K.PP_VBAT < s.vRecharge → s.chargeAllowed = true →
    ∃ t, exec .rechargeThreshold s = .next t ∧ t.chg.st = (if s.get K.PP_VBAT < s.vPre then .precharge else .fastCc) ∧
      t.chg.cyclePending = false ∧ t.chg.safeTimer = 0 ∧ t.chg.preTimer = 0 ∧ t.Shows Ev.chg 0 ∧ t.modes = s.modes ∧
      t.rails = s.rails) ∧
  (∀ (s : State), s.hasCharger = true → s.chg.st = .precharge → s.getN K.CHG_PRE_TIME * 60000 ≤ s.chg.preTimer →
    ∃ t, exec .chgTimerExpiry s = .next t ∧ t.chg.st = .fault ∧ t.get K.CHG_FAULT = 3 ∧ t.Shows Ev.chg 5 ∧
      ObjectsKept s t (K.CHG_FAULT :: eventObjects Ev.chg)) ∧
  (∀ (s : State), s.hasCharger = true → s.chg.st = .fastCc ∨ s.chg.st = .fastCv →
    s.getN K.CHG_SAFETY_TIME * 60000 ≤ s.chg.safeTimer →
    ∃ t, exec .chgTimerExpiry s = .next t ∧ t.chg.st = .fault ∧ t.get K.CHG_FAULT = (if s.chg.halfRate then 2 else 1) ∧
      t.Shows Ev.chg 5 ∧ ObjectsKept s t (K.CHG_FAULT :: eventObjects Ev.chg))) ∧
  ((∀ (acc : Accessor) (s : State), s.Admits acc K.CHG_EN 1 →
    ∃ t, exec (.chgEnWrite acc 0) s = .next t ∧ t.answer = .done ∧ t.get K.CHG_EN = 0 ∧ t.chg.st = .disabled ∧
      t.modes = s.modes ∧ t.rails = s.rails ∧ ObjectsKept s t (K.CHG_EN :: eventObjects Ev.chg)) ∧
  (∀ (acc : Accessor) (s : State), s.Admits acc K.CHG_START 1 → s.chargeAllowed = true → s.chg.st = .waiting ∨ s.chg.st = .fault →
    ∃ t, exec (.chgStart acc) s = .next t ∧ t.answer = .done ∧
      t.chg.st = (if s.get K.PP_VBAT < s.vPre then .precharge else .fastCc) ∧ t.Shows Ev.chg 0 ∧
      (s.chg.st = .fault → t.get K.CHG_FAULT = 0) ∧ t.modes = s.modes ∧ t.rails = s.rails) ∧
  (∀ (acc : Accessor) (s : State), s.Admits acc K.CHG_START 1 → s.chargeAllowed = false →
    exec (.chgStart acc) s = .next { s with answer := .abort .modeForbids }) ∧
  (∀ (acc : Accessor) (s : State), s.Admits acc K.CHG_WD_KICK 1 →
    ∃ t, exec (.chgWdKick acc) s = .next t ∧ t.answer = .done ∧ t.chg.wdClear = (s.chg.wdFallback || s.chg.wdClear) ∧
      t.chg.st = s.chg.st ∧ t = { s with chg := t.chg, answer := t.answer }) ∧
  (∀ (s : State), s.keeperRuns = true → s.hasCharger = true → s.chg.wdFallback = false →
    ∃ t, exec .chgWatchdogExpiry s = .next t ∧ t.chg.wdFallback = true ∧ t.Shows Ev.chg 8 ∧ t.chg.st = s.chg.st ∧
      t.modes = s.modes ∧ t.rails = s.rails) ∧
  (∀ (v : Int) (s : State), s.charging = true → s.vOv < v →
    ∃ t, exec (.chgOvStop v) s = .next t ∧ t.chg.st = .suspended ∧ t.chg.ovStop = true ∧ t.path.probing = true ∧
      t.modes = s.modes ∧ t.rails = s.rails) ∧
  (∀ (v : Int) (s : State), s.hasCharger = true → s.chg.ovStop = true → s.batPresent = true → s.vOv < v → s.chg.st = .suspended →
    ∃ t, exec (.chgOvCheck v) s = .next t ∧ t.chg.st = .fault ∧ t.chg.ovStop = false ∧ t.get K.CHG_FAULT = 5 ∧ t.Shows Ev.chg 5 ∧
      t.modes = s.modes ∧ t.rails = s.rails))

/-- R42, R45, R222, R223, R225, R226, R229, R435: VIN absent hands the path to a usable battery, sets VIN_BLOCK and triggers a capture armed for
HANDOVER; VIN in service, in its window and qualified leads the path through QUALIFY and SWITCHBACK back to VIN; leaving the window starts
the qualification anew. VIN absent for 1 ms takes RUN to RIDE on a usable battery, an armed IDLE to SHIP, and starts a SUPPLY_LOSS SEAL
without one; so does a battery that becomes unusable while it feeds VBUS. -/
def Obligations.PowerPathAndLoss : Prop :=
  ((∀ (high : Bool) (s : State), s.path.inService = true → s.activeNotSeal = true → s.path.st = .vin → s.batUsable = true →
    ∃ t, exec (.vinComparatorTrip high) s = .next t ∧ t.path.st = .battery ∧ t.path.inService = false ∧ t.path.infetOn = false ∧
      t.path.vinBlock = true ∧ t.charging = false ∧ t.get K.PP_LOSS_REASON = (if high then 2 else 1) ∧
      t.get K.PP_HANDOVER_AT = s.now ∧ (s.portsOpen = true → t.Shows Ev.pp 0) ∧ t.modes = s.modes ∧ t.rails = s.rails ∧
      (s.mir.st = .armed → s.getN K.MIR_TRIG_KIND = 5 → t.mir.st = .triggered ∧ t.mir.trigTime = some s.now)) ∧
  (∀ (above : Bool) (s : State), s.path.inService = false →
    ∃ t, exec (.vinInService above) s = .next t ∧ t.path.inService = true ∧ t.modes.vinAbsent1ms = false ∧
      t.path.infetOn = (above && !t.path.vinBlock) ∧ t.path.st = s.path.st ∧ t.modes.mode = s.modes.mode ∧
      t = { s with path := t.path, modes := t.modes }) ∧
  (∀ (s : State), s.path.inService = true → s.path.inWindow = false → s.activeNotSeal = true → s.path.st = .battery →
    ∃ t, exec .vinWindowEnter s = .next t ∧ t.path.st = .qualify ∧ t.path.inWindow = true ∧
      t = { s with path := t.path, est := t.est }) ∧
  (∀ (s : State), s.path.inWindow = true → s.activeNotSeal = true → s.path.st = .qualify → s.get K.PP_BOUNCE_COUNT < 4294967294 →
    ∃ t, exec .vinWindowExit s = .next t ∧ t.path.st = .battery ∧ t.path.inWindow = false ∧
      t.get K.PP_BOUNCE_COUNT = s.get K.PP_BOUNCE_COUNT + 1 ∧ ObjectsKept s t [K.PP_BOUNCE_COUNT] ∧
      t = { s with path := t.path, est := t.est, objs := t.objs }) ∧
  (∀ (s : State), s.path.inWindow = true → s.path.qualified = false → s.activeNotSeal = true → s.path.vinCycle = false →
    ∃ t, exec .vinQualified s = .next t ∧ t.path.qualified = true ∧ t.path.vinBlock = false ∧ t.path.qualifiedAt = some s.now ∧
      (s.path.st = .start → t.path.st = .vin) ∧ (s.path.st = .qualify → t.path.st = .switchback) ∧
      (s.portsOpen = true → t.Shows Ev.pp 1) ∧ t.modes = s.modes ∧ t.rails = s.rails) ∧
  (∀ (s : State), s.activeNotSeal = true → s.path.st = .switchback →
    ∃ t, exec .switchbackDone s = .next t ∧ t.path.st = .vin ∧ t.modes.riding = false ∧
      (s.portsOpen = true → t.Shows Ev.pp 2) ∧ t.rails = s.rails ∧ t.phases = s.phases)) ∧
  ((∀ (s : State), s.path.inService = false → s.path.st = .battery → s.keeperRuns = true → s.batUsable = true →
    (s.modes.mode = .run → ∃ t, exec .vinAbsent1ms s = .next t ∧ t.modes.mode = .ride ∧ t.modes.riding = true ∧
      t.modes.vinAbsent1ms = true ∧ t.rails = s.rails) ∧
    (s.modes.mode = .idle → s.modes.shipArmed = true → ∃ t, exec .vinAbsent1ms s = .next t ∧ t.modes.mode = .ship ∧
      t.modes.shipLatch = true ∧ t.modes.shipArmed = false ∧ t.rails = s.rails)) ∧
  (∀ (s : State), s.path.inService = false → s.activeNotSeal = true → s.batUsable = false → s.path.st = .noSource →
    ∃ t, exec .vinAbsent1ms s = .next t ∧ SupplySeals s t) ∧
  (∀ (v : Int) (s : State), s.activeNotSeal = true → v < s.cutoffMv → s.path.st = .battery → s.modes.mode = .ride →
    ∃ t, exec (.vbatCutoff v) s = .next t ∧ SupplySeals s t ∧ t.get K.PP_VBAT = v ∧ t.path.cutoffDue = true) ∧
  (∀ (s : State), s.activeNotSeal = true → s.batUsable = false → s.path.st = .battery → s.modes.mode = .ride →
    ∃ t, exec .batteryUnusable s = .next t ∧ SupplySeals s t ∧
      t.path.cutoffDue = (s.path.cutoffDue || s.vbatLow || decide (s.path.bat = .missing) || decide (s.path.bat = .shorted))))

/-- R51, R53, R222, R230, R231, R232, R233, R234, R260: The battery path conducts except under the REST hold; a probe runs off battery and
pauses the charger, and its pulse's rise and end tell MISSING, SHORTED and PRESENT; a rest window opens the hold and ends it. A press is
shown and wakes VAULT; a short press is reported and clears FAILSAFE; a long press ends SHIP, or opens BATFET until 400 ms later. -/
def Obligations.BatteryProbeRestAndButton : Prop :=
  ((∀ (on : Bool) (s : State), s.path.inService = true →
    ∃ t, exec (.batpathOnChange on) s = .next t ∧ t.path.batpathOn = (on && !s.path.restHold) ∧ t.path.st = s.path.st ∧
      t = { s with path := t.path, est := t.est }) ∧
  (∀ (s : State), s.keeperRuns = true → s.batfetClosed = true → s.onBattery = false → s.path.probing = false →
    ∃ t, exec .batteryProbe s = .next t ∧ t.path.probing = true ∧ t.chg.probePause = s.charging ∧ t.chg.st = s.chg.st ∧
      t = { s with path := t.path, chg := t.chg }) ∧
  (∀ (rise endV : Int) (s : State), s.path.probing = true → s.keeperRuns = true → s.batfetClosed = true → s.path.st = .vin →
    ∃ t, exec (.probeResult rise endV) s = .next t ∧ t.path.probing = false ∧
      (250 < rise → t.path.bat = .missing) ∧
      (rise ≤ 250 → endV < 400 * s.get K.PP_CELLS → t.path.bat = .shorted) ∧
      (rise ≤ 250 → 400 * s.get K.PP_CELLS ≤ endV →
        (s.path.bat = .unknown ∨ 1 ≤ s.path.presentRun → t.path.bat = .present) ∧
        (s.path.bat = .missing → s.path.presentRun = 0 → t.path.bat = .missing ∧ t.path.presentRun = 1)) ∧
      t.modes = s.modes ∧ t.rails = s.rails) ∧
  (∀ (s : State), s.est.pending = true → s.path.st = .vin → s.restAllowed = true →
    ∃ t, exec .restEnter s = .next t ∧ t.path.st = .rest ∧ t.path.restHold = true ∧ t.est.pending = false ∧ t.Shows Ev.pp 7 ∧
      t.modes = s.modes ∧ t.rails = s.rails ∧ t.chg = s.chg) ∧
  (∀ (s : State), s.path.st = .rest →
    ∃ t, exec .restWindowEnd s = .next t ∧ t.path.st = .vin ∧ t.path.restHold = false ∧ (s.portsOpen = true → t.Shows Ev.pp 7) ∧
      t.modes = s.modes ∧ t.rails = s.rails ∧ t.chg = s.chg)) ∧
  ((∀ (s : State), s.portsOpen = true →
    ∃ t, exec .pbPress s = .next t ∧ t.path.pbPressed = true ∧ t = { s with path := t.path }) ∧
  (∀ (s : State), s.modes.mode = .vault → s.modes.vaultLatch = true → s.modes.heldReset = false → s.modes.waking = none →
    ∃ t, exec .pbPress s = .next t ∧ t.path.pbPressed = true ∧ t.get K.WAKE_SOURCE = 1 ∧ t.modes.vaultLatch = false ∧
      t.modes.waking = some 1 ∧ t.modes.mode = .vault ∧ t.rails = s.rails) ∧
  (∀ (s : State), s.path.pbPressed = true → s.portsOpen = true → s.modes.heldReset = false → s.modes.fsLatched = false → s.modes.mode ≠ .failsafe →
    ∃ t, exec .pbShortPress s = .next t ∧ t.path.pbPressed = false ∧ t.Shows Ev.pp 5 ∧ t.modes = s.modes ∧ t.rails = s.rails ∧
      ObjectsKept s t (eventObjects Ev.pp)) ∧
  (∀ (s : State), s.path.pbPressed = true → s.modes.mode = .failsafe → s.modes.heldReset = false → s.get K.FS_CAUSE ≠ 5 →
    s.path.inService = true →
    ∃ t, exec .pbShortPress s = .next t ∧ t.modes.mode = .idle ∧ t.modes.fsLatched = false ∧ t.get K.FS_RETRY_COUNT = 0 ∧
      t.get K.FS_RETRY_AT = 0 ∧ t.sup.quenchLatch = false) ∧
  (∀ (s : State), s.modes.mode = .ship → s.modes.waking = none →
    ∃ t, exec .pbLongPress s = .next t ∧ t.modes.shipLatch = false ∧ t.modes.waking = some 0x200 ∧
      t.get K.WAKE_SOURCE = 0x200 ∧ t.rails = s.rails ∧ t.mram = s.mram) ∧
  (∀ (s : State), s.modes.mode ≠ .ship → s.path.inService = true → s.path.st = .vin →
    ∃ t, exec .pbLongPress s = .next t ∧ t.path.pulse = true ∧ t.path.pulseOpen = true ∧ t.batfetClosed = false ∧
      t.path.st = .vin ∧ t = { s with path := t.path }) ∧
  (∀ (s : State), s.path.pulseOpen = true →
    ∃ t, exec .longPressBatfetRelease s = .next t ∧ t.path.pulseOpen = false ∧ t.path.st = s.path.st ∧
      t = { s with path := t.path }))

/-- R255, R256, R257, R258, R259, R260, R261, R262, R264: 20 minutes of rest, and each further 10, anchor soc to the OCV estimate; an expired
confidence and a due rest window are reported; a changed BID is a swap; a row write, a learn reset and the CORE record store what they say;
an abort ends a rest window. The estimator's writes: a row takes its 48 bytes and no other row changes; a learn reset returns capacity,
cycles and the impedance table to their defaults; an abort ends a forced window; the CORE record is written to a slot of its kind. -/
def Obligations.BatteryEstimator : Prop :=
  ((∀ (s : State), s.portsOpen = true → s.batPresent = true → s.est.start = .none → s.est.swapTick = false → s.est.bidRun < 100 →
    120000 + 60000 * s.est.anchors ≤ s.est.rest →
    ∃ t, exec .restAnchor s = .next t ∧ t.est.soc = s.est.socOcv ∧ t.est.anchors = s.est.anchors + 1 ∧ t.est.windowAnchor = true ∧
      t.get K.EST_LAST_ANCHOR = s.estSeconds ∧ t.Shows Ev.est 0 ∧ t.modes = s.modes ∧ t.rails = s.rails ∧
      (0 < s.est.anchors → t.mram = s.mram)) ∧
  (∀ (s : State), s.portsOpen = true → s.est.ran = true → s.batPresent = true → s.confidence = 0 → s.est.lowShown = false →
    ∃ t, exec .confidenceExpired s = .next t ∧ t.est.lowShown = true ∧ t.Shows Ev.est 1 ∧
      ObjectsKept s t (eventObjects Ev.est) ∧ t = { s with est := t.est, objs := t.objs, ints := t.ints, net := t.net }) ∧
  (∀ (s : State), s.portsOpen = true → s.flag K.EST_FREST_EN = true → s.confidence = 0 → s.est.pending = false →
    s.est.retryWait = false → s.path.st ≠ .rest →
    ∃ t, exec .forcedRestRequest s = .next t ∧ t.est.pending = true ∧ t.Shows Ev.est 3 ∧
      ObjectsKept s t (eventObjects Ev.est) ∧ t = { s with est := t.est, objs := t.objs, ints := t.ints, net := t.net }) ∧
  (∀ (s : State), s.portsOpen = true → s.est.retryWait = true → s.flag K.EST_FREST_EN = true →
    ∃ t, exec .forcedRestRetry s = .next t ∧ t.est.pending = true ∧ t.est.retryWait = false ∧ t.Shows Ev.est 3 ∧
      ObjectsKept s t (eventObjects Ev.est) ∧ t = { s with est := t.est, objs := t.objs, ints := t.ints, net := t.net }) ∧
  (∀ (s : State), s.portsOpen = true → 100 ≤ s.est.bidRun →
    ∃ t, exec .bidChange s = .next t ∧ t.get K.EST_BID_REF = s.get K.EST_BID ∧ t.est.bidRun = 0 ∧ t.est.swapTick = true ∧
      t.Shows Ev.est 5 ∧ t.modes = s.modes ∧ t.rails = s.rails ∧ t.mram = s.mram)) ∧
  ((∀ (acc : Accessor) (r : Fin 12) (data : Bytes) (s : State), s.Admits acc (K.EST_IMP_ROW r) data.length → s.learnMode = true →
    ∃ t, exec (.estImpRowWrite acc r data) s = .next t ∧ t.answer = .done ∧
      (∀ c, c < 8 → t.impCell r c = ⟨ofLE ((data.drop (6 * c)).take 2), ofLE ((data.drop (6 * c + 2)).take 2),
        ofLE ((data.drop (6 * c + 4)).take 2)⟩) ∧
      (∀ q c, q < 12 → q ≠ r.val → c < 8 → t.impCell q c = s.impCell q c) ∧
      (∀ a, a < 0x19C000 ∨ 0x19D000 ≤ a → t.mramByte a = s.mramByte a) ∧
      t = { s with est := t.est, mram := t.mram, answer := t.answer }) ∧
  (∀ (acc : Accessor) (s : State), s.Admits acc K.EST_LEARN_RESET 1 → s.learnMode = true →
    ∃ t, exec (.estLearnReset acc) s = .next t ∧ t.answer = .done ∧ t.get K.EST_CAPACITY = s.get K.EST_DESIGN_CAP ∧
      t.get K.EST_CYCLES = 0 ∧ (∀ r c, r < 12 → c < 8 → t.impCell r c = s.impDefault r c) ∧ t.modes = s.modes ∧ t.rails = s.rails ∧
      (∀ a, a < 0x19C000 ∨ 0x19D000 ≤ a → t.mramByte a = s.mramByte a)) ∧
  (∀ (acc : Accessor) (s : State), s.Admits acc K.EST_FREST_ABORT 1 →
    (s.path.st = .rest → ∃ t, exec (.estFrestAbort acc) s = .next t ∧ t.answer = .done ∧ t.path.st = .vin ∧
      t.path.restHold = false ∧ t.est.retryWait = !s.est.windowAnchor ∧ t.Shows Ev.pp 7 ∧ t.Shows Ev.est 4 ∧ t.modes = s.modes) ∧
    (s.path.st ≠ .rest → exec (.estFrestAbort acc) s = .next { s with answer := .done })) ∧
  (∀ (s : State), s.portsOpen = true → s.modes.holdup = false →
    ∃ t, exec .coreRecordWrite s = .next t ∧ ∃ b, b < 2 ∧ (t.readMram (estAddr 0 b) 60).drop 12 = s.coreBody ∧
      t.est.coreDue = false ∧ (∀ a, a < 0x19C000 ∨ 0x19D000 ≤ a → t.mramByte a = s.mramByte a) ∧
      t = { s with est := t.est, mram := t.mram }))

/-- R79, R300, R303, R310: On a link that is up, with no Haboob run, a flit with the expected SEQ is accepted, the next SEQ is expected, and
what it carries takes effect: a measured value, the follower's error, the offset that a STATUS frame reports, an acknowledgement of a
commit's prepare. An URGENT isolation notice of the tile's own phase isolates it for the reason it carries. -/
def Obligations.FlitsAndNotices : Prop :=
  ((∀ (n : Fin 8) (x : Sample) (s : State), s.habArmed = false → s.hab.held = none → (s.link n).st = .up → s.takes x.key = true →
    ∃ t, exec (.flitSample n (s.link n).rxUp [x]) s = .next t ∧ (t.link n).rxUp = ((s.link n).rxUp + 1) % 32 ∧
      (t.link n).failsUp = 0 ∧ t.get x.key = x.value ∧ ObjectsKept s t [x.key] ∧ (∀ m, m ≠ n → t.link m = s.link m) ∧
      t = { s with links := t.links, objs := t.objs }) ∧
  (∀ (n : Fin 8) (b clocks : Nat) (s : State), s.habArmed = false → s.hab.held = none → (s.link n).st = .up →
    ∃ t, exec (.flitTime n (s.link n).rxDown b clocks) s = .next t ∧ (t.link n).rxDown = ((s.link n).rxDown + 1) % 32 ∧
      (t.link n).err = b * tickParts + quot (s.get (K.BEAM_DELAY_DOWN n) * tickParts) 100 - ((s.link n).advance clocks).follower ∧
      (s.link n).follower ≤ (t.link n).follower ∧
      (t.link n).exchanged = true ∧ (∀ m, m ≠ n → t.link m = s.link m) ∧ t = { s with links := t.links }) ∧
  (∀ (n : Fin 8) (f : TileFrame) (s : State), s.habArmed = false → s.hab.held = none → (s.link n).st = .up → (s.link n).farRun < 7 →
    ∃ t, exec (.flitStatus n (s.link n).rxUp f []) s = .next t ∧ (t.tile n).frameAt = some f.at_ ∧ (t.tile n).frameVbus = f.vbus ∧
      (t.link n).rxUp = ((s.link n).rxUp + 1) % 32 ∧
      t.get (K.BEAM_TIME_OFFSET n) = clampInt (-32767) 32767 (roundAway ((s.link n).err * 10) tickParts) ∧
      (t.link n).shown = (s.link n).locked ∧ (t.link n).exchanged = false ∧ (∀ m, m ≠ n → t.link m = s.link m)) ∧
  (∀ (n : Fin 8) (s : State), s.habArmed = false → s.hab.held = none → (s.link n).st = .up → s.tileAcks n = true →
    s.cfg.phase = .prepared → s.cfg.tiles.testBit n = true →
    ∃ t, exec (.flitCommand n true (s.link n).rxUp true []) s = .next t ∧ t.cfg.acked = s.cfg.acked ||| 2 ^ n.val ∧
      (t.link n).rxUp = ((s.link n).rxUp + 1) % 32 ∧ t = { s with links := t.links, cfg := t.cfg }) ∧
  (∀ (n : Fin 8) (at_ : Nat) (x : TrigRec) (xs : List TrigRec) (s : State), s.habArmed = false → s.hab.held = none → (s.link n).st = .up →
    (s.link n).locked = true → s.modes.mode = .seal → s.sup.slot = none → s.sup.triggers = x :: xs → x.awaiting = true → x.trig.tile = n.val →
    ∃ t, exec (.flitUrgent n (s.link n).rxUp (.stamp at_)) s = .next t ∧
      t.sup.triggers = { x with at_ := at_, estimated := false, awaiting := false } :: xs ∧
      (xs = [] → t.sup.primary = some x.trig ∧ t.sup.primaryAt = at_ ∧ t.sup.awaitingStamp = false ∧ t.sup.estimated = false ∧
        t.modes.sealStart = at_ ∧ t.get K.MODE_ENTERED_AT = at_))) ∧
  (∀ (n : Fin 8) (p : Fin 56) (why : IsoReason) (s : State), s.habArmed = false → s.hab.held = none → (s.link n).st = .up →
    tileOf p = n → (s.phase p).st ≠ .isolated →
    ∃ t, exec (.flitUrgent n (s.link n).rxUp (.isolation p why)) s = .next t ∧ (t.phase p).st = .isolated ∧
      (t.phase p).isoReason = why ∧ (t.phase p).isoAt = s.now)

/-- R25, R196, R301, R303, R304, R305, R306, R308: A flit whose CRC fails, or whose SEQ is not the expected one, counts a failure of the
expected SEQ; one that fails neither counts none, and neither does a failure that is not the replay that is awaited; an acknowledgement ends
a run of NAKs, the acknowledgement timer of either end makes an acknowledgement ready and clears what is unacknowledged, a NAK at a tile has
it resend from the SEQ that it names, and a tile that finds its down link lost opens its phases at their next cycle edges. A link that is up
and is lost, by silence, by its clock, by four failures of one SEQ, by four NAKs of one SEQ or by the tile's own LINK_DOWN, fences its tile
with that reason; so does a link that has not trained by its deadline. Training starts on an idle link, a failed step is shown and counts an
attempt, a version mask is shown and the common version chosen, and a link that completes its training with version 1 is up with its SEQ at
0 and its delay calibrated. -/
def Obligations.LinksCountTrainAndFence : Prop :=
  ((∀ (n : Fin 8) (word : Nat) (s : State), (s.link n).st = .up → (s.link n).failsUp < 3 → s.BadUp n word →
    ∃ t, exec (.flitBad n true word) s = .next t ∧ (t.link n).failsUp = (s.link n).failsUp + 1 ∧ (t.link n).waitUp = true ∧
      (t.link n).st = .up ∧ (t.link n).rxUp = (s.link n).rxUp ∧ (∀ m, m ≠ n → t.link m = s.link m)) ∧
  (∀ (n : Fin 8) (word : Nat) (s : State), flitCrc word = word / 2 ^ 72 % 256 → word % 32 = (s.link n).rxUp →
    exec (.flitBad n true word) s = .next s) ∧
  (∀ (n : Fin 8) (word : Nat) (s : State), (s.link n).st = .up → (s.link n).waitUp = true → flitCrc word ≠ word / 2 ^ 72 % 256 →
    word % 32 ≠ (s.link n).rxUp →
    ∃ t, exec (.flitBad n true word) s = .next t ∧ (t.link n).failsUp = (s.link n).failsUp ∧ (t.link n).st = .up ∧
      (t.link n).txDown = (s.link n).txDown) ∧
  (∀ (n : Fin 8) (seq : Nat) (s : State), (s.link n).st = .up → s.habArmed = false → seq < 32 →
    ∃ t, exec (.flitAcknak n false (32 + seq)) s = .next t ∧
      (t.link n).txUp.replay = (s.link n).txUp.kept.dropWhile (fun f => decide (f.seq ≠ seq)) ∧
      (∀ m, m ≠ n → t.link m = s.link m) ∧ t = { s with links := t.links }) ∧
  (∀ (n : Fin 8) (seq : Nat) (s : State), (s.link n).st = .up → s.habArmed = false → seq < 32 →
    ∃ t, exec (.flitAcknak n true seq) s = .next t ∧ (t.link n).nakRun = 0 ∧ (∀ m, m ≠ n → t.link m = s.link m) ∧
      t = { s with links := t.links }) ∧
  (∀ (n : Fin 8) (atTile : Bool) (s : State), (s.link n).st = .up →
    ∃ t, exec (.ackTimer n atTile) s = .next t ∧ (t.link n).st = .up ∧
      (atTile = false → (t.link n).unacked = 0 ∧ (t.link n).txDown.ackWord = ((s.link n).rxUp + 31) % 32) ∧
      (atTile = true → (t.link n).unackedDown = 0 ∧ (t.link n).txUp.ackWord = ((s.link n).rxDown + 31) % 32) ∧
      (∀ m, m ≠ n → t.link m = s.link m) ∧ t = { s with links := t.links }) ∧
  (∀ (n : Fin 8) (s : State), (s.link n).st = .up →
    ∃ t, exec (.downLinkLost n) s = .next t ∧ (t.link n).downLost = true ∧ (∀ m, m ≠ n → t.link m = s.link m) ∧
      t = { s with links := t.links }) ∧
  (∀ (p : Fin 56) (inp : CycleInput) (s : State), (s.link (tileOf p)).downLost = true → (s.phase p).declared = .none →
    ∃ t, exec (.switchingCycleEdge p inp) s = .next t ∧ (t.phase p).duty = 0)) ∧
  (∀ (n : Fin 8) (s : State), n ≠ 0 → s.tileFitted n = true → (s.tile n).fenced = false →
    ((s.link n).st = .up →
      (∃ t, exec (.linkSilent n) s = .next t ∧ Fences s t n ∧ t.get (K.BEAM_LOSS_REASON n) = 1) ∧
      (∃ t, exec (.linkClockLost n) s = .next t ∧ Fences s t n ∧ t.get (K.BEAM_LOSS_REASON n) = 3) ∧
      (∀ word : Nat, (s.link n).failsUp = 3 → s.BadUp n word →
        ∃ t, exec (.flitBad n true word) s = .next t ∧ Fences s t n ∧ t.get (K.BEAM_LOSS_REASON n) = 2) ∧
      (∀ seq : Nat, s.habArmed = false → seq < 32 → (s.link n).nakRun = 3 → (s.link n).nakSeq = seq →
        ∃ t, exec (.flitAcknak n true (32 + seq)) s = .next t ∧ Fences s t n ∧ t.get (K.BEAM_LOSS_REASON n) = 2) ∧
      (s.habArmed = false → s.hab.held = none →
        ∃ t, exec (.flitUrgent n (s.link n).rxUp .linkDown) s = .next t ∧ Fences s t n ∧ t.get (K.BEAM_LOSS_REASON n) = 4)) ∧
    (∀ step : Fin 7, (s.link n).st = .training →
      ∃ t, exec (.trainingDeadline n step) s = .next t ∧ Fences s t n ∧ bitOf (t.get K.BOOT_RESULT) 2 = true ∧
        t.get (K.BEAM_TRAIN_RESULT n) = (max 1 step.val : Nat))) ∧
  ((∀ (n : Fin 8) (mask : Option Nat) (k : Option (Fin 7)) (s : State), s.keeperRuns = true → n ≠ 0 → s.tileFitted n = true → (s.tile n).fenced = false →
    (s.link n).st = .idle →
    ∃ t, exec (.flitTrain n mask k) s = .next t ∧ (t.link n).st = .training ∧ (t.link n).attempts = 0 ∧
      t.get (K.BEAM_TRAIN_RESULT n) = 1 ∧ (∀ m, m ≠ n → t.link m = s.link m) ∧ t = { s with links := t.links, objs := t.objs }) ∧
  (∀ (n : Fin 8) (k : Fin 7) (s : State), s.keeperRuns = true → n ≠ 0 → s.tileFitted n = true → (s.tile n).fenced = false →
    (s.link n).st = .training → k ≠ 0 → (s.link n).attempts + 1 < s.trainAttempts →
    ∃ t, exec (.flitTrain n none (some k)) s = .next t ∧ (t.link n).st = .training ∧
      (t.link n).attempts = (s.link n).attempts + 1 ∧ t.get (K.BEAM_TRAIN_RESULT n) = k.val ∧
      (∀ m, m ≠ n → t.link m = s.link m)) ∧
  (∀ (n : Fin 8) (mask : Nat) (k : Option (Fin 7)) (s : State), s.keeperRuns = true → n ≠ 0 → s.tileFitted n = true →
    (s.tile n).fenced = false → (s.link n).st = .training → mask.testBit 0 = true →
    ∃ t, exec (.flitTrain n (some mask) k) s = .next t ∧ t.get (K.BEAM_TILE_VERSIONS n) = mask ∧ t.get (K.BEAM_VERSION n) = 1 ∧
      (t.link n).attempts = (s.link n).attempts ∧ (t.link n).txDown.waiting[5] = (s.link n).txDown.waiting[5] + 1 ∧
      (∀ m, m ≠ n → t.link m = s.link m)) ∧
  (∀ (n : Fin 8) (mask : Nat) (echoes : List Nat) (turnaround : Nat) (s : State), (s.link n).st = .training → mask.testBit 0 = true →
    ∃ t, exec (.linkTrained n mask echoes turnaround) s = .next t ∧ (t.link n).st = .up ∧ (t.link n).rxUp = 0 ∧ (t.link n).rxDown = 0 ∧
      t.get (K.BEAM_TILE_VERSIONS n) = mask ∧ t.get (K.BEAM_VERSION n) = 1 ∧ t.get (K.BEAM_TRAIN_RESULT n) = 0 ∧
      t.get (K.BEAM_DELAY_DOWN n) = State.delayDown echoes turnaround ∧ (t.link n).locked = (s.link n).locked ∧ (∀ m, m ≠ n → t.link m = s.link m)))

/-- R309, R310, R313, R314, R317, R319: Beacon time moves to the next TIME boundary; a crystal loss moves the source to the RC oscillator and
freezes metrology as R275 says; a cut publishes its number and its boundary; a read of `BEAM_TIME_OFFSET_MAX` answers it and restarts it.
Outside SEALED, an accepted arm starts a Haboob run with its counts at 0 and its generator at the seed; a disarm ends it with reason 2; a
flit held for reordering stays held. -/
def Obligations.BeaconTimeAndHaboob : Prop :=
  ((∀ (s : State), s.keeperRuns = true →
    ∃ t, exec .timeFlitTick s = .next t ∧ t.now = (s.now / 1000 + 1) * 1000 ∧ s.now < t.now ∧
      (∀ n, { t.link n with txDown := (s.link n).txDown } = s.link n) ∧ ObjectsKept s t (s.cfg.fswDue.map Prod.fst) ∧
      (s.cfg.fswDue = [] → t.cfg = s.cfg) ∧ t = { s with now := t.now, links := t.links, objs := t.objs, cfg := t.cfg }) ∧
  (∀ (s : State), s.keeperClocked = true → s.get K.TB_SOURCE = 0 →
    ∃ t, exec .crystalLoss s = .next t ∧ t.get K.TB_SOURCE = 1 ∧ t.met.clockFault = true ∧ t.modes = s.modes) ∧
  (∀ (b : Nat) (xs : List Sample) (s : State), s.keeperRuns = true →
    ∃ t, exec (.cutInstant b xs) s = .next t ∧ t.get K.BEAM_CUT_SEQ = (s.get K.BEAM_CUT_SEQ + 1) % 4294967296 ∧
      t.get K.BEAM_CUT_AT = (b * 1000000 % 2 ^ 64 : Nat) ∧ (∀ n, (t.link n).replaying = (s.link n).inReplay ∧
        { t.link n with txUp := (s.link n).txUp, replaying := (s.link n).replaying } = s.link n) ∧
      t.get K.CAP_TILES_USABLE = s.tilesUsable ∧ t.get K.CAP_PHASES_USABLE = s.phasesUsable ∧
      ObjectsKept s t ([K.BEAM_CUT_SEQ, K.BEAM_CUT_AT, K.CAP_TILES_USABLE, K.CAP_PHASES_USABLE] ++ xs.map Sample.key) ∧
      (∀ key, onCut key = true → t.cutValue key = t.get key) ∧
      t = { s with objs := t.objs, published := t.published, links := t.links, net := { s.net with tlmVals := t.net.tlmVals } }) ∧
  (∀ (acc : Accessor) (n : Fin 8) (d : ObjDef) (s : State), s.portsOpen = true → s.reach acc (K.BEAM_TIME_OFFSET_MAX n) = .ok d →
    s.debugAllows acc false (K.BEAM_TIME_OFFSET_MAX n) = true →
    ∃ t, exec (.beamTimeOffsetMaxRead acc n) s = .next t ∧
      t.answer = .data (d.bytes (s.cutValue (K.BEAM_TIME_OFFSET_MAX n))) ∧ t.cutValue (K.BEAM_TIME_OFFSET_MAX n) = 0 ∧
      ObjectsKept s t [K.BEAM_TIME_OFFSET_MAX n] ∧ t = { s with objs := t.objs, published := t.published, answer := t.answer })) ∧
  ((∀ (acc : Accessor) (d : ObjDef) (s : State), s.portsOpen = true → s.reachWrite acc K.HAB_ARM 1 = .ok d →
    s.installerUp acc = true → habTarget (s.getN K.HAB_TARGET) = true → s.habAbsent (s.getN K.HAB_TARGET) = false →
    s.habAllowed (s.getN K.HAB_TARGET) = true → s.habArmed = false → s.sec.lifecycle ≠ .sealed →
    ∃ t, exec (.habArmCmd acc) s = .next t ∧ t.answer = .done ∧ t.get K.HAB_STATE = 1 ∧ t.get K.HAB_COUNT = 0 ∧
      t.get K.HAB_SEEN = 0 ∧ t.hab.lfsr = s.getN K.HAB_SEED ∧ t.hab.held = s.hab.held ∧ t.Shows Ev.beam 8 ∧ t.mram = s.mram ∧
      t.modes = s.modes) ∧
  (∀ (acc : Accessor) (d : ObjDef) (s : State), s.portsOpen = true → s.reachWrite acc K.HAB_ARM 1 = .ok d →
    s.installerUp acc = true → s.habArmed = true →
    ∃ t, exec (.habDisarmCmd acc) s = .next t ∧ t.answer = .done ∧ t.get K.HAB_STATE = 2 ∧ t.get K.HAB_DISARM_REASON = 2 ∧
      t.hab = s.hab ∧ t.Shows Ev.beam 9 ∧ t.modes = s.modes))

/-- R271, R272, R273, R274: The bits of a sample period pass the filters of a point in use, the two results are its raw values, and unless an
input is stuck v × i over one period moves into the register of its sign, whole µWh leaving a residue below one µWh; results out of range
are counted; the other points, every session and the journal are as they were. -/
def Obligations.SampleIntegratesEnergy : Prop :=
  ∀ (m : Fin 4) (bitsV bitsI : BitVec 256) (s : State), s.mpPresent m = true → s.mclkOn (m.val / 2) = true →
    (s.point m).vStuck = false → (s.point m).iStuck = false → s.flag (K.MP_EN m) = true →
    ∃ t, exec (.meteringSample m bitsV bitsI) s = .next t ∧
      (∃ rawV, rawV = sincSum 0 bitsV + (s.point m).vSinc.mid + (s.point m).vSinc.older ∧
        ∃ rawI, rawI = sincSum 0 bitsI + (s.point m).iSinc.mid + (s.point m).iSinc.older ∧
        t.get (K.MP_V_RAW m) = rawV ∧ t.get (K.MP_I_RAW m) = rawI ∧
        (s.get (K.MP_OVERRANGE_COUNT m) + 2 < 4294967295 → t.get (K.MP_OVERRANGE_COUNT m) = s.get (K.MP_OVERRANGE_COUNT m) +
          (if 15099494 < rawV.natAbs then 1 else 0) + (if 15099494 < rawI.natAbs then 1 else 0)) ∧
        (rawV.natAbs ≤ 15099494 → rawI.natAbs ≤ 15099494 →
          ObjectsKept s t [K.MP_V_RAW m, K.MP_I_RAW m] ∧ t = { s with objs := t.objs, met := t.met }) ∧
        ∃ e, e = (s.calibrated m rawV rawI).1 * (s.calibrated m rawV rawI).2 * (s.get K.MET_MCLK_DIV * 256) ∧
        (t.point m).exp = ((s.point m).exp + ((s.point m).expRes + e.toNat) / unitsPerMicroWh) % 2 ^ 64 ∧
        (t.point m).expRes = ((s.point m).expRes + e.toNat) % unitsPerMicroWh ∧
        (t.point m).imp = ((s.point m).imp + ((s.point m).impRes + (-e).toNat) / unitsPerMicroWh) % 2 ^ 64 ∧
        (t.point m).impRes = ((s.point m).impRes + (-e).toNat) % unitsPerMicroWh) ∧
      (t.point m).vSinc = ⟨sincSum 1 bitsV, sincSum 2 bitsV, (s.point m).vSinc.last⟩ ∧
      (t.point m).iSinc = ⟨sincSum 1 bitsI, sincSum 2 bitsI, (s.point m).iSinc.last⟩ ∧
      (t.point m).sess = (s.point m).sess ∧ (∀ j, j ≠ m → t.point j = s.point j) ∧ t.met.jnl = s.met.jnl ∧
      t = { s with objs := t.objs, met := t.met, ints := t.ints, net := t.net }

/-- R272, R275: A stuck input of a clocked pair is shown and raised once, and its return as well, at the next IDLE or FAILSAFE entry where the
ports are closed; an open session of a point whose input stays stuck, and every open session when the PLL loses its lock, starts to close
with METER_FAULT; a read of the over-range count arms OVERRANGE again. -/
def Obligations.MeterInputFaults : Prop :=
  (∀ (m : Fin 4) (s : State), s.mpPresent m = true → s.mclkOn (m.val / 2) = true → (s.point m).vStuck = false →
    ∃ t, exec (.inputStuck m false) s = .next t ∧ (t.point m).vStuck = true ∧ t.Shows (Ev.mp m) 3 ∧ t.modes = s.modes ∧
      t.rails = s.rails) ∧
  (∀ (m : Fin 4) (s : State), s.mpPresent m = true → (s.point m).iStuck = true →
    ∃ t, exec (.inputRestored m true) s = .next t ∧ (t.point m).iStuck = false ∧ (s.portsOpen = true → t.Shows (Ev.mp m) 4) ∧
      (s.portsOpen = false → t.deferred.contains ((Ev.mp m).key, 4) = true) ∧
      (∀ j, j ≠ m → t.point j = s.point j) ∧ t.met.jnl = s.met.jnl ∧ t.mram = s.mram) ∧
  (∀ (m : Fin 4) (s : State), (s.point m).vStuck = true ∨ (s.point m).iStuck = true → (s.point m).sess = .opened →
    ∃ t, exec (.stuckSessionFault m) s = .next t ∧ (t.point m).sess = .closing ∧ (t.point m).reason = 5 ∧
      (t.point m).exp = (s.point m).exp ∧ (∀ j, j ≠ m → t.point j = s.point j) ∧ t = { s with met := t.met }) ∧
  (∀ (s : State), s.keeperRuns = true →
    ∃ t, exec .pllLockLost s = .next t ∧ t.met.clockFault = true ∧ (∀ m, (s.point m).sess = .opening → (t.point m).sess = .none) ∧
      (∀ m, (s.point m).sess = .opened → (t.point m).sess = .closing ∧ (t.point m).reason = 5) ∧ t.modes = s.modes ∧
      t.rails = s.rails) ∧
  (∀ (acc : Accessor) (m : Fin 4) (d : ObjDef) (s : State), s.portsOpen = true → s.reach acc (K.MP_OVERRANGE_COUNT m) = .ok d →
    s.debugAllows acc false (K.MP_OVERRANGE_COUNT m) = true →
    ∃ t, exec (.mpOverrangeCountRead acc m) s = .next t ∧
      t.answer = .data (d.bytes (s.get (K.MP_OVERRANGE_COUNT m))) ∧ (t.point m).overArmed = true ∧
      (∀ j, j ≠ m → t.point j = s.point j) ∧ t = { s with met := t.met, answer := t.answer })

/-- R278, R279, R280, R283, R284, R286: In a mode that takes session commands an open or a close takes the next free tag and shows it. An open
that passes the checks is OPENING, one that fails ends REFUSED with the first failing check's code; a close of an OPEN session is CLOSING
with reason 1, one of an OPENING session waits for its START, one of a CLOSING session or a second one joins the close under way, one of no
session ends REFUSED with 0x11. At its instant an OPENING session is OPEN under a START record, or CLOSING where a close waited, and is
REFUSED where the ring has no room; a CLOSING one gets its END and its signature starts; with the signature it is over. Each writes the next
slot of the ring with its kind and changes no other byte of MRAM, and while a signature is being made a START or an END waits. -/
def Obligations.MeteringSessions : Prop :=
  ((∀ (acc : Accessor) (m : Fin 4) (n : Nat) (s : State), s.Admits acc (K.MP_SESS_CMD m) 1 → s.sessionMode = true →
    s.nextTag = some n →
    ∃ t, exec (.mpSessionOpen acc m) s = .next t ∧ t.answer = .tag n ∧ t.get (K.MP_SESS_TAG m) = n ∧
      (s.openCheck m = none → (t.point m).sess = .opening ∧ (t.point m).openTag = some n ∧ (t.op n).status = .running ∧
        (t.point m).sessRef = s.getN (K.MP_SESS_REF m)) ∧
      (∀ code : Nat, s.openCheck m = some code → t.get (K.MP_SESS_RESULT m) = code ∧ (t.op n).status = .refused ∧
        (t.op n).result = code ∧ t.met = s.met) ∧
      (∀ j, j ≠ m → t.point j = s.point j) ∧ t.met.jnl = s.met.jnl ∧
      t = { s with objs := t.objs, met := t.met, ops := t.ops, ints := t.ints, net := t.net, answer := t.answer }) ∧
  (∀ (acc : Accessor) (m : Fin 4) (n : Nat) (s : State), s.Admits acc (K.MP_SESS_CMD m) 1 → s.sessionMode = true →
    s.nextTag = some n →
    ∃ t, exec (.mpSessionClose acc m) s = .next t ∧ t.answer = .tag n ∧ t.get (K.MP_SESS_TAG m) = n ∧
      ((s.point m).sess = .opened → (t.point m).sess = .closing ∧ (t.point m).reason = 1 ∧ (t.point m).closeTag = some n ∧
        (t.op n).status = .running) ∧
      ((s.point m).sess = .opening → (s.point m).closeTag = none → (t.point m).sess = .opening ∧ (t.point m).closeWait = true ∧
        (t.point m).closeTag = some n ∧ (t.op n).status = .running) ∧
      ((s.point m).sess = .closing → (s.point m).closeTag = none → (t.point m).sess = .closing ∧
        (t.point m).closeTag = some n ∧ (t.op n).status = .running) ∧
      (∀ k : Nat, (s.point m).sess = .opening ∨ (s.point m).sess = .closing → (s.point m).closeTag = some k →
        (t.op n).joined = some k ∧ (t.op n).status = .running ∧ t.met = s.met) ∧
      ((s.point m).sess = .none → t.get (K.MP_SESS_RESULT m) = 0x11 ∧ (t.op n).status = .refused ∧ t.met = s.met) ∧
      (∀ j, j ≠ m → t.point j = s.point j) ∧ t.met.jnl = s.met.jnl ∧
      t = { s with objs := t.objs, met := t.met, ops := t.ops, ints := t.ints, net := t.net, answer := t.answer }) ∧
  (∀ (acc : Accessor) (m : Fin 4) (s : State), s.Admits acc (K.MP_SESS_CMD m) 1 → s.sessionMode = false →
    exec (.mpSessionOpen acc m) s = .next { s with answer := .abort .modeForbids } ∧
    exec (.mpSessionClose acc m) s = .next { s with answer := .abort .modeForbids })) ∧
  ((∀ (m : Fin 4) (s : State), (s.point m).sess = .opening → s.samplingOn = true → s.met.clockFault = false → s.met.jnl.waiting = [] →
    (s.met.jnl.signing = none → s.startRoom = true →
      ∃ t, exec (.sessionOpenInstant m) s = .next t ∧ (t.point m).sess = (if (s.point m).closeWait then .closing else .opened) ∧
        (t.point m).startSeq = s.met.jnl.next ∧ (t.point m).startExp = (s.point m).exp ∧ (t.point m).startImp = (s.point m).imp ∧
        t.met.jnl.next = s.met.jnl.next + 1 ∧ t.met.jnl.signing = none ∧ t.get (K.MP_SESS_RESULT m) = 1 ∧ WritesRecord s t 1 ∧
        (∀ j, j ≠ m → t.point j = s.point j)) ∧
    (s.met.jnl.signing = none → s.startRoom = false →
      ∃ t, exec (.sessionOpenInstant m) s = .next t ∧ (t.point m).sess = .none ∧ t.met.jnl.next = s.met.jnl.next ∧
        ((s.point m).openTag ≠ none → (s.point m).closeTag = none → t.get (K.MP_SESS_RESULT m) = 0x12) ∧ t.mram = s.mram ∧
        (∀ j, j ≠ m → t.point j = s.point j)) ∧
    (s.met.jnl.signing ≠ none →
      ∃ t, exec (.sessionOpenInstant m) s = .next t ∧
        t.met.jnl.waiting = [.start m s.oasis.seconds s.rtcFrac (s.point m).exp (s.point m).imp] ∧
        t.met.points = s.met.points ∧ t = { s with met := t.met })) ∧
  (∀ (m : Fin 4) (s : State), (s.point m).sess = .closing → s.samplingOn = true → (s.point m).closeSeen = false →
    (s.point m).endWritten = false →
    (s.met.jnl.signing = none →
      ∃ t, exec (.sessionCloseInstant m) s = .next t ∧ (t.point m).endWritten = true ∧ (t.point m).endSeq = s.met.jnl.next ∧
        (t.point m).sess = .closing ∧ (t.point m).lastExp = (s.point m).exp - (s.point m).startExp ∧
        (t.point m).lastImp = (s.point m).imp - (s.point m).startImp ∧
        t.met.jnl.signing = some m ∧ t.met.jnl.next = s.met.jnl.next + 1 ∧ WritesRecord s t 2 ∧
        (∀ j, j ≠ m → t.point j = s.point j)) ∧
    (s.met.jnl.signing ≠ none →
      ∃ t, exec (.sessionCloseInstant m) s = .next t ∧
        t.met.jnl.waiting = s.met.jnl.waiting ++ [.finish m s.oasis.seconds s.rtcFrac (s.point m).exp (s.point m).imp false] ∧
        (t.point m).sess = .closing ∧ (t.point m).closeSeen = true ∧ t.mram = s.mram ∧ t = { s with met := t.met })) ∧
  (∀ (m : Fin 4) (s : State), s.met.jnl.signing = some m → s.portsOpen = true → s.met.jnl.waiting = [] →
    (s.point m).sess = .closing → (s.point m).endWritten = true →
    ∃ t, exec (.sessionSigned m) s = .next t ∧ (t.point m).sess = .none ∧ t.met.jnl.signing = none ∧
      t.met.jnl.next = s.met.jnl.next + 1 ∧ t.get (K.MP_SESS_RESULT m) = 2 ∧ WritesRecord s t 3 ∧
      (∀ j, j ≠ m → t.point j = s.point j)))

/-- R276, R277, R351: A register copy takes every present point's registers with the present second; `MET_E_CLEAR` clears the registers of all
points where the lifecycle permits it and no session is open. Outside SEALED a write of a SEALED-class object that is in range and touches
no session stores the value and counts the calibration revision of its point; in SEALED any role but METROLOGIST is answered SEALED, and
nothing changes. -/
def Obligations.EnergyRegistersAndCalibration : Prop :=
  ((∀ (s : State), s.keeperRuns = true → s.modes.mode ≠ .boot →
    ∃ t, exec .registerCopy s = .next t ∧
      (∀ m : Fin 4, s.mpPresent m = true → (t.point m).copy.newest.map Prod.snd =
        some ⟨(s.point m).exp, (s.point m).imp, (s.point m).expRes, (s.point m).impRes, s.oasis.seconds⟩) ∧
      (∀ m : Fin 4, (t.point m).exp = (s.point m).exp ∧ (t.point m).imp = (s.point m).imp) ∧ t.met.jnl = s.met.jnl ∧
      t = { s with met := t.met }) ∧
  (∀ (acc : Accessor) (s : State), s.Admits acc K.MET_E_CLEAR 1 → s.openLifecycle = true → s.sessionOpen = false →
    ∃ t, exec (.metEClear acc) s = .next t ∧ t.answer = .done ∧
      (∀ m, (t.point m).exp = 0 ∧ (t.point m).imp = 0 ∧ (t.point m).expRes = 0 ∧ (t.point m).impRes = 0) ∧
      t.met.jnl = s.met.jnl ∧ t = { s with met := t.met, answer := t.answer })) ∧
  ((∀ (acc : Accessor) (key : Nat) (data : Bytes) (d : ObjDef) (s : State), s.portsOpen = true →
    s.reachWrite acc key data.length = .ok d → s.sec.lifecycle = .blank ∨ s.sec.lifecycle = .opened → s.installerUp acc = true →
    d.cls = .sealed → s.sealedInRange d key (d.value data) = true →
    (∀ m ∈ affectedPoints key, (s.point m).sess = .none) →
    ∃ t, exec (.calibrationWrite acc key data) s = .next t ∧ t.answer = .done ∧ t.get key = d.value data ∧
      (∀ m, calPoint key = some m → t.get (K.MP_CAL_REV m) = s.get (K.MP_CAL_REV m) + 1) ∧ t.mram = s.mram ∧ t.met = s.met) ∧
  (∀ (acc : Accessor) (key : Nat) (data : Bytes) (d : ObjDef) (s : State), s.portsOpen = true →
    s.reachWrite acc key data.length = .ok d → s.sec.lifecycle = .sealed → s.roleOf acc ≠ .metrologist →
    exec (.calibrationWrite acc key data) s = .next { s with answer := .abort .sealed }))

/-- R287, R288, R289: `JNL_ACK` takes a value from the last acknowledged to the last written record and refuses any other; a read of a record or
of a block answers the slots' bytes and moves `JNL_READ_SEQ` past them; `JNL_INIT` starts the journal anew at the next sequence number. -/
def Obligations.JournalAccess : Prop :=
  (∀ (acc : Accessor) (v : Nat) (s : State), s.Admits acc K.JNL_ACK 8 → s.installerUp acc = true →
    (s.met.jnl.ack ≤ v → v < s.met.jnl.next → ∃ t, exec (.jnlAckWrite acc v) s = .next t ∧ t.answer = .done ∧
      t.met.jnl.ack = v ∧ t.met.jnl.next = s.met.jnl.next ∧ t.met.jnl.header.newest.map Prod.snd = some (s.met.jnl.next, v) ∧
      t.met.points = s.met.points ∧ ObjectsKept s t (eventObjects Ev.jnl) ∧
      t = { s with met := t.met, objs := t.objs, ints := t.ints, net := t.net, answer := t.answer }) ∧
    (v < s.met.jnl.ack ∨ s.met.jnl.next ≤ v →
      exec (.jnlAckWrite acc v) s = .next { s with answer := .abort .outOfRange })) ∧
  (∀ (acc : Accessor) (d : ObjDef) (q : Nat) (s : State), s.portsOpen = true → s.reach acc K.JNL_READ_REC = .ok d →
    s.getN K.JNL_READ_SEQ = q → s.recordReadable q = true →
    ∃ t, exec (.jnlReadRec acc) s = .next t ∧ t.answer = .data (s.readMram (jnlAddr q) 96) ∧ t.get K.JNL_READ_SEQ = q + 1 ∧
      ObjectsKept s t [K.JNL_READ_SEQ] ∧ t = { s with objs := t.objs, answer := t.answer }) ∧
  (∀ (acc : Accessor) (d : ObjDef) (q : Nat) (s : State), s.portsOpen = true → s.reach acc K.JNL_READ_BLOCK = .ok d →
    s.getN K.JNL_READ_SEQ = q → s.recordReadable q = true →
    ∃ t, exec (.jnlReadBlock acc) s = .next t ∧ ∃ bs, t.answer = .data bs ∧ bs.length = 96 * min 16 (s.met.jnl.next - q) ∧
      bs.take 96 = s.readMram (jnlAddr q) 96 ∧ t.get K.JNL_READ_SEQ = q + min 16 (s.met.jnl.next - q) ∧
      t = { s with objs := t.objs, answer := t.answer }) ∧
  (∀ (acc : Accessor) (s : State), s.Admits acc K.JNL_INIT 1 → s.openLifecycle = true → s.sessionOpen = false →
    ∃ t, exec (.jnlInit acc) s = .next t ∧ t.answer = .done ∧ t.met.jnl.initSeq = s.met.jnl.next ∧
      t.met.jnl.next = s.met.jnl.next + 1 ∧ t.met.jnl.ack = s.met.jnl.next - 1 ∧ t.met.jnl.waiting = [] ∧
      WritesRecord s t 4)

/-- R447, R448, R449, R451, R458, R459, R460: The programming window opens with VQPS and T_K in their ranges and no rail up, and closes by
command, after its idle time and when VQPS leaves its range; each is reported, a burn and a transition under way end with it, and no row
changes by it where there is neither. An accepted write of `OTP_DATA`, and a reburn, start a burn under the next free tag; a row whose
verification passes at the margin of the temperature holds every bit of its value, with the bits that it had, and its tag is COMPLETED. An
accepted advance towards OPEN or SEALED starts a transition under the next free tag; when it is done the part is in the new state, the field
is burned in its three copies, every partner is PEER, no unlock is left, the debug level is NONE and the window is closed. -/
def Obligations.OtpWindowBurnAndLifecycle : Prop :=
  ((∀ (acc : Accessor) (d : ObjDef) (s : State), s.portsOpen = true → s.reachWrite acc K.OTP_WINDOW 1 = .ok d →
    s.installerUp acc = true → s.modes.mode = .service → s.anyRailLive = false → s.modes.holdup = false → s.otp.vqpsOk = true →
    s.programTemp = true → s.otp.window = false → s.sec.seedDue = false →
    ∃ t, exec (.otpWindowOpen acc) s = .next t ∧ t.answer = .done ∧ t.otp.window = true ∧ t.Shows Ev.sec 0 ∧
      t.otp.rows = s.otp.rows ∧ t.modes = s.modes ∧ t.mram = s.mram) ∧
  (∀ (acc : Accessor) (d : ObjDef) (s : State), s.portsOpen = true → s.reachWrite acc K.OTP_WINDOW 1 = .ok d →
    s.installerUp acc = true → s.otp.window = true →
    ∃ t, exec (.otpWindowClose acc) s = .next t ∧ t.answer = .done ∧ t.otp.window = false ∧ t.otp.burn = none ∧ t.sec.transition = none ∧
      t.Shows Ev.sec 1 ∧ (s.otp.burn = none → s.sec.transition = none → t.otp.rows = s.otp.rows) ∧ t.modes = s.modes) ∧
  (∀ (s : State), s.otp.window = true →
    ∃ t, exec .otpWindowIdle s = .next t ∧ t.otp.window = false ∧ t.otp.burn = none ∧ t.sec.transition = none ∧ t.Shows Ev.sec 1 ∧
      (s.otp.burn = none → s.sec.transition = none → t.otp.rows = s.otp.rows) ∧ t.modes = s.modes) ∧
  (∀ (s : State), s.otp.window = true →
    ∃ t, exec .vqpsLeftWindow s = .next t ∧ t.otp.window = false ∧ t.otp.vqpsOk = false ∧ t.otp.burn = none ∧
      t.Shows Ev.sec 1 ∧ t.modes = s.modes)) ∧
  ((∀ (acc : Accessor) (v n : Nat) (d : ObjDef) (s : State), s.portsOpen = true → s.reachWrite acc K.OTP_DATA 8 = .ok d →
    s.rowBarred acc s.otp.rowSel[holderPlace (holderOf acc)] = none → s.otp.window = true →
    completes (s.otpRow s.otp.rowSel[holderPlace (holderOf acc)]) (rowValue s.otp.rowSel[holderPlace (holderOf acc)] v) = true →
    s.otp.burn = none → s.sec.transition = none → s.nextTag = some n →
    ∃ t, exec (.otpDataWrite acc v) s = .next t ∧ t.answer = .tag n ∧ t.get K.OTP_TAG = n ∧ t.otp.burnTag = some n ∧
      t.otp.burn = some (.row s.otp.rowSel[holderPlace (holderOf acc)] (rowValue s.otp.rowSel[holderPlace (holderOf acc)] v)) ∧
      (t.op n).kind = .otp ∧ t.otp.rows = s.otp.rows ∧ t.sec = s.sec) ∧
  (∀ (acc : Accessor) (n : Nat) (d : ObjDef) (s : State), s.portsOpen = true → s.reachWrite acc K.OTP_REBURN 1 = .ok d →
    s.installerUp acc = true → s.otp.window = true → s.otp.burn = none → s.sec.transition = none → s.nextTag = some n →
    ∃ t, exec (.otpReburn acc) s = .next t ∧ t.answer = .tag n ∧ t.get K.OTP_TAG = n ∧ t.otp.burn = some .reburn ∧
      t.otp.burnTag = some n ∧ t.otp.rows = s.otp.rows) ∧
  (∀ (rep : BurnReport) (r n : Nat) (v : OtpRow) (s : State), s.otp.burn = some (.row r v) → s.otp.burnTag = some n → n < 128 →
    (s.op n).status = .running → (verifyRow s.marginRef.1 4 (readsOf rep r (newBits (s.otpRow r) v).length)).2 = true →
    ∃ t, exec (.otpBurnDone rep) s = .next t ∧ (t.otpRow r).data = (s.otpRow r).data ||| v.data ∧
      (t.otpRow r).check = (s.otpRow r).check ||| v.check ∧ (∀ q, q ≠ r → t.otpRow q = s.otpRow q) ∧ t.otp.burn = none ∧
      t.get K.OTP_RESULT = 0 ∧ (t.op n).status = .completed ∧ t.sec = s.sec)) ∧
  ((∀ (acc : Accessor) (v n : Nat) (l : Lifecycle) (d : ObjDef) (s : State), s.portsOpen = true →
    s.reachWrite acc K.LC_ADVANCE 1 = .ok d → s.lcTarget v = some l → l ≠ .returned →
    (v = 2 → s.roleOf acc = .vendor) → (v ≠ 2 → s.installerUp acc = true) → s.otp.window = true → s.sessionOpen = false →
    s.otp.burn = none → s.sec.transition = none → s.promiseRoom = true → s.nextTag = some n → s.lcReady l = true →
    ∃ t, exec (.lcAdvance acc v true) s = .next t ∧ t.answer = .tag n ∧ t.get K.LC_TAG = n ∧ t.sec.transition = some ⟨l, n⟩ ∧
      t.sec.lifecycle = s.sec.lifecycle ∧ (t.op n).kind = .lifecycle ∧ t.otp = s.otp ∧ t.modes = s.modes) ∧
  (∀ (n : Nat) (s : State), s.sec.transition = some ⟨.sealed, n⟩ → n < 128 → (s.op n).status = .running → s.otp.burn = none →
    ∃ t, exec .lifecycleTransitionDone s = .next t ∧ t.sec.lifecycle = .sealed ∧ t.sec.transition = none ∧
      t.sec.level = .none ∧ t.otp.window = false ∧ t.nvm.unlocks = [] ∧
      (∀ i p, t.partner i = some p → p.role = .peer) ∧
      (∀ k, k < 3 → (t.otpRow (3 + k)).data = (s.otpRow (3 + k)).data ||| 0xFF00) ∧
      (∀ r, r < 3 ∨ 6 ≤ r → t.otpRow r = s.otpRow r) ∧ (t.op n).status = .completed ∧ t.Shows Ev.sec 5))

/-- R421, R455, R461, R463, R464, R465, R466: A read of `LC_RETURN_NONCE`, and one of `DBG_CHALLENGE` from the debug port, answers 16 fresh
bytes and holds them, or, with RNG_FAULT, BUSY (the model's choice, log 158) where the generator fails its health test; `DBG_PROOF` holds
what is written; a level that is not higher, or that needs no proof, is entered at once, and any port but the debug port is answered
DEBUG_FORBIDS. A processor is halted only in the matrix's cell and resumed at any time; 60 s without debug access end the level; TEST_N low
acts only on a RETURNED part at VENDOR and is otherwise ignored and shown; a password reset erases the user partitions and every password,
in SERVICE. -/
def Obligations.DebugAndSecurityCommands : Prop :=
  ((∀ (acc : Accessor) (d : ObjDef) (s : State), s.portsOpen = true → s.reach acc K.LC_RETURN_NONCE = .ok d →
    s.debugAllows acc false K.LC_RETURN_NONCE = true →
    (∃ t, exec (.lcReturnNonce acc true) s = .next t ∧ ∃ bs, t.answer = .data bs ∧ bs.length = 16 ∧ t.sec.returnNonce = some bs ∧
      t = { s with sec := t.sec, freeIdx := t.freeIdx, answer := t.answer }) ∧
    (∃ t, exec (.lcReturnNonce acc false) s = .next t ∧ t.answer = .abort .busy ∧ t.sec.returnNonce = s.sec.returnNonce ∧
      t.freeIdx = s.freeIdx ∧ t.Shows Ev.sec 9)) ∧
  (∀ (d : ObjDef) (s : State), s.portsOpen = true → s.reach .debug K.DBG_CHALLENGE = .ok d →
    (∃ t, exec (.dbgChallenge .debug true) s = .next t ∧ ∃ bs, t.answer = .data bs ∧ bs.length = 16 ∧
      t.sec.dbgNonce = some ⟨bs, s.now⟩ ∧ t = { s with sec := t.sec, freeIdx := t.freeIdx, answer := t.answer }) ∧
    (∃ t, exec (.dbgChallenge .debug false) s = .next t ∧ t.answer = .abort .busy ∧ t.sec.dbgNonce = s.sec.dbgNonce ∧
      t.freeIdx = s.freeIdx ∧ t.Shows Ev.sec 9)) ∧
  (∀ (data : Bytes) (d : ObjDef) (s : State), s.portsOpen = true → s.reach .debug K.DBG_PROOF = .ok d →
    data.length = 32 ∨ data.length = 100 →
    ∃ t, exec (.dbgProof .debug data) s = .next t ∧ t.answer = .done ∧ t.sec.dbgProof = data ∧
      t = { s with sec := t.sec, answer := t.answer }) ∧
  (∀ (l : DbgLevel) (d : ObjDef) (s : State), s.portsOpen = true → s.reach .debug K.DBG_LEVEL_REQ = .ok d →
    l.code ≤ s.sec.level.code ∨ s.levelProof l = some none →
    ∃ t, exec (.dbgLevelReq .debug l.code) s = .next t ∧ t.answer = .done ∧ t.sec.level = l ∧
      t.sec.lifecycle = s.sec.lifecycle ∧ t.otp = s.otp) ∧
  (∀ (acc : Accessor) (v : Nat) (d : ObjDef) (s : State), s.portsOpen = true → s.reach acc K.DBG_LEVEL_REQ = .ok d → acc ≠ .debug →
    exec (.dbgLevelReq acc v) s = .next { s with answer := .abort .debugForbids })) ∧
  ((∀ (acc : Accessor) (d : ObjDef) (s : State), s.portsOpen = true → s.reachWrite acc K.DBG_HALT 1 = .ok d →
    s.sec.lifecycle = .blank ∨ s.sec.lifecycle = .returned → s.sec.level = .vendor → s.modes.mode = .service →
    s.anyRailLive = false →
    ∃ t, exec (.dbgHaltCmd acc) s = .next t ∧ t.answer = .done ∧ t.sec.halted = true ∧
      t = { s with sec := t.sec, answer := t.answer }) ∧
  (∀ (acc : Accessor) (d : ObjDef) (s : State), s.portsOpen = true → s.reachWrite acc K.DBG_HALT 1 = .ok d →
    ∃ t, exec (.dbgResumeCmd acc) s = .next t ∧ t.answer = .done ∧ t.sec.halted = false ∧
      t = { s with sec := t.sec, answer := t.answer }) ∧
  (∀ (s : State), ∃ t, exec .debugIdleTimeout s = .next t ∧ t.sec.level = .none ∧ t.sec.lifecycle = s.sec.lifecycle ∧
    t.otp = s.otp) ∧
  (∀ (s : State), s.sec.lifecycle = .returned → s.sec.level = .vendor → s.anyRailLive = false → s.modes.mode = .service →
    ∃ t, exec .testNLow s = .next t ∧ t.sec.testMode = true ∧ t = { s with sec := t.sec }) ∧
  (∀ (s : State), s.sec.lifecycle ≠ .returned → s.portsOpen = true → s.keeperRuns = true → s.sec.testIgnored = false →
    ∃ t, exec .testNLow s = .next t ∧ t.sec.testIgnored = true ∧ t.sec.testMode = s.sec.testMode ∧ t.Shows Ev.sec 8 ∧
      t.modes = s.modes) ∧
  (∀ (acc : Accessor) (d : ObjDef) (s : State), s.portsOpen = true → s.reachWrite acc K.MRAM_PW_RESET 1 = .ok d →
    s.installerUp acc = true → s.modes.mode = .service → s.modes.holdup = false → (∀ c, (s.channel c).st ≠ .running) →
    ∃ t, exec (.mramPwReset acc) s = .next t ∧ t.answer = .done ∧ (∀ i, t.pw i = {}) ∧ t.nvm.unlocks = [] ∧
      (∀ a, 0x19D000 ≤ a → a < 0x1AD000 → t.mramByte a = 0) ∧
      (∀ a, a < 0x19D000 ∨ 0x1AD000 ≤ a → t.mramByte a = s.mramByte a) ∧
      t = { s with mram := t.mram, nvm := t.nvm, answer := t.answer }))

/-- R471, R472, R475, R476, R477, R478, R479, R480, R481, R482, R483, R484, R485, R486: The prescaler's wrap counts a second up to the maximum;
an accepted set, calendar set and adjustment leave the time they give, and a set makes it valid; a refused one gives its reason and changes
nothing else; an alarm at or below the present seconds fires at once. Oasis takes VBK when it is eligible and 50 mV above VCELL, the cell
when VBK is below 2.15 V, and the reservoir when its source falls away; a lost domain takes every loss value, and counts from 0 again after
its return; TAMPER is latched, stamped and counted. -/
def Obligations.OasisDomain : Prop :=
  ((∀ (s : State), s.oasis.supply ≠ .lost → s.oasis.saturated = false → s.getN K.RTC_ALARM = 0 →
    ∃ t, exec .rtcSecond s = .next t ∧ t.oasis.valid = s.oasis.valid ∧
      (s.oasis.seconds < maxSeconds → t.oasis.seconds = s.oasis.seconds + 1 ∧ t.oasis.frac = 0 ∧
        t.oasis.saturated = false ∧ (s.portsOpen = true → t.Shows Ev.rtc 1)) ∧
      (maxSeconds ≤ s.oasis.seconds → t.oasis.seconds = maxSeconds ∧ t.oasis.saturated = true) ∧
      t.modes = s.modes ∧ t.rails = s.rails ∧ t.mram = s.mram ∧ ObjectsKept s t (eventObjects Ev.rtc)) ∧
  (∀ (acc : Accessor) (v : Nat) (s : State), s.Admits acc K.RTC_SET_SECONDS 8 →
    (v ≤ maxSeconds → s.eventRoom = true → s.getN K.RTC_ALARM = 0 →
      ∃ t, exec (.rtcSetSeconds acc v) s = .next t ∧ t.answer = .done ∧ t.oasis.seconds = v ∧ t.oasis.frac = 0 ∧
        t.oasis.valid = true ∧ t.get K.RTC_SET_RESULT = 0 ∧ t.Shows Ev.rtc 2 ∧ t.modes = s.modes ∧ t.rails = s.rails ∧
        (s.hasMetering = true → s.met.jnl.signing = none → t.met.jnl.next = s.met.jnl.next + 1)) ∧
    (maxSeconds < v → ∃ t, exec (.rtcSetSeconds acc v) s = .next t ∧ t.answer = .abort .outOfRange ∧
      t.get K.RTC_SET_RESULT = 7 ∧ ObjectsKept s t [K.RTC_SET_RESULT] ∧ t = { s with objs := t.objs, answer := t.answer })) ∧
  (∀ (acc : Accessor) (v : Nat) (s : State), s.Admits acc K.CAL_SET 8 →
    (∀ sec : Nat, calendarSeconds v = .ok sec → s.eventRoom = true → s.getN K.RTC_ALARM = 0 →
      ∃ t, exec (.calSet acc v) s = .next t ∧ t.answer = .done ∧ t.oasis.seconds = sec ∧ t.oasis.frac = 0 ∧
        t.oasis.valid = true ∧ t.get K.RTC_SET_RESULT = 0 ∧ t.Shows Ev.rtc 2 ∧ t.modes = s.modes) ∧
    (∀ why : Nat, calendarSeconds v = .error why → ∃ t, exec (.calSet acc v) s = .next t ∧ t.answer = .abort .outOfRange ∧
      t.get K.RTC_SET_RESULT = why ∧ ObjectsKept s t [K.RTC_SET_RESULT] ∧ t = { s with objs := t.objs, answer := t.answer })) ∧
  (∀ (acc : Accessor) (v : Int) (s : State), s.Admits acc K.RTC_ADJUST 4 → -117964800 ≤ v → v ≤ 117964800 →
    (s.oasis.valid = true → 0 ≤ (s.rtcNow : Int) + v → (s.rtcNow : Int) + v ≤ maxSeconds * 32768 + 0x7FFF → s.eventRoom = true →
      s.getN K.RTC_ALARM = 0 →
      ∃ t, exec (.rtcAdjust acc v) s = .next t ∧ t.answer = .done ∧ (t.rtcNow : Int) = s.rtcNow + v ∧ t.oasis.valid = true ∧
        t.get K.RTC_SET_RESULT = 0 ∧ t.Shows Ev.rtc 3 ∧ t.modes = s.modes) ∧
    (s.oasis.valid = false → ∃ t, exec (.rtcAdjust acc v) s = .next t ∧ t.answer = .abort .modeForbids ∧
      t.get K.RTC_SET_RESULT = 8 ∧ ObjectsKept s t [K.RTC_SET_RESULT] ∧ t = { s with objs := t.objs, answer := t.answer })) ∧
  (∀ (acc : Accessor) (v : Nat) (s : State), s.Admits acc K.RTC_ALARM 8 →
    ∃ t, exec (.rtcAlarmWrite acc v) s = .next t ∧ t.answer = .done ∧ t.oasis = s.oasis ∧ t.modes = s.modes ∧
      (s.oasis.seconds < v → t.get K.RTC_ALARM = v ∧ ObjectsKept s t [K.RTC_ALARM] ∧ t = { s with objs := t.objs, answer := t.answer }) ∧
      (0 < v → v ≤ s.oasis.seconds → s.getN K.RTC_ALARM_PERIOD = 0 → t.get K.RTC_ALARM = 0 ∧ t.Shows Ev.rtc 0)) ∧
  (∀ (s : State), s.keeperRuns = true → s.oasis.oscRc = false →
    ∃ t, exec .rtcOscFault s = .next t ∧ t.oasis.oscRc = true ∧ t.oasis.valid = false ∧ t.oasis.seconds = s.oasis.seconds ∧
      (s.portsOpen = true → t.Shows Ev.rtc 10) ∧ t.modes = s.modes ∧ t.rails = s.rails) ∧
  (∀ (s : State), ∃ t, exec .rtcCrystalReturn s = .next t ∧ t.oasis.oscRc = false ∧ t.oasis.valid = s.oasis.valid ∧
    t.oasis.seconds = s.oasis.seconds ∧ t = { s with oasis := t.oasis })) ∧
  ((∀ (vbk vcell voas : Nat) (s : State),
    (s.oasis.supply = .cell → 2200 ≤ vbk → vcell + 50 ≤ vbk →
      ∃ t, exec (.oasisSupplySwitch vbk vcell voas) s = .next t ∧ t.oasis.supply = .vbk ∧ t.oasis.seconds = s.oasis.seconds ∧
        (s.portsOpen = true → t.Shows Ev.rtc 8) ∧ t.modes = s.modes ∧ t.rails = s.rails) ∧
    (s.oasis.supply = .vbk → vbk < 2150 →
      ∃ t, exec (.oasisSupplySwitch vbk vcell voas) s = .next t ∧ t.oasis.supply = .cell ∧ t.oasis.seconds = s.oasis.seconds ∧
        (s.portsOpen = true → t.Shows Ev.rtc 8) ∧ t.modes = s.modes ∧ t.rails = s.rails) ∧
    (s.oasis.supply = .cell → vcell + 100 < voas → vbk ≤ vcell →
      ∃ t, exec (.oasisReservoir vbk vcell voas) s = .next t ∧ t.oasis.supply = .reservoir ∧ t.oasis.seconds = s.oasis.seconds ∧
        t = { s with oasis := t.oasis }) ∧
    (s.oasis.supply = .lost → 1750 < voas →
      ∃ t, exec (.oasisDomainReturn vbk vcell voas) s = .next t ∧ t.oasis.supply ≠ .lost ∧ t.oasis.seconds = 0 ∧
        t.oasis.frac = 0 ∧ t.oasis.alive = false ∧ t = { s with oasis := t.oasis })) ∧
  (∀ (s : State), ∃ t, exec .oasisDomainLost s = .next t ∧ t.oasis.supply = .lost ∧ t.oasis.valid = false ∧
    t.oasis.tamperLatched = false ∧ t.get K.RTC_ALARM = 0 ∧ t.get K.RTC_CAL = 0 ∧ t.get K.OASIS_RETAIN = 0 ∧
    t.get K.TAMPER_COUNT = 0 ∧ t.modes.vaultLatch = false ∧ t.modes.shipLatch = false ∧ t.modes.mode = s.modes.mode ∧
    ObjectsKept s t [K.RTC_CAL, K.RTC_ALARM, K.RTC_ALARM_PERIOD, K.OASIS_RETAIN, K.TAMPER_CFG, K.TAMPER_AT, K.TAMPER_COUNT] ∧
    t = { s with objs := t.objs, oasis := t.oasis, modes := t.modes, path := t.path }) ∧
  (∀ (s : State), s.oasis.supply ≠ .lost → s.portsOpen = true → s.get K.TAMPER_COUNT < 65534 →
    ∃ t, exec .tamper s = .next t ∧ t.oasis.tamperLatched = true ∧ t.get K.TAMPER_COUNT = s.get K.TAMPER_COUNT + 1 ∧
      (s.oasis.tamperLatched = false → t.get K.TAMPER_AT = s.rtcNow) ∧
      (s.oasis.tamperLatched = true → t.get K.TAMPER_AT = s.get K.TAMPER_AT) ∧
      (bitOf (s.get K.TAMPER_CFG) 4 = true → t.get K.OASIS_RETAIN = 0) ∧ t.Shows Ev.rtc 4 ∧ t.modes = s.modes ∧ t.rails = s.rails) ∧
  (∀ (acc : Accessor) (s : State), s.Admits acc K.TAMPER_CLEAR 1 →
    ∃ t, exec (.tamperClear acc) s = .next t ∧ t.answer = .done ∧ t.oasis.tamperLatched = false ∧ t.get K.TAMPER_AT = 0 ∧
      ObjectsKept s t [K.TAMPER_AT] ∧ t = { s with objs := t.objs, oasis := t.oasis, answer := t.answer }) ∧
  (∀ (s : State), s.keeperRuns = true → s.portsOpen = true →
    ∃ t, exec .wakeInput s = .next t ∧ t.Shows Ev.rtc 5 ∧ ReportsOnly s t ∧ ObjectsKept s t (eventObjects Ev.rtc)) ∧
  (∀ (s : State), s.keeperRuns = true → s.portsOpen = true → s.oasis.cellLow = false →
    s.get K.OASIS_VCELL < s.get K.OASIS_CELL_LOW →
    ∃ t, exec .cellLow s = .next t ∧ t.oasis.cellLow = true ∧ t.Shows Ev.rtc 7 ∧ t.modes = s.modes ∧ t.rails = s.rails ∧
      ObjectsKept s t (eventObjects Ev.rtc)))

/-- R358, R359, R360, R361, R362: A commit of the staging set takes a tag and is checked; a refused one changes nothing and keeps the set; an
accepted one waits for the tiles involved, and its three ticks apply what is staged, the last one completing the tag. A discard and a
timeout empty the set. -/
def Obligations.ConfigurationCommits : Prop :=
  (∀ (acc : Accessor) (n : Nat) (s : State), s.Admits acc K.CFG_COMMIT 1 → s.cfg.phase = .idle →
    s.cfg.owner = none ∨ s.cfg.owner = some (s.issuerOf acc) → s.nextTag = some n →
    ∃ t, exec (.cfgCommit acc) s = .next t ∧ t.answer = .tag n ∧ t.get K.CFG_COMMIT_TAG = n ∧ (t.op n).kind = .commit ∧
      (s.cfg.staged = [] → (t.op n).status = .completed ∧ t.get K.CFG_COMMIT_RESULT = 7 ∧ t.cfg = s.cfg) ∧
      (s.cfg.staged ≠ [] → (t.op n).status = .running ∧ t.cfg.phase = .checking ∧ t.cfg.tag = some n ∧
        t.cfg.staged = s.cfg.staged) ∧
      t.rails = s.rails ∧ t.phases = s.phases ∧ t.modes = s.modes ∧ t.mram = s.mram) ∧
  (∀ (acc : Accessor) (s : State), s.Admits acc K.CFG_COMMIT 1 → s.cfg.phase = .idle →
    s.cfg.owner = none ∨ s.cfg.owner = some (s.issuerOf acc) →
    ∃ t, exec (.cfgDiscard acc) s = .next t ∧ t.answer = .done ∧ t.cfg.staged = [] ∧ t.cfg.owner = none ∧
      t = { s with cfg := t.cfg, answer := t.answer }) ∧
  (∀ (s : State), s.cfg.phase = .idle → s.cfg.owner ≠ none →
    ∃ t, exec .stageTimeout s = .next t ∧ t.cfg.staged = [] ∧ t.cfg.owner = none ∧ t = { s with cfg := t.cfg }) ∧
  (∀ (s : State), s.cfg.phase = .checking →
    (s.checkCommit = none → ∃ t, exec .commitChecksDone s = .next t ∧ t.cfg.phase = .prepared ∧ t.cfg.acked = 0 ∧
      t.cfg.tiles = s.involvedTiles ∧ t.cfg.staged = s.cfg.staged ∧
      (∀ n, { t.link n with txDown := (s.link n).txDown } = s.link n) ∧ t = { s with cfg := t.cfg, links := t.links }) ∧
    (∀ (why : Abort) (key n : Nat), s.checkCommit.map (fun x => (x.1.code, x.2)) = some (why, key) → s.cfg.tag = some n → n < 128 → (s.op n).status = .running →
      ∃ t, exec .commitChecksDone s = .next t ∧ t.cfg.phase = .idle ∧ t.cfg.staged = s.cfg.staged ∧
        t.cfg.owner = s.cfg.owner ∧ (t.op n).status = .refused ∧ t.get K.CFG_COMMIT_RESULT = 2 ∧
        t.get K.CFG_STAGED_FAULT = key ∧ t.get K.CFG_COMMIT_ABORT = why.code ∧ t.rails = s.rails ∧ t.phases = s.phases)) ∧
  (∀ (n : Nat) (s : State), s.cfg.phase = .prepared → s.missingTiles ≠ 0 → s.cfg.tag = some n → n < 128 →
    (s.op n).status = .running →
    ∃ t, exec .commitAckTimeout s = .next t ∧ t.cfg.phase = .idle ∧ t.cfg.staged = s.cfg.staged ∧ (t.op n).status = .refused ∧
      t.get K.CFG_COMMIT_RESULT = 3 ∧ t.get K.CFG_COMMIT_TILES = s.missingTiles ∧ t.rails = s.rails ∧ t.phases = s.phases) ∧
  (∀ (s : State),
    (s.cfg.phase = .prepared → s.missingTiles = 0 → ∃ t, exec .commitStageApply s = .next t ∧ t.cfg.phase = .stage1 ∧
      t.get K.CFG_COMMIT_AT = t.now ∧ t.now % 1000 = 0 ∧ s.now ≤ t.now ∧ s.cfg.ackAt + 1000 ≤ t.now ∧ t.rails = s.rails ∧ t.phases = s.phases ∧ t.mram = s.mram) ∧
    (s.cfg.phase = .stage1 → ∃ t, exec .commitStageApply s = .next t ∧ t.cfg.phase = .stage2 ∧
      t.cfg.staged = s.cfg.staged ∧ t.modes = s.modes ∧ t.mram = s.mram) ∧
    (∀ n : Nat, s.cfg.phase = .stage2 → s.cfg.tag = some n → n < 128 → (s.op n).status = .running →
      ∃ t, exec .commitStageApply s = .next t ∧ t.cfg.phase = .idle ∧ t.cfg.staged = [] ∧ t.cfg.owner = none ∧
        (t.op n).status = .completed ∧ t.get K.CFG_COMMIT_RESULT = 1 ∧ t.modes = s.modes ∧ t.mram = s.mram ∧
        (∀ (p : Fin 56) (v : Int), s.cfg.staged = [(K.PH_ILIM_AVG p, v)] → t.get (K.PH_ILIM_AVG p) = v)))

/-- R366, R369: A save makes the slot not loaded invalid and ends with the image in it; an erase makes both slots invalid; an image written
whole is stored there under the next sequence number, and one that is not sound is refused. No other byte of MRAM changes. -/
def Obligations.ConfigurationImages : Prop :=
  (∀ (acc : Accessor) (n : Nat) (s : State), s.Admits acc K.CFG_SAVE 1 → s.modes.holdup = false → s.cfg.phase = .idle →
    s.cfg.saving = none → s.nextTag = some n →
    ∃ t, exec (.cfgSave acc) s = .next t ∧ t.answer = .tag n ∧ ∃ img, t.cfg.saving = some (s.otherSlot, img) ∧
      (t.op n).kind = .cfgSave ∧ (t.op n).status = .running ∧
      (∀ a, slotAddr s.otherSlot ≤ a → a < slotAddr s.otherSlot + 4 → t.mramByte a = 0) ∧
      (∀ a, a < slotAddr s.otherSlot ∨ slotAddr s.otherSlot + 4 ≤ a → t.mramByte a = s.mramByte a)) ∧
  (∀ (slot n : Nat) (img : Bytes) (s : State), s.cfg.saving = some (slot, img) → slot < 2 → img.length ≤ 32768 →
    s.saveTag = some n →
    ∃ t, exec .cfgSaveDone s = .next t ∧ t.readMram (slotAddr slot) img.length = img ∧ t.cfg.saving = none ∧
      t.cfg.bootPending = (s.cfg.bootPending.filter fun kv =>
        !((imageList img).any fun e => decide (e.1 = kv.1) && decide (entryValue e.1 e.2 = kv.2))) ∧ (t.op n).status = .completed ∧
      (∀ a, a < slotAddr slot ∨ slotAddr slot + img.length ≤ a → t.mramByte a = s.mramByte a) ∧ t.modes = s.modes ∧
      t.rails = s.rails) ∧
  (∀ (acc : Accessor) (s : State), s.Admits acc K.CFG_ERASE 1 →
    s.idleCond = true ∨ s.modes.mode = .failsafe ∨ s.modes.mode = .service → s.modes.holdup = false →
    ∃ t, exec (.cfgErase acc) s = .next t ∧ t.answer = .done ∧ t.slotImage 0 = none ∧ t.slotImage 1 = none ∧
      (∀ a, a < slotAddr 0 ∨ slotAddr 0 + 4 ≤ a ∧ a < slotAddr 1 ∨ slotAddr 1 + 4 ≤ a → t.mramByte a = s.mramByte a) ∧ t = { s with mram := t.mram, answer := t.answer }) ∧
  (∀ (acc : Accessor) (data : Bytes) (d : ObjDef) (s : State), s.portsOpen = true →
    s.reachAs true acc K.CFG_IMAGE_WRITE = .ok d →
    (imageSound data = false → exec (.cfgImageWrite acc data) s = .next { s with answer := .abort .typeMismatch }) ∧
    (imageSound data = true → entryBytes (imageList data) = (data.take (data.length - 4)).drop 32 →
      s.reachWrite acc K.CFG_IMAGE_WRITE data.length = .ok d → s.roleOk acc d = true →
      s.modes.holdup = false → s.cfg.saving = none →
      (imageList data).all (fun e => (Dict.find e.1).any fun d => d.layered) = true →
      ∃ t, exec (.cfgImageWrite acc data) s = .next t ∧ t.answer = .done ∧
        ∃ bs, t.cfg.saving = some (s.otherSlot, bs) ∧ imageSound bs = true ∧ bs.length = data.length ∧
        imageField bs 8 8 = (s.getN K.CFG_ACTIVE_SEQ + 1) % 2 ^ 64 ∧ bs.take 8 = data.take 8 ∧
        (bs.drop 16).take (data.length - 20) = (data.drop 16).take (data.length - 20) ∧
        (∀ a, slotAddr s.otherSlot ≤ a → a < slotAddr s.otherSlot + 4 → t.mramByte a = 0) ∧
        (∀ a, a < slotAddr s.otherSlot ∨ slotAddr s.otherSlot + 4 ≤ a → t.mramByte a = s.mramByte a) ∧
        t = { s with mram := t.mram, cfg := { s.cfg with saving := t.cfg.saving }, answer := t.answer })) ∧
  (∀ (slot : Nat) (img : Bytes) (s : State), s.cfg.saving = some (slot, img) → slot < 2 → img.length ≤ 32768 → s.saveTag = none →
    ∃ t, exec .cfgSaveDone s = .next t ∧ t.readMram (slotAddr slot) img.length = img ∧
      (∀ a, a < slotAddr slot ∨ slotAddr slot + img.length ≤ a → t.mramByte a = s.mramByte a) ∧
      t = { s with mram := t.mram, cfg := { s.cfg with saving := none } })

/-- R328, R329, R330, R334, R335: A HAIL_REQ with a common version enters the partner, as PEER in a free slot, and is answered with HAIL_ACK;
one without is refused; BYE, silence and a command evict with their reason; a HEARTBEAT only counts as heard. -/
def Obligations.PartnersJoinAndLeave : Prop :=
  (∀ (f : Frame) (s : State), s.Delivers f → f.body.length = 16 →
    (commonVersion (f.at_ 8 1) = 0 → ∃ t, exec (.hailReq f) s = .next t ∧ t.net.partners = s.net.partners ∧ ∃ m, t.net.out = [m] ∧
      m.func = 0x02 ∧ m.dst = f.src ∧ m.xid = f.xid ∧ (m.body.drop 9).take 1 = [1#8] ∧ t.Shows Ev.net 2) ∧
    (∀ i : Fin 64, commonVersion (f.at_ 8 1) ≠ 0 → s.partnerAt f.port f.src = none →
      ((List.finRange 64).find? fun j => (s.partner j).isNone) = some i →
      ∃ t, exec (.hailReq f) s = .next t ∧ ∃ p, t.partner i = some p ∧ p.node = f.src ∧ p.port = f.port.val ∧ p.role = .peer ∧
        p.version = commonVersion (f.at_ 8 1) ∧ p.identity = f.body.take 8 ∧ p.joinedAt = s.now ∧ ∃ m, t.net.out = [m] ∧
        m.func = 0x02 ∧ m.dst = f.src ∧ (m.body.drop 9).take 1 = [0#8] ∧ t.Shows Ev.net 0)) ∧
  (∀ (f : Frame) (i : Fin 64) (p : Partner) (s : State), s.Delivers f → s.partnerAt f.port f.src = some i → s.partner i = some p →
    (f.body.length = 4 → p.block = none → ∃ t, exec (.bye f) s = .next t ∧ t.partner i = none ∧
      t.get K.NET_LAST_EVICT = 2 ∧ t.net.out = [] ∧ t.Shows Ev.net 1 ∧ t.rails = s.rails ∧ t.modes = s.modes) ∧
    (f.body.length = 8 → ∃ t, exec (.heartbeat f) s = .next t ∧ t.net.out = [] ∧ t.modes = s.modes ∧ t.rails = s.rails ∧
      (s.get (K.NET_A_COUNTS 1) < 4294967294 → s.get (K.NET_B_COUNTS 1) < 4294967294 →
        t.partner i = some { p with heardAt := s.now } ∧ (∀ j, j ≠ i → t.partner j = s.partner j)))) ∧
  (∀ (i : Fin 64) (p : Partner) (s : State), s.portsOpen = true → s.partner i = some p → p.block = none →
    ∃ t, exec (.partnerSilent i) s = .next t ∧ t.partner i = none ∧ t.get K.NET_LAST_EVICT = 1 ∧ t.Shows Ev.net 1 ∧
      t.modes = s.modes ∧ t.rails = s.rails) ∧
  (∀ (acc : Accessor) (i : Fin 64) (p : Partner) (s : State), s.Admits acc K.NET_EVICT 1 → s.partner i = some p → p.block = none →
    ∃ t, exec (.netEvict acc i.val) s = .next t ∧ t.answer = .done ∧ t.partner i = none ∧ t.get K.NET_LAST_EVICT = 5 ∧
      t.Shows Ev.net 1 ∧ t.modes = s.modes ∧ t.rails = s.rails)

/-- R323, R325, R326, R327, R331, R334, R336, R337, R338: A partner's READ_REQ and WRITE_REQ are answered with a RESPONSE of the same XID that
carries the value in force, or take it; an ABORT ends its block transfer; an EVENT_ACK of a version-2 partner takes the event out of its
queue, an unacknowledged event is sent again. A frame of bad CRC is counted and discarded; heartbeats and telemetry go out on the ports that
are up; bus-off takes a port down and evicts its partners, recovery and the error-passive state are reported; a telemetry map is enabled
only where R338 accepts it. -/
def Obligations.RequestsOfPartners : Prop :=
  ((∀ (f : Frame) (i : Fin 64) (p : Partner) (d : ObjDef) (s : State), s.Delivers f → s.partnerAt f.port f.src = some i →
    s.partner i = some p → p.stored = [] →
    (∀ r : Fin 32, f.body.length = 4 → f.key = K.RAIL_VSET r → s.reach (.partner i) f.key = .ok d →
      ∃ t, exec (.readReq f) s = .next t ∧ ∃ m, t.net.out = [m] ∧ m.func = 0x0A ∧ m.dst = p.node ∧ m.xid = f.xid ∧
        m.body = fdBody (responseContent f.key 0xFF (d.bytes (s.get (K.RAIL_VSET r)))) ∧ t.get (K.RAIL_VSET r) = s.get (K.RAIL_VSET r) ∧
        t.modes = s.modes ∧ t.rails = s.rails) ∧
    (∀ v : Int, 10 ≤ f.body.length → f.body.length ≤ 60 → f.key = K.PP_TVINQ → f.at_ 3 1 = 2 → s.reach (.partner i) f.key = .ok d →
      s.roleOk (.partner i) d = true → d.value ((f.body.drop 8).take 2) = v → 10 ≤ v → v ≤ 10000 →
      ∃ t, exec (.writeReq f) s = .next t ∧ ∃ m, t.net.out = [m] ∧ m.func = 0x0A ∧ m.dst = p.node ∧ m.xid = f.xid ∧
        t.get K.PP_TVINQ = v ∧ t.modes = s.modes ∧ t.rails = s.rails) ∧
    (∀ b : BlockXfer, f.body.length = 8 → p.block = some b → ∃ t, exec (.abort f) s = .next t ∧ ∃ q, t.partner i = some q ∧
      q.block = none ∧ (t.channel b.channel).st = .done ∧ t.modes = s.modes ∧ t.rails = s.rails) ∧
    (f.body.length = 4 → p.version = 2 → ∃ t, exec (.eventAck f) s = .next t ∧ ∃ q, t.partner i = some q ∧ t.net.out = [] ∧
      (∀ e ∈ q.queue, e ∈ p.queue → e.counter ≠ f.at_ 0 1 ∨ e.sent = 0) ∧ t.modes = s.modes ∧ t.rails = s.rails)) ∧
  (∀ (i : Fin 64) (p : Partner) (e : EventRec) (s : State), s.partner i = some p → p.queue = [e] → e.sent ≠ 0 →
    s.habArmed = false → s.net.heldTx = none → s.portUp p.port = true →
    (e.sent < 4 → ∃ t, exec (.eventResend i e.counter) s = .next t ∧ ∃ m, t.net.out = [m] ∧ m.func = 0x10 ∧ m.dst = p.node ∧
      m.body = fdBody (eventBody e)) ∧
    (4 ≤ e.sent → ∃ t, exec (.eventResend i e.counter) s = .next t ∧ ∃ q, t.partner i = some q ∧ e ∉ q.queue ∧ t.net.out = []))) ∧
  ((∀ (q : Fin 2) (id : Nat) (bytes : Bytes) (s : State), s.portUp q = true → s.habArmed = false → s.net.heldRx = none →
    frameWhole id bytes = false → s.get K.NET_CRC_FAILS < 4294967294 →
    ∃ t, exec (.frameCrc q id bytes) s = .next t ∧ t.get K.NET_CRC_FAILS = s.get K.NET_CRC_FAILS + 1 ∧ t.net.out = [] ∧
      t.modes = s.modes ∧ t.rails = s.rails ∧ (oncePerSecond s.now s.net.crcAt = true → t.Shows Ev.net 10)) ∧
  (∀ (s : State), s.portUp 0 = true → s.portUp 1 = false → s.habArmed = false → s.net.heldTx = none →
    ∃ t, exec .heartbeatBroadcast s = .next t ∧ ∃ m, t.net.out = [m] ∧ m.func = 0x04 ∧ m.port = 0 ∧ m.dst = 0 ∧
      m.id = 2 * 2 ^ 26 + 4 * 2 ^ 21 + s.nodeId * 2 ^ 7 ∧ m.crc = crc32 (toLE 4 m.id ++ m.body) ∧
      m.body.take 2 = toLE 1 (s.net.ports[(0 : Fin 2)]).hbCounter ++ toLE 1 s.modes.mode.code ∧
      (t.net.ports[(0 : Fin 2)]).hbCounter = ((s.net.ports[(0 : Fin 2)]).hbCounter + 1) % 256 ∧ t.modes = s.modes ∧ t.rails = s.rails) ∧
  (∀ (m : Fin 8) (vals : Bytes) (s : State), s.tlmDue m = true → s.net.tlmVals[m] = some vals → (∀ k, k ≠ m → s.tlmDue k = false) → s.habArmed = false → s.net.heldTx = none →
    ∃ t, exec .telemetrySend s = .next t ∧ ∃ x, t.net.out = [x] ∧ x.func = 0x14 ∧ x.port = s.getN (K.TLM_PORT m) ∧
      x.dst = s.getN (K.TLM_DEST m) ∧ x.body.take 6 = toLE 1 m.val ++ toLE 1 s.net.tlmCount[m] ++ toLE 4 (s.getN K.BEAM_CUT_SEQ) ∧
      x.body = fdBody (toLE 1 m.val ++ toLE 1 s.net.tlmCount[m] ++ toLE 4 (s.getN K.BEAM_CUT_SEQ) ++ vals) ∧
      t.net.tlmCount[m] = (s.net.tlmCount[m] + 1) % 256 ∧ t.modes = s.modes ∧ t.rails = s.rails) ∧
  (∀ (q : Fin 2) (s : State),
    (s.portUp q = true → ∃ t, exec (.canBusOff q) s = .next t ∧ t.portOff q = true ∧ t.Shows Ev.net 6 ∧
      (∀ i p, t.partner i = some p → p.port ≠ q.val) ∧ t.modes = s.modes ∧ t.rails = s.rails) ∧
    (s.portOff q = true → s.portsOpen = true → ∃ t, exec (.canBusRecovered q) s = .next t ∧ t.portOff q = false ∧
      t.Shows Ev.net 7 ∧ t.modes = s.modes ∧ t.rails = s.rails) ∧
    (∀ txErr rxErr : Nat, s.portUp q = true → (s.net.ports[q]).errorPassive = false → 127 < txErr ∨ 127 < rxErr →
      ∃ t, exec (.canErrorPassive q txErr rxErr) s = .next t ∧ (t.net.ports[q]).txErr = txErr ∧ (t.net.ports[q]).rxErr = rxErr ∧
      (t.net.ports[q]).errorPassive = true ∧ (t.net.ports[q]).busOff = false ∧ t.Shows Ev.net 8 ∧ t.modes = s.modes ∧ t.rails = s.rails)) ∧
  (∀ (acc : Accessor) (m : Fin 8) (s : State), s.Admits acc (K.TLM_EN m) 1 →
    (∀ a : Abort, s.tlmFault m = some a → exec (.tlmEnWrite acc m 1) s = .next { s with answer := .abort a }) ∧
    (s.tlmFault m = none → ∃ t, exec (.tlmEnWrite acc m 1) s = .next t ∧ t.answer = .done ∧ t.get (K.TLM_EN m) = 1 ∧
      ObjectsKept s t [K.TLM_EN m] ∧ t = { s with objs := t.objs, answer := t.answer }) ∧
    (∃ t, exec (.tlmEnWrite acc m 0) s = .next t ∧ t.answer = .done ∧ t.get (K.TLM_EN m) = 0 ∧
      ObjectsKept s t [K.TLM_EN m] ∧ t = { s with objs := t.objs, answer := t.answer })))

/-- R332, R333: A BLOCK_INIT that writes starts a transfer on a free channel; a segment in order joins it; an ack of a read ends it where it
says so; a BLOCK_END whose size and CRC match applies the data as one write, and one whose do not ends it with status 2; silence revokes its
lease. -/
def Obligations.BlockTransfers : Prop :=
  (∀ (f : Frame) (i : Fin 64) (p : Partner) (s : State), s.Delivers f → s.partnerAt f.port f.src = some i → s.partner i = some p →
    (∀ c : Fin 8, f.body.length = 8 → f.at_ 3 1 = 1 → s.blockWriteCheck i f.key (f.at_ 4 4) = .ok () → s.freeChannel = some c →
      p.block = none → ∃ t, exec (.blockInit f) s = .next t ∧ ∃ q, t.partner i = some q ∧ ∃ b, q.block = some b ∧ b.write = true ∧
        b.key = f.key ∧ b.total = f.at_ 4 4 ∧ b.channel = c ∧ b.data = [] ∧ (t.channel c).st = .running ∧ ∃ m, t.net.out = [m] ∧
        m.func = 0x0E ∧ m.xid = f.xid) ∧
    (∀ b : BlockXfer, 4 ≤ f.body.length → f.body.length ≤ 60 → p.block = some b → b.write = true → b.lost = none →
      f.at_ 0 1 = b.next % 256 → f.at_ 1 1 = 56 → f.body.length = 60 → b.data.length + 56 ≤ b.total →
      ∃ t, exec (.blockSeg f) s = .next t ∧ ∃ q, t.partner i = some q ∧ ∃ x, q.block = some x ∧
        x.data = b.data ++ (f.body.drop 4).take 56 ∧ x.next = b.next + 1 ∧ t.rails = s.rails ∧ t.modes = s.modes) ∧
    (∀ b : BlockXfer, f.body.length = 4 → p.block = some b → b.write = false → b.lost = none → f.at_ 1 1 = 3 →
      ∃ t, exec (.blockAck f) s = .next t ∧ ∃ q, t.partner i = some q ∧ q.block = none ∧ (t.channel b.channel).st = .done ∧
        t.net.out = []) ∧
    (∀ b : BlockXfer, f.body.length = 8 → p.block = some b → b.write = true → b.lost = none →
      f.at_ 0 4 ≠ b.data.length ∨ b.data.length ≠ b.total ∨ f.at_ 4 4 ≠ crc32 b.data →
      ∃ t, exec (.blockEnd f) s = .next t ∧ ∃ q, t.partner i = some q ∧ q.block = none ∧ ∃ m, t.net.out = [m] ∧ m.func = 0x0E ∧
        (m.body.drop 1).take 1 = [2#8] ∧ t.rails = s.rails ∧ t.modes = s.modes) ∧
    (∀ (b : BlockXfer) (d : ObjDef) (v : Int), f.body.length = 8 → p.block = some b → b.write = true → b.lost = none →
      b.key = K.PP_TVINQ → f.at_ 0 4 = b.data.length → b.data.length = b.total → f.at_ 4 4 = crc32 b.data →
      s.reachWrite (.partner i) b.key b.data.length = .ok d → s.roleOk (.partner i) d = true → d.value b.data = v →
      ∃ t, exec (.blockEnd f) s = .next t ∧ (∃ q, t.partner i = some q ∧ q.block = none) ∧ (t.channel b.channel).st = .done ∧
        t.rails = s.rails ∧ t.modes = s.modes ∧ ∃ m r, t.net.out = [m, r] ∧ m.func = 0x0E ∧ m.xid = b.xid ∧
        (m.body.drop 1).take 1 = [0#8] ∧ r.xid = b.xid ∧ r.dst = p.node ∧
        (10 ≤ v → v ≤ 10000 → t.get K.PP_TVINQ = v ∧ r.func = 0x0A ∧ r.body = fdBody (responseContent b.key 0xFF [])) ∧
        (v < 10 ∨ 10000 < v → t.get K.PP_TVINQ = s.get K.PP_TVINQ ∧ r.func = 0x0B ∧
          r.body = fdBody (abortBody b.key .outOfRange)))) ∧
  (∀ (i : Fin 64) (p : Partner) (b : BlockXfer) (s : State), s.partner i = some p → p.block = some b → s.habArmed = false →
    s.net.heldTx = none → s.portUp p.port = true → b.lost = none →
    (s.channel b.channel).st = .running →
    ∃ t, exec (.blockSilence i) s = .next t ∧ ∃ q, t.partner i = some q ∧ q.block = none ∧ (t.channel b.channel).st = .halted ∧
      ∃ m, t.net.out = [m] ∧ m.func = 0x0B ∧ m.body = fdBody (abortBody b.key .leaseRevoked) ∧ (s.portsOpen = true → t.Shows Ev.sup 4)) ∧
  (∀ (c : Fin 8) (s : State), 6 ≤ c.val → (s.channel c).st = .running →
    ∃ t, exec (.channelLeaseRevoke c) s = .next t ∧ (t.channel c).st = .halted ∧ t.get (K.DMA_CH_HALT c) = 2 ∧ (s.portsOpen = true → t.Shows Ev.sup 4) ∧
      (∀ b, b ≠ c → t.channel b = s.channel b) ∧ t.mram = s.mram)

/-- R339, R340, R341: An AUTH_REQ for PEER returns the partner to it, one for another role issues a fresh 16-byte nonce; an AUTH_RESPONSE
consumes the nonce and gives the role only where the check of R340 passes; a role ends by idleness, a lockout by its time, and a new
installer password ends every INSTALLER. -/
def Obligations.RolesAreProved : Prop :=
  (∀ (f : Frame) (i : Fin 64) (p : Partner) (s : State), s.Delivers f → s.partnerAt f.port f.src = some i → s.partner i = some p →
    (f.body.length = 4 → f.at_ 0 1 = 2 → ∀ rng : Bool, ∃ t, exec (.authReq f rng) s = .next t ∧ ∃ q, t.partner i = some q ∧ q.role = .peer ∧
      ∃ m, t.net.out = [m] ∧ m.func = 0x1B ∧ m.dst = p.node ∧ m.xid = f.xid) ∧
    (∀ r : Role, f.body.length = 4 → roleOfCode (f.at_ 0 1) = some r → r ≠ .peer →
      (∃ t, exec (.authReq f true) s = .next t ∧ ∃ q, t.partner i = some q ∧ q.role = p.role ∧ ∃ n, q.nonce = some (r, n) ∧
        n.bytes.length = 16 ∧ n.at_ = s.now ∧ ∃ m, t.net.out = [m] ∧ m.func = 0x19) ∧
      (∃ t, exec (.authReq f false) s = .next t ∧ ∃ q, t.partner i = some q ∧ q.role = p.role ∧ q.nonce = p.nonce ∧
        (∀ m ∈ t.net.out, m.func ≠ 0x19) ∧ t.Shows Ev.sec 9)) ∧
    (∀ r : Role, f.body.length = 44 → roleOfCode (f.at_ 0 1) = some r → r ≠ .peer →
      ∃ t, exec (.authResponse f) s = .next t ∧ ∃ q, t.partner i = some q ∧ q.nonce = none ∧ ∃ m, t.net.out = [m] ∧ m.func = 0x1B ∧
        (s.authCheck p r (f.at_ 1 1) ((f.body.drop 4).take 32) = 0 → q.role = r ∧ t.Shows Ev.net 3) ∧
        (s.authCheck p r (f.at_ 1 1) ((f.body.drop 4).take 32) ≠ 0 → q.role = p.role))) ∧
  (∀ (i : Fin 64) (p : Partner) (s : State), s.partner i = some p →
    ∃ t, exec (.roleIdleTimeout i) s = .next t ∧ t.partner i = some { p with role := .peer } ∧
      (∀ j, j ≠ i → t.partner j = s.partner j) ∧ t = { s with net := t.net }) ∧
  (∀ (k : Fin 3) (s : State), ∃ t, exec (.authLockoutExpiry k) s = .next t ∧ (t.net.locks[k]).lockEnd = none ∧
    (∀ j : Fin 3, j ≠ k → t.net.locks[j] = s.net.locks[j]) ∧ t.net.partners = s.net.partners ∧ t = { s with net := t.net }) ∧
  (∀ (acc : Accessor) (data : Bytes) (d : ObjDef) (s : State), s.portsOpen = true → s.reach acc K.NET_INSTALLER_PW = .ok d →
    s.debugAllows acc true K.NET_INSTALLER_PW = true → s.roleOf acc = .host ∨ s.roleOf acc = .installer → 8 ≤ data.length →
    data.length ≤ 32 → (∀ b ∈ data, b.toNat < 128) → s.modes.holdup = false →
    ∃ t, exec (.netInstallerPw acc data) s = .next t ∧ t.answer = .done ∧ t.net.pwHash = some (sha256 data) ∧
      (∀ i q, t.partner i = some q → q.role ≠ .installer) ∧ t = { s with net := t.net, answer := t.answer })

/-- R336, R380, R391, R398, R399, R400, R410: A claim takes the claimable source of highest priority from PENDING to IN_SERVICE and answers its
number; a completion takes it out of service and makes it PENDING again where an enabled bit is left; a stray one is counted and reported;
the end of the release hold lets INT go low. A read of TB_LO and a low read of a wide counter answer the low word and latch the rest for
that reader; a read of `NET_EVENTS_DROPPED` arms its event again. -/
def Obligations.InterruptsAndLatchingReads : Prop :=
  ((∀ (q : Fin 2) (n : Nat) (s : State), s.portsOpen = true → s.targetOn q = true → s.bestSource = n →
    s.get K.LP_SPI_FRAMES < 4294967294 → s.get K.LP_TW_FRAMES < 4294967294 → s.get K.INT_CLAIMS < 4294967294 →
    (n ≠ 0 → ∃ t, exec (.intClaim q) s = .next t ∧ t.answer = winAnswer (s.stat q) n ∧ t.isPending n = false ∧
      t.isInService n = true ∧ (t.port q).lastClaim = n ∧ t.get K.INT_CLAIMS = s.get K.INT_CLAIMS + 1 ∧
      (∀ m, m ≠ n → t.isPending m = s.isPending m ∧ t.isInService m = s.isInService m) ∧
      t = { s with objs := t.objs, ints := t.ints, ports := t.ports, answer := t.answer }) ∧
    (n = 0 → ∃ t, exec (.intClaim q) s = .next t ∧ t.answer = winAnswer (s.stat q) 0 ∧ t.ints = s.ints)) ∧
  (∀ (q : Fin 2) (n : Nat) (s : State), s.portsOpen = true → s.targetOn q = true → n < 512 → s.isInService n = true →
    s.get K.LP_SPI_FRAMES < 4294967294 → s.get K.LP_TW_FRAMES < 4294967294 → s.get K.INT_REFIRES < 4294967294 →
    ∃ t, exec (.intComplete q n) s = .next t ∧ t.isInService n = false ∧ t.isPending n = decide (s.enabledBits n ≠ 0) ∧
      (∀ m, m ≠ n → t.isPending m = s.isPending m ∧ t.isInService m = s.isInService m) ∧
      t = { s with objs := t.objs, ints := t.ints, ports := t.ports, answer := t.answer }) ∧
  (∀ (q : Fin 2) (n : Nat) (s : State), s.portsOpen = true → s.targetOn q = true → 512 ≤ n ∨ s.isInService n = false →
    s.get K.INT_STRAY_COMPLETES < 4294967294 →
    ∃ t, exec (.intComplete q n) s = .next t ∧ t.get K.INT_STRAY_COMPLETES = s.get K.INT_STRAY_COMPLETES + 1 ∧ t.Shows Ev.op 5 ∧
      t.modes = s.modes ∧ t.rails = s.rails) ∧
  (∀ (s : State), ∃ t, exec .intReleaseHoldEnd s = .next t ∧ t.ints.releaseHold = false ∧ t.ints.pending = s.ints.pending ∧
    t.ints.inService = s.ints.inService ∧ t = { s with ints := t.ints })) ∧
  ((∀ (q : Fin 2) (s : State), s.portsOpen = true → s.targetOn q = true →
    ∃ t, exec (.tbLoRead q) s = .next t ∧ t.answer = winAnswer (s.stat q) (s.now % 2 ^ 32) ∧
      t.ports.latch[q.val] = s.now / 2 ^ 32 % 2 ^ 32 ∧ t.now = s.now ∧ t.modes = s.modes ∧ t.rails = s.rails) ∧
  (∀ (k : Fin 11) (key : Nat) (d : ObjDef) (s : State), 3 ≤ k.val → s.portsOpen = true → s.reach .debug key = .ok d → 4 < d.size →
    d.type ≠ .domain → d.type ≠ .vis →
    (∃ t, exec (.counterLowRead k key false) s = .next t ∧ t.answer = .data (toLE 4 (unsigned 64 (s.shown .debug d key))) ∧
      t.ports.latch[k.val] = unsigned 64 (s.shown .debug d key) / 2 ^ 32 ∧ t = { s with ports := t.ports, answer := t.answer }) ∧
    exec (.counterLowRead k key true) s = .next { s with answer := .data (toLE 4 s.ports.latch[k.val]) }) ∧
  (∀ (acc : Accessor) (d : ObjDef) (s : State), s.portsOpen = true → s.reach acc K.NET_EVENTS_DROPPED = .ok d →
    s.debugAllows acc false K.NET_EVENTS_DROPPED = true →
    ∃ t, exec (.netEventsDroppedRead acc) s = .next t ∧ t.answer = .data (d.bytes (s.get K.NET_EVENTS_DROPPED)) ∧
      t.net.dropArmed = true ∧ t.net.partners = s.net.partners ∧ t = { s with net := t.net, answer := t.answer }))

/-- R351, R357, R358: A LIVE write takes its value at once, a STAGED one enters its accessor's staging set and a BOOT-class one is held pending:
neither of these two changes a value in force. -/
def Obligations.WritesByClass : Prop :=
  (∀ (acc : Accessor) (data : Bytes) (d : ObjDef) (s : State), s.portsOpen = true → s.reachWrite acc K.PP_TVINQ data.length = .ok d →
    s.roleOk acc d = true →
    (10 ≤ d.value data → d.value data ≤ 10000 → ∃ t, exec (.objectWrite acc K.PP_TVINQ data) s = .next t ∧ t.answer = .done ∧
      t.get K.PP_TVINQ = d.value data ∧ ObjectsKept s t [K.PP_TVINQ] ∧ t = { s with objs := t.objs, answer := t.answer }) ∧
    (d.value data < 10 ∨ 10000 < d.value data →
      exec (.objectWrite acc K.PP_TVINQ data) s = .next { s with answer := .abort .outOfRange })) ∧
  (∀ (acc : Accessor) (key : Nat) (data : Bytes) (d : ObjDef) (s : State), s.portsOpen = true →
    s.reachWrite acc key data.length = .ok d → s.roleOk acc d = true → s.valueOk d key (d.value data) = true →
    (d.cls = .staged → s.cfg.phase = .idle → s.cfg.owner = none ∨ s.cfg.owner = some (s.issuerOf acc) → s.cfg.staged.length < 512 →
      ∃ t, exec (.stagedWrite acc key data) s = .next t ∧ t.answer = .done ∧ Store.lookup key t.cfg.staged = some (d.value data) ∧
        (∀ k, k ≠ key → Store.lookup k t.cfg.staged = Store.lookup k s.cfg.staged) ∧ t.cfg.owner = some (s.issuerOf acc) ∧
        t.objs = s.objs ∧ t = { s with cfg := t.cfg, chg := t.chg, answer := t.answer }) ∧
    (d.cls = .boot → s.ramping = false → s.anyRailLive = false → s.setOk key (d.value data) = true →
      ∃ t, exec (.bootClassWrite acc key data) s = .next t ∧ t.answer = .done ∧
        Store.lookup key t.cfg.bootPending = some (d.value data) ∧
        (∀ k, k ≠ key → Store.lookup k t.cfg.bootPending = Store.lookup k s.cfg.bootPending) ∧ t.objs = s.objs ∧
        t = { s with cfg := t.cfg, chg := t.chg, answer := t.answer }))

/-- R131, R466: The management tick moves beacon time to the next multiple of 10 ms and takes up the measured values that are new; in SEAL it
only counts, and under a halted processor too. -/
def Obligations.ManagementTick : Prop :=
  (∀ (ms : List Measure) (s : State), s.keeperRuns = true → s.modes.mode = .seal ∨ s.sec.halted = true →
    ∃ t, exec (.managementTick ms) s = .next t ∧ t.now = (s.now / 1000000 + 1) * 1000000 ∧
      ObjectsKept s t (s.cfg.fswDue.map Prod.fst) ∧ (s.cfg.fswDue = [] → t.cfg = s.cfg) ∧
      t = { s with now := t.now, objs := t.objs, cfg := t.cfg }) ∧
  (∀ (v : Int) (s : State), s.portsOpen = true → s.keeperRuns = true → s.sec.halted = false → s.modes.mode ≠ .failsafe →
    ∃ t, exec (.managementTick [.obj K.PP_VIN v]) s = .next t ∧ t.now = (s.now / 1000000 + 1) * 1000000 ∧ t.get K.PP_VIN = v)

/-- R476: At the maximum count the time stops with the fraction at 0x7FFF, `RTC_STATUS.SATURATED` is set and RTC_SATURATED raised, at once or,
while no port is open, with the events that wait; a saturated time stands still and raises nothing; a set, by seconds or by the calendar,
clears the condition. -/
def Obligations.TimeStopsAtItsMaximum : Prop :=
  (∀ (s : State), s.oasis.supply ≠ .lost → s.oasis.saturated = false → s.oasis.seconds = maxSeconds →
    ∃ t, exec .rtcSecond s = .next t ∧ t.oasis.seconds = 0xFFFFFFFFFF ∧ t.oasis.frac = 0x7FFF ∧ t.oasis.saturated = true ∧
      bitOf t.rtcStatus 3 = true ∧ (s.portsOpen = true → t.Shows Ev.rtc 9) ∧
      (s.portsOpen = false → (K.RTC_EVENT, 9) ∈ t.deferred)) ∧
  (∀ (s : State), s.oasis.saturated = true → exec .rtcSecond s = .next s) ∧
  (∀ (acc : Accessor) (v : Nat) (s : State), s.Admits acc K.RTC_SET_SECONDS 8 → s.oasis.saturated = true → v ≤ maxSeconds →
    s.eventRoom = true →
    ∃ t, exec (.rtcSetSeconds acc v) s = .next t ∧ t.answer = .done ∧ t.oasis.saturated = false ∧ bitOf t.rtcStatus 3 = false) ∧
  (∀ (acc : Accessor) (v sec : Nat) (s : State), s.Admits acc K.CAL_SET 8 → s.oasis.saturated = true → calendarSeconds v = .ok sec →
    s.eventRoom = true →
    ∃ t, exec (.calSet acc v) s = .next t ∧ t.answer = .done ∧ t.oasis.saturated = false ∧ bitOf t.rtcStatus 3 = false)

/-- R289: `JNL_INIT` leaves no record readable but the JOURNAL_INIT that it writes with the next sequence number, and `JNL_ACK` one below it;
outside BLANK and OPEN it is refused SEALED, while a session is open BUSY, and a refusal changes nothing but the answer. -/
def Obligations.JournalInitStartsAnew : Prop :=
  (∀ (acc : Accessor) (q : Nat) (s : State), s.Admits acc K.JNL_INIT 1 → s.sec.lifecycle = .blank ∨ s.sec.lifecycle = .opened →
    s.sessionOpen = false → s.met.jnl.next = q → 1 ≤ q →
    ∃ t, exec (.jnlInit acc) s = .next t ∧ t.answer = .done ∧ t.met.jnl.next = q + 1 ∧ t.met.jnl.ack + 1 = q ∧
      (∀ k : Nat, t.recordReadable k = decide (k = q)) ∧ t.readMram (jnlAddr q) 1 = toLE 1 4 ∧
      t.readMram (jnlAddr q + 4) 8 = toLE 8 q ∧ t.readMram (jnlAddr q + 38) 2 = toLE 2 JnlEvent.journalInit.code) ∧
  (∀ (acc : Accessor) (d : ObjDef) (s : State), s.portsOpen = true → s.reachWrite acc K.JNL_INIT 1 = .ok d →
    s.sec.lifecycle ≠ .blank → s.sec.lifecycle ≠ .opened →
    exec (.jnlInit acc) s = .next { s with answer := .abort .sealed }) ∧
  (∀ (acc : Accessor) (s : State), s.Admits acc K.JNL_INIT 1 → s.sec.lifecycle = .blank ∨ s.sec.lifecycle = .opened →
    s.sessionOpen = true → exec (.jnlInit acc) s = .next { s with answer := .abort .busy })

/-- R311: A tile without lock acknowledges no prepare; the commit that it leaves unacknowledged is abandoned with nothing applied; the STATUS
frame that shows its lock lost raises TIME_UNLOCK, the one that shows it regained TIME_RELOCK. -/
def Obligations.UnlockedTileStopsCommit : Prop :=
  (∀ (n : Fin 8) (s : State), s.habArmed = false → s.hab.held = none → (s.link n).st = .up → (s.link n).locked = false →
    ∃ t, exec (.flitCommand n true (s.link n).rxUp true []) s = .next t ∧ t.cfg = s.cfg) ∧
  (∀ (n : Fin 8) (g : Nat) (s : State), s.cfg.phase = .prepared → s.cfg.tiles.testBit n = true → s.cfg.acked.testBit n = false →
    s.cfg.tag = some g → g < 128 → (s.op g).status = .running →
    ∃ t, exec .commitAckTimeout s = .next t ∧ t.cfg.phase = .idle ∧ t.cfg.staged = s.cfg.staged ∧ (t.op g).status = .refused ∧
      t.get K.CFG_COMMIT_RESULT = 3 ∧ bitOf (t.get K.CFG_COMMIT_TILES) n = true ∧ t.rails = s.rails ∧ t.phases = s.phases) ∧
  (∀ (n : Fin 8) (f : TileFrame) (s : State), s.habArmed = false → s.hab.held = none → (s.link n).st = .up → (s.link n).farRun < 7 →
    ((s.link n).shown = true → (s.link n).locked = false →
      ∃ t, exec (.flitStatus n (s.link n).rxUp f []) s = .next t ∧ t.Shows Ev.beam 5 ∧ (t.link n).shown = false) ∧
    ((s.link n).shown = false → (s.link n).locked = true → (s.link n).lostLock = true →
      ∃ t, exec (.flitStatus n (s.link n).rxUp f []) s = .next t ∧ t.Shows Ev.beam 6 ∧ (t.link n).shown = true))

/-- R45, R278, R279, R280, R433, R434, R435, R436, R437: A request for VAULT, SHIP or DORMANT that nothing forbids or beats changes the mode; an
open, a close, their two instants and the signature take a metering session from NONE through OPENING, OPEN and CLOSING back to NONE; an
arm, a trigger by command or by its kind, a frame, a full capture, a stop and the rotation take a Mirage capture from its arming to its end. -/
def Obligations.RequestsSessionsCaptures : Prop :=
  (∀ (acc : Accessor) (d : ObjDef) (s : State), s.portsOpen = true → s.reachWrite acc K.MODE_REQUEST 1 = .ok d → s.idleCond = true →
    s.sessionOpen = false → s.anyRunning = false → s.modes.serviceLeaving = false →
    (∀ woken : Nat, s.wakeHits 1 woken = 0 →
      ∃ t, exec (.modeRequestVault acc woken false) s = .next t ∧ t.answer = .done ∧ t.modes.mode = .vault) ∧
    (s.path.inService = false → ∃ t, exec (.modeRequestShip acc false) s = .next t ∧ t.answer = .done ∧ t.modes.mode = .ship) ∧
    (∀ woken : Nat, s.wakeHits 3 woken = 0 →
      ∃ t, exec (.modeRequestDormant acc woken false) s = .next t ∧ t.answer = .done ∧ t.modes.mode = .dormant)) ∧
  (∀ (acc : Accessor) (m : Fin 4) (n : Nat) (s : State), s.Admits acc (K.MP_SESS_CMD m) 1 → s.sessionMode = true → s.nextTag = some n →
    (s.openCheck m = none → ∃ t, exec (.mpSessionOpen acc m) s = .next t ∧ t.answer = .tag n ∧ (t.point m).sess = .opening) ∧
    ((s.point m).sess = .opened → ∃ t, exec (.mpSessionClose acc m) s = .next t ∧ t.answer = .tag n ∧ (t.point m).sess = .closing)) ∧
  (∀ (m : Fin 4) (s : State),
    ((s.point m).sess = .opening → s.samplingOn = true → s.met.clockFault = false → s.met.jnl.waiting = [] → s.met.jnl.signing = none →
      s.startRoom = true → (s.point m).closeWait = false → ∃ t, exec (.sessionOpenInstant m) s = .next t ∧ (t.point m).sess = .opened) ∧
    ((s.point m).sess = .closing → s.samplingOn = true → (s.point m).closeSeen = false → (s.point m).endWritten = false →
      s.met.jnl.signing = none → ∃ t, exec (.sessionCloseInstant m) s = .next t ∧ (t.point m).endWritten = true ∧
        t.met.jnl.signing = some m) ∧
    (s.met.jnl.signing = some m → s.portsOpen = true → s.met.jnl.waiting = [] → (s.point m).sess = .closing →
      (s.point m).endWritten = true → ∃ t, exec (.sessionSigned m) s = .next t ∧ (t.point m).sess = .none)) ∧
  (∀ (acc : Accessor) (d : ObjDef) (s : State), s.portsOpen = true → s.reachWrite acc K.MIR_ARM 1 = .ok d → s.installerUp acc = true →
    (s.mirArmCheck = none → ∃ t, exec (.mirArmCmd acc) s = .next t ∧ t.answer = .done ∧ t.mir.st = .armed) ∧
    (s.mirBusy = true → s.mir.ended = none →
      ∃ t, exec (.mirStopCmd acc) s = .next t ∧ t.answer = .done ∧ t.mir.ended = some .stopped) ∧
    (s.mir.st = .armed → ∃ t, exec (.mirTriggerCmd acc) s = .next t ∧ t.answer = .done ∧ t.mir.st = .triggered)) ∧
  (∀ (values : List (Option Int)) (s : State), s.keeperRuns = true → s.mirBusy = true → s.mir.ended = none →
    (s.mir.st = .triggered → s.mir.trigFrame ≠ none → s.mir.postLeft ≠ 0) →
    ∃ t, exec (.mirageFrame values) s = .next t ∧ t.mir.next = s.mir.next + 1) ∧
  (∀ (arg : Nat) (before after : Int) (s : State), s.keeperRuns = true → s.mir.st = .armed → s.getN K.MIR_TRIG_KIND = 4 →
    s.getN K.MIR_TRIG_ARG = arg → s.get K.MIR_TRIG_LEVEL ≤ before → after < s.get K.MIR_TRIG_LEVEL →
    ∃ t, exec (.mirageTrigger 4 arg before after) s = .next t ∧ t.mir.st = .triggered ∧ t.mir.trigTime = some s.now) ∧
  (∀ (s : State), s.mir.st = .triggered → s.mir.trigFrame ≠ none → s.mir.postLeft = 0 → s.mir.ended = none →
    ∃ t, exec .miragePostFull s = .next t ∧ t.mir.ended = some .done) ∧
  (∀ (how : MirState) (s : State), s.keeperRuns = true → s.mir.ended = some how →
    ∃ t, exec .mirageRotationDone s = .next t ∧ t.mir.st = how ∧ t.mir.ended = none)

end
end

