-- ==== Sys2Proof/Laws/Store.lean ====
section
/-! SUPPORT. What the store operations do: a read after a write, and that the canonical form is kept. -/

namespace Sys2Proof.Machine

variable {σ : Type} {dflt : Nat → σ} {k j : Nat} {v d : σ} {m : List (Nat × σ)}

@[simp] theorem Store.lookup_insert_self : Store.lookup k (Store.insert k v m) = some v := by
  induction m with
  | nil => simp [Store.insert, Store.lookup]
  | cons p t ih =>
    simp only [Store.insert]
    split
    · simp [Store.lookup]
    · split
      · simp [Store.lookup]
      · rename_i h; simp only [Store.lookup]; rw [if_neg h, ih]

theorem Store.lookup_insert_ne (hj : j ≠ k) :
    Store.lookup j (Store.insert k v m) = Store.lookup j m := by
  induction m with
  | nil => simp [Store.insert, Store.lookup, Ne.symm hj]
  | cons p t ih =>
    simp only [Store.insert]
    split
    · simp [Store.lookup, Ne.symm hj]
    · split
      · rename_i h; simp [Store.lookup, h, Ne.symm hj]
      · simp only [Store.lookup, ih]

@[simp] theorem Store.lookup_erase_self : Store.lookup k (Store.erase k m) = none := by
  induction m with
  | nil => rfl
  | cons p t ih =>
    simp only [Store.erase]
    split
    · exact ih
    · rename_i h; simp only [Store.lookup]; rw [if_neg h, ih]

theorem Store.lookup_erase_ne (hj : j ≠ k) : Store.lookup j (Store.erase k m) = Store.lookup j m := by
  induction m with
  | nil => rfl
  | cons p t ih =>
    simp only [Store.erase]
    split
    · rename_i h; simp [Store.lookup, h, Ne.symm hj, ih]
    · simp only [Store.lookup, ih]

variable [DecidableEq σ]

/-- A read after a write to the same key gives the value written. -/
@[simp] theorem Store.getD_put_self : (Store.lookup k (Store.put d k v m)).getD d = v := by
  unfold Store.put
  split
  · rename_i h; simp [h]
  · simp

/-- A write leaves every other key alone. -/
theorem Store.lookup_put_ne (hj : j ≠ k) : Store.lookup j (Store.put d k v m) = Store.lookup j m := by
  unfold Store.put
  split
  · exact Store.lookup_erase_ne hj
  · exact Store.lookup_insert_ne hj

theorem Store.wfFrom_of_some {l : Nat} {lo : Option Nat} (h : Store.wfFrom dflt (some l) m)
    (hlo : ∀ b, lo = some b → b ≤ l) : Store.wfFrom dflt lo m := by
  cases m with
  | nil => cases lo <;> rfl
  | cons p t =>
    simp only [Store.wfFrom, Bool.and_eq_true, decide_eq_true_eq] at h ⊢
    cases lo with
    | none => simp_all
    | some b => have := hlo b rfl; simp_all; omega

theorem Store.insert_wf {lo : Option Nat} (h : Store.wfFrom dflt lo m) (hv : v ≠ dflt k)
    (hk : ∀ l, lo = some l → l < k) : Store.wfFrom dflt lo (Store.insert k v m) := by
  induction m generalizing lo with
  | nil => cases lo <;> simp_all [Store.insert, Store.wfFrom]
  | cons p t ih =>
    simp only [Store.insert]
    split
    · cases lo <;> simp_all [Store.wfFrom]
    · split
      · rename_i h1 h2
        obtain ⟨a, w⟩ := p
        simp only at h2; subst h2
        cases lo <;> simp_all [Store.wfFrom]
      · simp only [Store.wfFrom, Bool.and_eq_true] at h ⊢
        exact ⟨h.1, ih h.2 (by intro l hl; cases hl; omega)⟩

theorem Store.erase_wf {lo : Option Nat} (h : Store.wfFrom dflt lo m) :
    Store.wfFrom dflt lo (Store.erase k m) := by
  induction m generalizing lo with
  | nil => exact h
  | cons p t ih =>
    obtain ⟨a, w⟩ := p
    simp only [Store.wfFrom, Bool.and_eq_true] at h
    simp only [Store.erase]
    split
    · refine ih (Store.wfFrom_of_some h.2 ?_)
      intro b hb; subst hb
      have := h.1.1; simp at this; omega
    · simp only [Store.wfFrom, Bool.and_eq_true]
      exact ⟨h.1, ih h.2⟩

/-- A write keeps the canonical form. -/
theorem Store.put_wf (h : Store.wfFrom dflt none m) :
    Store.wfFrom dflt none (Store.put (dflt k) k v m) := by
  unfold Store.put
  split
  · exact Store.erase_wf h
  · exact Store.insert_wf h ‹_› (by simp)

end Sys2Proof.Machine
end

