-- ==== Sys2Proof/Laws/State.lean ====
section
/-! SUPPORT. What each update of the state leaves as it was: one lemma per update and field, true by unfolding. -/

namespace Sys2Proof.Machine

variable (s : State)

/-! ### `put` changes `objs` alone -/

@[simp] theorem State.put_pending (key : Nat) (v : Int) : (s.put key v).pending = s.pending := rfl
@[simp] theorem State.put_mram (key : Nat) (v : Int) : (s.put key v).mram = s.mram := rfl
@[simp] theorem State.put_now (key : Nat) (v : Int) : (s.put key v).now = s.now := rfl
@[simp] theorem State.put_freeIdx (key : Nat) (v : Int) : (s.put key v).freeIdx = s.freeIdx := rfl
@[simp] theorem State.put_answer (key : Nat) (v : Int) : (s.put key v).answer = s.answer := rfl
@[simp] theorem State.put_deferred (key : Nat) (v : Int) : (s.put key v).deferred = s.deferred := rfl
@[simp] theorem State.put_caps (key : Nat) (v : Int) : (s.put key v).caps = s.caps := rfl
@[simp] theorem State.put_modes (key : Nat) (v : Int) : (s.put key v).modes = s.modes := rfl
@[simp] theorem State.put_history (key : Nat) (v : Int) : (s.put key v).history = s.history := rfl
@[simp] theorem State.put_ops (key : Nat) (v : Int) : (s.put key v).ops = s.ops := rfl
@[simp] theorem State.put_ints (key : Nat) (v : Int) : (s.put key v).ints = s.ints := rfl
@[simp] theorem State.put_phases (key : Nat) (v : Int) : (s.put key v).phases = s.phases := rfl
@[simp] theorem State.put_tiles (key : Nat) (v : Int) : (s.put key v).tiles = s.tiles := rfl
@[simp] theorem State.put_frame (key : Nat) (v : Int) : (s.put key v).frame = s.frame := rfl
@[simp] theorem State.put_rails (key : Nat) (v : Int) : (s.put key v).rails = s.rails := rfl
@[simp] theorem State.put_auxs (key : Nat) (v : Int) : (s.put key v).auxs = s.auxs := rfl
@[simp] theorem State.put_seq (key : Nat) (v : Int) : (s.put key v).seq = s.seq := rfl
@[simp] theorem State.put_bus (key : Nat) (v : Int) : (s.put key v).bus = s.bus := rfl
@[simp] theorem State.put_sup (key : Nat) (v : Int) : (s.put key v).sup = s.sup := rfl
@[simp] theorem State.put_path (key : Nat) (v : Int) : (s.put key v).path = s.path := rfl
@[simp] theorem State.put_chg (key : Nat) (v : Int) : (s.put key v).chg = s.chg := rfl
@[simp] theorem State.put_est (key : Nat) (v : Int) : (s.put key v).est = s.est := rfl
@[simp] theorem State.put_met (key : Nat) (v : Int) : (s.put key v).met = s.met := rfl
@[simp] theorem State.put_therm (key : Nat) (v : Int) : (s.put key v).therm = s.therm := rfl
@[simp] theorem State.put_nvm (key : Nat) (v : Int) : (s.put key v).nvm = s.nvm := rfl
@[simp] theorem State.put_dma (key : Nat) (v : Int) : (s.put key v).dma = s.dma := rfl
@[simp] theorem State.put_mir (key : Nat) (v : Int) : (s.put key v).mir = s.mir := rfl
@[simp] theorem State.put_net (key : Nat) (v : Int) : (s.put key v).net = s.net := rfl
@[simp] theorem State.put_cfg (key : Nat) (v : Int) : (s.put key v).cfg = s.cfg := rfl
@[simp] theorem State.put_ports (key : Nat) (v : Int) : (s.put key v).ports = s.ports := rfl
@[simp] theorem State.put_links (key : Nat) (v : Int) : (s.put key v).links = s.links := rfl
@[simp] theorem State.put_hab (key : Nat) (v : Int) : (s.put key v).hab = s.hab := rfl
@[simp] theorem State.put_oasis (key : Nat) (v : Int) : (s.put key v).oasis = s.oasis := rfl
@[simp] theorem State.put_ledger (key : Nat) (v : Int) : (s.put key v).ledger = s.ledger := rfl
@[simp] theorem State.put_sec (key : Nat) (v : Int) : (s.put key v).sec = s.sec := rfl
@[simp] theorem State.put_otp (key : Nat) (v : Int) : (s.put key v).otp = s.otp := rfl

/-! ### `setPending` changes `ints` alone -/

@[simp] theorem State.setPending_pending (n : Nat) (b : Bool) : (s.setPending n b).pending = s.pending := rfl
@[simp] theorem State.setPending_objs (n : Nat) (b : Bool) : (s.setPending n b).objs = s.objs := rfl
@[simp] theorem State.setPending_mram (n : Nat) (b : Bool) : (s.setPending n b).mram = s.mram := rfl
@[simp] theorem State.setPending_now (n : Nat) (b : Bool) : (s.setPending n b).now = s.now := rfl
@[simp] theorem State.setPending_freeIdx (n : Nat) (b : Bool) : (s.setPending n b).freeIdx = s.freeIdx := rfl
@[simp] theorem State.setPending_answer (n : Nat) (b : Bool) : (s.setPending n b).answer = s.answer := rfl
@[simp] theorem State.setPending_deferred (n : Nat) (b : Bool) : (s.setPending n b).deferred = s.deferred := rfl
@[simp] theorem State.setPending_caps (n : Nat) (b : Bool) : (s.setPending n b).caps = s.caps := rfl
@[simp] theorem State.setPending_modes (n : Nat) (b : Bool) : (s.setPending n b).modes = s.modes := rfl
@[simp] theorem State.setPending_history (n : Nat) (b : Bool) : (s.setPending n b).history = s.history := rfl
@[simp] theorem State.setPending_ops (n : Nat) (b : Bool) : (s.setPending n b).ops = s.ops := rfl
@[simp] theorem State.setPending_phases (n : Nat) (b : Bool) : (s.setPending n b).phases = s.phases := rfl
@[simp] theorem State.setPending_tiles (n : Nat) (b : Bool) : (s.setPending n b).tiles = s.tiles := rfl
@[simp] theorem State.setPending_frame (n : Nat) (b : Bool) : (s.setPending n b).frame = s.frame := rfl
@[simp] theorem State.setPending_rails (n : Nat) (b : Bool) : (s.setPending n b).rails = s.rails := rfl
@[simp] theorem State.setPending_auxs (n : Nat) (b : Bool) : (s.setPending n b).auxs = s.auxs := rfl
@[simp] theorem State.setPending_seq (n : Nat) (b : Bool) : (s.setPending n b).seq = s.seq := rfl
@[simp] theorem State.setPending_bus (n : Nat) (b : Bool) : (s.setPending n b).bus = s.bus := rfl
@[simp] theorem State.setPending_sup (n : Nat) (b : Bool) : (s.setPending n b).sup = s.sup := rfl
@[simp] theorem State.setPending_path (n : Nat) (b : Bool) : (s.setPending n b).path = s.path := rfl
@[simp] theorem State.setPending_chg (n : Nat) (b : Bool) : (s.setPending n b).chg = s.chg := rfl
@[simp] theorem State.setPending_est (n : Nat) (b : Bool) : (s.setPending n b).est = s.est := rfl
@[simp] theorem State.setPending_met (n : Nat) (b : Bool) : (s.setPending n b).met = s.met := rfl
@[simp] theorem State.setPending_therm (n : Nat) (b : Bool) : (s.setPending n b).therm = s.therm := rfl
@[simp] theorem State.setPending_nvm (n : Nat) (b : Bool) : (s.setPending n b).nvm = s.nvm := rfl
@[simp] theorem State.setPending_dma (n : Nat) (b : Bool) : (s.setPending n b).dma = s.dma := rfl
@[simp] theorem State.setPending_mir (n : Nat) (b : Bool) : (s.setPending n b).mir = s.mir := rfl
@[simp] theorem State.setPending_net (n : Nat) (b : Bool) : (s.setPending n b).net = s.net := rfl
@[simp] theorem State.setPending_cfg (n : Nat) (b : Bool) : (s.setPending n b).cfg = s.cfg := rfl
@[simp] theorem State.setPending_ports (n : Nat) (b : Bool) : (s.setPending n b).ports = s.ports := rfl
@[simp] theorem State.setPending_links (n : Nat) (b : Bool) : (s.setPending n b).links = s.links := rfl
@[simp] theorem State.setPending_hab (n : Nat) (b : Bool) : (s.setPending n b).hab = s.hab := rfl
@[simp] theorem State.setPending_oasis (n : Nat) (b : Bool) : (s.setPending n b).oasis = s.oasis := rfl
@[simp] theorem State.setPending_ledger (n : Nat) (b : Bool) : (s.setPending n b).ledger = s.ledger := rfl
@[simp] theorem State.setPending_sec (n : Nat) (b : Bool) : (s.setPending n b).sec = s.sec := rfl
@[simp] theorem State.setPending_otp (n : Nat) (b : Bool) : (s.setPending n b).otp = s.otp := rfl
@[simp] theorem State.setPending_get (n : Nat) (b : Bool) (key : Nat) : (s.setPending n b).get key = s.get key := rfl

/-! ### `setInService` changes `ints` alone -/

@[simp] theorem State.setInService_pending (n : Nat) (b : Bool) : (s.setInService n b).pending = s.pending := rfl
@[simp] theorem State.setInService_objs (n : Nat) (b : Bool) : (s.setInService n b).objs = s.objs := rfl
@[simp] theorem State.setInService_mram (n : Nat) (b : Bool) : (s.setInService n b).mram = s.mram := rfl
@[simp] theorem State.setInService_now (n : Nat) (b : Bool) : (s.setInService n b).now = s.now := rfl
@[simp] theorem State.setInService_freeIdx (n : Nat) (b : Bool) : (s.setInService n b).freeIdx = s.freeIdx := rfl
@[simp] theorem State.setInService_answer (n : Nat) (b : Bool) : (s.setInService n b).answer = s.answer := rfl
@[simp] theorem State.setInService_deferred (n : Nat) (b : Bool) : (s.setInService n b).deferred = s.deferred := rfl
@[simp] theorem State.setInService_caps (n : Nat) (b : Bool) : (s.setInService n b).caps = s.caps := rfl
@[simp] theorem State.setInService_modes (n : Nat) (b : Bool) : (s.setInService n b).modes = s.modes := rfl
@[simp] theorem State.setInService_history (n : Nat) (b : Bool) : (s.setInService n b).history = s.history := rfl
@[simp] theorem State.setInService_ops (n : Nat) (b : Bool) : (s.setInService n b).ops = s.ops := rfl
@[simp] theorem State.setInService_phases (n : Nat) (b : Bool) : (s.setInService n b).phases = s.phases := rfl
@[simp] theorem State.setInService_tiles (n : Nat) (b : Bool) : (s.setInService n b).tiles = s.tiles := rfl
@[simp] theorem State.setInService_frame (n : Nat) (b : Bool) : (s.setInService n b).frame = s.frame := rfl
@[simp] theorem State.setInService_rails (n : Nat) (b : Bool) : (s.setInService n b).rails = s.rails := rfl
@[simp] theorem State.setInService_auxs (n : Nat) (b : Bool) : (s.setInService n b).auxs = s.auxs := rfl
@[simp] theorem State.setInService_seq (n : Nat) (b : Bool) : (s.setInService n b).seq = s.seq := rfl
@[simp] theorem State.setInService_bus (n : Nat) (b : Bool) : (s.setInService n b).bus = s.bus := rfl
@[simp] theorem State.setInService_sup (n : Nat) (b : Bool) : (s.setInService n b).sup = s.sup := rfl
@[simp] theorem State.setInService_path (n : Nat) (b : Bool) : (s.setInService n b).path = s.path := rfl
@[simp] theorem State.setInService_chg (n : Nat) (b : Bool) : (s.setInService n b).chg = s.chg := rfl
@[simp] theorem State.setInService_est (n : Nat) (b : Bool) : (s.setInService n b).est = s.est := rfl
@[simp] theorem State.setInService_met (n : Nat) (b : Bool) : (s.setInService n b).met = s.met := rfl
@[simp] theorem State.setInService_therm (n : Nat) (b : Bool) : (s.setInService n b).therm = s.therm := rfl
@[simp] theorem State.setInService_nvm (n : Nat) (b : Bool) : (s.setInService n b).nvm = s.nvm := rfl
@[simp] theorem State.setInService_dma (n : Nat) (b : Bool) : (s.setInService n b).dma = s.dma := rfl
@[simp] theorem State.setInService_mir (n : Nat) (b : Bool) : (s.setInService n b).mir = s.mir := rfl
@[simp] theorem State.setInService_net (n : Nat) (b : Bool) : (s.setInService n b).net = s.net := rfl
@[simp] theorem State.setInService_cfg (n : Nat) (b : Bool) : (s.setInService n b).cfg = s.cfg := rfl
@[simp] theorem State.setInService_ports (n : Nat) (b : Bool) : (s.setInService n b).ports = s.ports := rfl
@[simp] theorem State.setInService_links (n : Nat) (b : Bool) : (s.setInService n b).links = s.links := rfl
@[simp] theorem State.setInService_hab (n : Nat) (b : Bool) : (s.setInService n b).hab = s.hab := rfl
@[simp] theorem State.setInService_oasis (n : Nat) (b : Bool) : (s.setInService n b).oasis = s.oasis := rfl
@[simp] theorem State.setInService_ledger (n : Nat) (b : Bool) : (s.setInService n b).ledger = s.ledger := rfl
@[simp] theorem State.setInService_sec (n : Nat) (b : Bool) : (s.setInService n b).sec = s.sec := rfl
@[simp] theorem State.setInService_otp (n : Nat) (b : Bool) : (s.setInService n b).otp = s.otp := rfl
@[simp] theorem State.setInService_get (n : Nat) (b : Bool) (key : Nat) : (s.setInService n b).get key = s.get key := rfl

/-! ### `setOp` changes `ops` alone -/

@[simp] theorem State.setOp_pending (t : Nat) (e : OpEntry) : (s.setOp t e).pending = s.pending := rfl
@[simp] theorem State.setOp_objs (t : Nat) (e : OpEntry) : (s.setOp t e).objs = s.objs := rfl
@[simp] theorem State.setOp_mram (t : Nat) (e : OpEntry) : (s.setOp t e).mram = s.mram := rfl
@[simp] theorem State.setOp_now (t : Nat) (e : OpEntry) : (s.setOp t e).now = s.now := rfl
@[simp] theorem State.setOp_freeIdx (t : Nat) (e : OpEntry) : (s.setOp t e).freeIdx = s.freeIdx := rfl
@[simp] theorem State.setOp_answer (t : Nat) (e : OpEntry) : (s.setOp t e).answer = s.answer := rfl
@[simp] theorem State.setOp_deferred (t : Nat) (e : OpEntry) : (s.setOp t e).deferred = s.deferred := rfl
@[simp] theorem State.setOp_caps (t : Nat) (e : OpEntry) : (s.setOp t e).caps = s.caps := rfl
@[simp] theorem State.setOp_modes (t : Nat) (e : OpEntry) : (s.setOp t e).modes = s.modes := rfl
@[simp] theorem State.setOp_history (t : Nat) (e : OpEntry) : (s.setOp t e).history = s.history := rfl
@[simp] theorem State.setOp_ints (t : Nat) (e : OpEntry) : (s.setOp t e).ints = s.ints := rfl
@[simp] theorem State.setOp_phases (t : Nat) (e : OpEntry) : (s.setOp t e).phases = s.phases := rfl
@[simp] theorem State.setOp_tiles (t : Nat) (e : OpEntry) : (s.setOp t e).tiles = s.tiles := rfl
@[simp] theorem State.setOp_frame (t : Nat) (e : OpEntry) : (s.setOp t e).frame = s.frame := rfl
@[simp] theorem State.setOp_rails (t : Nat) (e : OpEntry) : (s.setOp t e).rails = s.rails := rfl
@[simp] theorem State.setOp_auxs (t : Nat) (e : OpEntry) : (s.setOp t e).auxs = s.auxs := rfl
@[simp] theorem State.setOp_seq (t : Nat) (e : OpEntry) : (s.setOp t e).seq = s.seq := rfl
@[simp] theorem State.setOp_bus (t : Nat) (e : OpEntry) : (s.setOp t e).bus = s.bus := rfl
@[simp] theorem State.setOp_sup (t : Nat) (e : OpEntry) : (s.setOp t e).sup = s.sup := rfl
@[simp] theorem State.setOp_path (t : Nat) (e : OpEntry) : (s.setOp t e).path = s.path := rfl
@[simp] theorem State.setOp_chg (t : Nat) (e : OpEntry) : (s.setOp t e).chg = s.chg := rfl
@[simp] theorem State.setOp_est (t : Nat) (e : OpEntry) : (s.setOp t e).est = s.est := rfl
@[simp] theorem State.setOp_met (t : Nat) (e : OpEntry) : (s.setOp t e).met = s.met := rfl
@[simp] theorem State.setOp_therm (t : Nat) (e : OpEntry) : (s.setOp t e).therm = s.therm := rfl
@[simp] theorem State.setOp_nvm (t : Nat) (e : OpEntry) : (s.setOp t e).nvm = s.nvm := rfl
@[simp] theorem State.setOp_dma (t : Nat) (e : OpEntry) : (s.setOp t e).dma = s.dma := rfl
@[simp] theorem State.setOp_mir (t : Nat) (e : OpEntry) : (s.setOp t e).mir = s.mir := rfl
@[simp] theorem State.setOp_net (t : Nat) (e : OpEntry) : (s.setOp t e).net = s.net := rfl
@[simp] theorem State.setOp_cfg (t : Nat) (e : OpEntry) : (s.setOp t e).cfg = s.cfg := rfl
@[simp] theorem State.setOp_ports (t : Nat) (e : OpEntry) : (s.setOp t e).ports = s.ports := rfl
@[simp] theorem State.setOp_links (t : Nat) (e : OpEntry) : (s.setOp t e).links = s.links := rfl
@[simp] theorem State.setOp_hab (t : Nat) (e : OpEntry) : (s.setOp t e).hab = s.hab := rfl
@[simp] theorem State.setOp_oasis (t : Nat) (e : OpEntry) : (s.setOp t e).oasis = s.oasis := rfl
@[simp] theorem State.setOp_ledger (t : Nat) (e : OpEntry) : (s.setOp t e).ledger = s.ledger := rfl
@[simp] theorem State.setOp_sec (t : Nat) (e : OpEntry) : (s.setOp t e).sec = s.sec := rfl
@[simp] theorem State.setOp_otp (t : Nat) (e : OpEntry) : (s.setOp t e).otp = s.otp := rfl
@[simp] theorem State.setOp_get (t : Nat) (e : OpEntry) (key : Nat) : (s.setOp t e).get key = s.get key := rfl

/-! ### `setPartner` changes `net` alone -/

@[simp] theorem State.setPartner_pending (i : Fin 64) (p : Option Partner) : (s.setPartner i p).pending = s.pending := rfl
@[simp] theorem State.setPartner_objs (i : Fin 64) (p : Option Partner) : (s.setPartner i p).objs = s.objs := rfl
@[simp] theorem State.setPartner_mram (i : Fin 64) (p : Option Partner) : (s.setPartner i p).mram = s.mram := rfl
@[simp] theorem State.setPartner_now (i : Fin 64) (p : Option Partner) : (s.setPartner i p).now = s.now := rfl
@[simp] theorem State.setPartner_freeIdx (i : Fin 64) (p : Option Partner) : (s.setPartner i p).freeIdx = s.freeIdx := rfl
@[simp] theorem State.setPartner_answer (i : Fin 64) (p : Option Partner) : (s.setPartner i p).answer = s.answer := rfl
@[simp] theorem State.setPartner_deferred (i : Fin 64) (p : Option Partner) : (s.setPartner i p).deferred = s.deferred := rfl
@[simp] theorem State.setPartner_caps (i : Fin 64) (p : Option Partner) : (s.setPartner i p).caps = s.caps := rfl
@[simp] theorem State.setPartner_modes (i : Fin 64) (p : Option Partner) : (s.setPartner i p).modes = s.modes := rfl
@[simp] theorem State.setPartner_history (i : Fin 64) (p : Option Partner) : (s.setPartner i p).history = s.history := rfl
@[simp] theorem State.setPartner_ops (i : Fin 64) (p : Option Partner) : (s.setPartner i p).ops = s.ops := rfl
@[simp] theorem State.setPartner_ints (i : Fin 64) (p : Option Partner) : (s.setPartner i p).ints = s.ints := rfl
@[simp] theorem State.setPartner_phases (i : Fin 64) (p : Option Partner) : (s.setPartner i p).phases = s.phases := rfl
@[simp] theorem State.setPartner_tiles (i : Fin 64) (p : Option Partner) : (s.setPartner i p).tiles = s.tiles := rfl
@[simp] theorem State.setPartner_frame (i : Fin 64) (p : Option Partner) : (s.setPartner i p).frame = s.frame := rfl
@[simp] theorem State.setPartner_rails (i : Fin 64) (p : Option Partner) : (s.setPartner i p).rails = s.rails := rfl
@[simp] theorem State.setPartner_auxs (i : Fin 64) (p : Option Partner) : (s.setPartner i p).auxs = s.auxs := rfl
@[simp] theorem State.setPartner_seq (i : Fin 64) (p : Option Partner) : (s.setPartner i p).seq = s.seq := rfl
@[simp] theorem State.setPartner_bus (i : Fin 64) (p : Option Partner) : (s.setPartner i p).bus = s.bus := rfl
@[simp] theorem State.setPartner_sup (i : Fin 64) (p : Option Partner) : (s.setPartner i p).sup = s.sup := rfl
@[simp] theorem State.setPartner_path (i : Fin 64) (p : Option Partner) : (s.setPartner i p).path = s.path := rfl
@[simp] theorem State.setPartner_chg (i : Fin 64) (p : Option Partner) : (s.setPartner i p).chg = s.chg := rfl
@[simp] theorem State.setPartner_est (i : Fin 64) (p : Option Partner) : (s.setPartner i p).est = s.est := rfl
@[simp] theorem State.setPartner_met (i : Fin 64) (p : Option Partner) : (s.setPartner i p).met = s.met := rfl
@[simp] theorem State.setPartner_therm (i : Fin 64) (p : Option Partner) : (s.setPartner i p).therm = s.therm := rfl
@[simp] theorem State.setPartner_nvm (i : Fin 64) (p : Option Partner) : (s.setPartner i p).nvm = s.nvm := rfl
@[simp] theorem State.setPartner_dma (i : Fin 64) (p : Option Partner) : (s.setPartner i p).dma = s.dma := rfl
@[simp] theorem State.setPartner_mir (i : Fin 64) (p : Option Partner) : (s.setPartner i p).mir = s.mir := rfl
@[simp] theorem State.setPartner_cfg (i : Fin 64) (p : Option Partner) : (s.setPartner i p).cfg = s.cfg := rfl
@[simp] theorem State.setPartner_ports (i : Fin 64) (p : Option Partner) : (s.setPartner i p).ports = s.ports := rfl
@[simp] theorem State.setPartner_links (i : Fin 64) (p : Option Partner) : (s.setPartner i p).links = s.links := rfl
@[simp] theorem State.setPartner_hab (i : Fin 64) (p : Option Partner) : (s.setPartner i p).hab = s.hab := rfl
@[simp] theorem State.setPartner_oasis (i : Fin 64) (p : Option Partner) : (s.setPartner i p).oasis = s.oasis := rfl
@[simp] theorem State.setPartner_ledger (i : Fin 64) (p : Option Partner) : (s.setPartner i p).ledger = s.ledger := rfl
@[simp] theorem State.setPartner_sec (i : Fin 64) (p : Option Partner) : (s.setPartner i p).sec = s.sec := rfl
@[simp] theorem State.setPartner_otp (i : Fin 64) (p : Option Partner) : (s.setPartner i p).otp = s.otp := rfl
@[simp] theorem State.setPartner_get (i : Fin 64) (p : Option Partner) (key : Nat) : (s.setPartner i p).get key = s.get key := rfl

/-! ### `modPhase` changes `phases` alone -/

@[simp] theorem State.modPhase_pending (p : Fin 56) (f : PhaseSt → PhaseSt) : (s.modPhase p f).pending = s.pending := rfl
@[simp] theorem State.modPhase_objs (p : Fin 56) (f : PhaseSt → PhaseSt) : (s.modPhase p f).objs = s.objs := rfl
@[simp] theorem State.modPhase_mram (p : Fin 56) (f : PhaseSt → PhaseSt) : (s.modPhase p f).mram = s.mram := rfl
@[simp] theorem State.modPhase_now (p : Fin 56) (f : PhaseSt → PhaseSt) : (s.modPhase p f).now = s.now := rfl
@[simp] theorem State.modPhase_freeIdx (p : Fin 56) (f : PhaseSt → PhaseSt) : (s.modPhase p f).freeIdx = s.freeIdx := rfl
@[simp] theorem State.modPhase_answer (p : Fin 56) (f : PhaseSt → PhaseSt) : (s.modPhase p f).answer = s.answer := rfl
@[simp] theorem State.modPhase_deferred (p : Fin 56) (f : PhaseSt → PhaseSt) : (s.modPhase p f).deferred = s.deferred := rfl
@[simp] theorem State.modPhase_caps (p : Fin 56) (f : PhaseSt → PhaseSt) : (s.modPhase p f).caps = s.caps := rfl
@[simp] theorem State.modPhase_modes (p : Fin 56) (f : PhaseSt → PhaseSt) : (s.modPhase p f).modes = s.modes := rfl
@[simp] theorem State.modPhase_history (p : Fin 56) (f : PhaseSt → PhaseSt) : (s.modPhase p f).history = s.history := rfl
@[simp] theorem State.modPhase_ops (p : Fin 56) (f : PhaseSt → PhaseSt) : (s.modPhase p f).ops = s.ops := rfl
@[simp] theorem State.modPhase_ints (p : Fin 56) (f : PhaseSt → PhaseSt) : (s.modPhase p f).ints = s.ints := rfl
@[simp] theorem State.modPhase_tiles (p : Fin 56) (f : PhaseSt → PhaseSt) : (s.modPhase p f).tiles = s.tiles := rfl
@[simp] theorem State.modPhase_frame (p : Fin 56) (f : PhaseSt → PhaseSt) : (s.modPhase p f).frame = s.frame := rfl
@[simp] theorem State.modPhase_rails (p : Fin 56) (f : PhaseSt → PhaseSt) : (s.modPhase p f).rails = s.rails := rfl
@[simp] theorem State.modPhase_auxs (p : Fin 56) (f : PhaseSt → PhaseSt) : (s.modPhase p f).auxs = s.auxs := rfl
@[simp] theorem State.modPhase_seq (p : Fin 56) (f : PhaseSt → PhaseSt) : (s.modPhase p f).seq = s.seq := rfl
@[simp] theorem State.modPhase_bus (p : Fin 56) (f : PhaseSt → PhaseSt) : (s.modPhase p f).bus = s.bus := rfl
@[simp] theorem State.modPhase_sup (p : Fin 56) (f : PhaseSt → PhaseSt) : (s.modPhase p f).sup = s.sup := rfl
@[simp] theorem State.modPhase_path (p : Fin 56) (f : PhaseSt → PhaseSt) : (s.modPhase p f).path = s.path := rfl
@[simp] theorem State.modPhase_chg (p : Fin 56) (f : PhaseSt → PhaseSt) : (s.modPhase p f).chg = s.chg := rfl
@[simp] theorem State.modPhase_est (p : Fin 56) (f : PhaseSt → PhaseSt) : (s.modPhase p f).est = s.est := rfl
@[simp] theorem State.modPhase_met (p : Fin 56) (f : PhaseSt → PhaseSt) : (s.modPhase p f).met = s.met := rfl
@[simp] theorem State.modPhase_therm (p : Fin 56) (f : PhaseSt → PhaseSt) : (s.modPhase p f).therm = s.therm := rfl
@[simp] theorem State.modPhase_nvm (p : Fin 56) (f : PhaseSt → PhaseSt) : (s.modPhase p f).nvm = s.nvm := rfl
@[simp] theorem State.modPhase_dma (p : Fin 56) (f : PhaseSt → PhaseSt) : (s.modPhase p f).dma = s.dma := rfl
@[simp] theorem State.modPhase_mir (p : Fin 56) (f : PhaseSt → PhaseSt) : (s.modPhase p f).mir = s.mir := rfl
@[simp] theorem State.modPhase_net (p : Fin 56) (f : PhaseSt → PhaseSt) : (s.modPhase p f).net = s.net := rfl
@[simp] theorem State.modPhase_cfg (p : Fin 56) (f : PhaseSt → PhaseSt) : (s.modPhase p f).cfg = s.cfg := rfl
@[simp] theorem State.modPhase_ports (p : Fin 56) (f : PhaseSt → PhaseSt) : (s.modPhase p f).ports = s.ports := rfl
@[simp] theorem State.modPhase_links (p : Fin 56) (f : PhaseSt → PhaseSt) : (s.modPhase p f).links = s.links := rfl
@[simp] theorem State.modPhase_hab (p : Fin 56) (f : PhaseSt → PhaseSt) : (s.modPhase p f).hab = s.hab := rfl
@[simp] theorem State.modPhase_oasis (p : Fin 56) (f : PhaseSt → PhaseSt) : (s.modPhase p f).oasis = s.oasis := rfl
@[simp] theorem State.modPhase_ledger (p : Fin 56) (f : PhaseSt → PhaseSt) : (s.modPhase p f).ledger = s.ledger := rfl
@[simp] theorem State.modPhase_sec (p : Fin 56) (f : PhaseSt → PhaseSt) : (s.modPhase p f).sec = s.sec := rfl
@[simp] theorem State.modPhase_otp (p : Fin 56) (f : PhaseSt → PhaseSt) : (s.modPhase p f).otp = s.otp := rfl
@[simp] theorem State.modPhase_get (p : Fin 56) (f : PhaseSt → PhaseSt) (key : Nat) : (s.modPhase p f).get key = s.get key := rfl

/-! ### `modRail` changes `rails` alone -/

@[simp] theorem State.modRail_pending (r : Fin 32) (f : RailSt → RailSt) : (s.modRail r f).pending = s.pending := rfl
@[simp] theorem State.modRail_objs (r : Fin 32) (f : RailSt → RailSt) : (s.modRail r f).objs = s.objs := rfl
@[simp] theorem State.modRail_mram (r : Fin 32) (f : RailSt → RailSt) : (s.modRail r f).mram = s.mram := rfl
@[simp] theorem State.modRail_now (r : Fin 32) (f : RailSt → RailSt) : (s.modRail r f).now = s.now := rfl
@[simp] theorem State.modRail_freeIdx (r : Fin 32) (f : RailSt → RailSt) : (s.modRail r f).freeIdx = s.freeIdx := rfl
@[simp] theorem State.modRail_answer (r : Fin 32) (f : RailSt → RailSt) : (s.modRail r f).answer = s.answer := rfl
@[simp] theorem State.modRail_deferred (r : Fin 32) (f : RailSt → RailSt) : (s.modRail r f).deferred = s.deferred := rfl
@[simp] theorem State.modRail_caps (r : Fin 32) (f : RailSt → RailSt) : (s.modRail r f).caps = s.caps := rfl
@[simp] theorem State.modRail_modes (r : Fin 32) (f : RailSt → RailSt) : (s.modRail r f).modes = s.modes := rfl
@[simp] theorem State.modRail_history (r : Fin 32) (f : RailSt → RailSt) : (s.modRail r f).history = s.history := rfl
@[simp] theorem State.modRail_ops (r : Fin 32) (f : RailSt → RailSt) : (s.modRail r f).ops = s.ops := rfl
@[simp] theorem State.modRail_ints (r : Fin 32) (f : RailSt → RailSt) : (s.modRail r f).ints = s.ints := rfl
@[simp] theorem State.modRail_phases (r : Fin 32) (f : RailSt → RailSt) : (s.modRail r f).phases = s.phases := rfl
@[simp] theorem State.modRail_tiles (r : Fin 32) (f : RailSt → RailSt) : (s.modRail r f).tiles = s.tiles := rfl
@[simp] theorem State.modRail_frame (r : Fin 32) (f : RailSt → RailSt) : (s.modRail r f).frame = s.frame := rfl
@[simp] theorem State.modRail_auxs (r : Fin 32) (f : RailSt → RailSt) : (s.modRail r f).auxs = s.auxs := rfl
@[simp] theorem State.modRail_seq (r : Fin 32) (f : RailSt → RailSt) : (s.modRail r f).seq = s.seq := rfl
@[simp] theorem State.modRail_bus (r : Fin 32) (f : RailSt → RailSt) : (s.modRail r f).bus = s.bus := rfl
@[simp] theorem State.modRail_sup (r : Fin 32) (f : RailSt → RailSt) : (s.modRail r f).sup = s.sup := rfl
@[simp] theorem State.modRail_path (r : Fin 32) (f : RailSt → RailSt) : (s.modRail r f).path = s.path := rfl
@[simp] theorem State.modRail_chg (r : Fin 32) (f : RailSt → RailSt) : (s.modRail r f).chg = s.chg := rfl
@[simp] theorem State.modRail_est (r : Fin 32) (f : RailSt → RailSt) : (s.modRail r f).est = s.est := rfl
@[simp] theorem State.modRail_met (r : Fin 32) (f : RailSt → RailSt) : (s.modRail r f).met = s.met := rfl
@[simp] theorem State.modRail_therm (r : Fin 32) (f : RailSt → RailSt) : (s.modRail r f).therm = s.therm := rfl
@[simp] theorem State.modRail_nvm (r : Fin 32) (f : RailSt → RailSt) : (s.modRail r f).nvm = s.nvm := rfl
@[simp] theorem State.modRail_dma (r : Fin 32) (f : RailSt → RailSt) : (s.modRail r f).dma = s.dma := rfl
@[simp] theorem State.modRail_mir (r : Fin 32) (f : RailSt → RailSt) : (s.modRail r f).mir = s.mir := rfl
@[simp] theorem State.modRail_net (r : Fin 32) (f : RailSt → RailSt) : (s.modRail r f).net = s.net := rfl
@[simp] theorem State.modRail_cfg (r : Fin 32) (f : RailSt → RailSt) : (s.modRail r f).cfg = s.cfg := rfl
@[simp] theorem State.modRail_ports (r : Fin 32) (f : RailSt → RailSt) : (s.modRail r f).ports = s.ports := rfl
@[simp] theorem State.modRail_links (r : Fin 32) (f : RailSt → RailSt) : (s.modRail r f).links = s.links := rfl
@[simp] theorem State.modRail_hab (r : Fin 32) (f : RailSt → RailSt) : (s.modRail r f).hab = s.hab := rfl
@[simp] theorem State.modRail_oasis (r : Fin 32) (f : RailSt → RailSt) : (s.modRail r f).oasis = s.oasis := rfl
@[simp] theorem State.modRail_ledger (r : Fin 32) (f : RailSt → RailSt) : (s.modRail r f).ledger = s.ledger := rfl
@[simp] theorem State.modRail_sec (r : Fin 32) (f : RailSt → RailSt) : (s.modRail r f).sec = s.sec := rfl
@[simp] theorem State.modRail_otp (r : Fin 32) (f : RailSt → RailSt) : (s.modRail r f).otp = s.otp := rfl
@[simp] theorem State.modRail_get (r : Fin 32) (f : RailSt → RailSt) (key : Nat) : (s.modRail r f).get key = s.get key := rfl

/-! ### `modTile` changes `tiles` alone -/

@[simp] theorem State.modTile_pending (t : Fin 8) (f : TileSt → TileSt) : (s.modTile t f).pending = s.pending := rfl
@[simp] theorem State.modTile_objs (t : Fin 8) (f : TileSt → TileSt) : (s.modTile t f).objs = s.objs := rfl
@[simp] theorem State.modTile_mram (t : Fin 8) (f : TileSt → TileSt) : (s.modTile t f).mram = s.mram := rfl
@[simp] theorem State.modTile_now (t : Fin 8) (f : TileSt → TileSt) : (s.modTile t f).now = s.now := rfl
@[simp] theorem State.modTile_freeIdx (t : Fin 8) (f : TileSt → TileSt) : (s.modTile t f).freeIdx = s.freeIdx := rfl
@[simp] theorem State.modTile_answer (t : Fin 8) (f : TileSt → TileSt) : (s.modTile t f).answer = s.answer := rfl
@[simp] theorem State.modTile_deferred (t : Fin 8) (f : TileSt → TileSt) : (s.modTile t f).deferred = s.deferred := rfl
@[simp] theorem State.modTile_caps (t : Fin 8) (f : TileSt → TileSt) : (s.modTile t f).caps = s.caps := rfl
@[simp] theorem State.modTile_modes (t : Fin 8) (f : TileSt → TileSt) : (s.modTile t f).modes = s.modes := rfl
@[simp] theorem State.modTile_history (t : Fin 8) (f : TileSt → TileSt) : (s.modTile t f).history = s.history := rfl
@[simp] theorem State.modTile_ops (t : Fin 8) (f : TileSt → TileSt) : (s.modTile t f).ops = s.ops := rfl
@[simp] theorem State.modTile_ints (t : Fin 8) (f : TileSt → TileSt) : (s.modTile t f).ints = s.ints := rfl
@[simp] theorem State.modTile_phases (t : Fin 8) (f : TileSt → TileSt) : (s.modTile t f).phases = s.phases := rfl
@[simp] theorem State.modTile_frame (t : Fin 8) (f : TileSt → TileSt) : (s.modTile t f).frame = s.frame := rfl
@[simp] theorem State.modTile_rails (t : Fin 8) (f : TileSt → TileSt) : (s.modTile t f).rails = s.rails := rfl
@[simp] theorem State.modTile_auxs (t : Fin 8) (f : TileSt → TileSt) : (s.modTile t f).auxs = s.auxs := rfl
@[simp] theorem State.modTile_seq (t : Fin 8) (f : TileSt → TileSt) : (s.modTile t f).seq = s.seq := rfl
@[simp] theorem State.modTile_bus (t : Fin 8) (f : TileSt → TileSt) : (s.modTile t f).bus = s.bus := rfl
@[simp] theorem State.modTile_sup (t : Fin 8) (f : TileSt → TileSt) : (s.modTile t f).sup = s.sup := rfl
@[simp] theorem State.modTile_path (t : Fin 8) (f : TileSt → TileSt) : (s.modTile t f).path = s.path := rfl
@[simp] theorem State.modTile_chg (t : Fin 8) (f : TileSt → TileSt) : (s.modTile t f).chg = s.chg := rfl
@[simp] theorem State.modTile_est (t : Fin 8) (f : TileSt → TileSt) : (s.modTile t f).est = s.est := rfl
@[simp] theorem State.modTile_met (t : Fin 8) (f : TileSt → TileSt) : (s.modTile t f).met = s.met := rfl
@[simp] theorem State.modTile_therm (t : Fin 8) (f : TileSt → TileSt) : (s.modTile t f).therm = s.therm := rfl
@[simp] theorem State.modTile_nvm (t : Fin 8) (f : TileSt → TileSt) : (s.modTile t f).nvm = s.nvm := rfl
@[simp] theorem State.modTile_dma (t : Fin 8) (f : TileSt → TileSt) : (s.modTile t f).dma = s.dma := rfl
@[simp] theorem State.modTile_mir (t : Fin 8) (f : TileSt → TileSt) : (s.modTile t f).mir = s.mir := rfl
@[simp] theorem State.modTile_net (t : Fin 8) (f : TileSt → TileSt) : (s.modTile t f).net = s.net := rfl
@[simp] theorem State.modTile_cfg (t : Fin 8) (f : TileSt → TileSt) : (s.modTile t f).cfg = s.cfg := rfl
@[simp] theorem State.modTile_ports (t : Fin 8) (f : TileSt → TileSt) : (s.modTile t f).ports = s.ports := rfl
@[simp] theorem State.modTile_links (t : Fin 8) (f : TileSt → TileSt) : (s.modTile t f).links = s.links := rfl
@[simp] theorem State.modTile_hab (t : Fin 8) (f : TileSt → TileSt) : (s.modTile t f).hab = s.hab := rfl
@[simp] theorem State.modTile_oasis (t : Fin 8) (f : TileSt → TileSt) : (s.modTile t f).oasis = s.oasis := rfl
@[simp] theorem State.modTile_ledger (t : Fin 8) (f : TileSt → TileSt) : (s.modTile t f).ledger = s.ledger := rfl
@[simp] theorem State.modTile_sec (t : Fin 8) (f : TileSt → TileSt) : (s.modTile t f).sec = s.sec := rfl
@[simp] theorem State.modTile_otp (t : Fin 8) (f : TileSt → TileSt) : (s.modTile t f).otp = s.otp := rfl
@[simp] theorem State.modTile_get (t : Fin 8) (f : TileSt → TileSt) (key : Nat) : (s.modTile t f).get key = s.get key := rfl

/-! ### `modAux` changes `auxs` alone -/

@[simp] theorem State.modAux_pending (k : Fin 4) (f : AuxSt → AuxSt) : (s.modAux k f).pending = s.pending := rfl
@[simp] theorem State.modAux_objs (k : Fin 4) (f : AuxSt → AuxSt) : (s.modAux k f).objs = s.objs := rfl
@[simp] theorem State.modAux_mram (k : Fin 4) (f : AuxSt → AuxSt) : (s.modAux k f).mram = s.mram := rfl
@[simp] theorem State.modAux_now (k : Fin 4) (f : AuxSt → AuxSt) : (s.modAux k f).now = s.now := rfl
@[simp] theorem State.modAux_freeIdx (k : Fin 4) (f : AuxSt → AuxSt) : (s.modAux k f).freeIdx = s.freeIdx := rfl
@[simp] theorem State.modAux_answer (k : Fin 4) (f : AuxSt → AuxSt) : (s.modAux k f).answer = s.answer := rfl
@[simp] theorem State.modAux_deferred (k : Fin 4) (f : AuxSt → AuxSt) : (s.modAux k f).deferred = s.deferred := rfl
@[simp] theorem State.modAux_caps (k : Fin 4) (f : AuxSt → AuxSt) : (s.modAux k f).caps = s.caps := rfl
@[simp] theorem State.modAux_modes (k : Fin 4) (f : AuxSt → AuxSt) : (s.modAux k f).modes = s.modes := rfl
@[simp] theorem State.modAux_history (k : Fin 4) (f : AuxSt → AuxSt) : (s.modAux k f).history = s.history := rfl
@[simp] theorem State.modAux_ops (k : Fin 4) (f : AuxSt → AuxSt) : (s.modAux k f).ops = s.ops := rfl
@[simp] theorem State.modAux_ints (k : Fin 4) (f : AuxSt → AuxSt) : (s.modAux k f).ints = s.ints := rfl
@[simp] theorem State.modAux_phases (k : Fin 4) (f : AuxSt → AuxSt) : (s.modAux k f).phases = s.phases := rfl
@[simp] theorem State.modAux_tiles (k : Fin 4) (f : AuxSt → AuxSt) : (s.modAux k f).tiles = s.tiles := rfl
@[simp] theorem State.modAux_frame (k : Fin 4) (f : AuxSt → AuxSt) : (s.modAux k f).frame = s.frame := rfl
@[simp] theorem State.modAux_rails (k : Fin 4) (f : AuxSt → AuxSt) : (s.modAux k f).rails = s.rails := rfl
@[simp] theorem State.modAux_seq (k : Fin 4) (f : AuxSt → AuxSt) : (s.modAux k f).seq = s.seq := rfl
@[simp] theorem State.modAux_bus (k : Fin 4) (f : AuxSt → AuxSt) : (s.modAux k f).bus = s.bus := rfl
@[simp] theorem State.modAux_sup (k : Fin 4) (f : AuxSt → AuxSt) : (s.modAux k f).sup = s.sup := rfl
@[simp] theorem State.modAux_path (k : Fin 4) (f : AuxSt → AuxSt) : (s.modAux k f).path = s.path := rfl
@[simp] theorem State.modAux_chg (k : Fin 4) (f : AuxSt → AuxSt) : (s.modAux k f).chg = s.chg := rfl
@[simp] theorem State.modAux_est (k : Fin 4) (f : AuxSt → AuxSt) : (s.modAux k f).est = s.est := rfl
@[simp] theorem State.modAux_met (k : Fin 4) (f : AuxSt → AuxSt) : (s.modAux k f).met = s.met := rfl
@[simp] theorem State.modAux_therm (k : Fin 4) (f : AuxSt → AuxSt) : (s.modAux k f).therm = s.therm := rfl
@[simp] theorem State.modAux_nvm (k : Fin 4) (f : AuxSt → AuxSt) : (s.modAux k f).nvm = s.nvm := rfl
@[simp] theorem State.modAux_dma (k : Fin 4) (f : AuxSt → AuxSt) : (s.modAux k f).dma = s.dma := rfl
@[simp] theorem State.modAux_mir (k : Fin 4) (f : AuxSt → AuxSt) : (s.modAux k f).mir = s.mir := rfl
@[simp] theorem State.modAux_net (k : Fin 4) (f : AuxSt → AuxSt) : (s.modAux k f).net = s.net := rfl
@[simp] theorem State.modAux_cfg (k : Fin 4) (f : AuxSt → AuxSt) : (s.modAux k f).cfg = s.cfg := rfl
@[simp] theorem State.modAux_ports (k : Fin 4) (f : AuxSt → AuxSt) : (s.modAux k f).ports = s.ports := rfl
@[simp] theorem State.modAux_links (k : Fin 4) (f : AuxSt → AuxSt) : (s.modAux k f).links = s.links := rfl
@[simp] theorem State.modAux_hab (k : Fin 4) (f : AuxSt → AuxSt) : (s.modAux k f).hab = s.hab := rfl
@[simp] theorem State.modAux_oasis (k : Fin 4) (f : AuxSt → AuxSt) : (s.modAux k f).oasis = s.oasis := rfl
@[simp] theorem State.modAux_ledger (k : Fin 4) (f : AuxSt → AuxSt) : (s.modAux k f).ledger = s.ledger := rfl
@[simp] theorem State.modAux_sec (k : Fin 4) (f : AuxSt → AuxSt) : (s.modAux k f).sec = s.sec := rfl
@[simp] theorem State.modAux_otp (k : Fin 4) (f : AuxSt → AuxSt) : (s.modAux k f).otp = s.otp := rfl
@[simp] theorem State.modAux_get (k : Fin 4) (f : AuxSt → AuxSt) (key : Nat) : (s.modAux k f).get key = s.get key := rfl

/-! ### `modGroup` changes `seq` alone -/

@[simp] theorem State.modGroup_pending (g : Fin 16) (f : GroupSt → GroupSt) : (s.modGroup g f).pending = s.pending := rfl
@[simp] theorem State.modGroup_objs (g : Fin 16) (f : GroupSt → GroupSt) : (s.modGroup g f).objs = s.objs := rfl
@[simp] theorem State.modGroup_mram (g : Fin 16) (f : GroupSt → GroupSt) : (s.modGroup g f).mram = s.mram := rfl
@[simp] theorem State.modGroup_now (g : Fin 16) (f : GroupSt → GroupSt) : (s.modGroup g f).now = s.now := rfl
@[simp] theorem State.modGroup_freeIdx (g : Fin 16) (f : GroupSt → GroupSt) : (s.modGroup g f).freeIdx = s.freeIdx := rfl
@[simp] theorem State.modGroup_answer (g : Fin 16) (f : GroupSt → GroupSt) : (s.modGroup g f).answer = s.answer := rfl
@[simp] theorem State.modGroup_deferred (g : Fin 16) (f : GroupSt → GroupSt) : (s.modGroup g f).deferred = s.deferred := rfl
@[simp] theorem State.modGroup_caps (g : Fin 16) (f : GroupSt → GroupSt) : (s.modGroup g f).caps = s.caps := rfl
@[simp] theorem State.modGroup_modes (g : Fin 16) (f : GroupSt → GroupSt) : (s.modGroup g f).modes = s.modes := rfl
@[simp] theorem State.modGroup_history (g : Fin 16) (f : GroupSt → GroupSt) : (s.modGroup g f).history = s.history := rfl
@[simp] theorem State.modGroup_ops (g : Fin 16) (f : GroupSt → GroupSt) : (s.modGroup g f).ops = s.ops := rfl
@[simp] theorem State.modGroup_ints (g : Fin 16) (f : GroupSt → GroupSt) : (s.modGroup g f).ints = s.ints := rfl
@[simp] theorem State.modGroup_phases (g : Fin 16) (f : GroupSt → GroupSt) : (s.modGroup g f).phases = s.phases := rfl
@[simp] theorem State.modGroup_tiles (g : Fin 16) (f : GroupSt → GroupSt) : (s.modGroup g f).tiles = s.tiles := rfl
@[simp] theorem State.modGroup_frame (g : Fin 16) (f : GroupSt → GroupSt) : (s.modGroup g f).frame = s.frame := rfl
@[simp] theorem State.modGroup_rails (g : Fin 16) (f : GroupSt → GroupSt) : (s.modGroup g f).rails = s.rails := rfl
@[simp] theorem State.modGroup_auxs (g : Fin 16) (f : GroupSt → GroupSt) : (s.modGroup g f).auxs = s.auxs := rfl
@[simp] theorem State.modGroup_bus (g : Fin 16) (f : GroupSt → GroupSt) : (s.modGroup g f).bus = s.bus := rfl
@[simp] theorem State.modGroup_sup (g : Fin 16) (f : GroupSt → GroupSt) : (s.modGroup g f).sup = s.sup := rfl
@[simp] theorem State.modGroup_path (g : Fin 16) (f : GroupSt → GroupSt) : (s.modGroup g f).path = s.path := rfl
@[simp] theorem State.modGroup_chg (g : Fin 16) (f : GroupSt → GroupSt) : (s.modGroup g f).chg = s.chg := rfl
@[simp] theorem State.modGroup_est (g : Fin 16) (f : GroupSt → GroupSt) : (s.modGroup g f).est = s.est := rfl
@[simp] theorem State.modGroup_met (g : Fin 16) (f : GroupSt → GroupSt) : (s.modGroup g f).met = s.met := rfl
@[simp] theorem State.modGroup_therm (g : Fin 16) (f : GroupSt → GroupSt) : (s.modGroup g f).therm = s.therm := rfl
@[simp] theorem State.modGroup_nvm (g : Fin 16) (f : GroupSt → GroupSt) : (s.modGroup g f).nvm = s.nvm := rfl
@[simp] theorem State.modGroup_dma (g : Fin 16) (f : GroupSt → GroupSt) : (s.modGroup g f).dma = s.dma := rfl
@[simp] theorem State.modGroup_mir (g : Fin 16) (f : GroupSt → GroupSt) : (s.modGroup g f).mir = s.mir := rfl
@[simp] theorem State.modGroup_net (g : Fin 16) (f : GroupSt → GroupSt) : (s.modGroup g f).net = s.net := rfl
@[simp] theorem State.modGroup_cfg (g : Fin 16) (f : GroupSt → GroupSt) : (s.modGroup g f).cfg = s.cfg := rfl
@[simp] theorem State.modGroup_ports (g : Fin 16) (f : GroupSt → GroupSt) : (s.modGroup g f).ports = s.ports := rfl
@[simp] theorem State.modGroup_links (g : Fin 16) (f : GroupSt → GroupSt) : (s.modGroup g f).links = s.links := rfl
@[simp] theorem State.modGroup_hab (g : Fin 16) (f : GroupSt → GroupSt) : (s.modGroup g f).hab = s.hab := rfl
@[simp] theorem State.modGroup_oasis (g : Fin 16) (f : GroupSt → GroupSt) : (s.modGroup g f).oasis = s.oasis := rfl
@[simp] theorem State.modGroup_ledger (g : Fin 16) (f : GroupSt → GroupSt) : (s.modGroup g f).ledger = s.ledger := rfl
@[simp] theorem State.modGroup_sec (g : Fin 16) (f : GroupSt → GroupSt) : (s.modGroup g f).sec = s.sec := rfl
@[simp] theorem State.modGroup_otp (g : Fin 16) (f : GroupSt → GroupSt) : (s.modGroup g f).otp = s.otp := rfl
@[simp] theorem State.modGroup_get (g : Fin 16) (f : GroupSt → GroupSt) (key : Nat) : (s.modGroup g f).get key = s.get key := rfl

/-! ### `modPoint` changes `met` alone -/

@[simp] theorem State.modPoint_pending (m : Fin 4) (f : PointSt → PointSt) : (s.modPoint m f).pending = s.pending := rfl
@[simp] theorem State.modPoint_objs (m : Fin 4) (f : PointSt → PointSt) : (s.modPoint m f).objs = s.objs := rfl
@[simp] theorem State.modPoint_mram (m : Fin 4) (f : PointSt → PointSt) : (s.modPoint m f).mram = s.mram := rfl
@[simp] theorem State.modPoint_now (m : Fin 4) (f : PointSt → PointSt) : (s.modPoint m f).now = s.now := rfl
@[simp] theorem State.modPoint_freeIdx (m : Fin 4) (f : PointSt → PointSt) : (s.modPoint m f).freeIdx = s.freeIdx := rfl
@[simp] theorem State.modPoint_answer (m : Fin 4) (f : PointSt → PointSt) : (s.modPoint m f).answer = s.answer := rfl
@[simp] theorem State.modPoint_deferred (m : Fin 4) (f : PointSt → PointSt) : (s.modPoint m f).deferred = s.deferred := rfl
@[simp] theorem State.modPoint_caps (m : Fin 4) (f : PointSt → PointSt) : (s.modPoint m f).caps = s.caps := rfl
@[simp] theorem State.modPoint_modes (m : Fin 4) (f : PointSt → PointSt) : (s.modPoint m f).modes = s.modes := rfl
@[simp] theorem State.modPoint_history (m : Fin 4) (f : PointSt → PointSt) : (s.modPoint m f).history = s.history := rfl
@[simp] theorem State.modPoint_ops (m : Fin 4) (f : PointSt → PointSt) : (s.modPoint m f).ops = s.ops := rfl
@[simp] theorem State.modPoint_ints (m : Fin 4) (f : PointSt → PointSt) : (s.modPoint m f).ints = s.ints := rfl
@[simp] theorem State.modPoint_phases (m : Fin 4) (f : PointSt → PointSt) : (s.modPoint m f).phases = s.phases := rfl
@[simp] theorem State.modPoint_tiles (m : Fin 4) (f : PointSt → PointSt) : (s.modPoint m f).tiles = s.tiles := rfl
@[simp] theorem State.modPoint_frame (m : Fin 4) (f : PointSt → PointSt) : (s.modPoint m f).frame = s.frame := rfl
@[simp] theorem State.modPoint_rails (m : Fin 4) (f : PointSt → PointSt) : (s.modPoint m f).rails = s.rails := rfl
@[simp] theorem State.modPoint_auxs (m : Fin 4) (f : PointSt → PointSt) : (s.modPoint m f).auxs = s.auxs := rfl
@[simp] theorem State.modPoint_seq (m : Fin 4) (f : PointSt → PointSt) : (s.modPoint m f).seq = s.seq := rfl
@[simp] theorem State.modPoint_bus (m : Fin 4) (f : PointSt → PointSt) : (s.modPoint m f).bus = s.bus := rfl
@[simp] theorem State.modPoint_sup (m : Fin 4) (f : PointSt → PointSt) : (s.modPoint m f).sup = s.sup := rfl
@[simp] theorem State.modPoint_path (m : Fin 4) (f : PointSt → PointSt) : (s.modPoint m f).path = s.path := rfl
@[simp] theorem State.modPoint_chg (m : Fin 4) (f : PointSt → PointSt) : (s.modPoint m f).chg = s.chg := rfl
@[simp] theorem State.modPoint_est (m : Fin 4) (f : PointSt → PointSt) : (s.modPoint m f).est = s.est := rfl
@[simp] theorem State.modPoint_therm (m : Fin 4) (f : PointSt → PointSt) : (s.modPoint m f).therm = s.therm := rfl
@[simp] theorem State.modPoint_nvm (m : Fin 4) (f : PointSt → PointSt) : (s.modPoint m f).nvm = s.nvm := rfl
@[simp] theorem State.modPoint_dma (m : Fin 4) (f : PointSt → PointSt) : (s.modPoint m f).dma = s.dma := rfl
@[simp] theorem State.modPoint_mir (m : Fin 4) (f : PointSt → PointSt) : (s.modPoint m f).mir = s.mir := rfl
@[simp] theorem State.modPoint_net (m : Fin 4) (f : PointSt → PointSt) : (s.modPoint m f).net = s.net := rfl
@[simp] theorem State.modPoint_cfg (m : Fin 4) (f : PointSt → PointSt) : (s.modPoint m f).cfg = s.cfg := rfl
@[simp] theorem State.modPoint_ports (m : Fin 4) (f : PointSt → PointSt) : (s.modPoint m f).ports = s.ports := rfl
@[simp] theorem State.modPoint_links (m : Fin 4) (f : PointSt → PointSt) : (s.modPoint m f).links = s.links := rfl
@[simp] theorem State.modPoint_hab (m : Fin 4) (f : PointSt → PointSt) : (s.modPoint m f).hab = s.hab := rfl
@[simp] theorem State.modPoint_oasis (m : Fin 4) (f : PointSt → PointSt) : (s.modPoint m f).oasis = s.oasis := rfl
@[simp] theorem State.modPoint_ledger (m : Fin 4) (f : PointSt → PointSt) : (s.modPoint m f).ledger = s.ledger := rfl
@[simp] theorem State.modPoint_sec (m : Fin 4) (f : PointSt → PointSt) : (s.modPoint m f).sec = s.sec := rfl
@[simp] theorem State.modPoint_otp (m : Fin 4) (f : PointSt → PointSt) : (s.modPoint m f).otp = s.otp := rfl
@[simp] theorem State.modPoint_get (m : Fin 4) (f : PointSt → PointSt) (key : Nat) : (s.modPoint m f).get key = s.get key := rfl

/-! ### `modJnl` changes `met` alone -/

@[simp] theorem State.modJnl_pending (f : JnlSt → JnlSt) : (s.modJnl f).pending = s.pending := rfl
@[simp] theorem State.modJnl_objs (f : JnlSt → JnlSt) : (s.modJnl f).objs = s.objs := rfl
@[simp] theorem State.modJnl_mram (f : JnlSt → JnlSt) : (s.modJnl f).mram = s.mram := rfl
@[simp] theorem State.modJnl_now (f : JnlSt → JnlSt) : (s.modJnl f).now = s.now := rfl
@[simp] theorem State.modJnl_freeIdx (f : JnlSt → JnlSt) : (s.modJnl f).freeIdx = s.freeIdx := rfl
@[simp] theorem State.modJnl_answer (f : JnlSt → JnlSt) : (s.modJnl f).answer = s.answer := rfl
@[simp] theorem State.modJnl_deferred (f : JnlSt → JnlSt) : (s.modJnl f).deferred = s.deferred := rfl
@[simp] theorem State.modJnl_caps (f : JnlSt → JnlSt) : (s.modJnl f).caps = s.caps := rfl
@[simp] theorem State.modJnl_modes (f : JnlSt → JnlSt) : (s.modJnl f).modes = s.modes := rfl
@[simp] theorem State.modJnl_history (f : JnlSt → JnlSt) : (s.modJnl f).history = s.history := rfl
@[simp] theorem State.modJnl_ops (f : JnlSt → JnlSt) : (s.modJnl f).ops = s.ops := rfl
@[simp] theorem State.modJnl_ints (f : JnlSt → JnlSt) : (s.modJnl f).ints = s.ints := rfl
@[simp] theorem State.modJnl_phases (f : JnlSt → JnlSt) : (s.modJnl f).phases = s.phases := rfl
@[simp] theorem State.modJnl_tiles (f : JnlSt → JnlSt) : (s.modJnl f).tiles = s.tiles := rfl
@[simp] theorem State.modJnl_frame (f : JnlSt → JnlSt) : (s.modJnl f).frame = s.frame := rfl
@[simp] theorem State.modJnl_rails (f : JnlSt → JnlSt) : (s.modJnl f).rails = s.rails := rfl
@[simp] theorem State.modJnl_auxs (f : JnlSt → JnlSt) : (s.modJnl f).auxs = s.auxs := rfl
@[simp] theorem State.modJnl_seq (f : JnlSt → JnlSt) : (s.modJnl f).seq = s.seq := rfl
@[simp] theorem State.modJnl_bus (f : JnlSt → JnlSt) : (s.modJnl f).bus = s.bus := rfl
@[simp] theorem State.modJnl_sup (f : JnlSt → JnlSt) : (s.modJnl f).sup = s.sup := rfl
@[simp] theorem State.modJnl_path (f : JnlSt → JnlSt) : (s.modJnl f).path = s.path := rfl
@[simp] theorem State.modJnl_chg (f : JnlSt → JnlSt) : (s.modJnl f).chg = s.chg := rfl
@[simp] theorem State.modJnl_est (f : JnlSt → JnlSt) : (s.modJnl f).est = s.est := rfl
@[simp] theorem State.modJnl_therm (f : JnlSt → JnlSt) : (s.modJnl f).therm = s.therm := rfl
@[simp] theorem State.modJnl_nvm (f : JnlSt → JnlSt) : (s.modJnl f).nvm = s.nvm := rfl
@[simp] theorem State.modJnl_dma (f : JnlSt → JnlSt) : (s.modJnl f).dma = s.dma := rfl
@[simp] theorem State.modJnl_mir (f : JnlSt → JnlSt) : (s.modJnl f).mir = s.mir := rfl
@[simp] theorem State.modJnl_net (f : JnlSt → JnlSt) : (s.modJnl f).net = s.net := rfl
@[simp] theorem State.modJnl_cfg (f : JnlSt → JnlSt) : (s.modJnl f).cfg = s.cfg := rfl
@[simp] theorem State.modJnl_ports (f : JnlSt → JnlSt) : (s.modJnl f).ports = s.ports := rfl
@[simp] theorem State.modJnl_links (f : JnlSt → JnlSt) : (s.modJnl f).links = s.links := rfl
@[simp] theorem State.modJnl_hab (f : JnlSt → JnlSt) : (s.modJnl f).hab = s.hab := rfl
@[simp] theorem State.modJnl_oasis (f : JnlSt → JnlSt) : (s.modJnl f).oasis = s.oasis := rfl
@[simp] theorem State.modJnl_ledger (f : JnlSt → JnlSt) : (s.modJnl f).ledger = s.ledger := rfl
@[simp] theorem State.modJnl_sec (f : JnlSt → JnlSt) : (s.modJnl f).sec = s.sec := rfl
@[simp] theorem State.modJnl_otp (f : JnlSt → JnlSt) : (s.modJnl f).otp = s.otp := rfl
@[simp] theorem State.modJnl_get (f : JnlSt → JnlSt) (key : Nat) : (s.modJnl f).get key = s.get key := rfl

/-! ### `modModes` changes `modes` alone -/

@[simp] theorem State.modModes_pending (f : ModeSt → ModeSt) : (s.modModes f).pending = s.pending := rfl
@[simp] theorem State.modModes_objs (f : ModeSt → ModeSt) : (s.modModes f).objs = s.objs := rfl
@[simp] theorem State.modModes_mram (f : ModeSt → ModeSt) : (s.modModes f).mram = s.mram := rfl
@[simp] theorem State.modModes_now (f : ModeSt → ModeSt) : (s.modModes f).now = s.now := rfl
@[simp] theorem State.modModes_freeIdx (f : ModeSt → ModeSt) : (s.modModes f).freeIdx = s.freeIdx := rfl
@[simp] theorem State.modModes_answer (f : ModeSt → ModeSt) : (s.modModes f).answer = s.answer := rfl
@[simp] theorem State.modModes_deferred (f : ModeSt → ModeSt) : (s.modModes f).deferred = s.deferred := rfl
@[simp] theorem State.modModes_caps (f : ModeSt → ModeSt) : (s.modModes f).caps = s.caps := rfl
@[simp] theorem State.modModes_history (f : ModeSt → ModeSt) : (s.modModes f).history = s.history := rfl
@[simp] theorem State.modModes_ops (f : ModeSt → ModeSt) : (s.modModes f).ops = s.ops := rfl
@[simp] theorem State.modModes_ints (f : ModeSt → ModeSt) : (s.modModes f).ints = s.ints := rfl
@[simp] theorem State.modModes_phases (f : ModeSt → ModeSt) : (s.modModes f).phases = s.phases := rfl
@[simp] theorem State.modModes_tiles (f : ModeSt → ModeSt) : (s.modModes f).tiles = s.tiles := rfl
@[simp] theorem State.modModes_frame (f : ModeSt → ModeSt) : (s.modModes f).frame = s.frame := rfl
@[simp] theorem State.modModes_rails (f : ModeSt → ModeSt) : (s.modModes f).rails = s.rails := rfl
@[simp] theorem State.modModes_auxs (f : ModeSt → ModeSt) : (s.modModes f).auxs = s.auxs := rfl
@[simp] theorem State.modModes_seq (f : ModeSt → ModeSt) : (s.modModes f).seq = s.seq := rfl
@[simp] theorem State.modModes_bus (f : ModeSt → ModeSt) : (s.modModes f).bus = s.bus := rfl
@[simp] theorem State.modModes_sup (f : ModeSt → ModeSt) : (s.modModes f).sup = s.sup := rfl
@[simp] theorem State.modModes_path (f : ModeSt → ModeSt) : (s.modModes f).path = s.path := rfl
@[simp] theorem State.modModes_chg (f : ModeSt → ModeSt) : (s.modModes f).chg = s.chg := rfl
@[simp] theorem State.modModes_est (f : ModeSt → ModeSt) : (s.modModes f).est = s.est := rfl
@[simp] theorem State.modModes_met (f : ModeSt → ModeSt) : (s.modModes f).met = s.met := rfl
@[simp] theorem State.modModes_therm (f : ModeSt → ModeSt) : (s.modModes f).therm = s.therm := rfl
@[simp] theorem State.modModes_nvm (f : ModeSt → ModeSt) : (s.modModes f).nvm = s.nvm := rfl
@[simp] theorem State.modModes_dma (f : ModeSt → ModeSt) : (s.modModes f).dma = s.dma := rfl
@[simp] theorem State.modModes_mir (f : ModeSt → ModeSt) : (s.modModes f).mir = s.mir := rfl
@[simp] theorem State.modModes_net (f : ModeSt → ModeSt) : (s.modModes f).net = s.net := rfl
@[simp] theorem State.modModes_cfg (f : ModeSt → ModeSt) : (s.modModes f).cfg = s.cfg := rfl
@[simp] theorem State.modModes_ports (f : ModeSt → ModeSt) : (s.modModes f).ports = s.ports := rfl
@[simp] theorem State.modModes_links (f : ModeSt → ModeSt) : (s.modModes f).links = s.links := rfl
@[simp] theorem State.modModes_hab (f : ModeSt → ModeSt) : (s.modModes f).hab = s.hab := rfl
@[simp] theorem State.modModes_oasis (f : ModeSt → ModeSt) : (s.modModes f).oasis = s.oasis := rfl
@[simp] theorem State.modModes_ledger (f : ModeSt → ModeSt) : (s.modModes f).ledger = s.ledger := rfl
@[simp] theorem State.modModes_sec (f : ModeSt → ModeSt) : (s.modModes f).sec = s.sec := rfl
@[simp] theorem State.modModes_otp (f : ModeSt → ModeSt) : (s.modModes f).otp = s.otp := rfl
@[simp] theorem State.modModes_get (f : ModeSt → ModeSt) (key : Nat) : (s.modModes f).get key = s.get key := rfl

/-! ### `modPath` changes `path` alone -/

@[simp] theorem State.modPath_pending (f : PathSt → PathSt) : (s.modPath f).pending = s.pending := rfl
@[simp] theorem State.modPath_objs (f : PathSt → PathSt) : (s.modPath f).objs = s.objs := rfl
@[simp] theorem State.modPath_mram (f : PathSt → PathSt) : (s.modPath f).mram = s.mram := rfl
@[simp] theorem State.modPath_now (f : PathSt → PathSt) : (s.modPath f).now = s.now := rfl
@[simp] theorem State.modPath_freeIdx (f : PathSt → PathSt) : (s.modPath f).freeIdx = s.freeIdx := rfl
@[simp] theorem State.modPath_answer (f : PathSt → PathSt) : (s.modPath f).answer = s.answer := rfl
@[simp] theorem State.modPath_deferred (f : PathSt → PathSt) : (s.modPath f).deferred = s.deferred := rfl
@[simp] theorem State.modPath_caps (f : PathSt → PathSt) : (s.modPath f).caps = s.caps := rfl
@[simp] theorem State.modPath_modes (f : PathSt → PathSt) : (s.modPath f).modes = s.modes := rfl
@[simp] theorem State.modPath_history (f : PathSt → PathSt) : (s.modPath f).history = s.history := rfl
@[simp] theorem State.modPath_ops (f : PathSt → PathSt) : (s.modPath f).ops = s.ops := rfl
@[simp] theorem State.modPath_ints (f : PathSt → PathSt) : (s.modPath f).ints = s.ints := rfl
@[simp] theorem State.modPath_phases (f : PathSt → PathSt) : (s.modPath f).phases = s.phases := rfl
@[simp] theorem State.modPath_tiles (f : PathSt → PathSt) : (s.modPath f).tiles = s.tiles := rfl
@[simp] theorem State.modPath_frame (f : PathSt → PathSt) : (s.modPath f).frame = s.frame := rfl
@[simp] theorem State.modPath_rails (f : PathSt → PathSt) : (s.modPath f).rails = s.rails := rfl
@[simp] theorem State.modPath_auxs (f : PathSt → PathSt) : (s.modPath f).auxs = s.auxs := rfl
@[simp] theorem State.modPath_seq (f : PathSt → PathSt) : (s.modPath f).seq = s.seq := rfl
@[simp] theorem State.modPath_bus (f : PathSt → PathSt) : (s.modPath f).bus = s.bus := rfl
@[simp] theorem State.modPath_sup (f : PathSt → PathSt) : (s.modPath f).sup = s.sup := rfl
@[simp] theorem State.modPath_chg (f : PathSt → PathSt) : (s.modPath f).chg = s.chg := rfl
@[simp] theorem State.modPath_est (f : PathSt → PathSt) : (s.modPath f).est = s.est := rfl
@[simp] theorem State.modPath_met (f : PathSt → PathSt) : (s.modPath f).met = s.met := rfl
@[simp] theorem State.modPath_therm (f : PathSt → PathSt) : (s.modPath f).therm = s.therm := rfl
@[simp] theorem State.modPath_nvm (f : PathSt → PathSt) : (s.modPath f).nvm = s.nvm := rfl
@[simp] theorem State.modPath_dma (f : PathSt → PathSt) : (s.modPath f).dma = s.dma := rfl
@[simp] theorem State.modPath_mir (f : PathSt → PathSt) : (s.modPath f).mir = s.mir := rfl
@[simp] theorem State.modPath_net (f : PathSt → PathSt) : (s.modPath f).net = s.net := rfl
@[simp] theorem State.modPath_cfg (f : PathSt → PathSt) : (s.modPath f).cfg = s.cfg := rfl
@[simp] theorem State.modPath_ports (f : PathSt → PathSt) : (s.modPath f).ports = s.ports := rfl
@[simp] theorem State.modPath_links (f : PathSt → PathSt) : (s.modPath f).links = s.links := rfl
@[simp] theorem State.modPath_hab (f : PathSt → PathSt) : (s.modPath f).hab = s.hab := rfl
@[simp] theorem State.modPath_oasis (f : PathSt → PathSt) : (s.modPath f).oasis = s.oasis := rfl
@[simp] theorem State.modPath_ledger (f : PathSt → PathSt) : (s.modPath f).ledger = s.ledger := rfl
@[simp] theorem State.modPath_sec (f : PathSt → PathSt) : (s.modPath f).sec = s.sec := rfl
@[simp] theorem State.modPath_otp (f : PathSt → PathSt) : (s.modPath f).otp = s.otp := rfl
@[simp] theorem State.modPath_get (f : PathSt → PathSt) (key : Nat) : (s.modPath f).get key = s.get key := rfl

/-! ### `modChg` changes `chg` alone -/

@[simp] theorem State.modChg_pending (f : ChargerSt → ChargerSt) : (s.modChg f).pending = s.pending := rfl
@[simp] theorem State.modChg_objs (f : ChargerSt → ChargerSt) : (s.modChg f).objs = s.objs := rfl
@[simp] theorem State.modChg_mram (f : ChargerSt → ChargerSt) : (s.modChg f).mram = s.mram := rfl
@[simp] theorem State.modChg_now (f : ChargerSt → ChargerSt) : (s.modChg f).now = s.now := rfl
@[simp] theorem State.modChg_freeIdx (f : ChargerSt → ChargerSt) : (s.modChg f).freeIdx = s.freeIdx := rfl
@[simp] theorem State.modChg_answer (f : ChargerSt → ChargerSt) : (s.modChg f).answer = s.answer := rfl
@[simp] theorem State.modChg_deferred (f : ChargerSt → ChargerSt) : (s.modChg f).deferred = s.deferred := rfl
@[simp] theorem State.modChg_caps (f : ChargerSt → ChargerSt) : (s.modChg f).caps = s.caps := rfl
@[simp] theorem State.modChg_modes (f : ChargerSt → ChargerSt) : (s.modChg f).modes = s.modes := rfl
@[simp] theorem State.modChg_history (f : ChargerSt → ChargerSt) : (s.modChg f).history = s.history := rfl
@[simp] theorem State.modChg_ops (f : ChargerSt → ChargerSt) : (s.modChg f).ops = s.ops := rfl
@[simp] theorem State.modChg_ints (f : ChargerSt → ChargerSt) : (s.modChg f).ints = s.ints := rfl
@[simp] theorem State.modChg_phases (f : ChargerSt → ChargerSt) : (s.modChg f).phases = s.phases := rfl
@[simp] theorem State.modChg_tiles (f : ChargerSt → ChargerSt) : (s.modChg f).tiles = s.tiles := rfl
@[simp] theorem State.modChg_frame (f : ChargerSt → ChargerSt) : (s.modChg f).frame = s.frame := rfl
@[simp] theorem State.modChg_rails (f : ChargerSt → ChargerSt) : (s.modChg f).rails = s.rails := rfl
@[simp] theorem State.modChg_auxs (f : ChargerSt → ChargerSt) : (s.modChg f).auxs = s.auxs := rfl
@[simp] theorem State.modChg_seq (f : ChargerSt → ChargerSt) : (s.modChg f).seq = s.seq := rfl
@[simp] theorem State.modChg_bus (f : ChargerSt → ChargerSt) : (s.modChg f).bus = s.bus := rfl
@[simp] theorem State.modChg_sup (f : ChargerSt → ChargerSt) : (s.modChg f).sup = s.sup := rfl
@[simp] theorem State.modChg_path (f : ChargerSt → ChargerSt) : (s.modChg f).path = s.path := rfl
@[simp] theorem State.modChg_est (f : ChargerSt → ChargerSt) : (s.modChg f).est = s.est := rfl
@[simp] theorem State.modChg_met (f : ChargerSt → ChargerSt) : (s.modChg f).met = s.met := rfl
@[simp] theorem State.modChg_therm (f : ChargerSt → ChargerSt) : (s.modChg f).therm = s.therm := rfl
@[simp] theorem State.modChg_nvm (f : ChargerSt → ChargerSt) : (s.modChg f).nvm = s.nvm := rfl
@[simp] theorem State.modChg_dma (f : ChargerSt → ChargerSt) : (s.modChg f).dma = s.dma := rfl
@[simp] theorem State.modChg_mir (f : ChargerSt → ChargerSt) : (s.modChg f).mir = s.mir := rfl
@[simp] theorem State.modChg_net (f : ChargerSt → ChargerSt) : (s.modChg f).net = s.net := rfl
@[simp] theorem State.modChg_cfg (f : ChargerSt → ChargerSt) : (s.modChg f).cfg = s.cfg := rfl
@[simp] theorem State.modChg_ports (f : ChargerSt → ChargerSt) : (s.modChg f).ports = s.ports := rfl
@[simp] theorem State.modChg_links (f : ChargerSt → ChargerSt) : (s.modChg f).links = s.links := rfl
@[simp] theorem State.modChg_hab (f : ChargerSt → ChargerSt) : (s.modChg f).hab = s.hab := rfl
@[simp] theorem State.modChg_oasis (f : ChargerSt → ChargerSt) : (s.modChg f).oasis = s.oasis := rfl
@[simp] theorem State.modChg_ledger (f : ChargerSt → ChargerSt) : (s.modChg f).ledger = s.ledger := rfl
@[simp] theorem State.modChg_sec (f : ChargerSt → ChargerSt) : (s.modChg f).sec = s.sec := rfl
@[simp] theorem State.modChg_otp (f : ChargerSt → ChargerSt) : (s.modChg f).otp = s.otp := rfl
@[simp] theorem State.modChg_get (f : ChargerSt → ChargerSt) (key : Nat) : (s.modChg f).get key = s.get key := rfl

/-! ### `modSup` changes `sup` alone -/

@[simp] theorem State.modSup_pending (f : SupSt → SupSt) : (s.modSup f).pending = s.pending := rfl
@[simp] theorem State.modSup_objs (f : SupSt → SupSt) : (s.modSup f).objs = s.objs := rfl
@[simp] theorem State.modSup_mram (f : SupSt → SupSt) : (s.modSup f).mram = s.mram := rfl
@[simp] theorem State.modSup_now (f : SupSt → SupSt) : (s.modSup f).now = s.now := rfl
@[simp] theorem State.modSup_freeIdx (f : SupSt → SupSt) : (s.modSup f).freeIdx = s.freeIdx := rfl
@[simp] theorem State.modSup_answer (f : SupSt → SupSt) : (s.modSup f).answer = s.answer := rfl
@[simp] theorem State.modSup_deferred (f : SupSt → SupSt) : (s.modSup f).deferred = s.deferred := rfl
@[simp] theorem State.modSup_caps (f : SupSt → SupSt) : (s.modSup f).caps = s.caps := rfl
@[simp] theorem State.modSup_modes (f : SupSt → SupSt) : (s.modSup f).modes = s.modes := rfl
@[simp] theorem State.modSup_history (f : SupSt → SupSt) : (s.modSup f).history = s.history := rfl
@[simp] theorem State.modSup_ops (f : SupSt → SupSt) : (s.modSup f).ops = s.ops := rfl
@[simp] theorem State.modSup_ints (f : SupSt → SupSt) : (s.modSup f).ints = s.ints := rfl
@[simp] theorem State.modSup_phases (f : SupSt → SupSt) : (s.modSup f).phases = s.phases := rfl
@[simp] theorem State.modSup_tiles (f : SupSt → SupSt) : (s.modSup f).tiles = s.tiles := rfl
@[simp] theorem State.modSup_frame (f : SupSt → SupSt) : (s.modSup f).frame = s.frame := rfl
@[simp] theorem State.modSup_rails (f : SupSt → SupSt) : (s.modSup f).rails = s.rails := rfl
@[simp] theorem State.modSup_auxs (f : SupSt → SupSt) : (s.modSup f).auxs = s.auxs := rfl
@[simp] theorem State.modSup_seq (f : SupSt → SupSt) : (s.modSup f).seq = s.seq := rfl
@[simp] theorem State.modSup_bus (f : SupSt → SupSt) : (s.modSup f).bus = s.bus := rfl
@[simp] theorem State.modSup_path (f : SupSt → SupSt) : (s.modSup f).path = s.path := rfl
@[simp] theorem State.modSup_chg (f : SupSt → SupSt) : (s.modSup f).chg = s.chg := rfl
@[simp] theorem State.modSup_est (f : SupSt → SupSt) : (s.modSup f).est = s.est := rfl
@[simp] theorem State.modSup_met (f : SupSt → SupSt) : (s.modSup f).met = s.met := rfl
@[simp] theorem State.modSup_therm (f : SupSt → SupSt) : (s.modSup f).therm = s.therm := rfl
@[simp] theorem State.modSup_nvm (f : SupSt → SupSt) : (s.modSup f).nvm = s.nvm := rfl
@[simp] theorem State.modSup_dma (f : SupSt → SupSt) : (s.modSup f).dma = s.dma := rfl
@[simp] theorem State.modSup_mir (f : SupSt → SupSt) : (s.modSup f).mir = s.mir := rfl
@[simp] theorem State.modSup_net (f : SupSt → SupSt) : (s.modSup f).net = s.net := rfl
@[simp] theorem State.modSup_cfg (f : SupSt → SupSt) : (s.modSup f).cfg = s.cfg := rfl
@[simp] theorem State.modSup_ports (f : SupSt → SupSt) : (s.modSup f).ports = s.ports := rfl
@[simp] theorem State.modSup_links (f : SupSt → SupSt) : (s.modSup f).links = s.links := rfl
@[simp] theorem State.modSup_hab (f : SupSt → SupSt) : (s.modSup f).hab = s.hab := rfl
@[simp] theorem State.modSup_oasis (f : SupSt → SupSt) : (s.modSup f).oasis = s.oasis := rfl
@[simp] theorem State.modSup_ledger (f : SupSt → SupSt) : (s.modSup f).ledger = s.ledger := rfl
@[simp] theorem State.modSup_sec (f : SupSt → SupSt) : (s.modSup f).sec = s.sec := rfl
@[simp] theorem State.modSup_otp (f : SupSt → SupSt) : (s.modSup f).otp = s.otp := rfl
@[simp] theorem State.modSup_get (f : SupSt → SupSt) (key : Nat) : (s.modSup f).get key = s.get key := rfl

/-! ### `modOasis` changes `oasis` alone -/

@[simp] theorem State.modOasis_pending (f : OasisSt → OasisSt) : (s.modOasis f).pending = s.pending := rfl
@[simp] theorem State.modOasis_objs (f : OasisSt → OasisSt) : (s.modOasis f).objs = s.objs := rfl
@[simp] theorem State.modOasis_mram (f : OasisSt → OasisSt) : (s.modOasis f).mram = s.mram := rfl
@[simp] theorem State.modOasis_now (f : OasisSt → OasisSt) : (s.modOasis f).now = s.now := rfl
@[simp] theorem State.modOasis_freeIdx (f : OasisSt → OasisSt) : (s.modOasis f).freeIdx = s.freeIdx := rfl
@[simp] theorem State.modOasis_answer (f : OasisSt → OasisSt) : (s.modOasis f).answer = s.answer := rfl
@[simp] theorem State.modOasis_deferred (f : OasisSt → OasisSt) : (s.modOasis f).deferred = s.deferred := rfl
@[simp] theorem State.modOasis_caps (f : OasisSt → OasisSt) : (s.modOasis f).caps = s.caps := rfl
@[simp] theorem State.modOasis_modes (f : OasisSt → OasisSt) : (s.modOasis f).modes = s.modes := rfl
@[simp] theorem State.modOasis_history (f : OasisSt → OasisSt) : (s.modOasis f).history = s.history := rfl
@[simp] theorem State.modOasis_ops (f : OasisSt → OasisSt) : (s.modOasis f).ops = s.ops := rfl
@[simp] theorem State.modOasis_ints (f : OasisSt → OasisSt) : (s.modOasis f).ints = s.ints := rfl
@[simp] theorem State.modOasis_phases (f : OasisSt → OasisSt) : (s.modOasis f).phases = s.phases := rfl
@[simp] theorem State.modOasis_tiles (f : OasisSt → OasisSt) : (s.modOasis f).tiles = s.tiles := rfl
@[simp] theorem State.modOasis_frame (f : OasisSt → OasisSt) : (s.modOasis f).frame = s.frame := rfl
@[simp] theorem State.modOasis_rails (f : OasisSt → OasisSt) : (s.modOasis f).rails = s.rails := rfl
@[simp] theorem State.modOasis_auxs (f : OasisSt → OasisSt) : (s.modOasis f).auxs = s.auxs := rfl
@[simp] theorem State.modOasis_seq (f : OasisSt → OasisSt) : (s.modOasis f).seq = s.seq := rfl
@[simp] theorem State.modOasis_bus (f : OasisSt → OasisSt) : (s.modOasis f).bus = s.bus := rfl
@[simp] theorem State.modOasis_sup (f : OasisSt → OasisSt) : (s.modOasis f).sup = s.sup := rfl
@[simp] theorem State.modOasis_path (f : OasisSt → OasisSt) : (s.modOasis f).path = s.path := rfl
@[simp] theorem State.modOasis_chg (f : OasisSt → OasisSt) : (s.modOasis f).chg = s.chg := rfl
@[simp] theorem State.modOasis_est (f : OasisSt → OasisSt) : (s.modOasis f).est = s.est := rfl
@[simp] theorem State.modOasis_met (f : OasisSt → OasisSt) : (s.modOasis f).met = s.met := rfl
@[simp] theorem State.modOasis_therm (f : OasisSt → OasisSt) : (s.modOasis f).therm = s.therm := rfl
@[simp] theorem State.modOasis_nvm (f : OasisSt → OasisSt) : (s.modOasis f).nvm = s.nvm := rfl
@[simp] theorem State.modOasis_dma (f : OasisSt → OasisSt) : (s.modOasis f).dma = s.dma := rfl
@[simp] theorem State.modOasis_mir (f : OasisSt → OasisSt) : (s.modOasis f).mir = s.mir := rfl
@[simp] theorem State.modOasis_net (f : OasisSt → OasisSt) : (s.modOasis f).net = s.net := rfl
@[simp] theorem State.modOasis_cfg (f : OasisSt → OasisSt) : (s.modOasis f).cfg = s.cfg := rfl
@[simp] theorem State.modOasis_ports (f : OasisSt → OasisSt) : (s.modOasis f).ports = s.ports := rfl
@[simp] theorem State.modOasis_links (f : OasisSt → OasisSt) : (s.modOasis f).links = s.links := rfl
@[simp] theorem State.modOasis_hab (f : OasisSt → OasisSt) : (s.modOasis f).hab = s.hab := rfl
@[simp] theorem State.modOasis_ledger (f : OasisSt → OasisSt) : (s.modOasis f).ledger = s.ledger := rfl
@[simp] theorem State.modOasis_sec (f : OasisSt → OasisSt) : (s.modOasis f).sec = s.sec := rfl
@[simp] theorem State.modOasis_otp (f : OasisSt → OasisSt) : (s.modOasis f).otp = s.otp := rfl
@[simp] theorem State.modOasis_get (f : OasisSt → OasisSt) (key : Nat) : (s.modOasis f).get key = s.get key := rfl

/-! ### `modEst` changes `est` alone -/

@[simp] theorem State.modEst_pending (f : EstSt → EstSt) : (s.modEst f).pending = s.pending := rfl
@[simp] theorem State.modEst_objs (f : EstSt → EstSt) : (s.modEst f).objs = s.objs := rfl
@[simp] theorem State.modEst_mram (f : EstSt → EstSt) : (s.modEst f).mram = s.mram := rfl
@[simp] theorem State.modEst_now (f : EstSt → EstSt) : (s.modEst f).now = s.now := rfl
@[simp] theorem State.modEst_freeIdx (f : EstSt → EstSt) : (s.modEst f).freeIdx = s.freeIdx := rfl
@[simp] theorem State.modEst_answer (f : EstSt → EstSt) : (s.modEst f).answer = s.answer := rfl
@[simp] theorem State.modEst_deferred (f : EstSt → EstSt) : (s.modEst f).deferred = s.deferred := rfl
@[simp] theorem State.modEst_caps (f : EstSt → EstSt) : (s.modEst f).caps = s.caps := rfl
@[simp] theorem State.modEst_modes (f : EstSt → EstSt) : (s.modEst f).modes = s.modes := rfl
@[simp] theorem State.modEst_history (f : EstSt → EstSt) : (s.modEst f).history = s.history := rfl
@[simp] theorem State.modEst_ops (f : EstSt → EstSt) : (s.modEst f).ops = s.ops := rfl
@[simp] theorem State.modEst_ints (f : EstSt → EstSt) : (s.modEst f).ints = s.ints := rfl
@[simp] theorem State.modEst_phases (f : EstSt → EstSt) : (s.modEst f).phases = s.phases := rfl
@[simp] theorem State.modEst_tiles (f : EstSt → EstSt) : (s.modEst f).tiles = s.tiles := rfl
@[simp] theorem State.modEst_frame (f : EstSt → EstSt) : (s.modEst f).frame = s.frame := rfl
@[simp] theorem State.modEst_rails (f : EstSt → EstSt) : (s.modEst f).rails = s.rails := rfl
@[simp] theorem State.modEst_auxs (f : EstSt → EstSt) : (s.modEst f).auxs = s.auxs := rfl
@[simp] theorem State.modEst_seq (f : EstSt → EstSt) : (s.modEst f).seq = s.seq := rfl
@[simp] theorem State.modEst_bus (f : EstSt → EstSt) : (s.modEst f).bus = s.bus := rfl
@[simp] theorem State.modEst_sup (f : EstSt → EstSt) : (s.modEst f).sup = s.sup := rfl
@[simp] theorem State.modEst_path (f : EstSt → EstSt) : (s.modEst f).path = s.path := rfl
@[simp] theorem State.modEst_chg (f : EstSt → EstSt) : (s.modEst f).chg = s.chg := rfl
@[simp] theorem State.modEst_met (f : EstSt → EstSt) : (s.modEst f).met = s.met := rfl
@[simp] theorem State.modEst_therm (f : EstSt → EstSt) : (s.modEst f).therm = s.therm := rfl
@[simp] theorem State.modEst_nvm (f : EstSt → EstSt) : (s.modEst f).nvm = s.nvm := rfl
@[simp] theorem State.modEst_dma (f : EstSt → EstSt) : (s.modEst f).dma = s.dma := rfl
@[simp] theorem State.modEst_mir (f : EstSt → EstSt) : (s.modEst f).mir = s.mir := rfl
@[simp] theorem State.modEst_net (f : EstSt → EstSt) : (s.modEst f).net = s.net := rfl
@[simp] theorem State.modEst_cfg (f : EstSt → EstSt) : (s.modEst f).cfg = s.cfg := rfl
@[simp] theorem State.modEst_ports (f : EstSt → EstSt) : (s.modEst f).ports = s.ports := rfl
@[simp] theorem State.modEst_links (f : EstSt → EstSt) : (s.modEst f).links = s.links := rfl
@[simp] theorem State.modEst_hab (f : EstSt → EstSt) : (s.modEst f).hab = s.hab := rfl
@[simp] theorem State.modEst_oasis (f : EstSt → EstSt) : (s.modEst f).oasis = s.oasis := rfl
@[simp] theorem State.modEst_ledger (f : EstSt → EstSt) : (s.modEst f).ledger = s.ledger := rfl
@[simp] theorem State.modEst_sec (f : EstSt → EstSt) : (s.modEst f).sec = s.sec := rfl
@[simp] theorem State.modEst_otp (f : EstSt → EstSt) : (s.modEst f).otp = s.otp := rfl
@[simp] theorem State.modEst_get (f : EstSt → EstSt) (key : Nat) : (s.modEst f).get key = s.get key := rfl

/-! ### `modLedger` changes `ledger` alone -/

@[simp] theorem State.modLedger_pending (f : LedgerSt → LedgerSt) : (s.modLedger f).pending = s.pending := rfl
@[simp] theorem State.modLedger_objs (f : LedgerSt → LedgerSt) : (s.modLedger f).objs = s.objs := rfl
@[simp] theorem State.modLedger_mram (f : LedgerSt → LedgerSt) : (s.modLedger f).mram = s.mram := rfl
@[simp] theorem State.modLedger_now (f : LedgerSt → LedgerSt) : (s.modLedger f).now = s.now := rfl
@[simp] theorem State.modLedger_freeIdx (f : LedgerSt → LedgerSt) : (s.modLedger f).freeIdx = s.freeIdx := rfl
@[simp] theorem State.modLedger_answer (f : LedgerSt → LedgerSt) : (s.modLedger f).answer = s.answer := rfl
@[simp] theorem State.modLedger_deferred (f : LedgerSt → LedgerSt) : (s.modLedger f).deferred = s.deferred := rfl
@[simp] theorem State.modLedger_caps (f : LedgerSt → LedgerSt) : (s.modLedger f).caps = s.caps := rfl
@[simp] theorem State.modLedger_modes (f : LedgerSt → LedgerSt) : (s.modLedger f).modes = s.modes := rfl
@[simp] theorem State.modLedger_history (f : LedgerSt → LedgerSt) : (s.modLedger f).history = s.history := rfl
@[simp] theorem State.modLedger_ops (f : LedgerSt → LedgerSt) : (s.modLedger f).ops = s.ops := rfl
@[simp] theorem State.modLedger_ints (f : LedgerSt → LedgerSt) : (s.modLedger f).ints = s.ints := rfl
@[simp] theorem State.modLedger_phases (f : LedgerSt → LedgerSt) : (s.modLedger f).phases = s.phases := rfl
@[simp] theorem State.modLedger_tiles (f : LedgerSt → LedgerSt) : (s.modLedger f).tiles = s.tiles := rfl
@[simp] theorem State.modLedger_frame (f : LedgerSt → LedgerSt) : (s.modLedger f).frame = s.frame := rfl
@[simp] theorem State.modLedger_rails (f : LedgerSt → LedgerSt) : (s.modLedger f).rails = s.rails := rfl
@[simp] theorem State.modLedger_auxs (f : LedgerSt → LedgerSt) : (s.modLedger f).auxs = s.auxs := rfl
@[simp] theorem State.modLedger_seq (f : LedgerSt → LedgerSt) : (s.modLedger f).seq = s.seq := rfl
@[simp] theorem State.modLedger_bus (f : LedgerSt → LedgerSt) : (s.modLedger f).bus = s.bus := rfl
@[simp] theorem State.modLedger_sup (f : LedgerSt → LedgerSt) : (s.modLedger f).sup = s.sup := rfl
@[simp] theorem State.modLedger_path (f : LedgerSt → LedgerSt) : (s.modLedger f).path = s.path := rfl
@[simp] theorem State.modLedger_chg (f : LedgerSt → LedgerSt) : (s.modLedger f).chg = s.chg := rfl
@[simp] theorem State.modLedger_est (f : LedgerSt → LedgerSt) : (s.modLedger f).est = s.est := rfl
@[simp] theorem State.modLedger_met (f : LedgerSt → LedgerSt) : (s.modLedger f).met = s.met := rfl
@[simp] theorem State.modLedger_therm (f : LedgerSt → LedgerSt) : (s.modLedger f).therm = s.therm := rfl
@[simp] theorem State.modLedger_nvm (f : LedgerSt → LedgerSt) : (s.modLedger f).nvm = s.nvm := rfl
@[simp] theorem State.modLedger_dma (f : LedgerSt → LedgerSt) : (s.modLedger f).dma = s.dma := rfl
@[simp] theorem State.modLedger_mir (f : LedgerSt → LedgerSt) : (s.modLedger f).mir = s.mir := rfl
@[simp] theorem State.modLedger_net (f : LedgerSt → LedgerSt) : (s.modLedger f).net = s.net := rfl
@[simp] theorem State.modLedger_cfg (f : LedgerSt → LedgerSt) : (s.modLedger f).cfg = s.cfg := rfl
@[simp] theorem State.modLedger_ports (f : LedgerSt → LedgerSt) : (s.modLedger f).ports = s.ports := rfl
@[simp] theorem State.modLedger_links (f : LedgerSt → LedgerSt) : (s.modLedger f).links = s.links := rfl
@[simp] theorem State.modLedger_hab (f : LedgerSt → LedgerSt) : (s.modLedger f).hab = s.hab := rfl
@[simp] theorem State.modLedger_oasis (f : LedgerSt → LedgerSt) : (s.modLedger f).oasis = s.oasis := rfl
@[simp] theorem State.modLedger_sec (f : LedgerSt → LedgerSt) : (s.modLedger f).sec = s.sec := rfl
@[simp] theorem State.modLedger_otp (f : LedgerSt → LedgerSt) : (s.modLedger f).otp = s.otp := rfl
@[simp] theorem State.modLedger_get (f : LedgerSt → LedgerSt) (key : Nat) : (s.modLedger f).get key = s.get key := rfl

/-! ### `modMir` changes `mir` alone -/

@[simp] theorem State.modMir_pending (f : MirSt → MirSt) : (s.modMir f).pending = s.pending := rfl
@[simp] theorem State.modMir_objs (f : MirSt → MirSt) : (s.modMir f).objs = s.objs := rfl
@[simp] theorem State.modMir_mram (f : MirSt → MirSt) : (s.modMir f).mram = s.mram := rfl
@[simp] theorem State.modMir_now (f : MirSt → MirSt) : (s.modMir f).now = s.now := rfl
@[simp] theorem State.modMir_freeIdx (f : MirSt → MirSt) : (s.modMir f).freeIdx = s.freeIdx := rfl
@[simp] theorem State.modMir_answer (f : MirSt → MirSt) : (s.modMir f).answer = s.answer := rfl
@[simp] theorem State.modMir_deferred (f : MirSt → MirSt) : (s.modMir f).deferred = s.deferred := rfl
@[simp] theorem State.modMir_caps (f : MirSt → MirSt) : (s.modMir f).caps = s.caps := rfl
@[simp] theorem State.modMir_modes (f : MirSt → MirSt) : (s.modMir f).modes = s.modes := rfl
@[simp] theorem State.modMir_history (f : MirSt → MirSt) : (s.modMir f).history = s.history := rfl
@[simp] theorem State.modMir_ops (f : MirSt → MirSt) : (s.modMir f).ops = s.ops := rfl
@[simp] theorem State.modMir_ints (f : MirSt → MirSt) : (s.modMir f).ints = s.ints := rfl
@[simp] theorem State.modMir_phases (f : MirSt → MirSt) : (s.modMir f).phases = s.phases := rfl
@[simp] theorem State.modMir_tiles (f : MirSt → MirSt) : (s.modMir f).tiles = s.tiles := rfl
@[simp] theorem State.modMir_frame (f : MirSt → MirSt) : (s.modMir f).frame = s.frame := rfl
@[simp] theorem State.modMir_rails (f : MirSt → MirSt) : (s.modMir f).rails = s.rails := rfl
@[simp] theorem State.modMir_auxs (f : MirSt → MirSt) : (s.modMir f).auxs = s.auxs := rfl
@[simp] theorem State.modMir_seq (f : MirSt → MirSt) : (s.modMir f).seq = s.seq := rfl
@[simp] theorem State.modMir_bus (f : MirSt → MirSt) : (s.modMir f).bus = s.bus := rfl
@[simp] theorem State.modMir_sup (f : MirSt → MirSt) : (s.modMir f).sup = s.sup := rfl
@[simp] theorem State.modMir_path (f : MirSt → MirSt) : (s.modMir f).path = s.path := rfl
@[simp] theorem State.modMir_chg (f : MirSt → MirSt) : (s.modMir f).chg = s.chg := rfl
@[simp] theorem State.modMir_est (f : MirSt → MirSt) : (s.modMir f).est = s.est := rfl
@[simp] theorem State.modMir_met (f : MirSt → MirSt) : (s.modMir f).met = s.met := rfl
@[simp] theorem State.modMir_therm (f : MirSt → MirSt) : (s.modMir f).therm = s.therm := rfl
@[simp] theorem State.modMir_nvm (f : MirSt → MirSt) : (s.modMir f).nvm = s.nvm := rfl
@[simp] theorem State.modMir_dma (f : MirSt → MirSt) : (s.modMir f).dma = s.dma := rfl
@[simp] theorem State.modMir_net (f : MirSt → MirSt) : (s.modMir f).net = s.net := rfl
@[simp] theorem State.modMir_cfg (f : MirSt → MirSt) : (s.modMir f).cfg = s.cfg := rfl
@[simp] theorem State.modMir_ports (f : MirSt → MirSt) : (s.modMir f).ports = s.ports := rfl
@[simp] theorem State.modMir_links (f : MirSt → MirSt) : (s.modMir f).links = s.links := rfl
@[simp] theorem State.modMir_hab (f : MirSt → MirSt) : (s.modMir f).hab = s.hab := rfl
@[simp] theorem State.modMir_oasis (f : MirSt → MirSt) : (s.modMir f).oasis = s.oasis := rfl
@[simp] theorem State.modMir_ledger (f : MirSt → MirSt) : (s.modMir f).ledger = s.ledger := rfl
@[simp] theorem State.modMir_sec (f : MirSt → MirSt) : (s.modMir f).sec = s.sec := rfl
@[simp] theorem State.modMir_otp (f : MirSt → MirSt) : (s.modMir f).otp = s.otp := rfl
@[simp] theorem State.modMir_get (f : MirSt → MirSt) (key : Nat) : (s.modMir f).get key = s.get key := rfl

/-! ### `modNvm` changes `nvm` alone -/

@[simp] theorem State.modNvm_pending (f : MramSt → MramSt) : (s.modNvm f).pending = s.pending := rfl
@[simp] theorem State.modNvm_objs (f : MramSt → MramSt) : (s.modNvm f).objs = s.objs := rfl
@[simp] theorem State.modNvm_mram (f : MramSt → MramSt) : (s.modNvm f).mram = s.mram := rfl
@[simp] theorem State.modNvm_now (f : MramSt → MramSt) : (s.modNvm f).now = s.now := rfl
@[simp] theorem State.modNvm_freeIdx (f : MramSt → MramSt) : (s.modNvm f).freeIdx = s.freeIdx := rfl
@[simp] theorem State.modNvm_answer (f : MramSt → MramSt) : (s.modNvm f).answer = s.answer := rfl
@[simp] theorem State.modNvm_deferred (f : MramSt → MramSt) : (s.modNvm f).deferred = s.deferred := rfl
@[simp] theorem State.modNvm_caps (f : MramSt → MramSt) : (s.modNvm f).caps = s.caps := rfl
@[simp] theorem State.modNvm_modes (f : MramSt → MramSt) : (s.modNvm f).modes = s.modes := rfl
@[simp] theorem State.modNvm_history (f : MramSt → MramSt) : (s.modNvm f).history = s.history := rfl
@[simp] theorem State.modNvm_ops (f : MramSt → MramSt) : (s.modNvm f).ops = s.ops := rfl
@[simp] theorem State.modNvm_ints (f : MramSt → MramSt) : (s.modNvm f).ints = s.ints := rfl
@[simp] theorem State.modNvm_phases (f : MramSt → MramSt) : (s.modNvm f).phases = s.phases := rfl
@[simp] theorem State.modNvm_tiles (f : MramSt → MramSt) : (s.modNvm f).tiles = s.tiles := rfl
@[simp] theorem State.modNvm_frame (f : MramSt → MramSt) : (s.modNvm f).frame = s.frame := rfl
@[simp] theorem State.modNvm_rails (f : MramSt → MramSt) : (s.modNvm f).rails = s.rails := rfl
@[simp] theorem State.modNvm_auxs (f : MramSt → MramSt) : (s.modNvm f).auxs = s.auxs := rfl
@[simp] theorem State.modNvm_seq (f : MramSt → MramSt) : (s.modNvm f).seq = s.seq := rfl
@[simp] theorem State.modNvm_bus (f : MramSt → MramSt) : (s.modNvm f).bus = s.bus := rfl
@[simp] theorem State.modNvm_sup (f : MramSt → MramSt) : (s.modNvm f).sup = s.sup := rfl
@[simp] theorem State.modNvm_path (f : MramSt → MramSt) : (s.modNvm f).path = s.path := rfl
@[simp] theorem State.modNvm_chg (f : MramSt → MramSt) : (s.modNvm f).chg = s.chg := rfl
@[simp] theorem State.modNvm_est (f : MramSt → MramSt) : (s.modNvm f).est = s.est := rfl
@[simp] theorem State.modNvm_met (f : MramSt → MramSt) : (s.modNvm f).met = s.met := rfl
@[simp] theorem State.modNvm_therm (f : MramSt → MramSt) : (s.modNvm f).therm = s.therm := rfl
@[simp] theorem State.modNvm_dma (f : MramSt → MramSt) : (s.modNvm f).dma = s.dma := rfl
@[simp] theorem State.modNvm_mir (f : MramSt → MramSt) : (s.modNvm f).mir = s.mir := rfl
@[simp] theorem State.modNvm_net (f : MramSt → MramSt) : (s.modNvm f).net = s.net := rfl
@[simp] theorem State.modNvm_cfg (f : MramSt → MramSt) : (s.modNvm f).cfg = s.cfg := rfl
@[simp] theorem State.modNvm_ports (f : MramSt → MramSt) : (s.modNvm f).ports = s.ports := rfl
@[simp] theorem State.modNvm_links (f : MramSt → MramSt) : (s.modNvm f).links = s.links := rfl
@[simp] theorem State.modNvm_hab (f : MramSt → MramSt) : (s.modNvm f).hab = s.hab := rfl
@[simp] theorem State.modNvm_oasis (f : MramSt → MramSt) : (s.modNvm f).oasis = s.oasis := rfl
@[simp] theorem State.modNvm_ledger (f : MramSt → MramSt) : (s.modNvm f).ledger = s.ledger := rfl
@[simp] theorem State.modNvm_sec (f : MramSt → MramSt) : (s.modNvm f).sec = s.sec := rfl
@[simp] theorem State.modNvm_otp (f : MramSt → MramSt) : (s.modNvm f).otp = s.otp := rfl
@[simp] theorem State.modNvm_get (f : MramSt → MramSt) (key : Nat) : (s.modNvm f).get key = s.get key := rfl

/-! ### `modOtp` changes `otp` alone -/

@[simp] theorem State.modOtp_pending (f : OtpSt → OtpSt) : (s.modOtp f).pending = s.pending := rfl
@[simp] theorem State.modOtp_objs (f : OtpSt → OtpSt) : (s.modOtp f).objs = s.objs := rfl
@[simp] theorem State.modOtp_mram (f : OtpSt → OtpSt) : (s.modOtp f).mram = s.mram := rfl
@[simp] theorem State.modOtp_now (f : OtpSt → OtpSt) : (s.modOtp f).now = s.now := rfl
@[simp] theorem State.modOtp_freeIdx (f : OtpSt → OtpSt) : (s.modOtp f).freeIdx = s.freeIdx := rfl
@[simp] theorem State.modOtp_answer (f : OtpSt → OtpSt) : (s.modOtp f).answer = s.answer := rfl
@[simp] theorem State.modOtp_deferred (f : OtpSt → OtpSt) : (s.modOtp f).deferred = s.deferred := rfl
@[simp] theorem State.modOtp_caps (f : OtpSt → OtpSt) : (s.modOtp f).caps = s.caps := rfl
@[simp] theorem State.modOtp_modes (f : OtpSt → OtpSt) : (s.modOtp f).modes = s.modes := rfl
@[simp] theorem State.modOtp_history (f : OtpSt → OtpSt) : (s.modOtp f).history = s.history := rfl
@[simp] theorem State.modOtp_ops (f : OtpSt → OtpSt) : (s.modOtp f).ops = s.ops := rfl
@[simp] theorem State.modOtp_ints (f : OtpSt → OtpSt) : (s.modOtp f).ints = s.ints := rfl
@[simp] theorem State.modOtp_phases (f : OtpSt → OtpSt) : (s.modOtp f).phases = s.phases := rfl
@[simp] theorem State.modOtp_tiles (f : OtpSt → OtpSt) : (s.modOtp f).tiles = s.tiles := rfl
@[simp] theorem State.modOtp_frame (f : OtpSt → OtpSt) : (s.modOtp f).frame = s.frame := rfl
@[simp] theorem State.modOtp_rails (f : OtpSt → OtpSt) : (s.modOtp f).rails = s.rails := rfl
@[simp] theorem State.modOtp_auxs (f : OtpSt → OtpSt) : (s.modOtp f).auxs = s.auxs := rfl
@[simp] theorem State.modOtp_seq (f : OtpSt → OtpSt) : (s.modOtp f).seq = s.seq := rfl
@[simp] theorem State.modOtp_bus (f : OtpSt → OtpSt) : (s.modOtp f).bus = s.bus := rfl
@[simp] theorem State.modOtp_sup (f : OtpSt → OtpSt) : (s.modOtp f).sup = s.sup := rfl
@[simp] theorem State.modOtp_path (f : OtpSt → OtpSt) : (s.modOtp f).path = s.path := rfl
@[simp] theorem State.modOtp_chg (f : OtpSt → OtpSt) : (s.modOtp f).chg = s.chg := rfl
@[simp] theorem State.modOtp_est (f : OtpSt → OtpSt) : (s.modOtp f).est = s.est := rfl
@[simp] theorem State.modOtp_met (f : OtpSt → OtpSt) : (s.modOtp f).met = s.met := rfl
@[simp] theorem State.modOtp_therm (f : OtpSt → OtpSt) : (s.modOtp f).therm = s.therm := rfl
@[simp] theorem State.modOtp_nvm (f : OtpSt → OtpSt) : (s.modOtp f).nvm = s.nvm := rfl
@[simp] theorem State.modOtp_dma (f : OtpSt → OtpSt) : (s.modOtp f).dma = s.dma := rfl
@[simp] theorem State.modOtp_mir (f : OtpSt → OtpSt) : (s.modOtp f).mir = s.mir := rfl
@[simp] theorem State.modOtp_net (f : OtpSt → OtpSt) : (s.modOtp f).net = s.net := rfl
@[simp] theorem State.modOtp_cfg (f : OtpSt → OtpSt) : (s.modOtp f).cfg = s.cfg := rfl
@[simp] theorem State.modOtp_ports (f : OtpSt → OtpSt) : (s.modOtp f).ports = s.ports := rfl
@[simp] theorem State.modOtp_links (f : OtpSt → OtpSt) : (s.modOtp f).links = s.links := rfl
@[simp] theorem State.modOtp_hab (f : OtpSt → OtpSt) : (s.modOtp f).hab = s.hab := rfl
@[simp] theorem State.modOtp_oasis (f : OtpSt → OtpSt) : (s.modOtp f).oasis = s.oasis := rfl
@[simp] theorem State.modOtp_ledger (f : OtpSt → OtpSt) : (s.modOtp f).ledger = s.ledger := rfl
@[simp] theorem State.modOtp_sec (f : OtpSt → OtpSt) : (s.modOtp f).sec = s.sec := rfl
@[simp] theorem State.modOtp_get (f : OtpSt → OtpSt) (key : Nat) : (s.modOtp f).get key = s.get key := rfl

/-! ### `modSec` changes `sec` alone -/

@[simp] theorem State.modSec_pending (f : SecSt → SecSt) : (s.modSec f).pending = s.pending := rfl
@[simp] theorem State.modSec_objs (f : SecSt → SecSt) : (s.modSec f).objs = s.objs := rfl
@[simp] theorem State.modSec_mram (f : SecSt → SecSt) : (s.modSec f).mram = s.mram := rfl
@[simp] theorem State.modSec_now (f : SecSt → SecSt) : (s.modSec f).now = s.now := rfl
@[simp] theorem State.modSec_freeIdx (f : SecSt → SecSt) : (s.modSec f).freeIdx = s.freeIdx := rfl
@[simp] theorem State.modSec_answer (f : SecSt → SecSt) : (s.modSec f).answer = s.answer := rfl
@[simp] theorem State.modSec_deferred (f : SecSt → SecSt) : (s.modSec f).deferred = s.deferred := rfl
@[simp] theorem State.modSec_caps (f : SecSt → SecSt) : (s.modSec f).caps = s.caps := rfl
@[simp] theorem State.modSec_modes (f : SecSt → SecSt) : (s.modSec f).modes = s.modes := rfl
@[simp] theorem State.modSec_history (f : SecSt → SecSt) : (s.modSec f).history = s.history := rfl
@[simp] theorem State.modSec_ops (f : SecSt → SecSt) : (s.modSec f).ops = s.ops := rfl
@[simp] theorem State.modSec_ints (f : SecSt → SecSt) : (s.modSec f).ints = s.ints := rfl
@[simp] theorem State.modSec_phases (f : SecSt → SecSt) : (s.modSec f).phases = s.phases := rfl
@[simp] theorem State.modSec_tiles (f : SecSt → SecSt) : (s.modSec f).tiles = s.tiles := rfl
@[simp] theorem State.modSec_frame (f : SecSt → SecSt) : (s.modSec f).frame = s.frame := rfl
@[simp] theorem State.modSec_rails (f : SecSt → SecSt) : (s.modSec f).rails = s.rails := rfl
@[simp] theorem State.modSec_auxs (f : SecSt → SecSt) : (s.modSec f).auxs = s.auxs := rfl
@[simp] theorem State.modSec_seq (f : SecSt → SecSt) : (s.modSec f).seq = s.seq := rfl
@[simp] theorem State.modSec_bus (f : SecSt → SecSt) : (s.modSec f).bus = s.bus := rfl
@[simp] theorem State.modSec_sup (f : SecSt → SecSt) : (s.modSec f).sup = s.sup := rfl
@[simp] theorem State.modSec_path (f : SecSt → SecSt) : (s.modSec f).path = s.path := rfl
@[simp] theorem State.modSec_chg (f : SecSt → SecSt) : (s.modSec f).chg = s.chg := rfl
@[simp] theorem State.modSec_est (f : SecSt → SecSt) : (s.modSec f).est = s.est := rfl
@[simp] theorem State.modSec_met (f : SecSt → SecSt) : (s.modSec f).met = s.met := rfl
@[simp] theorem State.modSec_therm (f : SecSt → SecSt) : (s.modSec f).therm = s.therm := rfl
@[simp] theorem State.modSec_nvm (f : SecSt → SecSt) : (s.modSec f).nvm = s.nvm := rfl
@[simp] theorem State.modSec_dma (f : SecSt → SecSt) : (s.modSec f).dma = s.dma := rfl
@[simp] theorem State.modSec_mir (f : SecSt → SecSt) : (s.modSec f).mir = s.mir := rfl
@[simp] theorem State.modSec_net (f : SecSt → SecSt) : (s.modSec f).net = s.net := rfl
@[simp] theorem State.modSec_cfg (f : SecSt → SecSt) : (s.modSec f).cfg = s.cfg := rfl
@[simp] theorem State.modSec_ports (f : SecSt → SecSt) : (s.modSec f).ports = s.ports := rfl
@[simp] theorem State.modSec_links (f : SecSt → SecSt) : (s.modSec f).links = s.links := rfl
@[simp] theorem State.modSec_hab (f : SecSt → SecSt) : (s.modSec f).hab = s.hab := rfl
@[simp] theorem State.modSec_oasis (f : SecSt → SecSt) : (s.modSec f).oasis = s.oasis := rfl
@[simp] theorem State.modSec_ledger (f : SecSt → SecSt) : (s.modSec f).ledger = s.ledger := rfl
@[simp] theorem State.modSec_otp (f : SecSt → SecSt) : (s.modSec f).otp = s.otp := rfl
@[simp] theorem State.modSec_get (f : SecSt → SecSt) (key : Nat) : (s.modSec f).get key = s.get key := rfl

/-! ### `modNet` changes `net` alone -/

@[simp] theorem State.modNet_pending (f : NetSt → NetSt) : (s.modNet f).pending = s.pending := rfl
@[simp] theorem State.modNet_objs (f : NetSt → NetSt) : (s.modNet f).objs = s.objs := rfl
@[simp] theorem State.modNet_mram (f : NetSt → NetSt) : (s.modNet f).mram = s.mram := rfl
@[simp] theorem State.modNet_now (f : NetSt → NetSt) : (s.modNet f).now = s.now := rfl
@[simp] theorem State.modNet_freeIdx (f : NetSt → NetSt) : (s.modNet f).freeIdx = s.freeIdx := rfl
@[simp] theorem State.modNet_answer (f : NetSt → NetSt) : (s.modNet f).answer = s.answer := rfl
@[simp] theorem State.modNet_deferred (f : NetSt → NetSt) : (s.modNet f).deferred = s.deferred := rfl
@[simp] theorem State.modNet_caps (f : NetSt → NetSt) : (s.modNet f).caps = s.caps := rfl
@[simp] theorem State.modNet_modes (f : NetSt → NetSt) : (s.modNet f).modes = s.modes := rfl
@[simp] theorem State.modNet_history (f : NetSt → NetSt) : (s.modNet f).history = s.history := rfl
@[simp] theorem State.modNet_ops (f : NetSt → NetSt) : (s.modNet f).ops = s.ops := rfl
@[simp] theorem State.modNet_ints (f : NetSt → NetSt) : (s.modNet f).ints = s.ints := rfl
@[simp] theorem State.modNet_phases (f : NetSt → NetSt) : (s.modNet f).phases = s.phases := rfl
@[simp] theorem State.modNet_tiles (f : NetSt → NetSt) : (s.modNet f).tiles = s.tiles := rfl
@[simp] theorem State.modNet_frame (f : NetSt → NetSt) : (s.modNet f).frame = s.frame := rfl
@[simp] theorem State.modNet_rails (f : NetSt → NetSt) : (s.modNet f).rails = s.rails := rfl
@[simp] theorem State.modNet_auxs (f : NetSt → NetSt) : (s.modNet f).auxs = s.auxs := rfl
@[simp] theorem State.modNet_seq (f : NetSt → NetSt) : (s.modNet f).seq = s.seq := rfl
@[simp] theorem State.modNet_bus (f : NetSt → NetSt) : (s.modNet f).bus = s.bus := rfl
@[simp] theorem State.modNet_sup (f : NetSt → NetSt) : (s.modNet f).sup = s.sup := rfl
@[simp] theorem State.modNet_path (f : NetSt → NetSt) : (s.modNet f).path = s.path := rfl
@[simp] theorem State.modNet_chg (f : NetSt → NetSt) : (s.modNet f).chg = s.chg := rfl
@[simp] theorem State.modNet_est (f : NetSt → NetSt) : (s.modNet f).est = s.est := rfl
@[simp] theorem State.modNet_met (f : NetSt → NetSt) : (s.modNet f).met = s.met := rfl
@[simp] theorem State.modNet_therm (f : NetSt → NetSt) : (s.modNet f).therm = s.therm := rfl
@[simp] theorem State.modNet_nvm (f : NetSt → NetSt) : (s.modNet f).nvm = s.nvm := rfl
@[simp] theorem State.modNet_dma (f : NetSt → NetSt) : (s.modNet f).dma = s.dma := rfl
@[simp] theorem State.modNet_mir (f : NetSt → NetSt) : (s.modNet f).mir = s.mir := rfl
@[simp] theorem State.modNet_cfg (f : NetSt → NetSt) : (s.modNet f).cfg = s.cfg := rfl
@[simp] theorem State.modNet_ports (f : NetSt → NetSt) : (s.modNet f).ports = s.ports := rfl
@[simp] theorem State.modNet_links (f : NetSt → NetSt) : (s.modNet f).links = s.links := rfl
@[simp] theorem State.modNet_hab (f : NetSt → NetSt) : (s.modNet f).hab = s.hab := rfl
@[simp] theorem State.modNet_oasis (f : NetSt → NetSt) : (s.modNet f).oasis = s.oasis := rfl
@[simp] theorem State.modNet_ledger (f : NetSt → NetSt) : (s.modNet f).ledger = s.ledger := rfl
@[simp] theorem State.modNet_sec (f : NetSt → NetSt) : (s.modNet f).sec = s.sec := rfl
@[simp] theorem State.modNet_otp (f : NetSt → NetSt) : (s.modNet f).otp = s.otp := rfl
@[simp] theorem State.modNet_get (f : NetSt → NetSt) (key : Nat) : (s.modNet f).get key = s.get key := rfl

/-! ### `modChannel` changes `dma` alone -/

@[simp] theorem State.modChannel_pending (c : Fin 8) (f : ChannelSt → ChannelSt) : (s.modChannel c f).pending = s.pending := rfl
@[simp] theorem State.modChannel_objs (c : Fin 8) (f : ChannelSt → ChannelSt) : (s.modChannel c f).objs = s.objs := rfl
@[simp] theorem State.modChannel_mram (c : Fin 8) (f : ChannelSt → ChannelSt) : (s.modChannel c f).mram = s.mram := rfl
@[simp] theorem State.modChannel_now (c : Fin 8) (f : ChannelSt → ChannelSt) : (s.modChannel c f).now = s.now := rfl
@[simp] theorem State.modChannel_freeIdx (c : Fin 8) (f : ChannelSt → ChannelSt) : (s.modChannel c f).freeIdx = s.freeIdx := rfl
@[simp] theorem State.modChannel_answer (c : Fin 8) (f : ChannelSt → ChannelSt) : (s.modChannel c f).answer = s.answer := rfl
@[simp] theorem State.modChannel_deferred (c : Fin 8) (f : ChannelSt → ChannelSt) : (s.modChannel c f).deferred = s.deferred := rfl
@[simp] theorem State.modChannel_caps (c : Fin 8) (f : ChannelSt → ChannelSt) : (s.modChannel c f).caps = s.caps := rfl
@[simp] theorem State.modChannel_modes (c : Fin 8) (f : ChannelSt → ChannelSt) : (s.modChannel c f).modes = s.modes := rfl
@[simp] theorem State.modChannel_history (c : Fin 8) (f : ChannelSt → ChannelSt) : (s.modChannel c f).history = s.history := rfl
@[simp] theorem State.modChannel_ops (c : Fin 8) (f : ChannelSt → ChannelSt) : (s.modChannel c f).ops = s.ops := rfl
@[simp] theorem State.modChannel_ints (c : Fin 8) (f : ChannelSt → ChannelSt) : (s.modChannel c f).ints = s.ints := rfl
@[simp] theorem State.modChannel_phases (c : Fin 8) (f : ChannelSt → ChannelSt) : (s.modChannel c f).phases = s.phases := rfl
@[simp] theorem State.modChannel_tiles (c : Fin 8) (f : ChannelSt → ChannelSt) : (s.modChannel c f).tiles = s.tiles := rfl
@[simp] theorem State.modChannel_frame (c : Fin 8) (f : ChannelSt → ChannelSt) : (s.modChannel c f).frame = s.frame := rfl
@[simp] theorem State.modChannel_rails (c : Fin 8) (f : ChannelSt → ChannelSt) : (s.modChannel c f).rails = s.rails := rfl
@[simp] theorem State.modChannel_auxs (c : Fin 8) (f : ChannelSt → ChannelSt) : (s.modChannel c f).auxs = s.auxs := rfl
@[simp] theorem State.modChannel_seq (c : Fin 8) (f : ChannelSt → ChannelSt) : (s.modChannel c f).seq = s.seq := rfl
@[simp] theorem State.modChannel_bus (c : Fin 8) (f : ChannelSt → ChannelSt) : (s.modChannel c f).bus = s.bus := rfl
@[simp] theorem State.modChannel_sup (c : Fin 8) (f : ChannelSt → ChannelSt) : (s.modChannel c f).sup = s.sup := rfl
@[simp] theorem State.modChannel_path (c : Fin 8) (f : ChannelSt → ChannelSt) : (s.modChannel c f).path = s.path := rfl
@[simp] theorem State.modChannel_chg (c : Fin 8) (f : ChannelSt → ChannelSt) : (s.modChannel c f).chg = s.chg := rfl
@[simp] theorem State.modChannel_est (c : Fin 8) (f : ChannelSt → ChannelSt) : (s.modChannel c f).est = s.est := rfl
@[simp] theorem State.modChannel_met (c : Fin 8) (f : ChannelSt → ChannelSt) : (s.modChannel c f).met = s.met := rfl
@[simp] theorem State.modChannel_therm (c : Fin 8) (f : ChannelSt → ChannelSt) : (s.modChannel c f).therm = s.therm := rfl
@[simp] theorem State.modChannel_nvm (c : Fin 8) (f : ChannelSt → ChannelSt) : (s.modChannel c f).nvm = s.nvm := rfl
@[simp] theorem State.modChannel_mir (c : Fin 8) (f : ChannelSt → ChannelSt) : (s.modChannel c f).mir = s.mir := rfl
@[simp] theorem State.modChannel_net (c : Fin 8) (f : ChannelSt → ChannelSt) : (s.modChannel c f).net = s.net := rfl
@[simp] theorem State.modChannel_cfg (c : Fin 8) (f : ChannelSt → ChannelSt) : (s.modChannel c f).cfg = s.cfg := rfl
@[simp] theorem State.modChannel_ports (c : Fin 8) (f : ChannelSt → ChannelSt) : (s.modChannel c f).ports = s.ports := rfl
@[simp] theorem State.modChannel_links (c : Fin 8) (f : ChannelSt → ChannelSt) : (s.modChannel c f).links = s.links := rfl
@[simp] theorem State.modChannel_hab (c : Fin 8) (f : ChannelSt → ChannelSt) : (s.modChannel c f).hab = s.hab := rfl
@[simp] theorem State.modChannel_oasis (c : Fin 8) (f : ChannelSt → ChannelSt) : (s.modChannel c f).oasis = s.oasis := rfl
@[simp] theorem State.modChannel_ledger (c : Fin 8) (f : ChannelSt → ChannelSt) : (s.modChannel c f).ledger = s.ledger := rfl
@[simp] theorem State.modChannel_sec (c : Fin 8) (f : ChannelSt → ChannelSt) : (s.modChannel c f).sec = s.sec := rfl
@[simp] theorem State.modChannel_otp (c : Fin 8) (f : ChannelSt → ChannelSt) : (s.modChannel c f).otp = s.otp := rfl
@[simp] theorem State.modChannel_get (c : Fin 8) (f : ChannelSt → ChannelSt) (key : Nat) : (s.modChannel c f).get key = s.get key := rfl

/-! ### `modLink` changes `links` alone -/

@[simp] theorem State.modLink_pending (t : Fin 8) (f : LinkSt → LinkSt) : (s.modLink t f).pending = s.pending := rfl
@[simp] theorem State.modLink_objs (t : Fin 8) (f : LinkSt → LinkSt) : (s.modLink t f).objs = s.objs := rfl
@[simp] theorem State.modLink_mram (t : Fin 8) (f : LinkSt → LinkSt) : (s.modLink t f).mram = s.mram := rfl
@[simp] theorem State.modLink_now (t : Fin 8) (f : LinkSt → LinkSt) : (s.modLink t f).now = s.now := rfl
@[simp] theorem State.modLink_freeIdx (t : Fin 8) (f : LinkSt → LinkSt) : (s.modLink t f).freeIdx = s.freeIdx := rfl
@[simp] theorem State.modLink_answer (t : Fin 8) (f : LinkSt → LinkSt) : (s.modLink t f).answer = s.answer := rfl
@[simp] theorem State.modLink_deferred (t : Fin 8) (f : LinkSt → LinkSt) : (s.modLink t f).deferred = s.deferred := rfl
@[simp] theorem State.modLink_caps (t : Fin 8) (f : LinkSt → LinkSt) : (s.modLink t f).caps = s.caps := rfl
@[simp] theorem State.modLink_modes (t : Fin 8) (f : LinkSt → LinkSt) : (s.modLink t f).modes = s.modes := rfl
@[simp] theorem State.modLink_history (t : Fin 8) (f : LinkSt → LinkSt) : (s.modLink t f).history = s.history := rfl
@[simp] theorem State.modLink_ops (t : Fin 8) (f : LinkSt → LinkSt) : (s.modLink t f).ops = s.ops := rfl
@[simp] theorem State.modLink_ints (t : Fin 8) (f : LinkSt → LinkSt) : (s.modLink t f).ints = s.ints := rfl
@[simp] theorem State.modLink_phases (t : Fin 8) (f : LinkSt → LinkSt) : (s.modLink t f).phases = s.phases := rfl
@[simp] theorem State.modLink_tiles (t : Fin 8) (f : LinkSt → LinkSt) : (s.modLink t f).tiles = s.tiles := rfl
@[simp] theorem State.modLink_frame (t : Fin 8) (f : LinkSt → LinkSt) : (s.modLink t f).frame = s.frame := rfl
@[simp] theorem State.modLink_rails (t : Fin 8) (f : LinkSt → LinkSt) : (s.modLink t f).rails = s.rails := rfl
@[simp] theorem State.modLink_auxs (t : Fin 8) (f : LinkSt → LinkSt) : (s.modLink t f).auxs = s.auxs := rfl
@[simp] theorem State.modLink_seq (t : Fin 8) (f : LinkSt → LinkSt) : (s.modLink t f).seq = s.seq := rfl
@[simp] theorem State.modLink_bus (t : Fin 8) (f : LinkSt → LinkSt) : (s.modLink t f).bus = s.bus := rfl
@[simp] theorem State.modLink_sup (t : Fin 8) (f : LinkSt → LinkSt) : (s.modLink t f).sup = s.sup := rfl
@[simp] theorem State.modLink_path (t : Fin 8) (f : LinkSt → LinkSt) : (s.modLink t f).path = s.path := rfl
@[simp] theorem State.modLink_chg (t : Fin 8) (f : LinkSt → LinkSt) : (s.modLink t f).chg = s.chg := rfl
@[simp] theorem State.modLink_est (t : Fin 8) (f : LinkSt → LinkSt) : (s.modLink t f).est = s.est := rfl
@[simp] theorem State.modLink_met (t : Fin 8) (f : LinkSt → LinkSt) : (s.modLink t f).met = s.met := rfl
@[simp] theorem State.modLink_therm (t : Fin 8) (f : LinkSt → LinkSt) : (s.modLink t f).therm = s.therm := rfl
@[simp] theorem State.modLink_nvm (t : Fin 8) (f : LinkSt → LinkSt) : (s.modLink t f).nvm = s.nvm := rfl
@[simp] theorem State.modLink_dma (t : Fin 8) (f : LinkSt → LinkSt) : (s.modLink t f).dma = s.dma := rfl
@[simp] theorem State.modLink_mir (t : Fin 8) (f : LinkSt → LinkSt) : (s.modLink t f).mir = s.mir := rfl
@[simp] theorem State.modLink_net (t : Fin 8) (f : LinkSt → LinkSt) : (s.modLink t f).net = s.net := rfl
@[simp] theorem State.modLink_cfg (t : Fin 8) (f : LinkSt → LinkSt) : (s.modLink t f).cfg = s.cfg := rfl
@[simp] theorem State.modLink_ports (t : Fin 8) (f : LinkSt → LinkSt) : (s.modLink t f).ports = s.ports := rfl
@[simp] theorem State.modLink_hab (t : Fin 8) (f : LinkSt → LinkSt) : (s.modLink t f).hab = s.hab := rfl
@[simp] theorem State.modLink_oasis (t : Fin 8) (f : LinkSt → LinkSt) : (s.modLink t f).oasis = s.oasis := rfl
@[simp] theorem State.modLink_ledger (t : Fin 8) (f : LinkSt → LinkSt) : (s.modLink t f).ledger = s.ledger := rfl
@[simp] theorem State.modLink_sec (t : Fin 8) (f : LinkSt → LinkSt) : (s.modLink t f).sec = s.sec := rfl
@[simp] theorem State.modLink_otp (t : Fin 8) (f : LinkSt → LinkSt) : (s.modLink t f).otp = s.otp := rfl
@[simp] theorem State.modLink_get (t : Fin 8) (f : LinkSt → LinkSt) (key : Nat) : (s.modLink t f).get key = s.get key := rfl

/-! ### `modHab` changes `hab` alone -/

@[simp] theorem State.modHab_pending (f : HabSt → HabSt) : (s.modHab f).pending = s.pending := rfl
@[simp] theorem State.modHab_objs (f : HabSt → HabSt) : (s.modHab f).objs = s.objs := rfl
@[simp] theorem State.modHab_mram (f : HabSt → HabSt) : (s.modHab f).mram = s.mram := rfl
@[simp] theorem State.modHab_now (f : HabSt → HabSt) : (s.modHab f).now = s.now := rfl
@[simp] theorem State.modHab_freeIdx (f : HabSt → HabSt) : (s.modHab f).freeIdx = s.freeIdx := rfl
@[simp] theorem State.modHab_answer (f : HabSt → HabSt) : (s.modHab f).answer = s.answer := rfl
@[simp] theorem State.modHab_deferred (f : HabSt → HabSt) : (s.modHab f).deferred = s.deferred := rfl
@[simp] theorem State.modHab_caps (f : HabSt → HabSt) : (s.modHab f).caps = s.caps := rfl
@[simp] theorem State.modHab_modes (f : HabSt → HabSt) : (s.modHab f).modes = s.modes := rfl
@[simp] theorem State.modHab_history (f : HabSt → HabSt) : (s.modHab f).history = s.history := rfl
@[simp] theorem State.modHab_ops (f : HabSt → HabSt) : (s.modHab f).ops = s.ops := rfl
@[simp] theorem State.modHab_ints (f : HabSt → HabSt) : (s.modHab f).ints = s.ints := rfl
@[simp] theorem State.modHab_phases (f : HabSt → HabSt) : (s.modHab f).phases = s.phases := rfl
@[simp] theorem State.modHab_tiles (f : HabSt → HabSt) : (s.modHab f).tiles = s.tiles := rfl
@[simp] theorem State.modHab_frame (f : HabSt → HabSt) : (s.modHab f).frame = s.frame := rfl
@[simp] theorem State.modHab_rails (f : HabSt → HabSt) : (s.modHab f).rails = s.rails := rfl
@[simp] theorem State.modHab_auxs (f : HabSt → HabSt) : (s.modHab f).auxs = s.auxs := rfl
@[simp] theorem State.modHab_seq (f : HabSt → HabSt) : (s.modHab f).seq = s.seq := rfl
@[simp] theorem State.modHab_bus (f : HabSt → HabSt) : (s.modHab f).bus = s.bus := rfl
@[simp] theorem State.modHab_sup (f : HabSt → HabSt) : (s.modHab f).sup = s.sup := rfl
@[simp] theorem State.modHab_path (f : HabSt → HabSt) : (s.modHab f).path = s.path := rfl
@[simp] theorem State.modHab_chg (f : HabSt → HabSt) : (s.modHab f).chg = s.chg := rfl
@[simp] theorem State.modHab_est (f : HabSt → HabSt) : (s.modHab f).est = s.est := rfl
@[simp] theorem State.modHab_met (f : HabSt → HabSt) : (s.modHab f).met = s.met := rfl
@[simp] theorem State.modHab_therm (f : HabSt → HabSt) : (s.modHab f).therm = s.therm := rfl
@[simp] theorem State.modHab_nvm (f : HabSt → HabSt) : (s.modHab f).nvm = s.nvm := rfl
@[simp] theorem State.modHab_dma (f : HabSt → HabSt) : (s.modHab f).dma = s.dma := rfl
@[simp] theorem State.modHab_mir (f : HabSt → HabSt) : (s.modHab f).mir = s.mir := rfl
@[simp] theorem State.modHab_net (f : HabSt → HabSt) : (s.modHab f).net = s.net := rfl
@[simp] theorem State.modHab_cfg (f : HabSt → HabSt) : (s.modHab f).cfg = s.cfg := rfl
@[simp] theorem State.modHab_ports (f : HabSt → HabSt) : (s.modHab f).ports = s.ports := rfl
@[simp] theorem State.modHab_links (f : HabSt → HabSt) : (s.modHab f).links = s.links := rfl
@[simp] theorem State.modHab_oasis (f : HabSt → HabSt) : (s.modHab f).oasis = s.oasis := rfl
@[simp] theorem State.modHab_ledger (f : HabSt → HabSt) : (s.modHab f).ledger = s.ledger := rfl
@[simp] theorem State.modHab_sec (f : HabSt → HabSt) : (s.modHab f).sec = s.sec := rfl
@[simp] theorem State.modHab_otp (f : HabSt → HabSt) : (s.modHab f).otp = s.otp := rfl
@[simp] theorem State.modHab_get (f : HabSt → HabSt) (key : Nat) : (s.modHab f).get key = s.get key := rfl

/-! ### `modCfg` changes `cfg` alone -/

@[simp] theorem State.modCfg_pending (f : CommitSt → CommitSt) : (s.modCfg f).pending = s.pending := rfl
@[simp] theorem State.modCfg_objs (f : CommitSt → CommitSt) : (s.modCfg f).objs = s.objs := rfl
@[simp] theorem State.modCfg_mram (f : CommitSt → CommitSt) : (s.modCfg f).mram = s.mram := rfl
@[simp] theorem State.modCfg_now (f : CommitSt → CommitSt) : (s.modCfg f).now = s.now := rfl
@[simp] theorem State.modCfg_freeIdx (f : CommitSt → CommitSt) : (s.modCfg f).freeIdx = s.freeIdx := rfl
@[simp] theorem State.modCfg_answer (f : CommitSt → CommitSt) : (s.modCfg f).answer = s.answer := rfl
@[simp] theorem State.modCfg_deferred (f : CommitSt → CommitSt) : (s.modCfg f).deferred = s.deferred := rfl
@[simp] theorem State.modCfg_caps (f : CommitSt → CommitSt) : (s.modCfg f).caps = s.caps := rfl
@[simp] theorem State.modCfg_modes (f : CommitSt → CommitSt) : (s.modCfg f).modes = s.modes := rfl
@[simp] theorem State.modCfg_history (f : CommitSt → CommitSt) : (s.modCfg f).history = s.history := rfl
@[simp] theorem State.modCfg_ops (f : CommitSt → CommitSt) : (s.modCfg f).ops = s.ops := rfl
@[simp] theorem State.modCfg_ints (f : CommitSt → CommitSt) : (s.modCfg f).ints = s.ints := rfl
@[simp] theorem State.modCfg_phases (f : CommitSt → CommitSt) : (s.modCfg f).phases = s.phases := rfl
@[simp] theorem State.modCfg_tiles (f : CommitSt → CommitSt) : (s.modCfg f).tiles = s.tiles := rfl
@[simp] theorem State.modCfg_frame (f : CommitSt → CommitSt) : (s.modCfg f).frame = s.frame := rfl
@[simp] theorem State.modCfg_rails (f : CommitSt → CommitSt) : (s.modCfg f).rails = s.rails := rfl
@[simp] theorem State.modCfg_auxs (f : CommitSt → CommitSt) : (s.modCfg f).auxs = s.auxs := rfl
@[simp] theorem State.modCfg_seq (f : CommitSt → CommitSt) : (s.modCfg f).seq = s.seq := rfl
@[simp] theorem State.modCfg_bus (f : CommitSt → CommitSt) : (s.modCfg f).bus = s.bus := rfl
@[simp] theorem State.modCfg_sup (f : CommitSt → CommitSt) : (s.modCfg f).sup = s.sup := rfl
@[simp] theorem State.modCfg_path (f : CommitSt → CommitSt) : (s.modCfg f).path = s.path := rfl
@[simp] theorem State.modCfg_chg (f : CommitSt → CommitSt) : (s.modCfg f).chg = s.chg := rfl
@[simp] theorem State.modCfg_est (f : CommitSt → CommitSt) : (s.modCfg f).est = s.est := rfl
@[simp] theorem State.modCfg_met (f : CommitSt → CommitSt) : (s.modCfg f).met = s.met := rfl
@[simp] theorem State.modCfg_therm (f : CommitSt → CommitSt) : (s.modCfg f).therm = s.therm := rfl
@[simp] theorem State.modCfg_nvm (f : CommitSt → CommitSt) : (s.modCfg f).nvm = s.nvm := rfl
@[simp] theorem State.modCfg_dma (f : CommitSt → CommitSt) : (s.modCfg f).dma = s.dma := rfl
@[simp] theorem State.modCfg_mir (f : CommitSt → CommitSt) : (s.modCfg f).mir = s.mir := rfl
@[simp] theorem State.modCfg_net (f : CommitSt → CommitSt) : (s.modCfg f).net = s.net := rfl
@[simp] theorem State.modCfg_ports (f : CommitSt → CommitSt) : (s.modCfg f).ports = s.ports := rfl
@[simp] theorem State.modCfg_links (f : CommitSt → CommitSt) : (s.modCfg f).links = s.links := rfl
@[simp] theorem State.modCfg_hab (f : CommitSt → CommitSt) : (s.modCfg f).hab = s.hab := rfl
@[simp] theorem State.modCfg_oasis (f : CommitSt → CommitSt) : (s.modCfg f).oasis = s.oasis := rfl
@[simp] theorem State.modCfg_ledger (f : CommitSt → CommitSt) : (s.modCfg f).ledger = s.ledger := rfl
@[simp] theorem State.modCfg_sec (f : CommitSt → CommitSt) : (s.modCfg f).sec = s.sec := rfl
@[simp] theorem State.modCfg_otp (f : CommitSt → CommitSt) : (s.modCfg f).otp = s.otp := rfl
@[simp] theorem State.modCfg_get (f : CommitSt → CommitSt) (key : Nat) : (s.modCfg f).get key = s.get key := rfl

/-! ### `modPort` changes `ports` alone -/

@[simp] theorem State.modPort_pending (q : Fin 2) (f : LocalPort → LocalPort) : (s.modPort q f).pending = s.pending := rfl
@[simp] theorem State.modPort_objs (q : Fin 2) (f : LocalPort → LocalPort) : (s.modPort q f).objs = s.objs := rfl
@[simp] theorem State.modPort_mram (q : Fin 2) (f : LocalPort → LocalPort) : (s.modPort q f).mram = s.mram := rfl
@[simp] theorem State.modPort_now (q : Fin 2) (f : LocalPort → LocalPort) : (s.modPort q f).now = s.now := rfl
@[simp] theorem State.modPort_freeIdx (q : Fin 2) (f : LocalPort → LocalPort) : (s.modPort q f).freeIdx = s.freeIdx := rfl
@[simp] theorem State.modPort_answer (q : Fin 2) (f : LocalPort → LocalPort) : (s.modPort q f).answer = s.answer := rfl
@[simp] theorem State.modPort_deferred (q : Fin 2) (f : LocalPort → LocalPort) : (s.modPort q f).deferred = s.deferred := rfl
@[simp] theorem State.modPort_caps (q : Fin 2) (f : LocalPort → LocalPort) : (s.modPort q f).caps = s.caps := rfl
@[simp] theorem State.modPort_modes (q : Fin 2) (f : LocalPort → LocalPort) : (s.modPort q f).modes = s.modes := rfl
@[simp] theorem State.modPort_history (q : Fin 2) (f : LocalPort → LocalPort) : (s.modPort q f).history = s.history := rfl
@[simp] theorem State.modPort_ops (q : Fin 2) (f : LocalPort → LocalPort) : (s.modPort q f).ops = s.ops := rfl
@[simp] theorem State.modPort_ints (q : Fin 2) (f : LocalPort → LocalPort) : (s.modPort q f).ints = s.ints := rfl
@[simp] theorem State.modPort_phases (q : Fin 2) (f : LocalPort → LocalPort) : (s.modPort q f).phases = s.phases := rfl
@[simp] theorem State.modPort_tiles (q : Fin 2) (f : LocalPort → LocalPort) : (s.modPort q f).tiles = s.tiles := rfl
@[simp] theorem State.modPort_frame (q : Fin 2) (f : LocalPort → LocalPort) : (s.modPort q f).frame = s.frame := rfl
@[simp] theorem State.modPort_rails (q : Fin 2) (f : LocalPort → LocalPort) : (s.modPort q f).rails = s.rails := rfl
@[simp] theorem State.modPort_auxs (q : Fin 2) (f : LocalPort → LocalPort) : (s.modPort q f).auxs = s.auxs := rfl
@[simp] theorem State.modPort_seq (q : Fin 2) (f : LocalPort → LocalPort) : (s.modPort q f).seq = s.seq := rfl
@[simp] theorem State.modPort_bus (q : Fin 2) (f : LocalPort → LocalPort) : (s.modPort q f).bus = s.bus := rfl
@[simp] theorem State.modPort_sup (q : Fin 2) (f : LocalPort → LocalPort) : (s.modPort q f).sup = s.sup := rfl
@[simp] theorem State.modPort_path (q : Fin 2) (f : LocalPort → LocalPort) : (s.modPort q f).path = s.path := rfl
@[simp] theorem State.modPort_chg (q : Fin 2) (f : LocalPort → LocalPort) : (s.modPort q f).chg = s.chg := rfl
@[simp] theorem State.modPort_est (q : Fin 2) (f : LocalPort → LocalPort) : (s.modPort q f).est = s.est := rfl
@[simp] theorem State.modPort_met (q : Fin 2) (f : LocalPort → LocalPort) : (s.modPort q f).met = s.met := rfl
@[simp] theorem State.modPort_therm (q : Fin 2) (f : LocalPort → LocalPort) : (s.modPort q f).therm = s.therm := rfl
@[simp] theorem State.modPort_nvm (q : Fin 2) (f : LocalPort → LocalPort) : (s.modPort q f).nvm = s.nvm := rfl
@[simp] theorem State.modPort_dma (q : Fin 2) (f : LocalPort → LocalPort) : (s.modPort q f).dma = s.dma := rfl
@[simp] theorem State.modPort_mir (q : Fin 2) (f : LocalPort → LocalPort) : (s.modPort q f).mir = s.mir := rfl
@[simp] theorem State.modPort_net (q : Fin 2) (f : LocalPort → LocalPort) : (s.modPort q f).net = s.net := rfl
@[simp] theorem State.modPort_cfg (q : Fin 2) (f : LocalPort → LocalPort) : (s.modPort q f).cfg = s.cfg := rfl
@[simp] theorem State.modPort_links (q : Fin 2) (f : LocalPort → LocalPort) : (s.modPort q f).links = s.links := rfl
@[simp] theorem State.modPort_hab (q : Fin 2) (f : LocalPort → LocalPort) : (s.modPort q f).hab = s.hab := rfl
@[simp] theorem State.modPort_oasis (q : Fin 2) (f : LocalPort → LocalPort) : (s.modPort q f).oasis = s.oasis := rfl
@[simp] theorem State.modPort_ledger (q : Fin 2) (f : LocalPort → LocalPort) : (s.modPort q f).ledger = s.ledger := rfl
@[simp] theorem State.modPort_sec (q : Fin 2) (f : LocalPort → LocalPort) : (s.modPort q f).sec = s.sec := rfl
@[simp] theorem State.modPort_otp (q : Fin 2) (f : LocalPort → LocalPort) : (s.modPort q f).otp = s.otp := rfl
@[simp] theorem State.modPort_get (q : Fin 2) (f : LocalPort → LocalPort) (key : Nat) : (s.modPort q f).get key = s.get key := rfl

/-! ### What is read after an update of its own part -/

@[simp] theorem State.phase_modPhase_self (p : Fin 56) (f : PhaseSt → PhaseSt) : (s.modPhase p f).phase p = f (s.phase p) := by
  simp [State.phase, State.modPhase]

theorem State.phase_modPhase_ne {p j : Fin 56} (h : j ≠ p) (f) : (s.modPhase p f).phase j = s.phase j := by
  have h' : ((p : Nat) = j) = False := by simpa using fun e => h (Fin.ext e.symm)
  simp [State.phase, State.modPhase, h']

@[simp] theorem State.rail_modRail_self (r : Fin 32) (f : RailSt → RailSt) : (s.modRail r f).rail r = f (s.rail r) := by
  simp [State.rail, State.modRail]

theorem State.rail_modRail_ne {r j : Fin 32} (h : j ≠ r) (f) : (s.modRail r f).rail j = s.rail j := by
  have h' : ((r : Nat) = j) = False := by simpa using fun e => h (Fin.ext e.symm)
  simp [State.rail, State.modRail, h']

@[simp] theorem State.tile_modTile_self (t : Fin 8) (f : TileSt → TileSt) : (s.modTile t f).tile t = f (s.tile t) := by
  simp [State.tile, State.modTile]

theorem State.tile_modTile_ne {t j : Fin 8} (h : j ≠ t) (f) : (s.modTile t f).tile j = s.tile j := by
  have h' : ((t : Nat) = j) = False := by simpa using fun e => h (Fin.ext e.symm)
  simp [State.tile, State.modTile, h']

@[simp] theorem State.aux_modAux_self (k : Fin 4) (f : AuxSt → AuxSt) : (s.modAux k f).aux k = f (s.aux k) := by
  simp [State.aux, State.modAux]

theorem State.aux_modAux_ne {k j : Fin 4} (h : j ≠ k) (f) : (s.modAux k f).aux j = s.aux j := by
  have h' : ((k : Nat) = j) = False := by simpa using fun e => h (Fin.ext e.symm)
  simp [State.aux, State.modAux, h']

@[simp] theorem State.link_modLink_self (t : Fin 8) (f : LinkSt → LinkSt) : (s.modLink t f).link t = f (s.link t) := by
  simp [State.link, State.modLink]

theorem State.link_modLink_ne {t j : Fin 8} (h : j ≠ t) (f) : (s.modLink t f).link j = s.link j := by
  have h' : ((t : Nat) = j) = False := by simpa using fun e => h (Fin.ext e.symm)
  simp [State.link, State.modLink, h']

/-- An object just written reads as written. -/
@[simp] theorem State.get_put_self (key : Nat) (v : Int) : (s.put key v).get key = v := Store.getD_put_self

/-- A write leaves every other object as it was. -/
theorem State.get_put_ne {key other : Nat} (h : other ≠ key) (v : Int) : (s.put key v).get other = s.get other := by
  simp [State.get, State.put, Store.lookup_put_ne h]

end Sys2Proof.Machine
end

