-- ==== Sys2Proof/Laws/Canonical.lean ====
section
/-! SUPPORT. The stores keep their canonical form under every operation on them, and MRAM reads back what was written. -/

namespace Sys2Proof.Machine

variable {σ : Type} [DecidableEq σ] {dflt : Nat → σ}

/-- Dropping pairs keeps the canonical form. -/
theorem Store.filter_wf {m : List (Nat × σ)} {lo : Option Nat} (p : Nat × σ → Bool) (h : Store.wfFrom dflt lo m = true) :
    Store.wfFrom dflt lo (m.filter p) = true := by
  induction m generalizing lo with
  | nil => exact h
  | cons c t ih =>
    obtain ⟨a, w⟩ := c
    simp only [Store.wfFrom, Bool.and_eq_true] at h
    simp only [List.filter_cons]
    split
    · simp only [Store.wfFrom, Bool.and_eq_true]
      exact ⟨h.1, ih h.2⟩
    · refine ih (Store.wfFrom_of_some h.2 ?_)
      intro b hb; subst hb
      have := h.1.1; simp at this; omega

/-- A pair of the store after a write is the one written, or was there before. -/
theorem Store.mem_put {m : List (Nat × σ)} {d v : σ} {k : Nat} {c : Nat × σ} (h : c ∈ Store.put d k v m) : c = (k, v) ∨ c ∈ m := by
  unfold Store.put at h
  split at h
  · right
    induction m with
    | nil => cases h
    | cons q t ih =>
      simp only [Store.erase] at h
      split at h
      · exact List.mem_cons_of_mem _ (ih h)
      · rcases List.mem_cons.1 h with rfl | h
        · exact List.mem_cons_self
        · exact List.mem_cons_of_mem _ (ih h)
  · induction m with
    | nil => left; simpa [Store.insert] using h
    | cons q t ih =>
      simp only [Store.insert] at h
      split at h
      · rcases List.mem_cons.1 h with rfl | h
        · exact .inl rfl
        · exact .inr h
      · split at h
        · rcases List.mem_cons.1 h with rfl | h
          · exact .inl rfl
          · exact .inr (List.mem_cons_of_mem _ h)
        · rcases List.mem_cons.1 h with rfl | h
          · exact .inr List.mem_cons_self
          · exact (ih h).imp_right (List.mem_cons_of_mem _)

/-- A byte written within the array keeps the memory's form. -/
theorem Memory.put_wf {m : List Host.Cell} {a : Nat} {b : Byte} (ha : a < mramSize) (h : Memory.wf m = true) :
    Memory.wf (Store.put 0#8 a b m) = true := by
  simp only [Memory.wf, Bool.and_eq_true, List.all_eq_true, decide_eq_true_eq] at h ⊢
  refine ⟨Store.put_wf (dflt := fun _ => 0#8) h.1, fun c hc => ?_⟩
  rcases Store.mem_put hc with rfl | hc
  · exact ha
  · exact h.2 c hc

/-- Dropping bytes keeps the memory's form. -/
theorem Memory.filter_wf {m : List Host.Cell} (p : Host.Cell → Bool) (h : Memory.wf m = true) : Memory.wf (m.filter p) = true := by
  simp only [Memory.wf, Bool.and_eq_true, List.all_eq_true, decide_eq_true_eq] at h ⊢
  exact ⟨Store.filter_wf p h.1, fun c hc => h.2 c (List.mem_filter.1 hc).1⟩

variable {s t : State}

/-- Canonical form depends on the two stores alone. -/
theorem State.Canonical.congr (h : s.Canonical) (ho : t.objs = s.objs) (hm : t.mram = s.mram) : t.Canonical := by
  unfold State.Canonical at *; rwa [ho, hm]

/-- A write of an object keeps the canonical form. -/
theorem State.Canonical.put (h : s.Canonical) (key : Nat) (v : Int) : (s.put key v).Canonical :=
  ⟨Store.put_wf h.1, h.2⟩

/-- Writes of objects keep the canonical form. -/
theorem State.Canonical.puts (h : s.Canonical) (kvs : List (Nat × Int)) : (s.puts kvs).Canonical := by
  unfold State.puts
  induction kvs generalizing s with
  | nil => exact h
  | cons kv l ih => exact ih (h.put kv.1 kv.2)

/-- A store to the array keeps the canonical form. -/
theorem State.Canonical.writeMram (h : s.Canonical) (a : Nat) (bs : Bytes) : (s.writeMram a bs).Canonical := by
  induction bs generalizing s a with
  | nil => exact h
  | cons b bs ih =>
    refine ih ?_ (a + 1)
    split
    · exact ⟨h.1, Memory.put_wf ‹_› h.2⟩
    · exact h

/-- An erasure of the array keeps the canonical form. -/
theorem State.Canonical.eraseMram (h : s.Canonical) (a n : Nat) : (s.eraseMram a n).Canonical :=
  ⟨h.1, Memory.filter_wf _ h.2⟩

/-- What BOOT keeps of the objects is canonical. -/
theorem State.Canonical.keptObjs (h : s.Canonical) : Store.wfFrom Dict.default none s.keptObjs = true :=
  Store.filter_wf _ h.1

/-- A store to the array changes nothing but the array. -/
theorem State.writeMram_keeps {α : Type} (g : State → α) (h : ∀ s m, g { s with mram := m } = g s) (s : State) (a : Nat) (bs : Bytes) :
    g (s.writeMram a bs) = g s := by
  induction bs generalizing s a with
  | nil => rfl
  | cons b bs ih =>
    simp only [State.writeMram]
    rw [ih]
    split
    · exact h s _
    · rfl

/-- A store leaves the bytes below its address and beyond its end alone. -/
theorem State.mramByte_writeMram_ne (s : State) {a x : Nat} {bs : Bytes} (hx : x < a ∨ a + bs.length ≤ x) :
    (s.writeMram a bs).mramByte x = s.mramByte x := by
  induction bs generalizing s a with
  | nil => rfl
  | cons b bs ih =>
    simp only [List.length_cons] at hx
    simp only [State.writeMram]
    rw [ih _ (by omega)]
    split
    · simp only [State.mramByte]; rw [Store.lookup_put_ne (by omega)]
    · rfl

/-- A byte stored within the array reads back. -/
theorem State.mramByte_writeMram (s : State) {a k : Nat} {bs : Bytes} (hk : k < bs.length) (ha : a + bs.length ≤ mramSize) :
    (s.writeMram a bs).mramByte (a + k) = bs[k] := by
  induction bs generalizing s a k with
  | nil => simp at hk
  | cons b bs ih =>
    simp only [List.length_cons] at hk ha
    simp only [State.writeMram]
    rw [if_pos (by omega)]
    cases k with
    | zero =>
      rw [State.mramByte_writeMram_ne _ (by omega)]
      simp [State.mramByte]
    | succ k =>
      have := ih { s with mram := Store.put 0#8 a b s.mram } (a := a + 1) (k := k) (by omega) (by omega)
      rw [show a + (k + 1) = a + 1 + k by omega, this]; rfl

/-- Bytes stored within the array read back. -/
theorem State.readMram_writeMram (s : State) {a : Nat} {bs : Bytes} (ha : a + bs.length ≤ mramSize) :
    (s.writeMram a bs).readMram a bs.length = bs := by
  refine List.ext_getElem (by simp [State.readMram]) fun k h1 h2 => ?_
  simp only [State.readMram, List.getElem_map, List.getElem_range]
  exact State.mramByte_writeMram s h2 ha

/-- A read that shares no byte with a store is as before it. -/
theorem State.readMram_writeMram_ne (s : State) {a x n : Nat} {bs : Bytes} (h : x + n ≤ a ∨ a + bs.length ≤ x) :
    (s.writeMram a bs).readMram x n = s.readMram x n := by
  simp only [State.readMram]
  refine List.map_congr_left fun k hk => ?_
  have := List.mem_range.1 hk
  exact State.mramByte_writeMram_ne s (by omega)

end Sys2Proof.Machine
end

