-- ==== Sys2Proof/Laws/Crypto.lean ====
section
/-! SUPPORT. The lengths of digests, keys and signatures. -/

namespace Sys2Proof.Machine

/-- Each word of a digest is four bytes. -/
theorem flatMap_word_length (ws : List (BitVec 32)) :
    (ws.flatMap fun w => (toLE 4 w.toNat).reverse).length = 4 * ws.length := by
  induction ws with
  | nil => rfl
  | cons w ws ih => simp only [List.flatMap_cons, List.length_append, ih, List.length_cons, List.length_reverse, toLE_length]; omega

/-- A digest has 32 bytes. -/
@[simp] theorem sha256_length (bs : Bytes) : (sha256 bs).length = 32 := by
  simp only [sha256, flatMap_word_length]; rfl

/-- An HMAC has 32 bytes. -/
@[simp] theorem hmacSha256_length (key msg : Bytes) : (hmacSha256 key msg).length = 32 := by
  simp only [hmacSha256, sha256_length]

/-- A number written most significant byte first has as many bytes as asked for. -/
@[simp] theorem toBE_length (n v : Nat) : (toBE n v).length = n := by simp [toBE]

/-- A public key has 64 bytes. -/
@[simp] theorem ecdsaPublicKey_length (key : Bytes) : (ecdsaPublicKey key).length = 64 := by simp [ecdsaPublicKey, pairBE]

/-- A signature has 64 bytes. -/
@[simp] theorem ecdsaSign_length (key digest : Bytes) : (ecdsaSign key digest).length = 64 := by simp [ecdsaSign, pairBE]

end Sys2Proof.Machine
end

