-- ==== Sys2Proof/Laws/Ops.lean ====
section
/-! SUPPORT. What the shared operations can do. Each changes only the parts of the state named in its lemma `…_keeps`: whatever is
read of a state without looking at those parts is the same before and after. From that follows one lemma per part. -/

namespace Sys2Proof.Machine

/-- What holds at the start of a fold and is kept by each of its steps holds at its end. -/
theorem foldl_keeps {α β : Type} {P : β → Prop} {f : β → α → β} {l : List α} {b : β} (h0 : P b)
    (h : ∀ b a, P b → P (f b a)) : P (l.foldl f b) := by
  induction l generalizing b with
  | nil => exact h0
  | cons a l ih => exact ih (h b a h0)

variable {α : Type} (s : State)

theorem State.puts_keeps (g : State → α) (h : ∀ s o, g { s with objs := o } = g s) (kvs : List (Nat × Int)) :
    g (s.puts kvs) = g s :=
  foldl_keeps (P := fun u => g u = g s) rfl fun u _ hu => (h u _).trans hu

theorem State.addSat_keeps (g : State → α) (h : ∀ s o, g { s with objs := o } = g s) (key n : Nat) :
    g (s.addSat key n).1 = g s := h s _

theorem State.addHistory_keeps (g : State → α) (h : ∀ s o, g { s with history := o } = g s) (at_ : Nat) (src dst : Mode)
    (why : Reason) : g (s.addHistory at_ src dst why) = g s := by
  unfold State.addHistory; split
  · rfl
  · exact h s _

theorem State.queueEvents_keeps (g : State → α) (h : ∀ s n, g { s with net := n } = g s) (src value : Nat) :
    g (s.queueEvents src value).1 = g s := by
  unfold State.queueEvents
  refine foldl_keeps (P := fun a : State × Nat => g a.1 = g s) rfl fun a i ha => ?_
  dsimp only
  split
  · split
    · exact (h _ _).trans ha
    · exact ha
  · exact ha

theorem State.raiseBit_keeps (g : State → α) (h : ∀ s o i, g { s with objs := o, ints := i } = g s) (e : EventObj) (k : Nat) :
    g (s.raiseBit e k).1 = g s := by
  unfold State.raiseBit
  split
  · rfl
  · split
    · rfl
    · dsimp only
      split
      · exact (h (s.put e.key _) _ _).trans (h s _ _)
      · exact h s _ s.ints

theorem State.raiseHeard_keeps (g : State → α) (h : ∀ s o i n, g { s with objs := o, ints := i, net := n } = g s) (e : EventObj)
    (k : Nat) : g (s.raiseHeard e k).1 = g s := by
  have hb : g (s.raiseBit e k).1 = g s := s.raiseBit_keeps g (fun u o i => h u o i u.net) e k
  unfold State.raiseHeard
  split
  · rename_i t ht; rw [ht] at hb; exact hb
  · rename_i t ht
    rw [ht] at hb
    rw [State.queueEvents_keeps _ g fun u n => h u u.objs u.ints n]
    exact hb

theorem State.countDrops_keeps (g : State → α) (h : ∀ s o i n, g { s with objs := o, ints := i, net := n } = g s) (n : Nat) :
    g (s.countDrops n) = g s := by
  have hq (u : State) (e : EventObj) (k : Nat) : g (u.raiseHeard e k).1 = g u := u.raiseHeard_keeps g h e k
  have ha (u : State) (m : Nat) : g (u.addSat K.NET_EVENTS_DROPPED m).1 = g u := u.addSat_keeps g (fun u o => h u o u.ints u.net) ..
  have hn (u : State) (x : NetSt) : g { u with net := x } = g u := h u u.objs u.ints x
  unfold State.countDrops
  split
  · rfl
  · dsimp only
    rw [ha]
    repeat' split
    all_goals simp only [hq, ha, hn]

theorem State.raise_keeps (g : State → α) (h : ∀ s o i n, g { s with objs := o, ints := i, net := n } = g s) (e : EventObj)
    (k : Nat) : g (s.raise e k) = g s :=
  (State.countDrops_keeps _ g h _).trans (s.raiseHeard_keeps g h e k)

theorem State.reportOp_keeps (g : State → α) (h : ∀ s o i n, g { s with objs := o, ints := i, net := n } = g s) (t : Nat)
    (e : OpEntry) : g (s.reportOp t e) = g s := by
  have hp (u : State) (key : Nat) (v : Int) : g (u.put key v) = g u := h u _ u.ints u.net
  have hr (u : State) (e : EventObj) (k : Nat) : g (u.raise e k) = g u := u.raise_keeps g h e k
  unfold State.reportOp
  dsimp only
  split <;> split <;> split <;> simp only [hp, hr]

theorem State.defer_keeps (g : State → α) (h : ∀ s d b, g { s with deferred := d, afterBoot := b } = g s) (e : EventObj) (k : Nat) :
    g (s.defer e k) = g s := by
  unfold State.defer
  split <;> split
  · rfl
  · exact h s s.deferred _
  · rfl
  · exact h s _ s.afterBoot

theorem State.raiseLater_keeps (g : State → α)
    (h : ∀ s o i n d b, g { s with objs := o, ints := i, net := n, deferred := d, afterBoot := b } = g s) (e : EventObj) (k : Nat) :
    g (s.raiseLater e k) = g s := by
  unfold State.raiseLater
  split
  · exact s.raise_keeps g (fun u o i n => h u o i n u.deferred u.afterBoot) e k
  · exact s.defer_keeps g (fun u d b => h u u.objs u.ints u.net d b) e k

theorem State.bump_keeps (g : State → α) (h : ∀ s o i n d b, g { s with objs := o, ints := i, net := n, deferred := d, afterBoot := b } = g s) (key : Nat) :
    g (s.bump key) = g s := by
  have hb : g (s.addSat key 1).1 = g s := s.addSat_keeps g (fun u o => h u o u.ints u.net u.deferred u.afterBoot) ..
  unfold State.bump
  split
  · rename_i t ht; rw [ht] at hb; exact hb
  · rename_i t ht
    rw [ht] at hb
    split
    · rw [State.raiseLater_keeps _ g h]; exact hb
    · exact hb

theorem State.loseAbort_keeps (g : State → α)
    (h : ∀ s o i n d b p, g { s with objs := o, ints := i, net := n, deferred := d, afterBoot := b, ops := p } = g s) (t : Nat) : g (s.loseAbort t) = g s := by
  have h' (u : State) (o i n) : g { u with objs := o, ints := i, net := n } = g u := h u o i n u.deferred u.afterBoot u.ops
  have hd (u : State) (o i n d b) : g { u with objs := o, ints := i, net := n, deferred := d, afterBoot := b } = g u := h u o i n d b u.ops
  have hp (u : State) (key : Nat) (v : Int) : g (u.put key v) = g u := h' u _ u.ints u.net
  have ho (u : State) (t : Nat) (e : OpEntry) : g (u.setOp t e) = g u := h u u.objs u.ints u.net u.deferred u.afterBoot _
  unfold State.loseAbort
  dsimp only
  split
  · rw [State.raise_keeps _ g h', State.bump_keeps _ g hd, hp, ho]
  · rfl

theorem State.finishOne_keeps (g : State → α)
    (h : ∀ s o i n d b p, g { s with objs := o, ints := i, net := n, deferred := d, afterBoot := b, ops := p } = g s) (t : Nat) (st : OpStatus)
    (result code : Nat) : g (s.finishOne t st result code) = g s := by
  have h' (u : State) (o i n) : g { u with objs := o, ints := i, net := n } = g u := h u o i n u.deferred u.afterBoot u.ops
  have hp (u : State) (key : Nat) (v : Int) : g (u.put key v) = g u := h' u _ u.ints u.net
  have ho (u : State) (t : Nat) (e : OpEntry) : g (u.setOp t e) = g u := h u u.objs u.ints u.net u.deferred u.afterBoot _
  unfold State.finishOne
  dsimp only
  split
  · rw [State.reportOp_keeps _ g h', ho]
    split
    · split
      · rw [hp, ho]
      · rfl
    · exact s.loseAbort_keeps g h t
  · rfl

theorem State.finish_keeps (g : State → α)
    (h : ∀ s o i n d b p, g { s with objs := o, ints := i, net := n, deferred := d, afterBoot := b, ops := p } = g s) (t : Nat) (st : OpStatus)
    (result code : Nat) : g (s.finish t st result code) = g s := by
  unfold State.finish
  refine foldl_keeps (P := fun u => g u = g s) (s.finishOne_keeps g h t st result code) fun u j hu => ?_
  split
  · exact (u.finishOne_keeps g h j st result code).trans hu
  · exact hu

theorem State.finish?_keeps (g : State → α)
    (h : ∀ s o i n d b p, g { s with objs := o, ints := i, net := n, deferred := d, afterBoot := b, ops := p } = g s) (t : Option Nat) (st : OpStatus)
    (result code : Nat) : g (s.finish? t st result code) = g s := by
  cases t with
  | none => rfl
  | some t => exact s.finish_keeps g h t st result code


@[simp] theorem State.puts_pending (kvs : List (Nat × Int)) : (s.puts kvs).pending = s.pending := s.puts_keeps (fun u : State => u.pending) (fun _ _ => rfl) ..
@[simp] theorem State.puts_published (kvs : List (Nat × Int)) : (s.puts kvs).published = s.published := s.puts_keeps (fun u : State => u.published) (fun _ _ => rfl) ..
@[simp] theorem State.puts_mram (kvs : List (Nat × Int)) : (s.puts kvs).mram = s.mram := s.puts_keeps (fun u : State => u.mram) (fun _ _ => rfl) ..
@[simp] theorem State.puts_now (kvs : List (Nat × Int)) : (s.puts kvs).now = s.now := s.puts_keeps (fun u : State => u.now) (fun _ _ => rfl) ..
@[simp] theorem State.puts_freeIdx (kvs : List (Nat × Int)) : (s.puts kvs).freeIdx = s.freeIdx := s.puts_keeps (fun u : State => u.freeIdx) (fun _ _ => rfl) ..
@[simp] theorem State.puts_answer (kvs : List (Nat × Int)) : (s.puts kvs).answer = s.answer := s.puts_keeps (fun u : State => u.answer) (fun _ _ => rfl) ..
@[simp] theorem State.puts_deferred (kvs : List (Nat × Int)) : (s.puts kvs).deferred = s.deferred := s.puts_keeps (fun u : State => u.deferred) (fun _ _ => rfl) ..
@[simp] theorem State.puts_afterBoot (kvs : List (Nat × Int)) : (s.puts kvs).afterBoot = s.afterBoot := s.puts_keeps (fun u : State => u.afterBoot) (fun _ _ => rfl) ..
@[simp] theorem State.puts_caps (kvs : List (Nat × Int)) : (s.puts kvs).caps = s.caps := s.puts_keeps (fun u : State => u.caps) (fun _ _ => rfl) ..
@[simp] theorem State.puts_modes (kvs : List (Nat × Int)) : (s.puts kvs).modes = s.modes := s.puts_keeps (fun u : State => u.modes) (fun _ _ => rfl) ..
@[simp] theorem State.puts_history (kvs : List (Nat × Int)) : (s.puts kvs).history = s.history := s.puts_keeps (fun u : State => u.history) (fun _ _ => rfl) ..
@[simp] theorem State.puts_ops (kvs : List (Nat × Int)) : (s.puts kvs).ops = s.ops := s.puts_keeps (fun u : State => u.ops) (fun _ _ => rfl) ..
@[simp] theorem State.puts_ints (kvs : List (Nat × Int)) : (s.puts kvs).ints = s.ints := s.puts_keeps (fun u : State => u.ints) (fun _ _ => rfl) ..
@[simp] theorem State.puts_phases (kvs : List (Nat × Int)) : (s.puts kvs).phases = s.phases := s.puts_keeps (fun u : State => u.phases) (fun _ _ => rfl) ..
@[simp] theorem State.puts_tiles (kvs : List (Nat × Int)) : (s.puts kvs).tiles = s.tiles := s.puts_keeps (fun u : State => u.tiles) (fun _ _ => rfl) ..
@[simp] theorem State.puts_frame (kvs : List (Nat × Int)) : (s.puts kvs).frame = s.frame := s.puts_keeps (fun u : State => u.frame) (fun _ _ => rfl) ..
@[simp] theorem State.puts_rails (kvs : List (Nat × Int)) : (s.puts kvs).rails = s.rails := s.puts_keeps (fun u : State => u.rails) (fun _ _ => rfl) ..
@[simp] theorem State.puts_auxs (kvs : List (Nat × Int)) : (s.puts kvs).auxs = s.auxs := s.puts_keeps (fun u : State => u.auxs) (fun _ _ => rfl) ..
@[simp] theorem State.puts_seq (kvs : List (Nat × Int)) : (s.puts kvs).seq = s.seq := s.puts_keeps (fun u : State => u.seq) (fun _ _ => rfl) ..
@[simp] theorem State.puts_bus (kvs : List (Nat × Int)) : (s.puts kvs).bus = s.bus := s.puts_keeps (fun u : State => u.bus) (fun _ _ => rfl) ..
@[simp] theorem State.puts_sup (kvs : List (Nat × Int)) : (s.puts kvs).sup = s.sup := s.puts_keeps (fun u : State => u.sup) (fun _ _ => rfl) ..
@[simp] theorem State.puts_path (kvs : List (Nat × Int)) : (s.puts kvs).path = s.path := s.puts_keeps (fun u : State => u.path) (fun _ _ => rfl) ..
@[simp] theorem State.puts_chg (kvs : List (Nat × Int)) : (s.puts kvs).chg = s.chg := s.puts_keeps (fun u : State => u.chg) (fun _ _ => rfl) ..
@[simp] theorem State.puts_est (kvs : List (Nat × Int)) : (s.puts kvs).est = s.est := s.puts_keeps (fun u : State => u.est) (fun _ _ => rfl) ..
@[simp] theorem State.puts_met (kvs : List (Nat × Int)) : (s.puts kvs).met = s.met := s.puts_keeps (fun u : State => u.met) (fun _ _ => rfl) ..
@[simp] theorem State.puts_therm (kvs : List (Nat × Int)) : (s.puts kvs).therm = s.therm := s.puts_keeps (fun u : State => u.therm) (fun _ _ => rfl) ..
@[simp] theorem State.puts_nvm (kvs : List (Nat × Int)) : (s.puts kvs).nvm = s.nvm := s.puts_keeps (fun u : State => u.nvm) (fun _ _ => rfl) ..
@[simp] theorem State.puts_dma (kvs : List (Nat × Int)) : (s.puts kvs).dma = s.dma := s.puts_keeps (fun u : State => u.dma) (fun _ _ => rfl) ..
@[simp] theorem State.puts_mir (kvs : List (Nat × Int)) : (s.puts kvs).mir = s.mir := s.puts_keeps (fun u : State => u.mir) (fun _ _ => rfl) ..
@[simp] theorem State.puts_net (kvs : List (Nat × Int)) : (s.puts kvs).net = s.net := s.puts_keeps (fun u : State => u.net) (fun _ _ => rfl) ..
@[simp] theorem State.puts_cfg (kvs : List (Nat × Int)) : (s.puts kvs).cfg = s.cfg := s.puts_keeps (fun u : State => u.cfg) (fun _ _ => rfl) ..
@[simp] theorem State.puts_ports (kvs : List (Nat × Int)) : (s.puts kvs).ports = s.ports := s.puts_keeps (fun u : State => u.ports) (fun _ _ => rfl) ..
@[simp] theorem State.puts_links (kvs : List (Nat × Int)) : (s.puts kvs).links = s.links := s.puts_keeps (fun u : State => u.links) (fun _ _ => rfl) ..
@[simp] theorem State.puts_hab (kvs : List (Nat × Int)) : (s.puts kvs).hab = s.hab := s.puts_keeps (fun u : State => u.hab) (fun _ _ => rfl) ..
@[simp] theorem State.puts_oasis (kvs : List (Nat × Int)) : (s.puts kvs).oasis = s.oasis := s.puts_keeps (fun u : State => u.oasis) (fun _ _ => rfl) ..
@[simp] theorem State.puts_ledger (kvs : List (Nat × Int)) : (s.puts kvs).ledger = s.ledger := s.puts_keeps (fun u : State => u.ledger) (fun _ _ => rfl) ..
@[simp] theorem State.puts_sec (kvs : List (Nat × Int)) : (s.puts kvs).sec = s.sec := s.puts_keeps (fun u : State => u.sec) (fun _ _ => rfl) ..
@[simp] theorem State.puts_otp (kvs : List (Nat × Int)) : (s.puts kvs).otp = s.otp := s.puts_keeps (fun u : State => u.otp) (fun _ _ => rfl) ..

@[simp] theorem State.addSat_fst_pending (key n : Nat) : ((s.addSat key n).1).pending = s.pending := s.addSat_keeps (fun u : State => u.pending) (fun _ _ => rfl) ..
@[simp] theorem State.addSat_fst_published (key n : Nat) : ((s.addSat key n).1).published = s.published := s.addSat_keeps (fun u : State => u.published) (fun _ _ => rfl) ..
@[simp] theorem State.addSat_fst_mram (key n : Nat) : ((s.addSat key n).1).mram = s.mram := s.addSat_keeps (fun u : State => u.mram) (fun _ _ => rfl) ..
@[simp] theorem State.addSat_fst_now (key n : Nat) : ((s.addSat key n).1).now = s.now := s.addSat_keeps (fun u : State => u.now) (fun _ _ => rfl) ..
@[simp] theorem State.addSat_fst_freeIdx (key n : Nat) : ((s.addSat key n).1).freeIdx = s.freeIdx := s.addSat_keeps (fun u : State => u.freeIdx) (fun _ _ => rfl) ..
@[simp] theorem State.addSat_fst_answer (key n : Nat) : ((s.addSat key n).1).answer = s.answer := s.addSat_keeps (fun u : State => u.answer) (fun _ _ => rfl) ..
@[simp] theorem State.addSat_fst_deferred (key n : Nat) : ((s.addSat key n).1).deferred = s.deferred := s.addSat_keeps (fun u : State => u.deferred) (fun _ _ => rfl) ..
@[simp] theorem State.addSat_fst_afterBoot (key n : Nat) : ((s.addSat key n).1).afterBoot = s.afterBoot := s.addSat_keeps (fun u : State => u.afterBoot) (fun _ _ => rfl) ..
@[simp] theorem State.addSat_fst_caps (key n : Nat) : ((s.addSat key n).1).caps = s.caps := s.addSat_keeps (fun u : State => u.caps) (fun _ _ => rfl) ..
@[simp] theorem State.addSat_fst_modes (key n : Nat) : ((s.addSat key n).1).modes = s.modes := s.addSat_keeps (fun u : State => u.modes) (fun _ _ => rfl) ..
@[simp] theorem State.addSat_fst_history (key n : Nat) : ((s.addSat key n).1).history = s.history := s.addSat_keeps (fun u : State => u.history) (fun _ _ => rfl) ..
@[simp] theorem State.addSat_fst_ops (key n : Nat) : ((s.addSat key n).1).ops = s.ops := s.addSat_keeps (fun u : State => u.ops) (fun _ _ => rfl) ..
@[simp] theorem State.addSat_fst_ints (key n : Nat) : ((s.addSat key n).1).ints = s.ints := s.addSat_keeps (fun u : State => u.ints) (fun _ _ => rfl) ..
@[simp] theorem State.addSat_fst_phases (key n : Nat) : ((s.addSat key n).1).phases = s.phases := s.addSat_keeps (fun u : State => u.phases) (fun _ _ => rfl) ..
@[simp] theorem State.addSat_fst_tiles (key n : Nat) : ((s.addSat key n).1).tiles = s.tiles := s.addSat_keeps (fun u : State => u.tiles) (fun _ _ => rfl) ..
@[simp] theorem State.addSat_fst_frame (key n : Nat) : ((s.addSat key n).1).frame = s.frame := s.addSat_keeps (fun u : State => u.frame) (fun _ _ => rfl) ..
@[simp] theorem State.addSat_fst_rails (key n : Nat) : ((s.addSat key n).1).rails = s.rails := s.addSat_keeps (fun u : State => u.rails) (fun _ _ => rfl) ..
@[simp] theorem State.addSat_fst_auxs (key n : Nat) : ((s.addSat key n).1).auxs = s.auxs := s.addSat_keeps (fun u : State => u.auxs) (fun _ _ => rfl) ..
@[simp] theorem State.addSat_fst_seq (key n : Nat) : ((s.addSat key n).1).seq = s.seq := s.addSat_keeps (fun u : State => u.seq) (fun _ _ => rfl) ..
@[simp] theorem State.addSat_fst_bus (key n : Nat) : ((s.addSat key n).1).bus = s.bus := s.addSat_keeps (fun u : State => u.bus) (fun _ _ => rfl) ..
@[simp] theorem State.addSat_fst_sup (key n : Nat) : ((s.addSat key n).1).sup = s.sup := s.addSat_keeps (fun u : State => u.sup) (fun _ _ => rfl) ..
@[simp] theorem State.addSat_fst_path (key n : Nat) : ((s.addSat key n).1).path = s.path := s.addSat_keeps (fun u : State => u.path) (fun _ _ => rfl) ..
@[simp] theorem State.addSat_fst_chg (key n : Nat) : ((s.addSat key n).1).chg = s.chg := s.addSat_keeps (fun u : State => u.chg) (fun _ _ => rfl) ..
@[simp] theorem State.addSat_fst_est (key n : Nat) : ((s.addSat key n).1).est = s.est := s.addSat_keeps (fun u : State => u.est) (fun _ _ => rfl) ..
@[simp] theorem State.addSat_fst_met (key n : Nat) : ((s.addSat key n).1).met = s.met := s.addSat_keeps (fun u : State => u.met) (fun _ _ => rfl) ..
@[simp] theorem State.addSat_fst_therm (key n : Nat) : ((s.addSat key n).1).therm = s.therm := s.addSat_keeps (fun u : State => u.therm) (fun _ _ => rfl) ..
@[simp] theorem State.addSat_fst_nvm (key n : Nat) : ((s.addSat key n).1).nvm = s.nvm := s.addSat_keeps (fun u : State => u.nvm) (fun _ _ => rfl) ..
@[simp] theorem State.addSat_fst_dma (key n : Nat) : ((s.addSat key n).1).dma = s.dma := s.addSat_keeps (fun u : State => u.dma) (fun _ _ => rfl) ..
@[simp] theorem State.addSat_fst_mir (key n : Nat) : ((s.addSat key n).1).mir = s.mir := s.addSat_keeps (fun u : State => u.mir) (fun _ _ => rfl) ..
@[simp] theorem State.addSat_fst_net (key n : Nat) : ((s.addSat key n).1).net = s.net := s.addSat_keeps (fun u : State => u.net) (fun _ _ => rfl) ..
@[simp] theorem State.addSat_fst_cfg (key n : Nat) : ((s.addSat key n).1).cfg = s.cfg := s.addSat_keeps (fun u : State => u.cfg) (fun _ _ => rfl) ..
@[simp] theorem State.addSat_fst_ports (key n : Nat) : ((s.addSat key n).1).ports = s.ports := s.addSat_keeps (fun u : State => u.ports) (fun _ _ => rfl) ..
@[simp] theorem State.addSat_fst_links (key n : Nat) : ((s.addSat key n).1).links = s.links := s.addSat_keeps (fun u : State => u.links) (fun _ _ => rfl) ..
@[simp] theorem State.addSat_fst_hab (key n : Nat) : ((s.addSat key n).1).hab = s.hab := s.addSat_keeps (fun u : State => u.hab) (fun _ _ => rfl) ..
@[simp] theorem State.addSat_fst_oasis (key n : Nat) : ((s.addSat key n).1).oasis = s.oasis := s.addSat_keeps (fun u : State => u.oasis) (fun _ _ => rfl) ..
@[simp] theorem State.addSat_fst_ledger (key n : Nat) : ((s.addSat key n).1).ledger = s.ledger := s.addSat_keeps (fun u : State => u.ledger) (fun _ _ => rfl) ..
@[simp] theorem State.addSat_fst_sec (key n : Nat) : ((s.addSat key n).1).sec = s.sec := s.addSat_keeps (fun u : State => u.sec) (fun _ _ => rfl) ..
@[simp] theorem State.addSat_fst_otp (key n : Nat) : ((s.addSat key n).1).otp = s.otp := s.addSat_keeps (fun u : State => u.otp) (fun _ _ => rfl) ..

@[simp] theorem State.queueEvents_fst_pending (src value : Nat) : ((s.queueEvents src value).1).pending = s.pending := s.queueEvents_keeps (fun u : State => u.pending) (fun _ _ => rfl) ..
@[simp] theorem State.queueEvents_fst_objs (src value : Nat) : ((s.queueEvents src value).1).objs = s.objs := s.queueEvents_keeps (fun u : State => u.objs) (fun _ _ => rfl) ..
@[simp] theorem State.queueEvents_fst_published (src value : Nat) : ((s.queueEvents src value).1).published = s.published := s.queueEvents_keeps (fun u : State => u.published) (fun _ _ => rfl) ..
@[simp] theorem State.queueEvents_fst_mram (src value : Nat) : ((s.queueEvents src value).1).mram = s.mram := s.queueEvents_keeps (fun u : State => u.mram) (fun _ _ => rfl) ..
@[simp] theorem State.queueEvents_fst_now (src value : Nat) : ((s.queueEvents src value).1).now = s.now := s.queueEvents_keeps (fun u : State => u.now) (fun _ _ => rfl) ..
@[simp] theorem State.queueEvents_fst_freeIdx (src value : Nat) : ((s.queueEvents src value).1).freeIdx = s.freeIdx := s.queueEvents_keeps (fun u : State => u.freeIdx) (fun _ _ => rfl) ..
@[simp] theorem State.queueEvents_fst_answer (src value : Nat) : ((s.queueEvents src value).1).answer = s.answer := s.queueEvents_keeps (fun u : State => u.answer) (fun _ _ => rfl) ..
@[simp] theorem State.queueEvents_fst_deferred (src value : Nat) : ((s.queueEvents src value).1).deferred = s.deferred := s.queueEvents_keeps (fun u : State => u.deferred) (fun _ _ => rfl) ..
@[simp] theorem State.queueEvents_fst_afterBoot (src value : Nat) : ((s.queueEvents src value).1).afterBoot = s.afterBoot := s.queueEvents_keeps (fun u : State => u.afterBoot) (fun _ _ => rfl) ..
@[simp] theorem State.queueEvents_fst_caps (src value : Nat) : ((s.queueEvents src value).1).caps = s.caps := s.queueEvents_keeps (fun u : State => u.caps) (fun _ _ => rfl) ..
@[simp] theorem State.queueEvents_fst_modes (src value : Nat) : ((s.queueEvents src value).1).modes = s.modes := s.queueEvents_keeps (fun u : State => u.modes) (fun _ _ => rfl) ..
@[simp] theorem State.queueEvents_fst_history (src value : Nat) : ((s.queueEvents src value).1).history = s.history := s.queueEvents_keeps (fun u : State => u.history) (fun _ _ => rfl) ..
@[simp] theorem State.queueEvents_fst_ops (src value : Nat) : ((s.queueEvents src value).1).ops = s.ops := s.queueEvents_keeps (fun u : State => u.ops) (fun _ _ => rfl) ..
@[simp] theorem State.queueEvents_fst_ints (src value : Nat) : ((s.queueEvents src value).1).ints = s.ints := s.queueEvents_keeps (fun u : State => u.ints) (fun _ _ => rfl) ..
@[simp] theorem State.queueEvents_fst_phases (src value : Nat) : ((s.queueEvents src value).1).phases = s.phases := s.queueEvents_keeps (fun u : State => u.phases) (fun _ _ => rfl) ..
@[simp] theorem State.queueEvents_fst_tiles (src value : Nat) : ((s.queueEvents src value).1).tiles = s.tiles := s.queueEvents_keeps (fun u : State => u.tiles) (fun _ _ => rfl) ..
@[simp] theorem State.queueEvents_fst_frame (src value : Nat) : ((s.queueEvents src value).1).frame = s.frame := s.queueEvents_keeps (fun u : State => u.frame) (fun _ _ => rfl) ..
@[simp] theorem State.queueEvents_fst_rails (src value : Nat) : ((s.queueEvents src value).1).rails = s.rails := s.queueEvents_keeps (fun u : State => u.rails) (fun _ _ => rfl) ..
@[simp] theorem State.queueEvents_fst_auxs (src value : Nat) : ((s.queueEvents src value).1).auxs = s.auxs := s.queueEvents_keeps (fun u : State => u.auxs) (fun _ _ => rfl) ..
@[simp] theorem State.queueEvents_fst_seq (src value : Nat) : ((s.queueEvents src value).1).seq = s.seq := s.queueEvents_keeps (fun u : State => u.seq) (fun _ _ => rfl) ..
@[simp] theorem State.queueEvents_fst_bus (src value : Nat) : ((s.queueEvents src value).1).bus = s.bus := s.queueEvents_keeps (fun u : State => u.bus) (fun _ _ => rfl) ..
@[simp] theorem State.queueEvents_fst_sup (src value : Nat) : ((s.queueEvents src value).1).sup = s.sup := s.queueEvents_keeps (fun u : State => u.sup) (fun _ _ => rfl) ..
@[simp] theorem State.queueEvents_fst_path (src value : Nat) : ((s.queueEvents src value).1).path = s.path := s.queueEvents_keeps (fun u : State => u.path) (fun _ _ => rfl) ..
@[simp] theorem State.queueEvents_fst_chg (src value : Nat) : ((s.queueEvents src value).1).chg = s.chg := s.queueEvents_keeps (fun u : State => u.chg) (fun _ _ => rfl) ..
@[simp] theorem State.queueEvents_fst_est (src value : Nat) : ((s.queueEvents src value).1).est = s.est := s.queueEvents_keeps (fun u : State => u.est) (fun _ _ => rfl) ..
@[simp] theorem State.queueEvents_fst_met (src value : Nat) : ((s.queueEvents src value).1).met = s.met := s.queueEvents_keeps (fun u : State => u.met) (fun _ _ => rfl) ..
@[simp] theorem State.queueEvents_fst_therm (src value : Nat) : ((s.queueEvents src value).1).therm = s.therm := s.queueEvents_keeps (fun u : State => u.therm) (fun _ _ => rfl) ..
@[simp] theorem State.queueEvents_fst_nvm (src value : Nat) : ((s.queueEvents src value).1).nvm = s.nvm := s.queueEvents_keeps (fun u : State => u.nvm) (fun _ _ => rfl) ..
@[simp] theorem State.queueEvents_fst_dma (src value : Nat) : ((s.queueEvents src value).1).dma = s.dma := s.queueEvents_keeps (fun u : State => u.dma) (fun _ _ => rfl) ..
@[simp] theorem State.queueEvents_fst_mir (src value : Nat) : ((s.queueEvents src value).1).mir = s.mir := s.queueEvents_keeps (fun u : State => u.mir) (fun _ _ => rfl) ..
@[simp] theorem State.queueEvents_fst_cfg (src value : Nat) : ((s.queueEvents src value).1).cfg = s.cfg := s.queueEvents_keeps (fun u : State => u.cfg) (fun _ _ => rfl) ..
@[simp] theorem State.queueEvents_fst_ports (src value : Nat) : ((s.queueEvents src value).1).ports = s.ports := s.queueEvents_keeps (fun u : State => u.ports) (fun _ _ => rfl) ..
@[simp] theorem State.queueEvents_fst_links (src value : Nat) : ((s.queueEvents src value).1).links = s.links := s.queueEvents_keeps (fun u : State => u.links) (fun _ _ => rfl) ..
@[simp] theorem State.queueEvents_fst_hab (src value : Nat) : ((s.queueEvents src value).1).hab = s.hab := s.queueEvents_keeps (fun u : State => u.hab) (fun _ _ => rfl) ..
@[simp] theorem State.queueEvents_fst_oasis (src value : Nat) : ((s.queueEvents src value).1).oasis = s.oasis := s.queueEvents_keeps (fun u : State => u.oasis) (fun _ _ => rfl) ..
@[simp] theorem State.queueEvents_fst_ledger (src value : Nat) : ((s.queueEvents src value).1).ledger = s.ledger := s.queueEvents_keeps (fun u : State => u.ledger) (fun _ _ => rfl) ..
@[simp] theorem State.queueEvents_fst_sec (src value : Nat) : ((s.queueEvents src value).1).sec = s.sec := s.queueEvents_keeps (fun u : State => u.sec) (fun _ _ => rfl) ..
@[simp] theorem State.queueEvents_fst_otp (src value : Nat) : ((s.queueEvents src value).1).otp = s.otp := s.queueEvents_keeps (fun u : State => u.otp) (fun _ _ => rfl) ..
@[simp] theorem State.queueEvents_fst_get (src value : Nat) (key : Nat) : ((s.queueEvents src value).1).get key = s.get key := by simp [State.get]

@[simp] theorem State.raiseBit_fst_pending (e : EventObj) (k : Nat) : ((s.raiseBit e k).1).pending = s.pending := s.raiseBit_keeps (fun u : State => u.pending) (fun _ _ _ => rfl) ..
@[simp] theorem State.raiseBit_fst_published (e : EventObj) (k : Nat) : ((s.raiseBit e k).1).published = s.published := s.raiseBit_keeps (fun u : State => u.published) (fun _ _ _ => rfl) ..
@[simp] theorem State.raiseBit_fst_mram (e : EventObj) (k : Nat) : ((s.raiseBit e k).1).mram = s.mram := s.raiseBit_keeps (fun u : State => u.mram) (fun _ _ _ => rfl) ..
@[simp] theorem State.raiseBit_fst_now (e : EventObj) (k : Nat) : ((s.raiseBit e k).1).now = s.now := s.raiseBit_keeps (fun u : State => u.now) (fun _ _ _ => rfl) ..
@[simp] theorem State.raiseBit_fst_freeIdx (e : EventObj) (k : Nat) : ((s.raiseBit e k).1).freeIdx = s.freeIdx := s.raiseBit_keeps (fun u : State => u.freeIdx) (fun _ _ _ => rfl) ..
@[simp] theorem State.raiseBit_fst_answer (e : EventObj) (k : Nat) : ((s.raiseBit e k).1).answer = s.answer := s.raiseBit_keeps (fun u : State => u.answer) (fun _ _ _ => rfl) ..
@[simp] theorem State.raiseBit_fst_deferred (e : EventObj) (k : Nat) : ((s.raiseBit e k).1).deferred = s.deferred := s.raiseBit_keeps (fun u : State => u.deferred) (fun _ _ _ => rfl) ..
@[simp] theorem State.raiseBit_fst_afterBoot (e : EventObj) (k : Nat) : ((s.raiseBit e k).1).afterBoot = s.afterBoot := s.raiseBit_keeps (fun u : State => u.afterBoot) (fun _ _ _ => rfl) ..
@[simp] theorem State.raiseBit_fst_caps (e : EventObj) (k : Nat) : ((s.raiseBit e k).1).caps = s.caps := s.raiseBit_keeps (fun u : State => u.caps) (fun _ _ _ => rfl) ..
@[simp] theorem State.raiseBit_fst_modes (e : EventObj) (k : Nat) : ((s.raiseBit e k).1).modes = s.modes := s.raiseBit_keeps (fun u : State => u.modes) (fun _ _ _ => rfl) ..
@[simp] theorem State.raiseBit_fst_history (e : EventObj) (k : Nat) : ((s.raiseBit e k).1).history = s.history := s.raiseBit_keeps (fun u : State => u.history) (fun _ _ _ => rfl) ..
@[simp] theorem State.raiseBit_fst_ops (e : EventObj) (k : Nat) : ((s.raiseBit e k).1).ops = s.ops := s.raiseBit_keeps (fun u : State => u.ops) (fun _ _ _ => rfl) ..
@[simp] theorem State.raiseBit_fst_phases (e : EventObj) (k : Nat) : ((s.raiseBit e k).1).phases = s.phases := s.raiseBit_keeps (fun u : State => u.phases) (fun _ _ _ => rfl) ..
@[simp] theorem State.raiseBit_fst_tiles (e : EventObj) (k : Nat) : ((s.raiseBit e k).1).tiles = s.tiles := s.raiseBit_keeps (fun u : State => u.tiles) (fun _ _ _ => rfl) ..
@[simp] theorem State.raiseBit_fst_frame (e : EventObj) (k : Nat) : ((s.raiseBit e k).1).frame = s.frame := s.raiseBit_keeps (fun u : State => u.frame) (fun _ _ _ => rfl) ..
@[simp] theorem State.raiseBit_fst_rails (e : EventObj) (k : Nat) : ((s.raiseBit e k).1).rails = s.rails := s.raiseBit_keeps (fun u : State => u.rails) (fun _ _ _ => rfl) ..
@[simp] theorem State.raiseBit_fst_auxs (e : EventObj) (k : Nat) : ((s.raiseBit e k).1).auxs = s.auxs := s.raiseBit_keeps (fun u : State => u.auxs) (fun _ _ _ => rfl) ..
@[simp] theorem State.raiseBit_fst_seq (e : EventObj) (k : Nat) : ((s.raiseBit e k).1).seq = s.seq := s.raiseBit_keeps (fun u : State => u.seq) (fun _ _ _ => rfl) ..
@[simp] theorem State.raiseBit_fst_bus (e : EventObj) (k : Nat) : ((s.raiseBit e k).1).bus = s.bus := s.raiseBit_keeps (fun u : State => u.bus) (fun _ _ _ => rfl) ..
@[simp] theorem State.raiseBit_fst_sup (e : EventObj) (k : Nat) : ((s.raiseBit e k).1).sup = s.sup := s.raiseBit_keeps (fun u : State => u.sup) (fun _ _ _ => rfl) ..
@[simp] theorem State.raiseBit_fst_path (e : EventObj) (k : Nat) : ((s.raiseBit e k).1).path = s.path := s.raiseBit_keeps (fun u : State => u.path) (fun _ _ _ => rfl) ..
@[simp] theorem State.raiseBit_fst_chg (e : EventObj) (k : Nat) : ((s.raiseBit e k).1).chg = s.chg := s.raiseBit_keeps (fun u : State => u.chg) (fun _ _ _ => rfl) ..
@[simp] theorem State.raiseBit_fst_est (e : EventObj) (k : Nat) : ((s.raiseBit e k).1).est = s.est := s.raiseBit_keeps (fun u : State => u.est) (fun _ _ _ => rfl) ..
@[simp] theorem State.raiseBit_fst_met (e : EventObj) (k : Nat) : ((s.raiseBit e k).1).met = s.met := s.raiseBit_keeps (fun u : State => u.met) (fun _ _ _ => rfl) ..
@[simp] theorem State.raiseBit_fst_therm (e : EventObj) (k : Nat) : ((s.raiseBit e k).1).therm = s.therm := s.raiseBit_keeps (fun u : State => u.therm) (fun _ _ _ => rfl) ..
@[simp] theorem State.raiseBit_fst_nvm (e : EventObj) (k : Nat) : ((s.raiseBit e k).1).nvm = s.nvm := s.raiseBit_keeps (fun u : State => u.nvm) (fun _ _ _ => rfl) ..
@[simp] theorem State.raiseBit_fst_dma (e : EventObj) (k : Nat) : ((s.raiseBit e k).1).dma = s.dma := s.raiseBit_keeps (fun u : State => u.dma) (fun _ _ _ => rfl) ..
@[simp] theorem State.raiseBit_fst_mir (e : EventObj) (k : Nat) : ((s.raiseBit e k).1).mir = s.mir := s.raiseBit_keeps (fun u : State => u.mir) (fun _ _ _ => rfl) ..
@[simp] theorem State.raiseBit_fst_net (e : EventObj) (k : Nat) : ((s.raiseBit e k).1).net = s.net := s.raiseBit_keeps (fun u : State => u.net) (fun _ _ _ => rfl) ..
@[simp] theorem State.raiseBit_fst_cfg (e : EventObj) (k : Nat) : ((s.raiseBit e k).1).cfg = s.cfg := s.raiseBit_keeps (fun u : State => u.cfg) (fun _ _ _ => rfl) ..
@[simp] theorem State.raiseBit_fst_ports (e : EventObj) (k : Nat) : ((s.raiseBit e k).1).ports = s.ports := s.raiseBit_keeps (fun u : State => u.ports) (fun _ _ _ => rfl) ..
@[simp] theorem State.raiseBit_fst_links (e : EventObj) (k : Nat) : ((s.raiseBit e k).1).links = s.links := s.raiseBit_keeps (fun u : State => u.links) (fun _ _ _ => rfl) ..
@[simp] theorem State.raiseBit_fst_hab (e : EventObj) (k : Nat) : ((s.raiseBit e k).1).hab = s.hab := s.raiseBit_keeps (fun u : State => u.hab) (fun _ _ _ => rfl) ..
@[simp] theorem State.raiseBit_fst_oasis (e : EventObj) (k : Nat) : ((s.raiseBit e k).1).oasis = s.oasis := s.raiseBit_keeps (fun u : State => u.oasis) (fun _ _ _ => rfl) ..
@[simp] theorem State.raiseBit_fst_ledger (e : EventObj) (k : Nat) : ((s.raiseBit e k).1).ledger = s.ledger := s.raiseBit_keeps (fun u : State => u.ledger) (fun _ _ _ => rfl) ..
@[simp] theorem State.raiseBit_fst_sec (e : EventObj) (k : Nat) : ((s.raiseBit e k).1).sec = s.sec := s.raiseBit_keeps (fun u : State => u.sec) (fun _ _ _ => rfl) ..
@[simp] theorem State.raiseBit_fst_otp (e : EventObj) (k : Nat) : ((s.raiseBit e k).1).otp = s.otp := s.raiseBit_keeps (fun u : State => u.otp) (fun _ _ _ => rfl) ..

@[simp] theorem State.raiseHeard_fst_pending (e : EventObj) (k : Nat) : ((s.raiseHeard e k).1).pending = s.pending := s.raiseHeard_keeps (fun u : State => u.pending) (fun _ _ _ _ => rfl) ..
@[simp] theorem State.raiseHeard_fst_published (e : EventObj) (k : Nat) : ((s.raiseHeard e k).1).published = s.published := s.raiseHeard_keeps (fun u : State => u.published) (fun _ _ _ _ => rfl) ..
@[simp] theorem State.raiseHeard_fst_mram (e : EventObj) (k : Nat) : ((s.raiseHeard e k).1).mram = s.mram := s.raiseHeard_keeps (fun u : State => u.mram) (fun _ _ _ _ => rfl) ..
@[simp] theorem State.raiseHeard_fst_now (e : EventObj) (k : Nat) : ((s.raiseHeard e k).1).now = s.now := s.raiseHeard_keeps (fun u : State => u.now) (fun _ _ _ _ => rfl) ..
@[simp] theorem State.raiseHeard_fst_freeIdx (e : EventObj) (k : Nat) : ((s.raiseHeard e k).1).freeIdx = s.freeIdx := s.raiseHeard_keeps (fun u : State => u.freeIdx) (fun _ _ _ _ => rfl) ..
@[simp] theorem State.raiseHeard_fst_answer (e : EventObj) (k : Nat) : ((s.raiseHeard e k).1).answer = s.answer := s.raiseHeard_keeps (fun u : State => u.answer) (fun _ _ _ _ => rfl) ..
@[simp] theorem State.raiseHeard_fst_deferred (e : EventObj) (k : Nat) : ((s.raiseHeard e k).1).deferred = s.deferred := s.raiseHeard_keeps (fun u : State => u.deferred) (fun _ _ _ _ => rfl) ..
@[simp] theorem State.raiseHeard_fst_afterBoot (e : EventObj) (k : Nat) : ((s.raiseHeard e k).1).afterBoot = s.afterBoot := s.raiseHeard_keeps (fun u : State => u.afterBoot) (fun _ _ _ _ => rfl) ..
@[simp] theorem State.raiseHeard_fst_caps (e : EventObj) (k : Nat) : ((s.raiseHeard e k).1).caps = s.caps := s.raiseHeard_keeps (fun u : State => u.caps) (fun _ _ _ _ => rfl) ..
@[simp] theorem State.raiseHeard_fst_modes (e : EventObj) (k : Nat) : ((s.raiseHeard e k).1).modes = s.modes := s.raiseHeard_keeps (fun u : State => u.modes) (fun _ _ _ _ => rfl) ..
@[simp] theorem State.raiseHeard_fst_history (e : EventObj) (k : Nat) : ((s.raiseHeard e k).1).history = s.history := s.raiseHeard_keeps (fun u : State => u.history) (fun _ _ _ _ => rfl) ..
@[simp] theorem State.raiseHeard_fst_ops (e : EventObj) (k : Nat) : ((s.raiseHeard e k).1).ops = s.ops := s.raiseHeard_keeps (fun u : State => u.ops) (fun _ _ _ _ => rfl) ..
@[simp] theorem State.raiseHeard_fst_phases (e : EventObj) (k : Nat) : ((s.raiseHeard e k).1).phases = s.phases := s.raiseHeard_keeps (fun u : State => u.phases) (fun _ _ _ _ => rfl) ..
@[simp] theorem State.raiseHeard_fst_tiles (e : EventObj) (k : Nat) : ((s.raiseHeard e k).1).tiles = s.tiles := s.raiseHeard_keeps (fun u : State => u.tiles) (fun _ _ _ _ => rfl) ..
@[simp] theorem State.raiseHeard_fst_frame (e : EventObj) (k : Nat) : ((s.raiseHeard e k).1).frame = s.frame := s.raiseHeard_keeps (fun u : State => u.frame) (fun _ _ _ _ => rfl) ..
@[simp] theorem State.raiseHeard_fst_rails (e : EventObj) (k : Nat) : ((s.raiseHeard e k).1).rails = s.rails := s.raiseHeard_keeps (fun u : State => u.rails) (fun _ _ _ _ => rfl) ..
@[simp] theorem State.raiseHeard_fst_auxs (e : EventObj) (k : Nat) : ((s.raiseHeard e k).1).auxs = s.auxs := s.raiseHeard_keeps (fun u : State => u.auxs) (fun _ _ _ _ => rfl) ..
@[simp] theorem State.raiseHeard_fst_seq (e : EventObj) (k : Nat) : ((s.raiseHeard e k).1).seq = s.seq := s.raiseHeard_keeps (fun u : State => u.seq) (fun _ _ _ _ => rfl) ..
@[simp] theorem State.raiseHeard_fst_bus (e : EventObj) (k : Nat) : ((s.raiseHeard e k).1).bus = s.bus := s.raiseHeard_keeps (fun u : State => u.bus) (fun _ _ _ _ => rfl) ..
@[simp] theorem State.raiseHeard_fst_sup (e : EventObj) (k : Nat) : ((s.raiseHeard e k).1).sup = s.sup := s.raiseHeard_keeps (fun u : State => u.sup) (fun _ _ _ _ => rfl) ..
@[simp] theorem State.raiseHeard_fst_path (e : EventObj) (k : Nat) : ((s.raiseHeard e k).1).path = s.path := s.raiseHeard_keeps (fun u : State => u.path) (fun _ _ _ _ => rfl) ..
@[simp] theorem State.raiseHeard_fst_chg (e : EventObj) (k : Nat) : ((s.raiseHeard e k).1).chg = s.chg := s.raiseHeard_keeps (fun u : State => u.chg) (fun _ _ _ _ => rfl) ..
@[simp] theorem State.raiseHeard_fst_est (e : EventObj) (k : Nat) : ((s.raiseHeard e k).1).est = s.est := s.raiseHeard_keeps (fun u : State => u.est) (fun _ _ _ _ => rfl) ..
@[simp] theorem State.raiseHeard_fst_met (e : EventObj) (k : Nat) : ((s.raiseHeard e k).1).met = s.met := s.raiseHeard_keeps (fun u : State => u.met) (fun _ _ _ _ => rfl) ..
@[simp] theorem State.raiseHeard_fst_therm (e : EventObj) (k : Nat) : ((s.raiseHeard e k).1).therm = s.therm := s.raiseHeard_keeps (fun u : State => u.therm) (fun _ _ _ _ => rfl) ..
@[simp] theorem State.raiseHeard_fst_nvm (e : EventObj) (k : Nat) : ((s.raiseHeard e k).1).nvm = s.nvm := s.raiseHeard_keeps (fun u : State => u.nvm) (fun _ _ _ _ => rfl) ..
@[simp] theorem State.raiseHeard_fst_dma (e : EventObj) (k : Nat) : ((s.raiseHeard e k).1).dma = s.dma := s.raiseHeard_keeps (fun u : State => u.dma) (fun _ _ _ _ => rfl) ..
@[simp] theorem State.raiseHeard_fst_mir (e : EventObj) (k : Nat) : ((s.raiseHeard e k).1).mir = s.mir := s.raiseHeard_keeps (fun u : State => u.mir) (fun _ _ _ _ => rfl) ..
@[simp] theorem State.raiseHeard_fst_cfg (e : EventObj) (k : Nat) : ((s.raiseHeard e k).1).cfg = s.cfg := s.raiseHeard_keeps (fun u : State => u.cfg) (fun _ _ _ _ => rfl) ..
@[simp] theorem State.raiseHeard_fst_ports (e : EventObj) (k : Nat) : ((s.raiseHeard e k).1).ports = s.ports := s.raiseHeard_keeps (fun u : State => u.ports) (fun _ _ _ _ => rfl) ..
@[simp] theorem State.raiseHeard_fst_links (e : EventObj) (k : Nat) : ((s.raiseHeard e k).1).links = s.links := s.raiseHeard_keeps (fun u : State => u.links) (fun _ _ _ _ => rfl) ..
@[simp] theorem State.raiseHeard_fst_hab (e : EventObj) (k : Nat) : ((s.raiseHeard e k).1).hab = s.hab := s.raiseHeard_keeps (fun u : State => u.hab) (fun _ _ _ _ => rfl) ..
@[simp] theorem State.raiseHeard_fst_oasis (e : EventObj) (k : Nat) : ((s.raiseHeard e k).1).oasis = s.oasis := s.raiseHeard_keeps (fun u : State => u.oasis) (fun _ _ _ _ => rfl) ..
@[simp] theorem State.raiseHeard_fst_ledger (e : EventObj) (k : Nat) : ((s.raiseHeard e k).1).ledger = s.ledger := s.raiseHeard_keeps (fun u : State => u.ledger) (fun _ _ _ _ => rfl) ..
@[simp] theorem State.raiseHeard_fst_sec (e : EventObj) (k : Nat) : ((s.raiseHeard e k).1).sec = s.sec := s.raiseHeard_keeps (fun u : State => u.sec) (fun _ _ _ _ => rfl) ..
@[simp] theorem State.raiseHeard_fst_otp (e : EventObj) (k : Nat) : ((s.raiseHeard e k).1).otp = s.otp := s.raiseHeard_keeps (fun u : State => u.otp) (fun _ _ _ _ => rfl) ..

@[simp] theorem State.countDrops_pending (n : Nat) : (s.countDrops n).pending = s.pending := s.countDrops_keeps (fun u : State => u.pending) (fun _ _ _ _ => rfl) ..
@[simp] theorem State.countDrops_published (n : Nat) : (s.countDrops n).published = s.published := s.countDrops_keeps (fun u : State => u.published) (fun _ _ _ _ => rfl) ..
@[simp] theorem State.countDrops_mram (n : Nat) : (s.countDrops n).mram = s.mram := s.countDrops_keeps (fun u : State => u.mram) (fun _ _ _ _ => rfl) ..
@[simp] theorem State.countDrops_now (n : Nat) : (s.countDrops n).now = s.now := s.countDrops_keeps (fun u : State => u.now) (fun _ _ _ _ => rfl) ..
@[simp] theorem State.countDrops_freeIdx (n : Nat) : (s.countDrops n).freeIdx = s.freeIdx := s.countDrops_keeps (fun u : State => u.freeIdx) (fun _ _ _ _ => rfl) ..
@[simp] theorem State.countDrops_answer (n : Nat) : (s.countDrops n).answer = s.answer := s.countDrops_keeps (fun u : State => u.answer) (fun _ _ _ _ => rfl) ..
@[simp] theorem State.countDrops_deferred (n : Nat) : (s.countDrops n).deferred = s.deferred := s.countDrops_keeps (fun u : State => u.deferred) (fun _ _ _ _ => rfl) ..
@[simp] theorem State.countDrops_afterBoot (n : Nat) : (s.countDrops n).afterBoot = s.afterBoot := s.countDrops_keeps (fun u : State => u.afterBoot) (fun _ _ _ _ => rfl) ..
@[simp] theorem State.countDrops_caps (n : Nat) : (s.countDrops n).caps = s.caps := s.countDrops_keeps (fun u : State => u.caps) (fun _ _ _ _ => rfl) ..
@[simp] theorem State.countDrops_modes (n : Nat) : (s.countDrops n).modes = s.modes := s.countDrops_keeps (fun u : State => u.modes) (fun _ _ _ _ => rfl) ..
@[simp] theorem State.countDrops_history (n : Nat) : (s.countDrops n).history = s.history := s.countDrops_keeps (fun u : State => u.history) (fun _ _ _ _ => rfl) ..
@[simp] theorem State.countDrops_ops (n : Nat) : (s.countDrops n).ops = s.ops := s.countDrops_keeps (fun u : State => u.ops) (fun _ _ _ _ => rfl) ..
@[simp] theorem State.countDrops_phases (n : Nat) : (s.countDrops n).phases = s.phases := s.countDrops_keeps (fun u : State => u.phases) (fun _ _ _ _ => rfl) ..
@[simp] theorem State.countDrops_tiles (n : Nat) : (s.countDrops n).tiles = s.tiles := s.countDrops_keeps (fun u : State => u.tiles) (fun _ _ _ _ => rfl) ..
@[simp] theorem State.countDrops_frame (n : Nat) : (s.countDrops n).frame = s.frame := s.countDrops_keeps (fun u : State => u.frame) (fun _ _ _ _ => rfl) ..
@[simp] theorem State.countDrops_rails (n : Nat) : (s.countDrops n).rails = s.rails := s.countDrops_keeps (fun u : State => u.rails) (fun _ _ _ _ => rfl) ..
@[simp] theorem State.countDrops_auxs (n : Nat) : (s.countDrops n).auxs = s.auxs := s.countDrops_keeps (fun u : State => u.auxs) (fun _ _ _ _ => rfl) ..
@[simp] theorem State.countDrops_seq (n : Nat) : (s.countDrops n).seq = s.seq := s.countDrops_keeps (fun u : State => u.seq) (fun _ _ _ _ => rfl) ..
@[simp] theorem State.countDrops_bus (n : Nat) : (s.countDrops n).bus = s.bus := s.countDrops_keeps (fun u : State => u.bus) (fun _ _ _ _ => rfl) ..
@[simp] theorem State.countDrops_sup (n : Nat) : (s.countDrops n).sup = s.sup := s.countDrops_keeps (fun u : State => u.sup) (fun _ _ _ _ => rfl) ..
@[simp] theorem State.countDrops_path (n : Nat) : (s.countDrops n).path = s.path := s.countDrops_keeps (fun u : State => u.path) (fun _ _ _ _ => rfl) ..
@[simp] theorem State.countDrops_chg (n : Nat) : (s.countDrops n).chg = s.chg := s.countDrops_keeps (fun u : State => u.chg) (fun _ _ _ _ => rfl) ..
@[simp] theorem State.countDrops_est (n : Nat) : (s.countDrops n).est = s.est := s.countDrops_keeps (fun u : State => u.est) (fun _ _ _ _ => rfl) ..
@[simp] theorem State.countDrops_met (n : Nat) : (s.countDrops n).met = s.met := s.countDrops_keeps (fun u : State => u.met) (fun _ _ _ _ => rfl) ..
@[simp] theorem State.countDrops_therm (n : Nat) : (s.countDrops n).therm = s.therm := s.countDrops_keeps (fun u : State => u.therm) (fun _ _ _ _ => rfl) ..
@[simp] theorem State.countDrops_nvm (n : Nat) : (s.countDrops n).nvm = s.nvm := s.countDrops_keeps (fun u : State => u.nvm) (fun _ _ _ _ => rfl) ..
@[simp] theorem State.countDrops_dma (n : Nat) : (s.countDrops n).dma = s.dma := s.countDrops_keeps (fun u : State => u.dma) (fun _ _ _ _ => rfl) ..
@[simp] theorem State.countDrops_mir (n : Nat) : (s.countDrops n).mir = s.mir := s.countDrops_keeps (fun u : State => u.mir) (fun _ _ _ _ => rfl) ..
@[simp] theorem State.countDrops_cfg (n : Nat) : (s.countDrops n).cfg = s.cfg := s.countDrops_keeps (fun u : State => u.cfg) (fun _ _ _ _ => rfl) ..
@[simp] theorem State.countDrops_ports (n : Nat) : (s.countDrops n).ports = s.ports := s.countDrops_keeps (fun u : State => u.ports) (fun _ _ _ _ => rfl) ..
@[simp] theorem State.countDrops_links (n : Nat) : (s.countDrops n).links = s.links := s.countDrops_keeps (fun u : State => u.links) (fun _ _ _ _ => rfl) ..
@[simp] theorem State.countDrops_hab (n : Nat) : (s.countDrops n).hab = s.hab := s.countDrops_keeps (fun u : State => u.hab) (fun _ _ _ _ => rfl) ..
@[simp] theorem State.countDrops_oasis (n : Nat) : (s.countDrops n).oasis = s.oasis := s.countDrops_keeps (fun u : State => u.oasis) (fun _ _ _ _ => rfl) ..
@[simp] theorem State.countDrops_ledger (n : Nat) : (s.countDrops n).ledger = s.ledger := s.countDrops_keeps (fun u : State => u.ledger) (fun _ _ _ _ => rfl) ..
@[simp] theorem State.countDrops_sec (n : Nat) : (s.countDrops n).sec = s.sec := s.countDrops_keeps (fun u : State => u.sec) (fun _ _ _ _ => rfl) ..
@[simp] theorem State.countDrops_otp (n : Nat) : (s.countDrops n).otp = s.otp := s.countDrops_keeps (fun u : State => u.otp) (fun _ _ _ _ => rfl) ..

@[simp] theorem State.raise_pending (e : EventObj) (k : Nat) : (s.raise e k).pending = s.pending := s.raise_keeps (fun u : State => u.pending) (fun _ _ _ _ => rfl) ..
@[simp] theorem State.raise_published (e : EventObj) (k : Nat) : (s.raise e k).published = s.published := s.raise_keeps (fun u : State => u.published) (fun _ _ _ _ => rfl) ..
@[simp] theorem State.raise_mram (e : EventObj) (k : Nat) : (s.raise e k).mram = s.mram := s.raise_keeps (fun u : State => u.mram) (fun _ _ _ _ => rfl) ..
@[simp] theorem State.raise_now (e : EventObj) (k : Nat) : (s.raise e k).now = s.now := s.raise_keeps (fun u : State => u.now) (fun _ _ _ _ => rfl) ..
@[simp] theorem State.raise_freeIdx (e : EventObj) (k : Nat) : (s.raise e k).freeIdx = s.freeIdx := s.raise_keeps (fun u : State => u.freeIdx) (fun _ _ _ _ => rfl) ..
@[simp] theorem State.raise_answer (e : EventObj) (k : Nat) : (s.raise e k).answer = s.answer := s.raise_keeps (fun u : State => u.answer) (fun _ _ _ _ => rfl) ..
@[simp] theorem State.raise_deferred (e : EventObj) (k : Nat) : (s.raise e k).deferred = s.deferred := s.raise_keeps (fun u : State => u.deferred) (fun _ _ _ _ => rfl) ..
@[simp] theorem State.raise_afterBoot (e : EventObj) (k : Nat) : (s.raise e k).afterBoot = s.afterBoot := s.raise_keeps (fun u : State => u.afterBoot) (fun _ _ _ _ => rfl) ..
@[simp] theorem State.raise_caps (e : EventObj) (k : Nat) : (s.raise e k).caps = s.caps := s.raise_keeps (fun u : State => u.caps) (fun _ _ _ _ => rfl) ..
@[simp] theorem State.raise_modes (e : EventObj) (k : Nat) : (s.raise e k).modes = s.modes := s.raise_keeps (fun u : State => u.modes) (fun _ _ _ _ => rfl) ..
@[simp] theorem State.raise_history (e : EventObj) (k : Nat) : (s.raise e k).history = s.history := s.raise_keeps (fun u : State => u.history) (fun _ _ _ _ => rfl) ..
@[simp] theorem State.raise_ops (e : EventObj) (k : Nat) : (s.raise e k).ops = s.ops := s.raise_keeps (fun u : State => u.ops) (fun _ _ _ _ => rfl) ..
@[simp] theorem State.raise_phases (e : EventObj) (k : Nat) : (s.raise e k).phases = s.phases := s.raise_keeps (fun u : State => u.phases) (fun _ _ _ _ => rfl) ..
@[simp] theorem State.raise_tiles (e : EventObj) (k : Nat) : (s.raise e k).tiles = s.tiles := s.raise_keeps (fun u : State => u.tiles) (fun _ _ _ _ => rfl) ..
@[simp] theorem State.raise_frame (e : EventObj) (k : Nat) : (s.raise e k).frame = s.frame := s.raise_keeps (fun u : State => u.frame) (fun _ _ _ _ => rfl) ..
@[simp] theorem State.raise_rails (e : EventObj) (k : Nat) : (s.raise e k).rails = s.rails := s.raise_keeps (fun u : State => u.rails) (fun _ _ _ _ => rfl) ..
@[simp] theorem State.raise_auxs (e : EventObj) (k : Nat) : (s.raise e k).auxs = s.auxs := s.raise_keeps (fun u : State => u.auxs) (fun _ _ _ _ => rfl) ..
@[simp] theorem State.raise_seq (e : EventObj) (k : Nat) : (s.raise e k).seq = s.seq := s.raise_keeps (fun u : State => u.seq) (fun _ _ _ _ => rfl) ..
@[simp] theorem State.raise_bus (e : EventObj) (k : Nat) : (s.raise e k).bus = s.bus := s.raise_keeps (fun u : State => u.bus) (fun _ _ _ _ => rfl) ..
@[simp] theorem State.raise_sup (e : EventObj) (k : Nat) : (s.raise e k).sup = s.sup := s.raise_keeps (fun u : State => u.sup) (fun _ _ _ _ => rfl) ..
@[simp] theorem State.raise_path (e : EventObj) (k : Nat) : (s.raise e k).path = s.path := s.raise_keeps (fun u : State => u.path) (fun _ _ _ _ => rfl) ..
@[simp] theorem State.raise_chg (e : EventObj) (k : Nat) : (s.raise e k).chg = s.chg := s.raise_keeps (fun u : State => u.chg) (fun _ _ _ _ => rfl) ..
@[simp] theorem State.raise_est (e : EventObj) (k : Nat) : (s.raise e k).est = s.est := s.raise_keeps (fun u : State => u.est) (fun _ _ _ _ => rfl) ..
@[simp] theorem State.raise_met (e : EventObj) (k : Nat) : (s.raise e k).met = s.met := s.raise_keeps (fun u : State => u.met) (fun _ _ _ _ => rfl) ..
@[simp] theorem State.raise_therm (e : EventObj) (k : Nat) : (s.raise e k).therm = s.therm := s.raise_keeps (fun u : State => u.therm) (fun _ _ _ _ => rfl) ..
@[simp] theorem State.raise_nvm (e : EventObj) (k : Nat) : (s.raise e k).nvm = s.nvm := s.raise_keeps (fun u : State => u.nvm) (fun _ _ _ _ => rfl) ..
@[simp] theorem State.raise_dma (e : EventObj) (k : Nat) : (s.raise e k).dma = s.dma := s.raise_keeps (fun u : State => u.dma) (fun _ _ _ _ => rfl) ..
@[simp] theorem State.raise_mir (e : EventObj) (k : Nat) : (s.raise e k).mir = s.mir := s.raise_keeps (fun u : State => u.mir) (fun _ _ _ _ => rfl) ..
@[simp] theorem State.raise_cfg (e : EventObj) (k : Nat) : (s.raise e k).cfg = s.cfg := s.raise_keeps (fun u : State => u.cfg) (fun _ _ _ _ => rfl) ..
@[simp] theorem State.raise_ports (e : EventObj) (k : Nat) : (s.raise e k).ports = s.ports := s.raise_keeps (fun u : State => u.ports) (fun _ _ _ _ => rfl) ..
@[simp] theorem State.raise_links (e : EventObj) (k : Nat) : (s.raise e k).links = s.links := s.raise_keeps (fun u : State => u.links) (fun _ _ _ _ => rfl) ..
@[simp] theorem State.raise_hab (e : EventObj) (k : Nat) : (s.raise e k).hab = s.hab := s.raise_keeps (fun u : State => u.hab) (fun _ _ _ _ => rfl) ..
@[simp] theorem State.raise_oasis (e : EventObj) (k : Nat) : (s.raise e k).oasis = s.oasis := s.raise_keeps (fun u : State => u.oasis) (fun _ _ _ _ => rfl) ..
@[simp] theorem State.raise_ledger (e : EventObj) (k : Nat) : (s.raise e k).ledger = s.ledger := s.raise_keeps (fun u : State => u.ledger) (fun _ _ _ _ => rfl) ..
@[simp] theorem State.raise_sec (e : EventObj) (k : Nat) : (s.raise e k).sec = s.sec := s.raise_keeps (fun u : State => u.sec) (fun _ _ _ _ => rfl) ..
@[simp] theorem State.raise_otp (e : EventObj) (k : Nat) : (s.raise e k).otp = s.otp := s.raise_keeps (fun u : State => u.otp) (fun _ _ _ _ => rfl) ..

@[simp] theorem State.bump_pending (key : Nat) : (s.bump key).pending = s.pending := s.bump_keeps (fun u : State => u.pending) (fun _ _ _ _ _ _ => rfl) ..
@[simp] theorem State.bump_published (key : Nat) : (s.bump key).published = s.published := s.bump_keeps (fun u : State => u.published) (fun _ _ _ _ _ _ => rfl) ..
@[simp] theorem State.bump_mram (key : Nat) : (s.bump key).mram = s.mram := s.bump_keeps (fun u : State => u.mram) (fun _ _ _ _ _ _ => rfl) ..
@[simp] theorem State.bump_now (key : Nat) : (s.bump key).now = s.now := s.bump_keeps (fun u : State => u.now) (fun _ _ _ _ _ _ => rfl) ..
@[simp] theorem State.bump_freeIdx (key : Nat) : (s.bump key).freeIdx = s.freeIdx := s.bump_keeps (fun u : State => u.freeIdx) (fun _ _ _ _ _ _ => rfl) ..
@[simp] theorem State.bump_answer (key : Nat) : (s.bump key).answer = s.answer := s.bump_keeps (fun u : State => u.answer) (fun _ _ _ _ _ _ => rfl) ..
@[simp] theorem State.bump_caps (key : Nat) : (s.bump key).caps = s.caps := s.bump_keeps (fun u : State => u.caps) (fun _ _ _ _ _ _ => rfl) ..
@[simp] theorem State.bump_modes (key : Nat) : (s.bump key).modes = s.modes := s.bump_keeps (fun u : State => u.modes) (fun _ _ _ _ _ _ => rfl) ..
@[simp] theorem State.bump_history (key : Nat) : (s.bump key).history = s.history := s.bump_keeps (fun u : State => u.history) (fun _ _ _ _ _ _ => rfl) ..
@[simp] theorem State.bump_ops (key : Nat) : (s.bump key).ops = s.ops := s.bump_keeps (fun u : State => u.ops) (fun _ _ _ _ _ _ => rfl) ..
@[simp] theorem State.bump_phases (key : Nat) : (s.bump key).phases = s.phases := s.bump_keeps (fun u : State => u.phases) (fun _ _ _ _ _ _ => rfl) ..
@[simp] theorem State.bump_tiles (key : Nat) : (s.bump key).tiles = s.tiles := s.bump_keeps (fun u : State => u.tiles) (fun _ _ _ _ _ _ => rfl) ..
@[simp] theorem State.bump_frame (key : Nat) : (s.bump key).frame = s.frame := s.bump_keeps (fun u : State => u.frame) (fun _ _ _ _ _ _ => rfl) ..
@[simp] theorem State.bump_rails (key : Nat) : (s.bump key).rails = s.rails := s.bump_keeps (fun u : State => u.rails) (fun _ _ _ _ _ _ => rfl) ..
@[simp] theorem State.bump_auxs (key : Nat) : (s.bump key).auxs = s.auxs := s.bump_keeps (fun u : State => u.auxs) (fun _ _ _ _ _ _ => rfl) ..
@[simp] theorem State.bump_seq (key : Nat) : (s.bump key).seq = s.seq := s.bump_keeps (fun u : State => u.seq) (fun _ _ _ _ _ _ => rfl) ..
@[simp] theorem State.bump_bus (key : Nat) : (s.bump key).bus = s.bus := s.bump_keeps (fun u : State => u.bus) (fun _ _ _ _ _ _ => rfl) ..
@[simp] theorem State.bump_sup (key : Nat) : (s.bump key).sup = s.sup := s.bump_keeps (fun u : State => u.sup) (fun _ _ _ _ _ _ => rfl) ..
@[simp] theorem State.bump_path (key : Nat) : (s.bump key).path = s.path := s.bump_keeps (fun u : State => u.path) (fun _ _ _ _ _ _ => rfl) ..
@[simp] theorem State.bump_chg (key : Nat) : (s.bump key).chg = s.chg := s.bump_keeps (fun u : State => u.chg) (fun _ _ _ _ _ _ => rfl) ..
@[simp] theorem State.bump_est (key : Nat) : (s.bump key).est = s.est := s.bump_keeps (fun u : State => u.est) (fun _ _ _ _ _ _ => rfl) ..
@[simp] theorem State.bump_met (key : Nat) : (s.bump key).met = s.met := s.bump_keeps (fun u : State => u.met) (fun _ _ _ _ _ _ => rfl) ..
@[simp] theorem State.bump_therm (key : Nat) : (s.bump key).therm = s.therm := s.bump_keeps (fun u : State => u.therm) (fun _ _ _ _ _ _ => rfl) ..
@[simp] theorem State.bump_nvm (key : Nat) : (s.bump key).nvm = s.nvm := s.bump_keeps (fun u : State => u.nvm) (fun _ _ _ _ _ _ => rfl) ..
@[simp] theorem State.bump_dma (key : Nat) : (s.bump key).dma = s.dma := s.bump_keeps (fun u : State => u.dma) (fun _ _ _ _ _ _ => rfl) ..
@[simp] theorem State.bump_mir (key : Nat) : (s.bump key).mir = s.mir := s.bump_keeps (fun u : State => u.mir) (fun _ _ _ _ _ _ => rfl) ..
@[simp] theorem State.bump_cfg (key : Nat) : (s.bump key).cfg = s.cfg := s.bump_keeps (fun u : State => u.cfg) (fun _ _ _ _ _ _ => rfl) ..
@[simp] theorem State.bump_ports (key : Nat) : (s.bump key).ports = s.ports := s.bump_keeps (fun u : State => u.ports) (fun _ _ _ _ _ _ => rfl) ..
@[simp] theorem State.bump_links (key : Nat) : (s.bump key).links = s.links := s.bump_keeps (fun u : State => u.links) (fun _ _ _ _ _ _ => rfl) ..
@[simp] theorem State.bump_hab (key : Nat) : (s.bump key).hab = s.hab := s.bump_keeps (fun u : State => u.hab) (fun _ _ _ _ _ _ => rfl) ..
@[simp] theorem State.bump_oasis (key : Nat) : (s.bump key).oasis = s.oasis := s.bump_keeps (fun u : State => u.oasis) (fun _ _ _ _ _ _ => rfl) ..
@[simp] theorem State.bump_ledger (key : Nat) : (s.bump key).ledger = s.ledger := s.bump_keeps (fun u : State => u.ledger) (fun _ _ _ _ _ _ => rfl) ..
@[simp] theorem State.bump_sec (key : Nat) : (s.bump key).sec = s.sec := s.bump_keeps (fun u : State => u.sec) (fun _ _ _ _ _ _ => rfl) ..
@[simp] theorem State.bump_otp (key : Nat) : (s.bump key).otp = s.otp := s.bump_keeps (fun u : State => u.otp) (fun _ _ _ _ _ _ => rfl) ..

@[simp] theorem State.reportOp_pending (t : Nat) (e : OpEntry) : (s.reportOp t e).pending = s.pending := s.reportOp_keeps (fun u : State => u.pending) (fun _ _ _ _ => rfl) ..
@[simp] theorem State.reportOp_published (t : Nat) (e : OpEntry) : (s.reportOp t e).published = s.published := s.reportOp_keeps (fun u : State => u.published) (fun _ _ _ _ => rfl) ..
@[simp] theorem State.reportOp_mram (t : Nat) (e : OpEntry) : (s.reportOp t e).mram = s.mram := s.reportOp_keeps (fun u : State => u.mram) (fun _ _ _ _ => rfl) ..
@[simp] theorem State.reportOp_now (t : Nat) (e : OpEntry) : (s.reportOp t e).now = s.now := s.reportOp_keeps (fun u : State => u.now) (fun _ _ _ _ => rfl) ..
@[simp] theorem State.reportOp_freeIdx (t : Nat) (e : OpEntry) : (s.reportOp t e).freeIdx = s.freeIdx := s.reportOp_keeps (fun u : State => u.freeIdx) (fun _ _ _ _ => rfl) ..
@[simp] theorem State.reportOp_answer (t : Nat) (e : OpEntry) : (s.reportOp t e).answer = s.answer := s.reportOp_keeps (fun u : State => u.answer) (fun _ _ _ _ => rfl) ..
@[simp] theorem State.reportOp_deferred (t : Nat) (e : OpEntry) : (s.reportOp t e).deferred = s.deferred := s.reportOp_keeps (fun u : State => u.deferred) (fun _ _ _ _ => rfl) ..
@[simp] theorem State.reportOp_afterBoot (t : Nat) (e : OpEntry) : (s.reportOp t e).afterBoot = s.afterBoot := s.reportOp_keeps (fun u : State => u.afterBoot) (fun _ _ _ _ => rfl) ..
@[simp] theorem State.reportOp_caps (t : Nat) (e : OpEntry) : (s.reportOp t e).caps = s.caps := s.reportOp_keeps (fun u : State => u.caps) (fun _ _ _ _ => rfl) ..
@[simp] theorem State.reportOp_modes (t : Nat) (e : OpEntry) : (s.reportOp t e).modes = s.modes := s.reportOp_keeps (fun u : State => u.modes) (fun _ _ _ _ => rfl) ..
@[simp] theorem State.reportOp_history (t : Nat) (e : OpEntry) : (s.reportOp t e).history = s.history := s.reportOp_keeps (fun u : State => u.history) (fun _ _ _ _ => rfl) ..
@[simp] theorem State.reportOp_ops (t : Nat) (e : OpEntry) : (s.reportOp t e).ops = s.ops := s.reportOp_keeps (fun u : State => u.ops) (fun _ _ _ _ => rfl) ..
@[simp] theorem State.reportOp_phases (t : Nat) (e : OpEntry) : (s.reportOp t e).phases = s.phases := s.reportOp_keeps (fun u : State => u.phases) (fun _ _ _ _ => rfl) ..
@[simp] theorem State.reportOp_tiles (t : Nat) (e : OpEntry) : (s.reportOp t e).tiles = s.tiles := s.reportOp_keeps (fun u : State => u.tiles) (fun _ _ _ _ => rfl) ..
@[simp] theorem State.reportOp_frame (t : Nat) (e : OpEntry) : (s.reportOp t e).frame = s.frame := s.reportOp_keeps (fun u : State => u.frame) (fun _ _ _ _ => rfl) ..
@[simp] theorem State.reportOp_rails (t : Nat) (e : OpEntry) : (s.reportOp t e).rails = s.rails := s.reportOp_keeps (fun u : State => u.rails) (fun _ _ _ _ => rfl) ..
@[simp] theorem State.reportOp_auxs (t : Nat) (e : OpEntry) : (s.reportOp t e).auxs = s.auxs := s.reportOp_keeps (fun u : State => u.auxs) (fun _ _ _ _ => rfl) ..
@[simp] theorem State.reportOp_seq (t : Nat) (e : OpEntry) : (s.reportOp t e).seq = s.seq := s.reportOp_keeps (fun u : State => u.seq) (fun _ _ _ _ => rfl) ..
@[simp] theorem State.reportOp_bus (t : Nat) (e : OpEntry) : (s.reportOp t e).bus = s.bus := s.reportOp_keeps (fun u : State => u.bus) (fun _ _ _ _ => rfl) ..
@[simp] theorem State.reportOp_sup (t : Nat) (e : OpEntry) : (s.reportOp t e).sup = s.sup := s.reportOp_keeps (fun u : State => u.sup) (fun _ _ _ _ => rfl) ..
@[simp] theorem State.reportOp_path (t : Nat) (e : OpEntry) : (s.reportOp t e).path = s.path := s.reportOp_keeps (fun u : State => u.path) (fun _ _ _ _ => rfl) ..
@[simp] theorem State.reportOp_chg (t : Nat) (e : OpEntry) : (s.reportOp t e).chg = s.chg := s.reportOp_keeps (fun u : State => u.chg) (fun _ _ _ _ => rfl) ..
@[simp] theorem State.reportOp_est (t : Nat) (e : OpEntry) : (s.reportOp t e).est = s.est := s.reportOp_keeps (fun u : State => u.est) (fun _ _ _ _ => rfl) ..
@[simp] theorem State.reportOp_met (t : Nat) (e : OpEntry) : (s.reportOp t e).met = s.met := s.reportOp_keeps (fun u : State => u.met) (fun _ _ _ _ => rfl) ..
@[simp] theorem State.reportOp_therm (t : Nat) (e : OpEntry) : (s.reportOp t e).therm = s.therm := s.reportOp_keeps (fun u : State => u.therm) (fun _ _ _ _ => rfl) ..
@[simp] theorem State.reportOp_nvm (t : Nat) (e : OpEntry) : (s.reportOp t e).nvm = s.nvm := s.reportOp_keeps (fun u : State => u.nvm) (fun _ _ _ _ => rfl) ..
@[simp] theorem State.reportOp_dma (t : Nat) (e : OpEntry) : (s.reportOp t e).dma = s.dma := s.reportOp_keeps (fun u : State => u.dma) (fun _ _ _ _ => rfl) ..
@[simp] theorem State.reportOp_mir (t : Nat) (e : OpEntry) : (s.reportOp t e).mir = s.mir := s.reportOp_keeps (fun u : State => u.mir) (fun _ _ _ _ => rfl) ..
@[simp] theorem State.reportOp_cfg (t : Nat) (e : OpEntry) : (s.reportOp t e).cfg = s.cfg := s.reportOp_keeps (fun u : State => u.cfg) (fun _ _ _ _ => rfl) ..
@[simp] theorem State.reportOp_ports (t : Nat) (e : OpEntry) : (s.reportOp t e).ports = s.ports := s.reportOp_keeps (fun u : State => u.ports) (fun _ _ _ _ => rfl) ..
@[simp] theorem State.reportOp_links (t : Nat) (e : OpEntry) : (s.reportOp t e).links = s.links := s.reportOp_keeps (fun u : State => u.links) (fun _ _ _ _ => rfl) ..
@[simp] theorem State.reportOp_hab (t : Nat) (e : OpEntry) : (s.reportOp t e).hab = s.hab := s.reportOp_keeps (fun u : State => u.hab) (fun _ _ _ _ => rfl) ..
@[simp] theorem State.reportOp_oasis (t : Nat) (e : OpEntry) : (s.reportOp t e).oasis = s.oasis := s.reportOp_keeps (fun u : State => u.oasis) (fun _ _ _ _ => rfl) ..
@[simp] theorem State.reportOp_ledger (t : Nat) (e : OpEntry) : (s.reportOp t e).ledger = s.ledger := s.reportOp_keeps (fun u : State => u.ledger) (fun _ _ _ _ => rfl) ..
@[simp] theorem State.reportOp_sec (t : Nat) (e : OpEntry) : (s.reportOp t e).sec = s.sec := s.reportOp_keeps (fun u : State => u.sec) (fun _ _ _ _ => rfl) ..
@[simp] theorem State.reportOp_otp (t : Nat) (e : OpEntry) : (s.reportOp t e).otp = s.otp := s.reportOp_keeps (fun u : State => u.otp) (fun _ _ _ _ => rfl) ..

@[simp] theorem State.raiseLater_pending (e : EventObj) (k : Nat) : (s.raiseLater e k).pending = s.pending := s.raiseLater_keeps (fun u : State => u.pending) (fun _ _ _ _ _ _ => rfl) ..
@[simp] theorem State.raiseLater_published (e : EventObj) (k : Nat) : (s.raiseLater e k).published = s.published := s.raiseLater_keeps (fun u : State => u.published) (fun _ _ _ _ _ _ => rfl) ..
@[simp] theorem State.raiseLater_mram (e : EventObj) (k : Nat) : (s.raiseLater e k).mram = s.mram := s.raiseLater_keeps (fun u : State => u.mram) (fun _ _ _ _ _ _ => rfl) ..
@[simp] theorem State.raiseLater_now (e : EventObj) (k : Nat) : (s.raiseLater e k).now = s.now := s.raiseLater_keeps (fun u : State => u.now) (fun _ _ _ _ _ _ => rfl) ..
@[simp] theorem State.raiseLater_freeIdx (e : EventObj) (k : Nat) : (s.raiseLater e k).freeIdx = s.freeIdx := s.raiseLater_keeps (fun u : State => u.freeIdx) (fun _ _ _ _ _ _ => rfl) ..
@[simp] theorem State.raiseLater_answer (e : EventObj) (k : Nat) : (s.raiseLater e k).answer = s.answer := s.raiseLater_keeps (fun u : State => u.answer) (fun _ _ _ _ _ _ => rfl) ..
@[simp] theorem State.raiseLater_caps (e : EventObj) (k : Nat) : (s.raiseLater e k).caps = s.caps := s.raiseLater_keeps (fun u : State => u.caps) (fun _ _ _ _ _ _ => rfl) ..
@[simp] theorem State.raiseLater_modes (e : EventObj) (k : Nat) : (s.raiseLater e k).modes = s.modes := s.raiseLater_keeps (fun u : State => u.modes) (fun _ _ _ _ _ _ => rfl) ..
@[simp] theorem State.raiseLater_history (e : EventObj) (k : Nat) : (s.raiseLater e k).history = s.history := s.raiseLater_keeps (fun u : State => u.history) (fun _ _ _ _ _ _ => rfl) ..
@[simp] theorem State.raiseLater_ops (e : EventObj) (k : Nat) : (s.raiseLater e k).ops = s.ops := s.raiseLater_keeps (fun u : State => u.ops) (fun _ _ _ _ _ _ => rfl) ..
@[simp] theorem State.raiseLater_phases (e : EventObj) (k : Nat) : (s.raiseLater e k).phases = s.phases := s.raiseLater_keeps (fun u : State => u.phases) (fun _ _ _ _ _ _ => rfl) ..
@[simp] theorem State.raiseLater_tiles (e : EventObj) (k : Nat) : (s.raiseLater e k).tiles = s.tiles := s.raiseLater_keeps (fun u : State => u.tiles) (fun _ _ _ _ _ _ => rfl) ..
@[simp] theorem State.raiseLater_frame (e : EventObj) (k : Nat) : (s.raiseLater e k).frame = s.frame := s.raiseLater_keeps (fun u : State => u.frame) (fun _ _ _ _ _ _ => rfl) ..
@[simp] theorem State.raiseLater_rails (e : EventObj) (k : Nat) : (s.raiseLater e k).rails = s.rails := s.raiseLater_keeps (fun u : State => u.rails) (fun _ _ _ _ _ _ => rfl) ..
@[simp] theorem State.raiseLater_auxs (e : EventObj) (k : Nat) : (s.raiseLater e k).auxs = s.auxs := s.raiseLater_keeps (fun u : State => u.auxs) (fun _ _ _ _ _ _ => rfl) ..
@[simp] theorem State.raiseLater_seq (e : EventObj) (k : Nat) : (s.raiseLater e k).seq = s.seq := s.raiseLater_keeps (fun u : State => u.seq) (fun _ _ _ _ _ _ => rfl) ..
@[simp] theorem State.raiseLater_bus (e : EventObj) (k : Nat) : (s.raiseLater e k).bus = s.bus := s.raiseLater_keeps (fun u : State => u.bus) (fun _ _ _ _ _ _ => rfl) ..
@[simp] theorem State.raiseLater_sup (e : EventObj) (k : Nat) : (s.raiseLater e k).sup = s.sup := s.raiseLater_keeps (fun u : State => u.sup) (fun _ _ _ _ _ _ => rfl) ..
@[simp] theorem State.raiseLater_path (e : EventObj) (k : Nat) : (s.raiseLater e k).path = s.path := s.raiseLater_keeps (fun u : State => u.path) (fun _ _ _ _ _ _ => rfl) ..
@[simp] theorem State.raiseLater_chg (e : EventObj) (k : Nat) : (s.raiseLater e k).chg = s.chg := s.raiseLater_keeps (fun u : State => u.chg) (fun _ _ _ _ _ _ => rfl) ..
@[simp] theorem State.raiseLater_est (e : EventObj) (k : Nat) : (s.raiseLater e k).est = s.est := s.raiseLater_keeps (fun u : State => u.est) (fun _ _ _ _ _ _ => rfl) ..
@[simp] theorem State.raiseLater_met (e : EventObj) (k : Nat) : (s.raiseLater e k).met = s.met := s.raiseLater_keeps (fun u : State => u.met) (fun _ _ _ _ _ _ => rfl) ..
@[simp] theorem State.raiseLater_therm (e : EventObj) (k : Nat) : (s.raiseLater e k).therm = s.therm := s.raiseLater_keeps (fun u : State => u.therm) (fun _ _ _ _ _ _ => rfl) ..
@[simp] theorem State.raiseLater_nvm (e : EventObj) (k : Nat) : (s.raiseLater e k).nvm = s.nvm := s.raiseLater_keeps (fun u : State => u.nvm) (fun _ _ _ _ _ _ => rfl) ..
@[simp] theorem State.raiseLater_dma (e : EventObj) (k : Nat) : (s.raiseLater e k).dma = s.dma := s.raiseLater_keeps (fun u : State => u.dma) (fun _ _ _ _ _ _ => rfl) ..
@[simp] theorem State.raiseLater_mir (e : EventObj) (k : Nat) : (s.raiseLater e k).mir = s.mir := s.raiseLater_keeps (fun u : State => u.mir) (fun _ _ _ _ _ _ => rfl) ..
@[simp] theorem State.raiseLater_cfg (e : EventObj) (k : Nat) : (s.raiseLater e k).cfg = s.cfg := s.raiseLater_keeps (fun u : State => u.cfg) (fun _ _ _ _ _ _ => rfl) ..
@[simp] theorem State.raiseLater_ports (e : EventObj) (k : Nat) : (s.raiseLater e k).ports = s.ports := s.raiseLater_keeps (fun u : State => u.ports) (fun _ _ _ _ _ _ => rfl) ..
@[simp] theorem State.raiseLater_links (e : EventObj) (k : Nat) : (s.raiseLater e k).links = s.links := s.raiseLater_keeps (fun u : State => u.links) (fun _ _ _ _ _ _ => rfl) ..
@[simp] theorem State.raiseLater_hab (e : EventObj) (k : Nat) : (s.raiseLater e k).hab = s.hab := s.raiseLater_keeps (fun u : State => u.hab) (fun _ _ _ _ _ _ => rfl) ..
@[simp] theorem State.raiseLater_oasis (e : EventObj) (k : Nat) : (s.raiseLater e k).oasis = s.oasis := s.raiseLater_keeps (fun u : State => u.oasis) (fun _ _ _ _ _ _ => rfl) ..
@[simp] theorem State.raiseLater_ledger (e : EventObj) (k : Nat) : (s.raiseLater e k).ledger = s.ledger := s.raiseLater_keeps (fun u : State => u.ledger) (fun _ _ _ _ _ _ => rfl) ..
@[simp] theorem State.raiseLater_sec (e : EventObj) (k : Nat) : (s.raiseLater e k).sec = s.sec := s.raiseLater_keeps (fun u : State => u.sec) (fun _ _ _ _ _ _ => rfl) ..
@[simp] theorem State.raiseLater_otp (e : EventObj) (k : Nat) : (s.raiseLater e k).otp = s.otp := s.raiseLater_keeps (fun u : State => u.otp) (fun _ _ _ _ _ _ => rfl) ..

@[simp] theorem State.loseAbort_pending (t : Nat) : (s.loseAbort t).pending = s.pending := s.loseAbort_keeps (fun u : State => u.pending) (fun _ _ _ _ _ _ _ => rfl) ..
@[simp] theorem State.loseAbort_published (t : Nat) : (s.loseAbort t).published = s.published := s.loseAbort_keeps (fun u : State => u.published) (fun _ _ _ _ _ _ _ => rfl) ..
@[simp] theorem State.loseAbort_mram (t : Nat) : (s.loseAbort t).mram = s.mram := s.loseAbort_keeps (fun u : State => u.mram) (fun _ _ _ _ _ _ _ => rfl) ..
@[simp] theorem State.loseAbort_now (t : Nat) : (s.loseAbort t).now = s.now := s.loseAbort_keeps (fun u : State => u.now) (fun _ _ _ _ _ _ _ => rfl) ..
@[simp] theorem State.loseAbort_freeIdx (t : Nat) : (s.loseAbort t).freeIdx = s.freeIdx := s.loseAbort_keeps (fun u : State => u.freeIdx) (fun _ _ _ _ _ _ _ => rfl) ..
@[simp] theorem State.loseAbort_answer (t : Nat) : (s.loseAbort t).answer = s.answer := s.loseAbort_keeps (fun u : State => u.answer) (fun _ _ _ _ _ _ _ => rfl) ..
@[simp] theorem State.loseAbort_caps (t : Nat) : (s.loseAbort t).caps = s.caps := s.loseAbort_keeps (fun u : State => u.caps) (fun _ _ _ _ _ _ _ => rfl) ..
@[simp] theorem State.loseAbort_modes (t : Nat) : (s.loseAbort t).modes = s.modes := s.loseAbort_keeps (fun u : State => u.modes) (fun _ _ _ _ _ _ _ => rfl) ..
@[simp] theorem State.loseAbort_history (t : Nat) : (s.loseAbort t).history = s.history := s.loseAbort_keeps (fun u : State => u.history) (fun _ _ _ _ _ _ _ => rfl) ..
@[simp] theorem State.loseAbort_phases (t : Nat) : (s.loseAbort t).phases = s.phases := s.loseAbort_keeps (fun u : State => u.phases) (fun _ _ _ _ _ _ _ => rfl) ..
@[simp] theorem State.loseAbort_tiles (t : Nat) : (s.loseAbort t).tiles = s.tiles := s.loseAbort_keeps (fun u : State => u.tiles) (fun _ _ _ _ _ _ _ => rfl) ..
@[simp] theorem State.loseAbort_frame (t : Nat) : (s.loseAbort t).frame = s.frame := s.loseAbort_keeps (fun u : State => u.frame) (fun _ _ _ _ _ _ _ => rfl) ..
@[simp] theorem State.loseAbort_rails (t : Nat) : (s.loseAbort t).rails = s.rails := s.loseAbort_keeps (fun u : State => u.rails) (fun _ _ _ _ _ _ _ => rfl) ..
@[simp] theorem State.loseAbort_auxs (t : Nat) : (s.loseAbort t).auxs = s.auxs := s.loseAbort_keeps (fun u : State => u.auxs) (fun _ _ _ _ _ _ _ => rfl) ..
@[simp] theorem State.loseAbort_seq (t : Nat) : (s.loseAbort t).seq = s.seq := s.loseAbort_keeps (fun u : State => u.seq) (fun _ _ _ _ _ _ _ => rfl) ..
@[simp] theorem State.loseAbort_bus (t : Nat) : (s.loseAbort t).bus = s.bus := s.loseAbort_keeps (fun u : State => u.bus) (fun _ _ _ _ _ _ _ => rfl) ..
@[simp] theorem State.loseAbort_sup (t : Nat) : (s.loseAbort t).sup = s.sup := s.loseAbort_keeps (fun u : State => u.sup) (fun _ _ _ _ _ _ _ => rfl) ..
@[simp] theorem State.loseAbort_path (t : Nat) : (s.loseAbort t).path = s.path := s.loseAbort_keeps (fun u : State => u.path) (fun _ _ _ _ _ _ _ => rfl) ..
@[simp] theorem State.loseAbort_chg (t : Nat) : (s.loseAbort t).chg = s.chg := s.loseAbort_keeps (fun u : State => u.chg) (fun _ _ _ _ _ _ _ => rfl) ..
@[simp] theorem State.loseAbort_est (t : Nat) : (s.loseAbort t).est = s.est := s.loseAbort_keeps (fun u : State => u.est) (fun _ _ _ _ _ _ _ => rfl) ..
@[simp] theorem State.loseAbort_met (t : Nat) : (s.loseAbort t).met = s.met := s.loseAbort_keeps (fun u : State => u.met) (fun _ _ _ _ _ _ _ => rfl) ..
@[simp] theorem State.loseAbort_therm (t : Nat) : (s.loseAbort t).therm = s.therm := s.loseAbort_keeps (fun u : State => u.therm) (fun _ _ _ _ _ _ _ => rfl) ..
@[simp] theorem State.loseAbort_nvm (t : Nat) : (s.loseAbort t).nvm = s.nvm := s.loseAbort_keeps (fun u : State => u.nvm) (fun _ _ _ _ _ _ _ => rfl) ..
@[simp] theorem State.loseAbort_dma (t : Nat) : (s.loseAbort t).dma = s.dma := s.loseAbort_keeps (fun u : State => u.dma) (fun _ _ _ _ _ _ _ => rfl) ..
@[simp] theorem State.loseAbort_mir (t : Nat) : (s.loseAbort t).mir = s.mir := s.loseAbort_keeps (fun u : State => u.mir) (fun _ _ _ _ _ _ _ => rfl) ..
@[simp] theorem State.loseAbort_cfg (t : Nat) : (s.loseAbort t).cfg = s.cfg := s.loseAbort_keeps (fun u : State => u.cfg) (fun _ _ _ _ _ _ _ => rfl) ..
@[simp] theorem State.loseAbort_ports (t : Nat) : (s.loseAbort t).ports = s.ports := s.loseAbort_keeps (fun u : State => u.ports) (fun _ _ _ _ _ _ _ => rfl) ..
@[simp] theorem State.loseAbort_links (t : Nat) : (s.loseAbort t).links = s.links := s.loseAbort_keeps (fun u : State => u.links) (fun _ _ _ _ _ _ _ => rfl) ..
@[simp] theorem State.loseAbort_hab (t : Nat) : (s.loseAbort t).hab = s.hab := s.loseAbort_keeps (fun u : State => u.hab) (fun _ _ _ _ _ _ _ => rfl) ..
@[simp] theorem State.loseAbort_oasis (t : Nat) : (s.loseAbort t).oasis = s.oasis := s.loseAbort_keeps (fun u : State => u.oasis) (fun _ _ _ _ _ _ _ => rfl) ..
@[simp] theorem State.loseAbort_ledger (t : Nat) : (s.loseAbort t).ledger = s.ledger := s.loseAbort_keeps (fun u : State => u.ledger) (fun _ _ _ _ _ _ _ => rfl) ..
@[simp] theorem State.loseAbort_sec (t : Nat) : (s.loseAbort t).sec = s.sec := s.loseAbort_keeps (fun u : State => u.sec) (fun _ _ _ _ _ _ _ => rfl) ..
@[simp] theorem State.loseAbort_otp (t : Nat) : (s.loseAbort t).otp = s.otp := s.loseAbort_keeps (fun u : State => u.otp) (fun _ _ _ _ _ _ _ => rfl) ..

@[simp] theorem State.finishOne_pending (t : Nat) (st : OpStatus) (result code : Nat) : (s.finishOne t st result code).pending = s.pending := s.finishOne_keeps (fun u : State => u.pending) (fun _ _ _ _ _ _ _ => rfl) ..
@[simp] theorem State.finishOne_published (t : Nat) (st : OpStatus) (result code : Nat) : (s.finishOne t st result code).published = s.published := s.finishOne_keeps (fun u : State => u.published) (fun _ _ _ _ _ _ _ => rfl) ..
@[simp] theorem State.finishOne_mram (t : Nat) (st : OpStatus) (result code : Nat) : (s.finishOne t st result code).mram = s.mram := s.finishOne_keeps (fun u : State => u.mram) (fun _ _ _ _ _ _ _ => rfl) ..
@[simp] theorem State.finishOne_now (t : Nat) (st : OpStatus) (result code : Nat) : (s.finishOne t st result code).now = s.now := s.finishOne_keeps (fun u : State => u.now) (fun _ _ _ _ _ _ _ => rfl) ..
@[simp] theorem State.finishOne_freeIdx (t : Nat) (st : OpStatus) (result code : Nat) : (s.finishOne t st result code).freeIdx = s.freeIdx := s.finishOne_keeps (fun u : State => u.freeIdx) (fun _ _ _ _ _ _ _ => rfl) ..
@[simp] theorem State.finishOne_answer (t : Nat) (st : OpStatus) (result code : Nat) : (s.finishOne t st result code).answer = s.answer := s.finishOne_keeps (fun u : State => u.answer) (fun _ _ _ _ _ _ _ => rfl) ..
@[simp] theorem State.finishOne_caps (t : Nat) (st : OpStatus) (result code : Nat) : (s.finishOne t st result code).caps = s.caps := s.finishOne_keeps (fun u : State => u.caps) (fun _ _ _ _ _ _ _ => rfl) ..
@[simp] theorem State.finishOne_modes (t : Nat) (st : OpStatus) (result code : Nat) : (s.finishOne t st result code).modes = s.modes := s.finishOne_keeps (fun u : State => u.modes) (fun _ _ _ _ _ _ _ => rfl) ..
@[simp] theorem State.finishOne_history (t : Nat) (st : OpStatus) (result code : Nat) : (s.finishOne t st result code).history = s.history := s.finishOne_keeps (fun u : State => u.history) (fun _ _ _ _ _ _ _ => rfl) ..
@[simp] theorem State.finishOne_phases (t : Nat) (st : OpStatus) (result code : Nat) : (s.finishOne t st result code).phases = s.phases := s.finishOne_keeps (fun u : State => u.phases) (fun _ _ _ _ _ _ _ => rfl) ..
@[simp] theorem State.finishOne_tiles (t : Nat) (st : OpStatus) (result code : Nat) : (s.finishOne t st result code).tiles = s.tiles := s.finishOne_keeps (fun u : State => u.tiles) (fun _ _ _ _ _ _ _ => rfl) ..
@[simp] theorem State.finishOne_frame (t : Nat) (st : OpStatus) (result code : Nat) : (s.finishOne t st result code).frame = s.frame := s.finishOne_keeps (fun u : State => u.frame) (fun _ _ _ _ _ _ _ => rfl) ..
@[simp] theorem State.finishOne_rails (t : Nat) (st : OpStatus) (result code : Nat) : (s.finishOne t st result code).rails = s.rails := s.finishOne_keeps (fun u : State => u.rails) (fun _ _ _ _ _ _ _ => rfl) ..
@[simp] theorem State.finishOne_auxs (t : Nat) (st : OpStatus) (result code : Nat) : (s.finishOne t st result code).auxs = s.auxs := s.finishOne_keeps (fun u : State => u.auxs) (fun _ _ _ _ _ _ _ => rfl) ..
@[simp] theorem State.finishOne_seq (t : Nat) (st : OpStatus) (result code : Nat) : (s.finishOne t st result code).seq = s.seq := s.finishOne_keeps (fun u : State => u.seq) (fun _ _ _ _ _ _ _ => rfl) ..
@[simp] theorem State.finishOne_bus (t : Nat) (st : OpStatus) (result code : Nat) : (s.finishOne t st result code).bus = s.bus := s.finishOne_keeps (fun u : State => u.bus) (fun _ _ _ _ _ _ _ => rfl) ..
@[simp] theorem State.finishOne_sup (t : Nat) (st : OpStatus) (result code : Nat) : (s.finishOne t st result code).sup = s.sup := s.finishOne_keeps (fun u : State => u.sup) (fun _ _ _ _ _ _ _ => rfl) ..
@[simp] theorem State.finishOne_path (t : Nat) (st : OpStatus) (result code : Nat) : (s.finishOne t st result code).path = s.path := s.finishOne_keeps (fun u : State => u.path) (fun _ _ _ _ _ _ _ => rfl) ..
@[simp] theorem State.finishOne_chg (t : Nat) (st : OpStatus) (result code : Nat) : (s.finishOne t st result code).chg = s.chg := s.finishOne_keeps (fun u : State => u.chg) (fun _ _ _ _ _ _ _ => rfl) ..
@[simp] theorem State.finishOne_est (t : Nat) (st : OpStatus) (result code : Nat) : (s.finishOne t st result code).est = s.est := s.finishOne_keeps (fun u : State => u.est) (fun _ _ _ _ _ _ _ => rfl) ..
@[simp] theorem State.finishOne_met (t : Nat) (st : OpStatus) (result code : Nat) : (s.finishOne t st result code).met = s.met := s.finishOne_keeps (fun u : State => u.met) (fun _ _ _ _ _ _ _ => rfl) ..
@[simp] theorem State.finishOne_therm (t : Nat) (st : OpStatus) (result code : Nat) : (s.finishOne t st result code).therm = s.therm := s.finishOne_keeps (fun u : State => u.therm) (fun _ _ _ _ _ _ _ => rfl) ..
@[simp] theorem State.finishOne_nvm (t : Nat) (st : OpStatus) (result code : Nat) : (s.finishOne t st result code).nvm = s.nvm := s.finishOne_keeps (fun u : State => u.nvm) (fun _ _ _ _ _ _ _ => rfl) ..
@[simp] theorem State.finishOne_dma (t : Nat) (st : OpStatus) (result code : Nat) : (s.finishOne t st result code).dma = s.dma := s.finishOne_keeps (fun u : State => u.dma) (fun _ _ _ _ _ _ _ => rfl) ..
@[simp] theorem State.finishOne_mir (t : Nat) (st : OpStatus) (result code : Nat) : (s.finishOne t st result code).mir = s.mir := s.finishOne_keeps (fun u : State => u.mir) (fun _ _ _ _ _ _ _ => rfl) ..
@[simp] theorem State.finishOne_cfg (t : Nat) (st : OpStatus) (result code : Nat) : (s.finishOne t st result code).cfg = s.cfg := s.finishOne_keeps (fun u : State => u.cfg) (fun _ _ _ _ _ _ _ => rfl) ..
@[simp] theorem State.finishOne_ports (t : Nat) (st : OpStatus) (result code : Nat) : (s.finishOne t st result code).ports = s.ports := s.finishOne_keeps (fun u : State => u.ports) (fun _ _ _ _ _ _ _ => rfl) ..
@[simp] theorem State.finishOne_links (t : Nat) (st : OpStatus) (result code : Nat) : (s.finishOne t st result code).links = s.links := s.finishOne_keeps (fun u : State => u.links) (fun _ _ _ _ _ _ _ => rfl) ..
@[simp] theorem State.finishOne_hab (t : Nat) (st : OpStatus) (result code : Nat) : (s.finishOne t st result code).hab = s.hab := s.finishOne_keeps (fun u : State => u.hab) (fun _ _ _ _ _ _ _ => rfl) ..
@[simp] theorem State.finishOne_oasis (t : Nat) (st : OpStatus) (result code : Nat) : (s.finishOne t st result code).oasis = s.oasis := s.finishOne_keeps (fun u : State => u.oasis) (fun _ _ _ _ _ _ _ => rfl) ..
@[simp] theorem State.finishOne_ledger (t : Nat) (st : OpStatus) (result code : Nat) : (s.finishOne t st result code).ledger = s.ledger := s.finishOne_keeps (fun u : State => u.ledger) (fun _ _ _ _ _ _ _ => rfl) ..
@[simp] theorem State.finishOne_sec (t : Nat) (st : OpStatus) (result code : Nat) : (s.finishOne t st result code).sec = s.sec := s.finishOne_keeps (fun u : State => u.sec) (fun _ _ _ _ _ _ _ => rfl) ..
@[simp] theorem State.finishOne_otp (t : Nat) (st : OpStatus) (result code : Nat) : (s.finishOne t st result code).otp = s.otp := s.finishOne_keeps (fun u : State => u.otp) (fun _ _ _ _ _ _ _ => rfl) ..

@[simp] theorem State.finish_pending (t : Nat) (st : OpStatus) (result code : Nat) : (s.finish t st result code).pending = s.pending := s.finish_keeps (fun u : State => u.pending) (fun _ _ _ _ _ _ _ => rfl) ..
@[simp] theorem State.finish_published (t : Nat) (st : OpStatus) (result code : Nat) : (s.finish t st result code).published = s.published := s.finish_keeps (fun u : State => u.published) (fun _ _ _ _ _ _ _ => rfl) ..
@[simp] theorem State.finish_mram (t : Nat) (st : OpStatus) (result code : Nat) : (s.finish t st result code).mram = s.mram := s.finish_keeps (fun u : State => u.mram) (fun _ _ _ _ _ _ _ => rfl) ..
@[simp] theorem State.finish_now (t : Nat) (st : OpStatus) (result code : Nat) : (s.finish t st result code).now = s.now := s.finish_keeps (fun u : State => u.now) (fun _ _ _ _ _ _ _ => rfl) ..
@[simp] theorem State.finish_freeIdx (t : Nat) (st : OpStatus) (result code : Nat) : (s.finish t st result code).freeIdx = s.freeIdx := s.finish_keeps (fun u : State => u.freeIdx) (fun _ _ _ _ _ _ _ => rfl) ..
@[simp] theorem State.finish_answer (t : Nat) (st : OpStatus) (result code : Nat) : (s.finish t st result code).answer = s.answer := s.finish_keeps (fun u : State => u.answer) (fun _ _ _ _ _ _ _ => rfl) ..
@[simp] theorem State.finish_caps (t : Nat) (st : OpStatus) (result code : Nat) : (s.finish t st result code).caps = s.caps := s.finish_keeps (fun u : State => u.caps) (fun _ _ _ _ _ _ _ => rfl) ..
@[simp] theorem State.finish_modes (t : Nat) (st : OpStatus) (result code : Nat) : (s.finish t st result code).modes = s.modes := s.finish_keeps (fun u : State => u.modes) (fun _ _ _ _ _ _ _ => rfl) ..
@[simp] theorem State.finish_history (t : Nat) (st : OpStatus) (result code : Nat) : (s.finish t st result code).history = s.history := s.finish_keeps (fun u : State => u.history) (fun _ _ _ _ _ _ _ => rfl) ..
@[simp] theorem State.finish_phases (t : Nat) (st : OpStatus) (result code : Nat) : (s.finish t st result code).phases = s.phases := s.finish_keeps (fun u : State => u.phases) (fun _ _ _ _ _ _ _ => rfl) ..
@[simp] theorem State.finish_tiles (t : Nat) (st : OpStatus) (result code : Nat) : (s.finish t st result code).tiles = s.tiles := s.finish_keeps (fun u : State => u.tiles) (fun _ _ _ _ _ _ _ => rfl) ..
@[simp] theorem State.finish_frame (t : Nat) (st : OpStatus) (result code : Nat) : (s.finish t st result code).frame = s.frame := s.finish_keeps (fun u : State => u.frame) (fun _ _ _ _ _ _ _ => rfl) ..
@[simp] theorem State.finish_rails (t : Nat) (st : OpStatus) (result code : Nat) : (s.finish t st result code).rails = s.rails := s.finish_keeps (fun u : State => u.rails) (fun _ _ _ _ _ _ _ => rfl) ..
@[simp] theorem State.finish_auxs (t : Nat) (st : OpStatus) (result code : Nat) : (s.finish t st result code).auxs = s.auxs := s.finish_keeps (fun u : State => u.auxs) (fun _ _ _ _ _ _ _ => rfl) ..
@[simp] theorem State.finish_seq (t : Nat) (st : OpStatus) (result code : Nat) : (s.finish t st result code).seq = s.seq := s.finish_keeps (fun u : State => u.seq) (fun _ _ _ _ _ _ _ => rfl) ..
@[simp] theorem State.finish_bus (t : Nat) (st : OpStatus) (result code : Nat) : (s.finish t st result code).bus = s.bus := s.finish_keeps (fun u : State => u.bus) (fun _ _ _ _ _ _ _ => rfl) ..
@[simp] theorem State.finish_sup (t : Nat) (st : OpStatus) (result code : Nat) : (s.finish t st result code).sup = s.sup := s.finish_keeps (fun u : State => u.sup) (fun _ _ _ _ _ _ _ => rfl) ..
@[simp] theorem State.finish_path (t : Nat) (st : OpStatus) (result code : Nat) : (s.finish t st result code).path = s.path := s.finish_keeps (fun u : State => u.path) (fun _ _ _ _ _ _ _ => rfl) ..
@[simp] theorem State.finish_chg (t : Nat) (st : OpStatus) (result code : Nat) : (s.finish t st result code).chg = s.chg := s.finish_keeps (fun u : State => u.chg) (fun _ _ _ _ _ _ _ => rfl) ..
@[simp] theorem State.finish_est (t : Nat) (st : OpStatus) (result code : Nat) : (s.finish t st result code).est = s.est := s.finish_keeps (fun u : State => u.est) (fun _ _ _ _ _ _ _ => rfl) ..
@[simp] theorem State.finish_met (t : Nat) (st : OpStatus) (result code : Nat) : (s.finish t st result code).met = s.met := s.finish_keeps (fun u : State => u.met) (fun _ _ _ _ _ _ _ => rfl) ..
@[simp] theorem State.finish_therm (t : Nat) (st : OpStatus) (result code : Nat) : (s.finish t st result code).therm = s.therm := s.finish_keeps (fun u : State => u.therm) (fun _ _ _ _ _ _ _ => rfl) ..
@[simp] theorem State.finish_nvm (t : Nat) (st : OpStatus) (result code : Nat) : (s.finish t st result code).nvm = s.nvm := s.finish_keeps (fun u : State => u.nvm) (fun _ _ _ _ _ _ _ => rfl) ..
@[simp] theorem State.finish_dma (t : Nat) (st : OpStatus) (result code : Nat) : (s.finish t st result code).dma = s.dma := s.finish_keeps (fun u : State => u.dma) (fun _ _ _ _ _ _ _ => rfl) ..
@[simp] theorem State.finish_mir (t : Nat) (st : OpStatus) (result code : Nat) : (s.finish t st result code).mir = s.mir := s.finish_keeps (fun u : State => u.mir) (fun _ _ _ _ _ _ _ => rfl) ..
@[simp] theorem State.finish_cfg (t : Nat) (st : OpStatus) (result code : Nat) : (s.finish t st result code).cfg = s.cfg := s.finish_keeps (fun u : State => u.cfg) (fun _ _ _ _ _ _ _ => rfl) ..
@[simp] theorem State.finish_ports (t : Nat) (st : OpStatus) (result code : Nat) : (s.finish t st result code).ports = s.ports := s.finish_keeps (fun u : State => u.ports) (fun _ _ _ _ _ _ _ => rfl) ..
@[simp] theorem State.finish_links (t : Nat) (st : OpStatus) (result code : Nat) : (s.finish t st result code).links = s.links := s.finish_keeps (fun u : State => u.links) (fun _ _ _ _ _ _ _ => rfl) ..
@[simp] theorem State.finish_hab (t : Nat) (st : OpStatus) (result code : Nat) : (s.finish t st result code).hab = s.hab := s.finish_keeps (fun u : State => u.hab) (fun _ _ _ _ _ _ _ => rfl) ..
@[simp] theorem State.finish_oasis (t : Nat) (st : OpStatus) (result code : Nat) : (s.finish t st result code).oasis = s.oasis := s.finish_keeps (fun u : State => u.oasis) (fun _ _ _ _ _ _ _ => rfl) ..
@[simp] theorem State.finish_ledger (t : Nat) (st : OpStatus) (result code : Nat) : (s.finish t st result code).ledger = s.ledger := s.finish_keeps (fun u : State => u.ledger) (fun _ _ _ _ _ _ _ => rfl) ..
@[simp] theorem State.finish_sec (t : Nat) (st : OpStatus) (result code : Nat) : (s.finish t st result code).sec = s.sec := s.finish_keeps (fun u : State => u.sec) (fun _ _ _ _ _ _ _ => rfl) ..
@[simp] theorem State.finish_otp (t : Nat) (st : OpStatus) (result code : Nat) : (s.finish t st result code).otp = s.otp := s.finish_keeps (fun u : State => u.otp) (fun _ _ _ _ _ _ _ => rfl) ..

@[simp] theorem State.finish?_pending (t : Option Nat) (st : OpStatus) (result code : Nat) : (s.finish? t st result code).pending = s.pending := s.finish?_keeps (fun u : State => u.pending) (fun _ _ _ _ _ _ _ => rfl) ..
@[simp] theorem State.finish?_published (t : Option Nat) (st : OpStatus) (result code : Nat) : (s.finish? t st result code).published = s.published := s.finish?_keeps (fun u : State => u.published) (fun _ _ _ _ _ _ _ => rfl) ..
@[simp] theorem State.finish?_mram (t : Option Nat) (st : OpStatus) (result code : Nat) : (s.finish? t st result code).mram = s.mram := s.finish?_keeps (fun u : State => u.mram) (fun _ _ _ _ _ _ _ => rfl) ..
@[simp] theorem State.finish?_now (t : Option Nat) (st : OpStatus) (result code : Nat) : (s.finish? t st result code).now = s.now := s.finish?_keeps (fun u : State => u.now) (fun _ _ _ _ _ _ _ => rfl) ..
@[simp] theorem State.finish?_freeIdx (t : Option Nat) (st : OpStatus) (result code : Nat) : (s.finish? t st result code).freeIdx = s.freeIdx := s.finish?_keeps (fun u : State => u.freeIdx) (fun _ _ _ _ _ _ _ => rfl) ..
@[simp] theorem State.finish?_answer (t : Option Nat) (st : OpStatus) (result code : Nat) : (s.finish? t st result code).answer = s.answer := s.finish?_keeps (fun u : State => u.answer) (fun _ _ _ _ _ _ _ => rfl) ..
@[simp] theorem State.finish?_caps (t : Option Nat) (st : OpStatus) (result code : Nat) : (s.finish? t st result code).caps = s.caps := s.finish?_keeps (fun u : State => u.caps) (fun _ _ _ _ _ _ _ => rfl) ..
@[simp] theorem State.finish?_modes (t : Option Nat) (st : OpStatus) (result code : Nat) : (s.finish? t st result code).modes = s.modes := s.finish?_keeps (fun u : State => u.modes) (fun _ _ _ _ _ _ _ => rfl) ..
@[simp] theorem State.finish?_history (t : Option Nat) (st : OpStatus) (result code : Nat) : (s.finish? t st result code).history = s.history := s.finish?_keeps (fun u : State => u.history) (fun _ _ _ _ _ _ _ => rfl) ..
@[simp] theorem State.finish?_phases (t : Option Nat) (st : OpStatus) (result code : Nat) : (s.finish? t st result code).phases = s.phases := s.finish?_keeps (fun u : State => u.phases) (fun _ _ _ _ _ _ _ => rfl) ..
@[simp] theorem State.finish?_tiles (t : Option Nat) (st : OpStatus) (result code : Nat) : (s.finish? t st result code).tiles = s.tiles := s.finish?_keeps (fun u : State => u.tiles) (fun _ _ _ _ _ _ _ => rfl) ..
@[simp] theorem State.finish?_frame (t : Option Nat) (st : OpStatus) (result code : Nat) : (s.finish? t st result code).frame = s.frame := s.finish?_keeps (fun u : State => u.frame) (fun _ _ _ _ _ _ _ => rfl) ..
@[simp] theorem State.finish?_rails (t : Option Nat) (st : OpStatus) (result code : Nat) : (s.finish? t st result code).rails = s.rails := s.finish?_keeps (fun u : State => u.rails) (fun _ _ _ _ _ _ _ => rfl) ..
@[simp] theorem State.finish?_auxs (t : Option Nat) (st : OpStatus) (result code : Nat) : (s.finish? t st result code).auxs = s.auxs := s.finish?_keeps (fun u : State => u.auxs) (fun _ _ _ _ _ _ _ => rfl) ..
@[simp] theorem State.finish?_seq (t : Option Nat) (st : OpStatus) (result code : Nat) : (s.finish? t st result code).seq = s.seq := s.finish?_keeps (fun u : State => u.seq) (fun _ _ _ _ _ _ _ => rfl) ..
@[simp] theorem State.finish?_bus (t : Option Nat) (st : OpStatus) (result code : Nat) : (s.finish? t st result code).bus = s.bus := s.finish?_keeps (fun u : State => u.bus) (fun _ _ _ _ _ _ _ => rfl) ..
@[simp] theorem State.finish?_sup (t : Option Nat) (st : OpStatus) (result code : Nat) : (s.finish? t st result code).sup = s.sup := s.finish?_keeps (fun u : State => u.sup) (fun _ _ _ _ _ _ _ => rfl) ..
@[simp] theorem State.finish?_path (t : Option Nat) (st : OpStatus) (result code : Nat) : (s.finish? t st result code).path = s.path := s.finish?_keeps (fun u : State => u.path) (fun _ _ _ _ _ _ _ => rfl) ..
@[simp] theorem State.finish?_chg (t : Option Nat) (st : OpStatus) (result code : Nat) : (s.finish? t st result code).chg = s.chg := s.finish?_keeps (fun u : State => u.chg) (fun _ _ _ _ _ _ _ => rfl) ..
@[simp] theorem State.finish?_est (t : Option Nat) (st : OpStatus) (result code : Nat) : (s.finish? t st result code).est = s.est := s.finish?_keeps (fun u : State => u.est) (fun _ _ _ _ _ _ _ => rfl) ..
@[simp] theorem State.finish?_met (t : Option Nat) (st : OpStatus) (result code : Nat) : (s.finish? t st result code).met = s.met := s.finish?_keeps (fun u : State => u.met) (fun _ _ _ _ _ _ _ => rfl) ..
@[simp] theorem State.finish?_therm (t : Option Nat) (st : OpStatus) (result code : Nat) : (s.finish? t st result code).therm = s.therm := s.finish?_keeps (fun u : State => u.therm) (fun _ _ _ _ _ _ _ => rfl) ..
@[simp] theorem State.finish?_nvm (t : Option Nat) (st : OpStatus) (result code : Nat) : (s.finish? t st result code).nvm = s.nvm := s.finish?_keeps (fun u : State => u.nvm) (fun _ _ _ _ _ _ _ => rfl) ..
@[simp] theorem State.finish?_dma (t : Option Nat) (st : OpStatus) (result code : Nat) : (s.finish? t st result code).dma = s.dma := s.finish?_keeps (fun u : State => u.dma) (fun _ _ _ _ _ _ _ => rfl) ..
@[simp] theorem State.finish?_mir (t : Option Nat) (st : OpStatus) (result code : Nat) : (s.finish? t st result code).mir = s.mir := s.finish?_keeps (fun u : State => u.mir) (fun _ _ _ _ _ _ _ => rfl) ..
@[simp] theorem State.finish?_cfg (t : Option Nat) (st : OpStatus) (result code : Nat) : (s.finish? t st result code).cfg = s.cfg := s.finish?_keeps (fun u : State => u.cfg) (fun _ _ _ _ _ _ _ => rfl) ..
@[simp] theorem State.finish?_ports (t : Option Nat) (st : OpStatus) (result code : Nat) : (s.finish? t st result code).ports = s.ports := s.finish?_keeps (fun u : State => u.ports) (fun _ _ _ _ _ _ _ => rfl) ..
@[simp] theorem State.finish?_links (t : Option Nat) (st : OpStatus) (result code : Nat) : (s.finish? t st result code).links = s.links := s.finish?_keeps (fun u : State => u.links) (fun _ _ _ _ _ _ _ => rfl) ..
@[simp] theorem State.finish?_hab (t : Option Nat) (st : OpStatus) (result code : Nat) : (s.finish? t st result code).hab = s.hab := s.finish?_keeps (fun u : State => u.hab) (fun _ _ _ _ _ _ _ => rfl) ..
@[simp] theorem State.finish?_oasis (t : Option Nat) (st : OpStatus) (result code : Nat) : (s.finish? t st result code).oasis = s.oasis := s.finish?_keeps (fun u : State => u.oasis) (fun _ _ _ _ _ _ _ => rfl) ..
@[simp] theorem State.finish?_ledger (t : Option Nat) (st : OpStatus) (result code : Nat) : (s.finish? t st result code).ledger = s.ledger := s.finish?_keeps (fun u : State => u.ledger) (fun _ _ _ _ _ _ _ => rfl) ..
@[simp] theorem State.finish?_sec (t : Option Nat) (st : OpStatus) (result code : Nat) : (s.finish? t st result code).sec = s.sec := s.finish?_keeps (fun u : State => u.sec) (fun _ _ _ _ _ _ _ => rfl) ..
@[simp] theorem State.finish?_otp (t : Option Nat) (st : OpStatus) (result code : Nat) : (s.finish? t st result code).otp = s.otp := s.finish?_keeps (fun u : State => u.otp) (fun _ _ _ _ _ _ _ => rfl) ..

@[simp] theorem State.addHistory_pending (at_ : Nat) (src dst : Mode) (why : Reason) : (s.addHistory at_ src dst why).pending = s.pending := s.addHistory_keeps (fun u : State => u.pending) (fun _ _ => rfl) ..
@[simp] theorem State.addHistory_objs (at_ : Nat) (src dst : Mode) (why : Reason) : (s.addHistory at_ src dst why).objs = s.objs := s.addHistory_keeps (fun u : State => u.objs) (fun _ _ => rfl) ..
@[simp] theorem State.addHistory_published (at_ : Nat) (src dst : Mode) (why : Reason) : (s.addHistory at_ src dst why).published = s.published := s.addHistory_keeps (fun u : State => u.published) (fun _ _ => rfl) ..
@[simp] theorem State.addHistory_mram (at_ : Nat) (src dst : Mode) (why : Reason) : (s.addHistory at_ src dst why).mram = s.mram := s.addHistory_keeps (fun u : State => u.mram) (fun _ _ => rfl) ..
@[simp] theorem State.addHistory_now (at_ : Nat) (src dst : Mode) (why : Reason) : (s.addHistory at_ src dst why).now = s.now := s.addHistory_keeps (fun u : State => u.now) (fun _ _ => rfl) ..
@[simp] theorem State.addHistory_freeIdx (at_ : Nat) (src dst : Mode) (why : Reason) : (s.addHistory at_ src dst why).freeIdx = s.freeIdx := s.addHistory_keeps (fun u : State => u.freeIdx) (fun _ _ => rfl) ..
@[simp] theorem State.addHistory_answer (at_ : Nat) (src dst : Mode) (why : Reason) : (s.addHistory at_ src dst why).answer = s.answer := s.addHistory_keeps (fun u : State => u.answer) (fun _ _ => rfl) ..
@[simp] theorem State.addHistory_deferred (at_ : Nat) (src dst : Mode) (why : Reason) : (s.addHistory at_ src dst why).deferred = s.deferred := s.addHistory_keeps (fun u : State => u.deferred) (fun _ _ => rfl) ..
@[simp] theorem State.addHistory_afterBoot (at_ : Nat) (src dst : Mode) (why : Reason) : (s.addHistory at_ src dst why).afterBoot = s.afterBoot := s.addHistory_keeps (fun u : State => u.afterBoot) (fun _ _ => rfl) ..
@[simp] theorem State.addHistory_caps (at_ : Nat) (src dst : Mode) (why : Reason) : (s.addHistory at_ src dst why).caps = s.caps := s.addHistory_keeps (fun u : State => u.caps) (fun _ _ => rfl) ..
@[simp] theorem State.addHistory_modes (at_ : Nat) (src dst : Mode) (why : Reason) : (s.addHistory at_ src dst why).modes = s.modes := s.addHistory_keeps (fun u : State => u.modes) (fun _ _ => rfl) ..
@[simp] theorem State.addHistory_ops (at_ : Nat) (src dst : Mode) (why : Reason) : (s.addHistory at_ src dst why).ops = s.ops := s.addHistory_keeps (fun u : State => u.ops) (fun _ _ => rfl) ..
@[simp] theorem State.addHistory_ints (at_ : Nat) (src dst : Mode) (why : Reason) : (s.addHistory at_ src dst why).ints = s.ints := s.addHistory_keeps (fun u : State => u.ints) (fun _ _ => rfl) ..
@[simp] theorem State.addHistory_phases (at_ : Nat) (src dst : Mode) (why : Reason) : (s.addHistory at_ src dst why).phases = s.phases := s.addHistory_keeps (fun u : State => u.phases) (fun _ _ => rfl) ..
@[simp] theorem State.addHistory_tiles (at_ : Nat) (src dst : Mode) (why : Reason) : (s.addHistory at_ src dst why).tiles = s.tiles := s.addHistory_keeps (fun u : State => u.tiles) (fun _ _ => rfl) ..
@[simp] theorem State.addHistory_frame (at_ : Nat) (src dst : Mode) (why : Reason) : (s.addHistory at_ src dst why).frame = s.frame := s.addHistory_keeps (fun u : State => u.frame) (fun _ _ => rfl) ..
@[simp] theorem State.addHistory_rails (at_ : Nat) (src dst : Mode) (why : Reason) : (s.addHistory at_ src dst why).rails = s.rails := s.addHistory_keeps (fun u : State => u.rails) (fun _ _ => rfl) ..
@[simp] theorem State.addHistory_auxs (at_ : Nat) (src dst : Mode) (why : Reason) : (s.addHistory at_ src dst why).auxs = s.auxs := s.addHistory_keeps (fun u : State => u.auxs) (fun _ _ => rfl) ..
@[simp] theorem State.addHistory_seq (at_ : Nat) (src dst : Mode) (why : Reason) : (s.addHistory at_ src dst why).seq = s.seq := s.addHistory_keeps (fun u : State => u.seq) (fun _ _ => rfl) ..
@[simp] theorem State.addHistory_bus (at_ : Nat) (src dst : Mode) (why : Reason) : (s.addHistory at_ src dst why).bus = s.bus := s.addHistory_keeps (fun u : State => u.bus) (fun _ _ => rfl) ..
@[simp] theorem State.addHistory_sup (at_ : Nat) (src dst : Mode) (why : Reason) : (s.addHistory at_ src dst why).sup = s.sup := s.addHistory_keeps (fun u : State => u.sup) (fun _ _ => rfl) ..
@[simp] theorem State.addHistory_path (at_ : Nat) (src dst : Mode) (why : Reason) : (s.addHistory at_ src dst why).path = s.path := s.addHistory_keeps (fun u : State => u.path) (fun _ _ => rfl) ..
@[simp] theorem State.addHistory_chg (at_ : Nat) (src dst : Mode) (why : Reason) : (s.addHistory at_ src dst why).chg = s.chg := s.addHistory_keeps (fun u : State => u.chg) (fun _ _ => rfl) ..
@[simp] theorem State.addHistory_est (at_ : Nat) (src dst : Mode) (why : Reason) : (s.addHistory at_ src dst why).est = s.est := s.addHistory_keeps (fun u : State => u.est) (fun _ _ => rfl) ..
@[simp] theorem State.addHistory_met (at_ : Nat) (src dst : Mode) (why : Reason) : (s.addHistory at_ src dst why).met = s.met := s.addHistory_keeps (fun u : State => u.met) (fun _ _ => rfl) ..
@[simp] theorem State.addHistory_therm (at_ : Nat) (src dst : Mode) (why : Reason) : (s.addHistory at_ src dst why).therm = s.therm := s.addHistory_keeps (fun u : State => u.therm) (fun _ _ => rfl) ..
@[simp] theorem State.addHistory_nvm (at_ : Nat) (src dst : Mode) (why : Reason) : (s.addHistory at_ src dst why).nvm = s.nvm := s.addHistory_keeps (fun u : State => u.nvm) (fun _ _ => rfl) ..
@[simp] theorem State.addHistory_dma (at_ : Nat) (src dst : Mode) (why : Reason) : (s.addHistory at_ src dst why).dma = s.dma := s.addHistory_keeps (fun u : State => u.dma) (fun _ _ => rfl) ..
@[simp] theorem State.addHistory_mir (at_ : Nat) (src dst : Mode) (why : Reason) : (s.addHistory at_ src dst why).mir = s.mir := s.addHistory_keeps (fun u : State => u.mir) (fun _ _ => rfl) ..
@[simp] theorem State.addHistory_net (at_ : Nat) (src dst : Mode) (why : Reason) : (s.addHistory at_ src dst why).net = s.net := s.addHistory_keeps (fun u : State => u.net) (fun _ _ => rfl) ..
@[simp] theorem State.addHistory_cfg (at_ : Nat) (src dst : Mode) (why : Reason) : (s.addHistory at_ src dst why).cfg = s.cfg := s.addHistory_keeps (fun u : State => u.cfg) (fun _ _ => rfl) ..
@[simp] theorem State.addHistory_ports (at_ : Nat) (src dst : Mode) (why : Reason) : (s.addHistory at_ src dst why).ports = s.ports := s.addHistory_keeps (fun u : State => u.ports) (fun _ _ => rfl) ..
@[simp] theorem State.addHistory_links (at_ : Nat) (src dst : Mode) (why : Reason) : (s.addHistory at_ src dst why).links = s.links := s.addHistory_keeps (fun u : State => u.links) (fun _ _ => rfl) ..
@[simp] theorem State.addHistory_hab (at_ : Nat) (src dst : Mode) (why : Reason) : (s.addHistory at_ src dst why).hab = s.hab := s.addHistory_keeps (fun u : State => u.hab) (fun _ _ => rfl) ..
@[simp] theorem State.addHistory_oasis (at_ : Nat) (src dst : Mode) (why : Reason) : (s.addHistory at_ src dst why).oasis = s.oasis := s.addHistory_keeps (fun u : State => u.oasis) (fun _ _ => rfl) ..
@[simp] theorem State.addHistory_ledger (at_ : Nat) (src dst : Mode) (why : Reason) : (s.addHistory at_ src dst why).ledger = s.ledger := s.addHistory_keeps (fun u : State => u.ledger) (fun _ _ => rfl) ..
@[simp] theorem State.addHistory_sec (at_ : Nat) (src dst : Mode) (why : Reason) : (s.addHistory at_ src dst why).sec = s.sec := s.addHistory_keeps (fun u : State => u.sec) (fun _ _ => rfl) ..
@[simp] theorem State.addHistory_otp (at_ : Nat) (src dst : Mode) (why : Reason) : (s.addHistory at_ src dst why).otp = s.otp := s.addHistory_keeps (fun u : State => u.otp) (fun _ _ => rfl) ..
@[simp] theorem State.addHistory_get (at_ : Nat) (src dst : Mode) (why : Reason) (key : Nat) : (s.addHistory at_ src dst why).get key = s.get key := by simp [State.get]

@[simp] theorem State.raise_rail (e : EventObj) (k : Nat) (r : Fin 32) : (s.raise e k).rail r = s.rail r := by simp [State.rail]
@[simp] theorem State.raise_phase (e : EventObj) (k : Nat) (p : Fin 56) : (s.raise e k).phase p = s.phase p := by simp [State.phase]
@[simp] theorem State.raise_aux (e : EventObj) (k : Nat) (j : Fin 4) : (s.raise e k).aux j = s.aux j := by simp [State.aux]
@[simp] theorem State.raise_link (e : EventObj) (k : Nat) (t : Fin 8) : (s.raise e k).link t = s.link t := by simp [State.link]
@[simp] theorem State.raise_tile (e : EventObj) (k : Nat) (t : Fin 8) : (s.raise e k).tile t = s.tile t := by simp [State.tile]
@[simp] theorem State.raise_op (e : EventObj) (k : Nat) (t : Nat) : (s.raise e k).op t = s.op t := by simp [State.op]

/-! ### What an event leaves in the objects -/

theorem State.raiseBit_get_ne {key : Nat} (e : EventObj) (k : Nat) (h : key ≠ e.key) :
    ((s.raiseBit e k).1).get key = s.get key := by
  unfold State.raiseBit
  split
  · rfl
  · split
    · rfl
    · dsimp only
      split
      · rw [State.setPending_get, State.get_put_ne _ h]
      · exact State.get_put_ne _ h _

theorem State.raiseHeard_get_ne {key : Nat} (e : EventObj) (k : Nat) (h : key ≠ e.key) :
    ((s.raiseHeard e k).1).get key = s.get key := by
  have hb := s.raiseBit_get_ne e k h
  unfold State.raiseHeard
  split
  · rename_i t ht; rw [ht] at hb; exact hb
  · rename_i t ht
    rw [ht] at hb
    rw [State.queueEvents_fst_get]
    exact hb

theorem State.countDrops_get_ne {key : Nat} (n : Nat) (h1 : key ≠ K.NET_EVENTS_DROPPED) (h2 : key ≠ K.NET_EVENT) :
    (s.countDrops n).get key = s.get key := by
  have hq (u : State) (k : Nat) : ((u.raiseHeard Ev.net k).1).get key = u.get key := u.raiseHeard_get_ne Ev.net k h2
  have ha (u : State) (m : Nat) : ((u.addSat K.NET_EVENTS_DROPPED m).1).get key = u.get key := u.get_put_ne h1 _
  have hn (u : State) (x : NetSt) : State.get { u with net := x } key = u.get key := rfl
  unfold State.countDrops
  split
  · rfl
  · dsimp only
    rw [ha]
    repeat' split
    all_goals simp only [hq, hn, ha]

/-- An event writes its own object; where partners' queues overflow, also the count of lost events and its object. -/
theorem State.raise_get_ne {key : Nat} (e : EventObj) (k : Nat) (h : key ≠ e.key) (h1 : key ≠ K.NET_EVENTS_DROPPED)
    (h2 : key ≠ K.NET_EVENT) : (s.raise e k).get key = s.get key :=
  (State.countDrops_get_ne _ _ h1 h2).trans (s.raiseHeard_get_ne e k h)

theorem bitOf_setBit (v : Int) (j k : Nat) : bitOf (setBit v k) j = (bitOf v j || decide (j = k)) := by
  simp only [bitOf, setBit, Int.toNat_natCast, Nat.testBit_or, Nat.testBit_two_pow]
  by_cases h : j = k <;> simp [h, eq_comm]

/-- Setting a bit of an event object clears none. -/
theorem State.raiseBit_mono (e : EventObj) (k key j : Nat) (h : bitOf (s.get key) j = true) :
    bitOf (((s.raiseBit e k).1).get key) j = true := by
  unfold State.raiseBit
  split
  · exact h
  · split
    · exact h
    · have hp : bitOf ((s.put e.key (setBit (s.get e.key) k)).get key) j = true := by
        by_cases hk : key = e.key
        · subst hk; simp [bitOf_setBit, h]
        · rw [State.get_put_ne _ hk]; exact h
      dsimp only
      split <;> simpa using hp

theorem State.raiseHeard_mono (e : EventObj) (k key j : Nat) (h : bitOf (s.get key) j = true) :
    bitOf (((s.raiseHeard e k).1).get key) j = true := by
  have hb := s.raiseBit_mono e k key j h
  unfold State.raiseHeard
  split
  · rename_i t ht; rw [ht] at hb; exact hb
  · rename_i t ht
    rw [ht] at hb
    rw [State.queueEvents_fst_get]
    exact hb

/-- Counting lost events clears no bit of another object. -/
theorem State.countDrops_mono (n key j : Nat) (hk : key ≠ K.NET_EVENTS_DROPPED) (h : bitOf (s.get key) j = true) :
    bitOf ((s.countDrops n).get key) j = true := by
  have ha (u : State) (m : Nat) : ((u.addSat K.NET_EVENTS_DROPPED m).1).get key = u.get key := u.get_put_ne hk _
  have hq (u : State) (i : Nat) (hu : bitOf (u.get key) j = true) : bitOf (((u.raiseHeard Ev.net i).1).get key) j = true :=
    u.raiseHeard_mono Ev.net i key j hu
  unfold State.countDrops
  split
  · exact h
  · have h1 : bitOf (((s.addSat K.NET_EVENTS_DROPPED n).1).get key) j = true := by rw [ha]; exact h
    generalize s.addSat K.NET_EVENTS_DROPPED n = a at h1
    obtain ⟨u, sat⟩ := a
    have h2 : bitOf ((if u.net.dropArmed then ({ u with net := { u.net with dropArmed := false } }).raiseHeard Ev.net 11
        else (u, 0)).1.get key) j = true := by
      split
      · exact hq _ _ h1
      · exact h1
    dsimp only
    generalize (if u.net.dropArmed then ({ u with net := { u.net with dropArmed := false } }).raiseHeard Ev.net 11
        else (u, 0)) = b at h2
    obtain ⟨v, more⟩ := b
    have h3 : bitOf ((if sat then (v, true) else v.addSat K.NET_EVENTS_DROPPED more).1.get key) j = true := by
      split
      · exact h2
      · rw [ha]; exact h2
    dsimp only
    generalize (if sat then (v, true) else v.addSat K.NET_EVENTS_DROPPED more) = c at h3
    obtain ⟨w, sat'⟩ := c
    dsimp only
    rw [ha]
    split
    · exact hq _ _ h3
    · exact h3

/-- An event of a unit that is present leaves its bit set. -/
theorem State.raise_bit (e : EventObj) (k : Nat) (h : s.absent e.key = false) (hk : e.key ≠ K.NET_EVENTS_DROPPED) :
    bitOf ((s.raise e k).get e.key) k = true := by
  have hb : bitOf (((s.raiseBit e k).1).get e.key) k = true := by
    unfold State.raiseBit
    rw [h]
    by_cases h2 : bitOf (s.get e.key) k = true
    · simp [h2]
    · simp only [Bool.false_eq_true, if_false, h2]
      split <;> simp [bitOf_setBit]
  have hr : bitOf (((s.raiseHeard e k).1).get e.key) k = true := by
    unfold State.raiseHeard
    split
    · rename_i t ht; rw [ht] at hb; exact hb
    · rename_i t ht
      rw [ht] at hb
      rw [State.queueEvents_fst_get]
      exact hb
  exact State.countDrops_mono _ _ _ _ hk hr

/-! ### Accesses -/

/-- An access that its object grants, from a port that is open. -/
theorem State.access_ok {acc : Accessor} {f : State → Res} {t : State} {a : Answer} (hp : s.portsOpen = true)
    (hf : f s = .ok (t, a)) : s.access acc f = { t with answer := a } := by simp [State.access, hp, hf]

/-- An access that its object refuses changes nothing but the answer. -/
theorem State.access_error {acc : Accessor} {f : State → Res} {e : Abort} (hp : s.portsOpen = true) (hf : f s = .error e)
    (he : e ≠ .operationsFull) : s.access acc f = { s with answer := .abort e } := by
  simp only [State.access, hp, if_true, hf]

/-- A write whose checks pass has the effect of its object. -/
theorem State.writeVia_ok {acc : Accessor} {key n : Nat} {d : ObjDef} {f : State → Res} (hr : s.reachWrite acc key n = .ok d)
    (ho : s.roleOk acc d = true) : s.writeVia acc key n f = f s := by simp [State.writeVia, hr, ho]


end Sys2Proof.Machine
end

