-- ==== Sys2Proof/Laws/Records.lean ====
section
/-! SUPPORT. The two-slot records of MRAM (R264, R276, R286) and the choice at a flit boundary (R302). -/

namespace Sys2Proof.Machine

/-- What is written last is what the next load finds, with the highest sequence number plus 1. -/
@[simp] theorem TwoSlot.newest_write {α : Type} (x : TwoSlot α) (v : α) :
    (x.write v).newest = some ((match x.newest with | some p => p.1 | none => 0) + 1, v) := by
  obtain ⟨_ | a, _ | b⟩ := x
  · simp [TwoSlot.write, TwoSlot.newest, TwoSlot.takesA]
  · simp [TwoSlot.write, TwoSlot.newest, TwoSlot.takesA]
  · simp [TwoSlot.write, TwoSlot.newest, TwoSlot.takesA]
  · by_cases h : a.1 < b.1 <;> simp [TwoSlot.write, TwoSlot.newest, TwoSlot.takesA, h]

/-- A torn write costs nothing but itself: the record found is the one from before it. -/
@[simp] theorem TwoSlot.newest_tear {α : Type} (x : TwoSlot α) : x.tear.newest = x.newest := by
  obtain ⟨_ | a, _ | b⟩ := x
  · simp [TwoSlot.tear, TwoSlot.newest, TwoSlot.takesA]
  · simp [TwoSlot.tear, TwoSlot.newest, TwoSlot.takesA]
  · simp [TwoSlot.tear, TwoSlot.newest, TwoSlot.takesA]
  · by_cases h : a.1 < b.1 <;> simp [TwoSlot.tear, TwoSlot.newest, TwoSlot.takesA, h]

/-- A flit that waits is never passed over for one that comes after it in the order of R302. -/
theorem TxSt.next_first (x : TxSt) (before after : List (Fin 8)) (k : Fin 8) (h : flitOrder = before ++ k :: after)
    (hk : 0 < x.waiting[k]) (hb : ∀ j ∈ before, x.waiting[j] = 0) : x.next = k := by
  have : before.find? (fun j => decide (0 < x.waiting[j])) = none := by
    rw [List.find?_eq_none]
    intro j hj
    simp [hb j hj]
  rw [TxSt.next, h, List.find?_append, this, List.find?_cons_of_pos (by simpa using hk)]
  rfl

end Sys2Proof.Machine
end

