-- ==== Sys2Proof/WellFormed.lean ====
section
/-! DEFINITION. Which commands are well formed: every operand fits the field, the record or the measurement that brings it. Indices of
units are bounded by their types. A command that is not well formed is none that the hardware can meet; the meanings are total all the same. -/

namespace Sys2Proof
open Sys2Proof.Machine

/-- A number fits a field of `n` bits. -/
def fits (n v : Nat) : Bool := decide (v < 2 ^ n)

/-- A measured quantity fits `n` bits in two's complement (R12). -/
def fitsInt (n : Nat) (v : Int) : Bool := decide (-(2 ^ (n - 1)) ≤ v) && decide (v < 2 ^ (n - 1))

/-- At most `n` bytes: 256 through a mailbox (R383), and no more than the largest object otherwise (R366). -/
def upTo (n : Nat) (bs : Bytes) : Bool := decide (bs.length ≤ n)

/-- A byte address within the MRAM array (R414). -/
def arrayAddr (a : Nat) : Bool := decide (a < 0x200000)

/-- A value that a flit or a cut brings: a pair's key and 32 bits (R300, R346). -/
def sampleWf (x : Sample) : Bool := fits 24 x.key && fitsInt 32 x.value

/-- A value that a management tick brings. -/
def measureWf : Measure → Bool
  | .obj key v => fits 24 key && fitsInt 64 v
  | .preRegulator mw => fitsInt 32 mw
  | .lines _ _ => true
  | .auxLimit _ _ => true
  | .ntc mv => fitsInt 16 mv
  | .bid mv => fitsInt 16 mv
  | .vhk mv => fits 16 mv
  | .gates _ _ => true
  | .rtcFraction f => fits 15 f
  | .chargeSense uv => fitsInt 32 uv

/-- A frame of the object protocol: 7-bit destination, source and XID, and at most 60 bytes before its CRC (R325–R327). -/
def frameWf (f : Frame) : Bool := fits 7 f.dst && fits 7 f.src && fits 7 f.xid && upTo 60 f.body

/-- A sample with its beacon time (R184). -/
def stampedWf (x : Stamped) : Bool := fits 64 x.1 && fitsInt 32 x.2

/-- The readings of one switching cycle (R68). -/
def cycleWf (i : CycleInput) : Bool :=
  (i.volts.all stampedWf) && (i.currents.all stampedWf) && fitsInt 32 i.vbus && fitsInt 32 i.vcf && fitsInt 32 i.demand

/-- The readings of a prebias (R72, R84). -/
def prebiasWf (i : PrebiasInput) : Bool := fitsInt 32 i.offset && fitsInt 32 i.v && fitsInt 32 i.vbus

/-- A status frame's time, VBUS, and the values of its phases and sense pairs (R184). -/
def tileFrameWf (f : TileFrame) : Bool :=
  fits 64 f.at_ && fitsInt 32 f.vbus && decide (f.currents.length ≤ 8) && f.currents.all (fitsInt 32) && decide (f.volts.length ≤ 8) &&
    f.volts.all (fitsInt 32)

/-- The 64 round trips of a calibration (R306). -/
def echoesWf (xs : List Nat) : Bool := decide (xs.length = 64) && xs.all (fits 32)

/-- BOOT's report names rows of the OTP array (R444). -/
def bootWf (r : BootReport) : Bool := r.corrected.all (fits 10) && r.bad.all (fits 10) && r.split.all (fits 10)

/-- A burn's report names rows of the OTP array (R444). -/
def burnWf (r : BurnReport) : Bool :=
  (r.rows.all fun x => fits 10 x.1 && x.2.all fun l => l.all (fitsInt 32)) && r.spares.all fun x => x.all fun l => l.all (fitsInt 32)

/-- What a legacy slave returns: at most an identity of 3 bytes and its CRC (R164). -/
def replyWf : LegacyReply → Bool
  | .nack => true
  | .arbLost => true
  | .sdaLow => true
  | .data bs => upTo 4 bs

/-- The content of an URGENT flit: a stamp has 64 bits once completed (R183, R300). -/
def urgentWf : UrgentBody → Bool
  | .isolation _ _ => true
  | .stamp at_ => fits 64 at_
  | .linkDown => true

/-- A well-formed command. -/
def Instr.wellFormed : Instr → Bool
  | .holdupWarning vhk => fits 16 vhk
  | .bootComplete rep => bootWf rep
  | .modeRequestVault _ woken _ => fits 10 woken
  | .modeRequestDormant _ woken _ => fits 10 woken
  | .wakeEvent sources => fits 10 sources
  | .sealDone vhks vhk => vhks.all (fits 16) && fits 16 vhk
  | .managementTick ms => ms.all measureWf
  | .syncinEdge periodNs => fits 32 periodNs
  | .switchingCycleEdge _ inp => cycleWf inp
  | .senseTestOutcome _ reading stamp => fitsInt 32 reading && stamp.all (fits 64)
  | .prebiasComplete _ inp => prebiasWf inp
  | .railVsetWrite _ _ mv => fits 16 mv
  | .rampUpStart _ v0 => fitsInt 32 v0
  | .dischargeDone _ v => fitsInt 32 v
  | .ocDwellExpired _ stamp => stamp.all (fits 64)
  | .auxVsetWrite _ _ mv => fits 16 mv
  | .auxRampDone _ v => fitsInt 32 v
  | .auxUv _ v => fitsInt 32 v
  | .pgSample _ v => fitsInt 32 v
  | .legacyPoll _ reply => replyWf reply
  | .legacyRetry _ reply => replyWf reply
  | .legacyStageGo a _ crc => fits 7 a && fits 8 crc
  | .legacyStageDown a _ crc => fits 7 a && fits 8 crc
  | .legacyStatusRead a => fits 7 a
  | .legacyIdRead a => fits 7 a
  | .legacyAllOff a crc => fits 7 a && fits 8 crc
  | .legacyFaultClear a crc => fits 7 a && fits 8 crc
  | .railOvTrip _ _ v stamp => fitsInt 32 v && stamp.all (fits 64)
  | .railUvTrip _ v stamp => fitsInt 32 v && stamp.all (fits 64)
  | .pgLossTrip _ stamp => stamp.all (fits 64)
  | .phaseOcTrip _ readings stamp => readings.all (fitsInt 32) && stamp.all (fits 64)
  | .sealingFloorReached steps sessions => fits 8 steps && decide (sessions ≤ 4)
  | .senseDisagree _ _ v lead => fitsInt 32 v && fitsInt 32 lead
  | .sensorSample _ rs => rs.all (fitsInt 16)
  | .thermalGuardSample reading => fitsInt 32 reading
  | .vbatCutoff v => fitsInt 32 v
  | .probeResult rise endV => fitsInt 32 rise && fitsInt 32 endV
  | .chargerCycle current voltage => fitsInt 32 current && fitsInt 32 voltage
  | .chgEnWrite _ v => fits 8 v
  | .chgOvStop v => fitsInt 32 v
  | .chgOvCheck v => fitsInt 32 v
  | .estImpRowWrite _ _ data => upTo 32768 data
  | .calibrationWrite _ key data => fits 24 key && upTo 32768 data
  | .jnlAckWrite _ v => fits 64 v
  | .flitStatus _ seq frame samples => fits 5 seq && tileFrameWf frame && samples.all sampleWf
  | .flitSample _ seq samples => fits 5 seq && samples.all sampleWf
  | .flitAcknak _ _ payload => fits 6 payload
  | .flitTime _ seq b clocks => fits 5 seq && fits 64 b && fits 32 clocks
  | .flitCommand _ _ seq _ samples => fits 5 seq && samples.all sampleWf
  | .flitTrain _ mask _ => mask.all (fits 8)
  | .flitUrgent _ seq body => fits 5 seq && urgentWf body
  | .flitBad _ _ word => fits 80 word
  | .linkTrained _ mask echoes turnaround => fits 8 mask && echoesWf echoes && fits 32 turnaround
  | .cutInstant b samples => fits 64 b && samples.all sampleWf
  | .hailReq f => frameWf f
  | .bye f => frameWf f
  | .heartbeat f => frameWf f
  | .readReq f => frameWf f
  | .writeReq f => frameWf f
  | .abort f => frameWf f
  | .blockInit f => frameWf f
  | .blockSeg f => frameWf f
  | .blockAck f => frameWf f
  | .blockEnd f => frameWf f
  | .eventAck f => frameWf f
  | .authReq f _ => frameWf f
  | .authResponse f => frameWf f
  | .frameCrc _ id bytes => fits 29 id && upTo 512 bytes
  | .eventResend _ counter => fits 8 counter
  | .canErrorPassive _ txErr rxErr => fits 8 txErr && fits 8 rxErr && (decide (127 < txErr) || decide (127 < rxErr))
  | .netEvict _ slot => fits 8 slot
  | .netInstallerPw _ data => upTo 32768 data
  | .tlmEnWrite _ _ v => fits 8 v
  | .objectWrite _ key data => fits 24 key && upTo 32768 data
  | .stagedWrite _ key data => fits 24 key && upTo 32768 data
  | .bootClassWrite _ key data => fits 24 key && upTo 32768 data
  | .cfgImageWrite _ data => upTo 32768 data
  | .spiFrameInvalid _ bytes _ reads => upTo 512 bytes && fits 16 reads
  | .intComplete _ n => fits 32 n
  | .counterLowRead _ key _ => fits 24 key
  | .objectRequestRead _ key offset len => fits 24 key && fits 32 offset && fits 16 len
  | .objectRequestWrite _ key offset data => fits 24 key && fits 32 offset && upTo 256 data
  | .objectRequestWriteSeg _ key offset data => fits 24 key && fits 32 offset && upTo 256 data
  | .objectRequestWriteEnd _ key offset data => fits 24 key && fits 32 offset && upTo 256 data
  | .twStretchLimit reads => fits 16 reads
  | .opAbort _ tag => fits 8 tag
  | .mramRawRead _ corrected bad => corrected.all arrayAddr && bad.all arrayAddr
  | .mramRawWrite _ data => upTo 32768 data
  | .mramPwPresent _ data => upTo 32768 data
  | .mramPwSet _ data => upTo 32768 data
  | .unlockIdleExpiry _ part => fits 8 part
  | .mramPortGrant ue fix => ue.all (fits 32) && fix.all arrayAddr
  | .scrubBatch weak corrected bad => decide (weak + corrected + bad.length ≤ 64)
  | .mirageFrame values => values.all fun v => v.all (fitsInt 32)
  | .mirageTrigger kind arg before after => fits 8 kind && fits 16 arg && fitsInt 32 before && fitsInt 32 after
  | .otpDataWrite _ v => fits 64 v
  | .otpBurnDone rep => burnWf rep
  | .lcAdvance _ target _ => fits 8 target
  | .dbgProof _ data => upTo 32768 data
  | .dbgLevelReq _ level => fits 8 level
  | .rtcSetSeconds _ v => fits 64 v
  | .calSet _ v => fits 64 v
  | .rtcAdjust _ v => fitsInt 32 v
  | .rtcAlarmWrite _ v => fits 64 v
  | .oasisSupplySwitch vbk vcell voas => fits 16 vbk && fits 16 vcell && fits 16 voas
  | .oasisReservoir vbk vcell voas => fits 16 vbk && fits 16 vcell && fits 16 voas
  | .oasisDomainReturn vbk vcell voas => fits 16 vbk && fits 16 vcell && fits 16 voas
  | .vhkPorRelease | .vhkBelowPor | .hrstAssert | .hrstRelease | .modeRequestShip _ _ | .modeRequestIdle _ | .modeRequestService _ _ 
  | .dormantExitDone _ | .vinAbsent1ms | .batteryUnusable | .heldResetRelease | .failsafeRetry | .fsCleanTimeReached | .syncinTimeout 
  | .poolAverageForm _ | .senseOpenCode _ _ | .openPhase _ | .cfFault _ _ | .prebiasTimeout _ | .phaseIsolationEdge _ 
  | .spareCheckDone _ _ | .phClearIso _ _ | .phIsolate _ _ | .shedDwellExpired _ | .phIPeakRead _ _ | .lanternVbusUvlo _ 
  | .railCtrlPowerUp _ _ | .railCtrlPowerDown _ _ | .railPowerUpApply _ | .railPowerDownApply _ | .railVoltageApply _ 
  | .railAbortApply _ | .onDelayElapsed _ | .referenceAtTarget _ | .offDelayElapsed _ | .referenceBelowFloor _ | .dischargeSlow _ 
  | .coilPullInElapsed _ | .coilReleaseEnd _ | .coilOpen _ | .auxEnWrite _ _ _ | .auxOcDwellExpired _ | .lossHigh | .fastEstimate 
  | .fastCapsInForce | .ledgerEClear _ | .ledgerAccountCopy | .grpCmdPowerUp _ _ | .grpCmdPowerDown _ _ | .groupGatesOpen _ 
  | .stepDelayElapsed _ | .stepComplete _ | .stepTimeout _ | .pgQualified _ | .stepOffDelayElapsed _ | .stepRailsDown _ 
  | .seqChatterClear _ | .fogLowRecognised | .fogReleased | .bellRing | .bellHoldEnd | .bellTimeout | .triggerStampTimeout 
  | .supQuench _ | .supSnapTake _ | .supSnapClear _ | .mramLeaseRevoke _ | .channelLeaseRevoke _ | .tagReservationExpiry _ 
  | .sclStretchTimeout | .busClearSample _ | .busClearRepeat | .twBusRecovered | .siroccoUpdate | .tempLimitModel | .tempLimitSensor 
  | .sensorBroken | .rateSlow _ | .modelDiverge _ | .sirSensorReset _ | .vinComparatorTrip _ | .vinWindowEnter | .vinWindowExit 
  | .vinQualified | .switchbackDone | .restEnter | .restWindowEnd | .batteryProbe | .chgStart _ | .chgWdKick _ | .chgWatchdogExpiry 
  | .prechargeQualified | .chgTermination | .rechargeThreshold | .chgTimerExpiry | .pbPress | .pbShortPress | .pbLongPress 
  | .longPressBatfetRelease | .restAnchor | .confidenceExpired | .forcedRestRequest | .forcedRestRetry | .bidChange | .estLearnReset _ 
  | .estFrestAbort _ | .coreRecordWrite | .meteringSample _ _ _ | .inputStuck _ _ | .inputRestored _ _ | .stuckSessionFault _ 
  | .pllLockLost | .mpSessionOpen _ _ | .mpSessionClose _ _ | .sessionOpenInstant _ | .sessionCloseInstant _ | .sessionSigned _ 
  | .registerCopy | .metEClear _ | .jnlReadRec _ | .jnlReadBlock _ | .jnlInit _ | .ackTimer _ _ | .linkSilent _ | .linkClockLost _ 
  | .downLinkLost _ | .trainingDeadline _ _ | .timeFlitTick | .crystalLoss | .habArmCmd _ | .habDisarmCmd _ 
  | .beamTimeOffsetMaxRead _ _ | .heartbeatBroadcast | .telemetrySend | .partnerSilent _ | .blockSilence _ | .canBusOff _ 
  | .canBusRecovered _ | .roleIdleTimeout _ | .authLockoutExpiry _ | .cfgCommit _ | .cfgDiscard _ | .stageTimeout | .commitChecksDone 
  | .commitAckTimeout | .commitStageApply | .cfgSave _ | .cfgSaveDone | .cfgErase _ | .intClaim _ | .tbLoRead _ 
  | .mailboxResponseReady _ | .objectResponse _ | .segmentSilence _ | .twTimeout | .mramPwLock _ | .mramPwReset _ | .pwLockoutExpiry _ 
  | .dmaStart _ _ | .dmaRetry _ | .dmaDone _ | .mirArmCmd _ | .mirStopCmd _ | .mirTriggerCmd _ | .miragePostFull | .mirageRotationDone 
  | .otpWindowOpen _ | .otpWindowClose _ | .otpWindowIdle | .vqpsLeftWindow | .otpReburn _ | .lifecycleTransitionDone 
  | .lcReturnNonce _ _ | .dbgChallenge _ _ | .dbgHaltCmd _ | .dbgResumeCmd _ | .debugIdleTimeout | .testNLow | .rtcSecond 
  | .rtcOscFault | .rtcCrystalReturn | .oasisDomainLost | .tamper | .tamperClear _ | .wakeInput | .cellLow | .vinInService _ 
  | .lanternVbusUvloRelease _ | .intReleaseHoldEnd | .dmaGrantTimeout _ | .ledgerCapApply _ | .batpathOnChange _ 
  | .mpOverrangeCountRead _ _ | .netEventsDroppedRead _ => true

end Sys2Proof
end

