-- ==== Sys2Proof/Tests/Slice0.lean ====
section
/-! SUPPORT. Tests: figures of the specification, a few single commands, the smoke tests of WellFormed, and for every statement
states and operands that meet its premises, clause by clause. -/



namespace Sys2Proof.Tests
set_option Elab.async false
open Sys2Proof Sys2Proof.Machine Sys2Proof.Machine.State

/-- A small state: reset, but in a mode, with VIN in service and the path on it. -/
def inMode (m : Mode) : State :=
  { State.reset with modes := { mode := m, vinAbsent1ms := false }, path := { st := .vin, inService := true } }

/-- The dictionary's row of a key. -/
def row (key : Nat) : ObjDef := (Dict.find key).getD { index := 0, type := .u8, access := .ro, size := 1 }

/-- A partner in slot 0 of port A, at node 9, of protocol version 2. -/
def partner9 : Partner := { port := 0, node := 9, version := 2 }

/-- A small state: RUN, node 0x45 on port A, with a partner in slot 0. -/
def withPartner (p : Partner) : State :=
  { (inMode .run).puts [(K.NET_NODE_ID, 0x45)] with net := { partners := State.reset.net.partners.set 0 (some p) } }

/-- A frame from node 9 to node 0x45 on port A. -/
def from9 (xid : Nat) (body : Bytes) : Frame := ⟨0, 0x45, 9, xid, body⟩

/-- A configuration image of no entries (R365). -/
def emptyImage : Bytes :=
  let b := toLE 4 0x49474643 ++ toLE 2 1 ++ toLE 14 0 ++ toLE 4 36 ++ toLE 8 0
  b ++ toLE 4 (crc32 b)

/-! ### Figures of the specification -/

/-- R7: tile 5 phase 3 is phase 35. R89: its index offset 0x09 is at 0x3C69. -/
theorem test_phase_numbers : tileOf 35 = 5 ∧ K.PH_COMP_KP 35 / 256 = 0x3C69 := by decide

/-- "SPI Host Port", worked example: sources 140 and 141 are those of phases 11 and 12. R488: RTC cause 2 is source 403. -/
theorem test_source_numbers : (Ev.phase 11).source 0 = 140 ∧ (Ev.phase 12).source 5 = 141 ∧ Ev.rtc.source 2 = 403 := by decide

/-- R482: the calendar's last second is 9999-12-31T23:59:59. -/
theorem test_calendar_end :
    calendarSeconds (9999 + 12 * 2 ^ 16 + 31 * 2 ^ 24 + 23 * 2 ^ 32 + 59 * 2 ^ 40 + 59 * 2 ^ 48) = .ok 252455615999 := by decide +kernel

/-- 2000 has a 29 February: 1 March 2000 is 60 days after 1 January 2000. 2100 has none: result code 3 of R482. -/
theorem test_calendar_leap : calendarSeconds (2000 + 3 * 2 ^ 16 + 2 ^ 24) = .ok 5184000 ∧
    calendarSeconds (2100 + 2 * 2 ^ 16 + 29 * 2 ^ 24) = .error 3 := by decide +kernel

/-- The check value of CRC-32 (R9): that of the ASCII digits 1 to 9 is 0xCBF43926. -/
theorem test_crc32 : crc32 [0x31#8, 0x32#8, 0x33#8, 0x34#8, 0x35#8, 0x36#8, 0x37#8, 0x38#8, 0x39#8] = 0xCBF43926 := by decide +kernel

/-- FIPS 180-4: the digest of "abc" begins BA7816BF. -/
theorem test_sha256 : (sha256 [0x61#8, 0x62#8, 0x63#8]).take 4 = [0xBA#8, 0x78#8, 0x16#8, 0xBF#8] := by decide +kernel

/-- "Sequencing": the 16 bytes of step 11 name rail 6, group 3, delays of 100 × 10 µs and a TPGQ of 500 µs. -/
theorem test_step_bytes : (Step.ofValue (ofLE [0x40#8, 0#8, 0#8, 0#8, 0x83#8, 0#8, 0x64#8, 0#8, 0x64#8, 0#8, 0xF4#8, 1#8, 0x32#8, 0#8, 0#8, 0#8])).rails = 0x40 ∧
    (Step.ofValue (ofLE [0x40#8, 0#8, 0#8, 0#8, 0x83#8, 0#8, 0x64#8, 0#8, 0x64#8, 0#8, 0xF4#8, 1#8, 0x32#8, 0#8, 0#8, 0#8])).group = 3 ∧
    (Step.ofValue (ofLE [0x40#8, 0#8, 0#8, 0#8, 0x83#8, 0#8, 0x64#8, 0#8, 0x64#8, 0#8, 0xF4#8, 1#8, 0x32#8, 0#8, 0#8, 0#8])).valid = true ∧
    (Step.ofValue (ofLE [0x40#8, 0#8, 0#8, 0#8, 0x83#8, 0#8, 0x64#8, 0#8, 0x64#8, 0#8, 0xF4#8, 1#8, 0x32#8, 0#8, 0#8, 0#8])).tpgq = 500 := by
  decide +kernel

/-! ### One command each -/

/-- The state that a command leaves, for the tests. -/
def after (c : Instr) (s : State) : State := match exec c s with | .next t => t | _ => s

/-- R116: AUX0 at 3,300 mV and AUX2 at 1,800 mV give VPRE = 3,700 mV ("Rails and the Phase Pool"). -/
theorem test_aux_vpre :
    (after (.auxVsetWrite .spi 0 3300) ({ (inMode .run).put (K.AUX_VSET 2) 1800 with
      auxs := (State.reset.auxs.set 0 { st := .on }).set 2 { st := .on } })).get K.AUX_VPRE = 3700 := by decide +kernel

/-- R45: HRST in RUN starts SEAL, which drops every rail, and a step carries the command out from the queue. -/
theorem test_hrst_seals :
    (match Machine.step { (inMode .run).modRail 6 fun x => { x with st := .up } with pending := [.hrstAssert, .tamper] } with
      | .next t => decide (t.modes.mode = .seal ∧ (t.rail 6).st = .quenched ∧ t.pending = [.tamper])
      | _ => false) = true := by decide +kernel

/-- R45, R48: from reset, VHK above its POR threshold starts BOOT with `RESET_CAUSE` 1. -/
theorem test_por_starts_boot : (after .vhkPorRelease State.reset).modes.mode = .boot ∧
    (after .vhkPorRelease State.reset).get K.RESET_CAUSE = 1 := by decide +kernel

/-- R118: a rail is not switched by `RAIL_CTRL` in RUN (MODE_FORBIDS). -/
theorem test_rail_ctrl_refused : (after (.railCtrlPowerUp .spi 3) (inMode .run)).answer = .abort .modeForbids := by decide +kernel

/-- R354, R3: an index that no chapter names is NO_SUCH_OBJECT; a value out of range is OUT_OF_RANGE and changes nothing. -/
theorem test_write_refusals : (after (.objectWrite .spi 0x00FFFF [1#8]) (inMode .run)).answer = .abort .noSuchObject ∧
    (after (.objectWrite .spi K.PP_TVINQ [9#8, 0#8]) (inMode .run)).answer = .abort .outOfRange := by decide +kernel

/-- R287: `JNL_ACK` takes the newest record's number and refuses the next one. -/
theorem test_jnl_ack : (after (.jnlAckWrite .spi 4) { inMode .run with met := { jnl := { next := 5 } } }).met.jnl.ack = 4 ∧
    (after (.jnlAckWrite .spi 5) { inMode .run with met := { jnl := { next := 5 } } }).answer = .abort .outOfRange := by decide +kernel

/-- R475, R476: the seconds count, and stop at 0xFF_FFFF_FFFF with the fraction at 0x7FFF. -/
theorem test_rtc_second : (after .rtcSecond { inMode .run with oasis := { seconds := 41 } }).oasis.seconds = 42 ∧
    (after .rtcSecond { inMode .run with oasis := { seconds := 0xFFFFFFFFFF } }).oasis.frac = 0x7FFF := by decide +kernel

/-- R63: the eighth period of 20 µs in a row moves the frame reference to SYNCIN, one of 26 µs returns it. -/
theorem test_syncin : (after (.syncinEdge 20000) { inMode .run with frame := { inRange := 7 } }).frame.external = true ∧
    (after (.syncinEdge 26000) { inMode .run with frame := { external := true } }).frame.external = false := by decide +kernel

/-- R447, R448: a row that has burned holds the OR of what it held and the value. -/
theorem test_burn_ors :
    ((after (.otpBurnDone {}) { inMode .service with
      otp := { rows := [(20, ⟨5, 1⟩)], window := true, burn := some (.row 20 ⟨0x0A, 2⟩) } }).otpRow 20) = ⟨0x0F, 3⟩ := by decide +kernel

/-- R378: a frame that fails only shows in STAT. -/
theorem test_bad_frame : ((after (.spiFrameInvalid 0 [5#8, 0xD0#8, 0#8, 0#8, 0#8, 0#8, 0#8] false 7) (inMode .run)).port 0).crcErr = true := by
  decide +kernel

/-- "Network and Object Protocol", worked example: the identifiers of a WRITE_REQ and of its RESPONSE (R325). -/
theorem test_frame_ids : frameId 0x09 0x41 0x12 5 = 0x11304905 ∧ frameId 0x0A 0x12 0x41 5 = 0x1144A085 := by decide

/-- "Serving a phase cause over SPI": the bytes of the window read of INT_CLAIM, and the three CRCs given. -/
theorem test_spi_example : hostFrame 0 0 [5#8, 0xD1#8, 0#8, 0#8, 0#8, 0#8, 0#8] false = .winRead 5 ∧
    crc8 [0x43#8, 0xFF#8, 0x8C#8, 0#8, 0#8, 0#8] = 0x63#8 ∧ crc8 [0x46#8, 0x8C#8, 0#8, 0#8, 0#8] = 0x48#8 := by decide +kernel

/-- No row of the opcode table has bits, so no word spells a command. -/
theorem test_no_word_decodes : decodeTableWord 16 0 = none ∧ decodeTableWord 32 0xFFFFFFFF = none := by decide

/-! ### Well-formed and ill-formed commands -/

theorem test_wellFormed_accepts_1 : ([
    .holdupWarning (2 ^ 16 - 1), .bootComplete { bad := [1023] }, .modeRequestVault .spi (2 ^ 10 - 1) true,
    .modeRequestDormant .spi (2 ^ 10 - 1) true, .wakeEvent (2 ^ 10 - 1), .sealDone [2 ^ 16 - 1] (2 ^ 16 - 1),
    .managementTick [.rtcFraction 0x7FFF, .vhk 9000], .syncinEdge (2 ^ 32 - 1),
    .switchingCycleEdge 0 ⟨[(5, 7)], [(5, -7)], 0, 0, false, 0⟩, .senseTestOutcome 0 (-(2 ^ 31)) (some (2 ^ 64 - 1)),
    .prebiasComplete 0 ⟨0, 0, 0⟩, .railVsetWrite .spi 0 (2 ^ 16 - 1), .rampUpStart 0 (-(2 ^ 31)), .dischargeDone 0 (-(2 ^ 31)),
    .ocDwellExpired 0 (some (2 ^ 64 - 1)), .auxVsetWrite .spi 0 (2 ^ 16 - 1), .auxRampDone 0 (-(2 ^ 31)), .auxUv 0 (-(2 ^ 31)),
    .pgSample 0 (-(2 ^ 31)), .legacyPoll 0 (.data [1#8, 2#8, 3#8, 4#8]), .legacyRetry 0 (.data [1#8, 2#8, 3#8, 4#8]),
    .legacyStageGo (2 ^ 7 - 1) 0 (2 ^ 8 - 1), .legacyStageDown (2 ^ 7 - 1) 0 (2 ^ 8 - 1), .legacyStatusRead (2 ^ 7 - 1),
    .legacyIdRead (2 ^ 7 - 1), .legacyAllOff (2 ^ 7 - 1) (2 ^ 8 - 1), .legacyFaultClear (2 ^ 7 - 1) (2 ^ 8 - 1),
    .railOvTrip 0 0 (-(2 ^ 31)) (some (2 ^ 64 - 1)), .railUvTrip 0 (-(2 ^ 31)) (some (2 ^ 64 - 1)), .pgLossTrip 0 (some (2 ^ 64 - 1)),
    .phaseOcTrip 0 (Vector.replicate 4 70000) (some (2 ^ 64 - 1)), .sealingFloorReached (2 ^ 8 - 1) 4,
    .senseDisagree 0 0 (-(2 ^ 31)) (-(2 ^ 31)), .sensorSample 0 (Vector.replicate 4 0), .thermalGuardSample (-(2 ^ 31)),
    .vbatCutoff (-(2 ^ 31)), .probeResult (-(2 ^ 31)) (-(2 ^ 31)), .chargerCycle (-(2 ^ 31)) (-(2 ^ 31)), .chgEnWrite .spi (2 ^ 8 - 1),
    .chgOvStop (-(2 ^ 31))] : List Instr).all Instr.wellFormed = true := by decide +kernel

theorem test_wellFormed_accepts_2 : ([
    .chgOvCheck (-(2 ^ 31)), .estImpRowWrite .spi 0 [0#8], .calibrationWrite .spi (2 ^ 24 - 1) [0#8], .jnlAckWrite .spi (2 ^ 64 - 1),
    .flitStatus 0 (2 ^ 5 - 1) ⟨2 ^ 64 - 1, -1, [7], [-7]⟩ [⟨0xFFFFFF, 5⟩], .flitSample 0 (2 ^ 5 - 1) [⟨0xFFFFFF, 5⟩],
    .flitAcknak 0 true (2 ^ 6 - 1), .flitTime 0 (2 ^ 5 - 1) (2 ^ 64 - 1) (2 ^ 32 - 1),
    .flitCommand 0 true (2 ^ 5 - 1) true [⟨0xFFFFFF, 5⟩], .flitTrain 0 (some 255) none, .flitUrgent 0 (2 ^ 5 - 1) (.stamp 5),
    .flitBad 0 true (2 ^ 80 - 1), .linkTrained 0 (2 ^ 8 - 1) (List.replicate 64 100) (2 ^ 32 - 1),
    .cutInstant (2 ^ 64 - 1) [⟨0xFFFFFF, 5⟩], .hailReq ⟨0, 127, 127, 127, [0#8]⟩, .bye ⟨0, 127, 127, 127, [0#8]⟩,
    .heartbeat ⟨0, 127, 127, 127, [0#8]⟩, .readReq ⟨0, 127, 127, 127, [0#8]⟩, .writeReq ⟨0, 127, 127, 127, [0#8]⟩,
    .abort ⟨0, 127, 127, 127, [0#8]⟩, .blockInit ⟨0, 127, 127, 127, [0#8]⟩, .blockSeg ⟨0, 127, 127, 127, [0#8]⟩,
    .blockAck ⟨0, 127, 127, 127, [0#8]⟩, .blockEnd ⟨0, 127, 127, 127, [0#8]⟩, .eventAck ⟨0, 127, 127, 127, [0#8]⟩,
    .authReq ⟨0, 127, 127, 127, [0#8]⟩ true, .authResponse ⟨0, 127, 127, 127, [0#8]⟩, .frameCrc 0 (2 ^ 29 - 1) [0#8],
    .eventResend 0 (2 ^ 8 - 1), .canErrorPassive 0 128 0, .netEvict .spi (2 ^ 8 - 1), .netInstallerPw .spi [0#8],
    .tlmEnWrite .spi 0 (2 ^ 8 - 1), .objectWrite .spi (2 ^ 24 - 1) [0#8], .stagedWrite .spi (2 ^ 24 - 1) [0#8],
    .bootClassWrite .spi (2 ^ 24 - 1) [0#8], .cfgImageWrite .spi [0#8], .spiFrameInvalid 0 [0#8] true (2 ^ 16 - 1),
    .intComplete 0 (2 ^ 32 - 1), .counterLowRead 0 (2 ^ 24 - 1) true] : List Instr).all Instr.wellFormed = true := by decide +kernel

theorem test_wellFormed_accepts_3 : ([
    .objectRequestRead 0 (2 ^ 24 - 1) (2 ^ 32 - 1) (2 ^ 16 - 1), .objectRequestWrite 0 (2 ^ 24 - 1) (2 ^ 32 - 1) [0#8],
    .objectRequestWriteSeg 0 (2 ^ 24 - 1) (2 ^ 32 - 1) [0#8], .objectRequestWriteEnd 0 (2 ^ 24 - 1) (2 ^ 32 - 1) [0#8],
    .twStretchLimit (2 ^ 16 - 1), .opAbort .spi (2 ^ 8 - 1), .mramRawRead .spi [0x1FFFFF] [0x1FFFFF], .mramRawWrite .spi [0#8],
    .mramPwPresent .spi [0#8], .mramPwSet .spi [0#8], .unlockIdleExpiry none (2 ^ 8 - 1), .mramPortGrant (some (2 ^ 32 - 1)) [0x1FFFFF],
    .scrubBatch 60 4 [], .mirageFrame [none, some 7], .mirageTrigger (2 ^ 8 - 1) (2 ^ 16 - 1) (-(2 ^ 31)) (-(2 ^ 31)),
    .otpDataWrite .spi (2 ^ 64 - 1), .otpBurnDone ⟨[(1023, [[5]])], [[[5]]]⟩, .lcAdvance .spi (2 ^ 8 - 1) true, .dbgProof .spi [0#8],
    .dbgLevelReq .spi (2 ^ 8 - 1), .rtcSetSeconds .spi (2 ^ 64 - 1), .calSet .spi (2 ^ 64 - 1), .rtcAdjust .spi (-(2 ^ 31)),
    .rtcAlarmWrite .spi (2 ^ 64 - 1), .oasisSupplySwitch (2 ^ 16 - 1) (2 ^ 16 - 1) (2 ^ 16 - 1),
    .oasisReservoir (2 ^ 16 - 1) (2 ^ 16 - 1) (2 ^ 16 - 1), .oasisDomainReturn (2 ^ 16 - 1) (2 ^ 16 - 1) (2 ^ 16 - 1)] : List Instr).all Instr.wellFormed = true := by decide +kernel

theorem test_wellFormed_refuses_1 : ([
    .holdupWarning (2 ^ 16), .bootComplete { bad := [1024] }, .bootComplete { corrected := [1024] }, .bootComplete { split := [1024] },
    .modeRequestVault .spi (2 ^ 10) true, .modeRequestDormant .spi (2 ^ 10) true, .wakeEvent (2 ^ 10),
    .sealDone [0, 2 ^ 16] (2 ^ 16 - 1), .sealDone [2 ^ 16 - 1] (2 ^ 16), .managementTick [.rtcFraction 0x8000],
    .managementTick [.obj 0x1000000 0], .managementTick [.vhk 65536], .managementTick [.ntc 32768], .managementTick [.bid (-32769)],
    .managementTick [.preRegulator (2 ^ 31)], .managementTick [.chargeSense (2 ^ 31)], .syncinEdge (2 ^ 32),
    .switchingCycleEdge 0 ⟨[(2 ^ 64, 0)], [], 0, 0, false, 0⟩, .switchingCycleEdge 0 ⟨[], [(0, 2 ^ 31)], 0, 0, false, 0⟩,
    .switchingCycleEdge 0 ⟨[], [], 2 ^ 31, 0, false, 0⟩, .switchingCycleEdge 0 ⟨[], [], 0, 2 ^ 31, false, 0⟩,
    .switchingCycleEdge 0 ⟨[], [], 0, 0, false, 2 ^ 31⟩, .senseTestOutcome 0 (2 ^ 31) (some (2 ^ 64 - 1)),
    .senseTestOutcome 0 (-(2 ^ 31) - 1) (some (2 ^ 64 - 1)), .senseTestOutcome 0 (-(2 ^ 31)) (some (2 ^ 64)),
    .prebiasComplete 0 ⟨2 ^ 31, 0, 0⟩, .prebiasComplete 0 ⟨0, 2 ^ 31, 0⟩, .prebiasComplete 0 ⟨0, 0, 2 ^ 31⟩,
    .railVsetWrite .spi 0 (2 ^ 16), .rampUpStart 0 (2 ^ 31), .dischargeDone 0 (2 ^ 31), .ocDwellExpired 0 (some (2 ^ 64)),
    .auxVsetWrite .spi 0 (2 ^ 16), .auxRampDone 0 (2 ^ 31), .auxUv 0 (2 ^ 31), .pgSample 0 (2 ^ 31),
    .legacyPoll 0 (.data (List.replicate 5 0#8)), .legacyRetry 0 (.data (List.replicate 5 0#8)), .legacyStageGo (2 ^ 7) 0 (2 ^ 8 - 1),
    .legacyStageGo (2 ^ 7 - 1) 0 (2 ^ 8)] : List Instr).all (fun c => !c.wellFormed) = true := by decide +kernel

theorem test_wellFormed_refuses_2 : ([
    .legacyStageDown (2 ^ 7) 0 (2 ^ 8 - 1), .legacyStageDown (2 ^ 7 - 1) 0 (2 ^ 8), .legacyStatusRead (2 ^ 7), .legacyIdRead (2 ^ 7),
    .legacyAllOff (2 ^ 7) (2 ^ 8 - 1), .legacyAllOff (2 ^ 7 - 1) (2 ^ 8), .legacyFaultClear (2 ^ 7) (2 ^ 8 - 1),
    .legacyFaultClear (2 ^ 7 - 1) (2 ^ 8), .railOvTrip 0 0 (2 ^ 31) (some (2 ^ 64 - 1)), .railOvTrip 0 0 (-(2 ^ 31)) (some (2 ^ 64)),
    .railUvTrip 0 (2 ^ 31) (some (2 ^ 64 - 1)), .railUvTrip 0 (-(2 ^ 31)) (some (2 ^ 64)), .pgLossTrip 0 (some (2 ^ 64)),
    .phaseOcTrip 0 ((Vector.replicate 4 0).set 2 (2 ^ 31)) (some (2 ^ 64 - 1)),
    .phaseOcTrip 0 (Vector.replicate 4 70000) (some (2 ^ 64)), .sealingFloorReached (2 ^ 8) 4, .sealingFloorReached (2 ^ 8 - 1) 5,
    .senseDisagree 0 0 (2 ^ 31) (-(2 ^ 31)), .senseDisagree 0 0 (-(2 ^ 31)) (2 ^ 31),
    .sensorSample 0 ((Vector.replicate 4 0).set 2 32768), .thermalGuardSample (2 ^ 31), .vbatCutoff (2 ^ 31),
    .probeResult (2 ^ 31) (-(2 ^ 31)), .probeResult (-(2 ^ 31)) (2 ^ 31), .chargerCycle (2 ^ 31) (-(2 ^ 31)),
    .chargerCycle (-(2 ^ 31)) (2 ^ 31), .chgEnWrite .spi (2 ^ 8), .chgOvStop (2 ^ 31), .chgOvCheck (2 ^ 31),
    .calibrationWrite .spi (2 ^ 24) [0#8], .jnlAckWrite .spi (2 ^ 64), .flitStatus 0 (2 ^ 5) ⟨2 ^ 64 - 1, -1, [7], [-7]⟩ [⟨0xFFFFFF, 5⟩],
    .flitStatus 0 (2 ^ 5 - 1) ⟨2 ^ 64, 0, [], []⟩ [⟨0xFFFFFF, 5⟩], .flitStatus 0 (2 ^ 5 - 1) ⟨0, 2 ^ 31, [], []⟩ [⟨0xFFFFFF, 5⟩],
    .flitStatus 0 (2 ^ 5 - 1) ⟨0, 0, [2 ^ 31], []⟩ [⟨0xFFFFFF, 5⟩], .flitStatus 0 (2 ^ 5 - 1) ⟨0, 0, [], [2 ^ 31]⟩ [⟨0xFFFFFF, 5⟩],
    .flitStatus 0 (2 ^ 5 - 1) ⟨0, 0, List.replicate 9 0, []⟩ [⟨0xFFFFFF, 5⟩],
    .flitStatus 0 (2 ^ 5 - 1) ⟨0, 0, [], List.replicate 9 0⟩ [⟨0xFFFFFF, 5⟩],
    .flitStatus 0 (2 ^ 5 - 1) ⟨2 ^ 64 - 1, -1, [7], [-7]⟩ [⟨0x1000000, 5⟩],
    .flitStatus 0 (2 ^ 5 - 1) ⟨2 ^ 64 - 1, -1, [7], [-7]⟩ [⟨1, 2 ^ 31⟩]] : List Instr).all (fun c => !c.wellFormed) = true := by decide +kernel

theorem test_wellFormed_refuses_3 : ([
    .flitSample 0 (2 ^ 5) [⟨0xFFFFFF, 5⟩], .flitSample 0 (2 ^ 5 - 1) [⟨0x1000000, 5⟩], .flitAcknak 0 true (2 ^ 6),
    .flitTime 0 (2 ^ 5) (2 ^ 64 - 1) (2 ^ 32 - 1), .flitTime 0 (2 ^ 5 - 1) (2 ^ 64) (2 ^ 32 - 1),
    .flitTime 0 (2 ^ 5 - 1) (2 ^ 64 - 1) (2 ^ 32), .flitCommand 0 true (2 ^ 5) true [⟨0xFFFFFF, 5⟩],
    .flitCommand 0 true (2 ^ 5 - 1) true [⟨0x1000000, 5⟩], .flitTrain 0 (some 256) none, .flitUrgent 0 (2 ^ 5) (.stamp 5),
    .flitUrgent 0 (2 ^ 5 - 1) (.stamp (2 ^ 64)), .flitBad 0 true (2 ^ 80), .linkTrained 0 (2 ^ 8) (List.replicate 64 100) (2 ^ 32 - 1),
    .linkTrained 0 (2 ^ 8 - 1) (List.replicate 63 100) (2 ^ 32 - 1),
    .linkTrained 0 (2 ^ 8 - 1) (List.replicate 64 (2 ^ 32)) (2 ^ 32 - 1), .linkTrained 0 (2 ^ 8 - 1) (List.replicate 64 100) (2 ^ 32),
    .cutInstant (2 ^ 64) [⟨0xFFFFFF, 5⟩], .cutInstant (2 ^ 64 - 1) [⟨0x1000000, 5⟩], .hailReq ⟨0, 128, 9, 1, []⟩,
    .hailReq ⟨0, 9, 128, 1, []⟩, .hailReq ⟨0, 9, 9, 128, []⟩, .hailReq ⟨0, 9, 9, 1, List.replicate 61 0#8⟩, .bye ⟨0, 128, 9, 1, []⟩,
    .heartbeat ⟨0, 128, 9, 1, []⟩, .readReq ⟨0, 128, 9, 1, []⟩, .writeReq ⟨0, 128, 9, 1, []⟩, .abort ⟨0, 128, 9, 1, []⟩,
    .blockInit ⟨0, 128, 9, 1, []⟩, .blockSeg ⟨0, 128, 9, 1, []⟩, .blockAck ⟨0, 128, 9, 1, []⟩, .blockEnd ⟨0, 128, 9, 1, []⟩,
    .eventAck ⟨0, 128, 9, 1, []⟩, .authReq ⟨0, 128, 9, 1, []⟩ true, .authResponse ⟨0, 128, 9, 1, []⟩, .frameCrc 0 (2 ^ 29) [0#8],
    .eventResend 0 (2 ^ 8), .canErrorPassive 0 127 127, .canErrorPassive 0 256 0, .canErrorPassive 0 0 256, .netEvict .spi (2 ^ 8)] : List Instr).all (fun c => !c.wellFormed) = true := by decide +kernel

theorem test_wellFormed_refuses_4 : ([
    .tlmEnWrite .spi 0 (2 ^ 8), .objectWrite .spi (2 ^ 24) [0#8], .stagedWrite .spi (2 ^ 24) [0#8], .bootClassWrite .spi (2 ^ 24) [0#8],
    .spiFrameInvalid 0 [0#8] true (2 ^ 16), .intComplete 0 (2 ^ 32), .counterLowRead 0 (2 ^ 24) true,
    .objectRequestRead 0 (2 ^ 24) (2 ^ 32 - 1) (2 ^ 16 - 1), .objectRequestRead 0 (2 ^ 24 - 1) (2 ^ 32) (2 ^ 16 - 1),
    .objectRequestRead 0 (2 ^ 24 - 1) (2 ^ 32 - 1) (2 ^ 16), .objectRequestWrite 0 (2 ^ 24) (2 ^ 32 - 1) [0#8],
    .objectRequestWrite 0 (2 ^ 24 - 1) (2 ^ 32) [0#8], .objectRequestWrite 0 (2 ^ 24 - 1) (2 ^ 32 - 1) (List.replicate 257 0#8),
    .objectRequestWriteSeg 0 (2 ^ 24) (2 ^ 32 - 1) [0#8], .objectRequestWriteSeg 0 (2 ^ 24 - 1) (2 ^ 32) [0#8],
    .objectRequestWriteSeg 0 (2 ^ 24 - 1) (2 ^ 32 - 1) (List.replicate 257 0#8), .objectRequestWriteEnd 0 (2 ^ 24) (2 ^ 32 - 1) [0#8],
    .objectRequestWriteEnd 0 (2 ^ 24 - 1) (2 ^ 32) [0#8], .objectRequestWriteEnd 0 (2 ^ 24 - 1) (2 ^ 32 - 1) (List.replicate 257 0#8),
    .twStretchLimit (2 ^ 16), .opAbort .spi (2 ^ 8), .mramRawRead .spi [0x200000] [0x1FFFFF], .mramRawRead .spi [0x1FFFFF] [0x200000],
    .unlockIdleExpiry none (2 ^ 8), .mramPortGrant (some (2 ^ 32)) [0x1FFFFF], .mramPortGrant (some (2 ^ 32 - 1)) [0x200000],
    .scrubBatch 60 5 [], .scrubBatch 60 4 [7], .mirageFrame [none, some (2 ^ 31)],
    .mirageTrigger (2 ^ 8) (2 ^ 16 - 1) (-(2 ^ 31)) (-(2 ^ 31)), .mirageTrigger (2 ^ 8 - 1) (2 ^ 16) (-(2 ^ 31)) (-(2 ^ 31)),
    .mirageTrigger (2 ^ 8 - 1) (2 ^ 16 - 1) (2 ^ 31) (-(2 ^ 31)), .mirageTrigger (2 ^ 8 - 1) (2 ^ 16 - 1) (-(2 ^ 31)) (2 ^ 31),
    .otpDataWrite .spi (2 ^ 64), .otpBurnDone ⟨[(1024, [])], []⟩, .otpBurnDone ⟨[(1, [[2 ^ 31]])], []⟩, .otpBurnDone ⟨[], [[[2 ^ 31]]]⟩,
    .lcAdvance .spi (2 ^ 8) true, .dbgLevelReq .spi (2 ^ 8), .rtcSetSeconds .spi (2 ^ 64)] : List Instr).all (fun c => !c.wellFormed) = true := by decide +kernel

theorem test_wellFormed_refuses_5 : ([
    .calSet .spi (2 ^ 64), .rtcAdjust .spi (2 ^ 31), .rtcAlarmWrite .spi (2 ^ 64), .oasisSupplySwitch (2 ^ 16) (2 ^ 16 - 1) (2 ^ 16 - 1),
    .oasisSupplySwitch (2 ^ 16 - 1) (2 ^ 16) (2 ^ 16 - 1), .oasisSupplySwitch (2 ^ 16 - 1) (2 ^ 16 - 1) (2 ^ 16),
    .oasisReservoir (2 ^ 16) (2 ^ 16 - 1) (2 ^ 16 - 1), .oasisReservoir (2 ^ 16 - 1) (2 ^ 16) (2 ^ 16 - 1),
    .oasisReservoir (2 ^ 16 - 1) (2 ^ 16 - 1) (2 ^ 16), .oasisDomainReturn (2 ^ 16) (2 ^ 16 - 1) (2 ^ 16 - 1),
    .oasisDomainReturn (2 ^ 16 - 1) (2 ^ 16) (2 ^ 16 - 1), .oasisDomainReturn (2 ^ 16 - 1) (2 ^ 16 - 1) (2 ^ 16)] : List Instr).all (fun c => !c.wellFormed) = true := by decide +kernel

/-! ### Premises of the statements: every clause is met by a state and operands -/

theorem test_ModeRequests_premises :
    (∃ (acc : Accessor) (d : ObjDef) (s : State) (woken : Nat), s.portsOpen = true ∧ s.reachWrite acc K.MODE_REQUEST 1 = .ok d ∧
      s.idleCond = true ∧ s.sessionOpen = false ∧ s.anyRunning = false ∧ s.modes.serviceLeaving = false ∧ s.wakeHits 1 woken = 0 ∧
      s.habArmed = false) ∧
    (∃ (acc : Accessor) (d : ObjDef) (s : State) (woken : Nat), s.portsOpen = true ∧ s.reachWrite acc K.MODE_REQUEST 1 = .ok d ∧
      s.idleCond = true ∧ s.sessionOpen = false ∧ s.anyRunning = false ∧ s.modes.serviceLeaving = false ∧ s.wakeHits 1 woken ≠ 0) ∧
    (∃ (acc : Accessor) (d : ObjDef) (s : State), s.portsOpen = true ∧ s.reachWrite acc K.MODE_REQUEST 1 = .ok d ∧ s.idleCond = true ∧
      s.sessionOpen = false ∧ s.anyRunning = false ∧ s.modes.serviceLeaving = false ∧ s.path.inService = false ∧ s.habArmed = false) ∧
    (∃ (acc : Accessor) (d : ObjDef) (s : State), s.portsOpen = true ∧ s.reachWrite acc K.MODE_REQUEST 1 = .ok d ∧ s.idleCond = true ∧
      s.sessionOpen = false ∧ s.anyRunning = false ∧ s.modes.serviceLeaving = false ∧ s.path.inService = true) ∧
    (∃ (acc : Accessor) (d : ObjDef) (s : State) (woken : Nat), s.portsOpen = true ∧ s.reachWrite acc K.MODE_REQUEST 1 = .ok d ∧
      s.idleCond = true ∧ s.sessionOpen = false ∧ s.anyRunning = false ∧ s.modes.serviceLeaving = false ∧ s.wakeHits 3 woken = 0) ∧
    (∃ (acc : Accessor) (d : ObjDef) (s : State) (woken : Nat), s.portsOpen = true ∧ s.reachWrite acc K.MODE_REQUEST 1 = .ok d ∧
      s.idleCond = true ∧ s.sessionOpen = false ∧ s.anyRunning = false ∧ s.modes.serviceLeaving = false ∧ s.wakeHits 3 woken ≠ 0) ∧
    (∃ (acc : Accessor) (d : ObjDef) (s : State), s.portsOpen = true ∧ s.reachWrite acc K.MODE_REQUEST 1 = .ok d ∧ s.idleCond = true ∧
      s.sessionOpen = false ∧ s.anyRunning = false ∧ s.modes.serviceLeaving = false ∧ s.installerUp acc = true ∧ s.serviceAllowed = true
      ∧ s.habArmed = false) ∧
    (∃ (acc : Accessor) (d : ObjDef) (s : State), s.portsOpen = true ∧ s.reachWrite acc K.MODE_REQUEST 1 = .ok d ∧ s.idleCond = true ∧
      s.sessionOpen = false ∧ s.anyRunning = false ∧ s.modes.serviceLeaving = false) ∧
    (∃ (acc : Accessor) (d : ObjDef) (s : State), s.portsOpen = true ∧ s.reachWrite acc K.MODE_REQUEST 1 = .ok d ∧ (s.idleCond = false ∨
      s.sessionOpen = true)) ∧
    (∃ (acc : Accessor) (d : ObjDef) (s : State), s.portsOpen = true ∧ s.reachWrite acc K.MODE_REQUEST 1 = .ok d ∧ (s.idleCond = false ∨
      s.sessionOpen = true) ∧ s.modes.mode ≠ .failsafe) ∧
    (∃ (acc : Accessor) (d : ObjDef) (s : State), s.portsOpen = true ∧ s.reachWrite acc K.MODE_REQUEST 1 = .ok d ∧ s.idleCond = true ∧
      s.sessionOpen = false ∧ (s.anyRunning = true ∨ s.modes.serviceLeaving = true)) :=
  ⟨
    ⟨.spi, row K.MODE_REQUEST, inMode .idle, 0, by decide +kernel⟩,
    ⟨.spi, row K.MODE_REQUEST, inMode .idle, 1, by decide +kernel⟩,
    ⟨.spi, row K.MODE_REQUEST, ({ inMode .idle with path := { st := .battery } } : State), by decide +kernel⟩,
    ⟨.spi, row K.MODE_REQUEST, inMode .idle, by decide +kernel⟩,
    ⟨.spi, row K.MODE_REQUEST, inMode .idle, 0, by decide +kernel⟩,
    ⟨.spi, row K.MODE_REQUEST, inMode .idle, 1, by decide +kernel⟩,
    ⟨.spi, row K.MODE_REQUEST, (inMode .idle).put K.WAKE_ENABLE 1, by decide +kernel⟩,
    ⟨.spi, row K.MODE_REQUEST, inMode .idle, by decide +kernel⟩,
    ⟨.spi, row K.MODE_REQUEST, ((inMode .run).modRail 0 fun x => { x with st := .up } : State), by decide +kernel⟩,
    ⟨.spi, row K.MODE_REQUEST, ((inMode .run).modRail 0 fun x => { x with st := .up } : State), by decide +kernel⟩,
    ⟨.spi, row K.MODE_REQUEST, ({ inMode .idle with modes := { mode := .idle, serviceLeaving := true } } : State), by decide +kernel⟩⟩

theorem test_FailsafeAndService_premises :
    (∃ (acc : Accessor) (d : ObjDef) (s : State), s.portsOpen = true ∧ s.reachWrite acc K.MODE_REQUEST 1 = .ok d ∧ s.anyRunning = false ∧
      s.modes.serviceLeaving = false ∧ s.path.inService = true ∧ s.modes.mode = .failsafe ∧ s.installerUp acc = true ∧ s.get K.FS_CAUSE ≠
      5) ∧
    (∃ (acc : Accessor) (d : ObjDef) (s : State), s.portsOpen = true ∧ s.reachWrite acc K.MODE_REQUEST 1 = .ok d ∧ s.anyRunning = false ∧
      s.modes.serviceLeaving = false ∧ s.path.inService = true ∧ s.modes.mode = .service ∧ s.anyRailLive = false ∧ s.modes.fsLatched =
      false) ∧
    (∃ (acc : Accessor) (d : ObjDef) (s : State), s.portsOpen = true ∧ s.reachWrite acc K.MODE_REQUEST 1 = .ok d ∧ s.anyRunning = false ∧
      s.modes.serviceLeaving = false ∧ s.path.inService = true ∧ s.idleCond = true ∧ s.modes.shipArmed = true) ∧
    (∃ (acc : Accessor) (d : ObjDef) (s : State), s.portsOpen = true ∧ s.reachWrite acc K.MODE_REQUEST 1 = .ok d ∧ s.anyRunning = false ∧
      s.modes.serviceLeaving = false ∧ s.path.inService = true ∧ s.modes.mode = .failsafe ∧ s.sessionOpen = false ∧ s.installerUp acc =
      true ∧ s.serviceAllowed = true ∧ s.get K.FS_CAUSE ≠ 5) ∧
    (∃ (s : State), s.modes.mode = .failsafe ∧ s.modes.heldClear = none ∧ s.get K.FS_RETRY_AT ≠ 0 ∧ s.path.inService = true ∧ s.get
      K.FS_CAUSE ≠ 5) ∧
    (∃ (s : State), s.modes.mode = .failsafe ∧ s.modes.heldClear = none ∧ s.get K.FS_RETRY_AT ≠ 0 ∧ s.path.inService = true ∧ s.get
      K.FS_CAUSE = 5) ∧
    (∃ (s : State), s.get K.FS_CLEAN_TIME ≠ 0 ∧ s.modes.mode = .run ∧ s.modes.riding = false ∧ s.ramping = false ∧ s.anyRailLive = true) :=
  ⟨
    ⟨.spi, row K.MODE_REQUEST, inMode .failsafe, by decide +kernel⟩,
    ⟨.spi, row K.MODE_REQUEST, inMode .service, by decide +kernel⟩,
    ⟨.spi, row K.MODE_REQUEST, ({ inMode .idle with modes := { mode := .idle, shipArmed := true } } : State), by decide +kernel⟩,
    ⟨.spi, row K.MODE_REQUEST, inMode .failsafe, by decide +kernel⟩,
    ⟨(inMode .failsafe).put K.FS_RETRY_AT 5000, by decide +kernel⟩,
    ⟨((inMode .failsafe).put K.FS_RETRY_AT 5000).put K.FS_CAUSE 5, by decide +kernel⟩,
    ⟨(((inMode .run).modRail 0 fun x => { x with st := .up }).put K.FS_CLEAN_TIME 60 : State), by decide +kernel⟩⟩

theorem test_WhatStartsBoot_premises :
    (∃ (s : State), s.modes.mode = .vault ∧ s.modes.vaultLatch = true) ∧
    (∃ (s : State), s.modes.mode = .vault ∧ s.modes.vaultLatch = false ∧ s.modes.hrstLow = false ∧ s.path.pulse = false ∧ s.bootFed =
      true) ∧
    (∃ (s : State), s.modes.mode = .vault ∧ s.modes.vaultLatch = false ∧ s.modes.hrstLow = false ∧ s.path.pulse = false ∧ s.bootFed =
      false) ∧
    (∃ (s : State), s.modes.mode = .ship ∧ s.modes.shipLatch = false ∧ s.modes.hrstLow = false ∧ s.path.pulse = false ∧ s.bootFed = true) ∧
    (∃ (sources : Nat) (s : State), s.modes.mode = .vault ∧ s.modes.vaultLatch = true ∧ s.modes.heldReset = true ∧ s.modes.waking = none
      ∧ s.modes.hrstLow = false ∧ s.path.pulse = false ∧ s.bootFed = true ∧ sources &&& 0x11 ≠ 0) ∧
    (∃ (s : State), s.modes.mode = .seal ∧ s.modes.hrstLow = true ∧ s.modes.sealDone = true ∧ s.modes.heldReset = false ∧ s.bootFed =
      true) ∧
    (∃ (s : State), s.modes.mode = .seal ∧ s.modes.heldReset = true ∧ s.modes.hrstLow = false ∧ s.path.pulse = false ∧ s.bootFed = true) ∧
    (∃ (s : State), s.modes.hrstLow = true ∧ s.modes.mode = .seal) :=
  ⟨
    ⟨({ State.reset with modes := { vaultLatch := true } } : State), by decide +kernel⟩,
    ⟨({ State.reset with path := { inService := true } } : State), by decide +kernel⟩,
    ⟨({ State.reset with modes := { vinAbsent1ms := true }, path := { cutoff := true } } : State), by decide +kernel⟩,
    ⟨({ State.reset with modes := { mode := .ship } } : State), by decide +kernel⟩,
    ⟨1, ({ State.reset with modes := { vaultLatch := true, heldReset := true } } : State), by decide +kernel⟩,
    ⟨({ State.reset with modes := { mode := .seal, hrstLow := true, sealDone := true } } : State), by decide +kernel⟩,
    ⟨({ State.reset with modes := { mode := .seal, heldReset := true } } : State), by decide +kernel⟩,
    ⟨({ State.reset with modes := { mode := .seal, hrstLow := true } } : State), by decide +kernel⟩⟩

theorem test_SupplyAndHrst_premises :
    (∃ (s : State), s.activeNotSeal = true ∧ s.modes.holdup = false) ∧
    (∃ (s : State), s.activeNotSeal = true) ∧
    (∃ (s : State), s.modes.mode = .dormant) ∧
    (∃ (s : State), (s.modes.mode = .dormant ∨ s.modes.mode = .seal)) :=
  ⟨
    ⟨inMode .run, by decide +kernel⟩,
    ⟨inMode .run, by decide +kernel⟩,
    ⟨inMode .dormant, by decide +kernel⟩,
    ⟨inMode .dormant, by decide +kernel⟩⟩

theorem test_DormantExitAndGuard_premises :
    (∃ (sources : Nat) (s : State), s.modes.mode = .dormant ∧ s.modes.heldReset = false ∧ s.modes.waking = none ∧ sources &&& s.wakeMask
      ≠ 0) ∧
    (∃ (h : Nat) (pllFail : Bool) (s : State), s.modes.mode = .dormant ∧ s.modes.waking = some h ∧ s.path.inService = true ∧
      s.modes.heldReset = false ∧ pllFail = true ∧ s.get K.TB_SOURCE = 0) ∧
    (∃ (h : Nat) (pllFail : Bool) (s : State), s.modes.mode = .dormant ∧ s.modes.waking = some h ∧ s.path.inService = true ∧
      s.modes.heldReset = false ∧ pllFail = false) ∧
    (∃ (reading : Int) (s : State), s.modes.mode = .dormant ∧ s.therm.guardOn ≠ none ∧ s.therm.guardTripped = false ∧ s.modes.heldReset =
      false ∧ s.therm.guardLimit < reading ∧ s.therm.guardRun = 0) ∧
    (∃ (reading : Int) (s : State), s.modes.mode = .dormant ∧ s.therm.guardOn ≠ none ∧ s.therm.guardTripped = false ∧ s.modes.heldReset =
      false ∧ s.therm.guardLimit < reading ∧ 1 ≤ s.therm.guardRun ∧ s.modes.waking = none) :=
  ⟨
    ⟨1, (inMode .dormant).put K.WAKE_ENABLE 3, by decide +kernel⟩,
    ⟨1, true, ({ inMode .dormant with modes := { mode := .dormant, waking := some 1 } } : State), by decide +kernel⟩,
    ⟨1, false, ({ inMode .dormant with modes := { mode := .dormant, waking := some 1 } } : State), by decide +kernel⟩,
    ⟨9500, ({ inMode .dormant with therm := { guardOn := some 1, guardLimit := 9000 } } : State), by decide +kernel⟩,
    ⟨9500, ({ inMode .dormant with therm := { guardOn := some 1, guardLimit := 9000, guardRun := 1 } } : State), by decide +kernel⟩⟩

theorem test_BootEnds_premises :
    (∃ (rep : BootReport) (s : State), s.modes.mode = .boot ∧ s.path.inService = true ∧ rep.firmwareBad = true ∧ s.modes.fsLatched =
      false) ∧
    (∃ (s : State), s.modes.mode = .boot ∧ s.path.inService = true ∧ s.modes.fsLatched = true) :=
  ⟨
    ⟨{ firmwareBad := true }, inMode .boot, by decide +kernel⟩,
    ⟨({ inMode .boot with modes := { mode := .boot, fsLatched := true } } : State), by decide +kernel⟩⟩

theorem test_SealEnds_premises :
    (∃ (s : State), s.modes.mode = .seal ∧ s.modes.heldReset = false ∧ s.modes.sealDone = false ∧ (∀ m, (s.point m).sess = .none) ∧
      s.met.jnl.signing = none ∧ s.modes.sealCauses.supplyLoss = true) ∧
    (∃ (s : State), s.modes.mode = .seal ∧ s.modes.heldReset = false ∧ s.modes.sealDone = false ∧ (∀ m, (s.point m).sess = .none) ∧
      s.met.jnl.signing = none ∧ s.modes.sealCauses.supplyLoss = false ∧ s.modes.sealCauses.hrst = true ∧ s.modes.hrstLow = false ∧
      s.bootFed = true) ∧
    (∃ (s : State), s.modes.mode = .seal ∧ s.modes.heldReset = false ∧ s.modes.sealDone = false ∧ (∀ m, (s.point m).sess = .none) ∧
      s.met.jnl.signing = none ∧ s.modes.sealCauses.supplyLoss = false ∧ s.modes.sealCauses.hrst = true ∧ s.modes.hrstLow = true) ∧
    (∃ (s : State), s.modes.mode = .seal ∧ s.modes.heldReset = false ∧ s.modes.sealDone = false ∧ (∀ m, (s.point m).sess = .none) ∧
      s.met.jnl.signing = none ∧ s.modes.sealCauses.supplyLoss = false ∧ s.modes.sealCauses.hrst = false ∧ s.path.inService = true) ∧
    (∃ (s : State), s.modes.mode = .seal ∧ s.modes.heldReset = false ∧ s.modes.sealDone = false) :=
  ⟨
    ⟨({ inMode .seal with modes := { mode := .seal, sealCauses := { supplyLoss := true } } } : State), by decide +kernel⟩,
    ⟨({ inMode .seal with modes := { mode := .seal, sealCauses := { hrst := true } } } : State), by decide +kernel⟩,
    ⟨({ inMode .seal with modes := { mode := .seal, sealCauses := { hrst := true }, hrstLow := true } } : State), by decide +kernel⟩,
    ⟨({ inMode .seal with modes := { mode := .seal, sealCauses := { railFault := true } } } : State), by decide +kernel⟩,
    ⟨inMode .seal, by decide +kernel⟩⟩

theorem test_AbortsAndTags_premises :
    (∃ (acc : Accessor) (v : Nat) (d : ObjDef) (s : State), s.portsOpen = true ∧ s.reachWrite acc K.OP_ABORT 1 = .ok d ∧ v < 128 ∧ (s.op
      v).issuer ≠ s.issuerOf acc ∧ s.installerUp acc = false) ∧
    (∃ (acc : Accessor) (v : Nat) (d : ObjDef) (s : State), s.portsOpen = true ∧ s.reachWrite acc K.OP_ABORT 1 = .ok d ∧ v < 128 ∧ ((s.op
      v).issuer = s.issuerOf acc ∨ s.installerUp acc = true) ∧ (s.op v).kind = .railVoltage ∧ (s.op v).status.isOpen = false) ∧
    (∃ (acc : Accessor) (v : Nat) (d : ObjDef) (s : State) (r : Fin 32), s.portsOpen = true ∧ s.reachWrite acc K.OP_ABORT 1 = .ok d ∧ v <
      128 ∧ ((s.op v).issuer = s.issuerOf acc ∨ s.installerUp acc = true) ∧ (s.op v).kind = .railVoltage ∧ (s.op v).key = K.RAIL_VSET r ∧
      (s.op v).status.isOpen = true ∧ (s.op v).abort ≠ .requested) ∧
    (∃ (g : Fin 128) (s : State), (s.op g).reserved = true ∧ (s.op g).status.isOpen = false ∧ s.get (K.SUP_LEASE_REVOKES 4) < 0xFFFFFFFF
      ∧ s.portsOpen = true) :=
  ⟨
    ⟨.partner 0, 3, row K.OP_ABORT,
      ({ inMode .idle with net := { State.reset.net with partners := State.reset.net.partners.set 0 (some { node := 9, port := 0, role := .peer, version := 1 }) } }
      : State), by decide +kernel⟩,
    ⟨.spi, 3, row K.OP_ABORT,
      ({ inMode .idle with ops := { entries := State.reset.ops.entries.set 3 { status := .completed, kind := .railVoltage } } } : State),
      by decide +kernel⟩,
    ⟨.spi, 3, row K.OP_ABORT,
      ({ inMode .run with ops := { entries := State.reset.ops.entries.set 3 { status := .running, kind := .railVoltage, key := K.RAIL_VSET 2 } } }
      : State), 2, by decide +kernel⟩,
    ⟨3, ({ inMode .idle with ops := { entries := State.reset.ops.entries.set 3 { status := .completed, reserved := true } } } : State),
      by decide +kernel⟩⟩

theorem test_RailCtrlSendsCommand_premises :
    (∃ (acc : Accessor) (r : Fin 32) (s : State), s.Admits acc (K.RAIL_CTRL r) 1 ∧ s.installerUp acc = true ∧ s.modes.mode = .service ∧
      s.modes.serviceLeaving = false ∧ (s.rail r).st = .off ∧ s.sup.quenchLatch = false) ∧
    (∃ (acc : Accessor) (r : Fin 32) (s : State), s.Admits acc (K.RAIL_CTRL r) 1 ∧ s.installerUp acc = true ∧ s.modes.mode = .service ∧
      s.modes.serviceLeaving = false ∧ (s.rail r).st ≠ .unbuilt ∧ (s.rail r).st ≠ .off) :=
  ⟨
    ⟨.spi, 3, ((inMode .service).modRail 3 fun x => { x with st := .off } : State), ⟨by decide +kernel, row (K.RAIL_CTRL 3),
      by decide +kernel, by decide +kernel⟩, by decide +kernel⟩,
    ⟨.spi, 3, ((inMode .service).modRail 3 fun x => { x with st := .up } : State), ⟨by decide +kernel, row (K.RAIL_CTRL 3),
      by decide +kernel, by decide +kernel⟩, by decide +kernel⟩⟩

theorem test_RailCtrlRefusals_premises :
    (∃ (acc : Accessor) (r : Fin 32) (s : State), s.Admits acc (K.RAIL_CTRL r) 1 ∧ s.installerUp acc = true ∧ s.modes.mode ≠ .service) ∧
    (∃ (acc : Accessor) (r : Fin 32) (s : State), s.Admits acc (K.RAIL_CTRL r) 1 ∧ s.installerUp acc = true ∧ ((s.rail r).st ≠ .off ∨
      s.sup.quenchLatch = true)) :=
  ⟨
    ⟨.spi, 3, ((inMode .run).modRail 3 fun x => { x with st := .up } : State), ⟨by decide +kernel, row (K.RAIL_CTRL 3),
      by decide +kernel, by decide +kernel⟩, by decide +kernel⟩,
    ⟨.spi, 3, ((inMode .service).modRail 3 fun x => { x with st := .up } : State), ⟨by decide +kernel, row (K.RAIL_CTRL 3),
      by decide +kernel, by decide +kernel⟩, by decide +kernel⟩⟩

theorem test_RailVsetWriteStores_premises :
    (∃ (acc : Accessor) (r : Fin 32) (mv : Nat) (s : State), s.Admits acc (K.RAIL_VSET r) 2 ∧ (s.rail r).st ≠ .unbuilt ∧ s.get
      (K.RAIL_VMIN r) ≤ mv ∧ (mv : Int) ≤ s.get (K.RAIL_VMAX r) ∧ s.commitStages [K.RAIL_VMIN r, K.RAIL_VMAX r] = false ∧ s.nextTag ≠
      none ∧ (s.rail r).st = .up) ∧
    (∃ (acc : Accessor) (r : Fin 32) (mv : Nat) (s : State), s.Admits acc (K.RAIL_VSET r) 2 ∧ (s.rail r).st ≠ .unbuilt ∧ s.get
      (K.RAIL_VMIN r) ≤ mv ∧ (mv : Int) ≤ s.get (K.RAIL_VMAX r) ∧ s.commitStages [K.RAIL_VMIN r, K.RAIL_VMAX r] = false ∧ s.nextTag ≠
      none ∧ (s.rail r).st = .off) :=
  ⟨
    ⟨.spi, 3, 900, ((((inMode .run).modRail 3 fun x => { x with st := .up }).put (K.RAIL_VMIN 3) 800).put (K.RAIL_VMAX 3) 1000 : State),
      ⟨by decide +kernel, row (K.RAIL_VSET 3), by decide +kernel, by decide +kernel⟩, by decide +kernel⟩,
    ⟨.spi, 3, 900, ((((inMode .idle).modRail 3 fun x => { x with st := .off }).put (K.RAIL_VMIN 3) 800).put (K.RAIL_VMAX 3) 1000 :
      State), ⟨by decide +kernel, row (K.RAIL_VSET 3), by decide +kernel, by decide +kernel⟩, by decide +kernel⟩⟩

theorem test_RailPowerUpChain_premises :
    (∃ (r : Fin 32) (s : State), RailCmd.up ∈ (s.rail r).cmds ∧ (s.rail r).st = .off) ∧
    (∃ (r : Fin 32) (s : State), (s.rail r).st = .onDelay) ∧
    (∃ (r : Fin 32) (v0 : Int) (s : State), (s.rail r).st = .prebias ∧ (∀ p ∈ (s.rail r).members, (s.phase p).st ≠ .prebias) ∧
      s.activeMembers r ≠ [] ∧ 0 ≤ v0 ∧ v0 * 1000 < (s.rail r).ref.target ∧ s.coilMode r = false) ∧
    (∃ (r : Fin 32) (v0 : Int) (s : State), (s.rail r).st = .prebias ∧ (∀ p ∈ (s.rail r).members, (s.phase p).st ≠ .prebias) ∧
      s.activeMembers r ≠ [] ∧ 0 ≤ v0 ∧ v0 * 1000 < (s.rail r).ref.target ∧ s.coilMode r = true) ∧
    (∃ (r : Fin 32) (s : State), (s.rail r).moving = true ∧ (s.rail r).st = .rampUp) :=
  ⟨
    ⟨3, ((inMode .run).modRail 3 fun x => { x with st := .off, cmds := [.up] } : State), by decide +kernel⟩,
    ⟨3, ((inMode .run).modRail 3 fun x => { x with st := .onDelay, members := [0, 1] } : State), by decide +kernel⟩,
    ⟨3, 10, ((((inMode .run).modRail 3 fun x => { x with st := .prebias, members := [0], ref := { target := 900000 } }).modPhase 0 fun x
      => { x with st := .active, rail := some 3, role := .member }) : State), by decide +kernel⟩,
    ⟨3, 10, (((((inMode .run).modRail 3 fun x => { x with st := .prebias, members := [0], ref := { target := 900000 } }).modPhase 0 fun x
      => { x with st := .active, rail := some 3, role := .member })).put (K.RAIL_MODE 3) 1 : State), by decide +kernel⟩,
    ⟨3, ((inMode .run).modRail 3 fun x => { x with st := .rampUp, moving := true, ref := { target := 900000 } } : State),
      by decide +kernel⟩⟩

theorem test_RailPowerDownChain_premises :
    (∃ (r : Fin 32) (s : State), RailCmd.down ∈ (s.rail r).cmds ∧ ((s.rail r).st = .up ∨ (s.rail r).st = .hold)) ∧
    (∃ (r : Fin 32) (s : State), RailCmd.down ∈ (s.rail r).cmds ∧ (s.rail r).st = .pullIn) ∧
    (∃ (r : Fin 32) (s : State), RailCmd.down ∈ (s.rail r).cmds ∧ (s.rail r).st = .rampUp ∧ s.get (K.RAIL_DOWN_MODE r) ≠ 1) ∧
    (∃ (r : Fin 32) (s : State), RailCmd.down ∈ (s.rail r).cmds ∧ (s.rail r).st = .onDelay) ∧
    (∃ (r : Fin 32) (s : State), RailCmd.down ∈ (s.rail r).cmds ∧ ((s.rail r).st = .prebias ∨ ((s.rail r).st = .rampUp ∧ s.get
      (K.RAIL_DOWN_MODE r) = 1))) ∧
    (∃ (r : Fin 32) (s : State), (s.rail r).st = .offDelay) ∧
    (∃ (r : Fin 32) (s : State), (s.rail r).st = .rampDown ∧ (s.rail r).refAt s.now < (if (s.rail r).bus = true then 3300000 else
      450000)) ∧
    (∃ (r : Fin 32) (v : Int) (s : State), (s.rail r).st = .discharge ∧ s.coilMode r = false ∧ v < s.get (K.RAIL_VOFF_DONE r)) ∧
    (∃ (r : Fin 32) (s : State), (s.rail r).st = .discharge ∧ s.coilMode r = false) :=
  ⟨
    ⟨3, ((inMode .run).modRail 3 fun x => { x with st := .up, cmds := [.down] } : State), by decide +kernel⟩,
    ⟨3, ((inMode .run).modRail 3 fun x => { x with st := .pullIn, cmds := [.down] } : State), by decide +kernel⟩,
    ⟨3, ((inMode .run).modRail 3 fun x => { x with st := .rampUp, cmds := [.down] } : State), by decide +kernel⟩,
    ⟨3, ((inMode .run).modRail 3 fun x => { x with st := .onDelay, cmds := [.down] } : State), by decide +kernel⟩,
    ⟨3, ((inMode .run).modRail 3 fun x => { x with st := .prebias, cmds := [.down], members := [0] } : State), by decide +kernel⟩,
    ⟨3, ((inMode .run).modRail 3 fun x => { x with st := .offDelay } : State), by decide +kernel⟩,
    ⟨3, ((inMode .run).modRail 3 fun x => { x with st := .rampDown, members := [0] } : State), by decide +kernel⟩,
    ⟨3, 10, (((inMode .run).modRail 3 fun x => { x with st := .discharge }).put (K.RAIL_VOFF_DONE 3) 100 : State), by decide +kernel⟩,
    ⟨3, ((inMode .run).modRail 3 fun x => { x with st := .discharge } : State), by decide +kernel⟩⟩

theorem test_RailVoltageApplyAndAbort_premises :
    (∃ (r : Fin 32) (mv : Int) (s : State), (s.rail r).cmds = [.volt mv none] ∧ (s.rail r).st = .rampUp ∧ (s.rail r).refAt s.now ≠ mv *
      1000) ∧
    (∃ (r : Fin 32) (mv : Int) (s : State), (s.rail r).cmds = [.volt mv none] ∧ (s.rail r).st = .rampUp ∧ (s.rail r).refAt s.now = mv *
      1000) ∧
    (∃ (r : Fin 32) (g : Nat) (s : State), (s.rail r).cmds = [.abort g] ∧ (s.rail r).tag = some g ∧ g < 128 ∧ (s.op g).status = .running
      ∧ (s.op g).abort = .requested ∧ (s.rail r).st = .up ∧ (s.rail r).moving = true ∧ (s.rail r).refAt s.now = (s.rail r).ref.target) ∧
    (∃ (r : Fin 32) (g : Nat) (s : State), (s.rail r).cmds = [.abort g] ∧ (s.rail r).tag = some g ∧ g < 128 ∧ (s.op g).status = .running
      ∧ (s.op g).abort = .requested ∧ ((s.rail r).moving = false ∨ (s.rail r).refAt s.now ≠ (s.rail r).ref.target)) :=
  ⟨
    ⟨3, 900, ((inMode .run).modRail 3 fun x => { x with st := .rampUp, cmds := [.volt 900 none] } : State), by decide +kernel⟩,
    ⟨3, 900, ((inMode .run).modRail 3 fun x => { x with st := .rampUp, cmds := [.volt 900 none], ref := { v0 := 900000 } } : State),
      by decide +kernel⟩,
    ⟨3, 5,
      ({ (inMode .run).modRail 3 fun x => { x with st := .up, cmds := [.abort 5], tag := some 5, moving := true, ref := { v0 := 900000, target := 900000 } } with ops := { entries := State.reset.ops.entries.set 5 { status := .running, kind := .railVoltage, key := K.RAIL_VSET 3, abort := .requested } } }
      : State), by decide +kernel⟩,
    ⟨3, 5,
      ({ (inMode .run).modRail 3 fun x => { x with st := .up, cmds := [.abort 5], tag := some 5 } with ops := { entries := State.reset.ops.entries.set 5 { status := .running, kind := .railVoltage, key := K.RAIL_VSET 3, abort := .requested } } }
      : State), by decide +kernel⟩⟩

theorem test_CoilRail_premises :
    (∃ (r : Fin 32) (s : State), (s.rail r).st = .pullIn) ∧
    (∃ (r : Fin 32) (s : State), (s.rail r).st = .discharge ∧ s.coilMode r = true) ∧
    (∃ (r : Fin 32) (s : State), (s.rail r).st = .hold ∧ s.coilMode r = true ∧ (s.rail r).compliance = true ∧ 10 * s.railPoolI r <
      s.coilTarget r) :=
  ⟨
    ⟨3, ((inMode .run).modRail 3 fun x => { x with st := .pullIn } : State), by decide +kernel⟩,
    ⟨3, (((inMode .run).modRail 3 fun x => { x with st := .discharge, bus := true }).put (K.RAIL_MODE 3) 1 : State), by decide +kernel⟩,
    ⟨3, ((((inMode .run).modRail 3 fun x => { x with st := .hold, bus := true, compliance := true, armed := false }).put (K.RAIL_MODE 3)
      1).put (K.RAIL_COIL_IHOLD 3) 5000 : State), by decide +kernel⟩⟩

theorem test_AuxOutputs_premises :
    (∃ (acc : Accessor) (k : Fin 4) (on : Bool) (s : State), s.Admits acc (K.AUX_EN k) 1 ∧ s.modes.mode ≠ .failsafe ∧ on = true) ∧
    (∃ (acc : Accessor) (k : Fin 4) (mv : Nat) (s : State), s.Admits acc (K.AUX_VSET k) 2 ∧ 800 ≤ mv ∧ mv ≤ 3300 ∧ mv % 50 = 0 ∧ (s.aux
      k).st ≠ .off) ∧
    (∃ (k : Fin 4) (v : Int) (s : State), (s.aux k).st = .ramping ∧ (s.aux k).pg = false ∧ 95 * s.get (K.AUX_VSET k) ≤ 100 * v) ∧
    (∃ (k : Fin 4) (v : Int) (s : State), (s.aux k).st = .limit ∧ (s.aux k).ramp = true ∧ (s.aux k).pg = false ∧ 95 * s.get (K.AUX_VSET
      k) ≤ 100 * v) ∧
    (∃ (k : Fin 4) (v : Int) (s : State), (s.aux k).st = .on ∧ 100 * v < 90 * s.get (K.AUX_VSET k)) ∧
    (∃ (s : State), 600 < s.get (K.AUX_LOSS 0) + s.get (K.AUX_LOSS 1) + s.get (K.AUX_LOSS 2) + s.get (K.AUX_LOSS 3)) :=
  ⟨
    ⟨.spi, 2, true, inMode .run, ⟨by decide +kernel, row (K.AUX_EN 2), by decide +kernel, by decide +kernel⟩, by decide +kernel⟩,
    ⟨.spi, 2, 1800, ((inMode .run).modAux 2 fun x => { x with st := .on } : State), ⟨by decide +kernel, row (K.AUX_VSET 2),
      by decide +kernel, by decide +kernel⟩, by decide +kernel⟩,
    ⟨2, 1800, (((inMode .run).put (K.AUX_VSET 2) 1800).modAux 2 fun x => { x with st := .ramping } : State), by decide +kernel⟩,
    ⟨2, 1800, (((inMode .run).put (K.AUX_VSET 2) 1800).modAux 2 fun x => { x with st := .limit, ramp := true } : State),
      by decide +kernel⟩,
    ⟨2, 1000, (((inMode .run).put (K.AUX_VSET 2) 1800).modAux 2 fun x => { x with st := .on } : State), by decide +kernel⟩,
    ⟨(((inMode .run).modAux 2 fun x => { x with st := .on }).put (K.AUX_LOSS 2) 700 : State), by decide +kernel⟩⟩

theorem test_LedgerFastLimitAndAccounts_premises :
    (∃ (s : State), s.activeNotSeal = true ∧ s.modes.mode ≠ .boot ∧ s.modes.mode ≠ .failsafe ∧ s.fastEstimate ≤ s.fastThreshold) ∧
    (∃ (s : State), s.activeNotSeal = true ∧ s.modes.mode ≠ .boot ∧ s.modes.mode ≠ .failsafe ∧ s.fastThreshold < s.fastEstimate ∧
      s.ledger.suspended = false ∧ s.ledger.highRun = 0) ∧
    (∃ (s : State), s.activeNotSeal = true ∧ s.modes.mode ≠ .boot ∧ s.modes.mode ≠ .failsafe ∧ s.fastThreshold < s.fastEstimate ∧
      s.ledger.suspended = false ∧ 1 ≤ s.ledger.highRun) ∧
    (∃ (acc : Accessor) (s : State), s.Admits acc K.LEDGER_E_CLEAR 1 ∧ s.installerUp acc = true) ∧
    (∃ (s : State), s.keeperRuns = true ∧ s.modes.holdup = false) ∧
    (∃ (r : Fin 32) (c : Option Int) (s : State), (s.rail r).cmds = [.cap c]) :=
  ⟨
    ⟨(inMode .run).put K.PP_VBUS 10000, by decide +kernel⟩,
    ⟨({ (inMode .run).puts [(K.PP_VBUS, 10000), (K.LEDGER_VIN_ILIM, 100)] with ledger := { preIn := 5000, highRun := 0 } } : State),
      by decide +kernel⟩,
    ⟨({ (inMode .run).puts [(K.PP_VBUS, 10000), (K.LEDGER_VIN_ILIM, 100)] with ledger := { preIn := 5000, highRun := 1 } } : State),
      by decide +kernel⟩,
    ⟨.spi, inMode .run, ⟨by decide +kernel, row K.LEDGER_E_CLEAR, by decide +kernel, by decide +kernel⟩, by decide +kernel⟩,
    ⟨inMode .run, by decide +kernel⟩,
    ⟨3, some 500, ((inMode .run).modRail 3 fun x => { x with st := .up, cmds := [.cap (some 500)] } : State), by decide +kernel⟩⟩

theorem test_FrameReference_premises :
    (∃ (ns : Nat) (s : State), s.keeperRuns = true ∧ 16700 ≤ ns ∧ ns ≤ 25000 ∧ 7 ≤ s.frame.inRange ∧ s.frame.external = false ∧
      s.frame.base ≤ s.now ∧ s.cfg.fswDue = []) ∧
    (∃ (ns : Nat) (s : State), s.keeperRuns = true ∧ 16700 ≤ ns ∧ ns ≤ 25000 ∧ s.frame.external = true ∧ s.frame.offset = 0 ∧
      s.frame.start < s.cfg.fswFrom ∧ s.cfg.fswFrom ≤ s.now ∧ (∀ p ∈ s.frame.pulses, p ≤ s.now)) ∧
    (∃ (ns : Nat) (s : State), s.keeperRuns = true ∧ (ns < 16700 ∨ 25000 < ns) ∧ s.cfg.fswDue = []) ∧
    (∃ (s : State), s.keeperRuns = true ∧ s.cfg.fswDue = []) :=
  ⟨
    ⟨16700, ({ inMode .run with now := 7100, frame := { inRange := 7, base := 1000 } } : State), by decide +kernel⟩,
    ⟨16700,
      ({ inMode .run with now := 9000, frame := { external := true, inRange := 8, edge := 7000, start := 4000, pulses := [7000] }, cfg := { fswDue := [(K.PH_FSW 3, 9)], fswFrom := 8000 } }
      : State), by decide +kernel⟩,
    ⟨16699, inMode .run, by decide +kernel⟩,
    ⟨({ inMode .run with frame := { external := true, edge := 7000 } } : State), by decide +kernel⟩⟩

theorem test_CycleEdgeOfActiveMember_premises :
    (∃ (p : Fin 56) (r : Fin 32) (s : State), (s.phase p).st = .active ∧ (s.phase p).rail = some r ∧ (s.phase p).declared = .none ∧
      (s.phase p).next = none ∧ (s.tile (tileOf p)).uvlo = false) ∧
    (∃ (p : Fin 56) (r : Fin 32) (s : State), (s.phase p).st = .active ∧ (s.phase p).rail = some r ∧ (s.phase p).declared = .none ∧
      (s.phase p).next = none ∧ (s.tile (tileOf p)).uvlo = true) :=
  ⟨
    ⟨5, 3, (((inMode .run).modPhase 5 fun x => { x with st := .active, rail := some 3, role := .member  }).modRail 3 fun x =>
      { x with st := .up, members := [5]  } : State), by decide +kernel⟩,
    ⟨5, 3, ((((inMode .run).modPhase 5 fun x => { x with st := .active, rail := some 3, role := .member  }).modRail 3 fun x =>
      { x with st := .up, members := [5]  }).modTile 1 fun x => { x with uvlo := true } : State), by decide +kernel⟩⟩

theorem test_CycleEdgeIsolatesDeclared_premises :
    (∃ (p : Fin 56) (s : State), (s.phase p).st ≠ .isolated ∧ (s.phase p).declared ≠ .none) :=
  
    ⟨5, ((inMode .run).modPhase 5 fun x => { x with st := .active, declared := .openPhase } : State), by decide +kernel⟩

theorem test_PoolAverageReachesMembers_premises :
    (∃ (r : Fin 32) (s : State), (s.activeMembers r).filter (fun p => !(s.phase p).excluded) ≠ []) :=
  
    ⟨3, (((inMode .run).modPhase 5 fun x => { x with st := .active, rail := some 3, role := .member  }).modRail 3 fun x =>
      { x with st := .up, members := [5]  } : State), by decide +kernel⟩

theorem test_PolarityTest_premises :
    (∃ (p : Fin 56) (left : Bool) (s : State), (s.phase p).st.inUse = true ∧ (s.phase p).testing = false ∧ ((s.phase p).testDone = false
      ∨ left = true) ∧ (s.phase p).declared = .none) ∧
    (∃ (p : Fin 56) (reading : Int) (s : State), (s.phase p).testing = true ∧ -8192 < reading ∧ reading < 8191) ∧
    (∃ (p : Fin 56) (reading : Int) (s : State), (s.phase p).testing = true ∧ reading ≤ -8192 ∧ (s.phase p).st.inUse = true ∧ (s.phase
      p).declared = .none ∧ s.phasePresent p = true ∧ ((∀ r, (s.phase p).rail = some r → s.usableMembers r ≠ [p]))) :=
  ⟨
    ⟨5, false, ((inMode .run).modPhase 5 fun x => { x with st := .active } : State), by decide +kernel⟩,
    ⟨5, 8190, ((inMode .run).modPhase 5 fun x => { x with st := .active, testing := true } : State), by decide +kernel⟩,
    ⟨5, -8192, ((inMode .run).modPhase 5 fun x => { x with st := .active, testing := true } : State), by decide +kernel⟩⟩

theorem test_FindingsAreDeclared_premises :
    (∃ (p : Fin 56) (s : State), (s.phase p).st = .active ∧ (s.phase p).declared = .none ∧ s.phasePresent p = true) ∧
    (∃ (p : Fin 56) (atEnd : Bool) (s : State), isBus p = false ∧ (s.phase p).st.inUse = true ∧ decide ((s.phase p).st = .prebias) =
      atEnd ∧ (s.phase p).declared = .none ∧ s.phasePresent p = true) ∧
    (∃ (acc : Accessor) (p : Fin 56) (s : State), s.Admits acc (K.PH_ISOLATE p) 1 ∧ s.installerUp acc = true ∧ s.modes.mode = .service ∧
      (s.phase p).declared = .none ∧ (s.phase p).st.inUse = true) ∧
    (∃ (acc : Accessor) (p : Fin 56) (s : State), s.Admits acc (K.PH_ISOLATE p) 1 ∧ s.installerUp acc = true ∧ s.modes.mode = .service ∧
      (s.phase p).declared = .none ∧ (s.phase p).st = .off) :=
  ⟨
    ⟨5, ((inMode .run).modPhase 5 fun x => { x with st := .active } : State), by decide +kernel⟩,
    ⟨5, false, ((inMode .run).modPhase 5 fun x => { x with st := .active } : State), by decide +kernel⟩,
    ⟨.spi, 5, ((inMode .service).modPhase 5 fun x => { x with st := .active } : State), ⟨by decide +kernel, row (K.PH_ISOLATE 5),
      by decide +kernel, by decide +kernel⟩, by decide +kernel⟩,
    ⟨.spi, 5, inMode .service, ⟨by decide +kernel, row (K.PH_ISOLATE 5), by decide +kernel, by decide +kernel⟩, by decide +kernel⟩⟩

theorem test_IsolationIsRecorded_premises :
    (∃ (p : Fin 56) (s : State), (s.phase p).st = .prebias ∧ (s.phase p).declared = .none ∧ s.modes.holdup = false) ∧
    (∃ (p : Fin 56) (s : State), (s.phase p).st = .prebias ∧ (s.phase p).declared ≠ .none) ∧
    (∃ (p : Fin 56) (s : State), (s.phase p).st ≠ .isolated ∧ (s.phase p).declared ≠ .none ∧ s.modes.holdup = false ∧ (s.phase
      p).declared ≠ .fenced) ∧
    (∃ (p : Fin 56) (s : State), (s.phase p).st ≠ .isolated ∧ (s.phase p).declared ≠ .none ∧ s.modes.holdup = true) ∧
    (∃ (p : Fin 56) (r : Fin 32) (why : IsoReason) (s : State), (s.phase p).rail = some r ∧ (s.phase p).st = .spare ∧ (s.phase p).joining
      = true ∧ why ≠ .none) :=
  ⟨
    ⟨5, ((inMode .run).modPhase 5 fun x => { x with st := .prebias } : State), by decide +kernel⟩,
    ⟨5, ((inMode .run).modPhase 5 fun x => { x with st := .prebias, declared := .cfFault } : State), by decide +kernel⟩,
    ⟨5, ((inMode .run).modPhase 5 fun x => { x with st := .active, declared := .cfFault } : State), by decide +kernel⟩,
    ⟨5,
      ({ (inMode .run).modPhase 5 fun x => { x with st := .active, declared := .cfFault } with modes := { mode := .run, holdup := true } }
      : State), by decide +kernel⟩,
    ⟨5, 3, .cfFault, ((inMode .run).modPhase 5 fun x => { x with st := .spare, rail := some 3, joining := true } : State),
      by decide +kernel⟩⟩

theorem test_PhasesJoin_premises :
    (∃ (p : Fin 56) (r : Fin 32) (s : State), (s.phase p).st = .prebias ∧ (s.phase p).declared = .none ∧ (s.phase p).rail = some r ∧
      (s.phase p).role ≠ .spare ∧ (s.tile (tileOf p)).uvlo = false) ∧
    (∃ (p : Fin 56) (r : Fin 32) (s : State), (s.phase p).st = .prebias ∧ (s.phase p).declared = .none ∧ (s.phase p).rail = some r ∧
      (s.phase p).role = .spare) ∧
    (∃ (p : Fin 56) (r : Fin 32) (s : State), (s.phase p).st = .prebias ∧ (s.phase p).declared = .none ∧ (s.phase p).rail = some r ∧
      (s.phase p).role ≠ .spare ∧ (s.tile (tileOf p)).uvlo = true) ∧
    (∃ (p : Fin 56) (r : Fin 32) (s : State), (s.phase p).rail = some r ∧ (s.phase p).st = .spare ∧ (s.phase p).joining = true) :=
  ⟨
    ⟨5, 3, ((inMode .run).modPhase 5 fun x => { x with st := .prebias, rail := some 3, role := .member } : State), by decide +kernel⟩,
    ⟨5, 3, ((inMode .run).modPhase 5 fun x => { x with st := .prebias, rail := some 3, role := .spare } : State), by decide +kernel⟩,
    ⟨5, 3,
      ({ (inMode .run).modPhase 5 fun x => { x with st := .prebias, rail := some 3, role := .member } with tiles := State.reset.tiles.set (tileOf 5) { uvlo := true } }
      : State), by decide +kernel⟩,
    ⟨5, 3, (((inMode .run).modPhase 5 fun x => { x with st := .spare, rail := some 3, role := .spare, joining := true }).modRail 3 fun x
      => { x with st := .up, spares := [5] } : State), by decide +kernel⟩⟩

theorem test_PhaseWritesAndShedding_premises :
    (∃ (acc : Accessor) (p : Fin 56) (s : State), s.Admits acc (K.PH_CLEAR_ISO p) 1 ∧ s.installerUp acc = true ∧ (s.modes.mode =
      .failsafe ∨ s.modes.mode = .service) ∧ ((∀ r, (s.phase p).rail = some r → (s.rail r).st.live = false)) ∧ (s.phase p).st = .isolated
      ∧ (s.phase p).isoReason ≠ .fenced) ∧
    (∃ (r : Fin 32) (p : Fin 56) (s : State), s.mayShed r = true ∧ 2 ≤ (s.stayingMembers r).length ∧ ((s.railCycleI r).natAbs : Int) <
      s.shedThreshold r K.PH_SHED_LO * (((s.stayingMembers r).length : Int) - 1) ∧ ((sortPhases (s.stayingMembers r)).filter fun q : Fin
      56 => s.flag (K.PH_SHED_EN q)).getLast? = some p) ∧
    (∃ (p : Fin 56) (r : Fin 32) (s : State), (s.phase p).st = .active ∧ (s.phase p).rail = some r ∧ (s.phase p).declared = .none ∧
      (s.phase p).next = some .shed ∧ s.phasePresent p = true) ∧
    (∃ (acc : Accessor) (p : Fin 56) (d : ObjDef) (s : State), s.portsOpen = true ∧ s.reach acc (K.PH_I_PEAK p) = .ok d ∧ s.debugAllows
      acc false (K.PH_I_PEAK p) = true) :=
  ⟨
    ⟨.spi, 5, ((inMode .service).modPhase 5 fun x => { x with st := .isolated, isoReason := .cfFault, stored := some (.cfFault, 5) } :
      State), ⟨by decide +kernel, row (K.PH_CLEAR_ISO 5), by decide +kernel, by decide +kernel⟩, by decide +kernel⟩,
    ⟨3, 6, (((((inMode .run).modPhase 5 fun x => { x with st := .active, rail := some 3, role := .member }).modPhase 6 fun x =>
      { x with st := .active, rail := some 3, role := .member }).modRail 3 fun x => { x with st := .up, members := [5, 6] }).puts
      [(K.PH_SHED_EN 6, 1), (K.PH_SHED_LO 5, 1000), (K.PH_SHED_LO 6, 1000)] : State), by decide +kernel⟩,
    ⟨5, 3, (((inMode .run).modPhase 5 fun x => { x with st := .active, rail := some 3, role := .member , next := some .shed }).modRail 3
      fun x => { x with st := .up, members := [5]  } : State), by decide +kernel⟩,
    ⟨.spi, 5, row (K.PH_I_PEAK 5), ({ (inMode .run).put (K.PH_I_PEAK 5) 77 with published := [(K.PH_I_PEAK 5, 66)] } : State),
      by decide +kernel⟩⟩

theorem test_LanternLockout_premises :
    (∃ (n : Fin 8) (s : State), n ≠ 0 ∧ s.tileFitted n = true) ∧
    (∃ (n : Fin 8) (s : State), (s.tile n).uvlo = true) :=
  ⟨
    ⟨2, inMode .run, by decide +kernel⟩,
    ⟨2, ((inMode .run).modTile 2 fun x => { x with uvlo := true } : State), by decide +kernel⟩⟩

theorem test_RailFaultStartsSeal_premises :
    (∃ (r : Fin 32) (n : Fin 8) (v : Int) (s : State), s.faultMode = true ∧ s.holdsMember r n = true ∧ (s.rail r).st ≠ .unbuilt ∧ s.get
      (K.RAIL_VMAX r) + s.get (K.SUP_OV_MARGIN r) < v) ∧
    (∃ (r : Fin 32) (v : Int) (s : State), s.faultMode = true ∧ s.uvArmed r = true ∧ v * 1000 < s.windowRef r - s.get (K.SUP_UV_MARGIN r)
      * 1000) ∧
    (∃ (r : Fin 32) (s : State), s.faultMode = true ∧ (s.rail r).limiting = true ∧ (s.rail r).capped = false) ∧
    (∃ (r : Fin 32) (s : State), s.faultMode = true ∧ s.pgLossOn r = true ∧ (s.rail r).pg = false) ∧
    (∃ (p : Fin 56) (readings : Vector Int 4) (s : State), s.faultMode = true ∧ (s.phase p).st.inUse = true ∧ (∀ i ∈ readings.toList, 5 *
      s.get (K.PH_ILIM_PEAK p) ≤ 4 * ((i - (s.phase p).offset).natAbs : Int))) ∧
    (∃ (p : Fin 56) (reading : Int) (s : State), s.faultMode = true ∧ (s.phase p).testing = true ∧ 8191 ≤ reading) ∧
    (∃ (k : Fin 4) (s : State), s.faultMode = true ∧ (s.aux k).st ≠ .off) ∧
    (∃ (acc : Accessor) (s : State), s.Admits acc K.SUP_QUENCH 1 ∧ s.installerUp acc = true ∧ s.faultMode = true) :=
  ⟨
    ⟨3, 1, 2000, ((((inMode .run).modPhase 5 fun x => { x with st := .active, rail := some 3, role := .member  }).modRail 3 fun x =>
      { x with st := .up, members := [5]  }).puts [(K.RAIL_VMAX 3, 1000), (K.SUP_OV_MARGIN 3, 100)] : State), by decide +kernel⟩,
    ⟨3, 100, ((((inMode .run).modPhase 5 fun x => { x with st := .active, rail := some 3, role := .member  }).modRail 3 fun x =>
      { x with st := .up, members := [5] , ref := { v0 := 900000, target := 900000 } }).puts [(K.SUP_UV_MARGIN 3, 100)] : State),
      by decide +kernel⟩,
    ⟨3, (((inMode .run).modPhase 5 fun x => { x with st := .active, rail := some 3, role := .member  }).modRail 3 fun x =>
      { x with st := .up, members := [5] , limiting := true } : State), by decide +kernel⟩,
    ⟨3,
      ({ ((inMode .run).modPhase 5 fun x => { x with st := .active, rail := some 3, role := .member  }).modRail 3 fun x => { x with st := .up, members := [5] , qualified := true } with now := 123456789 }
      : State), by decide +kernel⟩,
    ⟨5, #v[90000, -90000, 90000, 90000], (((inMode .run).modPhase 5 fun x =>
      { x with st := .active, rail := some 3, role := .member  }).modRail 3 fun x => { x with st := .up, members := [5]  } : State),
      by decide +kernel⟩,
    ⟨5, 8191, (((inMode .run).modPhase 5 fun x => { x with st := .active, rail := some 3, role := .member , testing := true }).modRail 3
      fun x => { x with st := .up, members := [5]  } : State), by decide +kernel⟩,
    ⟨1, ((inMode .run).modAux 1 fun x => { x with st := .on } : State), by decide +kernel⟩,
    ⟨.spi, inMode .run, ⟨by decide +kernel, row K.SUP_QUENCH, by decide +kernel, by decide +kernel⟩, by decide +kernel⟩⟩

theorem test_AuxFaultInIdle_premises :
    (∃ (k : Fin 4) (s : State), s.modes.mode = .idle ∧ s.ramping = false ∧ s.anyRailLive = false ∧ (s.aux k).st ≠ .off) :=
  
    ⟨1, ((inMode .idle).modAux 1 fun x => { x with st := .on } : State), by decide +kernel⟩

theorem test_SupervisionReportsAndSnapshots_premises :
    (∃ (r : Fin 32) (n : Fin 8) (v : Int) (lead : Int) (s : State), (∃ p ∈ s.activeMembers r, tileOf p = n) ∧ (s.rail r).ref.target <
      50000 * ((v - lead).natAbs : Int)) ∧
    (∃ (acc : Accessor) (s : State), s.Admits acc K.SUP_SNAP_TAKE 1 ∧ s.modes.holdup = false) ∧
    (∃ (acc : Accessor) (s : State), s.Admits acc K.SUP_SNAP_CLEAR 1 ∧ s.installerUp acc = true) :=
  ⟨
    ⟨3, 1, 1000, 800, (((inMode .run).modPhase 5 fun x => { x with st := .active, rail := some 3, role := .member  }).modRail 3 fun x =>
      { x with st := .up, members := [5] , ref := { target := 900000 } } : State), by decide +kernel⟩,
    ⟨.spi, inMode .run, ⟨by decide +kernel, row K.SUP_SNAP_TAKE, by decide +kernel, by decide +kernel⟩, by decide +kernel⟩,
    ⟨.spi, inMode .run, ⟨by decide +kernel, row K.SUP_SNAP_CLEAR, by decide +kernel, by decide +kernel⟩, by decide +kernel⟩⟩

theorem test_GroupCommandsTakeATag_premises :
    (∃ (acc : Accessor) (g : Fin 16) (n : Nat) (s : State), s.Admits acc (K.GRP_CMD g) 1 ∧ s.installerUp acc = true ∧ s.groupMode = true
      ∧ s.nextTag = some n ∧ (∀ h, (s.group h).stage ≠ .dependants) ∧ (s.group g).st = .down ∧ (s.group g).waiting = false) ∧
    (∃ (acc : Accessor) (g : Fin 16) (n : Nat) (k : Nat) (s : State), s.Admits acc (K.GRP_CMD g) 1 ∧ s.installerUp acc = true ∧
      s.groupMode = true ∧ s.nextTag = some n ∧ (∀ h, (s.group h).stage ≠ .dependants) ∧ s.dependants g = [] ∧ (s.group g).st = .up ∧
      (s.group g).sentSteps.head? = some k ∧ (s.group g).stage = .idle) :=
  ⟨
    ⟨.spi, 3, 0, inMode .idle, ⟨by decide +kernel, row (K.GRP_CMD 3), by decide +kernel, by decide +kernel⟩, by decide +kernel⟩,
    ⟨.spi, 3, 0, 2, (((inMode .run).modGroup 3 fun x => { x with st := .up, sentSteps := [2] }) : State), ⟨by decide +kernel, row
      (K.GRP_CMD 3), by decide +kernel, by decide +kernel⟩, by decide +kernel⟩⟩

theorem test_GroupRises_premises :
    (∃ (g : Fin 16) (s : State), (s.group g).st = .held ∧ s.closedGate g ≠ .none ∧ ((∀ h, h < g → (s.group h).st ≠ .held)) ∧ (∀ h,
      (s.group h).stage ≠ .dependants)) ∧
    (∃ (g : Fin 16) (k : Nat) (s : State), (s.group g).st = .held ∧ s.closedGate g = .none ∧ (s.groupSteps g).head? = some k ∧ (∀ r ∈
      (s.step k).railList, (s.rail r).st ≠ .unbuilt) ∧ ((∀ h, h < g → (s.group h).st ≠ .held)) ∧ ((∀ h, h ≠ g → (s.group h).stage ≠
      .dependants))) ∧
    (∃ (g : Fin 16) (k : Nat) (s : State), (s.group g).st = .rising ∧ (s.group g).stage = .asking ∧ (s.group g).cur = some k ∧ (s.group
      g).admitted = true ∧ (s.bus.stuck = false ∨ (s.step k).slaveList = [])) ∧
    (∃ (g : Fin 16) (k : Nat) (s : State), (s.group g).st = .rising ∧ (s.group g).stage = .sent ∧ (s.group g).cur = some k ∧ s.stepMet
      (s.step k) = true ∧ ((s.step k).bellUp = false ∨ s.coopBit 2 = false) ∧ (∀ j ∈ s.groupSteps g, j ≤ k)) ∧
    (∃ (g : Fin 16) (k : Nat) (s : State), (s.group g).st = .rising ∧ (s.group g).stage = .sent ∧ (s.group g).cur = some k ∧ s.stepMet
      (s.step k) = true ∧ (s.step k).bellUp = true ∧ s.coopBit 2 = true) :=
  ⟨
    ⟨3, ((((inMode .idle).modGroup 3 fun x => { x with st := .held })).put (K.GRP_AFTER 3) 5 : State), by decide +kernel⟩,
    ⟨3, 2,
      ({ (((inMode .idle).modGroup 3 fun x => { x with st := .held }).modRail 3 fun x => { x with st := .off }).puts [(K.SEQ_STEP 2, (ofLE [8#8, 0#8, 0#8, 0#8, 131#8, 1#8] : Nat)), (K.GRP_AFTER 3, 255)] with now := 5000 }
      : State), by decide +kernel⟩,
    ⟨3, 2, ((((inMode .idle).modGroup 3 fun x => { x with st := .rising, stage := .asking, cur := some 2, admitted := true }).modRail 3
      fun x => { x with st := .off }).puts [(K.SEQ_STEP 2, (ofLE [8#8, 0#8, 0#8, 0#8, 131#8, 1#8] : Nat))] : State), by decide +kernel⟩,
    ⟨3, 2, ((((inMode .run).modGroup 3 fun x => { x with st := .rising, stage := .sent, cur := some 2, sentSteps := [2] }).modRail 3 fun
      x => { x with st := .up }).puts [(K.SEQ_STEP 2, (ofLE [8#8, 0#8, 0#8, 0#8, 131#8, 1#8] : Nat))] : State), by decide +kernel⟩,
    ⟨3, 2, ((((inMode .run).modGroup 3 fun x => { x with st := .rising, stage := .sent, cur := some 2, sentSteps := [2] }).modRail 3 fun
      x => { x with st := .up }).puts [(K.SEQ_STEP 2, (ofLE [8#8, 0#8, 0#8, 0#8, 147#8, 1#8] : Nat)), (K.SEQ_COOP, 4)] : State),
      by decide +kernel⟩⟩

theorem test_GroupFalls_premises :
    (∃ (g : Fin 16) (k : Nat) (s : State), (s.group g).st = .falling ∧ (s.group g).stage = .offDelay ∧ (s.group g).cur = some k) ∧
    (∃ (g : Fin 16) (k : Nat) (s : State), (s.group g).st = .falling ∧ (s.group g).stage = .downSent ∧ (s.group g).cur = some k ∧
      s.stepDown (s.step k) = true ∧ ((s.step k).bellDown = false ∨ s.coopBit 2 = false) ∧ (s.group g).sentSteps = [k] ∧ (s.group
      g).latched = false) ∧
    (∃ (g : Fin 16) (k : Nat) (s : State), (s.group g).st = .falling ∧ (s.group g).stage = .downSent ∧ (s.group g).cur = some k ∧
      s.stepDown (s.step k) = true ∧ (s.step k).bellDown = true ∧ s.coopBit 2 = true) :=
  ⟨
    ⟨3, 2, ((((inMode .run).modGroup 3 fun x => { x with st := .falling, stage := .offDelay, cur := some 2, sentSteps := [2] }).modRail 3
      fun x => { x with st := .up }).puts [(K.SEQ_STEP 2, (ofLE [8#8, 0#8, 0#8, 0#8, 131#8, 1#8] : Nat))] : State), by decide +kernel⟩,
    ⟨3, 2, ((((inMode .run).modGroup 3 fun x => { x with st := .falling, stage := .downSent, cur := some 2, sentSteps := [2] }).modRail 3
      fun x => { x with st := .off }).puts [(K.SEQ_STEP 2, (ofLE [8#8, 0#8, 0#8, 0#8, 131#8, 1#8] : Nat))] : State), by decide +kernel⟩,
    ⟨3, 2, ((((inMode .run).modGroup 3 fun x => { x with st := .falling, stage := .downSent, cur := some 2, sentSteps := [2] }).modRail 3
      fun x => { x with st := .off }).puts [(K.SEQ_STEP 2, (ofLE [8#8, 0#8, 0#8, 0#8, 163#8, 1#8] : Nat)), (K.SEQ_COOP, 4)] : State),
      by decide +kernel⟩⟩

theorem test_SequenceFaultsSeal_premises :
    (∃ (g : Fin 16) (k : Nat) (s : State), s.faultMode = true ∧ (s.group g).st = .rising ∧ (s.group g).stage = .sent ∧ (s.group g).cur =
      some k ∧ s.stepMet (s.step k) = false) ∧
    (∃ (g : Fin 16) (s : State), s.faultMode = true ∧ s.bellGroup .bell = some g) ∧
    (∃ (s : State), s.faultMode = true ∧ s.fogHeard = true ∧ (s.ramping = true ∨ s.railsBusy = true)) :=
  ⟨
    ⟨3, 2, ((((inMode .run).modGroup 3 fun x => { x with st := .rising, stage := .sent, cur := some 2, sentSteps := [2] }).modRail 3 fun
      x => { x with st := .rampUp }).puts [(K.SEQ_STEP 2, (ofLE [8#8, 0#8, 0#8, 0#8, 131#8, 1#8] : Nat))] : State), by decide +kernel⟩,
    ⟨3, (((inMode .run).modGroup 3 fun x => { x with st := .rising, stage := .bell, cur := some 2, sentSteps := [2] }) : State),
      by decide +kernel⟩,
    ⟨(((inMode .run).modRail 3 fun x => { x with st := .up }).put K.SEQ_COOP 2 : State), by decide +kernel⟩⟩

theorem test_PowerGood_premises :
    (∃ (r : Fin 32) (s : State), (s.rail r).armed = true ∧ (s.rail r).pg = true) :=
  
    ⟨3, ((inMode .run).modRail 3 fun x => { x with st := .up, armed := true, pg := true, spares := [5] } : State), by decide +kernel⟩

theorem test_SharedLines_premises :
    (∃ (s : State), s.portsOpen = true ∧ s.fogHeard = true ∧ s.ramping = false ∧ s.railsBusy = false) ∧
    (∃ (s : State), s.portsOpen = true ∧ s.seq.fogLow = true ∧ s.seq.fogDrive = false) ∧
    (∃ (g : Fin 16) (s : State), s.bellGroup .bell = some g) ∧
    (∃ (g : Fin 16) (s : State), s.bellGroup .rung = some g ∧ (s.group g).st = .rising ∧ (∀ j ∈ s.groupSteps g, (s.group g).cur.all fun k
      => decide (j ≤ k)) ∧ (s.group g).cur ≠ none) ∧
    (∃ (acc : Accessor) (s : State), s.Admits acc K.SEQ_CHATTER_CLEAR 1 ∧ s.installerUp acc = true) :=
  ⟨
    ⟨(inMode .idle).put K.SEQ_COOP 2, by decide +kernel⟩,
    ⟨({ inMode .idle with seq := { fogLow := true, fogBall := true } } : State), by decide +kernel⟩,
    ⟨3, (((inMode .run).modGroup 3 fun x => { x with st := .rising, stage := .bell, cur := some 2 }) : State), by decide +kernel⟩,
    ⟨3, ((((inMode .run).modGroup 3 fun x => { x with st := .rising, stage := .rung, cur := some 2, sentSteps := [2] })).puts
      [(K.SEQ_STEP 2, (ofLE [8#8, 0#8, 0#8, 0#8, 131#8, 1#8] : Nat)), (K.SEQ_COOP, 4)] : State), by decide +kernel⟩,
    ⟨.spi, (inMode .run).put (K.SEQ_PG_CHATTER 3) 5, ⟨by decide +kernel, row K.SEQ_CHATTER_CLEAR, by decide +kernel, by decide +kernel⟩,
      by decide +kernel⟩⟩

theorem test_LegacyMaster_premises :
    (∃ (k : Fin 8) (s : State), s.masterPolls k = true ∧ (s.slave k).retry = false ∧ (s.slave k).owed = [] ∧ s.stepNames k = true ∧
      (s.slave k).lost = false ∧ s.slaveGroup k = none) ∧
    (∃ (k : Fin 8) (g : Fin 16) (n : Nat) (b : Byte) (s : State), s.masterPolls k = true ∧ (s.slave k).retry = false ∧ (s.slave k).owed =
      [] ∧ (s.slave k).lost = false ∧ s.slaveGroup k = some g ∧ (s.group g).cur = some n ∧ b.toNat.testBit 1 = false ∧ b.toNat.testBit 0
      = true ∧ b.toNat / 16 = (s.step n).stage) ∧
    (∃ (k : Fin 8) (f : LegFrame) (s : State), s.masterPolls k = true ∧ (s.slave k).retry = false ∧ (s.slave k).fails < 2 ∧ s.legacyRun k
      = some f) ∧
    (∃ (k : Fin 8) (f : LegFrame) (s : State) (bs : Bytes), s.masterPolls k = true ∧ (s.slave k).retry = false ∧ (s.slave k).fails < 2 ∧
      s.legacyRun k = some f ∧ f.reads (0x58 + k.val) bs = none) ∧
    (∃ (k : Fin 8) (s : State), s.masterPolls k = true ∧ (s.slave k).retry = true ∧ 2 ≤ (s.slave k).fails ∧ s.legacyRun k ≠ none ∧
      s.slaveGroup k = none) ∧
    (∃ (k : Fin 8) (rest : List LegFrame) (s : State), s.masterPolls k = true ∧ (s.slave k).retry = true ∧ (s.slave k).owed = .idRead ::
      rest) :=
  ⟨
    ⟨3,
      ({ (inMode .run).puts [(K.SEQ_LEGACY_MODE, 1), (K.SEQ_LEGACY_SLAVES, 8), (K.SEQ_STEP 2, (8 * 2 ^ 112 + 2 * 2 ^ 120 + 0x83 * 2 ^ 32 + 8 : Nat))] with seq := { slaves := State.reset.seq.slaves.set 3 { fails := 1 }, groups := State.reset.seq.groups.set 3 { st := .falling, stage := .downSent, cur := some 2 } } }
      : State), by decide +kernel⟩,
    ⟨3, 3, 2, 0x25#8,
      ({ (inMode .run).puts [(K.SEQ_LEGACY_MODE, 1), (K.SEQ_LEGACY_SLAVES, 8), (K.SEQ_STEP 2, (8 * 2 ^ 112 + 2 * 2 ^ 120 + 0x83 * 2 ^ 32 + 8 : Nat))] with seq := { slaves := State.reset.seq.slaves.set 3 { fails := 1 }, groups := State.reset.seq.groups.set 3 { st := .rising, stage := .sent, cur := some 2 } } }
      : State), by decide +kernel⟩,
    ⟨3, .statusRead,
      ({ (inMode .run).puts [(K.SEQ_LEGACY_MODE, 1), (K.SEQ_LEGACY_SLAVES, 8), (K.SEQ_STEP 2, (8 * 2 ^ 112 + 2 * 2 ^ 120 + 0x83 * 2 ^ 32 + 8 : Nat))] with seq := { slaves := State.reset.seq.slaves.set 3 { fails := 1 }, groups := State.reset.seq.groups.set 3 { st := .rising, stage := .sent, cur := some 2 } } }
      : State), by decide +kernel⟩,
    ⟨3, .statusRead,
      ({ (inMode .run).puts [(K.SEQ_LEGACY_MODE, 1), (K.SEQ_LEGACY_SLAVES, 8), (K.SEQ_STEP 2, (8 * 2 ^ 112 + 2 * 2 ^ 120 + 0x83 * 2 ^ 32 + 8 : Nat))] with seq := { slaves := State.reset.seq.slaves.set 3 { fails := 1 }, groups := State.reset.seq.groups.set 3 { st := .rising, stage := .sent, cur := some 2 } } }
      : State), [1#8, 2#8, 3#8], by decide +kernel⟩,
    ⟨3,
      ({ (inMode .run).puts [(K.SEQ_LEGACY_MODE, 1), (K.SEQ_LEGACY_SLAVES, 8), (K.SEQ_STEP 2, (8 * 2 ^ 112 + 2 * 2 ^ 120 + 0x83 * 2 ^ 32 + 8 : Nat))] with seq := { slaves := State.reset.seq.slaves.set 3 { fails := 2, retry := true }, groups := State.reset.seq.groups.set 3 { st := .falling, stage := .downSent, cur := some 2 } } }
      : State), by decide +kernel⟩,
    ⟨3, [.stageGo 2],
      ({ (inMode .run).puts [(K.SEQ_LEGACY_MODE, 1), (K.SEQ_LEGACY_SLAVES, 8), (K.SEQ_STEP 2, (8 * 2 ^ 112 + 2 * 2 ^ 120 + 0x83 * 2 ^ 32 + 8 : Nat))] with seq := { slaves := State.reset.seq.slaves.set 3 { fails := 1, lost := true, retry := true, owed := [.idRead, .stageGo 2] }, groups := State.reset.seq.groups.set 3 { st := .falling, stage := .downSent, cur := some 2 } } }
      : State), by decide +kernel⟩⟩

theorem test_TwoWireBusClear_premises :
    (∃ (s : State), s.drivesBus = true) ∧
    (∃ (sdaLow : Bool) (s : State), s.bus.clearing = true ∧ sdaLow = true ∧ s.portsOpen = true) ∧
    (∃ (sdaLow : Bool) (s : State), s.bus.clearing = true ∧ sdaLow = false) ∧
    (∃ (s : State), s.portsOpen = true ∧ s.bus.stuck = true) ∧
    (∃ (k : Fin 8) (s : State), s.masterPolls k = true ∧ (s.slave k).retry = false ∧ s.legacyRun k ≠ none) :=
  ⟨
    ⟨({ inMode .run with bus := { clearing := true } } : State), by decide +kernel⟩,
    ⟨true, ({ inMode .run with bus := { clearing := true } } : State), by decide +kernel⟩,
    ⟨false, ({ inMode .run with bus := { clearing := true } } : State), by decide +kernel⟩,
    ⟨({ inMode .run with bus := { stuck := true } } : State), by decide +kernel⟩,
    ⟨3,
      ({ (inMode .run).puts [(K.SEQ_LEGACY_MODE, 1), (K.SEQ_LEGACY_SLAVES, 8), (K.SEQ_STEP 2, (8 * 2 ^ 112 + 2 * 2 ^ 120 + 0x83 * 2 ^ 32 + 8 : Nat))] with seq := { slaves := State.reset.seq.slaves.set 3 { fails := 1 }, groups := State.reset.seq.groups.set 3 { st := .falling, stage := .downSent, cur := some 2 } } }
      : State), by decide +kernel⟩⟩

theorem test_TemperaturesAreFollowed_premises :
    (∃ (s : State), s.siroccoRuns = true) ∧
    (∃ (n : Fin 8) (s : State), s.siroccoRuns = true ∧ (n = 0 ∨ s.tilePowered n = true)) ∧
    (∃ (n : Fin 8) (k : Fin 4) (s : State), s.siroccoRuns = true ∧ (∀ m, s.sensorTrips m = []) ∧ k ∈ sensorsOf n ∧ (s.sensor n k).st =
      .valid ∧ 8 ≤ (s.sensor n k).disRun ∧ s.disagrees n k = true ∧ ((∀ m j, (m, j) ≠ (n, k) → (s.sensor m j).disRun < 8))) ∧
    (∃ (n : Fin 8) (s : State), s.siroccoRuns = true ∧ (s.thermTile n).fast = true ∧ (s.thermTile n).low = true) ∧
    (∃ (n : Fin 8) (s : State), s.siroccoRuns = true ∧ (s.thermTile n).far = true ∧ (s.thermTile n).diverge = false) ∧
    (∃ (acc : Accessor) (s : State), s.Admits acc K.SIR_SENSOR_RESET 1 ∧ s.installerUp acc = true ∧ s.modes.mode = .service) :=
  ⟨
    ⟨inMode .run, by decide +kernel⟩,
    ⟨2, inMode .run, by decide +kernel⟩,
    ⟨2, 1,
      ({ inMode .run with therm := { tiles := State.reset.therm.tiles.set 2 { tref := 25000000000, tj := 25000000000, sensors := #v[{ reading := some 2500 }, { reading := some 9000, disRun := 8 }, { reading := some 2500 }, { reading := some 2500 }] } } }
      : State), by decide +kernel⟩,
    ⟨2, ({ inMode .run with therm := { tiles := State.reset.therm.tiles.set 2 { fast := true, low := true } } } : State),
      by decide +kernel⟩,
    ⟨2, ({ inMode .run with therm := { tiles := State.reset.therm.tiles.set 2 { far := true } } } : State), by decide +kernel⟩,
    ⟨.spi,
      ({ inMode .service with therm := { tiles := State.reset.therm.tiles.set 2 { sensors := #v[{}, { st := .disagree, disRun := 9 }, {}, {}] } } }
      : State), ⟨by decide +kernel, row K.SIR_SENSOR_RESET, by decide +kernel, by decide +kernel⟩, by decide +kernel⟩⟩

theorem test_TemperatureLimitTrips_premises :
    (∃ (s : State), s.siroccoRuns = true ∧ s.faultMode = true ∧ 10 ≤ (s.thermTile 0).hotRun) ∧
    (∃ (p : Fin 56) (s : State), s.siroccoRuns = true ∧ s.faultMode = true ∧ (s.thermTile 0).hotRun < 10 ∧ 10 ≤ (s.phase p).hotRun ∧ ((∀
      q, q ≠ p → (s.phase q).hotRun < 10)) ∧ ((∀ m, m < tileOf p → s.sensorTrips m = []))) ∧
    (∃ (n : Fin 8) (k : Fin 4) (s : State), s.siroccoRuns = true ∧ s.faultMode = true ∧ k ∈ s.validSensors n ∧ 2 ≤ (s.sensor n k).hotRun
      ∧ ((∀ j, j < k → (s.sensor n j).hotRun < 2)) ∧ ((∀ m, m ≤ n → s.modelTrips m = [])) ∧ ((∀ m, m < n → s.sensorTrips m = []))) ∧
    (∃ (s : State), s.siroccoRuns = true ∧ s.modes.mode = .idle ∧ s.ramping = false ∧ s.anyRailLive = false ∧ s.therm.shutIdle = false ∧
      10 ≤ (s.thermTile 0).hotRun) :=
  ⟨
    ⟨({ inMode .run with therm := { tiles := State.reset.therm.tiles.set 0 { hotRun := 10 } } } : State), by decide +kernel⟩,
    ⟨5, ((inMode .run).modPhase 5 fun x => { x with hotRun := 10 } : State), by decide +kernel⟩,
    ⟨2, 1, ({ inMode .run with therm := { tiles := State.reset.therm.tiles.set 2 { sensors := #v[{}, { hotRun := 2 }, {}, {}] } } } :
      State), by decide +kernel⟩,
    ⟨({ ({ inMode .idle with therm := { tiles := State.reset.therm.tiles.set 0 { hotRun := 10 } } } : State) with auxs := State.reset.auxs.set 1 { st := .on } }
      : State), by decide +kernel⟩⟩

theorem test_RawAccess_premises :
    (∃ (acc : Accessor) (corrected : List Nat) (bad : List Nat) (d : ObjDef) (part : Partition) (s : State), s.portsOpen = true ∧ s.reach
      acc K.MRAM_RAW_DATA = .ok d ∧ partitions[(s.rawPos (holderOf acc)).1]? = some part ∧ s.pwBars (holderOf acc) (s.rawPos (holderOf
      acc)).1 false = false ∧ part.rawRead = true ∧ ((part.base + (s.rawPos (holderOf acc)).2 + 256 ≤ 0x180000 ∨ 0x182000 ≤ part.base +
      (s.rawPos (holderOf acc)).2)) ∧ corrected = [] ∧ bad = []) ∧
    (∃ (acc : Accessor) (data : Bytes) (part : Partition) (s : State), s.Admits acc K.MRAM_RAW_DATA data.length ∧ partitions[(s.rawPos
      (holderOf acc)).1]? = some part ∧ s.pwBars (holderOf acc) (s.rawPos (holderOf acc)).1 true = false ∧ part.rawWrite = true ∧ data ≠
      [] ∧ (s.rawPos (holderOf acc)).2 + data.length ≤ part.size ∧ s.modes.holdup = false) :=
  ⟨
    ⟨.spi, [], [], row K.MRAM_RAW_DATA, ⟨0x19D000, 0x8000, true, true⟩, ({ inMode .run with mram := [(0x19D000, 5#8)] } : State),
      by decide +kernel⟩,
    ⟨.spi, [7#8, 0#8], ⟨0x19D000, 0x8000, true, true⟩,
      ({ inMode .run with nvm := { rawOffset := State.reset.nvm.rawOffset.set 0 0x7FFE } } : State), ⟨by decide +kernel, row
      K.MRAM_RAW_DATA, by decide +kernel, by decide +kernel⟩, by decide +kernel⟩⟩

theorem test_MramPasswords_premises :
    (∃ (acc : Accessor) (data : Bytes) (word : Bytes) (part : Nat) (wr : Bool) (i : Fin 4) (h : Bytes) (s : State), s.Admits acc
      K.MRAM_PW_PRESENT data.length ∧ pwFields data = some (part, wr, i, word) ∧ (s.pw i).lockEnd = none ∧ (s.pw i).hash = some h ∧
      sha256 word = h) ∧
    (∃ (acc : Accessor) (data : Bytes) (word : Bytes) (part : Nat) (wr : Bool) (i : Fin 4) (h : Bytes) (s : State), s.Admits acc
      K.MRAM_PW_PRESENT data.length ∧ pwFields data = some (part, wr, i, word) ∧ (s.pw i).lockEnd = none ∧ (s.pw i).hash = some h ∧
      sha256 word ≠ h ∧ (s.pw i).fails < 4) ∧
    (∃ (acc : Accessor) (data : Bytes) (word : Bytes) (part : Nat) (wr : Bool) (i : Fin 4) (h : Bytes) (s : State), s.Admits acc
      K.MRAM_PW_PRESENT data.length ∧ pwFields data = some (part, wr, i, word) ∧ (s.pw i).lockEnd = none ∧ (s.pw i).hash = some h ∧
      sha256 word ≠ h ∧ 4 ≤ (s.pw i).fails) ∧
    (∃ (acc : Accessor) (data : Bytes) (word : Bytes) (part : Nat) (wr : Bool) (i : Fin 4) (d : ObjDef) (s : State), s.portsOpen = true ∧
      s.reachWrite acc K.MRAM_PW_SET data.length = .ok d ∧ pwFields data = some (part, wr, i, word) ∧ s.pwBars (holderOf acc) part wr =
      false ∧ s.installerUp acc = true ∧ 8 ≤ word.length ∧ word.length ≤ 32 ∧ s.modes.holdup = false) ∧
    (∃ (acc : Accessor) (s : State), s.Admits acc K.MRAM_PW_LOCK 1) ∧
    (∃ (holder : Option (Fin 64)) (part : Nat) (s : State), s.transferNames holder part = false) :=
  ⟨
    ⟨.spi, [6#8, 1#8, 65#8, 66#8, 67#8, 68#8, 69#8, 70#8, 71#8, 72#8], [65#8, 66#8, 67#8, 68#8, 69#8, 70#8, 71#8, 72#8], 6, true, 1,
      sha256 [65#8, 66#8, 67#8, 68#8, 69#8, 70#8, 71#8, 72#8],
      ({ inMode .run with nvm := { pws := State.reset.nvm.pws.set 1 { hash := some (sha256 [65#8, 66#8, 67#8, 68#8, 69#8, 70#8, 71#8, 72#8]), fails := 0 } } }
      : State), ⟨by decide +kernel, row K.MRAM_PW_PRESENT, by decide +kernel, by decide +kernel⟩, by decide +kernel⟩,
    ⟨.spi, [6#8, 1#8, 65#8, 66#8, 67#8, 68#8, 69#8, 70#8, 71#8, 72#8], [65#8, 66#8, 67#8, 68#8, 69#8, 70#8, 71#8, 72#8], 6, true, 1, [],
      ({ inMode .run with nvm := { pws := State.reset.nvm.pws.set 1 { hash := some ([]), fails := 0 } } } : State), ⟨by decide +kernel,
      row K.MRAM_PW_PRESENT, by decide +kernel, by decide +kernel⟩, by decide +kernel⟩,
    ⟨.spi, [6#8, 1#8, 65#8, 66#8, 67#8, 68#8, 69#8, 70#8, 71#8, 72#8], [65#8, 66#8, 67#8, 68#8, 69#8, 70#8, 71#8, 72#8], 6, true, 1, [],
      ({ inMode .run with nvm := { pws := State.reset.nvm.pws.set 1 { hash := some ([]), fails := 4 } } } : State), ⟨by decide +kernel,
      row K.MRAM_PW_PRESENT, by decide +kernel, by decide +kernel⟩, by decide +kernel⟩,
    ⟨.spi, [6#8, 1#8, 65#8, 66#8, 67#8, 68#8, 69#8, 70#8, 71#8, 72#8], [65#8, 66#8, 67#8, 68#8, 69#8, 70#8, 71#8, 72#8], 6, true, 1, row
      K.MRAM_PW_SET, inMode .run, by decide +kernel⟩,
    ⟨.spi, ({ inMode .run with nvm := { unlocks := [⟨none, 6, true⟩, ⟨some 0, 6, true⟩] } } : State), ⟨by decide +kernel, row
      K.MRAM_PW_LOCK, by decide +kernel, by decide +kernel⟩⟩,
    ⟨none, 6, ({ inMode .run with nvm := { unlocks := [⟨none, 6, true⟩, ⟨some 0, 6, true⟩] } } : State), by decide +kernel⟩⟩

theorem test_ScrubKeepsTheArray_premises :
    (∃ (weak : Nat) (corrected : Nat) (bad : List (Fin 64)) (s : State), s.activeNotSeal = true ∧ s.modes.holdup = false ∧ (weak ≠ 0 ∨
      corrected ≠ 0) ∧ corrected ≠ 0 ∧ bad ≠ [] ∧ (s.getN K.MRAM_SCRUB_POS + 64) % 262144 = 0) :=
  
    ⟨1, 1, [5], (inMode .run).put K.MRAM_SCRUB_POS 262080, by decide +kernel⟩

theorem test_DmaStart_premises :
    (∃ (acc : Accessor) (c : Fin 8) (n : Nat) (d : ObjDef) (s : State), s.portsOpen = true ∧ s.reachWrite acc (K.DMA_START c) 1 = .ok d ∧
      6 ≤ c.val ∧ s.regionBarred (holderOf acc) (s.desc c).src (s.desc c).size false = false ∧ s.regionBarred (holderOf acc) (s.desc
      c).dst (s.desc c).size true = false ∧ (((s.desc c).store = true → s.regionBarred (holderOf acc) (s.desc c).checkAddr 4 true =
      false)) ∧ s.installerUp acc = true ∧ (s.desc c).wellFormed = true ∧ (s.desc c).addressed = true ∧ (s.channel c).st ≠ .running ∧
      ((regionOf (s.desc c).src (s.desc c).size = some .mirage → s.mirBusy = false)) ∧ (s.channel c).revokedOf.contains (s.issuerOf acc)
      = false ∧ s.nextTag = some n) ∧
    (∃ (acc : Accessor) (c : Fin 8) (d : ObjDef) (s : State), s.portsOpen = true ∧ s.reachWrite acc (K.DMA_START c) 1 = .ok d ∧ c.val <
      6) ∧
    (∃ (acc : Accessor) (c : Fin 8) (d : ObjDef) (s : State), s.portsOpen = true ∧ s.reachWrite acc (K.DMA_START c) 1 = .ok d ∧ 6 ≤ c.val
      ∧ s.regionBarred (holderOf acc) (s.desc c).src (s.desc c).size false = false ∧ s.regionBarred (holderOf acc) (s.desc c).dst (s.desc
      c).size true = false ∧ (s.desc c).store = false ∧ s.installerUp acc = true ∧ (s.desc c).wellFormed = true ∧ (s.desc c).addressed =
      true ∧ (s.channel c).st ≠ .running ∧ ((regionOf (s.desc c).src (s.desc c).size = some .mirage → s.mirBusy = false)) ∧ (s.channel
      c).revokedOf.contains (s.issuerOf acc) = true) :=
  ⟨
    ⟨.spi, 6, 0, row (K.DMA_START 6), (inMode .run).puts [(K.DMA_DESC 6, (0x10001000100020002000000002019d100201a50002019d000 : Nat))],
      by decide +kernel⟩,
    ⟨.spi, 5, row (K.DMA_START 5), inMode .run, by decide +kernel⟩,
    ⟨.spi, 6, row (K.DMA_START 6),
      ({ (inMode .run).puts [(K.DMA_DESC 6, (0x10001000100020002000000002019d100201a50002019d000 : Nat))] with dma := State.reset.dma.set 6 { revokedOf := [.host] } }
      : State), by decide +kernel⟩⟩

theorem test_DmaRun_premises :
    (∃ (c : Fin 8) (s : State), s.modes.holdup = false ∧ s.activeNotSeal = true ∧ 6 ≤ c.val ∧ (s.channel c).st = .running ∧ (s.channel
      c).moved = false ∧ (s.channel c).retryDue = false ∧ ((∀ b : Fin 8, 6 ≤ b.val → b < c → (s.channel b).st ≠ .running)) ∧ 0x20000000 ≤
      (s.channel c).src) ∧
    (∃ (c : Fin 8) (s : State), (s.channel c).st = .running ∧ (s.channel c).retryDue = false ∧ (s.channel c).moved = false) ∧
    (∃ (c : Fin 8) (s : State), (s.channel c).st = .running ∧ (s.channel c).retryDue = true ∧ (s.channel c).fails < (s.desc
      c).retryLimit) ∧
    (∃ (c : Fin 8) (s : State), (s.channel c).st = .running ∧ (s.channel c).retryDue = true ∧ (s.desc c).retryLimit ≤ (s.channel
      c).fails) ∧
    (∃ (c : Fin 8) (n : Nat) (s : State), (s.channel c).st = .running ∧ (s.channel c).moved = true ∧ (s.desc c).verify = false ∧ (s.desc
      c).store = false ∧ (s.channel c).tag = some n ∧ n < 128 ∧ (s.op n).status = .running) ∧
    (∃ (c : Fin 8) (s : State), s.keeperRuns = true ∧ (s.channel c).st = .running ∧ s.portsOpen = true) ∧
    (∃ (s : State), s.keeperRuns = true ∧ s.portsOpen = true) :=
  ⟨
    ⟨6,
      ({ (inMode .run).puts [(K.DMA_DESC 6, (0x10001000100020002000000002019d100201a50002019d000 : Nat))] with dma := State.reset.dma.set 6 { st := .running, src := 0x2019D000, dst := 0x201A5000 } }
      : State), by decide +kernel⟩,
    ⟨6,
      ({ (inMode .run).puts [(K.DMA_DESC 6, (0x10001000100020002000000002019d100201a50002019d000 : Nat))] with dma := State.reset.dma.set 6 { st := .running, src := 0x2019D000, dst := 0x201A5000 } }
      : State), by decide +kernel⟩,
    ⟨6,
      ({ (inMode .run).puts [(K.DMA_DESC 6, (0x10001000100020002000000002019d100201a50002019d000 : Nat))] with dma := State.reset.dma.set 6 { st := .running, retryDue := true, fails := 1 } }
      : State), by decide +kernel⟩,
    ⟨6,
      ({ (inMode .run).puts [(K.DMA_DESC 6, (0x10001000100020002000000002019d100201a50002019d000 : Nat))] with dma := State.reset.dma.set 6 { st := .running, retryDue := true, fails := 2 } }
      : State), by decide +kernel⟩,
    ⟨6, 4,
      ({ ({ (inMode .run).puts [(K.DMA_DESC 6, (0x10001000100020002000000002019d100201a50002019d000 : Nat))] with dma := State.reset.dma.set 6 { st := .running, moved := true, tag := some 4 } } : State) with ops := { entries := State.reset.ops.entries.set 4 { status := .running, kind := .dma } } }
      : State), by decide +kernel⟩,
    ⟨6,
      ({ (inMode .run).puts [(K.DMA_DESC 6, (0x10001000100020002000000002019d100201a50002019d000 : Nat))] with dma := State.reset.dma.set 6 { st := .running } }
      : State), by decide +kernel⟩,
    ⟨inMode .run, by decide +kernel⟩⟩

theorem test_DmaMovesOneElement_premises :
    (∃ (c : Fin 8) (p : Nat) (q : Nat) (s : State), s.modes.holdup = false ∧ s.activeNotSeal = true ∧ 6 ≤ c.val ∧ ((∀ b : Fin 8, 6 ≤
      b.val → b < c → (s.channel b).st ≠ .running)) ∧ (s.channel c).st = .running ∧ (s.channel c).moved = false ∧ (s.channel c).retryDue
      = false ∧ (s.channel c).k0 = 0 ∧ (s.channel c).k1 = 0 ∧ (s.channel c).k2 = 0 ∧ (s.desc c).count0 = 1 ∧ (s.desc c).count1 = 1 ∧
      (s.desc c).count2 = 1 ∧ (s.channel c).src = (s.desc c).src ∧ (s.channel c).dst = (s.desc c).dst ∧ regionOf (s.desc c).src (s.desc
      c).size = some (.part p) ∧ p ≠ 0 ∧ p ≠ 1 ∧ regionOf (s.desc c).dst (s.desc c).size = some (.part q) ∧ s.get (K.DMA_CH_ELEMENTS c) <
      4294967295) :=
  
    ⟨6, 6, 7,
      ({ ({ (inMode .run).puts [(K.DMA_DESC 6, (0x10001000100020002000000002019d100201a50002019d000 : Nat))] with dma := State.reset.dma.set 6 { st := .running, src := 0x2019D000, dst := 0x201A5000 } } : State) with mram := [(0x19D000, 5#8), (0x19D003, 9#8)] }
      : State), by decide +kernel⟩

theorem test_MirageCapture_premises :
    (∃ (acc : Accessor) (d : ObjDef) (s : State), s.portsOpen = true ∧ s.reachWrite acc K.MIR_ARM 1 = .ok d ∧ s.installerUp acc = true ∧
      s.mirArmCheck = none) ∧
    (∃ (acc : Accessor) (d : ObjDef) (s : State), s.portsOpen = true ∧ s.reachWrite acc K.MIR_ARM 1 = .ok d ∧ s.installerUp acc = true ∧
      s.mirBusy = true ∧ s.mir.ended = none) ∧
    (∃ (acc : Accessor) (d : ObjDef) (s : State), s.portsOpen = true ∧ s.reachWrite acc K.MIR_ARM 1 = .ok d ∧ s.installerUp acc = true ∧
      s.mir.st = .armed ∧ s.mir.ended = none) ∧
    (∃ (s : State), s.keeperRuns = true ∧ s.mirBusy = true ∧ s.mir.ended = none ∧ s.ints.firedAt = none ∧ ((s.mir.st = .triggered →
      s.mir.trigFrame ≠ none → s.mir.postLeft ≠ 0)) ∧ s.mir.trigFrame = none ∧ s.mir.trigTime.all (fun at_ => decide (s.mirFrameTime
      s.mir.next < at_)) = true) ∧
    (∃ (s : State), s.keeperRuns = true ∧ s.mirBusy = true ∧ s.mir.ended = none ∧ s.ints.firedAt = none ∧ ((s.mir.st = .triggered →
      s.mir.trigFrame ≠ none → s.mir.postLeft ≠ 0)) ∧ s.mir.trigFrame ≠ none) ∧
    (∃ (kind : Nat) (arg : Nat) (at_ : Nat) (before : Int) (after : Int) (s : State), s.keeperRuns = true ∧ s.mir.st = .armed ∧
      s.mir.ended = none ∧ s.getN K.MIR_TRIG_KIND = kind ∧ s.getN K.MIR_TRIG_ARG = arg ∧ ((kind = 3 ∧ at_ = s.now ∧ before < s.get
      K.MIR_TRIG_LEVEL ∧ s.get K.MIR_TRIG_LEVEL ≤ after) ∨ (kind = 4 ∧ at_ = s.now ∧ s.get K.MIR_TRIG_LEVEL ≤ before ∧ after < s.get
      K.MIR_TRIG_LEVEL) ∨ (kind = 6 ∧ s.ints.firedAt = some at_)) ∧ s.portsOpen = true) ∧
    (∃ (s : State), s.mir.st = .triggered ∧ s.mir.trigFrame ≠ none ∧ s.mir.postLeft = 0 ∧ s.mir.ended = none) ∧
    (∃ (how : MirState) (s : State), s.keeperRuns = true ∧ s.mir.ended = some how ∧ s.mir.frames ≠ [] ∧ s.portsOpen = true) :=
  ⟨
    ⟨.spi, row K.MIR_ARM, (inMode .run).puts [(K.MIR_STREAM 0, 7), (K.MIR_POST, 10), (K.MIR_PRE, 5), (K.MIR_DECIM, 3)],
      by decide +kernel⟩,
    ⟨.spi, row K.MIR_ARM,
      ({ (inMode .run).puts [(K.MIR_STREAM 0, 7), (K.MIR_POST, 10), (K.MIR_PRE, 5), (K.MIR_DECIM, 3)] with mir := { st := .armed, t0 := 1000  } }
      : State), by decide +kernel⟩,
    ⟨.spi, row K.MIR_ARM,
      ({ (inMode .run).puts [(K.MIR_STREAM 0, 7), (K.MIR_POST, 10), (K.MIR_PRE, 5), (K.MIR_DECIM, 3)] with mir := { st := .armed, t0 := 1000  } }
      : State), by decide +kernel⟩,
    ⟨({ (inMode .run).puts [(K.MIR_STREAM 0, 7), (K.MIR_POST, 10), (K.MIR_PRE, 5), (K.MIR_DECIM, 3)] with mir := { st := .armed, t0 := 1000  } }
      : State), by decide +kernel⟩,
    ⟨({ (inMode .run).puts [(K.MIR_STREAM 0, 7), (K.MIR_POST, 10), (K.MIR_PRE, 5), (K.MIR_DECIM, 3)] with mir := { st := .triggered, t0 := 1000, trigTime := some 500, trigFrame := some 0, postLeft := 3, frames := [[1#8,1#8,1#8,1#8]], next := 1 } }
      : State), by decide +kernel⟩,
    ⟨6, 3, 7, 0, 0,
      ({ ({ (inMode .run).puts [(K.MIR_STREAM 0, 7), (K.MIR_POST, 10), (K.MIR_PRE, 5), (K.MIR_DECIM, 3)] with mir := { st := .armed, t0 := 1000  } }).puts [(K.MIR_TRIG_KIND, 6), (K.MIR_TRIG_ARG, 3)] with ints := { pending := 8, firedAt := some 7 } }
      : State), by decide +kernel⟩,
    ⟨({ inMode .run with mir := { st := .triggered, trigFrame := some 3 } } : State), by decide +kernel⟩,
    ⟨.done, ({ inMode .run with mir := { st := .triggered, trigFrame := some 3, frames := [[1#8]], ended := some .done } } : State),
      by decide +kernel⟩⟩

theorem test_ChargerStates_premises :
    (∃ (s : State), s.charging = true ∧ (s.chg.st = .fastCc ∨ s.chg.st = .fastCv)) ∧
    (∃ (s : State), s.charging = true ∧ s.chg.st = .precharge) ∧
    (∃ (s : State), s.chg.st = .precharge ∧ s.vPre ≤ s.get K.PP_VBAT) ∧
    (∃ (s : State), s.hasCharger = true ∧ s.chg.st = .fastCv ∧ s.get K.CHG_I < s.iTerm ∧ 1000 * ((s.get K.PP_VBAT - s.vTarget).natAbs :
      Int) ≤ 5 * s.vTarget) ∧
    (∃ (s : State), s.hasCharger = true ∧ s.chg.st = .done ∧ s.get K.PP_VBAT < s.vRecharge ∧ s.chargeAllowed = true) ∧
    (∃ (s : State), s.hasCharger = true ∧ s.chg.st = .precharge ∧ s.getN K.CHG_PRE_TIME * 60000 ≤ s.chg.preTimer) ∧
    (∃ (s : State), s.hasCharger = true ∧ (s.chg.st = .fastCc ∨ s.chg.st = .fastCv) ∧ s.getN K.CHG_SAFETY_TIME * 60000 ≤ s.chg.safeTimer) :=
  ⟨
    ⟨({ (inMode .idle).puts [(K.CHG_EN, 1), (K.PP_CELLS, 4), (K.PP_VBAT, 15000)] with path := { st := .vin, inService := true, bat := .present, qualifiedAt := some 0  }, now := 300000000, chg := { zone := 2, st := .fastCc }  }
      : State), by decide +kernel⟩,
    ⟨({ (inMode .idle).puts [(K.CHG_EN, 1), (K.PP_CELLS, 4), (K.PP_VBAT, 15000)] with path := { st := .vin, inService := true, bat := .present, qualifiedAt := some 0  }, now := 300000000, chg := { zone := 2, st := .precharge }  }
      : State), by decide +kernel⟩,
    ⟨({ (inMode .idle).puts [(K.CHG_EN, 1), (K.PP_CELLS, 4), (K.PP_VBAT, 15000)] with path := { st := .vin, inService := true, bat := .present, qualifiedAt := some 0  }, now := 300000000, chg := { zone := 2, st := .precharge }  }
      : State), by decide +kernel⟩,
    ⟨({ (inMode .idle).puts [(K.CHG_EN, 1), (K.PP_CELLS, 4), (K.PP_VBAT, 16800)] with path := { st := .vin, inService := true, bat := .present, qualifiedAt := some 0  }, now := 300000000, chg := { zone := 2, st := .fastCv }  }
      : State), by decide +kernel⟩,
    ⟨({ (inMode .idle).puts [(K.CHG_EN, 1), (K.PP_CELLS, 4), (K.PP_VBAT, 15000)] with path := { st := .vin, inService := true, bat := .present, qualifiedAt := some 0  }, now := 300000000, chg := { zone := 2, st := .done }  }
      : State), by decide +kernel⟩,
    ⟨({ (inMode .idle).puts [(K.CHG_EN, 1), (K.PP_CELLS, 4), (K.PP_VBAT, 15000)] with path := { st := .vin, inService := true, bat := .present, qualifiedAt := some 0  }, now := 300000000, chg := { zone := 2, st := .precharge, preTimer := 999999999 }  }
      : State), by decide +kernel⟩,
    ⟨({ (inMode .idle).puts [(K.CHG_EN, 1), (K.PP_CELLS, 4), (K.PP_VBAT, 15000)] with path := { st := .vin, inService := true, bat := .present, qualifiedAt := some 0  }, now := 300000000, chg := { zone := 2, st := .fastCc, safeTimer := 9999999999 }  }
      : State), by decide +kernel⟩⟩

theorem test_ChargerCommands_premises :
    (∃ (acc : Accessor) (s : State), s.Admits acc K.CHG_EN 1) ∧
    (∃ (acc : Accessor) (s : State), s.Admits acc K.CHG_START 1 ∧ s.chargeAllowed = true ∧ (s.chg.st = .waiting ∨ s.chg.st = .fault)) ∧
    (∃ (acc : Accessor) (s : State), s.Admits acc K.CHG_START 1 ∧ s.chargeAllowed = true ∧ (s.chg.st = .waiting ∨ s.chg.st = .fault) ∧
      s.chg.st = .fault) ∧
    (∃ (acc : Accessor) (s : State), s.Admits acc K.CHG_START 1 ∧ s.chargeAllowed = false) ∧
    (∃ (acc : Accessor) (s : State), s.Admits acc K.CHG_WD_KICK 1) ∧
    (∃ (s : State), s.keeperRuns = true ∧ s.hasCharger = true ∧ s.chg.wdFallback = false) ∧
    (∃ (v : Int) (s : State), s.charging = true ∧ s.vOv < v) ∧
    (∃ (v : Int) (s : State), s.hasCharger = true ∧ s.chg.ovStop = true ∧ s.batPresent = true ∧ s.vOv < v ∧ s.chg.st = .suspended) :=
  ⟨
    ⟨.spi,
      ({ (inMode .idle).puts [(K.CHG_EN, 1), (K.PP_CELLS, 4), (K.PP_VBAT, 15000)] with path := { st := .vin, inService := true, bat := .present, qualifiedAt := some 0  }, now := 300000000, chg := { zone := 2, st := .fastCc }  }
      : State), ⟨by decide +kernel, row K.CHG_EN, by decide +kernel, by decide +kernel⟩⟩,
    ⟨.spi,
      ({ (inMode .idle).puts [(K.CHG_EN, 1), (K.PP_CELLS, 4), (K.PP_VBAT, 15000)] with path := { st := .vin, inService := true, bat := .present, qualifiedAt := some 0  }, now := 300000000, chg := { zone := 2, st := .waiting }  }
      : State), ⟨by decide +kernel, row K.CHG_START, by decide +kernel, by decide +kernel⟩, by decide +kernel⟩,
    ⟨.spi,
      ({ (inMode .idle).puts [(K.CHG_EN, 1), (K.PP_CELLS, 4), (K.PP_VBAT, 15000), (K.CHG_FAULT, 3)] with path := { st := .vin, inService := true, bat := .present, qualifiedAt := some 0  }, now := 300000000, chg := { zone := 2, st := .fault }  }
      : State), ⟨by decide +kernel, row K.CHG_START, by decide +kernel, by decide +kernel⟩, by decide +kernel⟩,
    ⟨.spi, inMode .idle, ⟨by decide +kernel, row K.CHG_START, by decide +kernel, by decide +kernel⟩, by decide +kernel⟩,
    ⟨.spi,
      ({ (inMode .idle).puts [(K.CHG_EN, 1), (K.PP_CELLS, 4), (K.PP_VBAT, 15000)] with path := { st := .vin, inService := true, bat := .present, qualifiedAt := some 0  }, now := 300000000, chg := { zone := 2, st := .fastCc, wdFallback := true }  }
      : State), ⟨by decide +kernel, row K.CHG_WD_KICK, by decide +kernel, by decide +kernel⟩⟩,
    ⟨({ (inMode .idle).puts [(K.CHG_EN, 1), (K.PP_CELLS, 4), (K.PP_VBAT, 15000)] with path := { st := .vin, inService := true, bat := .present, qualifiedAt := some 0  }, now := 300000000, chg := { zone := 2, st := .fastCc }  }
      : State), by decide +kernel⟩,
    ⟨99999,
      ({ (inMode .idle).puts [(K.CHG_EN, 1), (K.PP_CELLS, 4), (K.PP_VBAT, 15000)] with path := { st := .vin, inService := true, bat := .present, qualifiedAt := some 0  }, now := 300000000, chg := { zone := 2, st := .fastCc }  }
      : State), by decide +kernel⟩,
    ⟨99999,
      ({ (inMode .idle).puts [(K.CHG_EN, 1), (K.PP_CELLS, 4), (K.PP_VBAT, 15000)] with path := { st := .vin, inService := true, bat := .present, qualifiedAt := some 0  }, now := 300000000, chg := { zone := 2, st := .suspended, ovStop := true }  }
      : State), by decide +kernel⟩⟩

theorem test_VinPath_premises :
    (∃ (s : State), s.path.inService = true ∧ s.activeNotSeal = true ∧ s.path.st = .vin ∧ s.batUsable = true ∧ s.portsOpen = true) ∧
    (∃ (s : State), s.path.inService = true ∧ s.activeNotSeal = true ∧ s.path.st = .vin ∧ s.batUsable = true ∧ s.mir.st = .armed ∧ s.getN
      K.MIR_TRIG_KIND = 5) ∧
    (∃ (s : State), s.path.inService = false) ∧
    (∃ (s : State), s.path.inService = true ∧ s.path.inWindow = false ∧ s.activeNotSeal = true ∧ s.path.st = .battery) ∧
    (∃ (s : State), s.path.inWindow = true ∧ s.activeNotSeal = true ∧ s.path.st = .qualify ∧ s.get K.PP_BOUNCE_COUNT < 4294967294) ∧
    (∃ (s : State), s.path.inWindow = true ∧ s.path.qualified = false ∧ s.activeNotSeal = true ∧ s.path.vinCycle = false ∧ s.path.st =
      .qualify ∧ s.portsOpen = true) ∧
    (∃ (s : State), s.path.inWindow = true ∧ s.path.qualified = false ∧ s.activeNotSeal = true ∧ s.path.vinCycle = false ∧ s.path.st =
      .start) ∧
    (∃ (s : State), s.activeNotSeal = true ∧ s.path.st = .switchback ∧ s.portsOpen = true) :=
  ⟨
    ⟨({ (inMode .run).puts [(K.CHG_EN, 1), (K.PP_CELLS, 4), (K.PP_VBAT, 15000)] with path := { st := .vin, inService := true, bat := .present, qualifiedAt := some 0  }, now := 300000000, chg := { zone := 2,  }  }
      : State), by decide +kernel⟩,
    ⟨(({ ({ (inMode .run).puts [(K.CHG_EN, 1), (K.PP_CELLS, 4), (K.PP_VBAT, 15000)] with path := { st := .vin, inService := true, bat := .present, qualifiedAt := some 0  }, now := 300000000, chg := { zone := 2,  }  } : State) with mir := { st := .armed } }
      : State).put K.MIR_TRIG_KIND 5 : State), by decide +kernel⟩,
    ⟨({ inMode .run with path := { st := .battery } } : State), by decide +kernel⟩,
    ⟨({ inMode .run with path := { st := .battery, inService := true } } : State), by decide +kernel⟩,
    ⟨({ inMode .run with path := { st := .qualify, inService := true, inWindow := true } } : State), by decide +kernel⟩,
    ⟨({ inMode .run with path := { st := .qualify, inService := true, inWindow := true, vinCycle := false } } : State),
      by decide +kernel⟩,
    ⟨({ inMode .boot with path := { st := .start, inService := true, inWindow := true, vinCycle := false } } : State), by decide +kernel⟩,
    ⟨({ inMode .run with path := { st := .switchback, inService := true, inWindow := true } } : State), by decide +kernel⟩⟩

theorem test_SupplyLost_premises :
    (∃ (s : State), s.path.inService = false ∧ s.path.st = .battery ∧ s.keeperRuns = true ∧ s.batUsable = true ∧ s.modes.mode = .run) ∧
    (∃ (s : State), s.path.inService = false ∧ s.path.st = .battery ∧ s.keeperRuns = true ∧ s.batUsable = true ∧ s.modes.mode = .idle ∧
      s.modes.shipArmed = true) ∧
    (∃ (s : State), s.path.inService = false ∧ s.activeNotSeal = true ∧ s.batUsable = false ∧ s.path.st = .noSource) ∧
    (∃ (v : Int) (s : State), s.activeNotSeal = true ∧ v < s.cutoffMv ∧ s.path.st = .battery ∧ s.modes.mode = .ride) ∧
    (∃ (s : State), s.activeNotSeal = true ∧ s.batUsable = false ∧ s.path.st = .battery ∧ s.modes.mode = .ride) :=
  ⟨
    ⟨({ (inMode .run).puts [(K.PP_CELLS, 4), (K.PP_VBAT, 15000)] with path := { st := .battery, bat := .present }, modes := { mode := .run, vinAbsent1ms := false  } }
      : State), by decide +kernel⟩,
    ⟨({ (inMode .idle).puts [(K.PP_CELLS, 4), (K.PP_VBAT, 15000)] with path := { st := .battery, bat := .present }, modes := { mode := .idle, vinAbsent1ms := false , shipArmed := true } }
      : State), by decide +kernel⟩,
    ⟨({ inMode .run with path := { st := .noSource, bat := .missing } } : State), by decide +kernel⟩,
    ⟨100,
      ({ (inMode .ride).puts [(K.PP_CELLS, 4), (K.PP_VBAT, 15000)] with path := { st := .battery, bat := .present }, modes := { mode := .ride, vinAbsent1ms := false , riding := true } }
      : State), by decide +kernel⟩,
    ⟨({ (inMode .ride).puts [(K.PP_CELLS, 4), (K.PP_VBAT, 100)] with path := { st := .battery, bat := .present, vbatKnown := true }, modes := { mode := .ride, vinAbsent1ms := false , riding := true } }
      : State), by decide +kernel⟩⟩

theorem test_BatteryProbeAndRest_premises :
    (∃ (s : State), s.path.inService = true) ∧
    (∃ (s : State), s.keeperRuns = true ∧ s.batfetClosed = true ∧ s.onBattery = false ∧ s.path.probing = false) ∧
    (∃ (rise : Int) (s : State), s.path.probing = true ∧ s.keeperRuns = true ∧ s.batfetClosed = true ∧ s.path.st = .vin ∧ 250 < rise) ∧
    (∃ (rise : Int) (endV : Int) (s : State), s.path.probing = true ∧ s.keeperRuns = true ∧ s.batfetClosed = true ∧ s.path.st = .vin ∧
      rise ≤ 250 ∧ endV < 400 * s.get K.PP_CELLS) ∧
    (∃ (rise : Int) (endV : Int) (s : State), s.path.probing = true ∧ s.keeperRuns = true ∧ s.batfetClosed = true ∧ s.path.st = .vin ∧
      rise ≤ 250 ∧ 400 * s.get K.PP_CELLS ≤ endV ∧ (s.path.bat = .unknown ∨ 1 ≤ s.path.presentRun)) ∧
    (∃ (rise : Int) (endV : Int) (s : State), s.path.probing = true ∧ s.keeperRuns = true ∧ s.batfetClosed = true ∧ s.path.st = .vin ∧
      rise ≤ 250 ∧ 400 * s.get K.PP_CELLS ≤ endV ∧ s.path.bat = .missing ∧ s.path.presentRun = 0) ∧
    (∃ (s : State), s.est.pending = true ∧ s.path.st = .vin ∧ s.restAllowed = true) ∧
    (∃ (s : State), s.path.st = .rest ∧ s.portsOpen = true) :=
  ⟨
    ⟨inMode .run, by decide +kernel⟩,
    ⟨inMode .run, by decide +kernel⟩,
    ⟨251, ({ (inMode .run).put K.PP_CELLS 4 with path := { st := .vin, inService := true, probing := true  } } : State),
      by decide +kernel⟩,
    ⟨250, 1599, ({ (inMode .run).put K.PP_CELLS 4 with path := { st := .vin, inService := true, probing := true  } } : State),
      by decide +kernel⟩,
    ⟨250, 1600, ({ (inMode .run).put K.PP_CELLS 4 with path := { st := .vin, inService := true, probing := true  } } : State),
      by decide +kernel⟩,
    ⟨250, 1600, ({ (inMode .run).put K.PP_CELLS 4 with path := { st := .vin, inService := true, probing := true , bat := .missing } } :
      State), by decide +kernel⟩,
    ⟨({ inMode .run with path := { st := .vin, inService := true, bat := .present }, est := { pending := true } } : State),
      by decide +kernel⟩,
    ⟨({ inMode .run with path := { st := .rest, inService := true, restHold := true } } : State), by decide +kernel⟩⟩

theorem test_PbButton_premises :
    (∃ (s : State), s.portsOpen = true) ∧
    (∃ (s : State), s.modes.mode = .vault ∧ s.modes.vaultLatch = true ∧ s.modes.heldReset = false ∧ s.modes.waking = none) ∧
    (∃ (s : State), s.path.pbPressed = true ∧ s.portsOpen = true ∧ s.modes.heldReset = false ∧ s.modes.fsLatched = false ∧ s.modes.mode ≠
      .failsafe) ∧
    (∃ (s : State), s.path.pbPressed = true ∧ s.modes.mode = .failsafe ∧ s.modes.heldReset = false ∧ s.get K.FS_CAUSE ≠ 5 ∧
      s.path.inService = true) ∧
    (∃ (s : State), s.modes.mode = .ship ∧ s.modes.waking = none) ∧
    (∃ (s : State), s.modes.mode ≠ .ship ∧ s.path.inService = true ∧ s.path.st = .vin) ∧
    (∃ (s : State), s.path.pulseOpen = true) :=
  ⟨
    ⟨inMode .run, by decide +kernel⟩,
    ⟨({ State.reset with modes := { vaultLatch := true } } : State), by decide +kernel⟩,
    ⟨({ inMode .run with path := { st := .vin, inService := true, pbPressed := true } } : State), by decide +kernel⟩,
    ⟨({ inMode .failsafe with path := { st := .vin, inService := true, pbPressed := true } } : State), by decide +kernel⟩,
    ⟨({ State.reset with modes := { mode := .ship, shipLatch := true } } : State), by decide +kernel⟩,
    ⟨inMode .run, by decide +kernel⟩,
    ⟨({ inMode .run with path := { st := .vin, inService := true, pulse := true, pulseOpen := true } } : State), by decide +kernel⟩⟩

theorem test_EstimatorEvents_premises :
    (∃ (s : State), s.portsOpen = true ∧ s.batPresent = true ∧ s.est.start = .none ∧ s.est.swapTick = false ∧ s.est.bidRun < 100 ∧ 120000
      + 60000 * s.est.anchors ≤ s.est.rest) ∧
    (∃ (s : State), s.portsOpen = true ∧ s.batPresent = true ∧ s.est.start = .none ∧ s.est.swapTick = false ∧ s.est.bidRun < 100 ∧ 120000
      + 60000 * s.est.anchors ≤ s.est.rest ∧ 0 < s.est.anchors) ∧
    (∃ (s : State), s.portsOpen = true ∧ s.est.ran = true ∧ s.batPresent = true ∧ s.confidence = 0 ∧ s.est.lowShown = false) ∧
    (∃ (s : State), s.portsOpen = true ∧ s.flag K.EST_FREST_EN = true ∧ s.confidence = 0 ∧ s.est.pending = false ∧ s.est.retryWait =
      false ∧ s.path.st ≠ .rest) ∧
    (∃ (s : State), s.portsOpen = true ∧ s.est.retryWait = true ∧ s.flag K.EST_FREST_EN = true) ∧
    (∃ (s : State), s.portsOpen = true ∧ 100 ≤ s.est.bidRun) :=
  ⟨
    ⟨({ inMode .idle with path := { st := .vin, inService := true, bat := .present }, est := { start := .none, ran := true , rest := 120000 }  }
      : State), by decide +kernel⟩,
    ⟨({ inMode .idle with path := { st := .vin, inService := true, bat := .present }, est := { start := .none, ran := true , rest := 180000, anchors := 1 }  }
      : State), by decide +kernel⟩,
    ⟨({ inMode .idle with path := { st := .vin, inService := true, bat := .present }, est := { start := .none, ran := true  }  } :
      State), by decide +kernel⟩,
    ⟨(({ inMode .idle with path := { st := .vin, inService := true, bat := .present }, est := { start := .none, ran := true  }  }).put
      K.EST_FREST_EN 1 : State), by decide +kernel⟩,
    ⟨(({ inMode .idle with path := { st := .vin, inService := true, bat := .present }, est := { start := .none, ran := true , retryWait := true }  }).put
      K.EST_FREST_EN 1 : State), by decide +kernel⟩,
    ⟨({ inMode .idle with path := { st := .vin, inService := true, bat := .present }, est := { start := .none, ran := true , bidRun := 100 }  }
      : State), by decide +kernel⟩⟩

theorem test_EstimatorWrites_premises :
    (∃ (acc : Accessor) (r : Fin 12) (data : Bytes) (s : State), s.Admits acc (K.EST_IMP_ROW r) data.length ∧ s.learnMode = true) ∧
    (∃ (acc : Accessor) (s : State), s.Admits acc K.EST_LEARN_RESET 1 ∧ s.learnMode = true) ∧
    (∃ (acc : Accessor) (s : State), s.Admits acc K.EST_FREST_ABORT 1 ∧ s.path.st = .rest) ∧
    (∃ (acc : Accessor) (s : State), s.Admits acc K.EST_FREST_ABORT 1 ∧ s.path.st ≠ .rest) ∧
    (∃ (s : State), s.portsOpen = true ∧ s.modes.holdup = false) :=
  ⟨
    ⟨.spi, 3, List.replicate 48 1#8, inMode .idle, ⟨by decide +kernel, row (K.EST_IMP_ROW 3), by decide +kernel, by decide +kernel⟩,
      by decide +kernel⟩,
    ⟨.spi, inMode .idle, ⟨by decide +kernel, row K.EST_LEARN_RESET, by decide +kernel, by decide +kernel⟩, by decide +kernel⟩,
    ⟨.spi, ({ inMode .run with path := { st := .rest, inService := true, restHold := true } } : State), ⟨by decide +kernel, row
      K.EST_FREST_ABORT, by decide +kernel, by decide +kernel⟩, by decide +kernel⟩,
    ⟨.spi, inMode .run, ⟨by decide +kernel, row K.EST_FREST_ABORT, by decide +kernel, by decide +kernel⟩, by decide +kernel⟩,
    ⟨({ inMode .idle with path := { st := .vin, inService := true, bat := .present }, est := { start := .none, ran := true , coreDue := true }  }
      : State), by decide +kernel⟩⟩

theorem test_FlitsInSequence_premises :
    (∃ (n : Fin 8) (x : Sample) (s : State), s.habArmed = false ∧ s.hab.held = none ∧ (s.link n).st = .up ∧ s.takes x.key = true) ∧
    (∃ (n : Fin 8) (s : State), s.habArmed = false ∧ s.hab.held = none ∧ (s.link n).st = .up) ∧
    (∃ (n : Fin 8) (s : State), s.habArmed = false ∧ s.hab.held = none ∧ (s.link n).st = .up ∧ (s.link n).farRun < 7) ∧
    (∃ (n : Fin 8) (s : State), s.habArmed = false ∧ s.hab.held = none ∧ (s.link n).st = .up ∧ s.tileAcks n = true ∧ s.cfg.phase =
      .prepared ∧ s.cfg.tiles.testBit n = true) ∧
    (∃ (n : Fin 8) (x : TrigRec) (xs : List TrigRec) (s : State), s.habArmed = false ∧ s.hab.held = none ∧ (s.link n).st = .up ∧ (s.link
      n).locked = true ∧ s.modes.mode = .seal ∧ s.sup.slot = none ∧ s.sup.triggers = x :: xs ∧ x.awaiting = true ∧ x.trig.tile = n.val ∧
      xs = []) :=
  ⟨
    ⟨2, ⟨K.RAIL_V 3, 500⟩, ({ inMode .run with links := State.reset.links.set 2 { st := .up  }  } : State), by decide +kernel⟩,
    ⟨2, ({ inMode .run with links := State.reset.links.set 2 { st := .up  }  } : State), by decide +kernel⟩,
    ⟨2, ({ inMode .run with links := State.reset.links.set 2 { st := .up , locked := true, err := 85899345920 }  } : State),
      by decide +kernel⟩,
    ⟨2,
      ({ inMode .run with links := State.reset.links.set 2 { st := .up , locked := true } , cfg := { phase := .prepared, tiles := 4, owner := some .host } }
      : State), by decide +kernel⟩,
    ⟨2, ⟨⟨3, .rail, 1, 2⟩, 50, true, true⟩, [],
      ({ inMode .seal with links := State.reset.links.set 2 { st := .up , locked := true } , sup := { awaitingStamp := true, triggers := [⟨⟨3, .rail, 1, 2⟩, 50, true, true⟩], primary := some ⟨3, .rail, 1, 2⟩ } }
      : State), by decide +kernel⟩⟩

theorem test_IsolationNotice_premises :
    (∃ (n : Fin 8) (p : Fin 56) (s : State), s.habArmed = false ∧ s.hab.held = none ∧ (s.link n).st = .up ∧ tileOf p = n ∧ (s.phase p).st
      ≠ .isolated) :=
  
    ⟨2, 9, ({ inMode .run with links := State.reset.links.set 2 { st := .up  } , phases := State.reset.phases.set 9 { st := .active } } :
      State), by decide +kernel⟩

theorem test_LinkCounters_premises :
    (∃ (n : Fin 8) (word : Nat) (s : State), (s.link n).st = .up ∧ (s.link n).failsUp < 3 ∧ s.BadUp n word) ∧
    (∃ (n : Fin 8) (word : Nat) (s : State), flitCrc word = word / 2 ^ 72 % 256 ∧ word % 32 = (s.link n).rxUp) ∧
    (∃ (n : Fin 8) (word : Nat) (s : State), (s.link n).st = .up ∧ (s.link n).waitUp = true ∧ flitCrc word ≠ word / 2 ^ 72 % 256 ∧ word %
      32 ≠ (s.link n).rxUp) ∧
    (∃ (n : Fin 8) (seq : Nat) (s : State), (s.link n).st = .up ∧ s.habArmed = false ∧ seq < 32) ∧
    (∃ (n : Fin 8) (seq : Nat) (s : State), (s.link n).st = .up ∧ s.habArmed = false ∧ seq < 32) ∧
    (∃ (n : Fin 8) (atTile : Bool) (s : State), (s.link n).st = .up ∧ atTile = false) ∧
    (∃ (n : Fin 8) (atTile : Bool) (s : State), (s.link n).st = .up ∧ atTile = true) ∧
    (∃ (n : Fin 8) (s : State), (s.link n).st = .up) ∧
    (∃ (p : Fin 56) (s : State), (s.link (tileOf p)).downLost = true ∧ (s.phase p).declared = .none) :=
  ⟨
    ⟨2, 0, ({ inMode .run with links := State.reset.links.set 2 { st := .up  }  } : State), by decide +kernel⟩,
    ⟨2, flitCrc 0 * 2 ^ 72, ({ inMode .run with links := State.reset.links.set 2 { st := .up  }  } : State), by decide +kernel⟩,
    ⟨2, 0, ({ inMode .run with links := State.reset.links.set 2 { st := .up , waitUp := true, failsUp := 2, rxUp := 5 }  } : State),
      by decide +kernel⟩,
    ⟨2, 3,
      ({ inMode .run with links := State.reset.links.set 2 { st := .up , txUp := { kept := [⟨true, 2, .linkDown⟩, ⟨true, 3, .linkDown⟩] } }  }
      : State), by decide +kernel⟩,
    ⟨2, 3, ({ inMode .run with links := State.reset.links.set 2 { st := .up , nakRun := 2 }  } : State), by decide +kernel⟩,
    ⟨2, false, ({ inMode .run with links := State.reset.links.set 2 { st := .up  }  } : State), by decide +kernel⟩,
    ⟨2, true, ({ inMode .run with links := State.reset.links.set 2 { st := .up  }  } : State), by decide +kernel⟩,
    ⟨2, ({ inMode .run with links := State.reset.links.set 2 { st := .up  } , phases := State.reset.phases.set 9 { st := .active } } :
      State), by decide +kernel⟩,
    ⟨9,
      ({ inMode .run with links := State.reset.links.set 2 { st := .up , downLost := true } , phases := State.reset.phases.set 9 { st := .active, duty := 99 } }
      : State), by decide +kernel⟩⟩

theorem test_LostLinksFence_premises :
    (∃ (n : Fin 8) (s : State), n ≠ 0 ∧ s.tileFitted n = true ∧ (s.tile n).fenced = false ∧ (s.link n).st = .up) ∧
    (∃ (n : Fin 8) (s : State) (word : Nat), n ≠ 0 ∧ s.tileFitted n = true ∧ (s.tile n).fenced = false ∧ (s.link n).st = .up ∧ (s.link
      n).failsUp = 3 ∧ s.BadUp n word) ∧
    (∃ (n : Fin 8) (s : State) (seq : Nat), n ≠ 0 ∧ s.tileFitted n = true ∧ (s.tile n).fenced = false ∧ (s.link n).st = .up ∧ s.habArmed
      = false ∧ seq < 32 ∧ (s.link n).nakRun = 3 ∧ (s.link n).nakSeq = seq) ∧
    (∃ (n : Fin 8) (s : State), n ≠ 0 ∧ s.tileFitted n = true ∧ (s.tile n).fenced = false ∧ (s.link n).st = .up ∧ s.habArmed = false ∧
      s.hab.held = none) ∧
    (∃ (n : Fin 8) (s : State), n ≠ 0 ∧ s.tileFitted n = true ∧ (s.tile n).fenced = false ∧ (s.link n).st = .training) :=
  ⟨
    ⟨2, ({ inMode .run with links := State.reset.links.set 2 { st := .up  }  } : State), by decide +kernel⟩,
    ⟨2, ({ inMode .run with links := State.reset.links.set 2 { st := .up , failsUp := 3 }  } : State), 0, by decide +kernel⟩,
    ⟨2, ({ inMode .run with links := State.reset.links.set 2 { st := .up , nakRun := 3, nakSeq := 3 }  } : State), 3, by decide +kernel⟩,
    ⟨2, ({ inMode .run with links := State.reset.links.set 2 { st := .up  }  } : State), by decide +kernel⟩,
    ⟨2, ({ inMode .boot with links := State.reset.links.set 2 { st := .training } } : State), by decide +kernel⟩⟩

theorem test_LinkTraining_premises :
    (∃ (n : Fin 8) (s : State), s.keeperRuns = true ∧ n ≠ 0 ∧ s.tileFitted n = true ∧ (s.tile n).fenced = false ∧ (s.link n).st = .idle) ∧
    (∃ (n : Fin 8) (k : Fin 7) (s : State), s.keeperRuns = true ∧ n ≠ 0 ∧ s.tileFitted n = true ∧ (s.tile n).fenced = false ∧ (s.link
      n).st = .training ∧ k ≠ 0 ∧ (s.link n).attempts + 1 < s.trainAttempts) ∧
    (∃ (n : Fin 8) (mask : Nat) (s : State), s.keeperRuns = true ∧ n ≠ 0 ∧ s.tileFitted n = true ∧ (s.tile n).fenced = false ∧ (s.link
      n).st = .training ∧ mask.testBit 0 = true) ∧
    (∃ (n : Fin 8) (mask : Nat) (s : State), (s.link n).st = .training ∧ mask.testBit 0 = true) :=
  ⟨
    ⟨2, inMode .boot, by decide +kernel⟩,
    ⟨2, 3, ({ inMode .boot with links := State.reset.links.set 2 { st := .training } } : State), by decide +kernel⟩,
    ⟨2, 1, ({ inMode .boot with links := State.reset.links.set 2 { st := .training } } : State), by decide +kernel⟩,
    ⟨2, 1, ({ inMode .boot with links := State.reset.links.set 2 { st := .training } } : State), by decide +kernel⟩⟩

theorem test_BeaconTime_premises :
    (∃ (s : State), s.keeperRuns = true ∧ s.cfg.fswDue = []) ∧
    (∃ (s : State), s.keeperClocked = true ∧ s.get K.TB_SOURCE = 0) ∧
    (∃ (s : State), s.keeperRuns = true) ∧
    (∃ (acc : Accessor) (n : Fin 8) (d : ObjDef) (s : State), s.portsOpen = true ∧ s.reach acc (K.BEAM_TIME_OFFSET_MAX n) = .ok d ∧
      s.debugAllows acc false (K.BEAM_TIME_OFFSET_MAX n) = true) :=
  ⟨
    ⟨({ inMode .run with now := 999 } : State), by decide +kernel⟩,
    ⟨inMode .run, by decide +kernel⟩,
    ⟨({ inMode .run with links := State.reset.links.set 2 { st := .up } } : State), by decide +kernel⟩,
    ⟨.spi, 2, row (K.BEAM_TIME_OFFSET_MAX 2),
      ({ (inMode .run).put (K.BEAM_TIME_OFFSET_MAX 2) 55 with published := [(K.BEAM_TIME_OFFSET_MAX 2, 44)] } : State),
      by decide +kernel⟩⟩

theorem test_HaboobArmAndDisarm_premises :
    (∃ (acc : Accessor) (d : ObjDef) (s : State), s.portsOpen = true ∧ s.reachWrite acc K.HAB_ARM 1 = .ok d ∧ s.installerUp acc = true ∧
      habTarget (s.getN K.HAB_TARGET) = true ∧ s.habAbsent (s.getN K.HAB_TARGET) = false ∧ s.habAllowed (s.getN K.HAB_TARGET) = true ∧
      s.habArmed = false ∧ s.sec.lifecycle ≠ .sealed) ∧
    (∃ (acc : Accessor) (d : ObjDef) (s : State), s.portsOpen = true ∧ s.reachWrite acc K.HAB_ARM 1 = .ok d ∧ s.installerUp acc = true ∧
      s.habArmed = true) :=
  ⟨
    ⟨.spi, row K.HAB_ARM, (inMode .run).puts [(K.HAB_TARGET, 0x12), (K.HAB_SEED, 5)], by decide +kernel⟩,
    ⟨.spi, row K.HAB_ARM, (inMode .run).puts [(K.HAB_TARGET, 0x12), (K.HAB_STATE, 1)], by decide +kernel⟩⟩

theorem test_SampleIntegratesEnergy_premises :
    (∃ (m : Fin 4) (s : State), s.mpPresent m = true ∧ s.mclkOn (m.val / 2) = true ∧ (s.point m).vStuck = false ∧ (s.point m).iStuck =
      false ∧ s.flag (K.MP_EN m) = true ∧ s.get (K.MP_OVERRANGE_COUNT m) + 2 < 4294967295) :=
  
    ⟨1,
      ({ (inMode .run).puts [(K.MP_EN 1, 1), (K.MP_V_GAIN 1, 1000), (K.MP_I_GAIN 1, 1000)] with met := { points := State.reset.met.points.set 1 { expRes := 7, vSinc := { mid := 100, last := 5, older := -7000000 }, iSinc := { mid := -200, last := 6, older := 8000 } } } }
      : State), by decide +kernel⟩

theorem test_MeterInputs_premises :
    (∃ (m : Fin 4) (s : State), s.mpPresent m = true ∧ s.mclkOn (m.val / 2) = true ∧ (s.point m).vStuck = false) ∧
    (∃ (m : Fin 4) (s : State), s.mpPresent m = true ∧ (s.point m).iStuck = true ∧ s.portsOpen = true) ∧
    (∃ (m : Fin 4) (s : State), s.mpPresent m = true ∧ (s.point m).iStuck = true ∧ s.portsOpen = false) ∧
    (∃ (m : Fin 4) (s : State), ((s.point m).vStuck = true ∨ (s.point m).iStuck = true) ∧ (s.point m).sess = .opened) ∧
    (∃ (s : State), s.keeperRuns = true) ∧
    (∃ (acc : Accessor) (m : Fin 4) (d : ObjDef) (s : State), s.portsOpen = true ∧ s.reach acc (K.MP_OVERRANGE_COUNT m) = .ok d ∧
      s.debugAllows acc false (K.MP_OVERRANGE_COUNT m) = true) :=
  ⟨
    ⟨1, (inMode .run).put (K.MP_EN 1) 1, by decide +kernel⟩,
    ⟨1, ({ inMode .run with met := { points := State.reset.met.points.set 1 { iStuck := true }  }  } : State), by decide +kernel⟩,
    ⟨1, ({ inMode .seal with met := { points := State.reset.met.points.set 1 { iStuck := true }  }  } : State), by decide +kernel⟩,
    ⟨1, ({ inMode .run with met := { points := State.reset.met.points.set 1 { vStuck := true, sess := .opened }  }  } : State),
      by decide +kernel⟩,
    ⟨({ inMode .run with met := { points := State.reset.met.points.set 1 { sess := .opened }  }  } : State), by decide +kernel⟩,
    ⟨.spi, 1, row (K.MP_OVERRANGE_COUNT 1), inMode .run, by decide +kernel⟩⟩

theorem test_SessionCommands_premises :
    (∃ (acc : Accessor) (m : Fin 4) (n : Nat) (s : State), s.Admits acc (K.MP_SESS_CMD m) 1 ∧ s.sessionMode = true ∧ s.nextTag = some n) ∧
    (∃ (acc : Accessor) (m : Fin 4) (n : Nat) (s : State), s.Admits acc (K.MP_SESS_CMD m) 1 ∧ s.sessionMode = true ∧ s.nextTag = some n ∧
      s.openCheck m = none) ∧
    (∃ (acc : Accessor) (m : Fin 4) (n : Nat) (s : State), s.Admits acc (K.MP_SESS_CMD m) 1 ∧ s.sessionMode = true ∧ s.nextTag = some n ∧
      (s.point m).sess = .opened) ∧
    (∃ (acc : Accessor) (m : Fin 4) (n : Nat) (s : State), s.Admits acc (K.MP_SESS_CMD m) 1 ∧ s.sessionMode = true ∧ s.nextTag = some n ∧
      (s.point m).sess = .none) ∧
    (∃ (acc : Accessor) (m : Fin 4) (n : Nat) (s : State), s.Admits acc (K.MP_SESS_CMD m) 1 ∧ s.sessionMode = true ∧ s.nextTag = some n ∧
      (s.point m).sess = .opening ∧ (s.point m).closeTag = none ∧ ((s.point m).sess = .opening ∨ (s.point m).sess = .closing)) ∧
    (∃ (acc : Accessor) (m : Fin 4) (n : Nat) (s : State), s.Admits acc (K.MP_SESS_CMD m) 1 ∧ s.sessionMode = true ∧ s.nextTag = some n ∧
      (s.point m).sess = .closing ∧ (s.point m).closeTag = none) ∧
    (∃ (acc : Accessor) (m : Fin 4) (s : State), s.Admits acc (K.MP_SESS_CMD m) 1 ∧ s.sessionMode = false) :=
  ⟨
    ⟨.spi, 1, 0, inMode .idle, ⟨by decide +kernel, row (K.MP_SESS_CMD 1), by decide +kernel, by decide +kernel⟩, by decide +kernel⟩,
    ⟨.spi, 1, 0,
      ({ (inMode .idle).puts [(K.MP_EN 1, 1), (K.MP_V_GAIN 1, 5), (K.MP_I_GAIN 1, 5)] with oasis := { valid := true }, sec := { key := some [1#8] }, met := { jnl := { timeInvalid := false } } }
      : State), ⟨by decide +kernel, row (K.MP_SESS_CMD 1), by decide +kernel, by decide +kernel⟩, by decide +kernel⟩,
    ⟨.spi, 1, 0, ({ inMode .run with met := { points := State.reset.met.points.set 1 { sess := .opened }  }  } : State),
      ⟨by decide +kernel, row (K.MP_SESS_CMD 1), by decide +kernel, by decide +kernel⟩, by decide +kernel⟩,
    ⟨.spi, 1, 0, inMode .run, ⟨by decide +kernel, row (K.MP_SESS_CMD 1), by decide +kernel, by decide +kernel⟩, by decide +kernel⟩,
    ⟨.spi, 1, 0, ({ inMode .run with met := { points := State.reset.met.points.set 1 { sess := .opening }  }  } : State),
      ⟨by decide +kernel, row (K.MP_SESS_CMD 1), by decide +kernel, by decide +kernel⟩, by decide +kernel⟩,
    ⟨.spi, 1, 0, ({ inMode .run with met := { points := State.reset.met.points.set 1 { sess := .closing }  }  } : State),
      ⟨by decide +kernel, row (K.MP_SESS_CMD 1), by decide +kernel, by decide +kernel⟩, by decide +kernel⟩,
    ⟨.spi, 1, inMode .service, ⟨by decide +kernel, row (K.MP_SESS_CMD 1), by decide +kernel, by decide +kernel⟩, by decide +kernel⟩⟩

theorem test_SessionRecords_premises :
    (∃ (m : Fin 4) (s : State), (s.point m).sess = .opening ∧ s.samplingOn = true ∧ s.met.clockFault = false ∧ s.met.jnl.waiting = [] ∧
      s.met.jnl.signing = none ∧ s.startRoom = true) ∧
    (∃ (m : Fin 4) (s : State), (s.point m).sess = .opening ∧ s.samplingOn = true ∧ s.met.clockFault = false ∧ s.met.jnl.waiting = [] ∧
      s.met.jnl.signing = none ∧ s.startRoom = false ∧ (s.point m).openTag ≠ none ∧ (s.point m).closeTag = none) ∧
    (∃ (m : Fin 4) (s : State), (s.point m).sess = .opening ∧ s.samplingOn = true ∧ s.met.clockFault = false ∧ s.met.jnl.waiting = [] ∧
      s.met.jnl.signing ≠ none) ∧
    (∃ (m : Fin 4) (s : State), (s.point m).sess = .closing ∧ s.samplingOn = true ∧ (s.point m).closeSeen = false ∧ (s.point
      m).endWritten = false ∧ s.met.jnl.signing = none) ∧
    (∃ (m : Fin 4) (s : State), (s.point m).sess = .closing ∧ s.samplingOn = true ∧ (s.point m).closeSeen = false ∧ (s.point
      m).endWritten = false ∧ s.met.jnl.signing ≠ none) ∧
    (∃ (m : Fin 4) (s : State), s.met.jnl.signing = some m ∧ s.portsOpen = true ∧ s.met.jnl.waiting = [] ∧ (s.point m).sess = .closing ∧
      (s.point m).endWritten = true) :=
  ⟨
    ⟨1,
      ({ inMode .run with met := { points := State.reset.met.points.set 1 { sess := .opening, exp := 5, imp := 6, openTag := some 3 }  }  }
      : State), by decide +kernel⟩,
    ⟨1,
      (({ inMode .run with met := { points := State.reset.met.points.set 1 { sess := .opening, exp := 5, imp := 6, openTag := some 3 }  }  }
      : State).put K.JNL_EVENT_RESERVE 99999 : State), by decide +kernel⟩,
    ⟨1,
      ({ inMode .run with met := { points := State.reset.met.points.set 1 { sess := .opening, exp := 5, imp := 6, openTag := some 3 } , jnl := { signing := some 2 } }  }
      : State), by decide +kernel⟩,
    ⟨1,
      ({ inMode .run with met := { points := State.reset.met.points.set 1 { sess := .closing, reason := 1, exp := 7, startExp := 2 }  }  }
      : State), by decide +kernel⟩,
    ⟨1,
      ({ inMode .run with met := { points := State.reset.met.points.set 1 { sess := .closing, reason := 1, exp := 7, startExp := 2 } , jnl := { signing := some 2 } }  }
      : State), by decide +kernel⟩,
    ⟨1,
      ({ inMode .run with met := { points := State.reset.met.points.set 1 { sess := .closing, reason := 1, endWritten := true } , jnl := { next := 4, signing := some 1 } }  }
      : State), by decide +kernel⟩⟩

theorem test_EnergyRegisterCommands_premises :
    (∃ (s : State), s.keeperRuns = true ∧ s.modes.mode ≠ .boot) ∧
    (∃ (acc : Accessor) (s : State), s.Admits acc K.MET_E_CLEAR 1 ∧ s.openLifecycle = true ∧ s.sessionOpen = false) :=
  ⟨
    ⟨({ inMode .run with met := { points := State.reset.met.points.set 1 { exp := 5, expRes := 7 }  }  } : State), by decide +kernel⟩,
    ⟨.spi, ({ inMode .run with met := { points := State.reset.met.points.set 1 { exp := 5, expRes := 7 }  }  } : State),
      ⟨by decide +kernel, row K.MET_E_CLEAR, by decide +kernel, by decide +kernel⟩, by decide +kernel⟩⟩

theorem test_CalibrationWrites_premises :
    (∃ (acc : Accessor) (key : Nat) (data : Bytes) (d : ObjDef) (s : State), s.portsOpen = true ∧ s.reachWrite acc key data.length = .ok
      d ∧ (s.sec.lifecycle = .blank ∨ s.sec.lifecycle = .opened) ∧ s.installerUp acc = true ∧ d.cls = .sealed ∧ s.sealedInRange d key
      (d.value data) = true ∧ (∀ m ∈ affectedPoints key, (s.point m).sess = .none)) ∧
    (∃ (acc : Accessor) (key : Nat) (data : Bytes) (d : ObjDef) (s : State), s.portsOpen = true ∧ s.reachWrite acc key data.length = .ok
      d ∧ s.sec.lifecycle = .sealed ∧ s.roleOf acc ≠ .metrologist) :=
  ⟨
    ⟨.spi, K.MP_V_GAIN 1, [1#8, 2#8, 0#8, 0#8], row (K.MP_V_GAIN 1), inMode .run, by decide +kernel⟩,
    ⟨.spi, K.MP_V_GAIN 1, [1#8, 2#8, 0#8, 0#8], row (K.MP_V_GAIN 1), ({ inMode .run with sec := { lifecycle := .sealed } } : State),
      by decide +kernel⟩⟩

theorem test_JournalAccess_premises :
    (∃ (acc : Accessor) (v : Nat) (s : State), s.Admits acc K.JNL_ACK 8 ∧ s.installerUp acc = true ∧ s.met.jnl.ack ≤ v ∧ v <
      s.met.jnl.next) ∧
    (∃ (acc : Accessor) (v : Nat) (s : State), s.Admits acc K.JNL_ACK 8 ∧ s.installerUp acc = true ∧ (v < s.met.jnl.ack ∨ s.met.jnl.next
      ≤ v)) ∧
    (∃ (acc : Accessor) (d : ObjDef) (q : Nat) (s : State), s.portsOpen = true ∧ s.reach acc K.JNL_READ_REC = .ok d ∧ s.getN
      K.JNL_READ_SEQ = q ∧ s.recordReadable q = true) ∧
    (∃ (acc : Accessor) (d : ObjDef) (q : Nat) (s : State), s.portsOpen = true ∧ s.reach acc K.JNL_READ_BLOCK = .ok d ∧ s.getN
      K.JNL_READ_SEQ = q ∧ s.recordReadable q = true) ∧
    (∃ (acc : Accessor) (s : State), s.Admits acc K.JNL_INIT 1 ∧ s.openLifecycle = true ∧ s.sessionOpen = false) :=
  ⟨
    ⟨.spi, 1, ({ inMode .run with met := { jnl := { next := 5, ack := 1 } } } : State), ⟨by decide +kernel, row K.JNL_ACK,
      by decide +kernel, by decide +kernel⟩, by decide +kernel⟩,
    ⟨.spi, 5, ({ inMode .run with met := { jnl := { next := 5, ack := 1 } } } : State), ⟨by decide +kernel, row K.JNL_ACK,
      by decide +kernel, by decide +kernel⟩, by decide +kernel⟩,
    ⟨.spi, row K.JNL_READ_REC, 1, (inMode .run).put K.JNL_READ_SEQ 1, by decide +kernel⟩,
    ⟨.spi, row K.JNL_READ_BLOCK, 1, ({ (inMode .run).put K.JNL_READ_SEQ 1 with met := { jnl := { next := 30 } } } : State),
      by decide +kernel⟩,
    ⟨.spi, inMode .run, ⟨by decide +kernel, row K.JNL_INIT, by decide +kernel, by decide +kernel⟩, by decide +kernel⟩⟩

theorem test_ProgrammingWindow_premises :
    (∃ (acc : Accessor) (d : ObjDef) (s : State), s.portsOpen = true ∧ s.reachWrite acc K.OTP_WINDOW 1 = .ok d ∧ s.installerUp acc = true
      ∧ s.modes.mode = .service ∧ s.anyRailLive = false ∧ s.modes.holdup = false ∧ s.otp.vqpsOk = true ∧ s.programTemp = true ∧
      s.otp.window = false ∧ s.sec.seedDue = false) ∧
    (∃ (acc : Accessor) (d : ObjDef) (s : State), s.portsOpen = true ∧ s.reachWrite acc K.OTP_WINDOW 1 = .ok d ∧ s.installerUp acc = true
      ∧ s.otp.window = true ∧ s.otp.burn = none ∧ s.sec.transition = none) ∧
    (∃ (s : State), s.otp.window = true ∧ s.otp.burn = none ∧ s.sec.transition = none) ∧
    (∃ (s : State), s.otp.window = true) :=
  ⟨
    ⟨.spi, row K.OTP_WINDOW,
      ({ ({ inMode .service with otp := { vqpsOk := true }  } : State) with therm := { tiles := State.reset.therm.tiles.set 0 { sensors := #v[{ reading := some 2500 }, { reading := some 2500 }, { reading := some 2500 }, {}] } } }
      : State), by decide +kernel⟩,
    ⟨.spi, row K.OTP_WINDOW, ({ inMode .service with otp := { vqpsOk := true, window := true }  } : State), by decide +kernel⟩,
    ⟨({ inMode .service with otp := { vqpsOk := true, window := true }  } : State), by decide +kernel⟩,
    ⟨({ inMode .service with otp := { vqpsOk := true, window := true }  } : State), by decide +kernel⟩⟩

theorem test_RowBurn_premises :
    (∃ (acc : Accessor) (v : Nat) (n : Nat) (d : ObjDef) (s : State), s.portsOpen = true ∧ s.reachWrite acc K.OTP_DATA 8 = .ok d ∧
      s.rowBarred acc s.otp.rowSel[holderPlace (holderOf acc)] = none ∧ s.otp.window = true ∧ completes (s.otpRow
      s.otp.rowSel[holderPlace (holderOf acc)]) (rowValue s.otp.rowSel[holderPlace (holderOf acc)] v) = true ∧ s.otp.burn = none ∧
      s.sec.transition = none ∧ s.nextTag = some n) ∧
    (∃ (acc : Accessor) (n : Nat) (d : ObjDef) (s : State), s.portsOpen = true ∧ s.reachWrite acc K.OTP_REBURN 1 = .ok d ∧ s.installerUp
      acc = true ∧ s.otp.window = true ∧ s.otp.burn = none ∧ s.sec.transition = none ∧ s.nextTag = some n) ∧
    (∃ (rep : BurnReport) (r : Nat) (n : Nat) (v : OtpRow) (s : State), s.otp.burn = some (.row r v) ∧ s.otp.burnTag = some n ∧ n < 128 ∧
      (s.op n).status = .running ∧ (verifyRow s.marginRef.1 4 (readsOf rep r (newBits (s.otpRow r) v).length)).2 = true) :=
  ⟨
    ⟨.spi, 5, 0, row K.OTP_DATA, ({ inMode .service with otp := { window := true, rowSel := State.reset.otp.rowSel.set 0 100 }  } :
      State), by decide +kernel⟩,
    ⟨.spi, 0, row K.OTP_REBURN, ({ inMode .service with otp := { window := true }  } : State), by decide +kernel⟩,
    ⟨{}, 100, 4, ⟨5, 1⟩,
      ({ inMode .service with otp := { window := true, burn := some (.row 100 ⟨5, 1⟩), burnTag := some 4 } , ops := { entries := State.reset.ops.entries.set 4 { status := .running, kind := .otp } } }
      : State), by decide +kernel⟩⟩

theorem test_LifecycleAdvance_premises :
    (∃ (acc : Accessor) (v : Nat) (n : Nat) (l : Lifecycle) (d : ObjDef) (s : State), s.portsOpen = true ∧ s.reachWrite acc K.LC_ADVANCE
      1 = .ok d ∧ s.lcTarget v = some l ∧ l ≠ .returned ∧ ((v = 2 → s.roleOf acc = .vendor)) ∧ ((v ≠ 2 → s.installerUp acc = true)) ∧
      s.otp.window = true ∧ s.sessionOpen = false ∧ s.otp.burn = none ∧ s.sec.transition = none ∧ s.promiseRoom = true ∧ s.nextTag = some
      n ∧ s.lcReady l = true) ∧
    (∃ (n : Nat) (s : State), s.sec.transition = some ⟨.sealed, n⟩ ∧ n < 128 ∧ (s.op n).status = .running ∧ s.otp.burn = none) :=
  ⟨
    ⟨.spi, 3, 0, .sealed, row K.LC_ADVANCE,
      ({ ({ inMode .service with otp := { window := true }  } : State) with caps := { units := 0 }, oasis := { valid := true }, net := { pwHash := some [1#8] } }
      : State), by decide +kernel⟩,
    ⟨4,
      ({ ({ inMode .service with otp := { window := true }  } : State) with sec := { transition := some ⟨.sealed, 4⟩ }, ops := { entries := State.reset.ops.entries.set 4 { status := .running, kind := .lifecycle } }, net := { partners := State.reset.net.partners.set 3 (some { port := 0, node := 9, role := .installer }) } }
      : State), by decide +kernel⟩⟩

theorem test_DebugLevelAndNonces_premises :
    (∃ (acc : Accessor) (d : ObjDef) (s : State), s.portsOpen = true ∧ s.reach acc K.LC_RETURN_NONCE = .ok d ∧ s.debugAllows acc false
      K.LC_RETURN_NONCE = true) ∧
    (∃ (d : ObjDef) (s : State), s.portsOpen = true ∧ s.reach .debug K.DBG_CHALLENGE = .ok d) ∧
    (∃ (data : Bytes) (d : ObjDef) (s : State), s.portsOpen = true ∧ s.reach .debug K.DBG_PROOF = .ok d ∧ (data.length = 32 ∨ data.length
      = 100)) ∧
    (∃ (l : DbgLevel) (d : ObjDef) (s : State), s.portsOpen = true ∧ s.reach .debug K.DBG_LEVEL_REQ = .ok d ∧ (l.code ≤ s.sec.level.code
      ∨ s.levelProof l = some none)) ∧
    (∃ (acc : Accessor) (d : ObjDef) (s : State), s.portsOpen = true ∧ s.reach acc K.DBG_LEVEL_REQ = .ok d ∧ acc ≠ .debug) :=
  ⟨
    ⟨.spi, row K.LC_RETURN_NONCE, inMode .run, by decide +kernel⟩,
    ⟨row K.DBG_CHALLENGE, inMode .run, by decide +kernel⟩,
    ⟨List.replicate 32 1#8, row K.DBG_PROOF, inMode .run, by decide +kernel⟩,
    ⟨.control, row K.DBG_LEVEL_REQ, inMode .run, by decide +kernel⟩,
    ⟨.spi, row K.DBG_LEVEL_REQ, inMode .run, by decide +kernel⟩⟩

theorem test_DebugCommands_premises :
    (∃ (acc : Accessor) (d : ObjDef) (s : State), s.portsOpen = true ∧ s.reachWrite acc K.DBG_HALT 1 = .ok d ∧ (s.sec.lifecycle = .blank
      ∨ s.sec.lifecycle = .returned) ∧ s.sec.level = .vendor ∧ s.modes.mode = .service ∧ s.anyRailLive = false) ∧
    (∃ (acc : Accessor) (d : ObjDef) (s : State), s.portsOpen = true ∧ s.reachWrite acc K.DBG_HALT 1 = .ok d) ∧
    (∃ (s : State), s.sec.lifecycle = .returned ∧ s.sec.level = .vendor ∧ s.anyRailLive = false ∧ s.modes.mode = .service) ∧
    (∃ (s : State), s.sec.lifecycle ≠ .returned ∧ s.portsOpen = true ∧ s.keeperRuns = true ∧ s.sec.testIgnored = false) ∧
    (∃ (acc : Accessor) (d : ObjDef) (s : State), s.portsOpen = true ∧ s.reachWrite acc K.MRAM_PW_RESET 1 = .ok d ∧ s.installerUp acc =
      true ∧ s.modes.mode = .service ∧ s.modes.holdup = false ∧ (∀ c, (s.channel c).st ≠ .running)) :=
  ⟨
    ⟨.debug, row K.DBG_HALT, ({ inMode .service with sec := { lifecycle := .returned, level := .vendor } } : State), by decide +kernel⟩,
    ⟨.debug, row K.DBG_HALT, ({ inMode .service with sec := { lifecycle := .returned, level := .vendor, halted := true } } : State),
      by decide +kernel⟩,
    ⟨({ inMode .service with sec := { lifecycle := .returned, level := .vendor } } : State), by decide +kernel⟩,
    ⟨inMode .run, by decide +kernel⟩,
    ⟨.spi, row K.MRAM_PW_RESET,
      ({ inMode .service with mram := [(0x19D000, 5#8)], nvm := { pws := State.reset.nvm.pws.set 1 { fails := 3 } } } : State),
      by decide +kernel⟩⟩

theorem test_RealTimeClock_premises :
    (∃ (s : State), s.oasis.supply ≠ .lost ∧ s.oasis.saturated = false ∧ s.getN K.RTC_ALARM = 0 ∧ s.oasis.seconds < maxSeconds ∧
      s.portsOpen = true) ∧
    (∃ (s : State), s.oasis.supply ≠ .lost ∧ s.oasis.saturated = false ∧ s.getN K.RTC_ALARM = 0 ∧ maxSeconds ≤ s.oasis.seconds) ∧
    (∃ (acc : Accessor) (v : Nat) (s : State), s.Admits acc K.RTC_SET_SECONDS 8 ∧ v ≤ maxSeconds ∧ s.eventRoom = true ∧ s.getN
      K.RTC_ALARM = 0 ∧ s.hasMetering = true ∧ s.met.jnl.signing = none) ∧
    (∃ (acc : Accessor) (v : Nat) (s : State), s.Admits acc K.RTC_SET_SECONDS 8 ∧ maxSeconds < v) ∧
    (∃ (acc : Accessor) (v : Nat) (s : State) (sec : Nat), s.Admits acc K.CAL_SET 8 ∧ calendarSeconds v = .ok sec ∧ s.eventRoom = true ∧
      s.getN K.RTC_ALARM = 0) ∧
    (∃ (acc : Accessor) (v : Nat) (s : State) (why : Nat), s.Admits acc K.CAL_SET 8 ∧ calendarSeconds v = .error why) ∧
    (∃ (acc : Accessor) (v : Int) (s : State), s.Admits acc K.RTC_ADJUST 4 ∧ -117964800 ≤ v ∧ v ≤ 117964800 ∧ s.oasis.valid = true ∧ 0 ≤
      (s.rtcNow : Int) + v ∧ (s.rtcNow : Int) + v ≤ maxSeconds * 32768 + 0x7FFF ∧ s.eventRoom = true ∧ s.getN K.RTC_ALARM = 0) ∧
    (∃ (acc : Accessor) (v : Int) (s : State), s.Admits acc K.RTC_ADJUST 4 ∧ -117964800 ≤ v ∧ v ≤ 117964800 ∧ s.oasis.valid = false) ∧
    (∃ (acc : Accessor) (v : Nat) (s : State), s.Admits acc K.RTC_ALARM 8 ∧ s.oasis.seconds < v) ∧
    (∃ (acc : Accessor) (v : Nat) (s : State), s.Admits acc K.RTC_ALARM 8 ∧ 0 < v ∧ v ≤ s.oasis.seconds ∧ s.getN K.RTC_ALARM_PERIOD = 0) ∧
    (∃ (s : State), s.keeperRuns = true ∧ s.oasis.oscRc = false ∧ s.portsOpen = true) :=
  ⟨
    ⟨({ inMode .run with oasis := { valid := true, seconds := 5, frac := 9 } } : State), by decide +kernel⟩,
    ⟨({ inMode .run with oasis := { seconds := maxSeconds } } : State), by decide +kernel⟩,
    ⟨.spi, maxSeconds, inMode .run, ⟨by decide +kernel, row K.RTC_SET_SECONDS, by decide +kernel, by decide +kernel⟩, by decide +kernel⟩,
    ⟨.spi, maxSeconds + 1, inMode .run, ⟨by decide +kernel, row K.RTC_SET_SECONDS, by decide +kernel, by decide +kernel⟩,
      by decide +kernel⟩,
    ⟨.spi, 2024 + 2 * 2 ^ 16 + 29 * 2 ^ 24 + 23 * 2 ^ 32 + 59 * 2 ^ 40 + 59 * 2 ^ 48, inMode .run, 762566399, ⟨by decide +kernel, row
      K.CAL_SET, by decide +kernel, by decide +kernel⟩, by decide +kernel⟩,
    ⟨.spi, 1999, inMode .run, 1, ⟨by decide +kernel, row K.CAL_SET, by decide +kernel, by decide +kernel⟩, by decide +kernel⟩,
    ⟨.spi, -117964800, ({ inMode .run with oasis := { valid := true, seconds := 100000 } } : State), ⟨by decide +kernel, row
      K.RTC_ADJUST, by decide +kernel, by decide +kernel⟩, by decide +kernel⟩,
    ⟨.spi, 5, inMode .run, ⟨by decide +kernel, row K.RTC_ADJUST, by decide +kernel, by decide +kernel⟩, by decide +kernel⟩,
    ⟨.spi, 101, ({ inMode .run with oasis := { valid := true, seconds := 100 } } : State), ⟨by decide +kernel, row K.RTC_ALARM,
      by decide +kernel, by decide +kernel⟩, by decide +kernel⟩,
    ⟨.spi, 100, ({ inMode .run with oasis := { valid := true, seconds := 100 } } : State), ⟨by decide +kernel, row K.RTC_ALARM,
      by decide +kernel, by decide +kernel⟩, by decide +kernel⟩,
    ⟨({ inMode .run with oasis := { valid := true, seconds := 100 } } : State), by decide +kernel⟩⟩

theorem test_OasisSupplyAndInputs_premises :
    (∃ (vbk : Nat) (vcell : Nat) (s : State), s.oasis.supply = .cell ∧ 2200 ≤ vbk ∧ vcell + 50 ≤ vbk ∧ s.portsOpen = true) ∧
    (∃ (vbk : Nat) (s : State), s.oasis.supply = .vbk ∧ vbk < 2150 ∧ s.portsOpen = true) ∧
    (∃ (vbk : Nat) (vcell : Nat) (voas : Nat) (s : State), s.oasis.supply = .cell ∧ vcell + 100 < voas ∧ vbk ≤ vcell) ∧
    (∃ (voas : Nat) (s : State), s.oasis.supply = .lost ∧ 1750 < voas) ∧
    (∃ (s : State), s.oasis.supply ≠ .lost ∧ s.portsOpen = true ∧ s.get K.TAMPER_COUNT < 65534 ∧ s.oasis.tamperLatched = false ∧ bitOf
      (s.get K.TAMPER_CFG) 4 = true) ∧
    (∃ (s : State), s.oasis.supply ≠ .lost ∧ s.portsOpen = true ∧ s.get K.TAMPER_COUNT < 65534 ∧ s.oasis.tamperLatched = true) ∧
    (∃ (acc : Accessor) (s : State), s.Admits acc K.TAMPER_CLEAR 1) ∧
    (∃ (s : State), s.keeperRuns = true ∧ s.portsOpen = true) ∧
    (∃ (s : State), s.keeperRuns = true ∧ s.portsOpen = true ∧ s.oasis.cellLow = false ∧ s.get K.OASIS_VCELL < s.get K.OASIS_CELL_LOW) :=
  ⟨
    ⟨2200, 2150, inMode .run, by decide +kernel⟩,
    ⟨2149, ({ inMode .run with oasis := { supply := .vbk, vbkEligible := true } } : State), by decide +kernel⟩,
    ⟨1000, 1000, 1101, inMode .run, by decide +kernel⟩,
    ⟨1751, ({ inMode .run with oasis := { supply := .lost } } : State), by decide +kernel⟩,
    ⟨(inMode .run).puts [(K.TAMPER_CFG, 16), (K.OASIS_RETAIN, 5)], by decide +kernel⟩,
    ⟨({ inMode .run with oasis := { tamperLatched := true } } : State), by decide +kernel⟩,
    ⟨.spi, ({ inMode .run with oasis := { tamperLatched := true } } : State), ⟨by decide +kernel, row K.TAMPER_CLEAR, by decide +kernel,
      by decide +kernel⟩⟩,
    ⟨inMode .run, by decide +kernel⟩,
    ⟨(inMode .run).puts [(K.OASIS_CELL_LOW, 2500), (K.OASIS_VCELL, 2400)], by decide +kernel⟩⟩

theorem test_CommitOfTheStagingSet_premises :
    (∃ (acc : Accessor) (n : Nat) (s : State), s.Admits acc K.CFG_COMMIT 1 ∧ s.cfg.phase = .idle ∧ (s.cfg.owner = none ∨ s.cfg.owner =
      some (s.issuerOf acc)) ∧ s.nextTag = some n ∧ s.cfg.staged = []) ∧
    (∃ (acc : Accessor) (n : Nat) (s : State), s.Admits acc K.CFG_COMMIT 1 ∧ s.cfg.phase = .idle ∧ (s.cfg.owner = none ∨ s.cfg.owner =
      some (s.issuerOf acc)) ∧ s.nextTag = some n ∧ s.cfg.staged ≠ []) ∧
    (∃ (acc : Accessor) (s : State), s.Admits acc K.CFG_COMMIT 1 ∧ s.cfg.phase = .idle ∧ (s.cfg.owner = none ∨ s.cfg.owner = some
      (s.issuerOf acc))) ∧
    (∃ (s : State), s.cfg.phase = .idle ∧ s.cfg.owner ≠ none) ∧
    (∃ (s : State), s.cfg.phase = .checking ∧ s.checkCommit = none) ∧
    (∃ (s : State) (why : Abort) (key : Nat) (n : Nat), s.cfg.phase = .checking ∧ s.checkCommit.map (fun x => (x.1.code, x.2)) = some
      (why, key) ∧ s.cfg.tag = some n ∧ n < 128 ∧ (s.op n).status = .running) ∧
    (∃ (n : Nat) (s : State), s.cfg.phase = .prepared ∧ s.missingTiles ≠ 0 ∧ s.cfg.tag = some n ∧ n < 128 ∧ (s.op n).status = .running) ∧
    (∃ (s : State), s.cfg.phase = .prepared ∧ s.missingTiles = 0) ∧
    (∃ (s : State), s.cfg.phase = .stage1) ∧
    (∃ (s : State) (n : Nat), s.cfg.phase = .stage2 ∧ s.cfg.tag = some n ∧ n < 128 ∧ (s.op n).status = .running) :=
  ⟨
    ⟨.spi, 0, inMode .idle, ⟨by decide +kernel, row K.CFG_COMMIT, by decide +kernel, by decide +kernel⟩, by decide +kernel⟩,
    ⟨.spi, 0, ({ inMode .idle with cfg := { owner := some .host, staged := [(K.PH_ILIM_AVG 5, 9000)] }  } : State), ⟨by decide +kernel,
      row K.CFG_COMMIT, by decide +kernel, by decide +kernel⟩, by decide +kernel⟩,
    ⟨.spi, ({ inMode .idle with cfg := { owner := some .host, staged := [(K.PH_ILIM_AVG 5, 9000)] }  } : State), ⟨by decide +kernel, row
      K.CFG_COMMIT, by decide +kernel, by decide +kernel⟩, by decide +kernel⟩,
    ⟨({ inMode .idle with cfg := { owner := some .host, staged := [(K.PH_ILIM_AVG 5, 9000)] }  } : State), by decide +kernel⟩,
    ⟨({ inMode .idle with cfg := { owner := some .host, staged := [(K.PH_ILIM_AVG 5, 9000)], phase := .checking, tag := some 4 } , ops := { entries := State.reset.ops.entries.set 4 { status := .running, kind := .commit } } }
      : State), by decide +kernel⟩,
    ⟨({ inMode .idle with cfg := { owner := some .host, staged := [(K.PP_VIN_MIN, 60000)], phase := .checking, tag := some 4 } , ops := { entries := State.reset.ops.entries.set 4 { status := .running, kind := .commit } } }
      : State), .outOfRange, K.PP_VIN_MIN, 4, by decide +kernel⟩,
    ⟨4,
      ({ inMode .idle with cfg := { owner := some .host, staged := [(K.PH_ILIM_AVG 5, 9000)], phase := .prepared, tag := some 4, tiles := 2 } , ops := { entries := State.reset.ops.entries.set 4 { status := .running, kind := .commit } } }
      : State), by decide +kernel⟩,
    ⟨({ inMode .idle with cfg := { owner := some .host, staged := [(K.PH_ILIM_AVG 5, 9000)], phase := .prepared, tag := some 4 } , ops := { entries := State.reset.ops.entries.set 4 { status := .running, kind := .commit } } }
      : State), by decide +kernel⟩,
    ⟨({ inMode .idle with cfg := { owner := some .host, staged := [(K.PH_ILIM_AVG 5, 9000)], phase := .stage1, tag := some 4 } , ops := { entries := State.reset.ops.entries.set 4 { status := .running, kind := .commit } } }
      : State), by decide +kernel⟩,
    ⟨({ inMode .idle with cfg := { owner := some .host, staged := [(K.PH_ILIM_AVG 5, 9000)], phase := .stage2, tag := some 4 } , ops := { entries := State.reset.ops.entries.set 4 { status := .running, kind := .commit } } }
      : State), 4, by decide +kernel⟩⟩

theorem test_ImageSlots_premises :
    (∃ (acc : Accessor) (n : Nat) (s : State), s.Admits acc K.CFG_SAVE 1 ∧ s.modes.holdup = false ∧ s.cfg.phase = .idle ∧ s.cfg.saving =
      none ∧ s.nextTag = some n) ∧
    (∃ (slot : Nat) (n : Nat) (img : Bytes) (s : State), s.cfg.saving = some (slot, img) ∧ slot < 2 ∧ img.length ≤ 32768 ∧ s.saveTag =
      some n) ∧
    (∃ (acc : Accessor) (s : State), s.Admits acc K.CFG_ERASE 1 ∧ (s.idleCond = true ∨ s.modes.mode = .failsafe ∨ s.modes.mode =
      .service) ∧ s.modes.holdup = false) ∧
    (∃ (acc : Accessor) (data : Bytes) (d : ObjDef) (s : State), s.portsOpen = true ∧ s.reachAs true acc K.CFG_IMAGE_WRITE = .ok d ∧
      imageSound data = false) ∧
    (∃ (acc : Accessor) (data : Bytes) (d : ObjDef) (s : State), s.portsOpen = true ∧ s.reachAs true acc K.CFG_IMAGE_WRITE = .ok d ∧
      imageSound data = true ∧ entryBytes (imageList data) = (data.take (data.length - 4)).drop 32 ∧ s.reachWrite acc K.CFG_IMAGE_WRITE
      data.length = .ok d ∧ s.roleOk acc d = true ∧ s.modes.holdup = false ∧ s.cfg.saving = none ∧ (imageList data).all (fun e =>
      (Dict.find e.1).any fun d => d.layered) = true) ∧
    (∃ (slot : Nat) (img : Bytes) (s : State), s.cfg.saving = some (slot, img) ∧ slot < 2 ∧ img.length ≤ 32768 ∧ s.saveTag = none) :=
  ⟨
    ⟨.spi, 0, ({ inMode .idle with mram := [(0x18A000, 5#8)] } : State), ⟨by decide +kernel, row K.CFG_SAVE, by decide +kernel,
      by decide +kernel⟩, by decide +kernel⟩,
    ⟨1, 4, [1#8, 0#8, 3#8],
      ({ inMode .idle with cfg := { saving := some (1, [1#8, 0#8, 3#8]) } , ops := { entries := State.reset.ops.entries.set 4 { status := .running, kind := .cfgSave } } }
      : State), by decide +kernel⟩,
    ⟨.spi, ({ inMode .idle with mram := [(0x18A000, 5#8), (0x192000, 5#8), (0x192003, 5#8)] } : State), ⟨by decide +kernel, row
      K.CFG_ERASE, by decide +kernel, by decide +kernel⟩, by decide +kernel⟩,
    ⟨.spi, List.replicate 36 0#8, row K.CFG_IMAGE_WRITE, inMode .idle, by decide +kernel⟩,
    ⟨.spi, emptyImage, row K.CFG_IMAGE_WRITE, inMode .idle, by decide +kernel⟩,
    ⟨1, [1#8, 0#8, 3#8], ({ inMode .idle with cfg := { saving := some (1, [1#8, 0#8, 3#8]), bootPending := [(K.PP_CELLS, 4)] }  } :
      State), by decide +kernel⟩⟩

theorem test_PartnersJoinAndLeave_premises :
    (∃ (f : Frame) (s : State), s.Delivers f ∧ f.body.length = 16 ∧ commonVersion (f.at_ 8 1) = 0) ∧
    (∃ (f : Frame) (s : State) (i : Fin 64), s.Delivers f ∧ f.body.length = 16 ∧ commonVersion (f.at_ 8 1) ≠ 0 ∧ s.partnerAt f.port f.src
      = none ∧ ((List.finRange 64).find? fun j => (s.partner j).isNone) = some i) ∧
    (∃ (f : Frame) (i : Fin 64) (p : Partner) (s : State), s.Delivers f ∧ s.partnerAt f.port f.src = some i ∧ s.partner i = some p ∧
      f.body.length = 4 ∧ p.block = none) ∧
    (∃ (f : Frame) (i : Fin 64) (p : Partner) (s : State), s.Delivers f ∧ s.partnerAt f.port f.src = some i ∧ s.partner i = some p ∧
      f.body.length = 8 ∧ s.get (K.NET_A_COUNTS 1) < 4294967294 ∧ s.get (K.NET_B_COUNTS 1) < 4294967294) ∧
    (∃ (i : Fin 64) (p : Partner) (s : State), s.portsOpen = true ∧ s.partner i = some p ∧ p.block = none) ∧
    (∃ (acc : Accessor) (i : Fin 64) (p : Partner) (s : State), s.Admits acc K.NET_EVICT 1 ∧ s.partner i = some p ∧ p.block = none) :=
  ⟨
    ⟨from9 3 (List.replicate 8 7#8 ++ [4#8] ++ List.replicate 7 0#8), ({ (inMode .run).puts [(K.NET_NODE_ID, 0x45)] with freeIdx := 0 } :
      State), ⟨by decide +kernel, by decide +kernel, by decide +kernel⟩, by decide +kernel⟩,
    ⟨from9 3 (List.replicate 8 7#8 ++ [3#8] ++ List.replicate 7 0#8), ({ (inMode .run).puts [(K.NET_NODE_ID, 0x45)] with freeIdx := 0 } :
      State), 0, ⟨by decide +kernel, by decide +kernel, by decide +kernel⟩, by decide +kernel⟩,
    ⟨from9 3 (List.replicate 4 0#8), 0, partner9, withPartner partner9, ⟨by decide +kernel, by decide +kernel, by decide +kernel⟩,
      by decide +kernel⟩,
    ⟨from9 3 (List.replicate 8 0#8), 0, partner9, withPartner partner9, ⟨by decide +kernel, by decide +kernel, by decide +kernel⟩,
      by decide +kernel⟩,
    ⟨0, partner9, withPartner partner9, by decide +kernel⟩,
    ⟨.spi, 0, partner9, withPartner partner9, ⟨by decide +kernel, row K.NET_EVICT, by decide +kernel, by decide +kernel⟩,
      by decide +kernel⟩⟩

theorem test_RequestsOfPartners_premises :
    (∃ (f : Frame) (i : Fin 64) (p : Partner) (d : ObjDef) (s : State) (r : Fin 32), s.Delivers f ∧ s.partnerAt f.port f.src = some i ∧
      s.partner i = some p ∧ p.stored = [] ∧ f.body.length = 4 ∧ f.key = K.RAIL_VSET r ∧ s.reach (.partner i) f.key = .ok d) ∧
    (∃ (f : Frame) (i : Fin 64) (p : Partner) (d : ObjDef) (s : State) (v : Int), s.Delivers f ∧ s.partnerAt f.port f.src = some i ∧
      s.partner i = some p ∧ p.stored = [] ∧ 10 ≤ f.body.length ∧ f.body.length ≤ 60 ∧ f.key = K.PP_TVINQ ∧ f.at_ 3 1 = 2 ∧ s.reach
      (.partner i) f.key = .ok d ∧ s.roleOk (.partner i) d = true ∧ d.value ((f.body.drop 8).take 2) = v ∧ 10 ≤ v ∧ v ≤ 10000) ∧
    (∃ (f : Frame) (i : Fin 64) (p : Partner) (s : State) (b : BlockXfer), s.Delivers f ∧ s.partnerAt f.port f.src = some i ∧ s.partner i
      = some p ∧ p.stored = [] ∧ f.body.length = 8 ∧ p.block = some b) ∧
    (∃ (f : Frame) (i : Fin 64) (p : Partner) (s : State), s.Delivers f ∧ s.partnerAt f.port f.src = some i ∧ s.partner i = some p ∧
      p.stored = [] ∧ f.body.length = 4 ∧ p.version = 2) ∧
    (∃ (i : Fin 64) (p : Partner) (e : EventRec) (s : State), s.partner i = some p ∧ p.queue = [e] ∧ e.sent ≠ 0 ∧ s.habArmed = false ∧
      s.net.heldTx = none ∧ s.portUp p.port = true ∧ e.sent < 4) ∧
    (∃ (i : Fin 64) (p : Partner) (e : EventRec) (s : State), s.partner i = some p ∧ p.queue = [e] ∧ e.sent ≠ 0 ∧ s.habArmed = false ∧
      s.net.heldTx = none ∧ s.portUp p.port = true ∧ 4 ≤ e.sent) :=
  ⟨
    ⟨from9 3 (toLE 2 (K.RAIL_VSET 2 / 256) ++ toLE 1 (K.RAIL_VSET 2 % 256) ++ [0#8]), 0, partner9, row (K.RAIL_VSET 2), withPartner
      partner9, 2, ⟨by decide +kernel, by decide +kernel, by decide +kernel⟩, by decide +kernel⟩,
    ⟨from9 3 (toLE 2 (K.PP_TVINQ / 256) ++ toLE 1 (K.PP_TVINQ % 256) ++ [2#8, 0#8, 0#8, 0#8, 0#8, 10#8, 0#8]), 0,
      { partner9 with role := .installer }, row K.PP_TVINQ, (withPartner ({ partner9 with role := .installer }) : State), 10,
      ⟨by decide +kernel, by decide +kernel, by decide +kernel⟩, by decide +kernel⟩,
    ⟨from9 3 (List.replicate 8 0#8), 0,
      { partner9 with block := some { write := true, key := K.CFG_IMAGE_WRITE, total := 112, xid := 3, channel := 1 } },
      ({ withPartner ({ partner9 with block := some { write := true, key := K.CFG_IMAGE_WRITE, total := 112, xid := 3, channel := 1 } }) with dma := State.reset.dma.set 1 { st := .running } }
      : State), { write := true, key := K.CFG_IMAGE_WRITE, total := 112, xid := 3, channel := 1 }, ⟨by decide +kernel, by decide +kernel,
      by decide +kernel⟩, by decide +kernel⟩,
    ⟨from9 3 (1#8 :: List.replicate 3 0#8), 0, { partner9 with queue := [⟨3, 1, 1, 1, 1⟩] }, (withPartner
      ({ partner9 with queue := [⟨3, 1, 1, 1, 1⟩] }) : State), ⟨by decide +kernel, by decide +kernel, by decide +kernel⟩,
      by decide +kernel⟩,
    ⟨0, { partner9 with queue := [⟨3, 1, 1, 1, 1⟩] }, ⟨3, 1, 1, 1, 1⟩, (withPartner ({ partner9 with queue := [⟨3, 1, 1, 1, 1⟩] }) :
      State), by decide +kernel⟩,
    ⟨0, { partner9 with queue := [⟨3, 1, 1, 1, 4⟩] }, ⟨3, 1, 1, 1, 4⟩, (withPartner ({ partner9 with queue := [⟨3, 1, 1, 1, 4⟩] }) :
      State), by decide +kernel⟩⟩

theorem test_BlockTransfers_premises :
    (∃ (f : Frame) (i : Fin 64) (p : Partner) (s : State) (c : Fin 8), s.Delivers f ∧ s.partnerAt f.port f.src = some i ∧ s.partner i =
      some p ∧ f.body.length = 8 ∧ f.at_ 3 1 = 1 ∧ s.blockWriteCheck i f.key (f.at_ 4 4) = .ok () ∧ s.freeChannel = some c ∧ p.block =
      none) ∧
    (∃ (f : Frame) (i : Fin 64) (p : Partner) (s : State) (b : BlockXfer), s.Delivers f ∧ s.partnerAt f.port f.src = some i ∧ s.partner i
      = some p ∧ 4 ≤ f.body.length ∧ f.body.length ≤ 60 ∧ p.block = some b ∧ b.write = true ∧ b.lost = none ∧ f.at_ 0 1 = b.next % 256 ∧
      f.at_ 1 1 = 56 ∧ f.body.length = 60 ∧ b.data.length + 56 ≤ b.total) ∧
    (∃ (f : Frame) (i : Fin 64) (p : Partner) (s : State) (b : BlockXfer), s.Delivers f ∧ s.partnerAt f.port f.src = some i ∧ s.partner i
      = some p ∧ f.body.length = 4 ∧ p.block = some b ∧ b.write = false ∧ b.lost = none ∧ f.at_ 1 1 = 3) ∧
    (∃ (f : Frame) (i : Fin 64) (p : Partner) (s : State) (b : BlockXfer), s.Delivers f ∧ s.partnerAt f.port f.src = some i ∧ s.partner i
      = some p ∧ f.body.length = 8 ∧ p.block = some b ∧ b.write = true ∧ b.lost = none ∧ (f.at_ 0 4 ≠ b.data.length ∨ b.data.length ≠
      b.total ∨ f.at_ 4 4 ≠ crc32 b.data)) ∧
    (∃ (f : Frame) (i : Fin 64) (p : Partner) (s : State) (b : BlockXfer) (d : ObjDef) (v : Int), s.Delivers f ∧ s.partnerAt f.port f.src
      = some i ∧ s.partner i = some p ∧ f.body.length = 8 ∧ p.block = some b ∧ b.write = true ∧ b.lost = none ∧ b.key = K.PP_TVINQ ∧
      f.at_ 0 4 = b.data.length ∧ b.data.length = b.total ∧ f.at_ 4 4 = crc32 b.data ∧ s.reachWrite (.partner i) b.key b.data.length =
      .ok d ∧ s.roleOk (.partner i) d = true ∧ d.value b.data = v ∧ 10 ≤ v ∧ v ≤ 10000) ∧
    (∃ (f : Frame) (i : Fin 64) (p : Partner) (s : State) (b : BlockXfer) (d : ObjDef) (v : Int), s.Delivers f ∧ s.partnerAt f.port f.src
      = some i ∧ s.partner i = some p ∧ f.body.length = 8 ∧ p.block = some b ∧ b.write = true ∧ b.lost = none ∧ b.key = K.PP_TVINQ ∧
      f.at_ 0 4 = b.data.length ∧ b.data.length = b.total ∧ f.at_ 4 4 = crc32 b.data ∧ s.reachWrite (.partner i) b.key b.data.length =
      .ok d ∧ s.roleOk (.partner i) d = true ∧ d.value b.data = v ∧ (v < 10 ∨ 10000 < v)) ∧
    (∃ (i : Fin 64) (p : Partner) (b : BlockXfer) (s : State), s.partner i = some p ∧ p.block = some b ∧ s.habArmed = false ∧
      s.net.heldTx = none ∧ s.portUp p.port = true ∧ b.lost = none ∧ (s.channel b.channel).st = .running ∧ s.portsOpen = true) ∧
    (∃ (c : Fin 8) (s : State), 6 ≤ c.val ∧ (s.channel c).st = .running ∧ s.portsOpen = true) :=
  ⟨
    ⟨from9 3 (toLE 2 (K.CFG_IMAGE_WRITE / 256) ++ toLE 1 (K.CFG_IMAGE_WRITE % 256) ++ [1#8] ++ toLE 4 36), 0,
      { partner9 with role := .installer }, (withPartner ({ partner9 with role := .installer }) : State), 0, ⟨by decide +kernel,
      by decide +kernel, by decide +kernel⟩, by decide +kernel⟩,
    ⟨from9 3 ([0#8, 56#8, 0#8, 0#8] ++ List.replicate 56 5#8), 0,
      { partner9 with block := some { write := true, key := K.CFG_IMAGE_WRITE, total := 112, xid := 3, channel := 1 } },
      ({ withPartner ({ partner9 with block := some { write := true, key := K.CFG_IMAGE_WRITE, total := 112, xid := 3, channel := 1 } }) with dma := State.reset.dma.set 1 { st := .running } }
      : State), { write := true, key := K.CFG_IMAGE_WRITE, total := 112, xid := 3, channel := 1 }, ⟨by decide +kernel, by decide +kernel,
      by decide +kernel⟩, by decide +kernel⟩,
    ⟨from9 3 [0#8, 3#8, 0#8, 0#8], 0,
      { partner9 with block := some { write := false, key := K.JNL_READ_BLOCK, total := 96, data := [1#8], xid := 3, channel := 1 } },
      ({ withPartner ({ partner9 with block := some { write := false, key := K.JNL_READ_BLOCK, total := 96, data := [1#8], xid := 3, channel := 1 } }) with dma := State.reset.dma.set 1 { st := .running } }
      : State), { write := false, key := K.JNL_READ_BLOCK, total := 96, data := [1#8], xid := 3, channel := 1 }, ⟨by decide +kernel,
      by decide +kernel, by decide +kernel⟩, by decide +kernel⟩,
    ⟨from9 3 (List.replicate 8 0#8), 0,
      { partner9 with block := some { write := true, key := K.CFG_IMAGE_WRITE, total := 112, xid := 3, channel := 1 } },
      ({ withPartner ({ partner9 with block := some { write := true, key := K.CFG_IMAGE_WRITE, total := 112, xid := 3, channel := 1 } }) with dma := State.reset.dma.set 1 { st := .running } }
      : State), { write := true, key := K.CFG_IMAGE_WRITE, total := 112, xid := 3, channel := 1 }, ⟨by decide +kernel, by decide +kernel,
      by decide +kernel⟩, by decide +kernel⟩,
    ⟨from9 3 (toLE 4 2 ++ toLE 4 (crc32 [12#8, 0#8])), 0,
      { partner9 with role := .installer, block := some { write := true, key := K.PP_TVINQ, total := 2, data := [12#8, 0#8], xid := 3, channel := 1 } },
      ({ withPartner ({ partner9 with role := .installer, block := some { write := true, key := K.PP_TVINQ, total := 2, data := [12#8, 0#8], xid := 3, channel := 1 } }) with dma := State.reset.dma.set 1 { st := .running } }
      : State), { write := true, key := K.PP_TVINQ, total := 2, data := [12#8, 0#8], xid := 3, channel := 1 }, row K.PP_TVINQ, 12,
      ⟨by decide +kernel, by decide +kernel, by decide +kernel⟩, by decide +kernel⟩,
    ⟨from9 3 (toLE 4 2 ++ toLE 4 (crc32 [9#8, 0#8])), 0,
      { partner9 with role := .installer, block := some { write := true, key := K.PP_TVINQ, total := 2, data := [9#8, 0#8], xid := 3, channel := 1 } },
      ({ withPartner ({ partner9 with role := .installer, block := some { write := true, key := K.PP_TVINQ, total := 2, data := [9#8, 0#8], xid := 3, channel := 1 } }) with dma := State.reset.dma.set 1 { st := .running } }
      : State), { write := true, key := K.PP_TVINQ, total := 2, data := [9#8, 0#8], xid := 3, channel := 1 }, row K.PP_TVINQ, 9,
      ⟨by decide +kernel, by decide +kernel, by decide +kernel⟩, by decide +kernel⟩,
    ⟨0, { partner9 with block := some { write := true, key := K.CFG_IMAGE_WRITE, total := 112, xid := 3, channel := 1 } },
      { write := true, key := K.CFG_IMAGE_WRITE, total := 112, xid := 3, channel := 1 },
      ({ withPartner ({ partner9 with block := some { write := true, key := K.CFG_IMAGE_WRITE, total := 112, xid := 3, channel := 1 } }) with dma := State.reset.dma.set 1 { st := .running } }
      : State), by decide +kernel⟩,
    ⟨6, ({ inMode .run with dma := State.reset.dma.set 6 { st := .running } } : State), by decide +kernel⟩⟩

theorem test_RolesAreProved_premises :
    (∃ (f : Frame) (i : Fin 64) (p : Partner) (s : State), s.Delivers f ∧ s.partnerAt f.port f.src = some i ∧ s.partner i = some p ∧
      f.body.length = 4 ∧ f.at_ 0 1 = 2) ∧
    (∃ (f : Frame) (i : Fin 64) (p : Partner) (s : State) (r : Role), s.Delivers f ∧ s.partnerAt f.port f.src = some i ∧ s.partner i =
      some p ∧ f.body.length = 4 ∧ roleOfCode (f.at_ 0 1) = some r ∧ r ≠ .peer) ∧
    (∃ (f : Frame) (i : Fin 64) (p : Partner) (s : State) (r : Role), s.Delivers f ∧ s.partnerAt f.port f.src = some i ∧ s.partner i =
      some p ∧ f.body.length = 44 ∧ roleOfCode (f.at_ 0 1) = some r ∧ r ≠ .peer ∧ s.authCheck p r (f.at_ 1 1) ((f.body.drop 4).take 32) ≠
      0) ∧
    (∃ (i : Fin 64) (p : Partner) (s : State), s.partner i = some p) ∧
    (∃ (acc : Accessor) (data : Bytes) (d : ObjDef) (s : State), s.portsOpen = true ∧ s.reach acc K.NET_INSTALLER_PW = .ok d ∧
      s.debugAllows acc true K.NET_INSTALLER_PW = true ∧ (s.roleOf acc = .host ∨ s.roleOf acc = .installer) ∧ 8 ≤ data.length ∧
      data.length ≤ 32 ∧ (∀ b ∈ data, b.toNat < 128) ∧ s.modes.holdup = false) :=
  ⟨
    ⟨from9 3 [2#8, 0#8, 0#8, 0#8], 0, { partner9 with role := .installer }, (withPartner ({ partner9 with role := .installer }) : State),
      ⟨by decide +kernel, by decide +kernel, by decide +kernel⟩, by decide +kernel⟩,
    ⟨from9 3 [3#8, 0#8, 0#8, 0#8], 0, partner9, withPartner partner9, .installer, ⟨by decide +kernel, by decide +kernel,
      by decide +kernel⟩, by decide +kernel⟩,
    ⟨from9 3 ([3#8, 0#8] ++ List.replicate 42 1#8), 0, { partner9 with nonce := some (.installer, ⟨List.replicate 16 1#8, 0⟩) },
      (withPartner ({ partner9 with nonce := some (.installer, ⟨List.replicate 16 1#8, 0⟩) }) : State), .installer, ⟨by decide +kernel,
      by decide +kernel, by decide +kernel⟩, by decide +kernel⟩,
    ⟨0, partner9, withPartner partner9, by decide +kernel⟩,
    ⟨.spi, List.replicate 8 65#8, row K.NET_INSTALLER_PW, (withPartner ({ partner9 with role := .installer }) : State),
      by decide +kernel⟩⟩

theorem test_PortsHeartbeatTelemetry_premises :
    (∃ (q : Fin 2) (id : Nat) (bytes : Bytes) (s : State), s.portUp q = true ∧ s.habArmed = false ∧ s.net.heldRx = none ∧ frameWhole id
      bytes = false ∧ s.get K.NET_CRC_FAILS < 4294967294 ∧ oncePerSecond s.now s.net.crcAt = true) ∧
    (∃ (s : State), s.portUp 0 = true ∧ s.portUp 1 = false ∧ s.habArmed = false ∧ s.net.heldTx = none) ∧
    (∃ (m : Fin 8) (vals : Bytes) (s : State), s.tlmDue m = true ∧ s.net.tlmVals[m] = some vals ∧ ((∀ k, k ≠ m → s.tlmDue k = false)) ∧
      s.habArmed = false ∧ s.net.heldTx = none) ∧
    (∃ (q : Fin 2) (s : State), s.portUp q = true) ∧
    (∃ (q : Fin 2) (s : State), s.portOff q = true ∧ s.portsOpen = true) ∧
    (∃ (q : Fin 2) (s : State) (txErr : Nat) (rxErr : Nat), s.portUp q = true ∧ (s.net.ports[q]).errorPassive = false ∧ (127 < txErr ∨
      127 < rxErr)) ∧
    (∃ (acc : Accessor) (m : Fin 8) (s : State) (a : Abort), s.Admits acc (K.TLM_EN m) 1 ∧ s.tlmFault m = some a) ∧
    (∃ (acc : Accessor) (m : Fin 8) (s : State), s.Admits acc (K.TLM_EN m) 1 ∧ s.tlmFault m = none) ∧
    (∃ (acc : Accessor) (m : Fin 8) (s : State), s.Admits acc (K.TLM_EN m) 1) :=
  ⟨
    ⟨0, 0x44, [1#8, 2#8], withPartner partner9, by decide +kernel⟩,
    ⟨(inMode .run).put K.NET_B_EN 0, by decide +kernel⟩,
    ⟨2, [7#8, 8#8],
      ({ (inMode .run).puts [(K.TLM_EN 2, 1), (K.TLM_PERIOD 2, 100), (K.BEAM_CUT_AT, 0)] with net := { tlmVals := State.reset.net.tlmVals.set 2 (some [7#8, 8#8]) } }
      : State), by decide +kernel⟩,
    ⟨0, withPartner partner9, by decide +kernel⟩,
    ⟨0, ({ inMode .run with net := { ports := State.reset.net.ports.set 0 { busOff := true } } } : State), by decide +kernel⟩,
    ⟨0, withPartner partner9, 128, 0, by decide +kernel⟩,
    ⟨.spi, 2, (inMode .run).puts [(K.TLM_COUNT 2, 1), (K.TLM_ENTRY 2 0, 0x123456)], .noSuchObject, ⟨by decide +kernel, row (K.TLM_EN 2),
      by decide +kernel, by decide +kernel⟩, by decide +kernel⟩,
    ⟨.spi, 2, inMode .run, ⟨by decide +kernel, row (K.TLM_EN 2), by decide +kernel, by decide +kernel⟩, by decide +kernel⟩,
    ⟨.spi, 2, inMode .run, ⟨by decide +kernel, row (K.TLM_EN 2), by decide +kernel, by decide +kernel⟩⟩⟩

theorem test_InterruptClaims_premises :
    (∃ (q : Fin 2) (n : Nat) (s : State), s.portsOpen = true ∧ s.targetOn q = true ∧ s.bestSource = n ∧ s.get K.LP_SPI_FRAMES <
      4294967294 ∧ s.get K.LP_TW_FRAMES < 4294967294 ∧ s.get K.INT_CLAIMS < 4294967294 ∧ n ≠ 0) ∧
    (∃ (q : Fin 2) (n : Nat) (s : State), s.portsOpen = true ∧ s.targetOn q = true ∧ s.bestSource = n ∧ s.get K.LP_SPI_FRAMES <
      4294967294 ∧ s.get K.LP_TW_FRAMES < 4294967294 ∧ s.get K.INT_CLAIMS < 4294967294 ∧ n = 0) ∧
    (∃ (q : Fin 2) (n : Nat) (s : State), s.portsOpen = true ∧ s.targetOn q = true ∧ n < 512 ∧ s.isInService n = true ∧ s.get
      K.LP_SPI_FRAMES < 4294967294 ∧ s.get K.LP_TW_FRAMES < 4294967294 ∧ s.get K.INT_REFIRES < 4294967294) ∧
    (∃ (q : Fin 2) (n : Nat) (s : State), s.portsOpen = true ∧ s.targetOn q = true ∧ (512 ≤ n ∨ s.isInService n = false) ∧ s.get
      K.INT_STRAY_COMPLETES < 4294967294) :=
  ⟨
    ⟨0, 1, ({ (inMode .run).puts [(Ev.mode.key, 2), (Ev.mode.key + 1, 2)] with ints := { pending := BitVec.allOnes 512 } } : State),
      by decide +kernel⟩,
    ⟨0, 0, inMode .run, by decide +kernel⟩,
    ⟨0, 1, ({ inMode .run with ints := { inService := 2 } } : State), by decide +kernel⟩,
    ⟨0, 1, inMode .run, by decide +kernel⟩⟩

theorem test_LatchingReads_premises :
    (∃ (q : Fin 2) (s : State), s.portsOpen = true ∧ s.targetOn q = true) ∧
    (∃ (k : Fin 11) (key : Nat) (d : ObjDef) (s : State), 3 ≤ k.val ∧ s.portsOpen = true ∧ s.reach .debug key = .ok d ∧ 4 < d.size ∧
      d.type ≠ .domain ∧ d.type ≠ .vis) ∧
    (∃ (acc : Accessor) (d : ObjDef) (s : State), s.portsOpen = true ∧ s.reach acc K.NET_EVENTS_DROPPED = .ok d ∧ s.debugAllows acc false
      K.NET_EVENTS_DROPPED = true) :=
  ⟨
    ⟨0, ({ inMode .run with now := 4294967301 } : State), by decide +kernel⟩,
    ⟨3, K.MODE_ENTERED_AT, row K.MODE_ENTERED_AT, (inMode .run).put K.MODE_ENTERED_AT 4294967301, by decide +kernel⟩,
    ⟨.spi, row K.NET_EVENTS_DROPPED, inMode .run, by decide +kernel⟩⟩

theorem test_Mailboxes_premises :
    (∃ (q : Fin 2) (r : Fin 32) (d : ObjDef) (s : State), s.portsOpen = true ∧ s.targetOn q = true ∧ s.reach (portAcc q) (K.RAIL_VSET r)
      = .ok d ∧ (s.port q).box.busy = false) ∧
    (∃ (q : Fin 2) (r : Fin 32) (d : ObjDef) (s : State), s.portsOpen = true ∧ s.targetOn q = true ∧ s.reach (portAcc q) (K.RAIL_VSET r)
      = .ok d ∧ (s.port q).box.busy = true) ∧
    (∃ (q : Fin 2) (data : Bytes) (d : ObjDef) (v : Int) (s : State), s.portsOpen = true ∧ s.targetOn q = true ∧ s.reach (portAcc q)
      K.PP_TVINQ = .ok d ∧ (s.port q).box.busy = false ∧ data.length = 2 ∧ d.value data = v ∧ 10 ≤ v ∧ v ≤ 10000) ∧
    (∃ (q : Fin 2) (data : Bytes) (d : ObjDef) (v : Int) (s : State), s.portsOpen = true ∧ s.targetOn q = true ∧ s.reach (portAcc q)
      K.PP_TVINQ = .ok d ∧ (s.port q).box.busy = false ∧ data.length = 2 ∧ d.value data = v ∧ (v < 10 ∨ 10000 < v)) ∧
    (∃ (q : Fin 2) (key : Nat) (data : Bytes) (d : ObjDef) (s : State), s.portsOpen = true ∧ s.targetOn q = true ∧ s.reachAs true
      (portAcc q) key = .ok d ∧ (d.access = .rw ∨ d.access = .wo) ∧ s.writeBarred (portAcc q) d key d.size = none ∧ s.segmentsLost q =
      false ∧ (s.port q).box.busy = false ∧ data.length ≤ 256) ∧
    (∃ (q : Fin 2) (key : Nat) (data : Bytes) (have_ : Bytes) (s : State), s.portsOpen = true ∧ s.targetOn q = true ∧ (s.port q).box.busy
      = false ∧ (s.port q).box.seg = some (key, have_) ∧ s.segmentsLost q = false ∧ have_ ≠ [] ∧ data.length ≤ 256) ∧
    (∃ (q : Fin 2) (key : Nat) (data : Bytes) (have_ : Bytes) (s : State), s.portsOpen = true ∧ s.targetOn q = true ∧ (s.port q).box.busy
      = false ∧ (s.port q).box.seg = some (key, have_) ∧ s.segmentsLost q = false ∧ have_ ≠ [] ∧ data.length ≤ 256 ∧ data.length = 8 ∧
      (ofLE (data.take 4) ≠ have_.length ∨ ofLE (data.drop 4) ≠ crc32 have_)) ∧
    (∃ (q : Fin 2) (key : Nat) (data : Bytes) (have_ : Bytes) (s : State) (d : ObjDef) (v : Int), s.portsOpen = true ∧ s.targetOn q =
      true ∧ (s.port q).box.busy = false ∧ (s.port q).box.seg = some (key, have_) ∧ s.segmentsLost q = false ∧ have_ ≠ [] ∧ data.length ≤
      256 ∧ key = K.PP_TVINQ ∧ s.reachWrite (portAcc q) key have_.length = .ok d ∧ s.roleOk (portAcc q) d = true ∧ d.value have_ = v ∧
      data = toLE 4 have_.length ++ toLE 4 (crc32 have_) ∧ 10 ≤ v ∧ v ≤ 10000) ∧
    (∃ (q : Fin 2) (key : Nat) (data : Bytes) (have_ : Bytes) (s : State) (d : ObjDef) (v : Int), s.portsOpen = true ∧ s.targetOn q =
      true ∧ (s.port q).box.busy = false ∧ (s.port q).box.seg = some (key, have_) ∧ s.segmentsLost q = false ∧ have_ ≠ [] ∧ data.length ≤
      256 ∧ key = K.PP_TVINQ ∧ s.reachWrite (portAcc q) key have_.length = .ok d ∧ s.roleOk (portAcc q) d = true ∧ d.value have_ = v ∧
      data = toLE 4 have_.length ++ toLE 4 (crc32 have_) ∧ (v < 10 ∨ 10000 < v)) ∧
    (∃ (q : Fin 2) (s : State), (s.port q).box.busy = true) ∧
    (∃ (q : Fin 2) (s : State), s.portsOpen = true ∧ s.targetOn q = true ∧ (s.port q).box.busy = false) ∧
    (∃ (q : Fin 2) (s : State), (s.port q).box.channel ≠ none ∧ (s.channel (portChannel q)).st = .running ∧ s.portsOpen = true) ∧
    (∃ (bytes : Bytes) (r : Nat) (s : State), s.portsOpen = true ∧ r ≠ 5 ∧ r ≠ 24 ∧ hostFrame 0 (s.port 0).box.want bytes false =
      .winRead r) ∧
    (∃ (q : Fin 2) (bytes : Bytes) (cut : Bool) (f : PortFrame) (s : State), s.portsOpen = true ∧ s.targetOn q = true ∧ hostFrame q
      (s.port q).box.want bytes cut = f ∧ (f = .badForm ∨ f = .badCrc)) ∧
    (∃ (s : State), s.portsOpen = true ∧ s.targetOn 1 = true) ∧
    (∃ (s : State), s.portsOpen = true ∧ s.targetOn 1 = true ∧ s.get K.LP_TW_TIMEOUTS < 4294967294) :=
  ⟨
    ⟨0, 2, row (K.RAIL_VSET 2), inMode .run, by decide +kernel⟩,
    ⟨0, 2, row (K.RAIL_VSET 2), ({ inMode .run with ports := { port := State.reset.ports.port.set 0 { box := { busy := true } } }  } :
      State), by decide +kernel⟩,
    ⟨0, [10#8, 0#8], row K.PP_TVINQ, 10, inMode .run, by decide +kernel⟩,
    ⟨0, [9#8, 0#8], row K.PP_TVINQ, 9, inMode .run, by decide +kernel⟩,
    ⟨0, K.CFG_IMAGE_WRITE, [1#8, 2#8], row K.CFG_IMAGE_WRITE, inMode .run, by decide +kernel⟩,
    ⟨0, K.CFG_IMAGE_WRITE, [3#8], [1#8, 2#8],
      ({ inMode .run with ports := { port := State.reset.ports.port.set 0 { box := { seg := some (K.CFG_IMAGE_WRITE, [1#8, 2#8]), channel := some 4 } } } , dma := State.reset.dma.set 4 { st := .running } }
      : State), by decide +kernel⟩,
    ⟨0, K.CFG_IMAGE_WRITE, List.replicate 8 0#8, [1#8, 2#8],
      ({ inMode .run with ports := { port := State.reset.ports.port.set 0 { box := { seg := some (K.CFG_IMAGE_WRITE, [1#8, 2#8]), channel := some 4 } } } , dma := State.reset.dma.set 4 { st := .running } }
      : State), by decide +kernel⟩,
    ⟨0, K.PP_TVINQ, toLE 4 2 ++ toLE 4 (crc32 [11#8, 0#8]), [11#8, 0#8],
      ({ inMode .run with ports := { port := State.reset.ports.port.set 0 { box := { seg := some (K.PP_TVINQ, [11#8, 0#8]), channel := some 4 } } } , dma := State.reset.dma.set 4 { st := .running } }
      : State), row K.PP_TVINQ, 11, by decide +kernel⟩,
    ⟨0, K.PP_TVINQ, toLE 4 2 ++ toLE 4 (crc32 [9#8, 0#8]), [9#8, 0#8],
      ({ inMode .run with ports := { port := State.reset.ports.port.set 0 { box := { seg := some (K.PP_TVINQ, [9#8, 0#8]), channel := some 4 } } } , dma := State.reset.dma.set 4 { st := .running } }
      : State), row K.PP_TVINQ, 9, by decide +kernel⟩,
    ⟨0, ({ inMode .run with ports := { port := State.reset.ports.port.set 0 { box := { busy := true, data := [1#8] } } }  } : State),
      by decide +kernel⟩,
    ⟨0, ({ inMode .run with ports := { port := State.reset.ports.port.set 0 { box := { ready := true, data := [1#8], code := 3 } } }  } :
      State), by decide +kernel⟩,
    ⟨0,
      ({ inMode .run with ports := { port := State.reset.ports.port.set 0 { box := { seg := some (K.CFG_IMAGE_WRITE, [1#8, 2#8]), channel := some 4 } } } , dma := State.reset.dma.set 4 { st := .running } }
      : State), by decide +kernel⟩,
    ⟨[2#8, crc8 [2#8], 0#8, 0#8, 0#8, 0#8, 0#8], 2, inMode .run, by decide +kernel⟩,
    ⟨0, [2#8, 0x77#8, 0#8, 0#8, 0#8, 0#8, 0#8], false, .badCrc, inMode .run, by decide +kernel⟩,
    ⟨(inMode .run).put K.LP_TW_EN 1, by decide +kernel⟩,
    ⟨(inMode .run).put K.LP_TW_EN 1, by decide +kernel⟩⟩

theorem test_WritesByClass_premises :
    (∃ (acc : Accessor) (data : Bytes) (d : ObjDef) (s : State), s.portsOpen = true ∧ s.reachWrite acc K.PP_TVINQ data.length = .ok d ∧
      s.roleOk acc d = true ∧ 10 ≤ d.value data ∧ d.value data ≤ 10000) ∧
    (∃ (acc : Accessor) (data : Bytes) (d : ObjDef) (s : State), s.portsOpen = true ∧ s.reachWrite acc K.PP_TVINQ data.length = .ok d ∧
      s.roleOk acc d = true ∧ (d.value data < 10 ∨ 10000 < d.value data)) ∧
    (∃ (acc : Accessor) (key : Nat) (data : Bytes) (d : ObjDef) (s : State), s.portsOpen = true ∧ s.reachWrite acc key data.length = .ok
      d ∧ s.roleOk acc d = true ∧ s.valueOk d key (d.value data) = true ∧ d.cls = .staged ∧ s.cfg.phase = .idle ∧ (s.cfg.owner = none ∨
      s.cfg.owner = some (s.issuerOf acc)) ∧ s.cfg.staged.length < 512) ∧
    (∃ (acc : Accessor) (key : Nat) (data : Bytes) (d : ObjDef) (s : State), s.portsOpen = true ∧ s.reachWrite acc key data.length = .ok
      d ∧ s.roleOk acc d = true ∧ s.valueOk d key (d.value data) = true ∧ d.cls = .boot ∧ s.ramping = false ∧ s.anyRailLive = false ∧
      s.setOk key (d.value data) = true) :=
  ⟨
    ⟨.spi, [10#8, 0#8], row K.PP_TVINQ, inMode .run, by decide +kernel⟩,
    ⟨.spi, [9#8, 0#8], row K.PP_TVINQ, inMode .run, by decide +kernel⟩,
    ⟨.spi, K.PH_ILIM_AVG 5, [0x28#8, 0x23#8, 0#8, 0#8], row (K.PH_ILIM_AVG 5), inMode .run, by decide +kernel⟩,
    ⟨.spi, K.PP_CELLS, [4#8], row K.PP_CELLS, inMode .idle, by decide +kernel⟩⟩

theorem test_ManagementTick_premises :
    (∃ (s : State), s.keeperRuns = true ∧ (s.modes.mode = .seal ∨ s.sec.halted = true) ∧ s.cfg.fswDue = []) ∧
    (∃ (s : State), s.portsOpen = true ∧ s.keeperRuns = true ∧ s.sec.halted = false ∧ s.modes.mode ≠ .failsafe) :=
  ⟨
    ⟨({ inMode .seal with now := 1999999 } : State), by decide +kernel⟩,
    ⟨inMode .run, by decide +kernel⟩⟩

theorem test_LegacySlave_premises :
    (∃ (s : State), s.legacySlave = true ∧ s.get K.SEQ_LEGACY_CMD_COUNT < 4294967294) ∧
    (∃ (s : State), s.legacySlave = true ∧ s.get K.SEQ_LEGACY_CMD_COUNT < 4294967294 ∧ s.groupMode = true ∧ (∀ g, (s.group g).st =
      .down)) ∧
    (∃ (s : State), s.legacySlave = true ∧ s.get K.SEQ_LEGACY_CMD_COUNT < 4294967294 ∧ s.flag K.SEQ_LEGACY_ALLOW_CLEAR = true ∧
      s.modes.mode = .failsafe ∧ s.get K.FS_CAUSE ≠ 5 ∧ s.path.inService = true) ∧
    (∃ (s : State), s.legacySlave = true ∧ s.get K.SEQ_LEGACY_CMD_COUNT < 4294967294 ∧ s.flag K.SEQ_LEGACY_ALLOW_CLEAR = false) ∧
    (∃ (g : Fin 16) (n : Nat) (s : State), s.legacySlave = true ∧ s.groupMode = true ∧ s.nextTag = some n ∧ (∀ h, (s.group h).stage ≠
      .dependants) ∧ (s.group g).st = .down ∧ (s.group g).waiting = false) ∧
    (∃ (g : Fin 16) (n : Nat) (s : State) (k : Nat), s.legacySlave = true ∧ s.groupMode = true ∧ s.nextTag = some n ∧ (∀ h, (s.group
      h).stage ≠ .dependants) ∧ s.dependants g = [] ∧ (s.group g).st = .up ∧ (s.group g).stage = .idle ∧ (s.group g).sentSteps.head? =
      some k) ∧
    (∃ (e : Nat), 0 < e ∧ e < 256) ∧
    (∃ (a : Nat) (s : State), (s.legacySlave = false ∨ a ≠ legacyAddr)) :=
  ⟨
    ⟨(inMode .idle).put K.SEQ_LEGACY_MODE 2, by decide +kernel⟩,
    ⟨(inMode .idle).put K.SEQ_LEGACY_MODE 2, by decide +kernel⟩,
    ⟨(inMode .failsafe).puts [(K.SEQ_LEGACY_MODE, 2), (K.SEQ_LEGACY_ALLOW_CLEAR, 1)], by decide +kernel⟩,
    ⟨(inMode .idle).put K.SEQ_LEGACY_MODE 2, by decide +kernel⟩,
    ⟨3, 0, (inMode .idle).put K.SEQ_LEGACY_MODE 2, by decide +kernel⟩,
    ⟨3, 0, (((inMode .run).modGroup 3 fun x => { x with st := .up, sentSteps := [2] }).put K.SEQ_LEGACY_MODE 2 : State), 2,
      by decide +kernel⟩,
    ⟨1, by decide +kernel⟩,
    ⟨90, inMode .run, by decide +kernel⟩⟩

theorem test_TimeStopsAtItsMaximum_premises :
    (∃ (s : State), s.oasis.supply ≠ .lost ∧ s.oasis.saturated = false ∧ s.oasis.seconds = maxSeconds ∧ s.portsOpen = true) ∧
    (∃ (s : State), s.oasis.supply ≠ .lost ∧ s.oasis.saturated = false ∧ s.oasis.seconds = maxSeconds ∧ s.portsOpen = false) ∧
    (∃ (s : State), s.oasis.saturated = true) ∧
    (∃ (acc : Accessor) (v : Nat) (s : State), s.Admits acc K.RTC_SET_SECONDS 8 ∧ s.oasis.saturated = true ∧ v ≤ maxSeconds ∧ s.eventRoom
      = true) ∧
    (∃ (acc : Accessor) (v : Nat) (sec : Nat) (s : State), s.Admits acc K.CAL_SET 8 ∧ s.oasis.saturated = true ∧ calendarSeconds v = .ok
      sec ∧ s.eventRoom = true) :=
  ⟨
    ⟨({ inMode .run with oasis := { seconds := maxSeconds, frac := 5 } } : State), by decide +kernel⟩,
    ⟨({ inMode .vault with oasis := { seconds := maxSeconds } } : State), by decide +kernel⟩,
    ⟨({ inMode .run with oasis := { seconds := maxSeconds, frac := 0x7FFF, saturated := true } } : State), by decide +kernel⟩,
    ⟨.spi, maxSeconds, ({ inMode .run with oasis := { seconds := maxSeconds, saturated := true } } : State), ⟨by decide +kernel, row
      K.RTC_SET_SECONDS, by decide +kernel, by decide +kernel⟩, by decide +kernel⟩,
    ⟨.spi, 2000 + 2 ^ 16 + 2 ^ 24, 0, ({ inMode .run with oasis := { seconds := maxSeconds, saturated := true } } : State),
      ⟨by decide +kernel, row K.CAL_SET, by decide +kernel, by decide +kernel⟩, by decide +kernel⟩⟩

theorem test_JournalInitStartsAnew_premises :
    (∃ (acc : Accessor) (q : Nat) (s : State), s.Admits acc K.JNL_INIT 1 ∧ (s.sec.lifecycle = .blank ∨ s.sec.lifecycle = .opened) ∧
      s.sessionOpen = false ∧ s.met.jnl.next = q ∧ 1 ≤ q) ∧
    (∃ (acc : Accessor) (d : ObjDef) (s : State), s.portsOpen = true ∧ s.reachWrite acc K.JNL_INIT 1 = .ok d ∧ s.sec.lifecycle ≠ .blank ∧
      s.sec.lifecycle ≠ .opened) ∧
    (∃ (acc : Accessor) (s : State), s.Admits acc K.JNL_INIT 1 ∧ (s.sec.lifecycle = .blank ∨ s.sec.lifecycle = .opened) ∧ s.sessionOpen =
      true) :=
  ⟨
    ⟨.spi, 9, ({ inMode .run with met := { jnl := { next := 9 } } } : State), ⟨by decide +kernel, row K.JNL_INIT, by decide +kernel,
      by decide +kernel⟩, by decide +kernel⟩,
    ⟨.spi, row K.JNL_INIT, ({ inMode .run with sec := { lifecycle := .sealed } } : State), by decide +kernel⟩,
    ⟨.spi, ({ inMode .run with met := { points := State.reset.met.points.set 1 { sess := .opened } } } : State), ⟨by decide +kernel, row
      K.JNL_INIT, by decide +kernel, by decide +kernel⟩, by decide +kernel⟩⟩

theorem test_UnlockedTileStopsCommit_premises :
    (∃ (n : Fin 8) (s : State), s.habArmed = false ∧ s.hab.held = none ∧ (s.link n).st = .up ∧ (s.link n).locked = false) ∧
    (∃ (n : Fin 8) (g : Nat) (s : State), s.cfg.phase = .prepared ∧ s.cfg.tiles.testBit n = true ∧ s.cfg.acked.testBit n = false ∧
      s.cfg.tag = some g ∧ g < 128 ∧ (s.op g).status = .running) ∧
    (∃ (n : Fin 8) (s : State), s.habArmed = false ∧ s.hab.held = none ∧ (s.link n).st = .up ∧ (s.link n).farRun < 7 ∧ (s.link n).shown =
      true ∧ (s.link n).locked = false) ∧
    (∃ (n : Fin 8) (s : State), s.habArmed = false ∧ s.hab.held = none ∧ (s.link n).st = .up ∧ (s.link n).farRun < 7 ∧ (s.link n).shown =
      false ∧ (s.link n).locked = true ∧ (s.link n).lostLock = true) :=
  ⟨
    ⟨2,
      ({ inMode .run with links := State.reset.links.set 2 { st := .up , locked := false } , cfg := { phase := .prepared, tiles := 4, owner := some .host } }
      : State), by decide +kernel⟩,
    ⟨2, 4,
      ({ inMode .idle with cfg := { owner := some .host, staged := [(K.PH_ILIM_AVG 5, 9000)], phase := .prepared, tag := some 4, tiles := 6, acked := 2 } , ops := { entries := State.reset.ops.entries.set 4 { status := .running, kind := .commit } } }
      : State), by decide +kernel⟩,
    ⟨2, ({ inMode .run with links := State.reset.links.set 2 { st := .up , shown := true, locked := false }  } : State),
      by decide +kernel⟩,
    ⟨2, ({ inMode .run with links := State.reset.links.set 2 { st := .up , locked := true, lostLock := true }  } : State),
      by decide +kernel⟩⟩

theorem test_RequestsSessionsCaptures_premises :
    (∃ (acc : Accessor) (d : ObjDef) (s : State) (woken : Nat), s.portsOpen = true ∧ s.reachWrite acc K.MODE_REQUEST 1 = .ok d ∧
      s.idleCond = true ∧ s.sessionOpen = false ∧ s.anyRunning = false ∧ s.modes.serviceLeaving = false ∧ s.wakeHits 1 woken = 0) ∧
    (∃ (acc : Accessor) (d : ObjDef) (s : State), s.portsOpen = true ∧ s.reachWrite acc K.MODE_REQUEST 1 = .ok d ∧ s.idleCond = true ∧
      s.sessionOpen = false ∧ s.anyRunning = false ∧ s.modes.serviceLeaving = false ∧ s.path.inService = false) ∧
    (∃ (acc : Accessor) (d : ObjDef) (s : State) (woken : Nat), s.portsOpen = true ∧ s.reachWrite acc K.MODE_REQUEST 1 = .ok d ∧
      s.idleCond = true ∧ s.sessionOpen = false ∧ s.anyRunning = false ∧ s.modes.serviceLeaving = false ∧ s.wakeHits 3 woken = 0) ∧
    (∃ (acc : Accessor) (m : Fin 4) (n : Nat) (s : State), s.Admits acc (K.MP_SESS_CMD m) 1 ∧ s.sessionMode = true ∧ s.nextTag = some n ∧
      s.openCheck m = none) ∧
    (∃ (acc : Accessor) (m : Fin 4) (n : Nat) (s : State), s.Admits acc (K.MP_SESS_CMD m) 1 ∧ s.sessionMode = true ∧ s.nextTag = some n ∧
      (s.point m).sess = .opened) ∧
    (∃ (m : Fin 4) (s : State), (s.point m).sess = .opening ∧ s.samplingOn = true ∧ s.met.clockFault = false ∧ s.met.jnl.waiting = [] ∧
      s.met.jnl.signing = none ∧ s.startRoom = true ∧ (s.point m).closeWait = false) ∧
    (∃ (m : Fin 4) (s : State), (s.point m).sess = .closing ∧ s.samplingOn = true ∧ (s.point m).closeSeen = false ∧ (s.point
      m).endWritten = false ∧ s.met.jnl.signing = none) ∧
    (∃ (m : Fin 4) (s : State), s.met.jnl.signing = some m ∧ s.portsOpen = true ∧ s.met.jnl.waiting = [] ∧ (s.point m).sess = .closing ∧
      (s.point m).endWritten = true) ∧
    (∃ (acc : Accessor) (d : ObjDef) (s : State), s.portsOpen = true ∧ s.reachWrite acc K.MIR_ARM 1 = .ok d ∧ s.installerUp acc = true ∧
      s.mirArmCheck = none) ∧
    (∃ (acc : Accessor) (d : ObjDef) (s : State), s.portsOpen = true ∧ s.reachWrite acc K.MIR_ARM 1 = .ok d ∧ s.installerUp acc = true ∧
      s.mirBusy = true ∧ s.mir.ended = none) ∧
    (∃ (acc : Accessor) (d : ObjDef) (s : State), s.portsOpen = true ∧ s.reachWrite acc K.MIR_ARM 1 = .ok d ∧ s.installerUp acc = true ∧
      s.mir.st = .armed) ∧
    (∃ (s : State), s.keeperRuns = true ∧ s.mirBusy = true ∧ s.mir.ended = none ∧ ((s.mir.st = .triggered → s.mir.trigFrame ≠ none →
      s.mir.postLeft ≠ 0))) ∧
    (∃ (arg : Nat) (before : Int) (after : Int) (s : State), s.keeperRuns = true ∧ s.mir.st = .armed ∧ s.getN K.MIR_TRIG_KIND = 4 ∧
      s.getN K.MIR_TRIG_ARG = arg ∧ s.get K.MIR_TRIG_LEVEL ≤ before ∧ after < s.get K.MIR_TRIG_LEVEL) ∧
    (∃ (s : State), s.mir.st = .triggered ∧ s.mir.trigFrame ≠ none ∧ s.mir.postLeft = 0 ∧ s.mir.ended = none) ∧
    (∃ (how : MirState) (s : State), s.keeperRuns = true ∧ s.mir.ended = some how) :=
  ⟨
    ⟨.spi, row K.MODE_REQUEST, inMode .idle, 0, by decide +kernel⟩,
    ⟨.spi, row K.MODE_REQUEST, ({ inMode .idle with path := { st := .battery } } : State), by decide +kernel⟩,
    ⟨.spi, row K.MODE_REQUEST, inMode .idle, 0, by decide +kernel⟩,
    ⟨.spi, 1, 0,
      ({ (inMode .idle).puts [(K.MP_EN 1, 1), (K.MP_V_GAIN 1, 5), (K.MP_I_GAIN 1, 5)] with oasis := { valid := true }, sec := { lifecycle := .opened, key := some [1#8] }, met := { jnl := { timeInvalid := false } } }
      : State), ⟨by decide +kernel, row (K.MP_SESS_CMD 1), by decide +kernel, by decide +kernel⟩, by decide +kernel⟩,
    ⟨.spi, 1, 0, ({ inMode .run with met := { points := State.reset.met.points.set 1 { sess := .opened }  }  } : State),
      ⟨by decide +kernel, row (K.MP_SESS_CMD 1), by decide +kernel, by decide +kernel⟩, by decide +kernel⟩,
    ⟨1, ({ inMode .run with met := { points := State.reset.met.points.set 1 { sess := .opening, openTag := some 3 }  }  } : State),
      by decide +kernel⟩,
    ⟨1,
      ({ inMode .run with met := { points := State.reset.met.points.set 1 { sess := .closing, reason := 1, exp := 7, startExp := 2 }  }  }
      : State), by decide +kernel⟩,
    ⟨1,
      ({ inMode .run with met := { points := State.reset.met.points.set 1 { sess := .closing, reason := 1, endWritten := true } , jnl := { next := 4, signing := some 1 } }  }
      : State), by decide +kernel⟩,
    ⟨.spi, row K.MIR_ARM, (inMode .run).puts [(K.MIR_STREAM 0, 7), (K.MIR_POST, 10), (K.MIR_PRE, 5), (K.MIR_DECIM, 3)],
      by decide +kernel⟩,
    ⟨.spi, row K.MIR_ARM,
      ({ (inMode .run).puts [(K.MIR_STREAM 0, 7), (K.MIR_POST, 10), (K.MIR_PRE, 5), (K.MIR_DECIM, 3)] with mir := { st := .armed, t0 := 1000 } }
      : State), by decide +kernel⟩,
    ⟨.spi, row K.MIR_ARM,
      ({ (inMode .run).puts [(K.MIR_STREAM 0, 7), (K.MIR_POST, 10), (K.MIR_PRE, 5), (K.MIR_DECIM, 3)] with mir := { st := .armed, t0 := 1000 } }
      : State), by decide +kernel⟩,
    ⟨({ (inMode .run).puts [(K.MIR_STREAM 0, 7), (K.MIR_POST, 10), (K.MIR_PRE, 5), (K.MIR_DECIM, 3)] with mir := { st := .armed, t0 := 1000 } }
      : State), by decide +kernel⟩,
    ⟨2, 9, 8,
      (({ (inMode .run).puts [(K.MIR_STREAM 0, 7), (K.MIR_POST, 10), (K.MIR_PRE, 5), (K.MIR_DECIM, 3)] with mir := { st := .armed, t0 := 1000 } }).puts
      [(K.MIR_TRIG_KIND, 4), (K.MIR_TRIG_ARG, 2), (K.MIR_TRIG_LEVEL, 9)] : State), by decide +kernel⟩,
    ⟨({ inMode .run with mir := { st := .triggered, trigFrame := some 3 } } : State), by decide +kernel⟩,
    ⟨.done, ({ inMode .run with mir := { st := .triggered, trigFrame := some 3, frames := [[1#8]], ended := some .done } } : State),
      by decide +kernel⟩⟩

theorem test_StepRunsFrontCommand_premises : State.reset.pending = [] := by decide +kernel

theorem test_StepKeepsCanonical_premises :
    ∃ (s t : State), s.Canonical ∧ Machine.step s = .next t :=
  ⟨(inMode .run).put K.WAKE_ENABLE 1, _, ⟨by decide +kernel, by decide +kernel⟩, rfl⟩

theorem test_QueueAndHistoryAreKept_premises :
    ∃ (s t : State), s.history.length ≤ 16 ∧ exec .hrstAssert s = .next t ∧ Machine.step { s with pending := [.hrstAssert] } = .next t :=
  ⟨inMode .run, _, by decide +kernel, rfl, rfl⟩

theorem test_OtpBitsNeverClear_premises :
    ∃ (s t : State), exec (.otpBurnDone {}) s = .next t ∧ s.otp.burn ≠ none :=
  ⟨{ inMode .service with otp := { window := true, burn := some (.row 20 ⟨0x0A, 2⟩) } }, _, rfl, by decide +kernel⟩

/-- A partner whose challenge for INSTALLER is open. -/
def challenged : Partner := { partner9 with nonce := some (.installer, ⟨List.replicate 16 1#8, 0⟩) }

/-- The state with that partner in slot 0 and an installer password. -/
def withChallenged : State :=
  { withPartner challenged with net := { partners := State.reset.net.partners.set 0 (some challenged), pwHash := some [1#8] } }

/-- The proof that it may send (R340): the HMAC of the nonce, the serial number, its port and its node. -/
def goodProof : Bytes := hmacSha256 [1#8] (List.replicate 16 1#8 ++ toLE 8 Config.serialNumber ++ toLE 1 0 ++ toLE 1 9)

/-- The frame that carries it. -/
def provingFrame : Frame := from9 3 ([3#8, 0#8, 0#8, 0#8] ++ goodProof ++ List.replicate 8 0#8)

theorem provingFrame_head : provingFrame.at_ 0 1 = 3 ∧ provingFrame.at_ 1 1 = 0 := by
  constructor <;> rfl

theorem provingFrame_proof : (provingFrame.body.drop 4).take 32 = goodProof := by
  simp [provingFrame, from9, goodProof]

theorem test_RolesAreProved_premises_granted :
    withChallenged.Delivers provingFrame ∧ withChallenged.partnerAt 0 9 = some 0 ∧ withChallenged.partner 0 = some challenged ∧
      provingFrame.body.length = 44 ∧ roleOfCode (provingFrame.at_ 0 1) = some .installer ∧
      withChallenged.authCheck challenged .installer (provingFrame.at_ 1 1) ((provingFrame.body.drop 4).take 32) = 0 := by
  refine ⟨by unfold State.Delivers; decide +kernel, by decide +kernel, by decide +kernel, ?_, by rw [provingFrame_head.1]; decide, ?_⟩
  · simp [provingFrame, from9, goodProof]
  · rw [provingFrame_head.2, provingFrame_proof]
    have hr : withChallenged.roleAvailable .installer = true := by decide +kernel
    have hl : withChallenged.lockedOut .installer = false := by decide +kernel
    have hh : withChallenged.hmacCheck (List.replicate 16 1#8) goodProof 0 9 = true := by
      simp [State.hmacCheck, withChallenged, goodProof]
    have ht : ¬(0 + 1000000000 < withChallenged.now) := by decide +kernel
    simp [State.authCheck, hr, hl, challenged, partner9, ht]
    exact hh

end Sys2Proof.Tests
end

section
/-! The reset state. -/

-- One declaration after another: elaborated side by side, they outgrow the memory limit of the check.
set_option Elab.async false

namespace Sys2Proof.Machine

theorem rail_reset (r : Fin 32) : State.reset.rail r = {} := Vector.getElem_replicate _

theorem aux_reset (k : Fin 4) : State.reset.aux k = {} := Vector.getElem_replicate _

theorem phase_reset (p : Fin 56) : State.reset.phase p = {} := Vector.getElem_replicate _

theorem link_reset (n : Fin 8) : State.reset.link n = {} := Vector.getElem_replicate _

theorem op_reset (g : Fin 128) : State.reset.op g = {} := by
  have entries : State.reset.ops.entries = Vector.replicate 128 {} := rfl
  simp [State.op, entries, Vector.getD]

theorem canonical_reset : State.reset.Canonical := by
  unfold State.Canonical
  decide

/-- Settles O2: single fields by value, each vector by its replicated entry. -/
theorem resetState : Obligations.ResetState := by
  refine ⟨canonical_reset, rfl, rfl, rfl, rfl, rfl, rfl, rfl, rfl, rfl, fun r => ?_, fun k => ?_, fun p => ?_, fun n => ?_, fun g => ?_,
    rfl, rfl⟩
  · rw [rail_reset]
  · rw [aux_reset]
  · rw [phase_reset]
  · rw [link_reset]; decide
  · rw [op_reset]

end Sys2Proof.Machine
end

section
/-! The power path: leaving the window while the supply is still qualified. -/

set_option Elab.async false

namespace Sys2Proof.Machine

/-- A Keeper in IDLE whose path is in QUALIFY although the supply in its window is qualified already. -/
def qualifiedInQualify : State :=
  let s := State.reset
  { s with modes := { s.modes with mode := .idle }, path := { s.path with inWindow := true, qualified := true, st := .qualify } }

/-- Leaving the window counts a bounce of an unqualified supply alone (R225). -/
theorem windowExit_keeps_count_of_qualified :
    ∀ t, exec .vinWindowExit qualifiedInQualify = .next t → t.get K.PP_BOUNCE_COUNT = 0 := by
  intro t h
  have e : exec .vinWindowExit qualifiedInQualify = .next qualifiedInQualify.windowExit := by rfl
  rw [e] at h
  cases h
  decide

/-- Refutes O34: leaving the window counts a bounce only while the supply is not qualified, and the clause for `vinWindowExit` does not ask
that; from QUALIFY with a qualified supply the count stays. -/
theorem not_powerPathAndLoss : ¬ Obligations.PowerPathAndLoss := by
  intro h
  obtain ⟨⟨-, -, -, exit, -⟩, -⟩ := h
  obtain ⟨t, run, -, -, count, -⟩ := exit qualifiedInQualify (by decide) (by decide) (by decide) (by decide)
  rw [windowExit_keeps_count_of_qualified t run] at count
  exact absurd count (by decide)

end Sys2Proof.Machine
end

section
/-! The parts of the state, and which of them a function may change. -/

set_option Elab.async false

namespace Sys2Proof.Machine

/-- A part of the state that a claim may speak of: the fields, `otpRows` the programmed rows and spares alone, `events` the bits of
`MODE_EVENT`, `PP_EVENT` and `SEQ_EVENT`, which nothing but a write or a BOOT clears, and single objects. -/
inductive Part
  | objs | published | mram | now | freeIdx | answer | deferred | afterBoot | caps | modes | history | ops | ints | phases | tiles
  | frame | rails | auxs | seq | bus | sup | path | chg | est | met | therm | nvm | dma | mir | net | cfg | ports | links | hab
  | oasis | ledger | sec | otp | otpRows
  | events | wakeSource | wakeEnable | fsRetryCount | fsRetryAt | fsCause | resetCause | tbSource | bootResult | sealStage
  | faultShown | seqFault | habState

/-- The objects that a part stands for. -/
def Part.keys : Part → List Nat
  | .wakeSource => [K.WAKE_SOURCE]
  | .wakeEnable => [K.WAKE_ENABLE]
  | .fsRetryCount => [K.FS_RETRY_COUNT]
  | .fsRetryAt => [K.FS_RETRY_AT]
  | .fsCause => [K.FS_CAUSE]
  | .resetCause => [K.RESET_CAUSE]
  | .tbSource => [K.TB_SOURCE]
  | .bootResult => [K.BOOT_RESULT]
  | .sealStage => [K.SUP_SEAL_STAGE]
  | .faultShown => [K.SUP_FAULT_CODE, K.SUP_FAULT_KIND, K.SUP_FAULT_INDEX, K.SUP_FAULT_TILE]
  | .seqFault => [K.SEQ_FAULT_GROUP, K.SEQ_FAULT_STEP, K.SEQ_FAULT_CODE]
  | .habState => [K.HAB_STATE]
  | .events => [K.MODE_EVENT, K.PP_EVENT, K.SEQ_EVENT]
  | _ => []

/-- The parts that stand for objects. -/
def Part.named : List Part :=
  [.events, .wakeSource, .wakeEnable, .fsRetryCount, .fsRetryAt, .fsCause, .resetCause, .tbSource, .bootResult, .sealStage,
    .faultShown, .seqFault, .habState]

/-- From `s` to `t` a part stays; of the event objects that no bit is lost. -/
def Part.same (s t : State) : Part → Prop
  | .objs => t.objs = s.objs
  | .published => t.published = s.published
  | .mram => t.mram = s.mram
  | .now => t.now = s.now
  | .freeIdx => t.freeIdx = s.freeIdx
  | .answer => t.answer = s.answer
  | .deferred => t.deferred = s.deferred
  | .afterBoot => t.afterBoot = s.afterBoot
  | .caps => t.caps = s.caps
  | .modes => t.modes = s.modes
  | .history => t.history = s.history
  | .ops => t.ops = s.ops
  | .ints => t.ints = s.ints
  | .phases => t.phases = s.phases
  | .tiles => t.tiles = s.tiles
  | .frame => t.frame = s.frame
  | .rails => t.rails = s.rails
  | .auxs => t.auxs = s.auxs
  | .seq => t.seq = s.seq
  | .bus => t.bus = s.bus
  | .sup => t.sup = s.sup
  | .path => t.path = s.path
  | .chg => t.chg = s.chg
  | .est => t.est = s.est
  | .met => t.met = s.met
  | .therm => t.therm = s.therm
  | .nvm => t.nvm = s.nvm
  | .dma => t.dma = s.dma
  | .mir => t.mir = s.mir
  | .net => t.net = s.net
  | .cfg => t.cfg = s.cfg
  | .ports => t.ports = s.ports
  | .links => t.links = s.links
  | .hab => t.hab = s.hab
  | .oasis => t.oasis = s.oasis
  | .ledger => t.ledger = s.ledger
  | .sec => t.sec = s.sec
  | .otp => t.otp = s.otp
  | .otpRows => t.otp.rows = s.otp.rows ∧ t.otp.spares = s.otp.spares
  | .events => ∀ k ∈ Part.events.keys, ∀ j, bitOf (s.get k) j = true → bitOf (t.get k) j = true
  | p => ∀ k ∈ p.keys, t.get k = s.get k

/-- A set of parts, as the bits of a number. -/
abbrev Parts := Nat

/-- The set of the parts listed. -/
def parts : List Part → Parts
  | [] => 0
  | p :: ps => 2 ^ p.ctorIdx ||| parts ps

theorem testBit_parts {ps : List Part} {p : Part} (h : p ∈ ps) : (parts ps).testBit p.ctorIdx = true := by
  induction ps with
  | nil => cases h
  | cons q ps ih =>
    rw [parts, Nat.testBit_or]
    rcases List.mem_cons.1 h with rfl | h
    · simp
    · simp [ih h]

theorem testBit_parts_of_not {ps : List Part} {i : Nat} (h : ∀ p ∈ ps, p.ctorIdx ≠ i) : (parts ps).testBit i = false := by
  induction ps with
  | nil => simp [parts]
  | cons q ps ih =>
    rw [parts, Nat.testBit_or, ih fun p hp => h p (List.mem_cons_of_mem _ hp), Bool.or_false, Nat.testBit_two_pow_of_ne
      (h q List.mem_cons_self)]

/-- The set of all parts but those listed. -/
def allBut (ps : List Part) : Parts := (2 ^ 52 - 1) ^^^ parts ps

/-- From `s` to `t` only parts in `F` change. The queue stays, a history of at most 16 entries stays so, and so does the canonical form. -/
structure Within (F : Parts) (s t : State) : Prop where
  queue : t.pending = s.pending
  bound : s.history.length ≤ 16 → t.history.length ≤ 16
  canonical : s.Canonical → t.Canonical
  same : ∀ p : Part, F.testBit p.ctorIdx = false → p.same s t

variable {F G : Parts} {s t u : State}

theorem Part.same.refl : (p : Part) → p.same s s := by rintro (_ | _) <;> simp [Part.same]

theorem Part.same.trans {p : Part} (h : p.same s t) (h' : p.same t u) : p.same s u := by
  cases p
  case otpRows => exact ⟨h'.1.trans h.1, h'.2.trans h.2⟩
  case events => exact fun k hk j hj => h' k hk j (h k hk j hj)
  all_goals simp_all [Part.same]

namespace Within

theorem refl : Within F s s := ⟨rfl, id, id, fun p _ => Part.same.refl p⟩

theorem trans (h : Within F s t) (h' : Within F t u) : Within F s u :=
  ⟨h'.queue.trans h.queue, h'.bound ∘ h.bound, h'.canonical ∘ h.canonical, fun p hp => (h.same p hp).trans (h'.same p hp)⟩

/-- A larger set of parts. -/
theorem sub (h : Within G s t) (hs : G ||| F = F := by decide) : Within F s t :=
  ⟨h.queue, h.bound, h.canonical, fun p hp => h.same p (by rw [← hs, Nat.testBit_or] at hp; simpa using (Bool.or_eq_false_iff.1 hp).1)⟩

/-- One more function. -/
theorem next (h : Within F s t) (h' : Within G t u) (hs : G ||| F = F := by decide) : Within F s u := h.trans (h'.sub hs)

theorem ite {c : Prop} [Decidable c] (h : Within F s t) (h' : Within F s u) : Within F s (if c then t else u) := by
  split
  · exact h
  · exact h'

theorem foldl {α : Type} {f : State → α → State} {l : List α} (h0 : Within F s t) (h : ∀ u x, Within F u (f u x)) :
    Within F s (l.foldl f t) := foldl_keeps h0 fun u x hu => hu.trans (h u x)

theorem foldl_mem {α : Type} {f : State → α → State} {l : List α} (h0 : Within F s t) (h : ∀ u, ∀ x ∈ l, Within F u (f u x)) :
    Within F s (l.foldl f t) := by
  induction l generalizing t with
  | nil => exact h0
  | cons a l ih => exact ih (h0.trans (h t a List.mem_cons_self)) fun u x hx => h u x (List.mem_cons_of_mem _ hx)

theorem foldl_fst {α β : Type} {f : State × β → α → State × β} {l : List α} {b : β} (h0 : Within F s t)
    (h : ∀ a x, Within F a.1 (f a x).1) : Within F s (l.foldl f (t, b)).1 :=
  foldl_keeps (P := fun a => Within F s a.1) h0 fun a x ha => ha.trans (h a x)

/-- A state on the way. -/
theorem have_ (h : Within F s t) (k : Within F s t → Within F s u) : Within F s u := k h

theorem of_fst {α : Type} {p : State × α} {x : α} (h : Within F s p.1) (e : p = (t, x)) : Within F s t := by subst e; exact h

theorem of_snd {α : Type} {p : α × State} {x : α} (h : Within F s p.2) (e : p = (x, t)) : Within F s t := by subst e; exact h

/-- A function that changes none of the queue, the history and the stores. -/
theorem of {ps : List Part} (hq : t.pending = s.pending) (hh : t.history = s.history) (ho : t.objs = s.objs) (hm : t.mram = s.mram)
    (h : ∀ p, p ∉ ps → p.same s t) : Within (parts ps) s t :=
  ⟨hq, fun hb => by rwa [hh], fun hc => hc.congr ho hm, fun p hp => h p fun hps => by simp [testBit_parts hps] at hp⟩

theorem set_published {x} : Within (parts [.published]) s { s with published := x } := .of rfl rfl rfl rfl fun p hp => by
  have h := Part.same.refl (s := s) p
  cases p
  case published => simp at hp
  all_goals exact h

theorem set_now {x} : Within (parts [.now]) s { s with now := x } := .of rfl rfl rfl rfl fun p hp => by
  have h := Part.same.refl (s := s) p
  cases p
  case now => simp at hp
  all_goals exact h

theorem set_freeIdx {x} : Within (parts [.freeIdx]) s { s with freeIdx := x } := .of rfl rfl rfl rfl fun p hp => by
  have h := Part.same.refl (s := s) p
  cases p
  case freeIdx => simp at hp
  all_goals exact h

theorem set_answer {x} : Within (parts [.answer]) s { s with answer := x } := .of rfl rfl rfl rfl fun p hp => by
  have h := Part.same.refl (s := s) p
  cases p
  case answer => simp at hp
  all_goals exact h

theorem set_deferred {x} : Within (parts [.deferred]) s { s with deferred := x } := .of rfl rfl rfl rfl fun p hp => by
  have h := Part.same.refl (s := s) p
  cases p
  case deferred => simp at hp
  all_goals exact h

theorem set_afterBoot {x} : Within (parts [.afterBoot]) s { s with afterBoot := x } := .of rfl rfl rfl rfl fun p hp => by
  have h := Part.same.refl (s := s) p
  cases p
  case afterBoot => simp at hp
  all_goals exact h

theorem set_caps {x} : Within (parts [.caps]) s { s with caps := x } := .of rfl rfl rfl rfl fun p hp => by
  have h := Part.same.refl (s := s) p
  cases p
  case caps => simp at hp
  all_goals exact h

theorem set_modes {x} : Within (parts [.modes]) s { s with modes := x } := .of rfl rfl rfl rfl fun p hp => by
  have h := Part.same.refl (s := s) p
  cases p
  case modes => simp at hp
  all_goals exact h

theorem set_ops {x} : Within (parts [.ops]) s { s with ops := x } := .of rfl rfl rfl rfl fun p hp => by
  have h := Part.same.refl (s := s) p
  cases p
  case ops => simp at hp
  all_goals exact h

theorem set_ints {x} : Within (parts [.ints]) s { s with ints := x } := .of rfl rfl rfl rfl fun p hp => by
  have h := Part.same.refl (s := s) p
  cases p
  case ints => simp at hp
  all_goals exact h

theorem set_phases {x} : Within (parts [.phases]) s { s with phases := x } := .of rfl rfl rfl rfl fun p hp => by
  have h := Part.same.refl (s := s) p
  cases p
  case phases => simp at hp
  all_goals exact h

theorem set_tiles {x} : Within (parts [.tiles]) s { s with tiles := x } := .of rfl rfl rfl rfl fun p hp => by
  have h := Part.same.refl (s := s) p
  cases p
  case tiles => simp at hp
  all_goals exact h

theorem set_frame {x} : Within (parts [.frame]) s { s with frame := x } := .of rfl rfl rfl rfl fun p hp => by
  have h := Part.same.refl (s := s) p
  cases p
  case frame => simp at hp
  all_goals exact h

theorem set_rails {x} : Within (parts [.rails]) s { s with rails := x } := .of rfl rfl rfl rfl fun p hp => by
  have h := Part.same.refl (s := s) p
  cases p
  case rails => simp at hp
  all_goals exact h

theorem set_auxs {x} : Within (parts [.auxs]) s { s with auxs := x } := .of rfl rfl rfl rfl fun p hp => by
  have h := Part.same.refl (s := s) p
  cases p
  case auxs => simp at hp
  all_goals exact h

theorem set_seq {x} : Within (parts [.seq]) s { s with seq := x } := .of rfl rfl rfl rfl fun p hp => by
  have h := Part.same.refl (s := s) p
  cases p
  case seq => simp at hp
  all_goals exact h

theorem set_bus {x} : Within (parts [.bus]) s { s with bus := x } := .of rfl rfl rfl rfl fun p hp => by
  have h := Part.same.refl (s := s) p
  cases p
  case bus => simp at hp
  all_goals exact h

theorem set_sup {x} : Within (parts [.sup]) s { s with sup := x } := .of rfl rfl rfl rfl fun p hp => by
  have h := Part.same.refl (s := s) p
  cases p
  case sup => simp at hp
  all_goals exact h

theorem set_path {x} : Within (parts [.path]) s { s with path := x } := .of rfl rfl rfl rfl fun p hp => by
  have h := Part.same.refl (s := s) p
  cases p
  case path => simp at hp
  all_goals exact h

theorem set_chg {x} : Within (parts [.chg]) s { s with chg := x } := .of rfl rfl rfl rfl fun p hp => by
  have h := Part.same.refl (s := s) p
  cases p
  case chg => simp at hp
  all_goals exact h

theorem set_est {x} : Within (parts [.est]) s { s with est := x } := .of rfl rfl rfl rfl fun p hp => by
  have h := Part.same.refl (s := s) p
  cases p
  case est => simp at hp
  all_goals exact h

theorem set_met {x} : Within (parts [.met]) s { s with met := x } := .of rfl rfl rfl rfl fun p hp => by
  have h := Part.same.refl (s := s) p
  cases p
  case met => simp at hp
  all_goals exact h

theorem set_therm {x} : Within (parts [.therm]) s { s with therm := x } := .of rfl rfl rfl rfl fun p hp => by
  have h := Part.same.refl (s := s) p
  cases p
  case therm => simp at hp
  all_goals exact h

theorem set_nvm {x} : Within (parts [.nvm]) s { s with nvm := x } := .of rfl rfl rfl rfl fun p hp => by
  have h := Part.same.refl (s := s) p
  cases p
  case nvm => simp at hp
  all_goals exact h

theorem set_dma {x} : Within (parts [.dma]) s { s with dma := x } := .of rfl rfl rfl rfl fun p hp => by
  have h := Part.same.refl (s := s) p
  cases p
  case dma => simp at hp
  all_goals exact h

theorem set_mir {x} : Within (parts [.mir]) s { s with mir := x } := .of rfl rfl rfl rfl fun p hp => by
  have h := Part.same.refl (s := s) p
  cases p
  case mir => simp at hp
  all_goals exact h

theorem set_net {x} : Within (parts [.net]) s { s with net := x } := .of rfl rfl rfl rfl fun p hp => by
  have h := Part.same.refl (s := s) p
  cases p
  case net => simp at hp
  all_goals exact h

theorem set_cfg {x} : Within (parts [.cfg]) s { s with cfg := x } := .of rfl rfl rfl rfl fun p hp => by
  have h := Part.same.refl (s := s) p
  cases p
  case cfg => simp at hp
  all_goals exact h

theorem set_ports {x} : Within (parts [.ports]) s { s with ports := x } := .of rfl rfl rfl rfl fun p hp => by
  have h := Part.same.refl (s := s) p
  cases p
  case ports => simp at hp
  all_goals exact h

theorem set_links {x} : Within (parts [.links]) s { s with links := x } := .of rfl rfl rfl rfl fun p hp => by
  have h := Part.same.refl (s := s) p
  cases p
  case links => simp at hp
  all_goals exact h

theorem set_hab {x} : Within (parts [.hab]) s { s with hab := x } := .of rfl rfl rfl rfl fun p hp => by
  have h := Part.same.refl (s := s) p
  cases p
  case hab => simp at hp
  all_goals exact h

theorem set_oasis {x} : Within (parts [.oasis]) s { s with oasis := x } := .of rfl rfl rfl rfl fun p hp => by
  have h := Part.same.refl (s := s) p
  cases p
  case oasis => simp at hp
  all_goals exact h

theorem set_ledger {x} : Within (parts [.ledger]) s { s with ledger := x } := .of rfl rfl rfl rfl fun p hp => by
  have h := Part.same.refl (s := s) p
  cases p
  case ledger => simp at hp
  all_goals exact h

theorem set_sec {x} : Within (parts [.sec]) s { s with sec := x } := .of rfl rfl rfl rfl fun p hp => by
  have h := Part.same.refl (s := s) p
  cases p
  case sec => simp at hp
  all_goals exact h

theorem set_otp {x} : Within (parts [.otp, .otpRows]) s { s with otp := x } := .of rfl rfl rfl rfl fun p hp => by
  have h := Part.same.refl (s := s) p
  cases p
  case otp | otpRows => simp at hp
  all_goals exact h

end Within

end Sys2Proof.Machine
end

section
/-! What the shared operations change. -/

set_option Elab.async false

namespace Sys2Proof.Machine

variable {F G : Parts} {s t u : State}

/-! ### Objects -/

/-- The parts that a write of an object changes beside `objs`. -/
def keyParts (key : Nat) : Parts := parts (Part.named.filter fun p => p.keys.contains key)

/-- The parts that an event object's bit changes beside `objs`: no bit of it is lost. -/
def bitParts (key : Nat) : Parts := parts ((Part.named.drop 1).filter fun p => p.keys.contains key)

theorem keyParts_of_mem {p : Part} {key : Nat} (hp : p ∈ Part.named) (hk : key ∈ p.keys) : (keyParts key).testBit p.ctorIdx = true :=
  testBit_parts (List.mem_filter.2 ⟨hp, by simpa using hk⟩)

theorem bitParts_of_mem {p : Part} {key : Nat} (hp : p ∈ Part.named.drop 1) (hk : key ∈ p.keys) :
    (bitParts key).testBit p.ctorIdx = true := testBit_parts (List.mem_filter.2 ⟨hp, by simpa using hk⟩)

/-- The objects that some part names. -/
def Part.watched : List Nat := Part.named.flatMap Part.keys

theorem keyParts_eq_zero {key : Nat} (h : key ∉ Part.watched) : keyParts key = 0 := by
  have : (Part.named.filter fun p => p.keys.contains key) = [] := by
    rw [List.filter_eq_nil_iff]
    intro p hp hk
    exact h (List.mem_flatMap.2 ⟨p, hp, by simpa using hk⟩)
  rw [keyParts, this, parts]

/-- Where two states differ in their objects alone, a part that speaks of other objects than `key` stays. -/
theorem Part.same_of_objs {key : Nat} {p : Part} {o : List (Nat × Int)} (hg : ∀ k, k ≠ key → State.get { s with objs := o } k = s.get k)
    (ho : (parts [.objs]).testBit p.ctorIdx = false) (hk : key ∉ p.keys) : p.same s { s with objs := o } := by
  have h := Part.same.refl (s := s) p
  cases p
  case objs => exact absurd ho (by decide)
  case events => exact fun k hk' j hj => by rw [hg k fun h => hk (h ▸ hk')]; exact hj
  case wakeSource | wakeEnable | fsRetryCount | fsRetryAt | fsCause | resetCause | tbSource | bootResult | sealStage | faultShown |
    seqFault | habState =>
    exact fun k hk' => hg k fun h => hk (h ▸ hk')
  all_goals exact h

theorem Part.mem_named {p : Part} {key : Nat} (h : key ∈ p.keys) : p ∈ Part.named := by
  cases p
  case wakeSource | wakeEnable | fsRetryCount | fsRetryAt | fsCause | resetCause | tbSource | bootResult | sealStage | faultShown |
    seqFault | habState
    | events => simp [Part.named]
  all_goals simp [Part.keys] at h

theorem State.put_within {key : Nat} {v : Int} : Within (parts [.objs] ||| keyParts key) s (s.put key v) where
  queue := rfl
  bound := id
  canonical h := h.put key v
  same p hp := by
    rw [Nat.testBit_or, Bool.or_eq_false_iff] at hp
    obtain ⟨ho, hk⟩ := hp
    exact Part.same_of_objs (key := key) (fun k h => s.get_put_ne h v) ho fun h => by
      simp [keyParts_of_mem (Part.mem_named h) h] at hk

theorem State.put_plain {key : Nat} {v : Int} (h : keyParts key = 0) : Within (parts [.objs]) s (s.put key v) :=
  State.put_within.sub (by rw [h]; rfl)

theorem State.addSat_within {key n : Nat} : Within (parts [.objs] ||| keyParts key) s (s.addSat key n).1 := State.put_within

theorem State.addSat_plain {key n : Nat} (h : keyParts key = 0) : Within (parts [.objs]) s (s.addSat key n).1 := State.put_plain h

/-- The parts that writes of several objects change beside `objs`. -/
def keysParts (keys : List Nat) : Parts := keys.foldr (fun k F => keyParts k ||| F) 0

theorem State.puts_within {kvs : List (Nat × Int)} : Within (parts [.objs] ||| keysParts (kvs.map Prod.fst)) s (s.puts kvs) := by
  unfold State.puts
  induction kvs generalizing s with
  | nil => exact .refl
  | cons kv l ih =>
    have hk : keysParts ((kv :: l).map Prod.fst) = keyParts kv.1 ||| keysParts (l.map Prod.fst) := rfl
    rw [hk]
    refine (State.put_within.sub ?_).trans (ih.sub ?_)
    · rw [← Nat.or_assoc (parts [.objs]), ← Nat.or_assoc, Nat.or_self]
    · rw [Nat.or_comm (keyParts kv.1), ← Nat.or_assoc (parts [.objs]), ← Nat.or_assoc, Nat.or_self]

theorem State.puts_plain {kvs : List (Nat × Int)} (h : ∀ kv ∈ kvs, keyParts kv.1 = 0) : Within (parts [.objs]) s (s.puts kvs) := by
  unfold State.puts
  induction kvs generalizing s with
  | nil => exact .refl
  | cons kv l ih =>
    exact (State.put_plain (h kv (by simp))).trans (ih fun kv hkv => h kv (by simp [hkv]))

theorem State.fresh_within : Within (parts [.freeIdx]) s s.fresh.2 := .set_freeIdx

theorem State.random_within {n : Nat} : Within (parts [.freeIdx]) s (s.random n).2 := .set_freeIdx

/-! ### Events -/

theorem State.setPending_within {n : Nat} {b : Bool} : Within (parts [.ints]) s (s.setPending n b) := .set_ints

theorem State.setInService_within {n : Nat} {b : Bool} : Within (parts [.ints]) s (s.setInService n b) := .set_ints

/-- An event's bit is set. -/
theorem State.setBit_within {key k : Nat} : Within (parts [.objs] ||| bitParts key) s (s.put key (setBit (s.get key) k)) where
  queue := rfl
  bound := id
  canonical h := h.put key _
  same p hp := by
    rw [Nat.testBit_or, Bool.or_eq_false_iff] at hp
    obtain ⟨ho, hk⟩ := hp
    by_cases he : p = .events
    · subst he
      intro a _ j hj
      by_cases ha : a = key
      · subst ha; rw [State.get_put_self, bitOf_setBit, hj, Bool.true_or]
      · rw [State.get_put_ne _ ha]; exact hj
    · exact Part.same_of_objs (key := key) (fun k h => s.get_put_ne h _) ho fun h => by
        have hm : p ∈ Part.named.drop 1 := (List.mem_cons.1 (Part.mem_named h)).resolve_left he
        simp [bitParts_of_mem hm h] at hk

/-- The parts that an event changes. -/
def eventParts (key : Nat) : Parts := parts [.objs, .ints, .net] ||| bitParts key

theorem or_le_or {A B : Parts} (C : Parts) (h : A ||| B = B) : (A ||| C) ||| (B ||| C) = B ||| C := by
  rw [show (A ||| C) ||| (B ||| C) = (A ||| B) ||| (C ||| C) by ac_rfl, h, Nat.or_self]

theorem le_or {A B : Parts} (C : Parts) (h : A ||| B = B) : A ||| (B ||| C) = B ||| C := by rw [← Nat.or_assoc, h]

theorem State.raiseBit_within {e : EventObj} {k : Nat} : Within (eventParts e.key) s (s.raiseBit e k).1 := by
  unfold State.raiseBit
  have hp : Within (eventParts e.key) s (s.put e.key (setBit (s.get e.key) k)) := State.setBit_within.sub (or_le_or _ (by decide))
  split
  · exact .refl
  · split
    · exact .refl
    · dsimp only
      split
      · exact hp.next State.setPending_within (le_or _ (by decide))
      · exact hp

theorem State.queueEvents_within {src value : Nat} : Within (parts [.net]) s (s.queueEvents src value).1 := by
  unfold State.queueEvents
  refine foldl_keeps (P := fun a : State × Nat => Within (parts [.net]) s a.1) .refl fun a i ha => ?_
  dsimp only
  split
  · split
    · exact ha.next .set_net
    · exact ha
  · exact ha

theorem State.raiseHeard_within {e : EventObj} {k : Nat} : Within (eventParts e.key) s (s.raiseHeard e k).1 := by
  have hb := State.raiseBit_within (s := s) (e := e) (k := k)
  unfold State.raiseHeard
  split
  · rename_i t ht; rw [ht] at hb; exact hb
  · rename_i t ht; rw [ht] at hb; exact hb.next State.queueEvents_within (le_or _ (by decide))

theorem State.countDrops_within {n : Nat} : Within (parts [.objs, .ints, .net]) s (s.countDrops n) := by
  have hd (u : State) (m : Nat) : Within (parts [.objs, .ints, .net]) u (u.addSat K.NET_EVENTS_DROPPED m).1 := State.addSat_within.sub
  have hn (u : State) (k : Nat) : Within (parts [.objs, .ints, .net]) u (u.raiseHeard Ev.net k).1 := State.raiseHeard_within.sub
  unfold State.countDrops
  split
  · exact .refl
  · dsimp only
    refine .trans ?_ (hd _ _)
    have h1 := hd s n
    generalize s.addSat K.NET_EVENTS_DROPPED n = a at h1 ⊢
    have h2 : Within (parts [.objs, .ints, .net]) s (if a.1.net.dropArmed then
        ({ a.1 with net := { a.1.net with dropArmed := false } }).raiseHeard Ev.net 11 else (a.1, 0)).1 := by
      split
      · exact (h1.next .set_net).trans (hn _ _)
      · exact h1
    generalize (if a.1.net.dropArmed then ({ a.1 with net := { a.1.net with dropArmed := false } }).raiseHeard Ev.net 11
      else (a.1, 0)) = b at h2 ⊢
    have h3 : Within (parts [.objs, .ints, .net]) s (if a.2 then (b.1, true) else b.1.addSat K.NET_EVENTS_DROPPED b.2).1 := by
      split
      · exact h2
      · exact h2.trans (hd _ _)
    generalize (if a.2 then (b.1, true) else b.1.addSat K.NET_EVENTS_DROPPED b.2) = c at h3 ⊢
    split
    · exact h3.trans (hn _ _)
    · exact h3

theorem State.raise_within {e : EventObj} {k : Nat} : Within (eventParts e.key) s (s.raise e k) :=
  State.raiseHeard_within.trans (State.countDrops_within.sub (le_or _ (by decide)))

/-- The parts that an event changes which may have to wait. -/
def laterParts (key : Nat) : Parts := parts [.objs, .ints, .net, .deferred, .afterBoot] ||| bitParts key

theorem State.defer_within {e : EventObj} {k : Nat} : Within (parts [.deferred, .afterBoot]) s (s.defer e k) := by
  unfold State.defer
  split <;> split
  · exact .refl
  · exact Within.set_afterBoot.sub
  · exact .refl
  · exact Within.set_deferred.sub

theorem State.raiseLater_within {e : EventObj} {k : Nat} : Within (laterParts e.key) s (s.raiseLater e k) := by
  unfold State.raiseLater
  split
  · exact State.raise_within.sub (or_le_or _ (by decide))
  · exact State.defer_within.sub (le_or _ (by decide))

theorem State.evOfKey_key {key : Nat} {e : EventObj} (h : State.evOfKey key = some e) : e.key = key := by
  unfold State.evOfKey at h
  split at h
  · split at h
    · cases h; rfl
    · cases h
  · cases h

/-- No named object but those of `events` is an event object. -/
theorem State.bitParts_evOfKey {key : Nat} {e : EventObj} (h : State.evOfKey key = some e) : bitParts e.key = 0 := by
  have hn : ∀ k ∈ (Part.named.drop 1).flatMap Part.keys, State.evOfKey k = none := by decide +kernel
  have : ((Part.named.drop 1).filter fun p => p.keys.contains e.key) = [] := by
    rw [List.filter_eq_nil_iff]
    intro p hp hk
    rw [State.evOfKey_key h] at hk
    have := hn key (List.mem_flatMap.2 ⟨p, hp, by simpa using hk⟩)
    rw [this] at h
    cases h
  rw [bitParts, this, parts]

theorem State.satBit_evOfKey {key k : Nat} {e : EventObj} (h : State.satBit key = some (e, k)) : ∃ key', State.evOfKey key' = some e := by
  unfold State.satBit at h
  split at h
  · split at h
    · obtain ⟨e', he, hk⟩ := Option.map_eq_some_iff.1 h
      cases hk
      exact ⟨_, he⟩
    · cases h
  · cases h

/-- The parts that a count changes. -/
def countParts (key : Nat) : Parts := parts [.objs, .ints, .net, .deferred, .afterBoot] ||| keyParts key

theorem State.bump_within {key : Nat} : Within (countParts key) s (s.bump key) := by
  have ha := (State.addSat_within (s := s) (key := key) (n := 1)).sub (or_le_or (B := parts [.objs, .ints, .net, .deferred, .afterBoot])
    (keyParts key) (by decide))
  unfold State.bump
  split
  · rename_i t ht; rw [ht] at ha; exact ha
  · rename_i t ht
    rw [ht] at ha
    split
    · rename_i e k he
      obtain ⟨key', he'⟩ := State.satBit_evOfKey he
      refine ha.next State.raiseLater_within ?_
      rw [laterParts, State.bitParts_evOfKey he']
      exact le_or _ (by decide)
    · exact ha

theorem State.bump_plain {key : Nat} (h : keyParts key = 0) :
    Within (parts [.objs, .ints, .net, .deferred, .afterBoot]) s (s.bump key) := State.bump_within.sub (by rw [countParts, h]; decide)

theorem bitParts_eq_zero {key : Nat} (h : keyParts key = 0) : bitParts key = 0 := by
  have : Part.named = .events :: Part.named.drop 1 := rfl
  rw [keyParts, this, List.filter_cons] at h
  split at h
  · exact (Nat.or_eq_zero_iff.1 h).2
  · exact h

theorem State.raise_plain {e : EventObj} {k : Nat} (h : keyParts e.key = 0) : Within (parts [.objs, .ints, .net]) s (s.raise e k) :=
  State.raise_within.sub (by rw [eventParts, bitParts_eq_zero h]; decide)

theorem State.raiseLater_plain {e : EventObj} {k : Nat} (h : keyParts e.key = 0) :
    Within (parts [.objs, .ints, .net, .deferred, .afterBoot]) s (s.raiseLater e k) :=
  State.raiseLater_within.sub (by rw [laterParts, bitParts_eq_zero h]; decide)

theorem keyParts_le_named (key : Nat) : keyParts key ||| parts Part.named = parts Part.named := by
  refine Nat.eq_of_testBit_eq fun i => ?_
  rw [Nat.testBit_or]
  by_cases h : (keyParts key).testBit i = true
  · rw [h, Bool.true_or]
    obtain ⟨p, hp, rfl⟩ : ∃ p ∈ Part.named.filter (fun p => p.keys.contains key), p.ctorIdx = i := by
      by_contra hn
      exact absurd h (by rw [keyParts, testBit_parts_of_not fun p hp hi => hn ⟨p, hp, hi⟩]; simp)
    exact (testBit_parts (List.mem_filter.1 hp).1).symm
  · simp [h]

/-- A write of any object. -/
theorem State.put_any {key : Nat} {v : Int} : Within (parts [.objs] ||| parts Part.named) s (s.put key v) := by
  refine State.put_within.sub ?_
  rw [← Nat.or_assoc, Nat.or_right_comm _ _ (parts [.objs]), Nat.or_self, Nat.or_assoc, keyParts_le_named]

/-- Writes of the objects listed. -/
theorem State.puts_keys {kvs : List (Nat × Int)} {keys : List Nat} (h : kvs.map Prod.fst = keys) :
    Within (parts [.objs] ||| keysParts keys) s (s.puts kvs) := h ▸ State.puts_within

theorem State.puts_any {kvs : List (Nat × Int)} : Within (parts [.objs] ||| parts Part.named) s (s.puts kvs) :=
  Within.refl.foldl fun _ _ => State.put_any

theorem State.bump_any {key : Nat} :
    Within (parts [.objs, .ints, .net, .deferred, .afterBoot] ||| parts Part.named) s (s.bump key) := by
  refine State.bump_within.sub ?_
  rw [countParts, ← Nat.or_assoc, Nat.or_right_comm _ _ (parts [.objs, .ints, .net, .deferred, .afterBoot]), Nat.or_self, Nat.or_assoc,
    keyParts_le_named]

/-- An event of an object that the dictionary gives as one. -/
theorem State.raise_evOfKey {key k : Nat} {e : EventObj} (h : State.evOfKey key = some e) :
    Within (parts [.objs, .ints, .net]) s (s.raise e k) :=
  State.raise_within.sub (by rw [eventParts, State.bitParts_evOfKey h]; decide)

theorem State.raiseDeferred_within : Within (parts [.objs, .deferred, .ints, .net]) s s.raiseDeferred := by
  unfold State.raiseDeferred
  refine Within.set_deferred.sub.foldl fun u d => ?_
  split
  · exact (State.raise_evOfKey ‹_›).sub
  · exact .refl

theorem State.leaseRevoked_within {row : Nat} (h : keyParts (K.SUP_LEASE_REVOKES row) = 0 := by decide) :
    Within (parts [.objs, .ints, .net, .deferred, .afterBoot]) s (s.leaseRevoked row) :=
  (State.bump_plain h).next State.raiseLater_within

/-! ### History, MRAM and values -/

theorem State.restart_within {key : Nat} : Within (parts [.objs, .published] ||| keyParts key) s (s.restart key) :=
  (State.put_within.sub (or_le_or _ (by decide))).next .set_published (le_or _ (by decide))

theorem Within.set_mram {m : List Host.Cell} (h : Memory.wf s.mram = true → Memory.wf m = true) :
    Within (parts [.mram]) s { s with mram := m } where
  queue := rfl
  bound := id
  canonical hc := ⟨hc.1, h hc.2⟩
  same p hp := by
    have h := Part.same.refl (s := s) p
    cases p
    case mram => exact absurd hp (by decide)
    all_goals exact h

theorem State.writeMram_within {a : Nat} {bs : Bytes} : Within (parts [.mram]) s (s.writeMram a bs) := by
  induction bs generalizing s a with
  | nil => exact .refl
  | cons b bs ih =>
    unfold State.writeMram
    refine .trans ?_ ih
    split
    · exact .set_mram fun h => Memory.put_wf ‹_› h
    · exact .refl

theorem State.eraseMram_within {a n : Nat} : Within (parts [.mram]) s (s.eraseMram a n) := .set_mram fun h => Memory.filter_wf _ h

theorem State.addHistory_within {at_ : Nat} {src dst : Mode} {why : Reason} :
    Within (parts [.history]) s (s.addHistory at_ src dst why) := by
  unfold State.addHistory
  split
  · exact .refl
  · exact {
      queue := rfl
      bound := fun _ => by simp
      canonical := id
      same := fun p hp => by
        have h := Part.same.refl (s := s) p
        cases p
        case history => exact absurd hp (by decide)
        all_goals exact h }

theorem State.freshes_within {n : Nat} : Within (parts [.freeIdx]) s (s.freshes n).2 := by
  induction n generalizing s with
  | zero => exact .refl
  | succ n ih => exact State.fresh_within.trans ih

theorem State.takeCmd_some_within {r : Fin 32} {f : RailCmd → Bool} {c : RailCmd} (h : s.takeCmd r f = some (c, t)) :
    Within (parts [.rails]) s t := by
  unfold State.takeCmd at h
  split at h
  · cases h; exact .set_rails
  · cases h

/-! ### Objects that no part names -/

theorem Part.watched_eq : Part.watched = [0x200401, 0x400801, 0x218301, 0x203002, 0x203001, 0x202003, 0x202005, 0x202004, 0x201200,
    0x780300,
  0x201000, 0x230107, 0x230101, 0x230102, 0x230103, 0x230104, 0x218401, 0x218402, 0x218404, 0x78A000] := rfl

/-- An object outside the ranges of the named ones is plain. -/
theorem keyParts_of_range {key : Nat} (h : key < 0x200401 ∨ 0x203002 < key ∧ key < 0x218301 ∨ 0x218404 < key ∧ key < 0x230101 ∨
    0x230107 < key ∧ key < 0x400801 ∨ 0x400801 < key ∧ key < 0x780300 ∨ 0x780300 < key ∧ key < 0x78A000 ∨
    0x78A000 < key) : keyParts key = 0 :=
  keyParts_eq_zero (by simp only [Part.watched_eq, List.mem_cons, List.not_mem_nil, or_false]; omega)

@[simp] theorem keyParts_AUX_EVENT (u : Fin 4) : keyParts (K.AUX_EVENT u) = 0 := keyParts_of_range (by unfold K.AUX_EVENT; omega)

@[simp] theorem Ev.aux_key (u : Nat) : (Ev.aux u).key = K.AUX_EVENT u := rfl

@[simp] theorem keyParts_AUX_I (u : Fin 4) : keyParts (K.AUX_I u) = 0 := keyParts_of_range (by unfold K.AUX_I; omega)

@[simp] theorem keyParts_AUX_LOSS (u : Fin 4) : keyParts (K.AUX_LOSS u) = 0 := keyParts_of_range (by unfold K.AUX_LOSS; omega)

@[simp] theorem keyParts_AUX_V (u : Fin 4) : keyParts (K.AUX_V u) = 0 := keyParts_of_range (by unfold K.AUX_V; omega)

@[simp] theorem keyParts_BEAM_CRC_DOWN (u : Fin 8) : keyParts (K.BEAM_CRC_DOWN u) = 0 :=
    keyParts_of_range (by unfold K.BEAM_CRC_DOWN; omega)

@[simp] theorem keyParts_BEAM_CRC_UP (u : Fin 8) : keyParts (K.BEAM_CRC_UP u) = 0 := keyParts_of_range (by unfold K.BEAM_CRC_UP; omega)

@[simp] theorem keyParts_BEAM_LOSS_REASON (u : Fin 8) : keyParts (K.BEAM_LOSS_REASON u) = 0 :=
    keyParts_of_range (by unfold K.BEAM_LOSS_REASON; omega)

@[simp] theorem keyParts_BEAM_REPLAYS (u : Fin 8) : keyParts (K.BEAM_REPLAYS u) = 0 := keyParts_of_range (by unfold K.BEAM_REPLAYS; omega)

@[simp] theorem keyParts_BEAM_TILE_VERSIONS (u : Fin 8) : keyParts (K.BEAM_TILE_VERSIONS u) = 0 :=
    keyParts_of_range (by unfold K.BEAM_TILE_VERSIONS; omega)

@[simp] theorem keyParts_BEAM_TIME_OFFSET (u : Fin 8) : keyParts (K.BEAM_TIME_OFFSET u) = 0 :=
    keyParts_of_range (by unfold K.BEAM_TIME_OFFSET; omega)

@[simp] theorem keyParts_BEAM_TIME_OFFSET_MAX (u : Fin 8) : keyParts (K.BEAM_TIME_OFFSET_MAX u) = 0 :=
    keyParts_of_range (by unfold K.BEAM_TIME_OFFSET_MAX; omega)

@[simp] theorem keyParts_BEAM_TRAIN_RESULT (u : Fin 8) : keyParts (K.BEAM_TRAIN_RESULT u) = 0 :=
    keyParts_of_range (by unfold K.BEAM_TRAIN_RESULT; omega)

@[simp] theorem keyParts_BEAM_VERSION (u : Fin 8) : keyParts (K.BEAM_VERSION u) = 0 := keyParts_of_range (by unfold K.BEAM_VERSION; omega)

@[simp] theorem keyParts_DMA_CH_CHECK (u : Fin 8) : keyParts (K.DMA_CH_CHECK u) = 0 := keyParts_of_range (by unfold K.DMA_CH_CHECK; omega)

@[simp] theorem keyParts_DMA_CH_ELEMENTS (u : Fin 8) : keyParts (K.DMA_CH_ELEMENTS u) = 0 :=
    keyParts_of_range (by unfold K.DMA_CH_ELEMENTS; omega)

@[simp] theorem keyParts_DMA_CH_HALT (u : Fin 8) : keyParts (K.DMA_CH_HALT u) = 0 := keyParts_of_range (by unfold K.DMA_CH_HALT; omega)

@[simp] theorem keyParts_DMA_CH_RETRIES (u : Fin 8) : keyParts (K.DMA_CH_RETRIES u) = 0 :=
    keyParts_of_range (by unfold K.DMA_CH_RETRIES; omega)

@[simp] theorem keyParts_DMA_EVENT (u : Fin 8) : keyParts (K.DMA_EVENT u) = 0 := keyParts_of_range (by unfold K.DMA_EVENT; omega)

@[simp] theorem Ev.dma_key (u : Nat) : (Ev.dma u).key = K.DMA_EVENT u := rfl

@[simp] theorem keyParts_GRP_RESULT (u : Fin 16) : keyParts (K.GRP_RESULT u) = 0 := keyParts_of_range (by unfold K.GRP_RESULT; omega)

@[simp] theorem keyParts_GRP_UP_COUNT (u : Fin 16) : keyParts (K.GRP_UP_COUNT u) = 0 := keyParts_of_range (by unfold K.GRP_UP_COUNT; omega)

@[simp] theorem keyParts_LEDGER_B_TILE (u : Fin 32) : keyParts (K.LEDGER_B_TILE u) = 0 :=
    keyParts_of_range (by unfold K.LEDGER_B_TILE; omega)

@[simp] theorem keyParts_LEDGER_P_TILE (u : Fin 32) : keyParts (K.LEDGER_P_TILE u) = 0 :=
    keyParts_of_range (by unfold K.LEDGER_P_TILE; omega)

@[simp] theorem keyParts_LEDGER_RAIL_ACTION (u : Fin 32) : keyParts (K.LEDGER_RAIL_ACTION u) = 0 :=
    keyParts_of_range (by unfold K.LEDGER_RAIL_ACTION; omega)

@[simp] theorem keyParts_LEDGER_RAIL_CAP (u : Fin 32) : keyParts (K.LEDGER_RAIL_CAP u) = 0 :=
    keyParts_of_range (by unfold K.LEDGER_RAIL_CAP; omega)

@[simp] theorem keyParts_MP_CAL_REV (u : Fin 4) : keyParts (K.MP_CAL_REV u) = 0 := keyParts_of_range (by unfold K.MP_CAL_REV; omega)

@[simp] theorem keyParts_MP_EVENT (u : Fin 4) : keyParts (K.MP_EVENT u) = 0 := keyParts_of_range (by unfold K.MP_EVENT; omega)

@[simp] theorem Ev.mp_key (u : Nat) : (Ev.mp u).key = K.MP_EVENT u := rfl

@[simp] theorem keyParts_MP_I (u : Fin 4) : keyParts (K.MP_I u) = 0 := keyParts_of_range (by unfold K.MP_I; omega)

@[simp] theorem keyParts_MP_I_RAW (u : Fin 4) : keyParts (K.MP_I_RAW u) = 0 := keyParts_of_range (by unfold K.MP_I_RAW; omega)

@[simp] theorem keyParts_MP_OVERRANGE_COUNT (u : Fin 4) : keyParts (K.MP_OVERRANGE_COUNT u) = 0 :=
    keyParts_of_range (by unfold K.MP_OVERRANGE_COUNT; omega)

@[simp] theorem keyParts_MP_P (u : Fin 4) : keyParts (K.MP_P u) = 0 := keyParts_of_range (by unfold K.MP_P; omega)

@[simp] theorem keyParts_MP_SESSION_COUNT (u : Fin 4) : keyParts (K.MP_SESSION_COUNT u) = 0 :=
    keyParts_of_range (by unfold K.MP_SESSION_COUNT; omega)

@[simp] theorem keyParts_MP_SESS_RESULT (u : Fin 4) : keyParts (K.MP_SESS_RESULT u) = 0 :=
    keyParts_of_range (by unfold K.MP_SESS_RESULT; omega)

@[simp] theorem keyParts_MP_SESS_TAG (u : Fin 4) : keyParts (K.MP_SESS_TAG u) = 0 := keyParts_of_range (by unfold K.MP_SESS_TAG; omega)

@[simp] theorem keyParts_MP_V (u : Fin 4) : keyParts (K.MP_V u) = 0 := keyParts_of_range (by unfold K.MP_V; omega)

@[simp] theorem keyParts_MP_V_RAW (u : Fin 4) : keyParts (K.MP_V_RAW u) = 0 := keyParts_of_range (by unfold K.MP_V_RAW; omega)

@[simp] theorem keyParts_NET_A_COUNTS (u : Fin 32) : keyParts (K.NET_A_COUNTS u) = 0 := keyParts_of_range (by unfold K.NET_A_COUNTS; omega)

@[simp] theorem keyParts_NET_B_COUNTS (u : Fin 32) : keyParts (K.NET_B_COUNTS u) = 0 := keyParts_of_range (by unfold K.NET_B_COUNTS; omega)

@[simp] theorem keyParts_PH_DUTY (u : Fin 56) : keyParts (K.PH_DUTY u) = 0 := keyParts_of_range (by unfold K.PH_DUTY; omega)

@[simp] theorem keyParts_PH_EVENT (u : Fin 56) : keyParts (K.PH_EVENT u) = 0 := keyParts_of_range (by unfold K.PH_EVENT; omega)

@[simp] theorem Ev.phase_key (u : Nat) : (Ev.phase u).key = K.PH_EVENT u := rfl

@[simp] theorem keyParts_PH_I (u : Fin 56) : keyParts (K.PH_I u) = 0 := keyParts_of_range (by unfold K.PH_I; omega)

@[simp] theorem keyParts_PH_I_PEAK (u : Fin 56) : keyParts (K.PH_I_PEAK u) = 0 := keyParts_of_range (by unfold K.PH_I_PEAK; omega)

@[simp] theorem keyParts_PH_LIMIT_CYCLES (u : Fin 56) : keyParts (K.PH_LIMIT_CYCLES u) = 0 :=
    keyParts_of_range (by unfold K.PH_LIMIT_CYCLES; omega)

@[simp] theorem keyParts_PH_LOSS (u : Fin 56) : keyParts (K.PH_LOSS u) = 0 := keyParts_of_range (by unfold K.PH_LOSS; omega)

@[simp] theorem keyParts_PH_SENSE_TESTS (u : Fin 56) : keyParts (K.PH_SENSE_TESTS u) = 0 :=
    keyParts_of_range (by unfold K.PH_SENSE_TESTS; omega)

@[simp] theorem keyParts_PH_SHED_COUNT (u : Fin 56) : keyParts (K.PH_SHED_COUNT u) = 0 :=
    keyParts_of_range (by unfold K.PH_SHED_COUNT; omega)

@[simp] theorem keyParts_PH_SHED_SCALE (u : Fin 56) : keyParts (K.PH_SHED_SCALE u) = 0 :=
    keyParts_of_range (by unfold K.PH_SHED_SCALE; omega)

@[simp] theorem keyParts_PH_T_HOT (u : Fin 56) : keyParts (K.PH_T_HOT u) = 0 := keyParts_of_range (by unfold K.PH_T_HOT; omega)

@[simp] theorem keyParts_PH_VBUS (u : Fin 56) : keyParts (K.PH_VBUS u) = 0 := keyParts_of_range (by unfold K.PH_VBUS; omega)

@[simp] theorem keyParts_PH_VCF (u : Fin 56) : keyParts (K.PH_VCF u) = 0 := keyParts_of_range (by unfold K.PH_VCF; omega)

@[simp] theorem keyParts_RAIL_BUILD_RESULT (u : Fin 32) : keyParts (K.RAIL_BUILD_RESULT u) = 0 :=
    keyParts_of_range (by unfold K.RAIL_BUILD_RESULT; omega)

@[simp] theorem keyParts_RAIL_EVENT (u : Fin 32) : keyParts (K.RAIL_EVENT u) = 0 := keyParts_of_range (by unfold K.RAIL_EVENT; omega)

@[simp] theorem Ev.rail_key (u : Nat) : (Ev.rail u).key = K.RAIL_EVENT u := rfl

@[simp] theorem keyParts_RAIL_I (u : Fin 32) : keyParts (K.RAIL_I u) = 0 := keyParts_of_range (by unfold K.RAIL_I; omega)

@[simp] theorem keyParts_RAIL_LIMIT_COUNT (u : Fin 32) : keyParts (K.RAIL_LIMIT_COUNT u) = 0 :=
    keyParts_of_range (by unfold K.RAIL_LIMIT_COUNT; omega)

@[simp] theorem keyParts_RAIL_P (u : Fin 32) : keyParts (K.RAIL_P u) = 0 := keyParts_of_range (by unfold K.RAIL_P; omega)

@[simp] theorem keyParts_RAIL_SUPERSEDED_COUNT (u : Fin 32) : keyParts (K.RAIL_SUPERSEDED_COUNT u) = 0 :=
    keyParts_of_range (by unfold K.RAIL_SUPERSEDED_COUNT; omega)

@[simp] theorem keyParts_RAIL_V (u : Fin 32) : keyParts (K.RAIL_V u) = 0 := keyParts_of_range (by unfold K.RAIL_V; omega)

@[simp] theorem keyParts_RAIL_VREF (u : Fin 32) : keyParts (K.RAIL_VREF u) = 0 := keyParts_of_range (by unfold K.RAIL_VREF; omega)

@[simp] theorem keyParts_RAIL_VSET (u : Fin 32) : keyParts (K.RAIL_VSET u) = 0 := keyParts_of_range (by unfold K.RAIL_VSET; omega)

@[simp] theorem keyParts_SEQ_LEGACY_STATUS (u : Fin 32) : keyParts (K.SEQ_LEGACY_STATUS u) = 0 :=
    keyParts_of_range (by unfold K.SEQ_LEGACY_STATUS; omega)

@[simp] theorem keyParts_SEQ_PG_CHATTER (u : Fin 32) : keyParts (K.SEQ_PG_CHATTER u) = 0 :=
    keyParts_of_range (by unfold K.SEQ_PG_CHATTER; omega)

@[simp] theorem keyParts_SIR_RATE (u : Fin 8) : keyParts (K.SIR_RATE u) = 0 := keyParts_of_range (by unfold K.SIR_RATE; omega)

@[simp] theorem keyParts_SIR_RESIDUAL (u : Fin 8) : keyParts (K.SIR_RESIDUAL u) = 0 := keyParts_of_range (by unfold K.SIR_RESIDUAL; omega)

@[simp] theorem keyParts_SIR_T_J (u : Fin 8) : keyParts (K.SIR_T_J u) = 0 := keyParts_of_range (by unfold K.SIR_T_J; omega)

@[simp] theorem keyParts_SIR_T_MAX (u : Fin 8) : keyParts (K.SIR_T_MAX u) = 0 := keyParts_of_range (by unfold K.SIR_T_MAX; omega)

@[simp] theorem keyParts_SIR_T_REF (u : Fin 8) : keyParts (K.SIR_T_REF u) = 0 := keyParts_of_range (by unfold K.SIR_T_REF; omega)

@[simp] theorem keyParts_SUP_LEASE_REVOKES (u : Fin 32) : keyParts (K.SUP_LEASE_REVOKES u) = 0 :=
    keyParts_of_range (by unfold K.SUP_LEASE_REVOKES; omega)

@[simp] theorem keyParts_SUP_RAIL_FAULTS (u : Fin 32) : keyParts (K.SUP_RAIL_FAULTS u) = 0 :=
    keyParts_of_range (by unfold K.SUP_RAIL_FAULTS; omega)

@[simp] theorem keyParts_SIR_SENSOR (t : Fin 8) (k : Fin 4) : keyParts (K.SIR_SENSOR t k) = 0 :=
    keyParts_of_range (by unfold K.SIR_SENSOR; omega)

@[simp] theorem keyParts_SIR_SENSOR_MODEL (t : Fin 8) (k : Fin 4) : keyParts (K.SIR_SENSOR_MODEL t k) = 0 :=
  keyParts_of_range (by unfold K.SIR_SENSOR_MODEL; omega)

@[simp] theorem keyParts_SIR_SENSOR_STATE (t : Fin 8) (k : Fin 4) : keyParts (K.SIR_SENSOR_STATE t k) = 0 :=
  keyParts_of_range (by unfold K.SIR_SENSOR_STATE; omega)

/-! ### Functions that write objects of numbered units -/

theorem Within.set_chg_ledger {c : ChargerSt} {l : LedgerSt} : Within (parts [.chg, .ledger]) s { s with chg := c, ledger := l } :=
  (Within.set_chg.sub (F := parts [.chg, .ledger])).next (s := s) (t := { s with chg := c }) .set_ledger

theorem State.quenchLedger_within : Within (parts [.objs, .chg, .ledger]) s s.quenchLedger := by
  unfold State.quenchLedger
  refine .next ?_ State.put_within
  refine Within.foldl_mem Within.set_chg_ledger.sub fun u n hn => ?_
  obtain ⟨n, rfl⟩ : ∃ m : Fin 32, m.val = n := ⟨⟨n, List.mem_range.1 hn⟩, rfl⟩
  exact (State.puts_plain (by simp)).sub

theorem State.loadAccounts_within : Within (parts [.objs, .ledger]) s s.loadAccounts := by
  have hk : ∀ k ∈ accounts, keyParts k = 0 := by decide
  unfold State.loadAccounts
  extract_lets u
  have h : Within (parts [.objs, .ledger]) s u :=
    .foldl_mem .refl fun u x hx => (State.put_plain (hk x.1 (List.of_mem_zip hx).1)).sub
  exact h.next .set_ledger

end Sys2Proof.Machine
end

section
/-! What each function of the model may change. -/

set_option Elab.async false

namespace Sys2Proof.Machine

variable {F G : Parts} {s t u : State}

theorem State.modNet_within {f} : Within (parts [.net]) s (State.modNet s f) := by
  unfold State.modNet
  exact Within.set_net.sub

theorem State.netBegin_within : Within (parts [.net]) s (State.netBegin s) := by
  unfold State.netBegin
  exact State.modNet_within.sub

theorem State.modHab_within {f} : Within (parts [.hab]) s (State.modHab s f) := by
  unfold State.modHab
  exact Within.set_hab.sub

theorem State.modJnl_within {f} : Within (parts [.met]) s (State.modJnl s f) := by
  unfold State.modJnl
  exact Within.set_met.sub

theorem State.modPoint_within {m f} : Within (parts [.met]) s (State.modPoint s m f) := by
  unfold State.modPoint
  exact Within.set_met.sub

theorem State.setOp_within {t e} : Within (parts [.ops]) s (State.setOp s t e) := by
  unfold State.setOp
  exact Within.set_ops.sub

theorem State.loseAbort_within {t} : Within (parts [.objs, .deferred, .afterBoot, .ops, .ints, .net]) s (State.loseAbort s t) := by
  unfold State.loseAbort
  exact Within.ite (((State.setOp_within.sub.next State.put_within).next State.bump_within).next State.raise_within) Within.refl

theorem State.reportOp_within {t e} : Within (parts [.objs, .ints, .net]) s (State.reportOp s t e) := by
  unfold State.reportOp
  extract_lets s11 s12
  refine .have_ (t := s11) (Within.ite State.put_within.sub State.put_within.sub) fun h11 => ?_
  refine .have_ (t := s12) (by
      unfold s12
      split
      · exact h11.next State.raise_within
      · exact h11.next State.raise_within
      · exact h11.next State.raise_within) fun h12 => ?_
  exact Within.ite h12 (h12.next State.raise_within)

theorem State.finishOne_within {t st result code} : Within (parts [.objs, .deferred, .afterBoot, .ops, .ints, .net]) s
    (State.finishOne s t st result code) := by
  unfold State.finishOne
  exact Within.ite (((Within.ite (Within.ite (State.setOp_within.sub.next State.put_within) Within.refl) State.loseAbort_within.sub).next
    State.setOp_within).next State.reportOp_within) Within.refl

theorem State.finish_within {t st result code} : Within (parts [.objs, .deferred, .afterBoot, .ops, .ints, .net]) s
    (State.finish s t st result code) := by
  unfold State.finish
  exact State.finishOne_within.sub.foldl fun _ _ => Within.ite State.finishOne_within.sub Within.refl

theorem State.refuseSession_within {m t code} : Within (parts [.objs, .deferred, .afterBoot, .ops, .ints, .net]) s
    (State.refuseSession s m t code) := by
  unfold State.refuseSession
  exact (((State.put_plain (by simp)).sub).next State.finish_within).next (State.raiseLater_plain (by simp))

theorem State.endOpening_within {m how} : Within (parts [.objs, .deferred, .afterBoot, .ops, .ints, .met, .net]) s
    (State.endOpening s m how) := by
  unfold State.endOpening
  extract_lets x11 s12 s13 s14
  refine .have_ (t := s12) State.modPoint_within.sub fun h12 => ?_
  refine .have_ (t := s13) (h12.next State.modJnl_within) fun h13 => ?_
  refine .have_ (t := s14) (by
      unfold s14
      split
      · exact h13.next State.finish_within
      · exact h13.next State.refuseSession_within
      · exact h13) fun h14 => ?_
  split
  · exact h14.next State.refuseSession_within
  · exact h14

theorem State.noteFill_within : Within (parts [.objs, .deferred, .afterBoot, .ints, .met, .net]) s (State.noteFill s) := by
  unfold State.noteFill
  extract_lets x11 x12 s13
  refine .have_ (t := s13) State.modJnl_within.sub fun h13 => ?_
  exact Within.ite (h13.next State.raiseLater_within) h13

theorem State.writeHeader_within : Within (parts [.met]) s (State.writeHeader s) := by
  unfold State.writeHeader
  exact State.modJnl_within.sub

theorem State.writeRecord_within {kind mp unsignedFlag chain payload} :
    Within (parts [.objs, .mram, .deferred, .afterBoot, .ints, .met, .net]) s (State.writeRecord s kind mp unsignedFlag chain payload) := by
  unfold State.writeRecord
  exact ((State.writeMram_within.sub.next State.modJnl_within).next State.writeHeader_within).next State.noteFill_within

theorem State.finish?_within {t st result code} : Within (parts [.objs, .deferred, .afterBoot, .ops, .ints, .net]) s
    (State.finish? s t st result code) := by
  unfold State.finish?
  split
  · exact State.finish_within.sub
  · exact Within.refl

theorem State.copyRegisters_within {m} : Within (parts [.met]) s (State.copyRegisters s m) := by
  unfold State.copyRegisters
  exact State.modPoint_within.sub

theorem State.writeStart_within {m sec frac exp imp} : Within (parts [.objs, .mram, .deferred, .afterBoot, .ops, .ints, .met, .net]) s
    (State.writeStart s m sec frac exp imp) := by
  unfold State.writeStart
  exact Within.ite Within.refl (Within.ite (State.endOpening_within.sub.next State.raise_within)
    (((((State.writeRecord_within.sub.next State.modPoint_within).next (State.put_plain (by simp))).next State.copyRegisters_within).next
    State.finish?_within).next (State.raiseLater_plain (by simp))))

theorem State.writeEnd_within {m sec frac exp imp estimated unsignedFlag} :
    Within (parts [.objs, .mram, .freeIdx, .deferred, .afterBoot, .ints, .met, .net]) s (State.writeEnd s m sec frac exp imp estimated
    unsignedFlag) := by
  unfold State.writeEnd
  refine .ite .refl ?_
  extract_lets valid flags
  split
  next dur u e =>
  have hu : Within (parts [.freeIdx]) s u := by
    split at e
    · cases e; exact .refl
    · cases e; exact State.fresh_within
  exact ((hu.sub.next State.writeRecord_within).next State.modPoint_within).next State.copyRegisters_within

theorem State.writeEvent_within {code mp data sec frac} : Within (parts [.objs, .mram, .deferred, .afterBoot, .ints, .met, .net]) s
    (State.writeEvent s code mp data sec frac) := by
  unfold State.writeEvent
  extract_lets x11 x12 x13 s14 s15
  refine .have_ (t := s14) State.writeRecord_within.sub fun h14 => ?_
  refine .have_ (t := s15) (Within.ite (h14.next State.modJnl_within) h14) fun h15 => ?_
  exact Within.ite (h15.foldl fun _ _ => State.modPoint_within.sub) h15

theorem State.eventLost_within : Within (parts [.objs, .deferred, .afterBoot, .ints, .met, .net]) s (State.eventLost s) := by
  unfold State.eventLost
  extract_lets s11 s12
  refine .have_ (t := s11) State.bump_within.sub fun h11 => ?_
  refine .have_ (t := s12) (Within.ite (h11.foldl fun _ _ => State.modPoint_within.sub) h11) fun h12 => ?_
  exact h12.next State.raiseLater_within

theorem State.applySealed_within {key v} : Within (parts ([.objs, .deferred, .afterBoot, .ints, .net] ++ Part.named)) s
    (State.applySealed s key v) := by
  unfold State.applySealed
  split
  · exact Within.next (.next (.sub (State.addSat_plain (by simp))) State.put_any) (State.raiseLater_plain (by simp))
  · exact State.put_any.sub

theorem State.putRecord_within {x} :
    Within (parts [.objs, .mram, .freeIdx, .deferred, .afterBoot, .ops, .ints, .met, .net, .events, .wakeSource, .wakeEnable,
    .fsRetryCount, .fsRetryAt, .fsCause, .resetCause, .tbSource, .bootResult, .sealStage, .faultShown, .seqFault, .habState]) s
    (State.putRecord s x) := by
  unfold State.putRecord
  split
  · exact State.writeStart_within.sub
  · exact Within.ite (State.writeEnd_within.sub.next State.modJnl_within) Within.refl
  · exact Within.ite State.writeEvent_within.sub State.eventLost_within.sub
  · exact Within.ite ((State.writeEvent_within.sub.next State.applySealed_within).next State.raiseLater_within) State.eventLost_within.sub

theorem State.addRecord_within {w} :
    Within (parts [.objs, .mram, .freeIdx, .deferred, .afterBoot, .ops, .ints, .met, .net, .events, .wakeSource, .wakeEnable,
    .fsRetryCount, .fsRetryAt, .fsCause, .resetCause, .tbSource, .bootResult, .sealStage, .faultShown, .seqFault, .habState]) s
    (State.addRecord s w) := by
  unfold State.addRecord
  exact Within.ite State.modJnl_within.sub State.putRecord_within.sub

theorem State.addRecord_event_within {code mp data sec frac} :
    Within (parts [.objs, .mram, .freeIdx, .deferred, .afterBoot, .ints, .met, .net]) s
    (State.addRecord s (.event code mp data sec frac)) := by
  unfold State.addRecord
  exact .ite State.modJnl_within.sub (.ite State.writeEvent_within.sub State.eventLost_within.sub)

theorem State.journalEvent_within {e mp data} : Within (parts [.objs, .mram, .freeIdx, .deferred, .afterBoot, .ints, .met, .net]) s
    (State.journalEvent s e mp data) := by
  unfold State.journalEvent
  exact .ite State.addRecord_event_within.sub .refl

theorem State.habEnd_within {reason} : Within (parts [.objs, .mram, .freeIdx, .deferred, .afterBoot, .ints, .met, .net, .habState]) s
    (State.habEnd s reason) := by
  unfold State.habEnd
  exact Within.ite (by
    extract_lets s11 s12
    refine .have_ (t := s11) ((State.puts_keys (keys := [K.HAB_STATE, K.HAB_DISARM_REASON]) rfl).sub) fun h11 => ?_
    refine .have_ (t := s12) (Within.ite (h11.next State.journalEvent_within) h11) fun h12 => ?_
    exact h12.next State.raise_within) Within.refl

theorem State.habItem_within {target size} :
    Within (parts [.objs, .mram, .freeIdx, .deferred, .afterBoot, .ops, .ints, .met, .net, .hab, .habState]) s
    (State.habItem s target size).2 := by
  unfold State.habItem
  split
  · extract_lets n prob v u hit act w
    have hu : Within (parts [.objs, .hab]) s u := (State.addSat_plain rfl).sub.next State.modHab_within
    have hw : Within (parts [.objs, .hab]) s w := (hu.next (State.addSat_plain rfl)).next State.modHab_within
    split
    · exact .ite (hw.sub.next State.habEnd_within) hw.sub
    · exact hu.sub
  · exact .refl

theorem State.modCan_within {q f} : Within (parts [.net]) s (State.modCan s q f) := by
  unfold State.modCan
  exact State.modNet_within.sub

theorem State.modCanAt_within {q f} : Within (parts [.net]) s (State.modCanAt s q f) := by
  unfold State.modCanAt
  exact Within.refl.foldl fun _ _ => Within.ite State.modCan_within.sub Within.refl

theorem State.canBadFrame_within {q} : Within (parts [.objs, .ints, .net]) s (State.canBadFrame s q) := by
  unfold State.canBadFrame
  extract_lets s11
  refine .have_ (t := s11) State.modCanAt_within.sub fun h11 => ?_
  exact Within.ite (h11.next State.raise_within) h11

theorem State.countPort_within {q k : Nat} (ha : keyParts (K.NET_A_COUNTS k) = 0 := by rfl)
    (hb : keyParts (K.NET_B_COUNTS k) = 0 := by rfl) :
    Within (parts [.objs, .deferred, .afterBoot, .ints, .net]) s (State.countPort s q k) := by
  unfold State.countPort
  split
  · exact State.bump_plain ha
  · exact State.bump_plain hb

theorem State.canReceived_within {q} : Within (parts [.freeIdx, .net]) s (State.canReceived s q) := by
  unfold State.canReceived
  extract_lets high
  split
  next v u e =>
  have hu : Within (parts [.freeIdx]) s u := by
    split at e
    · exact State.fresh_within.of_snd e
    · cases e; exact .refl
  exact hu.sub.next State.modCanAt_within

theorem State.canSent_within {q} : Within (parts [.net]) s (State.canSent s q) := by
  unfold State.canSent
  exact State.modCanAt_within.sub

theorem State.wireOut_within {f} : Within (parts [.net]) s (State.wireOut s f) := by
  unfold State.wireOut
  exact State.modNet_within.sub

theorem State.netSend_within {port func dst xid content} :
    Within (parts [.objs, .mram, .freeIdx, .deferred, .afterBoot, .ops, .ints, .met, .net, .hab, .habState]) s
    (State.netSend s port func dst xid content) := by
  unfold State.netSend
  extract_lets s11 x12 x13
  refine .have_ (t := s11) ((State.countPort_within).sub.next State.canSent_within) fun h11 => ?_
  split
  · rename_i x20 u2 e2
    refine .have_ (t := u2) (.of_snd (h11.next State.habItem_within) e2) fun h2 => ?_
    exact Within.ite (h2.next State.modNet_within) (by
      extract_lets x31 s32
      refine .have_ (t := s32) (h2.next State.wireOut_within) fun h32 => ?_
      split
      · exact Within.ite ((h32.next State.modNet_within).next State.wireOut_within) h32
      · exact h32)

theorem State.hailAck_within {f dst version result slot} :
    Within (parts [.objs, .mram, .freeIdx, .deferred, .afterBoot, .ops, .ints, .met, .net, .hab, .habState]) s
    (State.hailAck s f dst version result slot) := by
  unfold State.hailAck
  exact State.netSend_within.sub

theorem State.noteConflict_within : Within (parts [.objs, .ints, .net]) s (State.noteConflict s) := by
  unfold State.noteConflict
  exact Within.ite (State.modNet_within.sub.next State.raise_within) Within.refl

theorem State.setPartner_within {i p} : Within (parts [.net]) s (State.setPartner s i p) := by
  unfold State.setPartner
  exact Within.set_net.sub

theorem State.modPartner_within {i f} : Within (parts [.net]) s (State.modPartner s i f) := by
  unfold State.modPartner
  exact State.setPartner_within.sub

theorem State.heard_within {i func} : Within (parts [.net]) s (State.heard s i func) := by
  unfold State.heard
  exact State.modPartner_within.sub

theorem State.loseBlocks_within {c code} : Within (parts [.net]) s (State.loseBlocks s c code) := by
  unfold State.loseBlocks
  exact Within.set_net.sub

theorem State.modChannel_within {c f} : Within (parts [.dma]) s (State.modChannel s c f) := by
  unfold State.modChannel
  exact Within.set_dma.sub

theorem State.haltChannel_within {c reason st} : Within (parts [.objs, .deferred, .afterBoot, .ops, .ints, .dma, .net]) s
    (State.haltChannel s c reason st) := by
  unfold State.haltChannel
  exact Within.ite ((((State.modChannel_within.sub.next State.loseBlocks_within).next (State.put_plain (by simp))).next
    State.finish?_within).next (State.raise_plain (by simp))) Within.refl

theorem State.sendTo_within {p func xid content} :
    Within (parts [.objs, .mram, .freeIdx, .deferred, .afterBoot, .ops, .ints, .met, .net, .hab, .habState]) s
    (State.sendTo s p func xid content) := by
  unfold State.sendTo
  exact State.netSend_within.sub

theorem State.revokeBlock_within {i} :
    Within (parts [.objs, .mram, .freeIdx, .deferred, .afterBoot, .ops, .ints, .met, .dma, .net, .hab, .habState]) s
    (State.revokeBlock s i) := by
  unfold State.revokeBlock
  split
  · split
    · extract_lets s11 s12
      refine .have_ (t := s11) State.modPartner_within.sub fun h11 => ?_
      refine .have_ (t := s12) (Within.ite ((h11.next State.haltChannel_within).next State.leaseRevoked_within) h11) fun h12 => ?_
      exact Within.ite (h12.next State.sendTo_within) h12
    · exact Within.refl
  · exact Within.refl

theorem State.modNvm_within {f} : Within (parts [.nvm]) s (State.modNvm s f) := by
  unfold State.modNvm
  exact Within.set_nvm.sub

theorem State.endUnlocks_within {f} : Within (parts [.nvm]) s (State.endUnlocks s f) := by
  unfold State.endUnlocks
  exact State.modNvm_within.sub

theorem State.modCfg_within {f} : Within (parts [.cfg]) s (State.modCfg s f) := by
  unfold State.modCfg
  exact Within.set_cfg.sub

theorem State.discardStaging_within : Within (parts [.cfg]) s (State.discardStaging s) := by
  unfold State.discardStaging
  exact State.modCfg_within.sub

theorem State.evict_within {i reason} :
    Within (parts [.objs, .mram, .freeIdx, .deferred, .afterBoot, .ops, .ints, .met, .nvm, .dma, .net, .cfg, .hab, .habState]) s
    (State.evict s i reason) := by
  unfold State.evict
  split
  · exact Within.refl
  · extract_lets s11 s12 s13
    refine .have_ (t := s11) (State.revokeBlock_within.sub.next State.setPartner_within) fun h11 => ?_
    refine .have_ (t := s12) (h11.next State.endUnlocks_within) fun h12 => ?_
    refine .have_ (t := s13) (Within.ite (h12.next State.discardStaging_within) h12) fun h13 => ?_
    exact (h13.next State.put_within).next State.raise_within

theorem State.hailSlot_within {f} :
    Within (parts [.objs, .mram, .freeIdx, .deferred, .afterBoot, .ops, .ints, .met, .nvm, .dma, .net, .cfg, .hab, .habState]) s
    (State.hailSlot s f).1 := by
  unfold State.hailSlot
  split
  · exact State.evict_within.sub
  split
  · exact .refl
  split
  · exact State.evict_within.sub
  · exact .refl

theorem State.hail_within {f} :
    Within (parts [.objs, .mram, .freeIdx, .deferred, .afterBoot, .ops, .ints, .met, .nvm, .dma, .net, .cfg, .hab, .habState]) s
    (State.hail s f) := by
  unfold State.hail
  exact Within.ite (State.hailAck_within.sub.next State.raise_within) (by
    split
    · rename_i u1 e1
      refine .have_ (t := u1) (.of_fst State.hailSlot_within.sub e1) fun h1 => ?_
      exact (h1.next State.hailAck_within).next State.raise_within
    · rename_i u1 x11 e1
      refine .have_ (t := u1) (.of_fst State.hailSlot_within.sub e1) fun h1 => ?_
      exact ((h1.next State.setPartner_within).next State.raise_within).next State.hailAck_within)

theorem State.replyTo_within {p xid reply} :
    Within (parts [.objs, .mram, .freeIdx, .deferred, .afterBoot, .ops, .ints, .met, .net, .hab, .habState]) s
    (State.replyTo s p xid reply) := by
  unfold State.replyTo
  exact Within.ite Within.refl State.sendTo_within.sub

theorem State.countFull_within : Within (parts [.objs, .deferred, .afterBoot, .ints, .net]) s (State.countFull s) := by
  unfold State.countFull
  exact State.bump_within.sub

theorem State.modPhase_within {p f} : Within (parts [.phases]) s (State.modPhase s p f) := by
  unfold State.modPhase
  exact Within.set_phases.sub

theorem State.freeBytes_within {n} : Within (parts [.freeIdx]) s (State.freeBytes s n).2 := by
  induction n generalizing s with
  | zero => exact .refl
  | succ n ih => exact State.fresh_within.trans ih

theorem State.rawBytes_within {a n} : Within (parts [.freeIdx]) s (State.rawBytes s a n).2 := by
  unfold State.rawBytes
  split
  · exact Within.refl
  · exact State.freeBytes_within.sub

theorem State.setRawOffset_within {h v} : Within (parts [.nvm]) s (State.setRawOffset s h v) := by
  unfold State.setRawOffset
  exact State.modNvm_within.sub

theorem State.correctedWord_within {w} : Within (parts [.objs, .deferred, .afterBoot, .ints, .nvm, .net]) s (State.correctedWord s w) := by
  unfold State.correctedWord
  exact (State.bump_within.sub.next State.raise_within).next State.modNvm_within

theorem State.uncorrectable_within {a} : Within (parts [.objs, .deferred, .afterBoot, .ints, .net]) s (State.uncorrectable s a) := by
  unfold State.uncorrectable
  exact (State.bump_within.sub.next State.put_within).next State.raise_within

theorem State.rawFindings_within {a n corrected bad} : Within (parts [.objs, .deferred, .afterBoot, .ints, .nvm, .net]) s
    (State.rawFindings s a n corrected bad) := by
  unfold State.rawFindings
  exact (Within.refl.foldl fun _ _ => State.correctedWord_within.sub).foldl fun _ _ => State.uncorrectable_within.sub

theorem State.drawRandom_within {n} : Within (parts [.objs, .freeIdx, .ints, .net]) s (State.drawRandom s n).2 := by
  unfold State.drawRandom
  split
  · exact State.random_within.sub
  · exact State.raise_within.sub

theorem State.modSec_within {f} : Within (parts [.sec]) s (State.modSec s f) := by
  unfold State.modSec
  exact Within.set_sec.sub

theorem State.noteRelease_within {was} : Within (parts [.ints]) s (State.noteRelease s was) := by
  unfold State.noteRelease
  exact Within.ite Within.set_ints.sub Within.refl

theorem State.refreshSources_within {e before} : Within (parts [.ints]) s (State.refreshSources s e before) := by
  unfold State.refreshSources
  exact Within.refl.foldl fun _ _ => Within.ite State.setPending_within.sub (Within.ite State.setPending_within.sub Within.refl)

theorem State.clearBits_within {key mask} :
    Within (parts [.objs, .events, .wakeSource, .wakeEnable, .fsRetryCount, .fsRetryAt, .fsCause, .resetCause, .tbSource, .bootResult,
    .sealStage, .faultShown, .seqFault, .habState]) s (State.clearBits s key mask) := by
  unfold State.clearBits
  exact State.put_any.sub

theorem State.clearEvents_within {e v} :
    Within (parts [.objs, .ints, .events, .wakeSource, .wakeEnable, .fsRetryCount, .fsRetryAt, .fsCause, .resetCause, .tbSource,
    .bootResult, .sealStage, .faultShown, .seqFault, .habState]) s (State.clearEvents s e v) := by
  unfold State.clearEvents
  exact (State.clearBits_within.sub.next State.refreshSources_within).next State.noteRelease_within

theorem State.setEnable_within {e v} : Within (parts ([.objs, .ints, .net] ++ Part.named)) s (State.setEnable s e v) := by
  unfold State.setEnable
  extract_lets low before u w
  have hu : Within (parts ([.objs, .ints, .net] ++ Part.named)) s u := State.put_any.sub.next State.refreshSources_within
  have hw : Within (parts ([.objs, .ints, .net] ++ Part.named)) s w := by
    refine hu.foldl fun x n => ?_
    split
    next y drops ey =>
    exact (State.queueEvents_within.of_fst ey).sub.next State.countDrops_within
  exact hw.next State.noteRelease_within

theorem State.modChg_within {f} : Within (parts [.chg]) s (State.modChg s f) := by
  unfold State.modChg
  exact Within.set_chg.sub

theorem State.hostContact_within : Within (parts [.chg]) s (State.hostContact s) := by
  unfold State.hostContact
  exact Within.ite State.modChg_within.sub Within.refl

theorem State.closeChannel_within {c} : Within (parts [.objs, .ints, .dma, .net]) s (State.closeChannel s c) := by
  unfold State.closeChannel
  exact State.modChannel_within.sub.next (State.raise_plain (by simp))

theorem State.endBlock_within {i} : Within (parts [.objs, .ints, .dma, .net]) s (State.endBlock s i) := by
  unfold State.endBlock
  split
  · extract_lets s11
    refine .have_ (t := s11) State.modPartner_within.sub fun h11 => ?_
    exact Within.ite (h11.next State.closeChannel_within) h11
  · exact Within.refl

theorem State.openChannel_within {c} : Within (parts [.objs, .dma]) s (State.openChannel s c) := by
  unfold State.openChannel
  exact State.modChannel_within.sub.next (State.puts_plain (by simp))

theorem State.abortBlock_within {i p b} :
    Within (parts [.objs, .mram, .freeIdx, .deferred, .afterBoot, .ops, .ints, .met, .net, .hab, .habState]) s
    (State.abortBlock s i p b) := by
  unfold State.abortBlock
  exact State.modPartner_within.sub.next State.sendTo_within

theorem State.modBlock_within {i f} : Within (parts [.net]) s (State.modBlock s i f) := by
  unfold State.modBlock
  exact State.modPartner_within.sub

theorem State.pumpBlock_within {i} :
    Within (parts [.objs, .mram, .freeIdx, .deferred, .afterBoot, .ops, .ints, .met, .net, .hab, .habState]) s (State.pumpBlock s i) := by
  unfold State.pumpBlock
  split
  · split
    · extract_lets x11 x12 s13
      refine .have_ (t := s13) (Within.refl.foldl fun _ _ => State.sendTo_within.sub) fun h13 => ?_
      exact Within.ite ((h13.next State.modBlock_within).next State.sendTo_within) (h13.next State.modBlock_within)
    · exact Within.refl
  · exact Within.refl

theorem State.blockSeg_within {i p f} :
    Within (parts [.objs, .mram, .freeIdx, .deferred, .afterBoot, .ops, .ints, .met, .net, .hab, .habState]) s
    (State.blockSeg s i p f) := by
  unfold State.blockSeg
  split
  · exact Within.ite Within.refl (Within.ite State.abortBlock_within.sub (Within.ite (by
      extract_lets s11
      refine .have_ (t := s11) State.modBlock_within.sub fun h11 => ?_
      exact Within.ite (h11.next State.sendTo_within) h11) State.sendTo_within.sub))
  · exact Within.refl

theorem State.blockAcked_within {i p f} :
    Within (parts [.objs, .mram, .freeIdx, .deferred, .afterBoot, .ops, .ints, .met, .dma, .net, .hab, .habState]) s
    (State.blockAcked s i p f) := by
  unfold State.blockAcked
  split
  · exact Within.ite Within.refl
      (Within.ite State.abortBlock_within.sub
      (Within.ite State.endBlock_within.sub (Within.ite (Within.ite State.endBlock_within.sub Within.refl)
      (Within.ite Within.refl (Within.ite (State.modBlock_within.sub.next State.pumpBlock_within)
      (State.modBlock_within.sub.next State.pumpBlock_within))))))
  · exact Within.refl

theorem State.eventAck_within {i f} : Within (parts [.net]) s (State.eventAck s i f) := by
  unfold State.eventAck
  exact State.modPartner_within.sub

theorem State.authResult_within {p xid role result} :
    Within (parts [.objs, .mram, .freeIdx, .deferred, .afterBoot, .ops, .ints, .met, .net, .hab, .habState]) s
    (State.authResult s p xid role result) := by
  unfold State.authResult
  exact State.sendTo_within.sub

theorem State.authReq_within {i p f} :
    Within (parts [.objs, .mram, .freeIdx, .deferred, .afterBoot, .ops, .ints, .met, .net, .hab, .habState]) s (State.authReq s i p f) := by
  unfold State.authReq
  extract_lets x11
  split
  · exact State.authResult_within.sub
  · exact (State.modPartner_within.sub.next State.raise_within).next State.authResult_within
  · split
    · rename_i x20 u2 e2
      refine .have_ (t := u2) (.of_snd State.drawRandom_within.sub e2) fun h2 => ?_
      exact (h2.next State.modPartner_within).next State.sendTo_within
    · rename_i u2 e2
      refine .have_ (t := u2) (.of_snd State.drawRandom_within.sub e2) fun h2 => ?_
      exact h2

theorem State.authGranted_within {r} : Within (parts [.net]) s (State.authGranted s r) := by
  unfold State.authGranted
  split
  · exact Within.refl
  · exact State.modNet_within.sub

theorem State.authFailed_within {r} : Within (parts [.objs, .ints, .net]) s (State.authFailed s r) := by
  unfold State.authFailed
  split
  · exact Within.refl
  · extract_lets s11 x12 x13 x14 x15
    refine .have_ (t := s11) State.raise_within.sub fun h11 => ?_
    exact Within.ite (h11.next State.modNet_within) ((h11.next State.modNet_within).next State.raise_within)

theorem State.authResponse_within {i p f} :
    Within (parts [.objs, .mram, .freeIdx, .deferred, .afterBoot, .ops, .ints, .met, .net, .hab, .habState]) s
    (State.authResponse s i p f) := by
  unfold State.authResponse
  extract_lets x11 s12
  refine .have_ (t := s12) State.modPartner_within.sub fun h12 => ?_
  split
  · exact (Within.ite (((h12.next State.modPartner_within).next State.authGranted_within).next State.raise_within)
      (Within.ite (h12.next State.authFailed_within) h12)).next State.authResult_within
  · exact State.authResult_within.sub

theorem State.strangerFrame_within {func f} :
    Within (parts [.objs, .mram, .freeIdx, .deferred, .afterBoot, .ops, .ints, .met, .nvm, .dma, .net, .cfg, .hab, .habState]) s
    (State.strangerFrame s func f) := by
  unfold State.strangerFrame
  exact Within.ite State.hail_within.sub (Within.ite Within.refl State.netSend_within.sub)

theorem State.badFrame_within : Within (parts [.objs, .deferred, .afterBoot, .ints, .net]) s (State.badFrame s) := by
  unfold State.badFrame
  extract_lets s11
  refine .have_ (t := s11) State.bump_within.sub fun h11 => ?_
  exact Within.ite ((h11.next State.modNet_within).next State.raise_within) h11

theorem State.modLink_within {t f} : Within (parts [.links]) s (State.modLink s t f) := by
  unfold State.modLink
  exact Within.set_links.sub

theorem State.acknowledge_within {t up nak} : Within (parts [.links]) s (State.acknowledge s t up nak) := by
  unfold State.acknowledge
  exact Within.ite Within.refl State.modLink_within.sub

theorem State.rngTested_within {ok} : Within (parts [.sec]) s (State.rngTested s ok) := by
  unfold State.rngTested
  exact State.modSec_within.sub

theorem State.modAux_within {k f} : Within (parts [.auxs]) s (State.modAux s k f) := by
  unfold State.modAux
  exact Within.set_auxs.sub

theorem State.setVpre_within : Within (parts [.objs]) s (State.setVpre s) := by
  unfold State.setVpre
  exact State.put_within.sub

theorem State.auxRamp_within {k} : Within (parts [.auxs]) s (State.auxRamp s k) := by
  unfold State.auxRamp
  exact State.modAux_within.sub

theorem State.auxOpen_within {k} : Within (parts [.objs, .auxs]) s (State.auxOpen s k) := by
  unfold State.auxOpen
  exact State.modAux_within.sub.next (State.puts_plain (by simp))

theorem State.refreshAux_within : Within (parts [.objs, .auxs]) s (State.refreshAux s) := by
  unfold State.refreshAux
  exact (Within.refl.foldl fun _ _ => Within.ite State.auxRamp_within.sub (Within.ite State.auxOpen_within.sub Within.refl)).next
    State.setVpre_within

theorem State.snapCore_within : Within (parts [.freeIdx]) s (State.snapCore s).2 := by
  unfold State.snapCore
  exact (((((State.freshes_within.sub.next State.freshes_within)).next State.freshes_within)).next State.freshes_within)

theorem State.modSup_within {f} : Within (parts [.sup]) s (State.modSup s f) := by
  unfold State.modSup
  exact Within.set_sup.sub

theorem State.canReset_within : Within (parts [.net]) s (State.canReset s) := by
  unfold State.canReset
  exact Within.set_net.sub

theorem State.modTherm_within {t f} : Within (parts [.therm]) s (State.modTherm s t f) := by
  unfold State.modTherm
  exact Within.set_therm.sub

theorem State.refsDue_within {keeper} : Within (parts [.therm]) s (State.refsDue s keeper) := by
  unfold State.refsDue
  exact Within.refl.foldl fun _ _ => Within.ite State.modTherm_within.sub Within.refl

theorem State.quenchAux_within : Within (parts [.objs, .auxs]) s (State.quenchAux s) := by
  unfold State.quenchAux
  exact (Within.refl.foldl fun _ _ => State.auxOpen_within.sub).next State.setVpre_within

theorem State.modRail_within {r f} : Within (parts [.rails]) s (State.modRail s r f) := by
  unfold State.modRail
  exact Within.set_rails.sub

theorem State.quenchRail_within {r} : Within (parts [.rails]) s (State.quenchRail s r) := by
  unfold State.quenchRail
  exact Within.ite Within.refl State.modRail_within.sub

theorem State.quenchRails_within : Within (parts [.rails]) s (State.quenchRails s) := by
  unfold State.quenchRails
  exact Within.refl.foldl fun _ _ => State.quenchRail_within.sub

theorem State.setResult_within {g r} : Within (parts [.objs]) s (State.setResult s g r) := by
  unfold State.setResult
  exact (State.put_plain (by simp)).sub

theorem State.modGroup_within {g f} : Within (parts [.seq]) s (State.modGroup s g f) := by
  unfold State.modGroup
  exact Within.set_seq.sub

theorem State.quenchNote_within {k : Nat} {note : State → Option Nat → State} {x : Option Nat}
    (hn : note = fun (s : State) (t : Option Nat) =>
    match t with
    | some t => (s.withJoined t).foldl (fun (s : State) j => s.setOp j { s.op j with result := k }) s
    | none => s) : Within (parts [.ops]) s (note s x) := by
  subst hn
  cases x with
  | some t => exact Within.refl.foldl fun _ _ => State.setOp_within.sub
  | none => exact .refl

theorem State.quenchGroups_within {own code} : Within (parts [.objs, .ops, .seq]) s (State.quenchGroups s own code) := by
  unfold State.quenchGroups
  refine .foldl Within.set_seq.sub fun u g => ?_
  extract_lets x res note v w
  have hv : Within (parts [.objs, .ops, .seq]) u v := (State.quenchNote_within rfl).sub.next (State.quenchNote_within rfl)
  have hw : Within (parts [.objs, .ops, .seq]) u w := .ite hv (hv.next State.setResult_within)
  exact hw.next State.modGroup_within

theorem State.leftShed_within {p was} : Within (parts [.objs, .ints, .net]) s (State.leftShed s p was) := by
  unfold State.leftShed
  exact Within.ite ((State.raise_plain (by simp)).sub) Within.refl

theorem State.phaseOff_within {p} : Within (parts [.objs, .ints, .phases, .net]) s (State.phaseOff s p) := by
  unfold State.phaseOff
  exact Within.ite (State.modPhase_within.sub.next State.leftShed_within) Within.refl

theorem State.quenchPhases_within : Within (parts [.objs, .ints, .phases, .net]) s (State.quenchPhases s) := by
  unfold State.quenchPhases
  exact Within.refl.foldl fun _ _ => State.phaseOff_within.sub

theorem State.quenchDma_within : Within (parts [.objs, .deferred, .afterBoot, .ops, .ints, .dma, .net]) s (State.quenchDma s) := by
  unfold State.quenchDma
  exact Within.refl.foldl fun _ _ => State.haltChannel_within.sub

theorem State.abandonCommit_within {result st code} : Within (parts [.objs, .deferred, .afterBoot, .ops, .ints, .net, .cfg]) s
    (State.abandonCommit s result st code) := by
  unfold State.abandonCommit
  exact (State.modCfg_within.sub.next State.put_within).next State.finish?_within

theorem State.endCommit_within {result st code} : Within (parts [.objs, .deferred, .afterBoot, .ops, .ints, .net, .cfg]) s
    (State.endCommit s result st code) := by
  unfold State.endCommit
  exact (State.modCfg_within.sub.next State.put_within).next State.finish?_within

theorem State.landFsw_within :
    Within (parts [.objs, .cfg, .events, .wakeSource, .wakeEnable, .fsRetryCount, .fsRetryAt, .fsCause, .resetCause, .tbSource,
    .bootResult, .sealStage, .faultShown, .seqFault, .habState]) s (State.landFsw s) := by
  unfold State.landFsw
  exact State.puts_any.sub.next State.modCfg_within

theorem State.dropShed_within {g} : Within (parts [.rails]) s (State.dropShed s g) := by
  unfold State.dropShed
  exact Within.refl.foldl fun _ _ => State.modRail_within.sub

theorem State.driveBell_within {low} : Within (parts [.seq]) s (State.driveBell s low) := by
  unfold State.driveBell
  exact Within.set_seq.sub

theorem State.groupFallen_within {g} : Within (parts [.objs, .deferred, .afterBoot, .ops, .ints, .seq, .net]) s
    (State.groupFallen s g) := by
  unfold State.groupFallen
  extract_lets x11 x12 s13 x14 x15
  refine .have_ (t := s13) (State.setResult_within.sub.next State.finish?_within) fun h13 => ?_
  exact Within.ite (h13.next State.modGroup_within) ((h13.next State.modGroup_within).next State.raise_within)

theorem State.sendRail_within {r c} : Within (parts [.rails]) s (State.sendRail s r c) := by
  unfold State.sendRail
  exact State.modRail_within.sub

theorem State.modSlave_within {k f} : Within (parts [.seq]) s (State.modSlave s k f) := by
  unfold State.modSlave
  exact Within.set_seq.sub

theorem State.oweSlave_within {k fs} : Within (parts [.seq]) s (State.oweSlave s k fs) := by
  unfold State.oweSlave
  exact State.modSlave_within.sub

theorem State.sendStepDown_within {g k} : Within (parts [.objs, .ints, .rails, .seq, .net]) s (State.sendStepDown s g k) := by
  unfold State.sendStepDown
  exact ((Within.refl.foldl fun _ _ => by
    extract_lets s21
    refine .have_ (t := s21) State.modRail_within.sub fun h21 => ?_
    exact Within.ite h21 (h21.next State.sendRail_within)).foldl fun _ _ => Within.ite State.raise_within.sub
      State.oweSlave_within.sub).next State.modGroup_within

theorem State.fallNext_within {g} : Within (parts [.objs, .deferred, .afterBoot, .ops, .ints, .rails, .seq, .net]) s
    (State.fallNext s g) := by
  unfold State.fallNext
  split
  · exact State.groupFallen_within.sub
  · exact Within.ite State.sendStepDown_within.sub State.modGroup_within.sub

theorem State.startFalling_within {g} : Within (parts [.objs, .deferred, .afterBoot, .ops, .ints, .rails, .seq, .net]) s
    (State.startFalling s g) := by
  unfold State.startFalling
  exact (((Within.ite State.driveBell_within.sub Within.refl).next State.dropShed_within).next State.modGroup_within).next
    State.fallNext_within

theorem State.releaseWave_within {n} : Within (parts [.objs, .deferred, .afterBoot, .ops, .ints, .rails, .seq, .net]) s
    (State.releaseWave n s) := by
  induction n generalizing s with
  | zero => exact .refl
  | succ n ih =>
    unfold State.releaseWave
    split
    · exact State.startFalling_within.sub.trans ih
    · exact .refl

theorem State.releaseDependants_within : Within (parts [.objs, .deferred, .afterBoot, .ops, .ints, .rails, .seq, .net]) s
    (State.releaseDependants s) := by
  unfold State.releaseDependants
  exact State.releaseWave_within.sub

theorem State.groupUp_within {g} : Within (parts [.objs, .deferred, .afterBoot, .ops, .ints, .seq, .net]) s (State.groupUp s g) := by
  unfold State.groupUp
  exact (((State.modGroup_within.sub.next State.setResult_within).next State.finish?_within).next (State.bump_plain (by simp))).next
    State.raise_within

theorem State.failUnbuilt_within {g} : Within (parts [.objs, .deferred, .afterBoot, .ops, .ints, .rails, .seq, .net]) s
    (State.failUnbuilt s g) := by
  unfold State.failUnbuilt
  exact (((State.modGroup_within.sub.next State.setResult_within).next State.finish?_within).next State.raise_within).next
    State.startFalling_within

theorem State.riseNext_within {g done} : Within (parts [.objs, .deferred, .afterBoot, .ops, .ints, .rails, .seq, .net]) s
    (State.riseNext s g done) := by
  unfold State.riseNext
  extract_lets next
  clear_value next
  cases next with
  | none => exact State.groupUp_within.sub
  | some k =>
    have hs {f} := State.modGroup_within (s := s) (g := g) (f := f)
    exact .ite (hs.sub.next State.failUnbuilt_within) hs.sub

theorem State.fallOn_within {g} : Within (parts [.objs, .deferred, .afterBoot, .ops, .ints, .rails, .seq, .net]) s (State.fallOn s g) := by
  unfold State.fallOn
  exact (State.modGroup_within.sub.next State.fallNext_within).next State.releaseDependants_within

theorem State.bellOver_within {g} : Within (parts [.objs, .deferred, .afterBoot, .ops, .ints, .rails, .seq, .net]) s
    (State.bellOver s g) := by
  unfold State.bellOver
  exact Within.ite (State.riseNext_within.sub.next State.releaseDependants_within) State.fallOn_within.sub

theorem State.ignoreBell_within : Within (parts [.objs, .deferred, .afterBoot, .ops, .ints, .rails, .seq, .net]) s
    (State.ignoreBell s) := by
  unfold State.ignoreBell
  exact Within.ite Within.refl (Within.refl.foldl fun _ _ => Within.ite State.bellOver_within.sub Within.refl)

theorem State.driveFog_within {low} : Within (parts [.seq]) s (State.driveFog s low) := by
  unfold State.driveFog
  exact Within.set_seq.sub

theorem State.refreshCoop_within : Within (parts [.objs, .deferred, .afterBoot, .ops, .ints, .rails, .seq, .net]) s
    (State.refreshCoop s) := by
  unfold State.refreshCoop
  exact (State.driveFog_within.sub.next State.ignoreBell_within).next State.driveBell_within

theorem State.leadPasses_within {r old} : Within (parts [.rails]) s (State.leadPasses s r old) := by
  unfold State.leadPasses
  exact Within.ite Within.refl State.modRail_within.sub

theorem State.phasePrebias_within {r role p} : Within (parts [.phases]) s (State.phasePrebias s r role p) := by
  unfold State.phasePrebias
  exact Within.ite State.modPhase_within.sub Within.refl

theorem State.landMember_within {r wasSpare p} : Within (parts [.objs, .ints, .phases, .net]) s (State.landMember s r wasSpare p) := by
  unfold State.landMember
  exact Within.ite State.modPhase_within.sub (by
    extract_lets s11
    refine .have_ (t := s11) (State.phaseOff_within.sub.next State.modPhase_within) fun h11 => ?_
    exact Within.ite (h11.next State.phasePrebias_within) h11)

theorem State.landSpare_within {r p} : Within (parts [.objs, .ints, .phases, .net]) s (State.landSpare s r p) := by
  unfold State.landSpare
  extract_lets s11
  refine .have_ (t := s11) (State.phaseOff_within.sub.next State.modPhase_within) fun h11 => ?_
  exact Within.ite (h11.next State.phasePrebias_within) h11

theorem State.dropPhase_within {p} : Within (parts [.objs, .ints, .phases, .net]) s (State.dropPhase s p) := by
  unfold State.dropPhase
  exact State.phaseOff_within.sub.next State.modPhase_within

theorem State.commandSpare_within {r} : Within (parts [.phases]) s (State.commandSpare s r) := by
  unfold State.commandSpare
  split
  · exact State.modPhase_within.sub
  · exact Within.refl

theorem State.landLive_within {r cm cs nm ns} :
    Within (parts [.objs, .ints, .phases, .rails, .net]) s (State.landLive s r cm cs nm ns) := by
  unfold State.landLive
  exact (State.modRail_within.sub.foldl fun _ _ => Within.ite State.landMember_within.sub
    (Within.ite State.landSpare_within.sub (Within.ite State.dropPhase_within.sub Within.refl))).foldl fun _ _ =>
    State.commandSpare_within.sub

theorem State.listsAtRest_within {r ms ss} : Within (parts [.objs, .phases, .rails]) s (State.listsAtRest s r ms ss) := by
  unfold State.listsAtRest
  extract_lets x11 x12 s13 s14 x15 s16
  refine .have_ (t := s13) (Within.refl.foldl fun _ _ => State.modPhase_within.sub) fun h13 => ?_
  refine .have_ (t := s14) ((h13.foldl fun _ _ => State.modPhase_within.sub).foldl fun _ _ => State.modPhase_within.sub) fun h14 => ?_
  refine .have_ (t := s16) (h14.next State.modRail_within) fun h16 => ?_
  exact Within.ite (h16.next (State.put_plain (by simp))) (Within.ite (h16.next (State.put_plain (by simp))) h16)

theorem State.atNextEdge_within {p st} : Within (parts [.phases]) s (State.atNextEdge s p st) := by
  unfold State.atNextEdge
  exact State.modPhase_within.sub

theorem State.returnAll_within {r} : Within (parts [.phases]) s (State.returnAll s r) := by
  unfold State.returnAll
  exact (Within.refl.foldl fun _ _ => State.atNextEdge_within.sub).foldl fun _ _ => State.modPhase_within.sub

theorem State.refreshCapped_within {r} : Within (parts [.objs, .ints, .rails, .net]) s (State.refreshCapped s r) := by
  unfold State.refreshCapped
  extract_lets x11 x12 s13
  refine .have_ (t := s13) State.modRail_within.sub fun h13 => ?_
  exact Within.ite (h13.next (State.raise_plain (by simp))) h13

theorem State.refreshLimiting_within {r} : Within (parts [.objs, .deferred, .afterBoot, .ints, .phases, .rails, .net]) s
    (State.refreshLimiting s r) := by
  unfold State.refreshLimiting
  extract_lets x11 x12 s13 s14
  refine .have_ (t := s13) State.modRail_within.sub fun h13 => ?_
  refine .have_ (t := s14) (Within.ite (((h13.next State.returnAll_within).next (State.bump_plain (by simp))).next
    (State.raise_plain (by simp))) h13) fun h14 => ?_
  exact h14.next State.refreshCapped_within

theorem State.refreshDegraded_within {r} : Within (parts [.objs, .ints, .rails, .net]) s (State.refreshDegraded s r) := by
  unfold State.refreshDegraded
  extract_lets x11 x12 s13
  refine .have_ (t := s13) State.modRail_within.sub fun h13 => ?_
  exact Within.ite (h13.next (State.raise_plain (by simp))) h13

theorem State.landLists_within {cm cs r} : Within (parts [.objs, .deferred, .afterBoot, .ints, .phases, .rails, .net]) s
    (State.landLists cm cs s r) := by
  unfold State.landLists
  exact ((Within.ite (State.landLive_within.sub.next State.leadPasses_within) State.listsAtRest_within.sub).next
    State.refreshDegraded_within).next State.refreshLimiting_within

theorem State.applyStaged_within {kvs} :
    Within (parts [.objs, .deferred, .afterBoot, .ops, .ints, .phases, .rails, .seq, .net, .cfg, .events, .wakeSource, .wakeEnable,
    .fsRetryCount, .fsRetryAt, .fsCause, .resetCause, .tbSource, .bootResult, .sealStage, .faultShown, .seqFault, .habState]) s
    (State.applyStaged s kvs) := by
  unfold State.applyStaged
  exact ((State.puts_any.sub.next State.modCfg_within).foldl fun _ _ => State.landLists_within.sub).next State.refreshCoop_within

theorem State.quenchCommit_within :
    Within (parts [.objs, .mram, .deferred, .afterBoot, .ops, .ints, .phases, .rails, .seq, .net, .cfg, .events, .wakeSource, .wakeEnable,
    .fsRetryCount, .fsRetryAt, .fsCause, .resetCause, .tbSource, .bootResult, .sealStage, .faultShown, .seqFault, .habState]) s
    (State.quenchCommit s) := by
  unfold State.quenchCommit
  extract_lets s11
  refine .have_ (t := s11) (by
      unfold s11
      split
      · exact Within.refl
      · exact State.abandonCommit_within.sub
      · exact State.abandonCommit_within.sub
      · exact (State.applyStaged_within.sub.next State.landFsw_within).next State.endCommit_within
      · exact (State.applyStaged_within.sub.next State.landFsw_within).next State.endCommit_within) fun h11 => ?_
  split
  · exact (h11.next State.modCfg_within).next State.eraseMram_within
  · exact h11

theorem State.modOtp_within {f} : Within (parts [.otp, .otpRows]) s (State.modOtp s f) := by
  unfold State.modOtp
  exact Within.set_otp.sub

theorem State.setOtpRow_within {r x} : Within (parts [.otp, .otpRows]) s (State.setOtpRow s r x) := by
  unfold State.setOtpRow
  exact State.modOtp_within.sub

theorem State.partField_within {target} : Within (parts [.freeIdx, .otp, .otpRows]) s (State.partField s target) := by
  unfold State.partField
  exact State.fresh_within.sub.foldl fun _ _ => State.setOtpRow_within.sub

theorem State.loseTransition_within : Within (parts [.objs, .freeIdx, .deferred, .afterBoot, .ops, .ints, .net, .sec, .otp, .otpRows]) s
    (State.loseTransition s) := by
  unfold State.loseTransition
  split
  · exact ((State.modSec_within.sub.next State.partField_within).next State.put_within).next State.finish_within
  · exact Within.refl

theorem State.loseBurn_within : Within (parts [.objs, .freeIdx, .deferred, .afterBoot, .ops, .ints, .net, .otp, .otpRows]) s
    (State.loseBurn s) := by
  unfold State.loseBurn
  extract_lets s11 x12
  refine .have_ (t := s11) (by
      unfold s11
      split
      · exact State.fresh_within.sub.next State.setOtpRow_within
      · exact Within.refl) fun h11 => ?_
  exact Within.ite (((h11.next State.modOtp_within).next State.put_within).next State.finish?_within) h11

theorem State.closeWindow_within : Within (parts [.objs, .freeIdx, .deferred, .afterBoot, .ops, .ints, .net, .sec, .otp, .otpRows]) s
    (State.closeWindow s) := by
  unfold State.closeWindow
  exact Within.ite (((State.modOtp_within.sub.next State.loseBurn_within).next State.loseTransition_within).next State.raise_within)
    Within.refl

theorem State.chargerStop_within : Within (parts [.objs, .ints, .chg, .net]) s (State.chargerStop s) := by
  unfold State.chargerStop
  split
  · exact (State.modChg_within.sub.next State.raise_within).next State.raise_within
  · exact (State.modChg_within.sub.next State.raise_within).next State.raise_within
  · exact (State.modChg_within.sub.next State.raise_within).next State.raise_within
  · exact Within.refl

theorem State.failAllOps_within : Within (parts [.objs, .deferred, .afterBoot, .ops, .ints, .net]) s (State.failAllOps s) := by
  unfold State.failAllOps
  exact Within.refl.foldl fun _ _ => Within.ite ((State.finishOne_within.sub.next State.setOp_within).next State.leaseRevoked_within)
    Within.refl

theorem State.freeTag_within {t} : Within (parts [.objs, .deferred, .afterBoot, .ops, .ints, .net]) s (State.freeTag s t) := by
  unfold State.freeTag
  exact Within.ite (State.setOp_within.sub.next State.leaseRevoked_within) Within.refl

theorem State.everythingOff_within {own code} :
    Within (allBut [.published, .now, .answer, .caps, .modes, .history, .tiles, .frame, .bus, .sup, .path, .est, .met, .therm, .nvm, .mir,
    .ports, .links, .hab, .oasis]) s (State.everythingOff s own code) := by
  unfold State.everythingOff
  exact (((((((((((State.quenchPhases_within.sub.next State.quenchGroups_within).next State.quenchRails_within).next
    State.quenchAux_within).next State.chargerStop_within).next State.closeWindow_within).next State.quenchCommit_within).next
    State.quenchDma_within).next State.quenchLedger_within).foldl fun _ _ => State.freeTag_within.sub).next State.failAllOps_within).next
    State.driveFog_within).next State.driveBell_within

theorem State.modModes_within {f} : Within (parts [.modes]) s (State.modModes s f) := by
  unfold State.modModes
  exact Within.set_modes.sub

theorem State.modMir_within {f} : Within (parts [.mir]) s (State.modMir s f) := by
  unfold State.modMir
  exact Within.set_mir.sub

theorem State.mirTrigger_within {at_} : Within (parts [.objs, .deferred, .afterBoot, .ints, .mir, .net]) s (State.mirTrigger s at_) := by
  unfold State.mirTrigger
  exact Within.ite (State.modMir_within.sub.next State.raiseLater_within) Within.refl

theorem State.mirOff_within {at_} : Within (parts [.objs, .deferred, .afterBoot, .ints, .mir, .net]) s (State.mirOff s at_) := by
  unfold State.mirOff
  exact Within.ite (State.mirTrigger_within.sub.next State.modMir_within) Within.refl

theorem State.mirRetime_within {at_} : Within (parts [.mir]) s (State.mirRetime s at_) := by
  unfold State.mirRetime
  exact State.modMir_within.sub

theorem State.showFault_within {tr at_} : Within (parts [.objs, .faultShown]) s (State.showFault s tr at_) := by
  unfold State.showFault
  exact (State.puts_keys (keys := [K.SUP_FAULT_CODE, K.SUP_FAULT_KIND, K.SUP_FAULT_INDEX, K.SUP_FAULT_TILE, K.SUP_FAULT_AT]) rfl).sub

theorem State.settleTriggers_within : Within (parts [.objs, .modes, .sup, .mir, .faultShown]) s (State.settleTriggers s) := by
  unfold State.settleTriggers
  split
  · exact Within.refl
  · extract_lets x11 s12 s13
    refine .have_ (t := s12) State.modSup_within.sub fun h12 => ?_
    refine .have_ (t := s13) (((h12.next State.modModes_within).next State.put_within).next State.mirRetime_within) fun h13 => ?_
    split
    · exact h13.next State.showFault_within
    · exact h13

theorem State.countRailFault_within {tr} : Within (parts ([.objs, .deferred, .afterBoot, .ints, .net] ++ Part.named)) s
    (State.countRailFault s tr) := by
  unfold State.countRailFault
  exact .ite State.bump_any.sub .refl

theorem State.faultCause_within {tr at_} :
    Within (parts [.objs, .deferred, .afterBoot, .modes, .ints, .sup, .net, .events, .wakeSource, .wakeEnable, .fsRetryCount, .fsRetryAt,
    .fsCause, .resetCause, .tbSource, .bootResult, .sealStage, .faultShown, .seqFault, .habState]) s (State.faultCause s tr at_) := by
  unfold State.faultCause
  exact Within.ite Within.refl (by
    extract_lets s11 s12
    refine .have_ (t := s11) State.modModes_within.sub fun h11 => ?_
    refine .have_ (t := s12) ((((h11.next State.modSup_within).next State.put_within).next State.showFault_within).next State.bump_within)
      fun h12 => ?_
    exact Within.ite (h12.next State.countRailFault_within) h12)

theorem State.noteCause_within {tr at_} :
    Within (parts [.objs, .deferred, .afterBoot, .modes, .ints, .sup, .net, .events, .wakeSource, .wakeEnable, .fsRetryCount, .fsRetryAt,
    .fsCause, .resetCause, .tbSource, .bootResult, .sealStage, .faultShown, .seqFault, .habState]) s (State.noteCause s tr at_) := by
  unfold State.noteCause
  split
  · exact State.modModes_within.sub
  · exact State.modModes_within.sub
  · exact State.faultCause_within.sub

theorem State.habCheck_within : Within (parts [.objs, .mram, .freeIdx, .deferred, .afterBoot, .ints, .met, .net, .habState]) s
    (State.habCheck s) := by
  unfold State.habCheck
  exact Within.ite State.habEnd_within.sub (Within.ite Within.refl State.habEnd_within.sub)

theorem State.beginSeal_within {tr at_ estimated awaiting own code} :
    Within (allBut [.published, .now, .answer, .caps, .history, .tiles, .frame, .bus, .path, .est, .nvm, .ports, .links, .hab, .oasis]) s
    (State.beginSeal s tr at_ estimated awaiting own code) := by
  unfold State.beginSeal
  exact (((((((((((State.snapCore_within.sub.next State.modSup_within).next State.everythingOff_within).next State.refsDue_within).next
    State.canReset_within).next State.modModes_within).next State.noteCause_within).next State.settleTriggers_within).next
    State.mirOff_within).next Within.set_met).next (State.puts_keys (keys := [K.SUP_SEAL_STAGE, K.SUP_SEAL_CAUSE]) rfl)).next
    State.habCheck_within).next State.raise_within

theorem State.laterTrigger_within {tr stamp} :
    Within (parts [.objs, .deferred, .afterBoot, .modes, .ints, .sup, .mir, .net, .events, .wakeSource, .wakeEnable, .fsRetryCount,
    .fsRetryAt, .fsCause, .resetCause, .tbSource, .bootResult, .sealStage, .faultShown, .seqFault, .habState]) s
    (State.laterTrigger s tr stamp) := by
  unfold State.laterTrigger
  extract_lets x11 s12
  refine .have_ (t := s12) State.noteCause_within.sub fun h12 => ?_
  exact Within.ite h12 ((h12.next State.modSup_within).next State.settleTriggers_within)

theorem State.railFault_within {tr stamp own code} :
    Within (allBut [.published, .now, .answer, .caps, .history, .tiles, .frame, .bus, .path, .est, .nvm, .ports, .links, .hab, .oasis]) s
    (State.railFault s tr stamp own code) := by
  unfold State.railFault
  exact Within.ite State.beginSeal_within.sub (Within.ite (State.laterTrigger_within.sub.next State.put_within) Within.refl)

theorem State.writeSnap_within {c at_ tr estimated rec secs} :
    Within (parts [.objs, .mram]) s (State.writeSnap s c at_ tr estimated rec secs).1 := by
  unfold State.writeSnap
  exact State.writeMram_within.sub.next State.put_within

theorem State.snapNow_within {tr manual} : Within (parts [.objs, .mram, .freeIdx, .ints, .net]) s (State.snapNow s tr manual) := by
  unfold State.snapNow
  exact ((State.snapCore_within.sub.next State.writeSnap_within)).next State.raise_within

theorem State.idleFault_within {tr thermal} : Within (parts [.objs, .mram, .freeIdx, .ints, .auxs, .net]) s
    (State.idleFault s tr thermal) := by
  unfold State.idleFault
  exact (State.snapNow_within.sub.foldl fun _ _ => State.auxOpen_within.sub.next State.modAux_within).next State.setVpre_within

theorem State.auxOverCurrent_within {k} :
    Within (allBut [.published, .now, .answer, .caps, .history, .tiles, .frame, .bus, .path, .est, .nvm, .ports, .links, .hab, .oasis]) s
    (State.auxOverCurrent s k) := by
  unfold State.auxOverCurrent
  exact Within.ite Within.refl (by
    extract_lets s11 x12
    refine .have_ (t := s11) ((State.raise_plain (by simp)).sub) fun h11 => ?_
    exact Within.ite (h11.next State.railFault_within) (Within.ite ((h11.next State.idleFault_within).next State.raise_within) h11))

theorem State.auxPg_within {k v} : Within (parts [.objs, .ints, .auxs, .net]) s (State.auxPg s k v) := by
  unfold State.auxPg
  exact Within.ite (State.modAux_within.sub.next (State.raise_plain (by simp))) Within.refl

theorem State.auxRampDone_within {k v} : Within (parts [.objs, .ints, .auxs, .net]) s (State.auxRampDone s k v) := by
  unfold State.auxRampDone
  split
  · exact State.modAux_within.sub.next State.auxPg_within
  · exact State.modAux_within.sub.next State.auxPg_within
  · exact Within.refl

theorem State.auxLow_within {k v} : Within (parts [.objs, .ints, .net]) s (State.auxLow s k v) := by
  unfold State.auxLow
  exact Within.ite ((State.raise_plain (by simp)).sub) Within.refl

theorem State.mirEvent_within {k arg} : Within (parts [.objs, .deferred, .afterBoot, .ints, .mir, .net]) s (State.mirEvent s k arg) := by
  unfold State.mirEvent
  exact Within.ite State.mirTrigger_within.sub Within.refl

theorem State.modPath_within {f} : Within (parts [.path]) s (State.modPath s f) := by
  unfold State.modPath
  exact Within.set_path.sub

theorem State.modEst_within {f} : Within (parts [.est]) s (State.modEst s f) := by
  unfold State.modEst
  exact Within.set_est.sub

theorem State.pathTo_within {st} : Within (parts [.path, .est]) s (State.pathTo s st) := by
  unfold State.pathTo
  extract_lets x11 s12 x13 s14
  refine .have_ (t := s12) State.modPath_within.sub fun h12 => ?_
  refine .have_ (t := s14) (h12.next State.modEst_within) fun h14 => ?_
  exact Within.ite (h14.next State.modEst_within) (Within.ite (h14.next State.modEst_within) h14)

theorem State.handOver_within : Within (parts [.objs, .deferred, .afterBoot, .ints, .path, .est, .mir, .net]) s (State.handOver s) := by
  unfold State.handOver
  exact ((State.pathTo_within.sub.next State.bump_within).next State.raiseLater_within).next State.mirEvent_within

theorem State.pathEval_within : Within (parts [.objs, .deferred, .afterBoot, .ints, .path, .est, .mir, .net]) s (State.pathEval s) := by
  unfold State.pathEval
  exact Within.ite Within.refl (by
    split
    · exact Within.ite State.handOver_within.sub State.pathTo_within.sub
    · exact Within.ite State.handOver_within.sub State.pathTo_within.sub
    · exact Within.refl)

theorem State.startProbe_within : Within (parts [.path, .chg]) s (State.startProbe s) := by
  unfold State.startProbe
  exact Within.ite (State.modPath_within.sub.next State.modChg_within) Within.refl

theorem State.unblockVin_within : Within (parts [.path]) s (State.unblockVin s) := by
  unfold State.unblockVin
  exact State.modPath_within.sub

theorem State.holdReset_within : Within (parts [.objs, .deferred, .afterBoot, .modes, .auxs, .sup, .path]) s (State.holdReset s) := by
  unfold State.holdReset
  extract_lets s11 s12
  refine .have_ (t := s11) State.modSup_within.sub fun h11 => ?_
  refine .have_ (t := s12) (Within.ite ((h11.next State.modPath_within).next State.defer_within) h11) fun h12 => ?_
  exact (((h12.next State.modPath_within).next State.modModes_within).next State.unblockVin_within).next State.refreshAux_within

theorem State.supplyEvent_within {tr} :
    Within (allBut [.published, .now, .answer, .caps, .history, .tiles, .frame, .bus, .est, .nvm, .ports, .links, .hab, .oasis]) s
    (State.supplyEvent s tr) := by
  unfold State.supplyEvent
  exact Within.ite State.beginSeal_within.sub (Within.ite (by
    extract_lets s11 s12
    refine .have_ (t := s11) State.laterTrigger_within.sub fun h11 => ?_
    refine .have_ (t := s12) (h11.next State.put_within) fun h12 => ?_
    exact Within.ite (h12.next State.holdReset_within) h12) Within.refl)

theorem State.supplyLoss_within :
    Within (allBut [.published, .now, .answer, .caps, .history, .tiles, .frame, .bus, .est, .nvm, .ports, .links, .hab, .oasis]) s
    (State.supplyLoss s) := by
  unfold State.supplyLoss
  exact State.supplyEvent_within.sub

theorem State.keeperRest_within : Within (parts [.seq, .path]) s (State.keeperRest s) := by
  unfold State.keeperRest
  exact (State.unblockVin_within.sub.next State.driveFog_within).next State.driveBell_within

theorem State.setMode_within {m why} :
    Within (parts [.objs, .mram, .freeIdx, .deferred, .afterBoot, .modes, .history, .ops, .ints, .met, .net, .sec, .otp, .otpRows,
    .habState]) s (State.setMode s m why) := by
  unfold State.setMode
  exact Within.ite Within.refl
    (((((State.addHistory_within.sub.next State.closeWindow_within).next State.modModes_within).next State.put_within).next
    State.habCheck_within).next State.raise_within)

theorem State.enterShip_within :
    Within (parts [.objs, .mram, .freeIdx, .deferred, .afterBoot, .modes, .history, .ops, .ints, .auxs, .seq, .path, .chg, .met, .net,
    .sec, .otp, .otpRows, .habState]) s (State.enterShip s) := by
  unfold State.enterShip
  exact (((State.chargerStop_within.sub.next State.modModes_within).next State.setMode_within).next State.keeperRest_within).next
    State.refreshAux_within

theorem State.askIdentities_within : Within (parts [.seq]) s (State.askIdentities s) := by
  unfold State.askIdentities
  exact Within.refl.foldl fun _ _ => Within.ite State.oweSlave_within.sub Within.refl

theorem State.auxIdleEntry_within : Within (parts [.objs, .auxs]) s (State.auxIdleEntry s) := by
  unfold State.auxIdleEntry
  exact (Within.refl.foldl fun _ _ => State.modAux_within.sub).next State.refreshAux_within

theorem State.idleEntry_within : Within (parts [.objs, .deferred, .modes, .ints, .auxs, .seq, .net]) s (State.idleEntry s) := by
  unfold State.idleEntry
  exact ((State.modModes_within.sub.next State.raiseDeferred_within).next State.auxIdleEntry_within).next State.askIdentities_within

theorem State.evalMode_within :
    Within (parts [.objs, .mram, .freeIdx, .deferred, .afterBoot, .modes, .history, .ops, .ints, .auxs, .seq, .met, .net, .sec, .otp,
    .otpRows, .habState]) s (State.evalMode s) := by
  unfold State.evalMode
  exact Within.ite (by
    extract_lets x11 x12 s13 s14
    refine .have_ (t := s13) State.setMode_within.sub fun h13 => ?_
    refine .have_ (t := s14) (Within.ite (h13.next State.modModes_within) h13) fun h14 => ?_
    exact Within.ite (h14.next State.idleEntry_within) (h14.next State.refreshAux_within)) Within.refl

theorem State.enterRide_within :
    Within (parts [.objs, .mram, .freeIdx, .deferred, .afterBoot, .modes, .history, .ops, .ints, .auxs, .seq, .chg, .met, .net, .sec, .otp,
    .otpRows, .habState]) s (State.enterRide s) := by
  unfold State.enterRide
  exact (State.modModes_within.sub.next State.chargerStop_within).next State.evalMode_within

theorem State.supplyLevels_within :
    Within (allBut [.published, .now, .answer, .caps, .tiles, .frame, .bus, .est, .nvm, .ports, .links, .hab, .oasis]) s
    (State.supplyLevels s) := by
  unfold State.supplyLevels
  exact Within.ite (Within.ite (Within.ite Within.refl State.supplyLoss_within.sub) (by
    split
    · exact Within.ite State.enterShip_within.sub State.enterRide_within.sub
    · exact State.enterRide_within.sub
    · exact State.enterRide_within.sub
    · exact State.enterRide_within.sub
    · exact Within.refl)) Within.refl

theorem State.batUnusable_within :
    Within (allBut [.published, .now, .answer, .caps, .tiles, .frame, .bus, .nvm, .ports, .links, .hab, .oasis]) s
    (State.batUnusable s) := by
  unfold State.batUnusable
  split
  · exact Within.ite Within.refl (by
      extract_lets x11 x12 s13
      refine .have_ (t := s13) (State.pathTo_within.sub.next State.modPath_within) fun h13 => ?_
      split
      · exact h13.next State.supplyLoss_within
      · exact h13.next State.supplyLoss_within
      · exact h13.next State.supplyLoss_within
      · exact Within.ite (h13.next State.supplyLoss_within) (h13.next State.supplyLevels_within))
  · exact Within.ite Within.refl (by
      extract_lets x11 x12 s13
      refine .have_ (t := s13) (State.pathTo_within.sub.next State.modPath_within) fun h13 => ?_
      split
      · exact h13.next State.supplyLoss_within
      · exact h13.next State.supplyLoss_within
      · exact h13.next State.supplyLoss_within
      · exact Within.ite (h13.next State.supplyLoss_within) (h13.next State.supplyLevels_within))
  · exact Within.refl

theorem State.bellGo_within : Within (parts [.objs, .deferred, .afterBoot, .ops, .ints, .rails, .seq, .net]) s (State.bellGo s) := by
  unfold State.bellGo
  split
  · exact State.driveBell_within.sub.next State.bellOver_within
  · exact Within.refl

theorem State.bellRing_within : Within (parts [.seq]) s (State.bellRing s) := by
  unfold State.bellRing
  split
  · exact Within.set_seq.sub.next State.modGroup_within
  · exact Within.refl

theorem State.seqFault_within {group step rail own res} :
    Within (allBut [.published, .now, .answer, .caps, .history, .tiles, .frame, .bus, .path, .est, .nvm, .ports, .links, .hab, .oasis]) s
    (State.seqFault s group step rail own res) := by
  unfold State.seqFault
  exact Within.ite ((((State.puts_keys (keys := [K.SEQ_FAULT_GROUP, K.SEQ_FAULT_STEP, K.SEQ_FAULT_RAIL, K.SEQ_FAULT_CODE, K.SEQ_FAULT_AT])
    rfl).sub).next State.raise_within).next State.railFault_within) Within.refl

theorem State.stepFault_within {g rail res} :
    Within (allBut [.published, .now, .answer, .caps, .history, .tiles, .frame, .bus, .path, .est, .nvm, .ports, .links, .hab, .oasis]) s
    (State.stepFault s g rail res) := by
  unfold State.stepFault
  exact State.seqFault_within.sub

theorem State.bellTimeout_within :
    Within (allBut [.published, .now, .answer, .caps, .history, .tiles, .frame, .bus, .path, .est, .nvm, .ports, .links, .hab, .oasis]) s
    (State.bellTimeout s) := by
  unfold State.bellTimeout
  split
  · exact State.stepFault_within.sub
  · exact Within.refl

theorem State.leaveRest_within {st} : Within (parts [.objs, .deferred, .afterBoot, .ints, .path, .est, .net]) s (State.leaveRest s st) := by
  unfold State.leaveRest
  exact (State.pathTo_within.sub.next State.modPath_within).next State.raiseLater_within

theorem State.abortRest_within : Within (parts [.objs, .deferred, .afterBoot, .ints, .path, .est, .net]) s (State.abortRest s) := by
  unfold State.abortRest
  exact Within.ite ((State.leaveRest_within.sub.next State.modEst_within).next State.raiseLater_within) Within.refl

theorem State.defaultRow_within {r} : Within (parts [.est]) s (State.defaultRow s r) := by
  unfold State.defaultRow
  exact State.modEst_within.sub

theorem State.swapData_within {keep} : Within (parts [.objs, .deferred, .afterBoot, .ints, .path, .est, .net]) s
    (State.swapData s keep) := by
  unfold State.swapData
  extract_lets s11 s12 s13
  refine .have_ (t := s11) (State.bump_within.sub.next State.abortRest_within) fun h11 => ?_
  refine .have_ (t := s12) (h11.next State.modEst_within) fun h12 => ?_
  refine .have_ (t := s13) ((h12.next (State.puts_keys (keys := [K.EST_CAPACITY, K.EST_CYCLES, K.EST_CYCLE_RESIDUE]) rfl)).next
    State.modEst_within) fun h13 => ?_
  exact Within.ite h12 (h13.foldl fun _ _ => State.defaultRow_within.sub.next State.modEst_within)

theorem State.swap_within : Within (parts [.objs, .deferred, .afterBoot, .ints, .path, .est, .net]) s (State.swap s) := by
  unfold State.swap
  exact State.raise_within.sub.next State.swapData_within

theorem State.bidChange_within : Within (parts [.objs, .deferred, .afterBoot, .ints, .path, .est, .net]) s (State.bidChange s) := by
  unfold State.bidChange
  exact Within.ite (((State.put_within.sub.next State.modEst_within).next State.swap_within).next State.modEst_within) Within.refl

theorem State.bootBit_within {k} : Within (parts [.objs, .bootResult]) s (State.bootBit s k) := by
  unfold State.bootBit
  exact State.put_within.sub

theorem State.bootBitIf_within {b k} : Within (parts [.objs, .bootResult]) s (State.bootBitIf s b k) := by
  unfold State.bootBitIf
  exact Within.ite State.bootBit_within.sub Within.refl

theorem State.setOtpBad_within {x : List Nat} : Within (parts [.otp]) s (s.modOtp fun o => { o with bad := x }) :=
    .of rfl rfl rfl rfl fun p hp => by
  have h := Part.same.refl (s := s) p
  cases p
  case otp => simp at hp
  all_goals exact h

theorem State.bootOtp_within {rep} : Within (parts [.objs, .deferred, .afterBoot, .ints, .net, .sec, .otp, .bootResult]) s
    (State.bootOtp s rep) := by
  unfold State.bootOtp
  extract_lets u lc
  have hu : Within (parts [.otp]) s u := State.setOtpBad_within
  split
  extract_lets fs w x y
  have hv : ∀ m n, Within (parts [.objs, .otp]) s (u.puts [(K.OTP_CORRECTED, m), (K.OTP_UNCORRECTABLE, n)]) := fun m n =>
    hu.sub.next (State.puts_keys (keys := [K.OTP_CORRECTED, K.OTP_UNCORRECTABLE]) rfl)
  have hw : Within (parts [.objs, .otp]) s w := by
    unfold w
    clear_value fs
    cases fs with
    | nil => exact hv _ _
    | cons f fs => exact (hv _ _).next (State.puts_keys (keys := [K.SEC_BOOT_DETAIL, K.OTP_FIRST_BAD]) rfl)
  have hy : Within (parts [.objs, .deferred, .afterBoot, .ints, .net, .sec, .otp, .bootResult]) s y :=
    ((hw.sub.next State.modSec_within).next State.bootBitIf_within).next State.bootBitIf_within
  exact .ite (hy.next (State.raiseLater_plain rfl)) hy

theorem State.modOasis_within {f} : Within (parts [.oasis]) s (State.modOasis s f) := by
  unfold State.modOasis
  exact Within.set_oasis.sub

theorem State.bootOasis_within : Within (parts [.objs, .deferred, .afterBoot, .ints, .net, .oasis]) s (State.bootOasis s) := by
  unfold State.bootOasis
  extract_lets x11 s12
  refine .have_ (t := s12) State.modOasis_within.sub fun h12 => ?_
  exact Within.ite (h12.next State.raiseLater_within) h12

theorem State.scheduleRetry_within {fromService} :
    Within (parts [.objs, .modes, .ints, .net, .fsRetryAt]) s (State.scheduleRetry s fromService) := by
  unfold State.scheduleRetry
  exact Within.ite (by
    extract_lets s11
    refine .have_ (t := s11) State.put_within.sub fun h11 => ?_
    exact Within.ite ((h11.next State.modModes_within).next State.raise_within) h11) (by
    extract_lets x11 x12 s13
    refine .have_ (t := s13) (State.put_within.sub.next State.modModes_within) fun h13 => ?_
    exact Within.ite (h13.next State.raise_within) h13)

theorem State.reportSeal_within : Within (parts [.objs, .ints, .sup, .net]) s (State.reportSeal s) := by
  unfold State.reportSeal
  exact Within.ite (by
    extract_lets x11 s12 s13
    refine .have_ (t := s12) State.modSup_within.sub fun h12 => ?_
    refine .have_ (t := s13) (h12.next State.raise_within) fun h13 => ?_
    exact Within.ite (Within.ite (h13.next State.raise_within) h13) h12) Within.refl

theorem State.enterFailsafe_within {why} :
    Within (allBut [.published, .now, .answer, .caps, .tiles, .frame, .bus, .est, .nvm, .ports, .hab, .oasis]) s
    (State.enterFailsafe s why) := by
  unfold State.enterFailsafe
  exact (((((((((((((State.chargerStop_within.sub.next State.modSup_within).next State.refsDue_within).foldl fun _ _ =>
    State.modLink_within.sub).next State.driveFog_within).next State.driveBell_within).next State.setMode_within).next
    State.modModes_within).next Within.set_met).next State.refreshAux_within).next State.raise_within).next
    State.scheduleRetry_within).next State.raiseDeferred_within).next State.reportSeal_within).next State.supplyLevels_within

theorem State.beginTraining_within {t} : Within (parts [.objs, .links]) s (State.beginTraining s t) := by
  unfold State.beginTraining
  exact State.modLink_within.sub.next (State.put_plain (by simp))

theorem State.modTile_within {t f} : Within (parts [.tiles]) s (State.modTile s t f) := by
  unfold State.modTile
  exact Within.set_tiles.sub

theorem State.unquenchRails_within : Within (parts [.rails]) s (State.unquenchRails s) := by
  unfold State.unquenchRails
  exact Within.refl.foldl fun _ _ => Within.ite State.modRail_within.sub Within.refl

theorem State.releaseLanterns_within : Within (parts [.objs, .tiles, .rails, .sup, .therm, .links]) s (State.releaseLanterns s) := by
  unfold State.releaseLanterns
  extract_lets x11 s12 s13
  refine .have_ (t := s12) State.modSup_within.sub fun h12 => ?_
  refine .have_ (t := s13) (h12.foldl fun _ _ => Within.ite Within.refl
    (Within.ite Within.refl (State.modTile_within.sub.next State.beginTraining_within))) fun h13 => ?_
  exact Within.ite ((h13.next State.unquenchRails_within).next State.refsDue_within) (h13.next State.unquenchRails_within)

theorem State.powerUp_within {g t} : Within (parts [.objs, .deferred, .afterBoot, .ops, .ints, .seq, .net]) s (State.powerUp s g t) := by
  unfold State.powerUp
  extract_lets x11 x12
  split
  · exact State.setOp_within.sub
  · split
    · exact State.finish_within.sub
    · exact State.setOp_within.sub.next State.modGroup_within
    · exact State.setOp_within.sub.next State.modGroup_within
    · exact State.modGroup_within.sub

theorem State.unlatch_within {g} : Within (parts [.objs, .deferred, .afterBoot, .ops, .ints, .seq, .net]) s (State.unlatch s g) := by
  unfold State.unlatch
  extract_lets x11 s12
  refine .have_ (t := s12) State.modGroup_within.sub fun h12 => ?_
  exact Within.ite (h12.next State.finish?_within) h12

theorem State.downOne_within {g tag} : Within (parts [.objs, .deferred, .afterBoot, .ops, .ints, .rails, .seq, .net]) s
    (State.downOne s g tag) := by
  unfold State.downOne
  extract_lets x11 s12 s13 s14 s15 s16 s17 s18 s19
  refine .have_ (t := s12) State.modGroup_within.sub fun h12 => ?_
  refine .have_ (t := s13) (Within.ite (h12.next State.finish?_within) h12) fun h13 => ?_
  refine .have_ (t := s14) State.modGroup_within.sub fun h14 => ?_
  refine .have_ (t := s15) ((h14.next State.setResult_within).next State.finish?_within) fun h15 => ?_
  refine .have_ (t := s16) (State.modGroup_within.sub.next State.dropShed_within) fun h16 => ?_
  refine .have_ (t := s17) ((h16.next State.finish?_within).next State.raise_within) fun h17 => ?_
  refine .have_ (t := s18) (Within.ite (h17.next State.driveBell_within) h17) fun h18 => ?_
  refine .have_ (t := s19) (State.modGroup_within.sub.next State.dropShed_within) fun h19 => ?_
  split
  · exact h13.next State.finish?_within
  · exact (h15.next State.finish?_within).next State.raise_within
  · exact Within.ite (State.modGroup_within.sub.next State.unlatch_within) (Within.ite (h17.next State.startFalling_within)
      (h18.next State.modGroup_within))
  · exact Within.ite (h19.next State.startFalling_within) (h19.next State.modGroup_within)
  · exact State.modGroup_within.sub.next State.unlatch_within

theorem State.powerDown_within {n g tag} : Within (parts [.objs, .deferred, .afterBoot, .ops, .ints, .rails, .seq, .net]) s
    (State.powerDown n s g tag) := by
  induction n generalizing s g tag with
  | zero => exact State.downOne_within.sub
  | succ n ih => exact (Within.refl.foldl fun _ _ => ih).next State.downOne_within

theorem State.allocTag_some_within {kind issuer key status n} (h : State.allocTag s kind issuer key status = some (t, n)) :
    Within (parts [.objs, .ops, .ints, .net]) s t := by
  unfold State.allocTag at h
  split at h
  · cases h
  · cases h
    exact .ite ((State.setOp_within.sub.next .set_ops).next (State.raise_plain rfl)) (State.setOp_within.sub.next .set_ops)

theorem State.groupCommand_some_within {g up issuer n} (h : State.groupCommand s g up issuer = some (t, n)) :
    Within (parts [.objs, .deferred, .afterBoot, .ops, .ints, .rails, .seq, .net]) s t := by
  unfold State.groupCommand at h
  split at h
  · cases h
  · rename_i u k hu
    have hk : Within (parts [.objs, .ops, .ints, .net]) s (u.put (K.GRP_TAG g) k) := (State.allocTag_some_within hu).sub.next
      (State.put_plain (keyParts_of_range (by unfold K.GRP_TAG; omega)))
    dsimp only at h
    split at h
    · cases h
      exact hk.sub.next State.powerUp_within
    · cases h
      refine .trans ?_ State.powerDown_within
      split
      · exact hk.sub.next State.setOp_within
      · exact hk.sub

theorem State.autoStart_within : Within (parts [.objs, .deferred, .afterBoot, .ops, .ints, .rails, .seq, .net]) s (State.autoStart s) := by
  unfold State.autoStart
  refine Within.refl.foldl fun u g => ?_
  split
  · split
    · exact State.groupCommand_some_within ‹_›
    · exact State.countFull_within.sub
  · exact .refl

theorem State.enterIdle_within {why} : Within (allBut [.published, .now, .answer, .caps, .frame, .bus, .est, .nvm, .ports, .hab, .oasis]) s
    (State.enterIdle s why) := by
  unfold State.enterIdle
  exact (((((((State.releaseLanterns_within.sub.next State.driveFog_within).next State.driveBell_within).next State.setMode_within).next
    State.modModes_within).next State.idleEntry_within).next State.reportSeal_within).next State.supplyLevels_within).next
    State.autoStart_within

theorem State.announce_within : Within (parts [.objs, .mram, .freeIdx, .deferred, .afterBoot, .ops, .ints, .met, .net, .hab, .habState]) s
    (State.announce s) := by
  unfold State.announce
  exact State.netBegin_within.sub.foldl fun _ _ => Within.ite State.netSend_within.sub Within.refl

theorem State.bootEnd_within : Within (allBut [.published, .now, .answer, .caps, .frame, .bus, .est, .nvm, .ports, .oasis]) s
    (State.bootEnd s) := by
  unfold State.bootEnd
  extract_lets s11 s12 x13 s14
  refine .have_ (t := s11) (Within.ite State.raiseLater_within.sub Within.refl) fun h11 => ?_
  refine .have_ (t := s12) (Within.ite ((h11.next State.modPath_within).next State.raiseLater_within) h11) fun h12 => ?_
  refine .have_ (t := s14) (h12.next State.enterIdle_within) fun h14 => ?_
  exact Within.ite (((h12.next State.put_within).next State.modModes_within).next State.enterFailsafe_within)
    (Within.ite (h12.next State.enterFailsafe_within)
    (Within.ite ((Within.ite (h14.next State.raise_within) h14).next State.announce_within) h14))

theorem State.trainLinks_within {f} : Within (parts [.objs, .links]) s (State.trainLinks s f) := by
  unfold State.trainLinks
  exact Within.refl.foldl fun _ _ => State.beginTraining_within.sub

theorem State.bootPll_within {fail} : Within (parts [.objs, .deferred, .afterBoot, .ints, .met, .net, .links, .tbSource, .bootResult]) s
    (State.bootPll s fail) := by
  unfold State.bootPll
  exact (Within.ite (((State.bootBit_within.sub.next State.put_within).next State.raiseLater_within).next Within.set_met) Within.refl).next
    State.trainLinks_within

theorem State.chemFirst_within {es} : Within (parts [.objs]) s (State.chemFirst es s) := by
  unfold State.chemFirst
  split
  · exact State.put_within.sub
  · exact Within.refl

theorem State.bootOtpEntry_within {e} :
    Within (parts [.objs, .events, .wakeSource, .wakeEnable, .fsRetryCount, .fsRetryAt, .fsCause, .resetCause, .tbSource, .bootResult,
    .sealStage, .faultShown, .seqFault, .habState]) s (State.bootOtpEntry s e) := by
  unfold State.bootOtpEntry
  exact Within.ite (by
    split
    · exact Within.ite Within.refl State.put_any.sub
    · exact Within.refl) State.put_within.sub

theorem State.chemDefaults_within :
    Within (parts [.objs, .events, .wakeSource, .wakeEnable, .fsRetryCount, .fsRetryAt, .fsCause, .resetCause, .tbSource, .bootResult,
    .sealStage, .faultShown, .seqFault, .habState]) s (State.chemDefaults s) := by
  unfold State.chemDefaults
  exact Within.ite (Within.refl.foldl fun _ _ => by
    split
    · exact State.put_any.sub
    · exact Within.refl) Within.refl

theorem State.rejectEntry_within {key} : Within (parts [.objs]) s (State.rejectEntry s key) := by
  unfold State.rejectEntry
  extract_lets s11
  refine .have_ (t := s11) State.put_within.sub fun h11 => ?_
  exact Within.ite (h11.next State.put_within) h11

theorem State.bootRules_within {otp image n} : Within (parts ([.objs, .bootResult] ++ Part.named)) s (State.bootRules otp image n s) := by
  induction n generalizing s image with
  | zero => exact .refl
  | succ n ih =>
    unfold State.bootRules
    extract_lets hits
    split
    · exact .refl
    · exact .trans (Within.refl.foldl fun _ _ => State.put_any.sub.next State.rejectEntry_within) ih

theorem State.bootEntry_within {e} :
    Within (parts [.objs, .events, .wakeSource, .wakeEnable, .fsRetryCount, .fsRetryAt, .fsCause, .resetCause, .tbSource, .bootResult,
    .sealStage, .faultShown, .seqFault, .habState]) s (State.bootEntry s e) := by
  unfold State.bootEntry
  split
  · exact Within.ite State.put_within.sub (Within.ite ((Within.ite Within.refl State.put_any.sub).next State.put_within)
      State.rejectEntry_within.sub)
  · exact State.rejectEntry_within.sub

theorem State.loadConfig_within :
    Within (parts [.objs, .events, .wakeSource, .wakeEnable, .fsRetryCount, .fsRetryAt, .fsCause, .resetCause, .tbSource, .bootResult,
    .sealStage, .faultShown, .seqFault, .habState]) s (State.loadConfig s) := by
  unfold State.loadConfig
  extract_lets x11 x12 x13 s14
  refine .have_ (t := s14)
    (((State.chemFirst_within.sub.next State.chemDefaults_within).foldl fun _ _ => State.bootOtpEntry_within.sub).next
    State.chemFirst_within) fun h14 => ?_
  split
  · exact h14.next State.put_within
  · exact ((h14.next (State.puts_keys (keys := [K.CFG_ACTIVE_SLOT, K.CFG_ACTIVE_SEQ, K.CFG_ACTIVE_ID]) rfl)).foldl fun _ _ =>
      State.bootEntry_within.sub).next State.bootRules_within

theorem State.refuseCommit_within : Within (parts [.objs, .deferred, .afterBoot, .ops, .ints, .net, .cfg]) s (State.refuseCommit s) := by
  unfold State.refuseCommit
  exact Within.ite (State.put_within.sub.next State.abandonCommit_within) Within.refl

theorem State.fenceCommit_within {t} : Within (parts [.objs, .deferred, .afterBoot, .ops, .ints, .net, .cfg]) s
    (State.fenceCommit s t) := by
  unfold State.fenceCommit
  exact Within.ite State.refuseCommit_within.sub Within.refl

theorem State.noteSpares_within {r} : Within (parts [.objs, .ints, .net]) s (State.noteSpares s r) := by
  unfold State.noteSpares
  exact Within.ite Within.refl ((State.raise_plain (by simp)).sub)

theorem State.spareLost_within {r p wasJoining} :
    Within (parts [.objs, .ints, .phases, .rails, .net]) s (State.spareLost s r p wasJoining) := by
  unfold State.spareLost
  extract_lets s11 s12
  refine .have_ (t := s11) State.modRail_within.sub fun h11 => ?_
  refine .have_ (t := s12) (h11.next State.noteSpares_within) fun h12 => ?_
  exact Within.ite (h12.next State.commandSpare_within) h12

theorem State.returnShed_within {r n} : Within (parts [.phases]) s (State.returnShed s r n) := by
  unfold State.returnShed
  exact Within.refl.foldl fun _ _ => State.atNextEdge_within.sub

theorem State.memberLost_within {r wasActive wasHealthy clamp} :
    Within (allBut [.published, .now, .answer, .caps, .history, .tiles, .frame, .bus, .path, .est, .nvm, .ports, .links, .hab, .oasis]) s
    (State.memberLost s r wasActive wasHealthy clamp) := by
  unfold State.memberLost
  extract_lets s11 s12 x13
  refine .have_ (t := s11) (Within.ite State.modRail_within.sub Within.refl) fun h11 => ?_
  refine .have_ (t := s12) ((h11.next State.refreshDegraded_within).next State.refreshLimiting_within) fun h12 => ?_
  exact Within.ite (h12.next State.railFault_within) (Within.ite (h12.next State.returnShed_within) (h12.next State.commandSpare_within))

theorem State.isolate_within {p why} :
    Within (allBut [.published, .now, .answer, .caps, .history, .tiles, .frame, .bus, .path, .est, .nvm, .ports, .links, .hab, .oasis]) s
    (State.isolate s p why) := by
  unfold State.isolate
  exact Within.ite Within.refl (by
    extract_lets x11 x12 x13 s14 s15 s16 s17
    refine .have_ (t := s14) State.modPhase_within.sub fun h14 => ?_
    refine .have_ (t := s15) ((h14.next State.leftShed_within).next (State.raise_plain (by simp))) fun h15 => ?_
    refine .have_ (t := s16) (by
        unfold s16
        exact Within.ite h15 (by
          split
          · exact h15.next (State.raise_plain (by simp))
          · exact h15)) fun h16 => ?_
    refine .have_ (t := s17) (h16.next State.mirEvent_within) fun h17 => ?_
    split
    · exact h17
    · extract_lets s21
      refine .have_ (t := s21) (h17.next State.leadPasses_within) fun h21 => ?_
      exact Within.ite (h21.next State.spareLost_within) (Within.ite (h21.next State.memberLost_within)
        (h21.next State.refreshDegraded_within)))

theorem State.fence_within {t} :
    Within (allBut [.published, .now, .answer, .caps, .history, .frame, .bus, .path, .est, .nvm, .ports, .hab, .oasis]) s
    (State.fence s t) := by
  unfold State.fence
  exact Within.ite Within.refl (by
    extract_lets s11 s12 s13 s14 s15
    refine .have_ (t := s11) State.modTile_within.sub fun h11 => ?_
    refine .have_ (t := s12) (h11.next State.modLink_within) fun h12 => ?_
    refine .have_ (t := s13) ((h12.next State.put_within).next State.raiseLater_within) fun h13 => ?_
    refine .have_ (t := s14) (h13.next State.fenceCommit_within) fun h14 => ?_
    refine .have_ (t := s15) (Within.ite (h14.next State.habEnd_within) h14) fun h15 => ?_
    exact h15.foldl fun _ _ => State.isolate_within.sub)

theorem State.trainFence_within {t} :
    Within (allBut [.published, .now, .answer, .caps, .history, .frame, .bus, .path, .est, .nvm, .ports, .hab, .oasis]) s
    (State.trainFence s t) := by
  unfold State.trainFence
  exact ((State.raiseLater_within.sub.next State.put_within).next State.raiseLater_within).next State.fence_within

theorem State.fenceUntrained_within :
    Within (allBut [.published, .now, .answer, .caps, .history, .frame, .bus, .path, .est, .nvm, .ports, .hab, .oasis]) s
    (State.fenceUntrained s) := by
  unfold State.fenceUntrained
  exact Within.refl.foldl fun _ _ => Within.ite State.trainFence_within.sub Within.refl

theorem State.buildRail_within {r} : Within (parts [.objs, .ints, .phases, .rails, .net]) s (State.buildRail s r) := by
  unfold State.buildRail
  extract_lets x11 s12 x13 x14 s15
  refine .have_ (t := s12) ((State.put_plain (by simp)).sub) fun h12 => ?_
  refine .have_ (t := s15) ((h12.foldl fun _ _ => State.modPhase_within.sub).foldl fun _ _ => State.modPhase_within.sub) fun h15 => ?_
  exact Within.ite ((h15.next State.modRail_within).next State.refreshDegraded_within)
    (Within.ite h12 (h12.next (State.raise_plain (by simp))))

theorem State.safeValues_within : Within (parts [.objs]) s (State.safeValues s) := by
  unfold State.safeValues
  exact (State.puts_keys (keys := [K.CHG_SAFE_ICHG, K.CHG_SAFE_VCELL]) rfl).sub

theorem State.loadHeader_within : Within (parts [.met]) s (State.loadHeader s) := by
  unfold State.loadHeader
  split
  · exact State.modJnl_within.sub
  · exact Within.refl

theorem State.adoptSession_within {q bs} : Within (parts [.objs, .deferred, .afterBoot, .ints, .met, .net]) s
    (State.adoptSession s q bs) := by
  unfold State.adoptSession
  split
  · exact Within.refl
  · exact Within.ite State.modPoint_within.sub (Within.ite (State.modPoint_within.sub.next (State.bump_plain (by simp))) Within.refl)

theorem State.adoptRecords_within {n} : Within (parts [.objs, .deferred, .afterBoot, .ints, .met, .net]) s (State.adoptRecords n s) := by
  induction n generalizing s with
  | zero => exact .refl
  | succ n ih =>
    unfold State.adoptRecords
    extract_lets bs
    split
    · exact (State.adoptSession_within.sub.next State.modJnl_within).trans ih
    · exact .refl

theorem State.restoreRegisters_within : Within (parts [.met]) s (State.restoreRegisters s) := by
  unfold State.restoreRegisters
  exact Within.refl.foldl fun _ _ => State.modPoint_within.sub

theorem State.writeSignature_within {m} : Within (parts [.objs, .mram, .deferred, .afterBoot, .ops, .ints, .met, .net]) s
    (State.writeSignature s m) := by
  unfold State.writeSignature
  exact Within.ite Within.refl
    ((((((State.writeRecord_within.sub.next State.modPoint_within).next (State.put_plain (by simp))).next State.noteFill_within).next
    State.finish?_within).next (State.bump_plain (by simp))).next (State.raiseLater_plain (by simp)))

theorem State.recoverSession_within {m} : Within (parts [.objs, .mram, .freeIdx, .deferred, .afterBoot, .ops, .ints, .met, .net]) s
    (State.recoverSession s m) := by
  unfold State.recoverSession
  extract_lets x11 x12
  split
  · rename_i x20 u2 e2
    refine .have_ (t := u2) (.of_snd State.fresh_within.sub e2) fun h2 => ?_
    split
    · rename_i x30 u3 e3
      refine .have_ (t := u3) (.of_snd (h2.next State.fresh_within) e3) fun h3 => ?_
      extract_lets s41 s42 x43
      refine .have_ (t := s41) (Within.ite h3 ((h3.next State.modPoint_within).next State.writeEnd_within)) fun h41 => ?_
      refine .have_ (t := s42) (Within.ite (h41.next State.writeSignature_within) (h41.next State.modPoint_within)) fun h42 => ?_
      exact (h42.next State.raiseLater_within).next State.journalEvent_within

theorem State.journalTimeInvalid_within {cause} : Within (parts [.objs, .mram, .freeIdx, .deferred, .afterBoot, .ints, .met, .net]) s
    (State.journalTimeInvalid s cause) := by
  unfold State.journalTimeInvalid
  exact Within.ite ((State.journalEvent_within.sub.next State.modJnl_within).next State.raiseLater_within) Within.refl

theorem State.bootRecords_within {n} : Within (parts [.objs, .mram, .freeIdx, .deferred, .afterBoot, .ints, .met, .net]) s
    (State.bootRecords s n) := by
  unfold State.bootRecords
  extract_lets s11 x12 x13 s14
  refine .have_ (t := s11) State.journalEvent_within.sub fun h11 => ?_
  refine .have_ (t := s14) ((h11.next State.journalEvent_within).next State.raiseLater_within) fun h14 => ?_
  exact Within.ite h14 (h14.next State.journalTimeInvalid_within)

theorem State.recoverJournal_within : Within (parts [.objs, .mram, .freeIdx, .deferred, .afterBoot, .ops, .ints, .met, .net, .bootResult])
    s (State.recoverJournal s) := by
  unfold State.recoverJournal
  exact Within.ite Within.refl (by
    extract_lets s11 x12 s13 x14 x15 s16 x17 s18 s19 x110 s111 x112
    refine .have_ (t := s11) State.loadHeader_within.sub fun h11 => ?_
    refine .have_ (t := s13) (h11.next State.adoptRecords_within) fun h13 => ?_
    refine .have_ (t := s16) (Within.ite (((h13.next State.eraseMram_within).next State.raiseLater_within).next State.bump_within) h13)
      fun h16 => ?_
    refine .have_ (t := s18) (Within.ite (h16.next State.raiseLater_within) h16) fun h18 => ?_
    refine .have_ (t := s19) (h18.next State.restoreRegisters_within) fun h19 => ?_
    refine .have_ (t := s111) (h19.foldl fun _ _ => State.recoverSession_within.sub) fun h111 => ?_
    exact (((h111.next State.modJnl_within).next State.bootBitIf_within).next State.bootRecords_within).next State.writeHeader_within)

theorem State.bootLoad_within :
    Within (allBut [.published, .now, .answer, .caps, .history, .frame, .bus, .path, .est, .nvm, .ports, .hab, .oasis]) s
    (State.bootLoad s) := by
  unfold State.bootLoad
  extract_lets s11 s12 s13 s14
  refine .have_ (t := s11) (State.fenceUntrained_within.sub.next State.loadConfig_within) fun h11 => ?_
  refine .have_ (t := s12) (h11.next State.bootBitIf_within) fun h12 => ?_
  refine .have_ (t := s13) ((h12.next State.safeValues_within).foldl fun _ _ => State.buildRail_within.sub) fun h13 => ?_
  refine .have_ (t := s14) (h13.next State.recoverJournal_within) fun h14 => ?_
  exact Within.ite (h14.next State.journalEvent_within) h14

theorem State.bootComplete_within {rep} : Within (allBut [.published, .now, .answer, .caps, .frame, .bus, .est, .nvm, .ports]) s
    (State.bootComplete s rep) := by
  unfold State.bootComplete
  exact Within.ite (by
    extract_lets s11 s12
    refine .have_ (t := s11) (State.bootOasis_within.sub.next State.bootOtp_within) fun h11 => ?_
    refine .have_ (t := s12) ((((h11.next State.bootPll_within).next State.bootBitIf_within).next State.bootBitIf_within).next
      State.bootBitIf_within) fun h12 => ?_
    exact Within.ite (h11.next State.bootEnd_within) (Within.ite (h12.next State.bootEnd_within)
      ((h12.next State.bootLoad_within).next State.bootEnd_within))) Within.refl

theorem State.startBusClear_within : Within (parts [.bus]) s (State.startBusClear s) := by
  unfold State.startBusClear
  exact Within.set_bus.sub

theorem State.loseSlave_within {k} :
    Within (allBut [.published, .now, .answer, .caps, .history, .tiles, .frame, .bus, .path, .est, .nvm, .ports, .links, .hab, .oasis]) s
    (State.loseSlave s k) := by
  unfold State.loseSlave
  extract_lets s11 s12
  refine .have_ (t := s11) State.modSlave_within.sub fun h11 => ?_
  refine .have_ (t := s12) ((h11.next State.put_within).next State.raise_within) fun h12 => ?_
  split
  · exact h12.next State.stepFault_within
  · exact h12

theorem State.busClearDone_within {sdaLow} :
    Within (allBut [.published, .now, .answer, .caps, .history, .tiles, .frame, .path, .est, .nvm, .ports, .links, .hab, .oasis]) s
    (State.busClearDone s sdaLow) := by
  unfold State.busClearDone
  exact Within.ite (by
    extract_lets x11 s12 s13
    refine .have_ (t := s12) (Within.set_bus.sub.next State.bump_within) fun h12 => ?_
    refine .have_ (t := s13) (h12.next State.raiseLater_within) fun h13 => ?_
    exact Within.ite (h13.foldl fun _ _ => Within.ite Within.refl (Within.ite (by
      split
      · exact State.stepFault_within.sub
      · exact Within.refl) State.loseSlave_within.sub)) h12) Within.refl

theorem State.modLedger_within {f} : Within (parts [.ledger]) s (State.modLedger s f) := by
  unfold State.modLedger
  exact Within.set_ledger.sub

theorem State.bootFresh_within {cause why} : Within (allBut [.oasis, .mram, .otpRows, .answer, .freeIdx]) s
    (State.bootFresh s cause why) := by
  unfold State.bootFresh
  lift_lets
  extract_lets src t r p m j o u e v w x
  have hu : Within (allBut [.oasis, .mram, .otpRows, .answer, .freeIdx]) s u := by
    refine ⟨rfl, id, fun hc => ⟨hc.keptObjs, hc.2⟩, fun p hp => ?_⟩
    cases p
    case oasis => exact rfl
    case mram => exact rfl
    case otpRows => exact ⟨rfl, rfl⟩
    case answer => exact rfl
    case freeIdx => exact rfl
    all_goals exact absurd hp (by decide)
  have hv : Within (allBut [.oasis, .mram, .otpRows, .answer, .freeIdx]) s v := hu.next .set_est
  have hw : Within (allBut [.oasis, .mram, .otpRows, .answer, .freeIdx]) s w := .ite hv (hv.next State.put_within)
  have hx : Within (allBut [.oasis, .mram, .otpRows, .answer, .freeIdx]) s x := (hw.next State.addHistory_within).next State.put_within
  exact ((hx.next State.put_within).next (State.bump_plain rfl)).next State.loadAccounts_within

theorem State.bootStart_within {cause why} : Within (allBut [.answer, .oasis]) s (State.bootStart s cause why) := by
  unfold State.bootStart
  exact (State.bootFresh_within.sub.next State.pathEval_within).next State.supplyLevels_within

theorem State.wake_within {sources} : Within (allBut [.answer, .oasis]) s (State.wake s sources) := by
  unfold State.wake
  extract_lets s11 x12 s13 s14 s15 s16
  refine .have_ (t := s11) (Within.ite State.modPath_within.sub Within.refl) fun h11 => ?_
  refine .have_ (t := s13) (((h11.next State.put_within).next State.bump_within).next State.modModes_within) fun h13 => ?_
  refine .have_ (t := s14) (((h11.next State.put_within).next State.bump_within).next State.modModes_within) fun h14 => ?_
  refine .have_ (t := s15) (((h11.next State.put_within).next State.bump_within).next State.modModes_within) fun h15 => ?_
  refine .have_ (t := s16) (h15.next Within.set_now) fun h16 => ?_
  exact Within.ite h11 (by
    split
    · exact Within.ite h11 (Within.ite (h13.next State.bootStart_within) h13)
    · exact Within.ite h14 (h14.next State.modPath_within)
    · exact Within.ite h11 (h16.next State.releaseLanterns_within)
    · exact h11)

theorem State.alarmCheck_within : Within (allBut [.answer, .oasis]) s (State.alarmCheck s) := by
  unfold State.alarmCheck
  exact Within.ite Within.refl ((State.put_within.sub.next State.raiseLater_within).next State.wake_within)

theorem State.evictPort_within {q} :
    Within (parts [.objs, .mram, .freeIdx, .deferred, .afterBoot, .ops, .ints, .met, .nvm, .dma, .net, .cfg, .hab, .habState]) s
    (State.evictPort s q) := by
  unfold State.evictPort
  exact Within.refl.foldl fun _ _ => by
    split
    · exact Within.ite State.evict_within.sub Within.refl
    · exact Within.refl

theorem State.canOff_within {q} :
    Within (parts [.objs, .mram, .freeIdx, .deferred, .afterBoot, .ops, .ints, .met, .nvm, .dma, .net, .cfg, .hab, .habState]) s
    (State.canOff s q) := by
  unfold State.canOff
  extract_lets s11
  refine .have_ (t := s11) State.netBegin_within.sub fun h11 => ?_
  exact Within.ite ((((h11.next State.modCan_within).next (State.countPort_within)).next State.raise_within).next State.evictPort_within)
    h11

theorem State.cellLow_within : Within (parts [.objs, .deferred, .afterBoot, .ints, .net, .oasis]) s (State.cellLow s) := by
  unfold State.cellLow
  exact Within.ite (State.modOasis_within.sub.next State.raiseLater_within) Within.refl

theorem State.ready_within {t up k} : Within (parts [.links]) s (State.ready s t up k) := by
  unfold State.ready
  exact Within.ite Within.refl State.modLink_within.sub

theorem State.tileIsolates_within {p why} :
    Within (allBut [.published, .now, .answer, .caps, .history, .tiles, .frame, .bus, .path, .est, .nvm, .ports, .hab, .oasis]) s
    (State.tileIsolates s p why) := by
  unfold State.tileIsolates
  exact State.isolate_within.sub.next State.ready_within

theorem State.declare_within {p why} :
    Within (allBut [.published, .now, .answer, .caps, .history, .tiles, .frame, .bus, .path, .est, .nvm, .ports, .hab, .oasis]) s
    (State.declare s p why) := by
  unfold State.declare
  exact Within.ite (by
    extract_lets s11 s12
    refine .have_ (t := s11) State.modPhase_within.sub fun h11 => ?_
    refine .have_ (t := s12) (by
        unfold s12
        split
        · exact h11.next (State.raise_plain (by simp))
        · exact h11) fun h12 => ?_
    split
    · exact Within.ite (h12.next State.tileIsolates_within) h12
    · exact h12) Within.refl

theorem State.voidSlot_within {slot} : Within (parts [.mram]) s (State.voidSlot s slot) := by
  unfold State.voidSlot
  exact State.eraseMram_within.sub

theorem State.storeImage_within {slot bs} : Within (parts [.mram]) s (State.storeImage s slot bs) := by
  unfold State.storeImage
  exact State.writeMram_within.sub

theorem State.saveDone_within : Within (parts [.objs, .mram, .deferred, .afterBoot, .ops, .ints, .net, .cfg]) s (State.saveDone s) := by
  unfold State.saveDone
  split
  · exact Within.refl
  · extract_lets x11 s12 x13 s14
    refine .have_ (t := s12) State.modCfg_within.sub fun h12 => ?_
    refine .have_ (t := s14) (h12.next State.storeImage_within) fun h14 => ?_
    exact Within.ite (Within.ite h14 ((h14.next State.modCfg_within).next State.finish?_within)) (h12.next State.finish?_within)

theorem State.modPort_within {q f} : Within (parts [.ports]) s (State.modPort s q f) := by
  unfold State.modPort
  exact Within.set_ports.sub

theorem State.modBox_within {q f} : Within (parts [.ports]) s (State.modBox s q f) := by
  unfold State.modBox
  exact State.modPort_within.sub

theorem State.revokeSegments_within {q} : Within (parts [.objs, .deferred, .afterBoot, .ops, .ints, .dma, .net, .ports]) s
    (State.revokeSegments s q) := by
  unfold State.revokeSegments
  exact Within.ite ((State.haltChannel_within.sub.next State.leaseRevoked_within).next State.modBox_within) Within.refl

theorem State.revokeHost_within {c row} (h : keyParts (K.SUP_LEASE_REVOKES row) = 0 := by rfl) :
    Within (parts [.objs, .deferred, .afterBoot, .ops, .ints, .dma, .net]) s (State.revokeHost s c row) := by
  unfold State.revokeHost
  exact (State.haltChannel_within.sub.next (State.leaseRevoked_within h)).next State.modChannel_within

theorem State.revokeChannel_within {c} :
    Within (parts [.objs, .mram, .freeIdx, .deferred, .afterBoot, .ops, .ints, .met, .dma, .net, .ports, .hab, .habState]) s
    (State.revokeChannel s c) := by
  unfold State.revokeChannel
  extract_lets s11
  refine .have_ (t := s11) State.netBegin_within.sub fun h11 => ?_
  exact Within.ite h11 (Within.ite (by
    split
    · exact h11.next State.revokeBlock_within
    · exact (h11.next State.haltChannel_within).next State.leaseRevoked_within) (Within.ite (h11.next State.revokeSegments_within)
        (h11.next (State.revokeHost_within))))

theorem State.seeSwitching_within : Within (parts [.est]) s (State.seeSwitching s) := by
  unfold State.seeSwitching
  exact State.modEst_within.sub

theorem State.chgTo_within {st} : Within (parts [.objs, .ints, .chg, .est, .net]) s (State.chgTo s st) := by
  unfold State.chgTo
  exact Within.ite Within.refl (by
    extract_lets s11 s12
    refine .have_ (t := s11) (State.modChg_within.sub.next State.raise_within) fun h11 => ?_
    refine .have_ (t := s12) (h11.next State.seeSwitching_within) fun h12 => ?_
    exact Within.ite (h12.next State.raise_within) h12)

theorem State.chargerCycle_within {current voltage} :
    Within (parts [.objs, .ints, .chg, .est, .net]) s (State.chargerCycle s current voltage) := by
  unfold State.chargerCycle
  exact Within.ite (by
    extract_lets s11
    refine .have_ (t := s11) State.modChg_within.sub fun h11 => ?_
    split
    · exact Within.ite (h11.next State.chgTo_within) h11
    · exact Within.ite h11 (h11.next State.chgTo_within)
    · exact h11) Within.refl

theorem State.startCycle_within : Within (parts [.objs, .deferred, .afterBoot, .ints, .chg, .est, .net]) s (State.startCycle s) := by
  unfold State.startCycle
  exact ((State.modChg_within.sub.next State.chgTo_within).next State.bump_within).next State.raise_within

theorem State.chgFault_within {code} : Within (parts [.objs, .ints, .chg, .est, .net]) s (State.chgFault s code) := by
  unfold State.chgFault
  exact (State.put_within.sub.next State.chgTo_within).next State.raise_within

theorem State.chargerEval_within : Within (parts [.objs, .deferred, .afterBoot, .ints, .chg, .est, .net]) s (State.chargerEval s) := by
  unfold State.chargerEval
  exact Within.ite Within.refl (Within.ite (Within.ite Within.refl State.chgTo_within.sub) (by
    split
    · exact State.modChg_within.sub.next State.chgTo_within
    · exact Within.refl
    · exact Within.ite State.startCycle_within.sub Within.refl
    · exact Within.ite (State.modChg_within.sub.next State.chgTo_within) Within.refl
    · exact Within.ite State.chgFault_within.sub (Within.ite (State.modChg_within.sub.next State.chgTo_within)
        (Within.ite Within.refl State.chgTo_within.sub))
    · exact Within.ite State.chgFault_within.sub (Within.ite (State.modChg_within.sub.next State.chgTo_within)
        (Within.ite Within.refl State.chgTo_within.sub))
    · exact Within.ite State.chgFault_within.sub (Within.ite (State.modChg_within.sub.next State.chgTo_within)
        (Within.ite Within.refl State.chgTo_within.sub))
    · exact Within.ite State.chgFault_within.sub (Within.ite (State.modChg_within.sub.next State.chgTo_within)
        (Within.ite State.chgTo_within.sub Within.refl))))

theorem State.ovCheck_within {v} : Within (parts [.objs, .deferred, .afterBoot, .ints, .chg, .est, .net]) s (State.ovCheck s v) := by
  unfold State.ovCheck
  exact Within.ite (by
    extract_lets s11
    refine .have_ (t := s11) State.modChg_within.sub fun h11 => ?_
    exact Within.ite (h11.next State.chgFault_within) (h11.next State.chargerEval_within)) Within.refl

theorem State.ovStopped_within {v} : Within (parts [.objs, .ints, .path, .chg, .est, .net]) s (State.ovStopped s v) := by
  unfold State.ovStopped
  exact Within.ite ((State.modChg_within.sub.next State.chgTo_within).next State.modPath_within) Within.refl

theorem State.cyclePending_within : Within (parts [.objs, .ints, .chg, .est, .net]) s (State.cyclePending s) := by
  unfold State.cyclePending
  extract_lets s11
  refine .have_ (t := s11) State.modChg_within.sub fun h11 => ?_
  exact Within.ite ((h11.next State.put_within).next State.chgTo_within) h11

theorem State.terminate_within : Within (parts [.objs, .ints, .chg, .est, .net]) s (State.terminate s) := by
  unfold State.terminate
  exact Within.ite (State.chgTo_within.sub.next State.raise_within) Within.refl

theorem State.timerExpiry_within : Within (parts [.objs, .ints, .chg, .est, .net]) s (State.timerExpiry s) := by
  unfold State.timerExpiry
  split
  · exact Within.ite State.chgFault_within.sub Within.refl
  · exact Within.ite State.chgFault_within.sub Within.refl
  · exact Within.ite State.chgFault_within.sub Within.refl
  · exact Within.refl

theorem State.wdExpiry_within : Within (parts [.objs, .deferred, .afterBoot, .ints, .chg, .net]) s (State.wdExpiry s) := by
  unfold State.wdExpiry
  exact Within.ite ((State.modChg_within.sub.next State.bump_within).next State.raise_within) Within.refl

theorem State.enterUp_within {r st} : Within (parts [.objs, .ints, .rails, .net]) s (State.enterUp s r st) := by
  unfold State.enterUp
  exact State.modRail_within.sub.next (State.raise_plain (by simp))

theorem State.railPhasesOff_within {r} : Within (parts [.objs, .ints, .phases, .net]) s (State.railPhasesOff s r) := by
  unfold State.railPhasesOff
  exact Within.refl.foldl fun _ _ => State.phaseOff_within.sub

theorem State.enterOff_within {r} : Within (parts [.objs, .ints, .phases, .rails, .net]) s (State.enterOff s r) := by
  unfold State.enterOff
  extract_lets x11 s12 s13
  refine .have_ (t := s12) (State.railPhasesOff_within.sub.next State.modRail_within) fun h12 => ?_
  refine .have_ (t := s13) (h12.next (State.raise_plain (by simp))) fun h13 => ?_
  exact Within.ite (h13.next State.sendRail_within) h13

theorem State.readyAll_within {up k f} : Within (parts [.links]) s (State.readyAll s up k f) := by
  unfold State.readyAll
  exact Within.refl.foldl fun _ _ => State.ready_within.sub

theorem State.checksDone_within : Within (parts [.objs, .deferred, .afterBoot, .ops, .ints, .net, .cfg, .links]) s
    (State.checksDone s) := by
  unfold State.checksDone
  exact Within.ite Within.refl (by
    split
    · exact (Within.next (by
        split
        · exact (State.put_plain (by simp)).sub
        · exact Within.refl) (State.puts_keys (keys := [K.CFG_COMMIT_ABORT, K.CFG_STAGED_FAULT]) rfl)).next State.abandonCommit_within
    · exact State.modCfg_within.sub.next State.readyAll_within)

theorem State.framePulse_within :
    Within (parts [.objs, .cfg, .events, .wakeSource, .wakeEnable, .fsRetryCount, .fsRetryAt, .fsCause, .resetCause, .tbSource,
    .bootResult, .sealStage, .faultShown, .seqFault, .habState]) s (State.framePulse s) := by
  unfold State.framePulse
  exact State.landFsw_within.sub

theorem State.settlePulse_within :
    Within (parts [.objs, .cfg, .events, .wakeSource, .wakeEnable, .fsRetryCount, .fsRetryAt, .fsCause, .resetCause, .tbSource,
    .bootResult, .sealStage, .faultShown, .seqFault, .habState]) s (State.settlePulse s) := by
  unfold State.settlePulse
  exact Within.ite State.framePulse_within.sub Within.refl

theorem State.timeTo_within {t} :
    Within (parts [.objs, .now, .cfg, .events, .wakeSource, .wakeEnable, .fsRetryCount, .fsRetryAt, .fsCause, .resetCause, .tbSource,
    .bootResult, .sealStage, .faultShown, .seqFault, .habState]) s (State.timeTo s t) := by
  unfold State.timeTo
  exact Within.set_now.sub.next State.settlePulse_within

theorem State.lastLost_within {kvs} :
    Within (allBut [.published, .now, .answer, .caps, .history, .tiles, .frame, .bus, .path, .est, .nvm, .ports, .links, .hab, .oasis]) s
    (State.lastLost s kvs) := by
  unfold State.lastLost
  exact Within.refl.foldl fun _ _ => Within.ite State.railFault_within.sub Within.refl

theorem State.buildCommitted_within {kvs} : Within (parts [.objs, .ints, .phases, .rails, .net]) s (State.buildCommitted s kvs) := by
  unfold State.buildCommitted
  exact Within.refl.foldl fun _ _ => Within.ite (State.listsAtRest_within.sub.next State.refreshDegraded_within) Within.refl

theorem State.recordBuilt_within {kvs} : Within (parts [.objs]) s (State.recordBuilt s kvs) := by
  unfold State.recordBuilt
  exact Within.refl.foldl fun _ _ => Within.ite ((State.put_plain (by simp)).sub) Within.refl

theorem State.stageApply_within :
    Within (allBut [.published, .answer, .caps, .history, .tiles, .frame, .bus, .path, .est, .nvm, .ports, .links, .hab, .oasis]) s
    (State.stageApply s) := by
  unfold State.stageApply
  extract_lets x11 s12 x13 s14
  refine .have_ (t := s12) State.timeTo_within.sub fun h12 => ?_
  refine .have_ (t := s14) (by
      unfold s14
      split
      · exact h12.next State.setOp_within
      · exact h12) fun h14 => ?_
  split
  · exact Within.ite Within.refl (((h14.next State.puts_any).next State.put_within).next State.modCfg_within)
  · exact (((h12.next State.applyStaged_within).next State.buildCommitted_within).next State.modCfg_within).next State.lastLost_within
  · exact Within.ite Within.refl
      ((((((h12.next State.landFsw_within).next State.puts_any).next State.buildCommitted_within).next State.recordBuilt_within).next
      State.put_within).next State.endCommit_within)
  · exact Within.refl

theorem State.confidenceExpired_within : Within (parts [.objs, .ints, .est, .net]) s (State.confidenceExpired s) := by
  unfold State.confidenceExpired
  exact Within.ite (State.modEst_within.sub.next State.raise_within) Within.refl

theorem State.estWrite_within {k body} : Within (parts [.mram]) s (State.estWrite s k body) := by
  unfold State.estWrite
  exact State.writeMram_within.sub

theorem State.estFlush_within : Within (parts [.mram, .est]) s (State.estFlush s) := by
  unfold State.estFlush
  exact Within.ite Within.refl (((Within.ite State.estWrite_within.sub Within.refl).foldl fun _ _ => Within.ite State.estWrite_within.sub
    Within.refl).next State.modEst_within)

theorem State.coreWrite_within : Within (parts [.mram, .est]) s (State.coreWrite s) := by
  unfold State.coreWrite
  exact State.modEst_within.sub.next State.estFlush_within

theorem State.deadAnswer_within {q cmd n} : Within (parts [.freeIdx, .answer]) s (State.deadAnswer s q cmd n) := by
  unfold State.deadAnswer
  exact Within.ite (State.freeBytes_within.sub.next Within.set_answer) Within.set_answer.sub

theorem State.frameTaken_within {q} : Within (parts [.objs, .deferred, .afterBoot, .ints, .net, .ports]) s (State.frameTaken s q) := by
  unfold State.frameTaken
  refine .next (.sub (State.bump_plain ?_)) State.modPort_within
  split <;> rfl

theorem State.winRead_within {q r} : Within (parts [.objs, .answer, .deferred, .afterBoot, .ints, .net, .ports]) s
    (State.winRead s q r) := by
  unfold State.winRead
  exact State.frameTaken_within.sub.next Within.set_answer

theorem State.tbLow_within {q} : Within (parts [.objs, .answer, .deferred, .afterBoot, .ints, .net, .ports]) s (State.tbLow s q) := by
  unfold State.tbLow
  extract_lets st u
  have hu : Within (parts [.objs, .deferred, .afterBoot, .ints, .net, .ports]) s u := State.frameTaken_within
  have hp : ∀ x, Within (parts [.objs, .answer, .deferred, .afterBoot, .ints, .net, .ports]) s { u with ports := x } :=
    fun x => hu.sub.next .set_ports
  exact (hp { u.ports with latch := u.ports.latch.set q.val (u.now / 2 ^ 32 % 2 ^ 32) }).next .set_answer

theorem State.partRead_within {reader key high} : Within (parts [.answer, .ports]) s (State.partRead s reader key high) := by
  have hp : ∀ x, Within (parts [.answer, .ports]) s { s with ports := x } := fun x => Within.set_ports.sub
  unfold State.partRead
  extract_lets take
  have ht : ∀ d, Within (parts [.answer, .ports]) s (take s d) := fun d => by
    refine .ite Within.set_answer.sub ?_
    exact (hp { s.ports with latch := s.ports.latch.set reader.val (unsigned 64 (s.shown .debug d key) / 2 ^ 32) }).next .set_answer
  split
  · exact Within.set_answer.sub
  · exact .ite Within.set_answer.sub (.ite Within.set_answer.sub (ht _))

theorem State.closeSession_within {m reason} : Within (parts [.met]) s (State.closeSession s m reason) := by
  unfold State.closeSession
  exact Within.ite State.modPoint_within.sub Within.refl

theorem State.closeAll_within {reason} : Within (parts [.met]) s (State.closeAll s reason) := by
  unfold State.closeAll
  exact Within.refl.foldl fun _ _ => State.closeSession_within.sub

theorem State.refuseOpenings_within : Within (parts [.objs, .deferred, .afterBoot, .ops, .ints, .met, .net]) s
    (State.refuseOpenings s) := by
  unfold State.refuseOpenings
  exact Within.refl.foldl fun _ _ => Within.ite State.endOpening_within.sub Within.refl

theorem State.clockFault_within : Within (parts [.objs, .mram, .freeIdx, .deferred, .afterBoot, .ops, .ints, .met, .net]) s
    (State.clockFault s) := by
  unfold State.clockFault
  exact (((Within.set_met.sub.next State.raiseLater_within).next State.journalEvent_within).next State.refuseOpenings_within).next
    State.closeAll_within

theorem State.crystalLoss_within : Within (parts [.objs, .mram, .freeIdx, .deferred, .afterBoot, .ops, .ints, .met, .net, .tbSource]) s
    (State.crystalLoss s) := by
  unfold State.crystalLoss
  exact Within.ite ((State.put_within.sub.next State.raiseLater_within).next State.clockFault_within) Within.refl

theorem State.takeSamples_within {xs} :
    Within (parts [.objs, .events, .wakeSource, .wakeEnable, .fsRetryCount, .fsRetryAt, .fsCause, .resetCause, .tbSource, .bootResult,
    .sealStage, .faultShown, .seqFault, .habState]) s (State.takeSamples s xs) := by
  unfold State.takeSamples
  exact Within.refl.foldl fun _ _ => Within.ite State.put_any.sub Within.refl

theorem State.publishCut_within : Within (parts [.objs, .published, .links]) s (State.publishCut s) := by
  unfold State.publishCut
  extract_lets u
  have hu : Within (parts [.objs]) s u := State.puts_keys (keys := [K.CAP_TILES_USABLE, K.CAP_PHASES_USABLE]) rfl
  have hl : ∀ x, Within (parts [.objs, .published, .links]) s { u with links := x } := fun x => hu.sub.next .set_links
  exact (hl (u.links.map fun l => { l with replaying := l.inReplay })).next .set_published

theorem State.cut_within {b samples} :
    Within (parts [.objs, .published, .net, .links, .events, .wakeSource, .wakeEnable, .fsRetryCount, .fsRetryAt, .fsCause, .resetCause,
    .tbSource, .bootResult, .sealStage, .faultShown, .seqFault, .habState]) s (State.cut s b samples) := by
  unfold State.cut
  exact ((((State.takeSamples_within.sub.next State.put_within).next State.put_within).next State.publishCut_within).next
    State.readyAll_within).next State.modNet_within

theorem State.leaveService_within : Within (parts [.modes, .rails]) s (State.leaveService s) := by
  unfold State.leaveService
  exact Within.ite (State.modModes_within.sub.foldl fun _ _ => Within.ite State.sendRail_within.sub Within.refl) Within.refl

theorem State.setLevel_within {l} :
    Within (parts [.objs, .mram, .freeIdx, .deferred, .afterBoot, .modes, .ints, .rails, .met, .net, .sec, .habState]) s
    (State.setLevel s l) := by
  unfold State.setLevel
  exact Within.ite Within.refl (by
    extract_lets s11
    refine .have_ (t := s11) ((State.modSec_within.sub.next State.raiseLater_within).next State.habCheck_within) fun h11 => ?_
    exact Within.ite h11 (h11.next State.leaveService_within))

theorem State.dmaDone_within {c} : Within (parts [.objs, .mram, .deferred, .afterBoot, .ops, .ints, .dma, .net]) s (State.dmaDone s c) := by
  unfold State.dmaDone
  exact Within.ite (by
    extract_lets x11 s12 s13 x14
    refine .have_ (t := s12) ((State.put_plain (by simp)).sub) fun h12 => ?_
    refine .have_ (t := s13) (Within.ite (h12.next State.writeMram_within) h12) fun h13 => ?_
    exact Within.ite ((h13.next State.haltChannel_within).next (State.raise_plain (by simp)))
      (((h13.next State.modChannel_within).next State.finish?_within).next (State.raise_plain (by simp)))) Within.refl

theorem State.busError_within {c} : Within (parts [.dma]) s (State.busError s c) := by
  unfold State.busError
  exact Within.ite State.modChannel_within.sub Within.refl

theorem State.settleBlocks_within :
    Within (parts [.objs, .mram, .freeIdx, .deferred, .afterBoot, .ops, .ints, .met, .net, .hab, .habState]) s (State.settleBlocks s) := by
  unfold State.settleBlocks
  exact Within.refl.foldl fun _ _ => by
    split
    · split
      · split
        · exact Within.ite (State.modPartner_within.sub.next State.sendTo_within) Within.refl
        · exact Within.refl
      · exact Within.refl
    · exact Within.refl

theorem State.dmaRetry_within {c} : Within (parts [.objs, .deferred, .afterBoot, .ops, .ints, .dma, .net]) s (State.dmaRetry s c) := by
  unfold State.dmaRetry
  exact Within.ite (Within.ite State.haltChannel_within.sub ((State.modChannel_within.sub.next (State.bump_plain (by simp))).next
    (State.raise_plain (by simp)))) Within.refl

theorem State.raiseSir_within {t k} : Within (parts [.objs, .ints, .net]) s (State.raiseSir s t k) := by
  unfold State.raiseSir
  exact State.put_within.sub.next State.raise_within

theorem State.pathCarry_within : Within (parts [.objs, .deferred, .afterBoot, .ints, .path, .est, .net]) s (State.pathCarry s) := by
  unfold State.pathCarry
  split
  · exact Within.ite State.pathTo_within.sub Within.refl
  · exact Within.ite Within.refl (State.pathTo_within.sub.next State.bump_within)
  · exact Within.ite Within.refl ((State.pathTo_within.sub.next State.bump_within).next State.raiseLater_within)
  · exact Within.refl

theorem State.dormantExit_within {pllFail} : Within (allBut [.published, .now, .answer, .caps, .frame, .bus, .nvm, .ports, .hab, .oasis]) s
    (State.dormantExit s pllFail) := by
  unfold State.dormantExit
  split
  · lift_lets
    extract_lets tripped u q h v w x
    have hu : Within (allBut [.published, .now, .answer, .caps, .frame, .bus, .nvm, .ports, .hab, .oasis]) s u :=
      (Within.next (.ite State.crystalLoss_within.sub State.put_within.sub) State.fenceUntrained_within).next State.modModes_within
    have hs : ∀ x, Within (allBut [.published, .now, .answer, .caps, .frame, .bus, .nvm, .ports, .hab, .oasis]) s { u with seq := x } :=
      fun x => hu.next .set_seq
    have hv : Within (allBut [.published, .now, .answer, .caps, .frame, .bus, .nvm, .ports, .hab, .oasis]) s v :=
      (hs { u.seq with bellDrive := u.coopBit 2 }).next .set_therm
    have hw : Within (allBut [.published, .now, .answer, .caps, .frame, .bus, .nvm, .ports, .hab, .oasis]) s w :=
      ((hv.next State.setMode_within).next State.idleEntry_within).next State.refsDue_within
    have hx : Within (allBut [.published, .now, .answer, .caps, .frame, .bus, .nvm, .ports, .hab, .oasis]) s x :=
      .ite (hw.next State.raiseSir_within) hw
    exact ((hx.next State.raise_within).next State.pathCarry_within).next State.pathEval_within |>.next State.supplyLevels_within
  · exact .refl

theorem State.downLinkLost_within {t} : Within (parts [.links]) s (State.downLinkLost s t) := by
  unfold State.downLinkLost
  exact Within.ite (State.modLink_within.sub.next State.ready_within) Within.refl

theorem State.rowWrite_within {r} : Within (parts [.mram, .est]) s (State.rowWrite s r) := by
  unfold State.rowWrite
  exact State.modEst_within.sub.next State.estFlush_within

theorem State.setCell_within {r c x} : Within (parts [.est]) s (State.setCell s r c x) := by
  unfold State.setCell
  exact State.modEst_within.sub

theorem State.setRow_within {r bs} : Within (parts [.est]) s (State.setRow s r bs) := by
  unfold State.setRow
  exact Within.refl.foldl fun _ _ => State.setCell_within.sub

theorem State.resendEvent_within {i counter} :
    Within (parts [.objs, .mram, .freeIdx, .deferred, .afterBoot, .ops, .ints, .met, .net, .hab, .habState]) s
    (State.resendEvent s i counter) := by
  unfold State.resendEvent
  split
  · exact Within.refl
  · split
    · exact Within.refl
    · exact Within.ite (State.modPartner_within.sub.next State.countDrops_within)
        (Within.ite (State.modPartner_within.sub.next State.sendTo_within) Within.refl)

theorem State.eraseLatch_within : Within (parts [.modes]) s (State.eraseLatch s) := by
  unfold State.eraseLatch
  exact State.modModes_within.sub

theorem State.fsRetry_within : Within (allBut [.answer, .oasis]) s (State.fsRetry s) := by
  unfold State.fsRetry
  exact Within.ite (by
    extract_lets s11
    refine .have_ (t := s11) ((((State.puts_keys (keys := [K.FS_RETRY_COUNT, K.FS_RETRY_AT]) rfl).sub).next State.eraseLatch_within).next
      State.raise_within) fun h11 => ?_
    exact Within.ite (h11.next State.bootStart_within) (h11.next State.enterIdle_within)) Within.refl

theorem State.retryDue_within : Within (allBut [.answer, .oasis]) s (State.retryDue s) := by
  unfold State.retryDue
  exact Within.ite (Within.set_now.sub.next State.fsRetry_within) Within.refl

theorem State.fastInForce_within : Within (parts [.objs, .ints, .rails, .net, .ledger]) s (State.fastInForce s) := by
  unfold State.fastInForce
  exact (Within.refl.foldl fun _ _ => by
    split
    · exact State.modRail_within.sub.next State.refreshCapped_within
    · exact Within.refl).next State.modLedger_within

theorem State.setChargerCap_within {c pre} : Within (parts [.objs, .ints, .chg, .net, .ledger]) s (State.setChargerCap s c pre) := by
  unfold State.setChargerCap
  exact ((Within.ite Within.refl State.raise_within.sub).next Within.set_chg).next State.modLedger_within

theorem State.fastLoad_within {s : State × Int} {x} : Within (parts [.objs, .ints, .net, .rails, .ledger]) s.1 (State.fastLoad s x).1 := by
  obtain ⟨s, excess⟩ := s
  unfold State.fastLoad
  dsimp only
  split
  · exact .refl
  split
  · dsimp only
    exact ((Within.ite .refl (State.raise_plain rfl).sub).next State.modLedger_within).next State.modRail_within
  · exact .refl

theorem State.showLedger_within : Within (parts [.objs, .ledger]) s (State.showLedger s) := by
  unfold State.showLedger
  exact ((Within.refl.foldl fun _ _ => (State.puts_plain (by simp)).sub).next State.put_within).next State.modLedger_within

theorem State.fastTrip_within {excess} : Within (parts [.objs, .deferred, .afterBoot, .ints, .net, .rails, .chg, .ledger]) s
    (State.fastTrip s excess) := by
  unfold State.fastTrip
  extract_lets u
  have hu : Within (parts [.objs, .deferred, .afterBoot, .ints, .net]) s u := (State.raise_plain rfl).sub.next (State.bump_plain rfl)
  split
  next v n e =>
  have hv : Within (parts [.objs, .deferred, .afterBoot, .ints, .net, .chg, .ledger]) s v := by
    split at e
    · cases e
      exact ((hu.sub.next .set_chg).next State.setChargerCap_within).next State.chargerStop_within
    · cases e; exact hu.sub
  split
  next w left e =>
  have hw : Within (parts [.objs, .deferred, .afterBoot, .ints, .net, .rails, .chg, .ledger]) s w :=
    .of_fst (.foldl_fst hv.sub fun _ _ => State.fastLoad_within.sub) e
  extract_lets x
  have hx : Within (parts [.objs, .deferred, .afterBoot, .ints, .net, .rails, .chg, .ledger]) s x :=
    .ite (hw.next (State.raise_plain rfl)) hw
  exact (hx.next State.modLedger_within).next State.showLedger_within

theorem State.fastStep_within : Within (parts [.objs, .deferred, .afterBoot, .ints, .rails, .chg, .net, .ledger]) s (State.fastStep s) := by
  unfold State.fastStep
  exact Within.ite (by
    extract_lets x11 s12 x13
    refine .have_ (t := s12) State.modLedger_within.sub fun h12 => ?_
    exact Within.ite (h12.next State.modLedger_within) (Within.ite (h12.next State.fastTrip_within) (h12.next State.modLedger_within)))
      Within.refl

theorem State.flitSent_within {t f} : Within (parts [.links]) s (State.flitSent s t f) := by
  unfold State.flitSent
  exact Within.ite Within.refl State.modLink_within.sub

theorem State.countFailure_within {t up} : Within (parts [.objs, .deferred, .afterBoot, .ints, .net, .links]) s
    (State.countFailure s t up) := by
  unfold State.countFailure
  extract_lets x11 x12 s13 s14
  refine .have_ (t := s13) State.modLink_within.sub fun h13 => ?_
  refine .have_ (t := s14) (Within.ite (h13.next (State.bump_plain (by simp))) h13) fun h14 => ?_
  exact Within.ite (h14.next State.raise_within) h14

theorem State.linkFailure_within {t up} : Within (parts [.objs, .deferred, .afterBoot, .ints, .net, .links]) s
    (State.linkFailure s t up) := by
  unfold State.linkFailure
  extract_lets s11
  refine .have_ (t := s11) (State.countFailure_within.sub.next State.modLink_within) fun h11 => ?_
  exact (Within.ite (h11.next (State.bump_plain (by simp))) h11).next State.acknowledge_within

theorem State.linkLost_within {t reason} :
    Within (allBut [.published, .now, .answer, .caps, .history, .frame, .bus, .path, .est, .nvm, .ports, .hab, .oasis]) s
    (State.linkLost s t reason) := by
  unfold State.linkLost
  exact Within.ite (((((State.put_plain (by simp)).sub).next State.raise_within).next State.leaseRevoked_within).next State.fence_within)
    Within.refl

theorem State.flitBad_within {t up} :
    Within (allBut [.published, .now, .answer, .caps, .history, .frame, .bus, .path, .est, .nvm, .ports, .hab, .oasis]) s
    (State.flitBad s t up) := by
  unfold State.flitBad
  exact Within.ite Within.refl (by
    extract_lets s11
    refine .have_ (t := s11) State.linkFailure_within.sub fun h11 => ?_
    exact Within.ite (h11.next State.linkLost_within) (Within.ite (h11.next State.downLinkLost_within) h11))

theorem State.damaged_within {t up k seq} :
    Within (allBut [.published, .now, .answer, .caps, .history, .frame, .bus, .path, .est, .nvm, .ports, .hab, .oasis]) s
    (State.damaged s t up k seq) := by
  unfold State.damaged
  split
  · exact Within.ite State.flitBad_within.sub (Within.ite State.countFailure_within.sub Within.refl)

theorem State.readStatus_within {t} : Within (parts [.objs, .deferred, .afterBoot, .ints, .net, .links]) s (State.readStatus s t) := by
  unfold State.readStatus
  extract_lets x11 x12 x13 s14 s15 s16 s17
  refine .have_ (t := s14) ((State.put_plain (by simp)).sub) fun h14 => ?_
  refine .have_ (t := s15) (Within.ite (h14.next (State.put_plain (by simp))) h14) fun h15 => ?_
  refine .have_ (t := s16) (h15.next State.modLink_within) fun h16 => ?_
  refine .have_ (t := s17) (h16.foldl fun _ _ => (State.bump_plain (by simp)).sub) fun h17 => ?_
  exact Within.ite ((h17.next State.modLink_within).next State.raise_within)
    (Within.ite ((h17.next State.modLink_within).next State.raise_within) h17)

theorem State.followTime_within {t b clocks} : Within (parts [.links]) s (State.followTime s t b clocks) := by
  unfold State.followTime
  exact State.modLink_within.sub

theorem State.ackPrepare_within {t} : Within (parts [.cfg]) s (State.ackPrepare s t) := by
  unfold State.ackPrepare
  exact Within.ite State.modCfg_within.sub Within.refl

theorem State.takeStamp_within {t at_} : Within (parts [.objs, .modes, .sup, .mir, .faultShown]) s (State.takeStamp s t at_) := by
  unfold State.takeStamp
  exact Within.ite (State.modSup_within.sub.next State.settleTriggers_within) Within.refl

theorem State.ackNak_within {t up payload} :
    Within (allBut [.published, .now, .answer, .caps, .history, .frame, .bus, .path, .est, .nvm, .ports, .hab, .oasis]) s
    (State.ackNak s t up payload) := by
  unfold State.ackNak
  exact Within.ite Within.refl (Within.ite (Within.ite State.modLink_within.sub Within.refl) (Within.ite (by
    extract_lets x11 x12 s13
    refine .have_ (t := s13) (State.modLink_within.sub.next (State.bump_plain (by simp))) fun h13 => ?_
    exact Within.ite (h13.next State.linkLost_within) h13) State.modLink_within.sub))

theorem State.deliver_within {t up x} :
    Within (allBut [.published, .now, .answer, .caps, .history, .frame, .bus, .path, .est, .nvm, .ports, .hab, .oasis]) s
    (State.deliver s t up x) := by
  unfold State.deliver
  split
  · extract_lets s11
    refine .have_ (t := s11) ((State.takeSamples_within.sub.next State.modTile_within).next State.readStatus_within) fun h11 => ?_
    exact Within.ite (h11.next State.linkLost_within) h11
  · exact State.takeSamples_within.sub
  · exact State.followTime_within.sub
  · exact (Within.ite State.ackPrepare_within.sub Within.refl).next State.takeSamples_within
  · exact Within.ite State.isolate_within.sub Within.refl
  · exact State.takeStamp_within.sub
  · exact State.modLink_within.sub.next State.linkLost_within
  · exact State.ackNak_within.sub

theorem State.linkAccept_within {t up} : Within (parts [.links]) s (State.linkAccept s t up) := by
  unfold State.linkAccept
  extract_lets x11 s12
  refine .have_ (t := s12) State.modLink_within.sub fun h12 => ?_
  exact Within.ite (h12.next State.acknowledge_within) h12

theorem State.arrive_within {t f} :
    Within (allBut [.published, .now, .answer, .caps, .history, .frame, .bus, .path, .est, .nvm, .ports, .hab, .oasis]) s
    (State.arrive s t f) := by
  unfold State.arrive
  exact Within.ite Within.refl (by
    split
    · exact Within.ite State.deliver_within.sub (Within.ite (State.linkAccept_within.sub.next State.deliver_within)
        (Within.ite Within.refl State.flitBad_within.sub)))

theorem State.flit_within {t : Fin 8} {f} :
    Within (allBut [.published, .now, .answer, .caps, .history, .frame, .bus, .path, .est, .nvm, .ports, .oasis]) s (State.flit s t f) := by
  unfold State.flit
  refine .ite .refl ?_
  extract_lets u eligible held
  have hu : Within (allBut [.published, .now, .answer, .caps, .history, .frame, .bus, .path, .est, .nvm, .ports, .oasis]) s u :=
    State.flitSent_within.sub
  split
  next hit v e =>
  have hv : Within (allBut [.published, .now, .answer, .caps, .history, .frame, .bus, .path, .est, .nvm, .ports, .oasis]) s v := by
    split at e
    · exact (hu.next State.habItem_within).of_snd e
    · cases e; exact hu
  refine .ite (.ite hv (.ite (hv.next State.modHab_within) (hv.next State.damaged_within))) ?_
  extract_lets w
  have hw : Within (allBut [.published, .now, .answer, .caps, .history, .frame, .bus, .path, .est, .nvm, .ports, .oasis]) s w :=
    hv.next State.arrive_within
  clear_value held
  cases held with
  | some x => exact .ite ((hw.next State.modHab_within).next State.arrive_within) hw
  | none => exact hw

theorem State.badFlit_within {t up word} :
    Within (allBut [.published, .now, .answer, .caps, .history, .frame, .bus, .path, .est, .nvm, .ports, .hab, .oasis]) s
    (State.badFlit s t up word) := by
  unfold State.badFlit
  split
  · exact Within.ite State.damaged_within.sub (Within.ite State.flitBad_within.sub Within.refl)

theorem State.trainFailed_within {t step} : Within (parts [.objs, .deferred, .afterBoot, .ints, .net, .links]) s
    (State.trainFailed s t step) := by
  unfold State.trainFailed
  extract_lets s11 s12
  refine .have_ (t := s11) ((State.put_plain (by simp)).sub) fun h11 => ?_
  refine .have_ (t := s12) (Within.ite (h11.next State.raiseLater_within) h11) fun h12 => ?_
  exact h12.next State.modLink_within

theorem State.attemptFailed_within {t step} :
    Within (allBut [.published, .now, .answer, .caps, .history, .frame, .bus, .path, .est, .nvm, .ports, .hab, .oasis]) s
    (State.attemptFailed s t step) := by
  unfold State.attemptFailed
  extract_lets s11
  refine .have_ (t := s11) State.trainFailed_within.sub fun h11 => ?_
  exact Within.ite (h11.next State.trainFence_within) h11

theorem State.exchangeVersions_within {t mask} :
    Within (allBut [.published, .now, .answer, .caps, .history, .frame, .bus, .path, .est, .nvm, .ports, .hab, .oasis]) s
    (State.exchangeVersions s t mask) := by
  unfold State.exchangeVersions
  extract_lets s11
  refine .have_ (t := s11) ((State.put_plain (by simp)).sub) fun h11 => ?_
  exact Within.ite ((h11.next (State.put_plain (by simp))).next State.modLink_within) ((h11.next (State.put_plain (by simp))).next
    State.attemptFailed_within)

theorem State.fogRecognised_within :
    Within (allBut [.published, .now, .answer, .caps, .history, .tiles, .frame, .bus, .path, .est, .nvm, .ports, .links, .hab, .oasis]) s
    (State.fogRecognised s) := by
  unfold State.fogRecognised
  extract_lets x11 x12 s13 s14
  refine .have_ (t := s13) Within.set_seq.sub fun h13 => ?_
  refine .have_ (t := s14) (h13.next State.bump_within) fun h14 => ?_
  exact Within.ite (Within.ite (by
    split
    · exact h14.next State.seqFault_within
    · exact h14.next State.seqFault_within) (h14.next State.raiseLater_within)) h13

theorem State.fogReleased_within : Within (parts [.objs, .deferred, .afterBoot, .ints, .seq, .net]) s (State.fogReleased s) := by
  unfold State.fogReleased
  extract_lets x11 x12 s13
  refine .have_ (t := s13) Within.set_seq.sub fun h13 => ?_
  exact Within.ite (h13.next State.raiseLater_within) h13

theorem State.restRequest_within : Within (parts [.objs, .ints, .est, .net]) s (State.restRequest s) := by
  unfold State.restRequest
  exact Within.ite (State.modEst_within.sub.next State.raise_within) Within.refl

theorem State.restRetry_within : Within (parts [.objs, .ints, .est, .net]) s (State.restRetry s) := by
  unfold State.restRetry
  exact Within.ite (by
    extract_lets s11
    refine .have_ (t := s11) State.modEst_within.sub fun h11 => ?_
    exact Within.ite ((h11.next State.modEst_within).next State.raise_within) h11) Within.refl

theorem State.fsCleanTime_within : Within (parts [.objs, .fsRetryCount]) s (State.fsCleanTime s) := by
  unfold State.fsCleanTime
  exact Within.ite State.put_within.sub Within.refl

theorem State.releaseTag_within {t} : Within (parts [.ops]) s (State.releaseTag s t) := by
  unfold State.releaseTag
  exact Within.refl.foldl fun _ _ => Within.ite State.setOp_within.sub Within.refl

theorem State.startRising_within {g} : Within (parts [.objs, .deferred, .afterBoot, .ops, .ints, .rails, .seq, .net]) s
    (State.startRising s g) := by
  unfold State.startRising
  exact (Within.next (by
    split
    · exact State.releaseTag_within.sub
    · exact Within.refl) State.modGroup_within).next State.riseNext_within

theorem State.gateOne_within {g} : Within (parts [.objs, .deferred, .afterBoot, .ops, .ints, .rails, .seq, .net]) s
    (State.gateOne s g) := by
  unfold State.gateOne
  exact Within.ite (Within.ite State.startRising_within.sub State.modGroup_within.sub) Within.refl

theorem State.gateTick_within {g} : Within (parts [.objs, .deferred, .afterBoot, .ops, .ints, .rails, .seq, .net]) s
    (State.gateTick s g) := by
  unfold State.gateTick
  exact (Within.refl.foldl fun _ _ => State.gateOne_within.sub).next State.releaseDependants_within

theorem State.heartbeat_within : Within (parts [.objs, .mram, .freeIdx, .deferred, .afterBoot, .ops, .ints, .met, .net, .hab, .habState]) s
    (State.heartbeat s) := by
  unfold State.heartbeat
  exact State.netBegin_within.sub.foldl fun _ _ => Within.ite (State.modCan_within.sub.next State.netSend_within) Within.refl

theorem State.heldResetEnds_within : Within (allBut [.answer, .oasis]) s (State.heldResetEnds s) := by
  unfold State.heldResetEnds
  exact Within.ite State.bootStart_within.sub Within.refl

theorem State.vhkWarning_within {vhk} :
    Within (allBut [.published, .now, .answer, .caps, .history, .tiles, .frame, .bus, .est, .nvm, .ports, .links, .hab, .oasis]) s
    (State.vhkWarning s vhk) := by
  unfold State.vhkWarning
  exact Within.ite (((State.modModes_within.sub.next State.modSup_within).next State.supplyLoss_within).next State.raiseLater_within)
    Within.refl

theorem State.hrstAssert_within :
    Within (allBut [.published, .now, .answer, .caps, .history, .tiles, .frame, .bus, .est, .nvm, .ports, .links, .hab, .oasis]) s
    (State.hrstAssert s) := by
  unfold State.hrstAssert
  extract_lets s11
  refine .have_ (t := s11) State.modModes_within.sub fun h11 => ?_
  split
  · exact h11
  · exact h11
  · exact (h11.next State.modModes_within).next State.keeperRest_within
  · exact h11.next State.supplyEvent_within

theorem State.leaveReset_within : Within (allBut [.answer, .oasis]) s (State.leaveReset s) := by
  unfold State.leaveReset
  exact Within.ite State.modModes_within.sub (by
    split
    · exact State.bootStart_within.sub
    · exact State.bootStart_within.sub
    · exact State.bootStart_within.sub)

theorem State.hrstRelease_within : Within (allBut [.answer, .oasis]) s (State.hrstRelease s) := by
  unfold State.hrstRelease
  exact Within.ite Within.refl (by
    extract_lets s11
    refine .have_ (t := s11) State.modModes_within.sub fun h11 => ?_
    split
    · exact Within.ite (h11.next State.bootStart_within) h11
    · exact Within.ite (h11.next State.bootStart_within) h11
    · exact Within.ite (h11.next State.leaveReset_within) h11
    · exact Within.ite (h11.next State.leaveReset_within) h11
    · exact h11)

theorem State.claim_within {q} : Within (parts [.objs, .answer, .deferred, .afterBoot, .ints, .net, .ports]) s (State.claim s q) := by
  unfold State.claim
  extract_lets x11 x12 x13 s14 s15 s16
  refine .have_ (t := s14) (State.frameTaken_within.sub.next State.modPort_within) fun h14 => ?_
  refine .have_ (t := s15) (Within.ite h14 (((h14.next State.setPending_within).next State.setInService_within).next State.bump_within))
    fun h15 => ?_
  refine .have_ (t := s16) (h15.next State.noteRelease_within) fun h16 => ?_
  exact h16.next Within.set_answer

theorem State.complete_within {q n} : Within (parts [.objs, .answer, .deferred, .afterBoot, .ints, .net, .ports]) s
    (State.complete s q n) := by
  unfold State.complete
  extract_lets x11 x12 s13 x14 s15 s16 s17
  refine .have_ (t := s13) State.frameTaken_within.sub fun h13 => ?_
  refine .have_ (t := s15) ((h13.next State.setInService_within).next State.setPending_within) fun h15 => ?_
  refine .have_ (t := s16) (Within.ite (Within.ite (h15.next State.bump_within) h15)
    ((h13.next State.bump_within).next State.raise_within)) fun h16 => ?_
  refine .have_ (t := s17) (h16.next State.noteRelease_within) fun h17 => ?_
  exact h17.next Within.set_answer

theorem State.saveAccounts_within : Within (parts [.ledger]) s (State.saveAccounts s) := by
  unfold State.saveAccounts
  exact State.modLedger_within.sub

theorem State.capTick_within {r} : Within (parts [.objs, .ints, .rails, .net]) s (State.capTick s r) := by
  unfold State.capTick
  split
  · rename_i x10 u1 e1
    refine .have_ (t := u1) ((State.takeCmd_some_within e1).sub) fun h1 => ?_
    exact (h1.next State.modRail_within).next State.refreshCapped_within
  · exact Within.refl

theorem State.legacyAccepted_within : Within (parts [.objs, .deferred, .afterBoot, .ints, .net]) s (State.legacyAccepted s) := by
  unfold State.legacyAccepted
  exact State.bump_within.sub.next State.raise_within

theorem State.fsClear_within {why} : Within (allBut [.answer, .oasis]) s (State.fsClear s why) := by
  unfold State.fsClear
  exact Within.ite (by
    extract_lets s11
    refine .have_ (t := s11) ((State.eraseLatch_within.sub.next (State.puts_keys (keys := [K.FS_RETRY_COUNT, K.FS_RETRY_AT]) rfl)).next
      State.modModes_within) fun h11 => ?_
    exact Within.ite (h11.next State.bootStart_within) (h11.next State.enterIdle_within)) Within.refl

theorem State.legacyClear_within : Within (allBut [.answer, .oasis]) s (State.legacyClear s) := by
  unfold State.legacyClear
  exact Within.ite (State.legacyAccepted_within.sub.next State.fsClear_within) Within.refl

theorem State.slaveFails_within {k} :
    Within (allBut [.published, .now, .answer, .caps, .history, .tiles, .frame, .bus, .path, .est, .nvm, .ports, .links, .hab, .oasis]) s
    (State.slaveFails s k) := by
  unfold State.slaveFails
  exact Within.ite State.loseSlave_within.sub State.modSlave_within.sub

theorem State.slaveIdentity_within {k d} :
    Within (allBut [.published, .now, .answer, .caps, .history, .tiles, .frame, .bus, .path, .est, .nvm, .ports, .links, .hab, .oasis]) s
    (State.slaveIdentity s k d) := by
  unfold State.slaveIdentity
  exact Within.ite (State.modSlave_within.sub.next State.put_within) State.loseSlave_within.sub

theorem State.slaveStatus_within {k : Fin 8} {b} :
    Within (allBut [.published, .now, .answer, .caps, .history, .tiles, .frame, .bus, .path, .est, .nvm, .ports, .links, .hab, .oasis]) s
    (State.slaveStatus s k b) := by
  unfold State.slaveStatus
  extract_lets u
  have hk : ∀ k : Fin 8, keyParts (K.SEQ_LEGACY_STATUS k) = 0 := by decide
  have hu : Within (allBut [.published, .now, .answer, .caps, .history, .tiles, .frame, .bus, .path, .est, .nvm, .ports, .links, .hab,
    .oasis]) s u :=
    (State.put_plain (hk k)).sub
  split
  · exact .ite (hu.next State.stepFault_within) (.ite (hu.next State.modSlave_within) hu)
  · exact hu

theorem State.legacyDone_within {k f d} :
    Within (allBut [.published, .now, .answer, .caps, .history, .tiles, .frame, .bus, .path, .est, .nvm, .ports, .links, .hab, .oasis]) s
    (State.legacyDone s k f d) := by
  unfold State.legacyDone
  extract_lets s11
  refine .have_ (t := s11) State.modSlave_within.sub fun h11 => ?_
  split
  · exact h11.next State.slaveIdentity_within
  · exact h11.next State.slaveStatus_within
  · exact h11
  · exact h11

theorem State.legacyReply_within {k r} :
    Within (allBut [.published, .now, .answer, .caps, .history, .tiles, .frame, .path, .est, .nvm, .ports, .links, .hab, .oasis]) s
    (State.legacyReply s k r) := by
  unfold State.legacyReply
  split
  · exact Within.refl
  · extract_lets x11 s12
    refine .have_ (t := s12) Within.set_bus.sub fun h12 => ?_
    split
    · exact h12.next State.slaveFails_within
    · exact ((h12.next State.bump_within).next State.raise_within).next State.slaveFails_within
    · exact ((h12.next State.modSlave_within).next State.leaseRevoked_within).next State.startBusClear_within
    · split
      · exact h12.next State.legacyDone_within
      · exact h12.next State.slaveFails_within

theorem State.burnWords_within {lo n bs} : Within (parts [.otp, .otpRows]) s (State.burnWords s lo n bs) := by
  unfold State.burnWords
  exact Within.refl.foldl fun _ _ => by
    split
    · exact State.setOtpRow_within.sub

theorem State.destroySeed_within : Within (parts [.objs, .ints, .net, .sec, .otp, .otpRows]) s (State.destroySeed s) := by
  unfold State.destroySeed
  exact ((Within.refl.foldl fun _ _ => State.setOtpRow_within.sub).next State.modSec_within).next State.raise_within

theorem State.transitionDone_within :
    Within (parts [.objs, .mram, .freeIdx, .deferred, .afterBoot, .modes, .ops, .ints, .rails, .met, .nvm, .net, .sec, .otp, .otpRows,
    .habState]) s (State.transitionDone s) := by
  unfold State.transitionDone
  split
  · exact Within.refl
  · extract_lets s11 x12 s13 s14 s15 s16 s17
    refine .have_ (t := s11) (Within.ite (((State.random_within.sub.next State.burnWords_within).next State.modSec_within).next
      State.burnWords_within) Within.refl) fun h11 => ?_
    refine .have_ (t := s13) (h11.foldl fun _ _ => State.setOtpRow_within.sub) fun h13 => ?_
    refine .have_ (t := s14) (Within.ite (h13.next State.destroySeed_within) h13) fun h14 => ?_
    refine .have_ (t := s15) (h14.next State.modSec_within) fun h15 => ?_
    refine .have_ (t := s16) (h15.next State.modNet_within) fun h16 => ?_
    refine .have_ (t := s17) ((h16.next State.endUnlocks_within).next State.setLevel_within) fun h17 => ?_
    exact (((h17.next State.habEnd_within).next State.closeWindow_within).next State.raise_within).next State.finish_within

theorem State.linkTrained_within {t : Fin 8} {mask delay} :
    Within (allBut [.published, .now, .answer, .caps, .history, .frame, .bus, .path, .est, .nvm, .ports, .hab, .oasis]) s
    (State.linkTrained s t mask delay) := by
  unfold State.linkTrained
  have hk : ∀ t : Fin 8, keyParts (K.BEAM_TILE_VERSIONS t) = 0 ∧ keyParts (K.BEAM_VERSION t) = 0 ∧ keyParts (K.BEAM_TRAIN_RESULT t) = 0 ∧
      keyParts (K.BEAM_DELAY_DOWN t) = 0 := by decide
  refine .ite .refl (.ite State.exchangeVersions_within.sub ?_)
  exact (Within.next (.sub (State.puts_plain (by simp [hk t]))) State.modLink_within).next State.raiseLater_within

theorem State.pulseRelease_within : Within (parts [.path]) s (State.pulseRelease s) := by
  unfold State.pulseRelease
  exact Within.ite State.modPath_within.sub Within.refl

theorem State.auxLossHigh_within : Within (parts [.objs, .ints, .net]) s (State.auxLossHigh s) := by
  unfold State.auxLossHigh
  exact Within.ite Within.refl (Within.refl.foldl fun _ _ => (State.raise_plain (by simp)).sub)

theorem State.chargerTick_within : Within (parts [.objs, .deferred, .afterBoot, .ints, .chg, .est, .net]) s (State.chargerTick s) := by
  unfold State.chargerTick
  exact Within.ite Within.refl (by
    extract_lets s11 s12 x13 x14 x15 x16 s17 s18
    refine .have_ (t := s11) (Within.ite State.modChg_within.sub Within.refl) fun h11 => ?_
    refine .have_ (t := s12) (h11.next State.chargerEval_within) fun h12 => ?_
    refine .have_ (t := s17) (Within.ite (h12.next State.raise_within) h12) fun h17 => ?_
    refine .have_ (t := s18) (h17.next State.modChg_within) fun h18 => ?_
    exact h18.next (State.puts_keys (keys := [K.CHG_ISET, K.CHG_ILIM, K.CHG_VTARGET, K.CHG_TIMER]) rfl))

theorem State.siroccoTick_within : Within (parts [.objs, .phases]) s (State.siroccoTick s) := by
  unfold State.siroccoTick
  refine .foldl (.foldl .refl fun u t => .ite (.foldl (State.puts_plain (by simp)).sub fun v k => (State.puts_plain ?_).sub) .refl)
    fun u p => ?_
  · simp
  · exact State.modPhase_within.sub.next (State.puts_plain (by simp))

theorem State.takeUpGroups_within : Within (parts [.objs, .deferred, .afterBoot, .ops, .ints, .rails, .seq, .net]) s
    (State.takeUpGroups s) := by
  unfold State.takeUpGroups
  exact (Within.refl.foldl fun _ _ => Within.ite (by
    extract_lets x21 s22
    refine .have_ (t := s22) State.modGroup_within.sub fun h22 => ?_
    exact Within.ite (h22.next State.startRising_within) (h22.next State.modGroup_within)) Within.refl).next State.releaseDependants_within

theorem State.addEnergy_within :
    Within (parts [.objs, .ledger, .events, .wakeSource, .wakeEnable, .fsRetryCount, .fsRetryAt, .fsCause, .resetCause, .tbSource,
    .bootResult, .sealStage, .faultShown, .seqFault, .habState]) s (State.addEnergy s) := by
  unfold State.addEnergy
  exact (Within.refl.foldl fun _ _ => State.put_any.sub).next State.modLedger_within

theorem State.formDemands_within : Within (parts [.objs, .ints, .net, .ledger]) s (State.formDemands s) := by
  unfold State.formDemands
  extract_lets src was u v w d b low x y z
  have hu : Within (parts [.objs, .ledger]) s u := (State.put_plain rfl).sub.next State.modLedger_within
  have hv : Within (parts [.objs, .ints, .net, .ledger]) s v := .ite hu.sub (hu.sub.next (State.raise_plain rfl))
  have hw : Within (parts [.objs, .ints, .net, .ledger]) s w := hv.foldl fun _ _ => (State.put_plain (by simp)).sub
  have hx : Within (parts [.objs, .ints, .net, .ledger]) s x := .ite (hw.next (State.raise_plain rfl)) hw
  have hz : Within (parts [.objs, .ints, .net, .ledger]) s z := (hx.next State.modLedger_within).next
    (State.puts_keys (keys := [K.LEDGER_P_IN, K.LEDGER_B_IN, K.LEDGER_P_PKG, K.LEDGER_B_PKG, K.LEDGER_P_KEEPER, K.LEDGER_B_KEEPER,
      K.LEDGER_I_FAST]) rfl)
  refine hz.foldl fun u t => .ite .refl (.sub (State.puts_plain ?_))
  have hk : ∀ t : Fin 8, keyParts (K.LEDGER_P_TILE (t.val - 1)) = 0 ∧ keyParts (K.LEDGER_B_TILE (t.val - 1)) = 0 := by decide
  simp [hk t]

theorem State.setCap_within {r c pre} : Within (parts [.objs, .ints, .rails, .net, .ledger]) s (State.setCap s r c pre) := by
  unfold State.setCap
  exact ((Within.ite Within.refl State.raise_within.sub).next State.modLedger_within).next State.sendRail_within

theorem State.convertFast_within : Within (parts [.objs, .ints, .rails, .net, .ledger]) s (State.convertFast s) := by
  unfold State.convertFast
  exact Within.refl.foldl fun _ _ => by
    split
    · exact State.setCap_within.sub.next State.modLedger_within
    · exact Within.refl

theorem State.ageCommitted_within : Within (parts [.ledger]) s (State.ageCommitted s) := by
  unfold State.ageCommitted
  exact State.modLedger_within.sub

theorem State.reduceLoad_within {s : State × Power × Bool} {x} :
    Within (parts [.objs, .deferred, .afterBoot, .ints, .net, .rails, .chg, .ledger]) s.1 (State.reduceLoad s x).1 := by
  obtain ⟨s, needs, acted⟩ := s
  unfold State.reduceLoad
  dsimp only
  split
  · split
    · exact State.setChargerCap_within.sub
    · exact .refl
  · split
    · exact .refl
    split
    · split
      · exact State.setCap_within.sub
      · exact .refl
    split
    · split
      · exact ((State.sendRail_within.sub.next State.modRail_within).next (State.raise_plain rfl)).next (State.bump_plain rfl)
      · exact .refl
    · exact .refl

theorem State.admitAt_within {g rails} : Within (parts [.objs, .ints, .seq, .net, .ledger]) s (State.admitAt s g rails) := by
  unfold State.admitAt
  exact ((Within.ite State.raise_within.sub Within.refl).next State.modLedger_within).next State.modGroup_within

theorem State.startCap_within {r rest} : Within (parts [.objs, .ints, .rails, .net, .ledger]) s (State.startCap s r rest).1 := by
  unfold State.startCap
  split
  · exact Within.refl
  · exact State.setCap_within.sub

theorem State.admitStep_within {g} : Within (parts [.objs, .rails, .ints, .net, .seq, .ledger]) s (State.admitStep s g) := by
  unfold State.admitStep
  extract_lets rs
  split
  next u done e =>
  have hu : Within (parts [.objs, .rails, .ints, .net, .seq, .ledger]) s u := by
    refine .of_fst (.foldl_fst .refl fun b r => ?_) e
    exact State.startCap_within.sub
  exact hu.next State.admitAt_within

theorem State.restoreCap_within {r old} : Within (parts [.objs, .ints, .rails, .net, .ledger]) s (State.restoreCap s r old) := by
  unfold State.restoreCap
  exact Within.ite ((State.modLedger_within.sub.next State.sendRail_within).next State.raise_within)
    (Within.ite (State.modLedger_within.sub.next State.sendRail_within) Within.refl)

theorem State.restoreShed_within {r} : Within (parts [.objs, .ints, .rails, .net, .ledger]) s (State.restoreShed s r) := by
  unfold State.restoreShed
  exact Within.ite (((State.sendRail_within.sub.next State.modRail_within).next State.modLedger_within).next State.raise_within) Within.refl

theorem State.restoreCharger_within {old} : Within (parts [.objs, .ints, .chg, .net, .ledger]) s (State.restoreCharger s old) := by
  unfold State.restoreCharger
  exact Within.ite ((Within.set_chg.sub.next State.modLedger_within).next State.raise_within) (Within.ite Within.set_chg.sub Within.refl)

theorem State.offerOne_within {may} {s : State × Bool} {c} :
    Within (parts [.objs, .deferred, .afterBoot, .ints, .net, .rails, .seq, .chg, .ledger]) s.1 (State.offerOne may s c).1 := by
  obtain ⟨s, done⟩ := s
  unfold State.offerOne
  dsimp only
  split
  · exact .ite State.admitStep_within.sub .refl
  · split
    · exact .refl
    split
    · exact State.restoreCap_within.sub
    · exact State.restoreShed_within.sub
  · split
    · exact .refl
    split
    · exact State.restoreCharger_within.sub
    · exact .refl

theorem State.deferRest_within : Within (parts [.objs, .deferred, .afterBoot, .ints, .seq, .net]) s (State.deferRest s) := by
  unfold State.deferRest
  exact Within.refl.foldl fun _ _ => Within.ite Within.refl ((State.modGroup_within.sub.next State.raise_within).next State.bump_within)

theorem State.offerAll_within {acted} : Within (parts [.objs, .deferred, .afterBoot, .ints, .net, .rails, .seq, .chg, .ledger]) s
    (State.offerAll s acted) := by
  unfold State.offerAll
  extract_lets u dwell v
  have hu : Within (parts [.objs, .deferred, .afterBoot, .ints, .net, .rails, .seq, .chg, .ledger]) s u :=
    .foldl .refl fun _ _ => .ite State.admitStep_within.sub .refl
  have hv : Within (parts [.objs, .deferred, .afterBoot, .ints, .net, .rails, .seq, .chg, .ledger]) s v := by
    refine .ite hu (.foldl_fst hu fun b x => ?_)
    exact State.offerOne_within.sub
  exact hv.next State.deferRest_within

theorem State.decideTick_within : Within (parts [.objs, .deferred, .afterBoot, .ints, .net, .rails, .seq, .chg, .ledger]) s
    (State.decideTick s) := by
  unfold State.decideTick
  extract_lets u needs
  have hu : Within (parts [.objs, .deferred, .afterBoot, .ints, .net, .rails, .seq, .chg, .ledger]) s u :=
    State.ageCommitted_within.sub.next State.convertFast_within
  split
  next v left acted e =>
  have hv : Within (parts [.objs, .deferred, .afterBoot, .ints, .net, .rails, .seq, .chg, .ledger]) s v := by
    refine .of_fst (.foldl_fst hu fun b x => ?_) e
    exact State.reduceLoad_within.sub
  extract_lets w x
  have hw : Within (parts [.objs, .deferred, .afterBoot, .ints, .net, .rails, .seq, .chg, .ledger]) s w := hv.next State.modLedger_within
  have hx : Within (parts [.objs, .deferred, .afterBoot, .ints, .net, .rails, .seq, .chg, .ledger]) s x :=
    .ite (hw.next (State.raise_plain rfl)) hw
  split
  · exact (hw.foldl fun _ _ => .ite .refl State.admitAt_within.sub).next State.showLedger_within
  · exact (hx.next State.offerAll_within).next State.showLedger_within

theorem State.ledgerTick_within :
    Within (parts [.objs, .deferred, .afterBoot, .ints, .phases, .rails, .seq, .chg, .net, .ledger, .events, .wakeSource, .wakeEnable,
    .fsRetryCount, .fsRetryAt, .fsCause, .resetCause, .tbSource, .bootResult, .sealStage, .faultShown, .seqFault, .habState]) s
    (State.ledgerTick s) := by
  unfold State.ledgerTick
  extract_lets s11 s12 s13
  refine .have_ (t := s11) (State.formDemands_within.sub.next State.addEnergy_within) fun h11 => ?_
  refine .have_ (t := s12) (Within.ite (h11.next State.decideTick_within) h11) fun h12 => ?_
  refine .have_ (t := s13) (h12.next State.modLedger_within) fun h13 => ?_
  exact h13.foldl fun _ _ => State.modPhase_within.sub

theorem State.meterTick_within : Within (parts [.objs, .met]) s (State.meterTick s) := by
  unfold State.meterTick
  exact Within.refl.foldl fun _ _ => Within.ite Within.refl (((State.puts_plain (by simp)).sub).next State.modPoint_within)

theorem State.finishService_within :
    Within (allBut [.published, .now, .answer, .caps, .tiles, .frame, .bus, .est, .nvm, .ports, .hab, .oasis]) s
    (State.finishService s) := by
  unfold State.finishService
  exact Within.ite (Within.ite State.enterFailsafe_within.sub
    ((((State.modModes_within.sub.next State.driveFog_within).next State.setMode_within).next State.idleEntry_within).next
    State.supplyLevels_within)) Within.refl

theorem State.failsafeTick_within : Within (allBut [.answer, .oasis]) s (State.failsafeTick s) := by
  unfold State.failsafeTick
  exact Within.ite (by
    split
    · exact State.fsClear_within.sub
    · exact State.fsRetry_within.sub) Within.refl

theorem State.cellRearm_within : Within (parts [.oasis]) s (State.cellRearm s) := by
  unfold State.cellRearm
  exact Within.ite State.modOasis_within.sub Within.refl

theorem State.bidTick_within : Within (parts [.est]) s (State.bidTick s) := by
  unfold State.bidTick
  exact State.modEst_within.sub

theorem State.ntcSwap_within : Within (parts [.objs, .deferred, .afterBoot, .ints, .path, .est, .net]) s (State.ntcSwap s) := by
  unfold State.ntcSwap
  exact Within.ite State.modEst_within.sub (by
    extract_lets x11 s12
    refine .have_ (t := s12) State.modEst_within.sub fun h12 => ?_
    exact Within.ite (h12.next State.swap_within) h12)

theorem State.restCheck_within : Within (parts [.objs, .deferred, .afterBoot, .ints, .path, .est, .net]) s (State.restCheck s) := by
  unfold State.restCheck
  exact Within.ite State.abortRest_within.sub Within.refl

theorem State.restTick_within {i} : Within (parts [.est]) s (State.restTick s i) := by
  unfold State.restTick
  exact State.modEst_within.sub

theorem State.estCount_within {i} : Within (parts [.objs, .deferred, .afterBoot, .ints, .est, .net]) s (State.estCount s i) := by
  unfold State.estCount
  extract_lets s11 x12 s13
  refine .have_ (t := s11) State.modEst_within.sub fun h11 => ?_
  refine .have_ (t := s13) (Within.ite ((h11.next State.modEst_within).next State.bump_within) h11) fun h13 => ?_
  exact (h13.next (State.puts_keys (keys := [K.EST_I, K.EST_CYCLE_RESIDUE]) rfl)).next State.restTick_within

theorem State.rowMissing_within {r} : Within (parts [.objs, .ints, .net]) s (State.rowMissing s r) := by
  unfold State.rowMissing
  exact Within.ite State.raise_within.sub Within.refl

theorem State.loadRow_within {r} : Within (parts [.objs, .ints, .est, .net]) s (State.loadRow s r) := by
  unfold State.loadRow
  split
  · exact State.setRow_within.sub
  · exact State.defaultRow_within.sub.next State.raise_within

theorem State.freeCovariance_within : Within (parts [.freeIdx, .est]) s (State.freeCovariance s) :=
  .next (t := { s with freeIdx := s.freeIdx + 6 }) Within.set_freeIdx.sub .set_est

theorem State.startOcv_within {i} : Within (parts [.est]) s (State.startOcv s i) := by
  unfold State.startOcv
  exact State.modEst_within.sub.next State.modEst_within

theorem State.startSwap_within {i} : Within (parts [.objs, .mram, .est]) s (State.startSwap s i) := by
  unfold State.startSwap
  exact ((State.startOcv_within.sub.next State.modEst_within).next State.put_within).next State.coreWrite_within

theorem State.anchorAt_within : Within (parts [.objs, .deferred, .afterBoot, .ints, .est, .net]) s (State.anchorAt s) := by
  unfold State.anchorAt
  extract_lets s11 s12 s13
  refine .have_ (t := s11) State.modEst_within.sub fun h11 => ?_
  refine .have_ (t := s12) (h11.next State.put_within) fun h12 => ?_
  refine .have_ (t := s13) ((h12.next State.bump_within).next State.raise_within) fun h13 => ?_
  exact Within.ite ((h13.next State.modEst_within).next State.raise_within) h13

theorem State.startBoot_within {i swapped reset} : Within (parts [.objs, .mram, .freeIdx, .deferred, .afterBoot, .ints, .path, .est, .net])
    s (State.startBoot s i swapped reset) := by
  unfold State.startBoot
  extract_lets s11 s12 s13 s14 s15 x16
  refine .have_ (t := s11) (Within.refl.foldl fun _ _ => Within.ite State.rowMissing_within.sub State.loadRow_within.sub) fun h11 => ?_
  refine .have_ (t := s12) (h11.next State.freeCovariance_within) fun h12 => ?_
  refine .have_ (t := s13) (h12.next State.modEst_within) fun h13 => ?_
  refine .have_ (t := s14) (h13.next State.raise_within) fun h14 => ?_
  refine .have_ (t := s15) ((Within.ite h14 (h14.next (State.puts_keys (keys := [K.EST_CAPACITY, K.EST_LAST_ANCHOR]) rfl))).next
    State.startOcv_within) fun h15 => ?_
  split
  · exact Within.ite (h15.next State.startSwap_within) (h15.next State.modEst_within)
  · extract_lets x21 x22 x23 x24 s25 s26 x27 s28
    refine .have_ (t := s25) (h13.next State.put_within) fun h25 => ?_
    refine .have_ (t := s26)
      (Within.ite h25 ((h25.next (State.puts_keys (keys := [K.EST_CAPACITY, K.EST_CYCLES, K.EST_LAST_ANCHOR]) rfl)).next
      State.modEst_within)) fun h26 => ?_
    refine .have_ (t := s28) ((Within.ite (h26.next State.swap_within) h26).next State.startOcv_within) fun h28 => ?_
    exact Within.ite (h28.next State.startSwap_within) (Within.ite ((h28.next State.put_within).next State.modEst_within)
      (Within.ite (h28.next State.anchorAt_within) (h28.next State.modEst_within)))

theorem State.estStart_within {i} : Within (parts [.objs, .mram, .freeIdx, .deferred, .afterBoot, .ints, .path, .est, .net]) s
    (State.estStart s i) := by
  unfold State.estStart
  exact Within.next (by
    split
    · exact State.startBoot_within.sub
    · exact State.startBoot_within.sub
    · exact State.startBoot_within.sub
    · exact State.startSwap_within.sub
    · exact Within.refl) State.modEst_within

theorem State.learnStep_within {i temp} : Within (parts [.mram, .est]) s (State.learnStep s i temp) := by
  unfold State.learnStep
  split
  · exact Within.ite Within.refl ((State.setCell_within.sub.next State.modEst_within).next State.rowWrite_within)
  · exact Within.refl

theorem State.showEst_within : Within (parts [.objs, .ints, .est, .net]) s (State.showEst s) := by
  unfold State.showEst
  extract_lets x11 x12 x13 x14 x15 x16 x17 s18 x19
  refine .have_ (t := s18) ((State.puts_keys (keys := [K.EST_SOC, K.EST_SOC_OCV, K.EST_CONFIDENCE, K.EST_REMAIN, K.EST_TTE, K.EST_VPOL])
    rfl).sub) fun h18 => ?_
  exact Within.ite ((h18.next State.modEst_within).next State.raise_within) (Within.ite (h18.next State.modEst_within) h18)

theorem State.ocvStep_within {i} : Within (parts [.est]) s (State.ocvStep s i) := by
  unfold State.ocvStep
  exact State.modEst_within.sub

theorem State.filterStep_within {i} : Within (parts [.est]) s (State.filterStep s i) := by
  unfold State.filterStep
  exact State.modEst_within.sub

theorem State.estRun_within {i mixed} : Within (parts [.objs, .mram, .freeIdx, .deferred, .afterBoot, .ints, .path, .est, .net]) s
    (State.estRun s i mixed) := by
  unfold State.estRun
  split
  · extract_lets s11 s12
    refine .have_ (t := s11) State.estStart_within.sub fun h11 => ?_
    refine .have_ (t := s12) (Within.ite h11 (h11.next State.learnStep_within)) fun h12 => ?_
    exact ((h12.next State.filterStep_within).next State.ocvStep_within).next State.showEst_within
  · exact State.put_within.sub
  · exact State.put_within.sub
  · exact Within.refl

theorem State.estTick_within : Within (parts [.objs, .mram, .freeIdx, .deferred, .afterBoot, .ints, .path, .est, .net]) s
    (State.estTick s) := by
  unfold State.estTick
  exact (Within.ite (((((((State.modEst_within.sub.next State.restCheck_within).next State.ntcSwap_within).next State.bidTick_within).next
    State.estRun_within).next State.estCount_within).next State.modEst_within).next State.estFlush_within) Within.refl).next
    State.modEst_within

theorem State.sendEvents_within : Within (parts [.objs, .mram, .freeIdx, .deferred, .afterBoot, .ops, .ints, .met, .net, .hab, .habState])
    s (State.sendEvents s) := by
  unfold State.sendEvents
  exact Within.refl.foldl fun _ _ => by
    split
    · exact Within.ite Within.refl ((Within.refl.foldl fun _ _ => State.sendTo_within.sub).next State.modPartner_within)
    · exact Within.refl

theorem State.saveBeacon_within : Within (parts [.modes]) s (State.saveBeacon s) := by
  unfold State.saveBeacon
  exact Within.ite Within.refl State.modModes_within.sub

theorem State.beaconTick_within : Within (parts [.modes]) s (State.beaconTick s) := by
  unfold State.beaconTick
  exact Within.ite State.saveBeacon_within.sub Within.refl

theorem State.tickWork_within : Within (allBut [.answer]) s (State.tickWork s) := by
  unfold State.tickWork
  extract_lets s11 s12 s13
  refine .have_ (t := s11)
    (((((State.meterTick_within.sub.next State.ledgerTick_within).next State.takeUpGroups_within).next State.siroccoTick_within).next
    State.chargerTick_within).next State.pathEval_within) fun h11 => ?_
  refine .have_ (t := s12) (h11.next State.supplyLevels_within) fun h12 => ?_
  refine .have_ (t := s13) ((((h12.next State.estTick_within).next State.cellRearm_within).next State.failsafeTick_within).next
    State.finishService_within) fun h13 => ?_
  exact Within.ite h12 (Within.ite h13 ((((h13.next State.evalMode_within).next State.beaconTick_within).next State.netBegin_within).next
    State.sendEvents_within))

theorem State.closePhase_within {p} : Within (parts [.objs, .freeIdx, .phases]) s (State.closePhase s p) := by
  unfold State.closePhase
  refine .ite .refl ?_
  split
  next v u e =>
  have hu : Within (parts [.freeIdx]) s u := by
    split at e
    · cases e; exact .refl
    split at e
    · exact State.fresh_within.of_snd e
    · cases e; exact .refl
  extract_lets w y
  have hw : Within (parts [.objs, .freeIdx]) s w := hu.sub.next (State.puts_plain (by simp))
  have hy : Within (parts [.objs, .freeIdx]) s y := by
    unfold y
    split
    · exact .ite hw (hw.next (State.put_plain (by simp)))
    · exact hw
  exact hy.sub.next State.modPhase_within

theorem State.closeRail_within {r} : Within (parts [.objs]) s (State.closeRail s r) := by
  unfold State.closeRail
  exact (State.puts_plain (by simp)).sub

theorem State.setAuxLoss_within {k} : Within (parts [.objs]) s (State.setAuxLoss s k) := by
  unfold State.setAuxLoss
  exact (State.put_plain (by simp)).sub

theorem State.closeTick_within : Within (parts [.objs, .freeIdx, .ints, .phases, .auxs, .net]) s (State.closeTick s) := by
  unfold State.closeTick
  exact ((Within.refl.foldl fun _ _ => State.closePhase_within.sub).foldl fun _ _ => State.closeRail_within.sub).foldl fun _ _ =>
    State.setAuxLoss_within.sub.next State.auxPg_within

theorem State.takeVqps_within {mv} : Within (parts [.objs, .freeIdx, .deferred, .afterBoot, .ops, .ints, .net, .sec, .otp, .otpRows]) s
    (State.takeVqps s mv) := by
  unfold State.takeVqps
  exact Within.ite State.modOtp_within.sub (State.modOtp_within.sub.next State.closeWindow_within)

theorem State.auxLimiting_within {k limit} : Within (parts [.objs, .ints, .auxs, .net]) s (State.auxLimiting s k limit) := by
  unfold State.auxLimiting
  split
  · exact State.modAux_within.sub.next (State.raise_plain (by simp))
  · exact State.modAux_within.sub.next (State.raise_plain (by simp))
  · exact State.modAux_within.sub
  · exact Within.refl

theorem State.setZone_within {z} : Within (parts [.objs, .ints, .chg, .net]) s (State.setZone s z) := by
  unfold State.setZone
  exact Within.ite Within.refl ((State.modChg_within.sub.next State.put_within).next State.raise_within)

theorem State.readNtc_within {v} : Within (parts [.objs, .ints, .path, .chg, .net]) s (State.readNtc s v) := by
  unfold State.readNtc
  exact Within.ite ((((Within.ite Within.refl State.raise_within.sub).next State.modPath_within).next State.put_within).next
    State.setZone_within) ((State.modPath_within.sub.next State.put_within).next State.setZone_within)

theorem State.readBid_within {v} : Within (parts [.objs]) s (State.readBid s v) := by
  unfold State.readBid
  exact State.put_within.sub

theorem State.takeMeasure_within {x} :
    Within (allBut [.published, .mram, .now, .answer, .caps, .modes, .history, .phases, .tiles, .frame, .rails, .bus, .met, .therm, .nvm,
    .dma, .mir, .cfg, .ports, .links, .hab]) s (State.takeMeasure s x) := by
  unfold State.takeMeasure
  split
  · exact Within.ite (State.put_any.sub.next State.takeVqps_within) (Within.ite (State.put_any.sub.next State.modPath_within)
      (Within.ite State.put_any.sub Within.refl))
  · exact State.modLedger_within.sub
  · exact Within.set_seq.sub
  · exact State.auxLimiting_within.sub
  · exact State.readNtc_within.sub
  · exact State.readBid_within.sub
  · exact State.modSup_within.sub
  · exact State.modPath_within.sub.next State.modEst_within
  · exact Within.ite Within.refl State.put_within.sub
  · exact State.modOasis_within.sub

theorem State.managementTick_within {ms} : Within (allBut [.answer]) s (State.managementTick s ms) := by
  unfold State.managementTick
  extract_lets s11
  refine .have_ (t := s11) (Within.ite State.timeTo_within.sub Within.refl) fun h11 => ?_
  exact Within.ite h11 (((h11.foldl fun _ _ => State.takeMeasure_within.sub).next State.closeTick_within).next State.tickWork_within)

theorem State.gatherMeans_within {m rawV rawI} : Within (parts [.met]) s (State.gatherMeans s m rawV rawI) := by
  unfold State.gatherMeans
  split
  · exact State.modPoint_within.sub

theorem State.noteOver_within {m} : Within (parts [.objs, .deferred, .afterBoot, .ints, .met, .net]) s (State.noteOver s m) := by
  unfold State.noteOver
  extract_lets s11 x12
  refine .have_ (t := s11) ((State.bump_plain (by simp)).sub) fun h11 => ?_
  exact Within.ite (Within.ite h11 ((h11.next State.modPoint_within).next (State.raise_plain (by simp))))
    (Within.ite ((h11.next State.modPoint_within).next (State.raise_plain (by simp))) h11)

theorem State.integrate_within {m rawV rawI} : Within (parts [.met]) s (State.integrate s m rawV rawI) := by
  unfold State.integrate
  split
  · exact State.modPoint_within.sub

theorem State.takeDecimated_within {m rawV rawI} : Within (parts [.objs, .deferred, .afterBoot, .ints, .met, .net]) s
    (State.takeDecimated s m rawV rawI) := by
  unfold State.takeDecimated
  extract_lets x11 s12 s13 s14 s15
  refine .have_ (t := s12) ((State.puts_plain (by simp)).sub) fun h12 => ?_
  refine .have_ (t := s13) ((h12.next State.modPoint_within).next State.gatherMeans_within) fun h13 => ?_
  refine .have_ (t := s14) (Within.ite (h13.next State.noteOver_within) h13) fun h14 => ?_
  refine .have_ (t := s15) (Within.ite (h14.next State.noteOver_within) h14) fun h15 => ?_
  exact Within.ite h13 (Within.ite (h15.next State.integrate_within) h15)

theorem State.meteringSample_within {m bitsV bitsI} : Within (parts [.objs, .deferred, .afterBoot, .ints, .met, .net]) s
    (State.meteringSample s m bitsV bitsI) := by
  unfold State.meteringSample
  exact Within.ite (by
    split
    · split
      · exact State.modPoint_within.sub.next State.takeDecimated_within) Within.refl

theorem State.mirEnd_within {how} : Within (parts [.mir]) s (State.mirEnd s how) := by
  unfold State.mirEnd
  exact Within.ite State.modMir_within.sub Within.refl

theorem State.mirSource_within : Within (parts [.objs, .deferred, .afterBoot, .ints, .mir, .net]) s (State.mirSource s) := by
  unfold State.mirSource
  split
  · exact Within.ite State.mirTrigger_within.sub Within.refl
  · exact Within.refl

theorem State.mirFrame_within {vs} : Within (parts [.objs, .deferred, .afterBoot, .ints, .mir, .net]) s (State.mirFrame s vs) := by
  unfold State.mirFrame
  extract_lets s11 x12 x13 x14 x15 x16 s17 s18 x19
  refine .have_ (t := s11) State.mirSource_within.sub fun h11 => ?_
  refine .have_ (t := s17) (Within.ite ((h11.next State.modMir_within).next State.raiseLater_within) h11) fun h17 => ?_
  refine .have_ (t := s18) (h17.next State.modMir_within) fun h18 => ?_
  exact Within.ite h11 (by
    split
    · exact Within.ite (h18.next State.modMir_within) (h18.next State.modMir_within)
    · exact h18.next State.modMir_within
    · exact h18.next State.modMir_within)

theorem State.mirRotated_within : Within (parts [.objs, .deferred, .afterBoot, .ints, .mir, .net]) s (State.mirRotated s) := by
  unfold State.mirRotated
  split
  · exact Within.refl
  · exact (((State.puts_keys (keys := [K.MIR_FRAMES, K.MIR_PRE_VALID, K.MIR_FIRST_AT, K.MIR_TRIG_AT]) rfl).sub).next
      State.modMir_within).next State.raiseLater_within

theorem State.saveForRest_within : Within (parts [.mram, .est, .ledger]) s (State.saveForRest s) := by
  unfold State.saveForRest
  exact State.saveAccounts_within.sub.next State.coreWrite_within

theorem State.enterVault_within :
    Within (parts [.objs, .mram, .freeIdx, .deferred, .afterBoot, .modes, .history, .ops, .ints, .auxs, .seq, .path, .chg, .met, .net,
    .oasis, .sec, .otp, .otpRows, .habState]) s (State.enterVault s) := by
  unfold State.enterVault
  exact ((((State.chargerStop_within.sub.next State.modOasis_within).next State.modModes_within).next State.setMode_within).next
    State.keeperRest_within).next State.refreshAux_within

theorem State.abandonEntry_within {hit why} : Within (parts [.objs, .history, .ints, .net, .wakeSource]) s
    (State.abandonEntry s hit why) := by
  unfold State.abandonEntry
  exact (State.put_within.sub.next State.addHistory_within).next State.raise_within

theorem State.mirDormant_within : Within (parts [.objs, .mir]) s (State.mirDormant s) := by
  unfold State.mirDormant
  exact State.modMir_within.sub.next State.put_within

theorem State.dropBlocks_within : Within (parts [.net]) s (State.dropBlocks s) := by
  unfold State.dropBlocks
  exact Within.set_net.sub

theorem State.enterDormant_within :
    Within (parts [.objs, .mram, .freeIdx, .deferred, .afterBoot, .modes, .history, .ops, .ints, .rails, .auxs, .seq, .path, .chg, .est,
    .met, .therm, .nvm, .dma, .mir, .net, .cfg, .links, .oasis, .sec, .otp, .otpRows, .habState]) s (State.enterDormant s) := by
  unfold State.enterDormant
  exact ((((((((((((((State.abortRest_within.sub.next State.chargerStop_within).next State.modOasis_within).next
    State.quenchDma_within).next State.dropBlocks_within).next State.mirDormant_within).next State.discardStaging_within).next
    State.endUnlocks_within).next State.modSec_within).next State.setLevel_within).next State.modModes_within).next
    State.setMode_within).next State.keeperRest_within).next State.refreshAux_within).foldl fun _ _ => State.modLink_within.sub).next
    Within.set_therm

theorem State.enterService_within :
    Within (parts [.objs, .mram, .freeIdx, .deferred, .afterBoot, .modes, .history, .ops, .ints, .tiles, .rails, .auxs, .sup, .met, .therm,
    .net, .links, .sec, .otp, .otpRows, .fsRetryAt, .habState]) s (State.enterService s) := by
  unfold State.enterService
  exact Within.ite (by
    extract_lets s11 s12
    refine .have_ (t := s11) (State.put_within.sub.next State.modModes_within) fun h11 => ?_
    refine .have_ (t := s12) (Within.ite h11 (h11.next State.releaseLanterns_within)) fun h12 => ?_
    exact (h12.next State.setMode_within).next State.refreshAux_within) ((State.modModes_within.sub.next State.setMode_within).next
      State.refreshAux_within)

theorem State.modeRequest_within {v woken beaten} : Within (allBut [.answer]) s (State.modeRequest s v woken beaten) := by
  unfold State.modeRequest
  extract_lets s11 x12 x13
  refine .have_ (t := s11) (Within.ite State.saveForRest_within.sub Within.refl) fun h11 => ?_
  exact Within.ite h11 (Within.ite (Within.ite (h11.next State.enterVault_within) (h11.next State.abandonEntry_within))
    (Within.ite (Within.ite (h11.next State.enterShip_within) ((h11.next State.modModes_within).next State.raise_within))
    (Within.ite (Within.ite (h11.next State.enterDormant_within) (h11.next State.abandonEntry_within))
    (Within.ite (h11.next State.enterService_within) (by
    split
    · exact (h11.next State.leaveService_within).next State.finishService_within
    · exact h11.next State.fsClear_within
    · exact h11.next State.modModes_within)))))

theorem State.modelDiverge_within {t} : Within (parts [.objs, .ints, .therm, .net]) s (State.modelDiverge s t) := by
  unfold State.modelDiverge
  exact Within.ite (State.modTherm_within.sub.next State.raiseSir_within) Within.refl

theorem State.openSession_within {m t} : Within (parts [.objs, .deferred, .afterBoot, .ops, .ints, .met, .net]) s
    (State.openSession s m t) := by
  unfold State.openSession
  extract_lets s11
  refine .have_ (t := s11) ((State.put_plain (by simp)).sub) fun h11 => ?_
  split
  · extract_lets s21
    refine .have_ (t := s21) (h11.next State.refuseSession_within) fun h21 => ?_
    exact Within.ite (h21.next State.raise_within) h21
  · exact h11.next State.modPoint_within

theorem State.closeCommand_within {m t} : Within (parts [.objs, .deferred, .afterBoot, .ops, .ints, .met, .net]) s
    (State.closeCommand s m t) := by
  unfold State.closeCommand
  extract_lets s11 x12 x13
  refine .have_ (t := s11) ((State.put_plain (by simp)).sub) fun h11 => ?_
  split
  · exact h11.next State.refuseSession_within
  · split
    · exact h11.next State.setOp_within
    · exact h11.next State.modPoint_within
  · exact (h11.next State.modPoint_within).next State.closeSession_within
  · split
    · exact h11.next State.setOp_within
    · exact h11.next State.modPoint_within

theorem State.dmaRead_within {a n} : Within (parts [.freeIdx]) s (State.dmaRead s a n).2 := by
  unfold State.dmaRead
  split
  · exact Within.refl
  · exact State.rawBytes_within.sub

theorem State.moveElement_within {c} : Within (parts [.objs, .mram, .freeIdx, .deferred, .afterBoot, .ops, .ints, .dma, .net]) s
    (State.moveElement s c) := by
  unfold State.moveElement
  exact Within.ite State.haltChannel_within.sub (((State.dmaRead_within.sub.next State.writeMram_within).next State.modChannel_within).next
    (State.addSat_plain (by simp)))

theorem State.burst_within {ue fix c n k left lastSrc lastDst} :
    Within (parts [.objs, .mram, .freeIdx, .deferred, .afterBoot, .ops, .ints, .nvm, .dma, .net]) s
    (State.burst ue fix c n k left lastSrc lastDst s) := by
  induction n generalizing s k left lastSrc lastDst with
  | zero => exact .refl
  | succ n ih =>
    unfold State.burst
    extract_lets x size cost u
    split
    · exact .refl
    split
    · exact State.uncorrectable_within.sub.next State.busError_within
    · have hu : Within (parts [.objs, .mram, .freeIdx, .deferred, .afterBoot, .ops, .ints, .nvm, .dma, .net]) s u :=
        .ite State.correctedWord_within.sub .refl
      exact (hu.next State.moveElement_within).trans ih

theorem State.grantPort_within {ue fix} : Within (parts [.objs, .mram, .freeIdx, .deferred, .afterBoot, .ops, .ints, .nvm, .dma, .net]) s
    (State.grantPort s ue fix) := by
  unfold State.grantPort
  exact Within.ite Within.refl (by
    split
    · exact State.burst_within.sub
    · exact Within.refl)

theorem State.modPw_within {i f} : Within (parts [.nvm]) s (State.modPw s i f) := by
  unfold State.modPw
  exact State.modNvm_within.sub

theorem State.pwFailed_within {i} : Within (parts [.objs, .deferred, .afterBoot, .ints, .nvm, .net]) s (State.pwFailed s i) := by
  unfold State.pwFailed
  extract_lets s11 x12 x13
  refine .have_ (t := s11) (State.bump_within.sub.next State.raise_within) fun h11 => ?_
  exact Within.ite (h11.next State.modPw_within) ((h11.next State.modPw_within).next State.raise_within)

theorem State.dropRole_within {r} : Within (parts [.net]) s (State.dropRole s r) := by
  unfold State.dropRole
  exact State.modNet_within.sub

theorem State.oasisLost_within : Within (parts [.objs, .modes, .path, .oasis]) s (State.oasisLost s) := by
  unfold State.oasisLost
  exact ((((State.puts_keys (keys := [K.RTC_CAL, K.RTC_ALARM, K.RTC_ALARM_PERIOD, K.OASIS_RETAIN, K.TAMPER_CFG, K.TAMPER_AT,
    K.TAMPER_COUNT]) rfl).sub).next State.modOasis_within).next State.modModes_within).next State.modPath_within

theorem State.noteVbk_within {vbk} : Within (parts [.oasis]) s (State.noteVbk s vbk) := by
  unfold State.noteVbk
  exact State.modOasis_within.sub

theorem State.oasisReturn_within {vbk vcell voas} : Within (parts [.oasis]) s (State.oasisReturn s vbk vcell voas) := by
  unfold State.oasisReturn
  exact Within.ite (State.noteVbk_within.sub.next State.modOasis_within) Within.refl

theorem State.oasisGap_within {vbk vcell voas} : Within (parts [.oasis]) s (State.oasisGap s vbk vcell voas) := by
  unfold State.oasisGap
  extract_lets s11
  refine .have_ (t := s11) State.noteVbk_within.sub fun h11 => ?_
  split
  · exact Within.ite (h11.next State.modOasis_within) h11
  · exact Within.ite (h11.next State.modOasis_within) h11
  · exact h11

theorem State.switchSupply_within {src} : Within (parts [.objs, .deferred, .afterBoot, .ints, .net, .oasis]) s
    (State.switchSupply s src) := by
  unfold State.switchSupply
  split
  · rename_i u1 x11 e1
    refine .have_ (t := u1) (.of_fst (State.modOasis_within.sub.next State.addSat_within) e1) fun h1 => ?_
    extract_lets s21
    refine .have_ (t := s21) (h1.next State.raiseLater_within) fun h21 => ?_
    exact Within.ite (h21.next State.raiseLater_within) h21

theorem State.oasisSwitch_within {vbk vcell voas} : Within (parts [.objs, .deferred, .afterBoot, .ints, .net, .oasis]) s
    (State.oasisSwitch s vbk vcell voas) := by
  unfold State.oasisSwitch
  extract_lets s11
  refine .have_ (t := s11) State.noteVbk_within.sub fun h11 => ?_
  split
  · exact Within.ite (h11.next State.switchSupply_within) h11
  · exact Within.ite (h11.next State.switchSupply_within) h11
  · exact Within.ite (h11.next State.modOasis_within) (Within.ite (h11.next State.modOasis_within) h11)
  · exact h11

theorem State.noteCrc_within {q} : Within (parts [.objs, .deferred, .afterBoot, .ints, .net, .ports]) s (State.noteCrc s q) := by
  unfold State.noteCrc
  extract_lets u
  have hu : Within (parts [.objs, .deferred, .afterBoot, .ints, .net]) s u := State.bump_plain (by split <;> rfl)
  exact .ite ((hu.sub.next State.modPort_within).next (State.raise_plain rfl)) hu.sub

theorem State.noteFrame_within {q} : Within (parts [.objs, .deferred, .afterBoot, .ints, .net, .ports]) s (State.noteFrame s q) := by
  unfold State.noteFrame
  extract_lets u
  have hu : Within (parts [.objs, .deferred, .afterBoot, .ints, .net]) s u := State.bump_plain (by split <;> rfl)
  exact .ite ((hu.sub.next State.modPort_within).next (State.raise_plain rfl)) hu.sub

theorem State.frameBad_within {q crcErr frameErr} : Within (parts [.objs, .deferred, .afterBoot, .ints, .net, .ports]) s
    (State.frameBad s q crcErr frameErr) := by
  unfold State.frameBad
  extract_lets s11 s12
  refine .have_ (t := s11) State.modPort_within.sub fun h11 => ?_
  refine .have_ (t := s12) (Within.ite (h11.next State.noteCrc_within) h11) fun h12 => ?_
  exact Within.ite (h12.next State.noteFrame_within) h12

theorem State.answerRevoked_within {q} : Within (parts [.ports]) s (State.answerRevoked s q).1 := by
  unfold State.answerRevoked
  dsimp only
  exact State.modBox_within

theorem State.openSegments_within {q} : Within (parts [.objs, .dma, .ports]) s (State.openSegments s q) := by
  unfold State.openSegments
  exact State.openChannel_within.sub.next State.modBox_within

theorem State.closeSegments_within {q} : Within (parts [.objs, .ints, .dma, .net, .ports]) s (State.closeSegments s q) := by
  unfold State.closeSegments
  exact (Within.ite State.closeChannel_within.sub Within.refl).next State.modBox_within

theorem State.boxSeg_within {q key offset bs} : Within (parts [.objs, .ints, .dma, .net, .ports]) s (State.boxSeg s q key offset bs).1 := by
  unfold State.boxSeg
  split
  · exact State.answerRevoked_within.sub
  split
  · split
    · exact .refl
    split
    · exact .refl
    split
    · exact .refl
    · dsimp only
      exact State.openSegments_within.sub.next State.modBox_within
  split
  · split
    · dsimp only
      exact State.modBox_within.sub
    · dsimp only
      exact State.closeSegments_within.sub
  · exact .refl

theorem State.tileFault_within {tr stamp} :
    Within (allBut [.published, .now, .answer, .caps, .history, .frame, .bus, .path, .est, .nvm, .ports, .hab, .oasis]) s
    (State.tileFault s tr stamp) := by
  unfold State.tileFault
  exact (Within.ite (by
    split
    · extract_lets s11
      refine .have_ (t := s11) State.modTile_within.sub fun h11 => ?_
      exact Within.ite (h11.next State.ready_within) h11
    · exact Within.refl) Within.refl).next State.railFault_within

theorem State.ocExpired_within {r stamp} :
    Within (allBut [.published, .now, .answer, .caps, .history, .frame, .bus, .path, .est, .nvm, .ports, .hab, .oasis]) s
    (State.ocExpired s r stamp) := by
  unfold State.ocExpired
  exact Within.ite State.tileFault_within.sub Within.refl

theorem State.enterDischarge_within {r} : Within (parts [.objs, .ints, .phases, .rails, .net]) s (State.enterDischarge s r) := by
  unfold State.enterDischarge
  exact State.railPhasesOff_within.sub.next State.modRail_within

theorem State.endOffDelay_within {r} : Within (parts [.objs, .ints, .phases, .rails, .net]) s (State.endOffDelay s r) := by
  unfold State.endOffDelay
  exact Within.ite (Within.ite State.modRail_within.sub (Within.ite State.enterDischarge_within.sub State.modRail_within.sub)) Within.refl

theorem State.enterPrebias_within {r} : Within (parts [.phases, .rails]) s (State.enterPrebias s r) := by
  unfold State.enterPrebias
  exact (Within.refl.foldl fun _ _ => State.phasePrebias_within.sub).next State.modRail_within

theorem State.abortDma_within {c} : Within (parts [.objs, .deferred, .afterBoot, .ops, .ints, .dma, .net]) s (State.abortDma s c) := by
  unfold State.abortDma
  exact Within.ite (by
    split
    · exact State.loseAbort_within.sub
    · exact Within.refl) State.haltChannel_within.sub

theorem State.abortActs_within {t} : Within (parts [.objs, .deferred, .afterBoot, .ops, .ints, .rails, .seq, .met, .dma, .net, .cfg]) s
    (State.abortActs s t) := by
  unfold State.abortActs
  extract_lets e
  -- the unit's number stays opaque: the kernel would count its subtraction down
  obtain ⟨unit, hu⟩ : ∃ f : Nat → Nat → Nat, f = State.unitOfKey e.key := ⟨_, rfl⟩
  rw [← hu]
  split
  · split
    · exact State.sendRail_within.sub
    · exact .refl
  · split
    · exact State.powerDown_within.sub.next State.releaseDependants_within
    · exact .refl
  · split
    · exact State.endOpening_within.sub
    · exact .refl
  · exact .ite State.loseAbort_within.sub State.abandonCommit_within.sub
  · split
    · exact State.abortDma_within.sub
    · exact .refl
  · exact .refl

theorem State.marginRef_within : Within (parts [.freeIdx]) s (State.marginRef s).2 := by
  unfold State.marginRef
  split
  · exact Within.refl
  · exact State.fresh_within.sub

theorem State.endBurn_within {result st} : Within (parts [.objs, .deferred, .afterBoot, .ops, .ints, .net, .otp, .otpRows]) s
    (State.endBurn s result st) := by
  unfold State.endBurn
  exact (State.modOtp_within.sub.next State.put_within).next State.finish?_within

theorem State.weakBits_within {n} : Within (parts [.objs, .ints, .net]) s (State.weakBits s n) := by
  unfold State.weakBits
  exact Within.ite Within.refl (by
    split
    · rename_i u1 x11 e1
      refine .have_ (t := u1) (.of_fst State.addSat_within.sub e1) fun h1 => ?_
      extract_lets s21
      refine .have_ (t := s21) (h1.next State.raise_within) fun h21 => ?_
      exact Within.ite (h21.next State.raise_within) h21)

theorem State.checkRow_within {m reads} : Within (parts [.objs, .deferred, .afterBoot, .ints, .net, .sec, .otp]) s
    (State.checkRow s m reads).1 :=
  State.weakBits_within.sub

theorem State.remapRow_within {r} : Within (parts [.objs, .ints, .net, .otp, .otpRows]) s (State.remapRow s r) := by
  unfold State.remapRow
  exact (State.modOtp_within.sub.foldl fun _ _ => State.setOtpRow_within.sub).next State.raise_within

theorem State.remapChecked_within {m r reads} : Within (parts [.objs, .deferred, .afterBoot, .ints, .net, .sec, .otp, .otpRows]) s
    (State.remapChecked s m r reads).1 := by
  unfold State.remapChecked
  split
  · exact .refl
  split
  next u ok e =>
  have hu : Within (parts [.objs, .deferred, .afterBoot, .ints, .net, .sec, .otp, .otpRows]) s u := .of_fst State.checkRow_within.sub e
  split
  · exact hu.next State.remapRow_within
  · exact hu

theorem State.reburnRows_within {m rows rep n} : Within (parts [.objs, .deferred, .afterBoot, .ops, .ints, .net, .sec, .otp, .otpRows]) s
    (State.reburnRows m rows rep n s) := by
  induction rows generalizing s n with
  | nil => exact State.endBurn_within.sub
  | cons r rows ih =>
    unfold State.reburnRows
    split
    next u ok e =>
    have hu : Within (parts [.objs, .deferred, .afterBoot, .ops, .ints, .net, .sec, .otp, .otpRows]) s u :=
      .of_fst State.checkRow_within.sub e
    split
    · exact hu.trans ih
    split
    next v ok' e' =>
    have hv : Within (parts [.objs, .deferred, .afterBoot, .ops, .ints, .net, .sec, .otp, .otpRows]) s v :=
      hu.trans (.of_fst State.remapChecked_within.sub e')
    split
    · exact hv.trans ih
    · exact hv.next State.endBurn_within

theorem State.rowDone_within {rep r v} : Within (parts [.objs, .freeIdx, .deferred, .afterBoot, .ops, .ints, .net, .sec, .otp, .otpRows]) s
    (State.rowDone s rep r v) := by
  unfold State.rowDone
  split
  · rename_i x10 u1 e1
    refine .have_ (t := u1) (.of_snd State.marginRef_within.sub e1) fun h1 => ?_
    extract_lets x21 x22
    split
    · rename_i u3 x31 e3
      refine .have_ (t := u3) (.of_fst (h1.next State.checkRow_within) e3) fun h3 => ?_
      exact Within.ite ((h3.next State.setOtpRow_within).next State.endBurn_within)
        (Within.ite ((h3.next State.setOtpRow_within).next State.endBurn_within) (by
        split
        · rename_i u4 x41 e4
          refine .have_ (t := u4) (.of_fst (h3.next State.remapChecked_within) e4) fun h4 => ?_
          exact Within.ite ((h4.next State.setOtpRow_within).next State.endBurn_within)
            ((h4.next State.setOtpRow_within).next State.endBurn_within)))

theorem State.burnDone_within {rep} : Within (parts [.objs, .freeIdx, .deferred, .afterBoot, .ops, .ints, .net, .sec, .otp, .otpRows]) s
    (State.burnDone s rep) := by
  unfold State.burnDone
  split
  · exact Within.refl
  · exact State.marginRef_within.sub.next State.reburnRows_within
  · exact State.rowDone_within.sub

theorem State.pbLong_within : Within (allBut [.answer, .oasis]) s (State.pbLong s) := by
  unfold State.pbLong
  exact Within.ite State.wake_within.sub (by
    extract_lets s11
    refine .have_ (t := s11) State.modPath_within.sub fun h11 => ?_
    exact Within.ite ((h11.next State.batUnusable_within).next State.supplyLevels_within) h11)

theorem State.pbPress_within : Within (allBut [.answer, .oasis]) s (State.pbPress s) := by
  unfold State.pbPress
  exact State.modPath_within.sub.next State.wake_within

theorem State.fsClearEvent_within {why} : Within (allBut [.answer, .oasis]) s (State.fsClearEvent s why) := by
  unfold State.fsClearEvent
  exact Within.ite State.fsClear_within.sub (Within.ite State.modModes_within.sub Within.refl)

theorem State.pbShort_within : Within (allBut [.answer, .oasis]) s (State.pbShort s) := by
  unfold State.pbShort
  exact Within.ite Within.refl (by
    extract_lets s11
    refine .have_ (t := s11) State.modPath_within.sub fun h11 => ?_
    exact Within.ite ((h11.next State.raiseLater_within).next State.fsClearEvent_within) h11)

theorem State.pgLoss_within {r stamp} :
    Within (allBut [.published, .now, .answer, .caps, .history, .frame, .bus, .path, .est, .nvm, .ports, .hab, .oasis]) s
    (State.pgLoss s r stamp) := by
  unfold State.pgLoss
  exact Within.ite State.tileFault_within.sub Within.refl

theorem State.standbySpares_within {r} : Within (parts [.phases]) s (State.standbySpares s r) := by
  unfold State.standbySpares
  exact Within.refl.foldl fun _ _ => State.phasePrebias_within.sub

theorem State.qualify_within {r} : Within (parts [.phases, .rails]) s (State.qualify s r) := by
  unfold State.qualify
  exact State.modRail_within.sub.next State.standbySpares_within

theorem State.pgQualified_within {r} : Within (parts [.phases, .rails]) s (State.pgQualified s r) := by
  unfold State.pgQualified
  exact Within.ite State.qualify_within.sub Within.refl

theorem State.pgSample_within {r v} : Within (parts [.objs, .deferred, .afterBoot, .ints, .rails, .net]) s (State.pgSample s r v) := by
  unfold State.pgSample
  extract_lets x11 s12 x13 x14 s15
  refine .have_ (t := s12) State.modRail_within.sub fun h12 => ?_
  refine .have_ (t := s15) ((h12.next State.modRail_within).next (State.bump_plain (by simp))) fun h15 => ?_
  exact Within.ite (Within.ite (h12.next State.modRail_within) (Within.ite h12 (Within.ite h15 (h15.next State.raise_within))))
    (h12.next State.modRail_within)

theorem State.phaseOc_within {p readings stamp} :
    Within (allBut [.published, .now, .answer, .caps, .history, .frame, .bus, .path, .est, .nvm, .ports, .hab, .oasis]) s
    (State.phaseOc s p readings stamp) := by
  unfold State.phaseOc
  exact Within.ite State.tileFault_within.sub Within.refl

theorem State.poolAverage_within {r} : Within (parts [.phases, .rails, .links]) s (State.poolAverage s r) := by
  unfold State.poolAverage
  exact Within.ite Within.refl ((State.modRail_within.sub.foldl fun _ _ => State.modPhase_within.sub).next State.readyAll_within)

theorem State.setSlot_within {p} : Within (parts [.phases]) s (State.setSlot s p) := by
  unfold State.setSlot
  split
  · exact State.modPhase_within.sub
  · exact Within.refl

theorem State.prebiasDone_within {p inp} : Within (parts [.objs, .deferred, .afterBoot, .ints, .phases, .rails, .net]) s
    (State.prebiasDone s p inp) := by
  unfold State.prebiasDone
  extract_lets x11 s12 s13 s14
  refine .have_ (t := s12) State.modPhase_within.sub fun h12 => ?_
  refine .have_ (t := s13) (h12.next State.modPhase_within) fun h13 => ?_
  refine .have_ (t := s14) (h12.next State.modPhase_within) fun h14 => ?_
  split
  · exact Within.ite (Within.ite (h13.next State.commandSpare_within) h13)
      (((h14.next State.setSlot_within).next State.refreshDegraded_within).next State.refreshLimiting_within)
  · exact Within.refl

theorem State.prechargeDone_within : Within (parts [.objs, .ints, .chg, .est, .net]) s (State.prechargeDone s) := by
  unfold State.prechargeDone
  exact Within.ite State.chgTo_within.sub Within.refl

theorem State.endPending_within : Within (parts [.chg]) s (State.endPending s) := by
  unfold State.endPending
  exact Within.ite State.modChg_within.sub Within.refl

theorem State.setBat_within {f} : Within (parts [.objs, .deferred, .afterBoot, .ints, .path, .chg, .est, .net]) s (State.setBat s f) := by
  unfold State.setBat
  extract_lets x11 s12 s13
  refine .have_ (t := s12) (State.modPath_within.sub.next State.endPending_within) fun h12 => ?_
  refine .have_ (t := s13) State.modPath_within.sub fun h13 => ?_
  split
  · exact Within.ite h12 (h12.next State.raise_within)
  · exact Within.ite (Within.ite (Within.ite (((h13.next State.raise_within).next State.swap_within).next State.cyclePending_within) h13)
      State.modPath_within.sub) State.modPath_within.sub
  · exact State.modPath_within.sub.next State.endPending_within
  · exact State.modPath_within.sub
  · exact State.modPath_within.sub

theorem State.probeResult_within {rise endV} :
    Within (allBut [.published, .now, .answer, .caps, .tiles, .frame, .bus, .nvm, .ports, .links, .hab, .oasis]) s
    (State.probeResult s rise endV) := by
  unfold State.probeResult
  exact Within.ite Within.refl (by
    extract_lets s11 x12 s13
    refine .have_ (t := s11) ((State.modPath_within.sub.next State.modChg_within).next State.seeSwitching_within) fun h11 => ?_
    refine .have_ (t := s13) (h11.next State.setBat_within) fun h13 => ?_
    exact Within.ite h11 ((h13.next State.chargerEval_within).next State.batUnusable_within))

theorem State.referenceReached_within {r} : Within (parts [.objs, .deferred, .afterBoot, .ops, .ints, .rails, .net]) s
    (State.referenceReached s r) := by
  unfold State.referenceReached
  exact Within.ite (by
    extract_lets s11
    refine .have_ (t := s11) State.modRail_within.sub fun h11 => ?_
    split
    · exact h11.next State.enterUp_within
    · exact (h11.next State.finish?_within).next State.modRail_within
    · exact h11) Within.refl

theorem State.applyVoltAbort_within {r t} : Within (parts [.objs, .deferred, .afterBoot, .ops, .ints, .rails, .net]) s
    (State.applyVoltAbort s r t) := by
  unfold State.applyVoltAbort
  exact Within.ite (Within.ite State.referenceReached_within.sub ((State.modRail_within.sub.next (State.put_plain (by simp))).next
    State.finish_within)) Within.refl

theorem State.abortTick_within {r} : Within (parts [.objs, .deferred, .afterBoot, .ops, .ints, .rails, .net]) s (State.abortTick s r) := by
  unfold State.abortTick
  split
  · rename_i x10 u1 e1
    refine .have_ (t := u1) ((State.takeCmd_some_within e1).sub) fun h1 => ?_
    exact h1.next State.applyVoltAbort_within
  · exact Within.refl

theorem State.railOv_within {r t v stamp} :
    Within (allBut [.published, .now, .answer, .caps, .history, .frame, .bus, .path, .est, .nvm, .ports, .hab, .oasis]) s
    (State.railOv s r t v stamp) := by
  unfold State.railOv
  exact Within.ite State.tileFault_within.sub Within.refl

theorem State.abortVoltage_within {r} : Within (parts [.objs, .deferred, .afterBoot, .ops, .ints, .rails, .net]) s
    (State.abortVoltage s r) := by
  unfold State.abortVoltage
  exact State.modRail_within.sub.foldl fun _ _ => State.loseAbort_within.sub.next State.finish_within

theorem State.applyPowerDown_within {r} : Within (parts [.objs, .deferred, .afterBoot, .ops, .ints, .phases, .rails, .net]) s
    (State.applyPowerDown s r) := by
  unfold State.applyPowerDown
  extract_lets x11
  split
  · exact State.abortVoltage_within.sub.next State.modRail_within
  · exact State.abortVoltage_within.sub.next State.modRail_within
  · exact State.enterOff_within.sub
  · exact State.enterDischarge_within.sub
  · exact Within.ite State.enterDischarge_within.sub State.modRail_within.sub
  · exact State.modRail_within.sub
  · exact Within.refl

theorem State.powerDownTick_within {r} : Within (parts [.objs, .deferred, .afterBoot, .ops, .ints, .phases, .rails, .net]) s
    (State.powerDownTick s r) := by
  unfold State.powerDownTick
  split
  · rename_i x10 u1 e1
    refine .have_ (t := u1) ((State.takeCmd_some_within e1).sub) fun h1 => ?_
    exact h1.next State.applyPowerDown_within
  · exact Within.refl

theorem State.applyPowerUp_within {r} : Within (parts [.rails]) s (State.applyPowerUp s r) := by
  unfold State.applyPowerUp
  exact Within.ite State.modRail_within.sub State.modRail_within.sub

theorem State.powerUpTick_within {r} : Within (parts [.rails]) s (State.powerUpTick s r) := by
  unfold State.powerUpTick
  split
  · rename_i x10 u1 e1
    refine .have_ (t := u1) ((State.takeCmd_some_within e1).sub) fun h1 => ?_
    exact h1.next State.applyPowerUp_within
  · exact Within.refl

theorem State.railUv_within {r v stamp} :
    Within (allBut [.published, .now, .answer, .caps, .history, .frame, .bus, .path, .est, .nvm, .ports, .hab, .oasis]) s
    (State.railUv s r v stamp) := by
  unfold State.railUv
  exact Within.ite State.tileFault_within.sub Within.refl

theorem State.applyVoltage_within {r mv tag} : Within (parts [.objs, .deferred, .afterBoot, .ops, .ints, .rails, .net]) s
    (State.applyVoltage s r mv tag) := by
  unfold State.applyVoltage
  split
  · exact State.modRail_within.sub
  · exact State.modRail_within.sub
  · extract_lets u
    have hu : Within (parts [.rails]) s u := State.modRail_within
    exact .ite hu.sub (hu.sub.next State.enterUp_within)
  · extract_lets same old u w
    have hu : Within (parts [.rails]) s u := State.modRail_within
    have hw : Within (parts [.objs, .deferred, .afterBoot, .ops, .ints, .rails, .net]) s w := by
      unfold w
      clear_value old
      cases old with
      | some t => exact ((hu.sub.next State.finish_within).next (State.bump_plain (by simp))).next (State.raise_plain (by simp))
      | none => exact hu.sub
    exact .ite ((hw.next State.finish?_within).next State.modRail_within) hw
  · exact .refl

theorem State.voltageTick_within {r} : Within (parts [.objs, .deferred, .afterBoot, .ops, .ints, .rails, .net]) s
    (State.voltageTick s r) := by
  unfold State.voltageTick
  split
  · rename_i x10 x11 u1 e1
    refine .have_ (t := u1) ((State.takeCmd_some_within e1).sub) fun h1 => ?_
    exact h1.next State.applyVoltage_within
  · exact Within.refl

theorem State.sendVoltage_within {r mv tag} : Within (parts [.phases, .rails]) s (State.sendVoltage s r mv tag) := by
  unfold State.sendVoltage
  exact (State.sendRail_within.sub.next State.returnAll_within).next State.modRail_within

theorem State.rampStart_within {r v0} : Within (parts [.objs, .ints, .rails, .net]) s (State.rampStart s r v0) := by
  unfold State.rampStart
  exact Within.ite Within.refl (Within.ite State.modRail_within.sub (by
    extract_lets x11 x12 s13
    refine .have_ (t := s13) State.modRail_within.sub fun h13 => ?_
    exact Within.ite (h13.next State.enterUp_within) h13))

theorem State.setRate_within {t fast} : Within (parts [.therm]) s (State.setRate s t fast) := by
  unfold State.setRate
  exact State.modTherm_within.sub

theorem State.rateSlow_within {t} : Within (parts [.objs, .ints, .therm, .net]) s (State.rateSlow s t) := by
  unfold State.rateSlow
  exact Within.ite (State.setRate_within.sub.next State.raiseSir_within) Within.refl

theorem State.recharge_within : Within (parts [.objs, .deferred, .afterBoot, .ints, .chg, .est, .net]) s (State.recharge s) := by
  unfold State.recharge
  exact Within.ite State.startCycle_within.sub Within.refl

theorem State.tryLearn_within : Within (parts [.objs, .mram, .ints, .est, .net]) s (State.tryLearn s) := by
  unfold State.tryLearn
  extract_lets s11
  refine .have_ (t := s11) State.modEst_within.sub fun h11 => ?_
  split
  · exact Within.ite (by
      split
      · exact ((h11.next State.put_within).next State.raise_within).next State.coreWrite_within
      · exact h11) h11
  · exact h11

theorem State.restAnchor_within : Within (parts [.objs, .mram, .deferred, .afterBoot, .ints, .est, .net]) s (State.restAnchor s) := by
  unfold State.restAnchor
  exact Within.ite (by
    extract_lets s11 s12
    refine .have_ (t := s11) State.modEst_within.sub fun h11 => ?_
    refine .have_ (t := s12) (h11.next State.anchorAt_within) fun h12 => ?_
    exact Within.ite h11 (Within.ite (h12.next State.tryLearn_within) h12)) Within.refl

theorem State.restEnter_within : Within (parts [.objs, .ints, .path, .est, .net]) s (State.restEnter s) := by
  unfold State.restEnter
  exact Within.ite (((State.pathTo_within.sub.next State.modPath_within).next State.modEst_within).next State.raise_within) Within.refl

theorem State.restEnd_within : Within (parts [.objs, .deferred, .afterBoot, .ints, .path, .est, .net]) s (State.restEnd s) := by
  unfold State.restEnd
  exact Within.ite State.leaveRest_within.sub Within.refl

theorem State.oscFault_within : Within (parts [.objs, .mram, .freeIdx, .deferred, .afterBoot, .ints, .met, .net, .oasis]) s
    (State.oscFault s) := by
  unfold State.oscFault
  exact Within.ite Within.refl (by
    extract_lets x11 s12
    refine .have_ (t := s12) (State.modOasis_within.sub.next State.raiseLater_within) fun h12 => ?_
    exact Within.ite (h12.next State.journalTimeInvalid_within) h12)

theorem State.rtcSecond_within : Within (allBut [.answer]) s (State.rtcSecond s) := by
  unfold State.rtcSecond
  exact Within.ite Within.refl (Within.ite (State.modOasis_within.sub.next State.raiseLater_within)
    ((State.modOasis_within.sub.next State.raiseLater_within).next State.alarmCheck_within))

theorem State.drainRewrites_within : Within (parts [.nvm]) s (State.drainRewrites s).1 := by
  unfold State.drainRewrites
  dsimp only
  exact State.modNvm_within

theorem State.sealStep2_within :
    Within (parts [.objs, .mram, .deferred, .afterBoot, .ints, .sup, .net, .events, .wakeSource, .wakeEnable, .fsRetryCount, .fsRetryAt,
    .fsCause, .resetCause, .tbSource, .bootResult, .sealStage, .faultShown, .seqFault, .habState]) s (State.sealStep2 s) := by
  unfold State.sealStep2
  split
  · extract_lets x11 x12
    split
    · rename_i u2 x21 e2
      refine .have_ (t := u2) (.of_fst State.writeSnap_within.sub e2) fun h2 => ?_
      exact (Within.next (by
        split
        · exact h2.next State.countRailFault_within
        · exact h2) State.modSup_within).next State.put_within
  · exact Within.refl

theorem State.sealEnd_within {m} : Within (parts [.objs, .mram, .freeIdx, .deferred, .afterBoot, .ints, .met, .net]) s
    (State.sealEnd s m) := by
  unfold State.sealEnd
  exact Within.ite Within.refl (by
    split
    · exact State.modPoint_within.sub.next State.writeEnd_within)

theorem State.sealSession_within {m} :
    Within (parts [.objs, .mram, .freeIdx, .deferred, .afterBoot, .ops, .ints, .sup, .met, .net, .events, .wakeSource, .wakeEnable,
    .fsRetryCount, .fsRetryAt, .fsCause, .resetCause, .tbSource, .bootResult, .sealStage, .faultShown, .seqFault, .habState]) s
    (State.sealSession s m) := by
  unfold State.sealSession
  extract_lets x11 s12 s13 s14
  refine .have_ (t := s12) (State.sealEnd_within.sub.next State.writeSignature_within) fun h12 => ?_
  refine .have_ (t := s13) (h12.next State.modJnl_within) fun h13 => ?_
  refine .have_ (t := s14) (by
      unfold s14
      exact h13.foldl fun _ _ => by
        split
        · exact Within.refl
        · exact Within.refl
        · exact State.putRecord_within.sub) fun h14 => ?_
  exact h14.next State.modSup_within

theorem State.sealSessions_within {vhk ms vs} :
    Within (parts ([.objs, .mram, .freeIdx, .deferred, .afterBoot, .ops, .ints, .sup, .met, .net] ++ Part.named)) s
    (State.sealSessions s vhk ms vs).1 := by
  induction ms generalizing s vs with
  | nil => exact .refl
  | cons m ms ih =>
    unfold State.sealSessions
    split
    · exact State.sealSession_within.sub.trans ih
    split
    · exact State.sealSession_within.sub.trans ih
    · exact .refl

theorem State.sealStep3_within : Within (parts [.met]) s (State.sealStep3 s) := by
  unfold State.sealStep3
  exact Within.refl.foldl fun _ _ => (Within.ite State.copyRegisters_within.sub Within.refl).next State.modPoint_within

theorem State.setStage_within {n vhkEnd} : Within (parts [.objs, .mram, .sealStage]) s (State.setStage s n vhkEnd) := by
  unfold State.setStage
  extract_lets s11
  refine .have_ (t := s11) State.put_within.sub fun h11 => ?_
  split
  · exact h11.next State.writeMram_within
  · exact h11

theorem State.sealStep4_within : Within (parts [.history, .phases]) s (State.sealStep4 s) := by
  unfold State.sealStep4
  exact State.addHistory_within.sub.foldl fun _ _ => State.modPhase_within.sub

theorem State.sealNext_within : Within (allBut [.answer, .oasis]) s (State.sealNext s) := by
  unfold State.sealNext
  exact Within.ite State.holdReset_within.sub (by
    extract_lets s11
    refine .have_ (t := s11) (State.modSup_within.sub.next State.modPath_within) fun h11 => ?_
    exact Within.ite (Within.ite (h11.next State.modModes_within) (h11.next State.bootStart_within)) (h11.next State.enterFailsafe_within))

theorem State.mirTruncate_within : Within (parts [.objs, .deferred, .afterBoot, .ints, .mir, .net]) s (State.mirTruncate s) := by
  unfold State.mirTruncate
  exact Within.ite (State.mirEnd_within.sub.next State.raiseLater_within) Within.refl

theorem State.sealAll_within {vhks vhk} : Within (allBut [.answer, .oasis]) s (State.sealAll s vhks vhk) := by
  unfold State.sealAll
  extract_lets s11
  refine .have_ (t := s11) State.sealStep2_within.sub fun h11 => ?_
  split
  · rename_i u2 x21 e2
    refine .have_ (t := u2) (.of_fst ((h11.next State.sealStep3_within).next State.sealSessions_within) e2) fun h2 => ?_
    extract_lets s31 s32 s33
    refine .have_ (t := s31) (h2.next State.modSup_within) fun h31 => ?_
    refine .have_ (t := s32) (h31.next State.setStage_within) fun h32 => ?_
    refine .have_ (t := s33) (Within.ite ((h32.next State.sealStep4_within).next State.setStage_within) h32) fun h33 => ?_
    exact Within.ite (((h33.next State.mirTruncate_within).next State.saveBeacon_within).next State.sealNext_within)
      (h31.next State.holdReset_within)

theorem State.tornWrite_within {t a n} : Within (parts [.mram, .freeIdx]) s (State.tornWrite s t a n) := by
  unfold State.tornWrite
  exact State.fresh_within.sub.next State.writeMram_within

theorem State.tornCopies_within {m} : Within (parts [.met]) s (State.tornCopies s m) := by
  unfold State.tornCopies
  exact Within.refl.foldl fun _ _ => Within.ite Within.refl (Within.ite State.copyRegisters_within.sub State.modPoint_within.sub)

theorem State.tornRecordWrite_within {t} : Within (parts [.mram, .freeIdx, .met]) s (State.tornRecordWrite s t) := by
  unfold State.tornRecordWrite
  split
  · rename_i x10 u1 e1
    refine .have_ (t := u1) (.of_snd State.fresh_within.sub e1) fun h1 => ?_
    extract_lets s21
    refine .have_ (t := s21) (h1.next State.tornWrite_within) fun h21 => ?_
    exact Within.ite (h21.next State.modJnl_within) h21

theorem State.tornSession_within {m} : Within (parts [.objs, .mram, .freeIdx, .deferred, .afterBoot, .ints, .met, .net]) s
    (State.tornSession s m) := by
  unfold State.tornSession
  split
  · rename_i x10 u1 e1
    refine .have_ (t := u1) (.of_snd State.fresh_within.sub e1) fun h1 => ?_
    exact Within.ite (h1.next State.tornRecordWrite_within) ((h1.next State.sealEnd_within).next State.tornRecordWrite_within)

theorem State.sealFloor_within {steps sessions} :
    Within (parts [.objs, .mram, .freeIdx, .deferred, .afterBoot, .modes, .history, .ops, .ints, .phases, .auxs, .sup, .path, .met, .net,
    .events, .wakeSource, .wakeEnable, .fsRetryCount, .fsRetryAt, .fsCause, .resetCause, .tbSource, .bootResult, .sealStage, .faultShown,
    .seqFault, .habState]) s (State.sealFloor s steps sessions) := by
  unfold State.sealFloor
  exact Within.ite (Within.next (by
    split
    · exact State.tornWrite_within.sub
    · exact Within.refl) State.holdReset_within) (by
    split
    · rename_i x10 u1 e1
      refine .have_ (t := u1) (.of_snd (State.sealStep2_within.sub.next State.fresh_within) e1) fun h1 => ?_
      extract_lets x21 s22 x23 s24 s25
      refine .have_ (t := s22) (Within.ite (h1.next State.tornCopies_within) (h1.next State.sealStep3_within)) fun h22 => ?_
      refine .have_ (t := s24) (h22.foldl fun _ _ => State.sealSession_within.sub) fun h24 => ?_
      refine .have_ (t := s25) ((h24.foldl fun _ _ => State.sealSession_within.sub).next State.setStage_within) fun h25 => ?_
      exact Within.ite (Within.next (by
        split
        · exact Within.ite h24 (h24.next State.tornSession_within)
        · exact h24) State.holdReset_within) ((Within.ite h25 ((h25.next State.sealStep4_within).next State.setStage_within)).next
            State.holdReset_within))

theorem State.senseDisagree_within {r t v lead} : Within (parts [.objs, .ints, .net]) s (State.senseDisagree s r t v lead) := by
  unfold State.senseDisagree
  exact Within.ite State.raise_within.sub Within.refl

theorem State.senseOpen_within {p left} : Within (parts [.objs, .deferred, .afterBoot, .ints, .phases, .net]) s
    (State.senseOpen s p left) := by
  unfold State.senseOpen
  exact Within.ite (State.modPhase_within.sub.next (State.bump_plain (by simp))) Within.refl

theorem State.senseOutcome_within {p reading stamp} :
    Within (allBut [.published, .now, .answer, .caps, .history, .frame, .bus, .path, .est, .nvm, .ports, .hab, .oasis]) s
    (State.senseOutcome s p reading stamp) := by
  unfold State.senseOutcome
  exact Within.ite (Within.ite State.declare_within.sub (by
    extract_lets s11 s12
    refine .have_ (t := s11) State.modPhase_within.sub fun h11 => ?_
    refine .have_ (t := s12) ((h11.next State.modPhase_within).next (State.raise_plain (by simp))) fun h12 => ?_
    exact Within.ite (h12.next State.tileFault_within) h11)) Within.refl

theorem State.modSensor_within {t k f} : Within (parts [.therm]) s (State.modSensor s t k f) := by
  unfold State.modSensor
  exact State.modTherm_within.sub

theorem State.breakSensor_within {t k st} : Within (parts [.objs, .deferred, .afterBoot, .ints, .therm, .net]) s
    (State.breakSensor s t k st) := by
  unfold State.breakSensor
  extract_lets s11 s12
  refine .have_ (t := s11) State.modSensor_within.sub fun h11 => ?_
  refine .have_ (t := s12) ((h11.next State.raiseSir_within).next State.bump_within) fun h12 => ?_
  exact Within.ite ((h12.next State.modTherm_within).next State.raiseSir_within) h12

theorem State.crossCheck_within : Within (parts [.objs, .deferred, .afterBoot, .ints, .therm, .net]) s (State.crossCheck s) := by
  unfold State.crossCheck
  exact Within.ite (Within.refl.foldl fun _ _ => Within.ite State.breakSensor_within.sub Within.refl) Within.refl

theorem State.takeReading_within {t k v} : Within (parts [.objs, .deferred, .afterBoot, .ints, .therm, .net]) s
    (State.takeReading s t k v) := by
  unfold State.takeReading
  extract_lets s11
  refine .have_ (t := s11) State.modSensor_within.sub fun h11 => ?_
  exact Within.ite h11 (Within.ite (h11.next State.breakSensor_within) (Within.ite (h11.next State.breakSensor_within) h11))

theorem State.correctRef_within {t} : Within (parts [.phases, .therm]) s (State.correctRef s t) := by
  unfold State.correctRef
  exact Within.ite Within.refl (by
    split
    · exact State.modTherm_within.sub.foldl fun _ _ => State.modPhase_within.sub
    · exact State.modTherm_within.sub
    · exact State.modTherm_within.sub)

theorem State.rearm_within : Within (parts [.therm]) s (State.rearm s) := by
  unfold State.rearm
  exact Within.ite Within.set_therm.sub Within.refl

theorem State.rateStep_within {t} : Within (parts [.objs, .ints, .therm, .net]) s (State.rateStep s t) := by
  unfold State.rateStep
  extract_lets x11 x12 s13
  refine .have_ (t := s13) State.modTherm_within.sub fun h13 => ?_
  exact Within.ite ((h13.next State.setRate_within).next State.raiseSir_within) h13

theorem State.warnStep_within {t} : Within (parts [.objs, .ints, .therm, .net]) s (State.warnStep s t) := by
  unfold State.warnStep
  exact Within.ite (Within.ite (by
    extract_lets s11
    refine .have_ (t := s11) State.modTherm_within.sub fun h11 => ?_
    exact Within.ite h11 (h11.next State.raiseSir_within)) Within.refl) (Within.ite (State.modTherm_within.sub.next State.raiseSir_within)
      Within.refl)

theorem State.sensorSample_within {t rs} : Within (parts [.objs, .deferred, .afterBoot, .ints, .phases, .therm, .net]) s
    (State.sensorSample s t rs) := by
  unfold State.sensorSample
  exact Within.ite ((((((Within.refl.foldl fun _ _ => State.takeReading_within.sub).foldl fun _ _ => State.modSensor_within.sub).next
    State.correctRef_within).next State.warnStep_within).next State.rateStep_within).next State.rearm_within) Within.refl

theorem State.drainRecords_within {ws} :
    Within (parts ([.objs, .mram, .freeIdx, .deferred, .afterBoot, .ops, .ints, .met, .net] ++ Part.named)) s
    (State.drainRecords ws s) := by
  induction ws generalizing s with
  | nil => exact .refl
  | cons w ws ih =>
    unfold State.drainRecords
    extract_lets u
    have hu : Within (parts ([.objs, .mram, .freeIdx, .deferred, .afterBoot, .ops, .ints, .met, .net] ++ Part.named)) s u :=
      State.putRecord_within.sub
    split
    · exact hu.next State.modJnl_within
    · exact hu.trans ih

theorem State.signatureDone_within :
    Within (parts [.objs, .mram, .freeIdx, .deferred, .afterBoot, .ops, .ints, .met, .net, .events, .wakeSource, .wakeEnable,
    .fsRetryCount, .fsRetryAt, .fsCause, .resetCause, .tbSource, .bootResult, .sealStage, .faultShown, .seqFault, .habState]) s
    (State.signatureDone s) := by
  unfold State.signatureDone
  split
  · exact Within.refl
  · exact (State.writeSignature_within.sub.next State.modJnl_within).next State.drainRecords_within

theorem State.shedStep_within {r} : Within (parts [.phases, .rails]) s (State.shedStep s r) := by
  unfold State.shedStep
  exact Within.ite (by
    split
    · exact State.atNextEdge_within.sub.next State.modRail_within
    · exact Within.refl) Within.refl

theorem State.hotStep_within {p} : Within (parts [.phases]) s (State.hotStep s p) := by
  unfold State.hotStep
  split
  · exact State.modPhase_within.sub

theorem State.tileStep_within {t} : Within (parts [.phases, .therm]) s (State.tileStep s t) := by
  unfold State.tileStep
  split
  · exact (State.modTherm_within.sub.foldl fun _ _ => State.hotStep_within.sub).next State.modTherm_within

theorem State.showTile_within {t} : Within (parts [.therm]) s (State.showTile s t) := by
  unfold State.showTile
  exact State.modTherm_within.sub

theorem State.siroccoStep_within : Within (parts [.objs, .ints, .phases, .therm, .net]) s (State.siroccoStep s) := by
  unfold State.siroccoStep
  exact Within.ite (((((Within.refl.foldl fun _ _ => State.tileStep_within.sub).foldl fun _ _ => State.warnStep_within.sub.next
    State.rateStep_within).foldl fun _ _ => State.showTile_within.sub).foldl fun _ _ => State.modPhase_within.sub).next State.rearm_within)
    Within.refl

theorem State.spareJoins_within {r p} : Within (parts [.objs, .deferred, .afterBoot, .ints, .phases, .rails, .net]) s
    (State.spareJoins s r p) := by
  unfold State.spareJoins
  exact (((((State.modRail_within.sub.next State.modPhase_within).next State.setSlot_within).next (State.raise_plain (by simp))).next
    State.noteSpares_within).next State.refreshDegraded_within).next State.refreshLimiting_within

theorem State.spareChecked_within {p finding} :
    Within (allBut [.published, .now, .answer, .caps, .history, .tiles, .frame, .bus, .path, .est, .nvm, .ports, .links, .hab, .oasis]) s
    (State.spareChecked s p finding) := by
  unfold State.spareChecked
  extract_lets x11
  split
  · exact Within.ite (Within.ite State.spareJoins_within.sub State.isolate_within.sub) Within.refl
  · exact Within.refl

theorem State.winThreshold_within {q v} : Within (parts [.objs, .answer, .deferred, .afterBoot, .ints, .net, .ports]) s
    (State.winThreshold s q v) := by
  unfold State.winThreshold
  exact ((State.frameTaken_within.sub.next State.put_within).next State.noteRelease_within).next Within.set_answer

theorem State.stageTimeout_within : Within (parts [.cfg]) s (State.stageTimeout s) := by
  unfold State.stageTimeout
  exact Within.ite State.discardStaging_within.sub Within.refl

theorem State.bellPoint_within {g} : Within (parts [.seq]) s (State.bellPoint s g) := by
  unfold State.bellPoint
  exact State.driveBell_within.sub.next State.modGroup_within

theorem State.stepDone_within {g} : Within (parts [.objs, .deferred, .afterBoot, .ops, .ints, .rails, .seq, .net]) s
    (State.stepDone s g) := by
  unfold State.stepDone
  extract_lets x11
  split
  · exact Within.ite (Within.ite State.bellPoint_within.sub (State.riseNext_within.sub.next State.releaseDependants_within)) Within.refl
  · exact Within.refl

theorem State.sendStepUp_within {g k} : Within (parts [.rails, .seq]) s (State.sendStepUp s g k) := by
  unfold State.sendStepUp
  exact ((Within.refl.foldl fun _ _ => by
    extract_lets s21
    refine .have_ (t := s21) State.modRail_within.sub fun h21 => ?_
    split
    · exact h21.next State.sendRail_within
    · exact h21.next State.modRail_within
    · exact h21
    · exact h21.next State.modRail_within).foldl fun _ _ => State.modSlave_within.sub.next State.oweSlave_within).next State.modGroup_within

theorem State.stepGo_within {g} :
    Within (allBut [.published, .now, .answer, .caps, .history, .tiles, .frame, .bus, .path, .est, .nvm, .ports, .links, .hab, .oasis]) s
    (State.stepGo s g) := by
  unfold State.stepGo
  extract_lets x11
  split
  · exact Within.ite (by
      extract_lets s21
      refine .have_ (t := s21) State.sendStepUp_within.sub fun h21 => ?_
      exact Within.ite (h21.next State.stepFault_within) h21) Within.refl
  · exact Within.refl

theorem State.stepOff_within {g} : Within (parts [.objs, .ints, .rails, .seq, .net]) s (State.stepOff s g) := by
  unfold State.stepOff
  extract_lets x11
  split
  · exact State.sendStepDown_within.sub
  · exact Within.refl

theorem State.stepFallen_within {g} : Within (parts [.objs, .deferred, .afterBoot, .ops, .ints, .rails, .seq, .net]) s
    (State.stepFallen s g) := by
  unfold State.stepFallen
  extract_lets x11
  split
  · exact Within.ite (Within.ite State.bellPoint_within.sub State.fallOn_within.sub) Within.refl
  · exact Within.refl

theorem State.stepTimeout_within {g} :
    Within (allBut [.published, .now, .answer, .caps, .history, .tiles, .frame, .bus, .path, .est, .nvm, .ports, .links, .hab, .oasis]) s
    (State.stepTimeout s g) := by
  unfold State.stepTimeout
  extract_lets x11
  split
  · exact Within.ite State.stepFault_within.sub Within.refl
  · exact Within.refl

theorem State.switchbackDone_within :
    Within (parts [.objs, .mram, .freeIdx, .deferred, .afterBoot, .modes, .history, .ops, .ints, .auxs, .seq, .path, .chg, .est, .met,
    .net, .sec, .otp, .otpRows, .habState]) s (State.switchbackDone s) := by
  unfold State.switchbackDone
  exact Within.ite ((((State.pathTo_within.sub.next State.raiseLater_within).next State.modModes_within).next State.evalMode_within).next
    State.chargerEval_within) Within.refl

theorem State.takeReadings_within {p inp} : Within (parts [.phases]) s (State.takeReadings s p inp) := by
  unfold State.takeReadings
  exact State.modPhase_within.sub

theorem State.returnStep_within {r} : Within (parts [.phases]) s (State.returnStep s r) := by
  unfold State.returnStep
  exact Within.ite State.returnShed_within.sub Within.refl

theorem State.peakStep_within {r p peak} : Within (parts [.objs, .deferred, .afterBoot, .ints, .phases, .net]) s
    (State.peakStep s r p peak) := by
  unfold State.peakStep
  extract_lets x11 s12 s13 s14
  refine .have_ (t := s12) State.modPhase_within.sub fun h12 => ?_
  refine .have_ (t := s13) (h12.next (State.bump_plain (by simp))) fun h13 => ?_
  refine .have_ (t := s14) (Within.ite h13 (h13.next (State.raise_plain (by simp)))) fun h14 => ?_
  exact Within.ite (h14.next State.returnAll_within) h12

theorem State.currentStep_within {p inp} : Within (parts [.phases]) s (State.currentStep s p inp) := by
  unfold State.currentStep
  exact State.modPhase_within.sub

theorem State.lastCycle_within {p inp} : Within (parts [.objs, .deferred, .afterBoot, .ints, .phases, .net]) s
    (State.lastCycle s p inp) := by
  unfold State.lastCycle
  split
  · exact (State.currentStep_within.sub.next State.peakStep_within).next State.returnStep_within
  · exact Within.refl

theorem State.phaseShed_within {p} : Within (parts [.objs, .deferred, .afterBoot, .ints, .phases, .net]) s (State.phaseShed s p) := by
  unfold State.phaseShed
  exact (State.modPhase_within.sub.next (State.bump_plain (by simp))).next (State.raise_plain (by simp))

theorem State.phaseReturn_within {p} : Within (parts [.objs, .ints, .phases, .net]) s (State.phaseReturn s p) := by
  unfold State.phaseReturn
  exact (State.modPhase_within.sub.next State.setSlot_within).next (State.raise_plain (by simp))

theorem State.takeNext_within {p} : Within (parts [.objs, .deferred, .afterBoot, .ints, .phases, .net]) s (State.takeNext s p) := by
  unfold State.takeNext
  split
  · exact State.phaseShed_within.sub
  · exact State.phaseReturn_within.sub
  · exact Within.refl

theorem State.trimStep_within {p} : Within (parts [.objs, .ints, .phases, .net]) s (State.trimStep s p) := by
  unfold State.trimStep
  extract_lets x11 x12
  split
  · exact State.modPhase_within.sub
  · extract_lets x21 x22 s23
    refine .have_ (t := s23) State.modPhase_within.sub fun h23 => ?_
    exact Within.ite (h23.next (State.raise_plain (by simp))) h23

theorem State.coilStep_within {r p} : Within (parts [.rails]) s (State.coilStep s r p) := by
  unfold State.coilStep
  exact Within.ite State.modRail_within.sub Within.refl

theorem State.openStep_within {r p} :
    Within (allBut [.published, .now, .answer, .caps, .history, .tiles, .frame, .bus, .path, .est, .nvm, .ports, .hab, .oasis]) s
    (State.openStep s r p) := by
  unfold State.openStep
  extract_lets x11 x12 x13 x14 x15 x16 s17
  refine .have_ (t := s17) State.modPhase_within.sub fun h17 => ?_
  exact Within.ite (h17.next State.declare_within) h17

theorem State.dutyStep_within {p o clamped sinking} : Within (parts [.freeIdx, .phases]) s (State.dutyStep s p o clamped sinking) := by
  unfold State.dutyStep
  split
  · exact State.modPhase_within.sub
  · extract_lets d
    split
    next f u e =>
    have hu : Within (parts [.freeIdx]) s u := by
      split at e
      · exact State.fresh_within.of_snd e
      · cases e; exact .refl
    exact hu.sub.next State.modPhase_within

theorem State.keepLoop_within {p o} : Within (parts [.phases]) s (State.keepLoop s p o) := by
  unfold State.keepLoop
  exact State.modPhase_within.sub

theorem State.cfStep_within {p inp} :
    Within (allBut [.published, .now, .answer, .caps, .history, .tiles, .frame, .bus, .path, .est, .nvm, .ports, .hab, .oasis]) s
    (State.cfStep s p inp) := by
  unfold State.cfStep
  extract_lets x11 s12
  refine .have_ (t := s12) State.modPhase_within.sub fun h12 => ?_
  exact Within.ite (h12.next State.declare_within) h12

theorem State.activeEdge_within {r p inp} :
    Within (allBut [.published, .now, .answer, .caps, .history, .tiles, .frame, .bus, .path, .est, .nvm, .ports, .hab, .oasis]) s
    (State.activeEdge s r p inp) := by
  unfold State.activeEdge
  exact ((((((((((State.coilStep_within.sub.next State.trimStep_within).next State.keepLoop_within).next State.dutyStep_within).next
    State.openStep_within).next State.cfStep_within).next State.currentStep_within).next State.modPhase_within).next
    State.refreshLimiting_within).next State.peakStep_within).next State.returnStep_within).next State.ready_within

theorem State.restEdge_within {r p inp} :
    Within (allBut [.published, .now, .answer, .caps, .history, .tiles, .frame, .bus, .path, .est, .nvm, .ports, .hab, .oasis]) s
    (State.restEdge s r p inp) := by
  unfold State.restEdge
  exact (State.keepLoop_within.sub.next State.cfStep_within).next State.modPhase_within

theorem State.cycleEdge_within {p inp} :
    Within (allBut [.published, .now, .answer, .caps, .history, .tiles, .frame, .bus, .path, .est, .nvm, .ports, .hab, .oasis]) s
    (State.cycleEdge s p inp) := by
  unfold State.cycleEdge
  extract_lets s11 s12 x13 s14 s15 s16
  refine .have_ (t := s11) State.takeReadings_within.sub fun h11 => ?_
  refine .have_ (t := s12) (h11.next State.modPhase_within) fun h12 => ?_
  refine .have_ (t := s14) (Within.ite (h12.next State.lastCycle_within) h12) fun h14 => ?_
  refine .have_ (t := s15) (h14.next State.takeNext_within) fun h15 => ?_
  refine .have_ (t := s16) (by
      unfold s16
      split
      · exact h15.next State.activeEdge_within
      · exact h15.next State.restEdge_within
      · exact h15.next State.restEdge_within
      · exact h15) fun h16 => ?_
  exact Within.ite ((h12.next State.lastCycle_within).next State.tileIsolates_within) (Within.ite (h16.next State.modPhase_within) h16)

theorem State.frameInternal_within {edge} :
    Within (parts [.objs, .frame, .cfg, .events, .wakeSource, .wakeEnable, .fsRetryCount, .fsRetryAt, .fsCause, .resetCause, .tbSource,
    .bootResult, .sealStage, .faultShown, .seqFault, .habState]) s (State.frameInternal s edge) := by
  unfold State.frameInternal
  extract_lets s11 x12
  refine .have_ (t := s11) State.settlePulse_within.sub fun h11 => ?_
  exact Within.ite (h11.next Within.set_frame) (h11.next Within.set_frame)

theorem State.syncEdge_within {ns} :
    Within (parts [.objs, .frame, .cfg, .events, .wakeSource, .wakeEnable, .fsRetryCount, .fsRetryAt, .fsCause, .resetCause, .tbSource,
    .bootResult, .sealStage, .faultShown, .seqFault, .habState]) s (State.syncEdge s ns) := by
  unfold State.syncEdge
  exact Within.ite (Within.ite (Within.set_frame.sub.next State.settlePulse_within)
    (Within.ite (Within.set_frame.sub.next State.settlePulse_within) Within.set_frame.sub)) State.frameInternal_within.sub

theorem State.tamper_within : Within (allBut [.answer]) s (State.tamper s) := by
  unfold State.tamper
  exact Within.ite Within.refl (by
    extract_lets s11
    refine .have_ (t := s11) (Within.ite Within.refl State.put_within.sub) fun h11 => ?_
    split
    · rename_i u2 x21 e2
      refine .have_ (t := u2) (.of_fst ((h11.next State.modOasis_within).next State.addSat_within) e2) fun h2 => ?_
      extract_lets s31 s32
      refine .have_ (t := s31) (Within.ite (h2.next State.put_within) h2) fun h31 => ?_
      refine .have_ (t := s32) (h31.next State.raiseLater_within) fun h32 => ?_
      exact (Within.ite (h32.next State.raiseLater_within) h32).next State.wake_within)

theorem State.sendMap_within {m} : Within (parts [.objs, .mram, .freeIdx, .deferred, .afterBoot, .ops, .ints, .met, .net, .hab, .habState])
    s (State.sendMap s m) := by
  unfold State.sendMap
  exact State.modNet_within.sub.next State.netSend_within

theorem State.telemetry_within : Within (parts [.objs, .mram, .freeIdx, .deferred, .afterBoot, .ops, .ints, .met, .net, .hab, .habState]) s
    (State.telemetry s) := by
  unfold State.telemetry
  exact State.netBegin_within.sub.foldl fun _ _ => Within.ite State.sendMap_within.sub Within.refl

theorem State.tempTrip_within {t kind index} :
    Within (allBut [.published, .now, .answer, .caps, .history, .tiles, .frame, .bus, .path, .est, .nvm, .ports, .links, .hab, .oasis]) s
    (State.tempTrip s t kind index) := by
  unfold State.tempTrip
  exact Within.ite State.railFault_within.sub
    (Within.ite (((State.idleFault_within.sub.next State.chargerStop_within).next Within.set_therm).next State.raiseSir_within) Within.refl)

theorem State.decideTrip_within {trips} :
    Within (allBut [.published, .now, .answer, .caps, .history, .tiles, .frame, .bus, .path, .est, .nvm, .ports, .links, .hab, .oasis]) s
    (State.decideTrip s trips) := by
  unfold State.decideTrip
  exact Within.ite Within.refl (by
    split
    · exact State.tempTrip_within.sub
    · exact Within.refl)

theorem State.guardSample_within {reading} : Within (allBut [.answer, .oasis]) s (State.guardSample s reading) := by
  unfold State.guardSample
  exact Within.ite (by
    extract_lets x11 x12 s13 s14 s15 x16
    refine .have_ (t := s13) Within.set_therm.sub fun h13 => ?_
    refine .have_ (t := s14) (h13.foldl fun _ _ => State.auxOpen_within.sub.next State.modAux_within) fun h14 => ?_
    refine .have_ (t := s15) (h14.next State.setVpre_within) fun h15 => ?_
    exact Within.ite h13 ((h15.next Within.set_therm).next State.wake_within)) Within.refl

theorem State.vbatCutoff_within {v} :
    Within (allBut [.published, .now, .answer, .caps, .tiles, .frame, .bus, .nvm, .ports, .links, .hab, .oasis]) s
    (State.vbatCutoff s v) := by
  unfold State.vbatCutoff
  exact Within.ite ((State.put_within.sub.next State.modPath_within).next State.batUnusable_within) Within.refl

theorem State.loseSupply_within : Within (parts [.objs, .modes, .auxs, .seq, .path]) s (State.loseSupply s) := by
  unfold State.loseSupply
  exact ((State.modModes_within.sub.next State.modPath_within).next State.keeperRest_within).next State.refreshAux_within

theorem State.vhkDown_within : Within (parts [.objs, .modes, .auxs, .seq, .sup, .path]) s (State.vhkDown s) := by
  unfold State.vhkDown
  split
  · exact State.loseSupply_within.sub
  · exact State.modSup_within.sub.next State.loseSupply_within
  · exact (State.modModes_within.sub.next State.modPath_within).next State.keeperRest_within
  · exact State.modModes_within.sub.next State.keeperRest_within
  · exact Within.refl

theorem State.vhkUp_within : Within (allBut [.answer, .oasis]) s (State.vhkUp s) := by
  unfold State.vhkUp
  split
  · extract_lets x11 s12
    refine .have_ (t := s12) Within.set_seq.sub fun h12 => ?_
    exact Within.ite (h12.next State.modModes_within) (h12.next State.leaveReset_within)
  · exact Within.ite Within.refl (Within.set_seq.sub.next State.leaveReset_within)
  · exact Within.refl

theorem State.vinGone_within : Within (allBut [.published, .now, .answer, .caps, .tiles, .frame, .bus, .nvm, .ports, .links, .hab, .oasis])
    s (State.vinGone s) := by
  unfold State.vinGone
  exact Within.ite Within.refl (((State.modModes_within.sub.next State.modPath_within).next State.pathEval_within).next
    State.supplyLevels_within)

theorem State.chargerHalt_within : Within (parts [.chg]) s (State.chargerHalt s) := by
  unfold State.chargerHalt
  exact Within.ite State.modChg_within.sub Within.refl

theorem State.vinTrip_within {high} :
    Within (allBut [.published, .now, .answer, .caps, .tiles, .frame, .bus, .nvm, .ports, .links, .hab, .oasis]) s
    (State.vinTrip s high) := by
  unfold State.vinTrip
  exact Within.ite Within.refl (by
    extract_lets x11 s12 s13 s14 s15 s16
    refine .have_ (t := s12) State.modPath_within.sub fun h12 => ?_
    refine .have_ (t := s13) ((h12.next (State.puts_keys (keys := [K.PP_LOSS_REASON, K.PP_HANDOVER_AT]) rfl)).next State.modPath_within)
      fun h13 => ?_
    refine .have_ (t := s14) (h13.next State.chargerHalt_within) fun h14 => ?_
    refine .have_ (t := s15) (Within.ite (h14.next State.bump_within) h14) fun h15 => ?_
    refine .have_ (t := s16) (by
        unfold s16
        split
        · exact h15.next State.pathTo_within
        · exact ((h15.next State.pathTo_within).next State.bump_within).next State.raiseLater_within
        · exact (h15.next State.abortRest_within).next State.handOver_within
        · exact h15.next State.pathEval_within) fun h16 => ?_
    exact Within.ite h12 (((h16.next State.endPending_within).next State.chargerEval_within).next State.batUnusable_within))

theorem State.setInfet_within {above} : Within (parts [.path]) s (State.setInfet s above) := by
  unfold State.setInfet
  exact State.modPath_within.sub

theorem State.vinInService_within {above} : Within (parts [.modes, .path]) s (State.vinInService s above) := by
  unfold State.vinInService
  exact Within.ite Within.refl ((State.modPath_within.sub.next State.modModes_within).next State.setInfet_within)

theorem State.vinQualified_within : Within (allBut [.answer, .oasis]) s (State.vinQualified s) := by
  unfold State.vinQualified
  exact Within.ite Within.refl (by
    extract_lets x11 s12 s13 s14 s15
    refine .have_ (t := s12) State.modPath_within.sub fun h12 => ?_
    refine .have_ (t := s13) ((h12.next State.unblockVin_within).next State.raiseLater_within) fun h13 => ?_
    refine .have_ (t := s14) (by
        unfold s14
        split
        · exact (h13.next State.pathTo_within).next State.modPath_within
        · exact h13.next State.pathTo_within
        · exact h13) fun h14 => ?_
    refine .have_ (t := s15) ((h14.next State.cyclePending_within).next State.chargerEval_within) fun h15 => ?_
    exact Within.ite (h15.next State.fsClearEvent_within) h15)

theorem State.windowEnter_within : Within (parts [.path, .est]) s (State.windowEnter s) := by
  unfold State.windowEnter
  exact Within.ite Within.refl (by
    extract_lets s11
    refine .have_ (t := s11) State.modPath_within.sub fun h11 => ?_
    exact Within.ite (h11.next State.pathTo_within) h11)

theorem State.windowExit_within : Within (parts [.objs, .deferred, .afterBoot, .ints, .path, .est, .net]) s (State.windowExit s) := by
  unfold State.windowExit
  exact Within.ite Within.refl (by
    extract_lets s11 s12
    refine .have_ (t := s11) State.modPath_within.sub fun h11 => ?_
    refine .have_ (t := s12) (Within.ite h11 (h11.next State.bump_within)) fun h12 => ?_
    exact Within.ite h11 (Within.ite (h12.next State.pathTo_within) h12))

end Sys2Proof.Machine
end

section
set_option Elab.async false

namespace Sys2Proof.Machine

variable {s t u : State}

/-! ### One part that stays -/

variable {F : Parts}

theorem Within.modes (h : Within F s t) (hF : F.testBit Part.modes.ctorIdx = false := by rfl) : t.modes = s.modes := h.same .modes hF

theorem Within.rails (h : Within F s t) (hF : F.testBit Part.rails.ctorIdx = false := by rfl) : t.rails = s.rails := h.same .rails hF

theorem Within.mram (h : Within F s t) (hF : F.testBit Part.mram.ctorIdx = false := by rfl) : t.mram = s.mram := h.same .mram hF

theorem Within.auxs (h : Within F s t) (hF : F.testBit Part.auxs.ctorIdx = false := by rfl) : t.auxs = s.auxs := h.same .auxs hF

theorem Within.path (h : Within F s t) (hF : F.testBit Part.path.ctorIdx = false := by rfl) : t.path = s.path := h.same .path hF

theorem Within.sup (h : Within F s t) (hF : F.testBit Part.sup.ctorIdx = false := by rfl) : t.sup = s.sup := h.same .sup hF

theorem Within.oasis (h : Within F s t) (hF : F.testBit Part.oasis.ctorIdx = false := by rfl) : t.oasis = s.oasis := h.same .oasis hF

theorem Within.therm (h : Within F s t) (hF : F.testBit Part.therm.ctorIdx = false := by rfl) : t.therm = s.therm := h.same .therm hF

theorem Within.seq (h : Within F s t) (hF : F.testBit Part.seq.ctorIdx = false := by rfl) : t.seq = s.seq := h.same .seq hF

theorem Within.met (h : Within F s t) (hF : F.testBit Part.met.ctorIdx = false := by rfl) : t.met = s.met := h.same .met hF

theorem Within.links (h : Within F s t) (hF : F.testBit Part.links.ctorIdx = false := by rfl) : t.links = s.links := h.same .links hF

theorem Within.sec (h : Within F s t) (hF : F.testBit Part.sec.ctorIdx = false := by rfl) : t.sec = s.sec := h.same .sec hF

theorem Within.nvm (h : Within F s t) (hF : F.testBit Part.nvm.ctorIdx = false := by rfl) : t.nvm = s.nvm := h.same .nvm hF

theorem Within.chg (h : Within F s t) (hF : F.testBit Part.chg.ctorIdx = false := by rfl) : t.chg = s.chg := h.same .chg hF

theorem Within.mir (h : Within F s t) (hF : F.testBit Part.mir.ctorIdx = false := by rfl) : t.mir = s.mir := h.same .mir hF

theorem Within.phases (h : Within F s t) (hF : F.testBit Part.phases.ctorIdx = false := by rfl) : t.phases = s.phases := h.same .phases hF

theorem Within.caps (h : Within F s t) (hF : F.testBit Part.caps.ctorIdx = false := by rfl) : t.caps = s.caps := h.same .caps hF

theorem Within.cfg (h : Within F s t) (hF : F.testBit Part.cfg.ctorIdx = false := by rfl) : t.cfg = s.cfg := h.same .cfg hF

theorem Within.now (h : Within F s t) (hF : F.testBit Part.now.ctorIdx = false := by rfl) : t.now = s.now := h.same .now hF

theorem Within.hab (h : Within F s t) (hF : F.testBit Part.hab.ctorIdx = false := by rfl) : t.hab = s.hab := h.same .hab hF

theorem Within.deferred (h : Within F s t) (hF : F.testBit Part.deferred.ctorIdx = false := by rfl) : t.deferred = s.deferred :=
    h.same .deferred hF

theorem Within.otp (h : Within F s t) (hF : F.testBit Part.otp.ctorIdx = false := by rfl) : t.otp = s.otp := h.same .otp hF

theorem Within.tiles (h : Within F s t) (hF : F.testBit Part.tiles.ctorIdx = false := by rfl) : t.tiles = s.tiles := h.same .tiles hF

theorem Within.est (h : Within F s t) (hF : F.testBit Part.est.ctorIdx = false := by rfl) : t.est = s.est := h.same .est hF

theorem Within.ops (h : Within F s t) (hF : F.testBit Part.ops.ctorIdx = false := by rfl) : t.ops = s.ops := h.same .ops hF

theorem Within.ports (h : Within F s t) (hF : F.testBit Part.ports.ctorIdx = false := by rfl) : t.ports = s.ports := h.same .ports hF

theorem Within.wakeSource (h : Within F s t) (hF : F.testBit Part.wakeSource.ctorIdx = false := by rfl) :
    t.get K.WAKE_SOURCE = s.get K.WAKE_SOURCE :=
  h.same .wakeSource hF _ List.mem_cons_self

theorem Within.wakeEnable (h : Within F s t) (hF : F.testBit Part.wakeEnable.ctorIdx = false := by rfl) :
    t.get K.WAKE_ENABLE = s.get K.WAKE_ENABLE :=
  h.same .wakeEnable hF _ List.mem_cons_self

theorem Within.fsRetryCount (h : Within F s t) (hF : F.testBit Part.fsRetryCount.ctorIdx = false := by rfl) :
    t.get K.FS_RETRY_COUNT = s.get K.FS_RETRY_COUNT :=
  h.same .fsRetryCount hF _ List.mem_cons_self

theorem Within.fsRetryAt (h : Within F s t) (hF : F.testBit Part.fsRetryAt.ctorIdx = false := by rfl) :
    t.get K.FS_RETRY_AT = s.get K.FS_RETRY_AT :=
  h.same .fsRetryAt hF _ List.mem_cons_self

theorem Within.fsCause (h : Within F s t) (hF : F.testBit Part.fsCause.ctorIdx = false := by rfl) : t.get K.FS_CAUSE = s.get K.FS_CAUSE :=
  h.same .fsCause hF _ List.mem_cons_self

theorem Within.resetCause (h : Within F s t) (hF : F.testBit Part.resetCause.ctorIdx = false := by rfl) :
    t.get K.RESET_CAUSE = s.get K.RESET_CAUSE :=
  h.same .resetCause hF _ List.mem_cons_self

theorem Within.tbSource (h : Within F s t) (hF : F.testBit Part.tbSource.ctorIdx = false := by rfl) :
    t.get K.TB_SOURCE = s.get K.TB_SOURCE :=
  h.same .tbSource hF _ List.mem_cons_self

theorem Within.bootResult (h : Within F s t) (hF : F.testBit Part.bootResult.ctorIdx = false := by rfl) :
    t.get K.BOOT_RESULT = s.get K.BOOT_RESULT :=
  h.same .bootResult hF _ List.mem_cons_self

theorem Within.sealStage (h : Within F s t) (hF : F.testBit Part.sealStage.ctorIdx = false := by rfl) :
    t.get K.SUP_SEAL_STAGE = s.get K.SUP_SEAL_STAGE :=
  h.same .sealStage hF _ List.mem_cons_self

theorem Within.habState (h : Within F s t) (hF : F.testBit Part.habState.ctorIdx = false := by rfl) :
    t.get K.HAB_STATE = s.get K.HAB_STATE :=
  h.same .habState hF _ List.mem_cons_self

/-- A bit of an event object of the modes, the power path or the sequencer stays. -/
theorem Within.shows {e : EventObj} {k : Nat} (h : Within F s t) (hs : s.Shows e k) (he : e.key ∈ Part.events.keys := by decide)
    (hF : F.testBit Part.events.ctorIdx = false := by rfl) : t.Shows e k := h.same .events hF _ he _ hs

/-! ### What a change of mode does -/

/-- A Haboob run is armed or not by one object. -/
theorem Within.habArmed (h : Within F s t) (hF : F.testBit Part.habState.ctorIdx = false := by rfl) : t.habArmed = s.habArmed := by
  unfold State.habArmed
  rw [h.habState hF]

theorem State.habCheck_of_not_armed (h : s.habArmed = false) : s.habCheck = s := by
  simp [State.habCheck, State.habEnd, h]

/-- Nothing of the modes' record but the mode changes. -/
@[simp] theorem State.setMode_modes {m : Mode} {why : Reason} : (s.setMode m why).modes = { s.modes with mode := m } := by
  unfold State.setMode
  split
  · rename_i h; subst h; rfl
  · extract_lets u
    have hu : u.modes = s.modes := (State.addHistory_within.sub.next State.closeWindow_within : Within (allBut [.modes]) s u).modes
    rw [State.raise_modes, State.habCheck_within.modes]
    show { u.modes with mode := m } = { s.modes with mode := m }
    rw [hu]

/-- Without an armed Haboob run nothing of MRAM changes. -/
theorem State.setMode_mram {m : Mode} {why : Reason} (h : s.habArmed = false) : (s.setMode m why).mram = s.mram := by
  unfold State.setMode
  split
  · rfl
  · extract_lets u
    have hu : Within (allBut [.mram, .habState]) s u := State.addHistory_within.sub.next State.closeWindow_within
    have hv : Within (allBut [.mram, .habState]) s ((u.modModes fun x => { x with mode := m }).put K.MODE_ENTERED_AT u.now) :=
      (hu.next State.modModes_within).next State.put_within
    rw [State.raise_mram, State.habCheck_of_not_armed (hv.habArmed.trans h)]
    exact hv.mram

/-! ### The AUX outputs -/

/-- What the turn of one element of a list does, and what every other turn keeps, holds after the whole list. -/
theorem foldl_reaches {α : Type} {f : State → α → State} {l : List α} {a : α} {I Q : State → Prop} (ha : a ∈ l) (h0 : I s)
    (hI : ∀ u x, I u → I (f u x)) (ht : ∀ u, I u → Q (f u a)) (hk : ∀ u x, I u → Q u → Q (f u x)) : Q (l.foldl f s) := by
  have hq : ∀ (l : List α) (u : State), I u → Q u → Q (l.foldl f u) := fun l u hi hu =>
    (foldl_keeps (P := fun v => I v ∧ Q v) ⟨hi, hu⟩ fun v x hv => ⟨hI v x hv.1, hk v x hv.1 hv.2⟩).2
  induction l generalizing s with
  | nil => cases ha
  | cons b l ih =>
    rcases List.mem_cons.1 ha with rfl | ha
    · exact hq l _ (hI s a h0) (ht s h0)
    · exact ih ha (hI s b h0)

theorem State.auxOpen_st {j k : Fin 4} (h : j = k ∨ (s.aux j).st = .off) : ((s.auxOpen k).aux j).st = .off := by
  unfold State.auxOpen
  rw [State.aux, State.puts_auxs]
  change ((s.modAux k _).aux j).st = .off
  by_cases hj : j = k
  · subst hj; simp
  · rw [State.aux_modAux_ne s hj]
    exact h.resolve_left hj

/-- In a mode that supplies no AUX output every one is off. -/
theorem State.refreshAux_off (h : ∀ u : State, u.modes = s.modes → ∀ k, u.auxWanted k = false) (k : Fin 4) :
    (s.refreshAux.aux k).st = .off := by
  unfold State.refreshAux
  set u := List.foldl _ _ _
  have hu : (u.aux k).st = .off := by
    have turn : ∀ (v : State) (j : Fin 4), v.modes = s.modes → (if v.auxWanted j && !decide ((v.aux j).st ≠ .off) then v.auxRamp j
        else if !v.auxWanted j && decide ((v.aux j).st ≠ .off) then v.auxOpen j else v) = if (v.aux j).st = .off then v else v.auxOpen
          j := by
      intro v j hv
      simp [h v hv j]
    refine foldl_reaches (I := fun v => v.modes = s.modes) (Q := fun v => (v.aux k).st = .off) (List.mem_finRange k) rfl ?_ ?_ ?_
    · intro v j hv
      rw [turn v j hv]
      split
      · exact hv
      · exact State.auxOpen_within.modes.trans hv
    · intro v hv
      rw [turn v k hv]
      split
      · assumption
      · exact State.auxOpen_st (.inl rfl)
    · intro v j hv hk
      rw [turn v j hv]
      split
      · exact hk
      · exact State.auxOpen_st (.inr hk)
  rw [State.aux, State.setVpre_within.auxs]
  exact hu

/-! ### The estimator's records in MRAM (R264) -/

theorem State.estWrite_mramByte {k a : Nat} {body : Bytes} (hk : k ≤ 12) (hb : body.length ≤ 48) (ha : a < 0x19C000 ∨ 0x19C680 ≤ a) :
    (s.estWrite k body).mramByte a = s.mramByte a := by
  unfold State.estWrite
  extract_lets b q bs
  have hs : b ≤ 1 := by
    unfold b
    split
    · exact Nat.sub_le 1 _
    · exact Nat.zero_le 1
  clear_value b q
  refine State.mramByte_writeMram_ne s ?_
  simp only [bs, List.length_append, List.length_cons, List.length_nil, toLE_length, estAddr]
  omega

theorem State.coreBody_length : s.coreBody.length ≤ 48 := by
  unfold State.coreBody
  extract_lets learned battery now
  have h1 : learned.length = 24 := by simp [learned]
  have h2 : battery.length = 16 := by simp [battery]
  have h3 : now.length = 8 := toLE_length ..
  have h4 : ∀ n (bs : Bytes), (bs.take n).length ≤ n := fun n bs => List.length_take_le n bs
  split
  · simp [h1, h2, h3]
  · extract_lets bs
    have h5 := h4 24 (bs.drop 12)
    have h6 := h4 16 (bs.drop 44)
    split <;> simp only [List.length_append] <;> omega

theorem State.impRowBytes_length {r : Nat} : (s.impRowBytes r).length ≤ 48 := by
  simp [State.impRowBytes, List.length_flatMap]

theorem foldl_keeps_mem {α β : Type} {P : β → Prop} {f : β → α → β} {l : List α} {b : β} (h0 : P b)
    (h : ∀ b, ∀ a ∈ l, P b → P (f b a)) : P (l.foldl f b) := by
  induction l generalizing b with
  | nil => exact h0
  | cons a l ih => exact ih (h b a List.mem_cons_self h0) fun b a ha => h b a (List.mem_cons_of_mem _ ha)

/-- What is saved for a rest lies in the estimator's slots. -/
theorem State.saveForRest_mramByte {a : Nat} (ha : a < 0x19C000 ∨ 0x19C680 ≤ a) : s.saveForRest.mramByte a = s.mramByte a := by
  unfold State.saveForRest State.coreWrite State.estFlush
  split
  · rfl
  · extract_lets u v
    have hu : u.mramByte a = s.mramByte a := by
      unfold u
      split
      · exact State.estWrite_mramByte (by omega) State.coreBody_length ha
      · rfl
    refine foldl_keeps_mem (P := fun v => State.mramByte v a = s.mramByte a) hu fun v r hr hv => ?_
    split
    · exact (State.estWrite_mramByte (by have := List.mem_range.1 hr; omega) State.impRowBytes_length ha).trans hv
    · exact hv

end Sys2Proof.Machine
end

section
set_option Elab.async false

namespace Sys2Proof.Machine

variable {s t u : State}

/-! ### `MODE_REQUEST` (R49) -/

theorem State.auxWanted_vault {k : Fin 4} (h : s.modes.mode = .vault ∨ s.modes.mode = .ship ∨ s.modes.mode = .failsafe) :
    s.auxWanted k = false := by
  rcases h with h | h | h <;> simp [State.auxWanted, State.auxMode, h]

theorem State.enterVault_modes :
    s.enterVault.modes = { s.modes with vaultLatch := true, heldReset := true, shipArmed := false, riding := false, mode := .vault } := by
  have hc : s.chargerStop.modes = s.modes := State.chargerStop_within.modes
  unfold State.enterVault
  rw [State.refreshAux_within.modes, State.keeperRest_within.modes, State.setMode_modes]
  show ({ s.chargerStop.modes with vaultLatch := true, heldReset := true, shipArmed := false, riding := false, mode := .vault } :
    ModeSt) = _
  rw [hc]

theorem State.enterVault_aux (k : Fin 4) : (s.enterVault.aux k).st = .off := by
  unfold State.enterVault
  refine State.refreshAux_off (fun u hu k => State.auxWanted_vault (.inl ?_)) k
  rw [hu, State.keeperRest_within.modes, State.setMode_modes]

theorem State.enterVault_wakeCopy : s.enterVault.oasis.wakeCopy = s.getN K.WAKE_ENABLE := by
  unfold State.enterVault
  rw [State.refreshAux_within.oasis, State.keeperRest_within.oasis, State.setMode_within.oasis]
  rfl

/-- Without an armed Haboob run VAULT leaves MRAM as it is. -/
theorem State.enterVault_mram (h : s.habArmed = false) : s.enterVault.mram = s.mram := by
  unfold State.enterVault
  rw [State.refreshAux_within.mram, State.keeperRest_within.mram]
  have hv {f g} : Within (parts [.objs, .ints, .chg, .net, .oasis, .modes]) s ((s.chargerStop.modOasis f).modModes g) :=
    (State.chargerStop_within.sub.next State.modOasis_within).next State.modModes_within
  rw [State.setMode_mram (hv.habArmed.trans h), hv.mram]

/-- VAULT is entered. -/
theorem State.enterVault_holds :
    s.enterVault.modes = { s.modes with vaultLatch := true, heldReset := true, shipArmed := false, riding := false, mode := .vault } ∧
    (∀ k, (s.enterVault.aux k).st = .off) ∧ s.enterVault.oasis.wakeCopy = s.getN K.WAKE_ENABLE ∧ s.enterVault.rails = s.rails ∧
    (s.habArmed = false → s.enterVault.mram = s.mram) :=
  ⟨State.enterVault_modes, State.enterVault_aux, State.enterVault_wakeCopy, State.enterVault_within.rails, State.enterVault_mram⟩

theorem State.enterShip_modes :
    s.enterShip.modes = { s.modes with shipLatch := true, shipArmed := false, riding := false, mode := .ship } := by
  have hc : s.chargerStop.modes = s.modes := State.chargerStop_within.modes
  unfold State.enterShip
  rw [State.refreshAux_within.modes, State.keeperRest_within.modes, State.setMode_modes]
  show ({ s.chargerStop.modes with shipLatch := true, shipArmed := false, riding := false, mode := .ship } : ModeSt) = _
  rw [hc]

theorem State.enterShip_mram (h : s.habArmed = false) : s.enterShip.mram = s.mram := by
  unfold State.enterShip
  have hv {f} : Within (parts [.objs, .ints, .chg, .net, .modes]) s (s.chargerStop.modModes f) :=
    State.chargerStop_within.sub.next State.modModes_within
  rw [State.refreshAux_within.mram, State.keeperRest_within.mram, State.setMode_mram (hv.habArmed.trans h), hv.mram]

theorem State.enterShip_batfet : s.enterShip.batfetClosed = false := by
  unfold State.batfetClosed
  rw [State.enterShip_modes]
  rfl

/-- SHIP is entered. -/
theorem State.enterShip_holds :
    s.enterShip.modes = { s.modes with shipLatch := true, shipArmed := false, riding := false, mode := .ship } ∧
    s.enterShip.batfetClosed = false ∧ s.enterShip.rails = s.rails ∧ (s.habArmed = false → s.enterShip.mram = s.mram) :=
  ⟨State.enterShip_modes, State.enterShip_batfet, State.enterShip_within.rails, State.enterShip_mram⟩

/-- The checks of R49 that a request for VAULT, SHIP, DORMANT or SERVICE passes. -/
theorem State.writeModeRequest_of_free {acc : Accessor} {d : ObjDef} {v woken : Nat} {beaten : Bool}
    (hr : s.reachWrite acc K.MODE_REQUEST 1 = .ok d)
    (hv : v = 1 ∨ v = 2 ∨ v = 3) (hi : s.idleCond = true) (ho : s.sessionOpen = false) (ha : s.anyRunning = false)
      (hl : s.modes.serviceLeaving = false) :
    s.writeModeRequest acc v woken beaten = .ok (s.modeRequest v woken beaten, .done) := by
  rcases hv with rfl | rfl | rfl <;> simp [State.writeModeRequest, hr, hi, ho, ha, hl]

theorem State.writeModeRequest_service_of_free {acc : Accessor} {d : ObjDef} {woken : Nat} {beaten : Bool}
    (hr : s.reachWrite acc K.MODE_REQUEST 1 = .ok d) (hm : s.idleCond = true ∨ s.modes.mode = .failsafe) (ho : s.sessionOpen = false)
    (ha : s.anyRunning = false) (hl : s.modes.serviceLeaving = false) (hu : s.installerUp acc = true) (hs : s.serviceAllowed = true) :
    s.writeModeRequest acc 12 woken beaten = .ok (s.modeRequest 12 woken beaten, .done) := by
  rcases hm with hm | hm <;> simp [State.writeModeRequest, hr, hm, ho, ha, hl, hu, hs]

theorem State.wakeHits_congr {v woken : Nat} (h : t.get K.WAKE_ENABLE = s.get K.WAKE_ENABLE) (hc : t.caps = s.caps) :
    t.wakeHits v woken = s.wakeHits v woken := by
  unfold State.wakeHits State.getN State.hasPort
  rw [h, hc]

theorem State.abandonEntry_get {hit : Nat} {why : Reason} : (s.abandonEntry hit why).get K.WAKE_SOURCE = hit := by
  unfold State.abandonEntry
  rw [State.raise_within.wakeSource, State.addHistory_get, State.get_put_self]

theorem State.abandonEntry_shows {hit : Nat} {why : Reason} : (s.abandonEntry hit why).Shows Ev.mode 4 :=
  State.raise_bit _ Ev.mode 4 rfl (by decide)

/-! ### DORMANT (R47, R419, R464) -/

theorem State.leaveService_of_ne (h : s.modes.mode ≠ .service) : s.leaveService = s := by simp [State.leaveService, h]

theorem State.setLevel_level {l : DbgLevel} : (s.setLevel l).sec.level = l := by
  unfold State.setLevel
  split
  · assumption
  · extract_lets u
    have hu : u.sec.level = l := by
      have : u.sec = (s.modSec fun x => { x with level := l }).sec :=
        (State.raiseLater_within.sub.next State.habCheck_within : Within (allBut [.sec]) (s.modSec fun x => { x with level := l }) u).sec
      rw [this]; rfl
    split
    · exact hu
    · rw [State.leaveService_within.sec]; exact hu

/-- A change of the debug level moves rails in SERVICE alone. -/
theorem State.setLevel_rails {l : DbgLevel} (h : s.modes.mode ≠ .service) : (s.setLevel l).rails = s.rails := by
  unfold State.setLevel
  split
  · rfl
  · extract_lets u
    have hu : Within (allBut [.modes, .rails]) s u := (State.modSec_within.sub.next State.raiseLater_within).next State.habCheck_within
    split
    · exact hu.rails
    · rw [State.leaveService_of_ne (by rwa [hu.modes]), hu.rails]

/-- The end of the OTP window takes nothing of the security record but a transition that waits. -/
theorem State.closeWindow_sec {α : Type} (g : SecSt → α) (h : ∀ x tr, g { x with transition := tr } = g x) :
    g s.closeWindow.sec = g s.sec := by
  have ht : ∀ u : State, g u.loseTransition.sec = g u.sec := by
    intro u
    unfold State.loseTransition
    split
    · rw [State.finish_within.sec, State.put_sec, State.partField_within.sec]
      exact h ..
    · rfl
  unfold State.closeWindow
  split
  · rw [State.raise_sec, ht, State.loseBurn_within.sec]
    rfl
  · rfl

theorem State.setMode_sec {α : Type} (g : SecSt → α) (h : ∀ x tr, g { x with transition := tr } = g x) {m : Mode} {why : Reason} :
    g (s.setMode m why).sec = g s.sec := by
  unfold State.setMode
  split
  · rfl
  · rw [State.raise_sec, State.habCheck_within.sec, State.put_sec, State.modModes_sec, State.closeWindow_sec g h, State.addHistory_sec]

theorem LinkSt.powerOff_st (l : LinkSt) : l.powerOff.st = .off ∨ l.powerOff.st = .fenced := by
  unfold LinkSt.powerOff
  split
  · exact .inr rfl
  · exact .inl rfl

theorem State.foldl_powerOff_link (n : Fin 8)
    (h : t = (List.finRange 8).foldl (fun (s : State) (k : Fin 8) => s.modLink k LinkSt.powerOff) s) :
    (t.link n).st = .off ∨ (t.link n).st = .fenced := by
  subst h
  refine foldl_reaches (I := fun _ => True) (Q := fun u => (u.link n).st = .off ∨ (u.link n).st = .fenced) (List.mem_finRange n) trivial
    (fun _ _ _ => trivial) (fun u _ => ?_) fun u k _ hu => ?_
  · rw [State.link_modLink_self]
    exact LinkSt.powerOff_st _
  · by_cases hk : n = k
    · subst hk
      rw [State.link_modLink_self]
      exact LinkSt.powerOff_st _
    · rw [State.link_modLink_ne u hk]
      exact hu

theorem State.endUnlocks_all : (s.endUnlocks fun _ => true).nvm.unlocks = [] := by simp [State.endUnlocks, State.modNvm]

/-- DORMANT is entered: the wake enables are copied, the debug level and the unlocks are gone, the links are without power, and the
rails stay. -/
theorem State.enterDormant_holds (h : s.modes.mode ≠ .service) : s.enterDormant.modes.mode = .dormant ∧
    s.enterDormant.oasis.wakeCopy = s.getN K.WAKE_ENABLE ∧ s.enterDormant.sec.level = .none ∧ s.enterDormant.nvm.unlocks = [] ∧
    (∀ n, (s.enterDormant.link n).st = .off ∨ (s.enterDormant.link n).st = .fenced) ∧ s.enterDormant.rails = s.rails := by
  unfold State.enterDormant
  lift_lets
  extract_lets u v w x m l kept th
  have hu : Within (allBut [.modes, .rails]) s u := (State.abortRest_within.sub.next State.chargerStop_within).next State.modOasis_within
  have hv : Within (allBut [.modes, .rails, .oasis]) u v := (((State.quenchDma_within.sub.next State.dropBlocks_within).next
    State.mirDormant_within).next State.discardStaging_within).next State.endUnlocks_within
  have hw : Within (allBut [.oasis, .nvm]) v w := State.modSec_within.sub.next State.setLevel_within
  have hm : Within (allBut [.oasis, .nvm, .rails]) x m := ((State.setMode_within.sub).next State.keeperRest_within).next
    State.refreshAux_within
  have hl : Within (parts [.links]) m l := .foldl .refl fun _ _ => State.modLink_within.sub
  have mode : l.modes.mode = .dormant := by
    rw [hl.modes, State.refreshAux_within.modes, State.keeperRest_within.modes, State.setMode_modes]
  have copy : l.oasis.wakeCopy = s.getN K.WAKE_ENABLE := by
    rw [hl.oasis, hm.oasis, State.modModes_oasis, hw.oasis, hv.oasis]
    rfl
  have level : l.sec.level = .none := by
    rw [hl.sec, State.refreshAux_within.sec, State.keeperRest_within.sec, State.setMode_sec SecSt.level (fun _ _ => rfl),
      State.modModes_sec]
    unfold w
    rw [State.setLevel_level]
  have unlocks : l.nvm.unlocks = [] := by
    rw [hl.nvm, hm.nvm, State.modModes_nvm, hw.nvm]
    unfold v
    rw [State.endUnlocks_all]
  have rails : l.rails = s.rails := by
    rw [hl.rails, hm.rails, State.modModes_rails, State.setLevel_rails (by rwa [State.modSec_modes, hv.modes, hu.modes]),
      State.modSec_rails,
      hv.rails, hu.rails]
  have link : ∀ n, (l.link n).st = .off ∨ (l.link n).st = .fenced := fun n => State.foldl_powerOff_link n rfl
  clear_value l
  exact ⟨mode, copy, level, unlocks, link, rails⟩

/-! ### SERVICE (R49, R193) -/

/-- SERVICE is entered from a mode that is not FAILSAFE. -/
theorem State.enterService_of_ne (h : s.modes.mode ≠ .failsafe) : s.enterService =
    ((s.modModes fun x => { x with serviceFromFailsafe := false, riding := false }).setMode .service .hostRequest).refreshAux := by
  rw [State.enterService, if_neg h]

theorem State.enterService_holds (h : s.modes.mode ≠ .failsafe) : s.enterService.modes.mode = .service ∧
    s.enterService.modes.serviceFromFailsafe = false ∧ s.enterService.rails = s.rails ∧
      (s.habArmed = false → s.enterService.mram = s.mram) := by
  rw [State.enterService_of_ne h]
  refine ⟨?_, ?_, ?_, fun ha => ?_⟩
  · rw [State.refreshAux_within.modes, State.setMode_modes]
  · rw [State.refreshAux_within.modes, State.setMode_modes]
    rfl
  · rw [State.refreshAux_within.rails, State.setMode_within.rails]
    rfl
  · rw [State.refreshAux_within.mram, State.setMode_mram]
    · rfl
    · exact ha

/-! ### The requests (O7) -/

/-- A command whose meaning is a state computed so far. -/
theorem exec_eq {c : Instr} (e : t = u) (h : exec c s = .next t := by rfl) : exec c s = .next u := e ▸ h

theorem State.mramByte_congr {a : Nat} (h : t.mram = s.mram) : t.mramByte a = s.mramByte a := by
  unfold State.mramByte
  rw [h]

theorem State.mode_of_idleCond (h : s.idleCond = true) : s.modes.mode ≠ .service ∧ s.modes.mode ≠ .failsafe := by
  have hn : State.isNormalMode s.modes.mode = true := by
    unfold State.idleCond at h
    simp only [Bool.and_eq_true] at h
    exact h.1.1
  constructor <;> intro h <;> rw [h] at hn <;> exact absurd hn (by decide)

section Requests

variable {acc : Accessor} {d : ObjDef} (hp : s.portsOpen = true) (hr : s.reachWrite acc K.MODE_REQUEST 1 = .ok d)

/-- The checks of R49 that every request passes: IDLE's condition, no session, no other operation, SERVICE not being left. -/
def State.restFree (s : State) : Prop := s.idleCond = true ∧ s.sessionOpen = false ∧ s.anyRunning = false ∧ s.modes.serviceLeaving = false

include hp in
theorem State.access_request {v woken : Nat} {beaten : Bool} {a : Answer} (h : s.writeModeRequest acc v woken beaten = .ok (t, a)) :
    s.access acc (fun s => s.writeModeRequest acc v woken beaten) = { t with answer := a } := State.access_ok s hp h

include hp in
theorem State.access_request_refused {v woken : Nat} {beaten : Bool} {e : Abort} (h : s.writeModeRequest acc v woken beaten = .error e)
    (he : e ≠ .operationsFull) : s.access acc (fun s => s.writeModeRequest acc v woken beaten) = { s with answer := .abort e } :=
  State.access_error s hp h he

include hp hr in
/-- A request for VAULT, SHIP or DORMANT that R49 lets pass acts. -/
theorem State.access_rest {v woken : Nat} {beaten : Bool} (hv : v = 1 ∨ v = 2 ∨ v = 3) (hf : s.restFree) :
    s.access acc (fun s => s.writeModeRequest acc v woken beaten) = { s.modeRequest v woken beaten with answer := .done } := by
  obtain ⟨hi, ho, ha, hl⟩ := hf
  exact State.access_request hp (State.writeModeRequest_of_free hr hv hi ho ha hl)

theorem State.modeRequest_vault {woken : Nat} (h : s.wakeHits 1 woken = 0) : s.modeRequest 1 woken false = s.saveForRest.enterVault := by
  have hh : s.saveForRest.wakeHits 1 woken = 0 :=
    (State.wakeHits_congr State.saveForRest_within.wakeEnable State.saveForRest_within.caps).trans h
  simp [State.modeRequest, hh]

theorem State.modeRequest_dormant {woken : Nat} (h : s.wakeHits 3 woken = 0) :
    s.modeRequest 3 woken false = s.saveForRest.enterDormant := by
  have hh : s.saveForRest.wakeHits 3 woken = 0 :=
    (State.wakeHits_congr State.saveForRest_within.wakeEnable State.saveForRest_within.caps).trans h
  simp [State.modeRequest, hh]

/-- A wake event recorded first abandons the entry. -/
theorem State.modeRequest_abandoned {v woken : Nat} (hv : v = 1 ∨ v = 3) (h : s.wakeHits v woken ≠ 0) :
    ∃ why, s.modeRequest v woken false = s.saveForRest.abandonEntry (s.wakeHits v woken) why := by
  have hh := State.wakeHits_congr (v := v) (woken := woken) (State.saveForRest_within (s := s)).wakeEnable State.saveForRest_within.caps
  rcases hv with rfl | rfl <;> simp [State.modeRequest, hh, h]

theorem State.modeRequest_beaten {v woken : Nat} (hv : v = 1 ∨ v = 2 ∨ v = 3) : s.modeRequest v woken true = s.saveForRest := by
  rcases hv with rfl | rfl | rfl <;> simp [State.modeRequest]

theorem State.modeRequest_ship (h : s.path.inService = false) : s.modeRequest 2 0 false = s.saveForRest.enterShip := by
  have hh : s.saveForRest.path.inService = false := by rw [State.saveForRest_within.path]; exact h
  simp [State.modeRequest, hh]

theorem State.modeRequest_ship_armed (h : s.path.inService = true) :
    s.modeRequest 2 0 false = (s.saveForRest.modModes fun x => { x with shipArmed := true }).raise Ev.mode 6 := by
  have hh : s.saveForRest.path.inService = true := by rw [State.saveForRest_within.path]; exact h
  simp [State.modeRequest, hh]

include hp hr in
/-- An entry that a wake event abandons leaves modes and rails. -/
theorem State.request_abandoned {v woken : Nat} (hv : v = 1 ∨ v = 3) (hf : s.restFree) (h : s.wakeHits v woken ≠ 0) :
    ∃ t, s.access acc (fun s => s.writeModeRequest acc v woken false) = t ∧ t.answer = .done ∧ t.get K.WAKE_SOURCE = s.wakeHits v woken ∧
      t.modes = s.modes ∧ t.Shows Ev.mode 4 ∧ t.rails = s.rails := by
  obtain ⟨why, hm⟩ := State.modeRequest_abandoned hv h
  rw [State.access_rest hp hr (by omega) hf, hm]
  have hw : Within (allBut [.modes, .rails]) s (s.saveForRest.abandonEntry (s.wakeHits v woken) why) :=
    State.saveForRest_within.sub.next State.abandonEntry_within
  exact ⟨_, rfl, rfl, State.abandonEntry_get, hw.modes, State.abandonEntry_shows, hw.rails⟩

include hp hr in
/-- A request that a rail fault, HRST or supply loss beats saves what it saves and is dropped. -/
theorem State.request_beaten {v woken : Nat} (hv : v = 1 ∨ v = 2 ∨ v = 3) (hf : s.restFree) :
    ∃ t, s.access acc (fun s => s.writeModeRequest acc v woken true) = t ∧ t.answer = .done ∧ t.modes = s.modes ∧ t.rails = s.rails := by
  rw [State.access_rest hp hr hv hf, State.modeRequest_beaten hv]
  exact ⟨_, rfl, rfl, State.saveForRest_within.modes, State.saveForRest_within.rails⟩

end Requests

/-- Settles O7: what each accepted request does follows from the entry of its mode, what R49 forbids from the order of its checks. -/
theorem modeRequestsTakeEffect : Obligations.ModeRequestsTakeEffect := by
  intro acc d s hp hr
  have hsave : Within (parts [.mram, .est, .ledger]) s s.saveForRest := State.saveForRest_within
  refine ⟨fun hi ho ha hl => ?_, ?_, ?_⟩
  · have hf : s.restFree := ⟨hi, ho, ha, hl⟩
    have hm : s.modes.mode ≠ .service ∧ s.modes.mode ≠ .failsafe := State.mode_of_idleCond hi
    refine ⟨fun woken h => ?_, fun woken h => ?_, fun h => ?_, fun h => ?_, fun woken h => ?_, fun woken h => ?_, fun hu hs => ?_,
      fun woken => ?_⟩
    · have e := State.access_rest (woken := woken) (beaten := false) hp hr (.inl rfl) hf
      rw [State.modeRequest_vault h] at e
      obtain ⟨modes, aux, copy, rails, mram⟩ := State.enterVault_holds (s := s.saveForRest)
      generalize s.saveForRest.enterVault = v at e modes aux copy rails mram
      exact ⟨_, exec_eq e, rfl, congrArg ModeSt.mode modes, congrArg ModeSt.vaultLatch modes, congrArg ModeSt.heldReset modes, aux,
        copy.trans (congrArg Int.toNat hsave.wakeEnable), rails.trans hsave.rails, fun hb a hx =>
          (State.mramByte_congr (mram (hsave.habArmed.trans hb))).trans (State.saveForRest_mramByte hx)⟩
    · obtain ⟨t, e, ht⟩ := State.request_abandoned hp hr (.inl rfl) hf h
      exact ⟨t, exec_eq e, ht⟩
    · have e := State.access_rest (woken := 0) (beaten := false) hp hr (.inr (.inl rfl)) hf
      rw [State.modeRequest_ship h] at e
      obtain ⟨modes, batfet, rails, mram⟩ := State.enterShip_holds (s := s.saveForRest)
      generalize s.saveForRest.enterShip = v at e modes batfet rails mram
      exact ⟨_, exec_eq e, rfl, congrArg ModeSt.mode modes, congrArg ModeSt.shipLatch modes, batfet, rails.trans hsave.rails, fun hb a hx =>
          (State.mramByte_congr (mram (hsave.habArmed.trans hb))).trans (State.saveForRest_mramByte hx)⟩
    · have e := State.access_rest (woken := 0) (beaten := false) hp hr (.inr (.inl rfl)) hf
      rw [State.modeRequest_ship_armed h] at e
      refine ⟨_, exec_eq e, rfl, ?_, State.raise_bit _ Ev.mode 6 rfl (by decide), ?_⟩
      · refine (State.raise_modes ..).trans ?_
        rw [State.modModes, hsave.modes]
      · exact (State.raise_rails ..).trans hsave.rails
    · have e := State.access_rest (woken := woken) (beaten := false) hp hr (.inr (.inr rfl)) hf
      rw [State.modeRequest_dormant h] at e
      obtain ⟨mode, copy, level, unlocks, link, rails⟩ := State.enterDormant_holds (s := s.saveForRest) (by rw [hsave.modes]; exact hm.1)
      generalize s.saveForRest.enterDormant = v at e mode copy level unlocks link rails
      exact ⟨_, exec_eq e, rfl, mode, copy.trans (congrArg Int.toNat hsave.wakeEnable), level, unlocks, link, rails.trans hsave.rails⟩
    · obtain ⟨t, e, ht⟩ := State.request_abandoned hp hr (.inr rfl) hf h
      exact ⟨t, exec_eq e, ht⟩
    · have e := State.access_request hp (State.writeModeRequest_service_of_free (woken := 0) (beaten := false) hr (.inl hi) ho ha hl hu hs)
      have hq : s.modeRequest 12 0 false = s.enterService := by simp [State.modeRequest]
      rw [hq] at e
      obtain ⟨mode, from_, rails, mram⟩ := State.enterService_holds hm.2
      generalize s.enterService = v at e mode from_ rails mram
      exact ⟨_, exec_eq e, rfl, mode, from_, rails, mram⟩
    · obtain ⟨t₁, e₁, h₁⟩ := State.request_beaten (woken := woken) hp hr (.inl rfl) hf
      obtain ⟨t₂, e₂, h₂⟩ := State.request_beaten (woken := 0) hp hr (.inr (.inl rfl)) hf
      obtain ⟨t₃, e₃, h₃⟩ := State.request_beaten (woken := woken) hp hr (.inr (.inr rfl)) hf
      exact ⟨⟨t₁, exec_eq e₁, h₁⟩, ⟨t₂, exec_eq e₂, h₂⟩, ⟨t₃, exec_eq e₃, h₃⟩⟩
  · intro hf woken beaten
    have refused (v w : Nat) (b : Bool) (hv : v = 1 ∨ v = 2 ∨ v = 3 ∨ v = 12 ∧ s.modes.mode ≠ .failsafe) :
        s.writeModeRequest acc v w b = .error .modeForbids := by
      rcases hv with rfl | rfl | rfl | ⟨rfl, hm⟩ <;> rcases hf with hf | hf <;> simp [State.writeModeRequest, *]
    have answer (v w : Nat) (b : Bool) (hv : v = 1 ∨ v = 2 ∨ v = 3 ∨ v = 12 ∧ s.modes.mode ≠ .failsafe) :=
      State.access_request_refused hp (refused v w b hv) (by decide)
    exact ⟨exec_eq (answer 1 woken beaten (by simp)), exec_eq (answer 2 0 beaten (by simp)), exec_eq (answer 3 woken beaten (by simp)),
      fun hm => exec_eq (answer 12 0 beaten (by simp [hm]))⟩
  · intro hi ho hb woken beaten
    have refused (v w : Nat) (b : Bool) (hv : v = 1 ∨ v = 2 ∨ v = 3 ∨ v = 12) : s.writeModeRequest acc v w b = .error .busy := by
      have hb : (s.anyRunning || s.modes.serviceLeaving) = true := by simpa using hb
      rcases hv with rfl | rfl | rfl | rfl <;> simp [State.writeModeRequest, hr, hi, ho, hb]
    have answer (v w : Nat) (b : Bool) (hv : v = 1 ∨ v = 2 ∨ v = 3 ∨ v = 12) :=
      State.access_request_refused hp (refused v w b hv) (by decide)
    exact ⟨exec_eq (answer 1 woken beaten (by simp)), exec_eq (answer 2 0 beaten (by simp)), exec_eq (answer 3 woken beaten (by simp)),
      exec_eq (answer 12 0 beaten (by simp))⟩

end Sys2Proof.Machine
end

section
set_option Elab.async false

namespace Sys2Proof.Machine

variable {s t u : State}

/-! ### The power path while VIN is in service -/

theorem State.pathEval_of_inService (h : s.path.inService = true) : s.pathEval = s := by simp [State.pathEval, h]

theorem State.supplyLevels_of_inService (h : s.path.inService = true) : s.supplyLevels = s := by simp [State.supplyLevels, h]

/-! ### The Lanterns are released and IDLE is entered (R53) -/

theorem State.refsDue_keeps {α : Type} (g : ThermSt → α) (h : ∀ x y, g { x with tiles := y } = g x) {keeper : Bool} :
    g (s.refsDue keeper).therm = g s.therm :=
  foldl_keeps (P := fun u : State => g u.therm = g s.therm) rfl fun (u : State) (t : Fin 8) hu => by
    split
    · exact (h ..).trans hu
    · exact hu

theorem State.releaseLanterns_quenchLatch : s.releaseLanterns.sup.quenchLatch = false := by
  unfold State.releaseLanterns
  extract_lets released u v
  have hv : Within (parts [.objs, .tiles, .links]) u v :=
    .foldl .refl fun _ _ => .ite .refl (.ite .refl (State.modTile_within.sub.next State.beginTraining_within))
  have hw : Within (parts [.objs, .tiles, .links, .rails, .therm]) u (if released then v.unquenchRails.refsDue false else
    v.unquenchRails) :=
    .ite ((hv.sub.next State.unquenchRails_within).next State.refsDue_within) (hv.sub.next State.unquenchRails_within)
  rw [hw.sup]
  rfl

theorem State.releaseLanterns_keeps {α : Type} (g : ThermSt → α) (h : ∀ x y, g { x with tiles := y } = g x) :
    g s.releaseLanterns.therm = g s.therm := by
  unfold State.releaseLanterns
  extract_lets released u v
  have hv : Within (parts [.objs, .tiles, .links, .sup, .rails]) s v.unquenchRails :=
    (Within.foldl State.modSup_within.sub fun _ _ =>
      .ite .refl (.ite .refl (State.modTile_within.sub.next State.beginTraining_within))).next State.unquenchRails_within
  split
  · rw [State.refsDue_keeps g h, hv.therm]
  · rw [hv.therm]

theorem State.idleEntry_modes : s.idleEntry.modes = { s.modes with heldClear := none } := by
  unfold State.idleEntry
  rw [State.askIdentities_within.modes, State.auxIdleEntry_within.modes, State.raiseDeferred_within.modes]
  rfl

theorem State.reportSeal_quenchLatch : s.reportSeal.sup.quenchLatch = s.sup.quenchLatch := by
  unfold State.reportSeal
  split
  · extract_lets f u v
    have hv : v.sup = u.sup := State.raise_sup ..
    split
    · split
      · rw [State.raise_sup, hv]; rfl
      · rw [hv]; rfl
    · rfl
  · rfl

/-- The parts that the entry of IDLE changes while VIN is in service. -/
def idleParts : Parts :=
  parts [.objs, .mram, .freeIdx, .deferred, .afterBoot, .modes, .history, .ops, .ints, .tiles, .rails, .auxs, .seq, .sup, .met, .therm,
    .net, .links, .sec, .otp, .otpRows, .habState]

/-- With VIN in service IDLE is entered, and nothing makes of it a SEAL. -/
theorem State.enterIdle_holds {why : Reason} (h : s.path.inService = true) :
    (s.enterIdle why).modes = { s.modes with mode := .idle, serviceFromFailsafe := false, fsPending := false, heldClear := none } ∧
    (s.enterIdle why).sup.quenchLatch = false ∧ Within idleParts s (s.enterIdle why) := by
  unfold State.enterIdle
  extract_lets u v w
  have hv : Within (parts [.objs, .tiles, .rails, .sup, .therm, .links, .seq]) s v :=
    (State.releaseLanterns_within.sub.next State.driveFog_within).next State.driveBell_within
  have hw : Within idleParts s w := (hv.sub.next State.setMode_within).next State.modModes_within
  have hr : Within idleParts s w.idleEntry.reportSeal := (hw.next State.idleEntry_within).next State.reportSeal_within
  have modes : w.modes = { s.modes with mode := .idle, serviceFromFailsafe := false, fsPending := false } := by
    show ({ (v.setMode .idle why).modes with serviceFromFailsafe := false, fsPending := false } : ModeSt) = _
    rw [State.setMode_modes, hv.modes]
  have latch : w.sup.quenchLatch = false := by
    have : Within (allBut [.sup]) u w := ((State.driveFog_within.sub.next State.driveBell_within).next State.setMode_within).next
      State.modModes_within
    rw [this.sup]
    exact State.releaseLanterns_quenchLatch
  rw [State.supplyLevels_of_inService (by rw [hr.path]; exact h)]
  refine ⟨?_, ?_, hr.next State.autoStart_within⟩
  · rw [State.autoStart_within.modes, State.reportSeal_within.modes, State.idleEntry_modes, modes]
  · rw [State.autoStart_within.sup, State.reportSeal_quenchLatch, State.idleEntry_within.sup, latch]

/-! ### A BOOT begins (R51) -/

/-- The modes' record of a BOOT that begins. -/
def ModeSt.booted (x : ModeSt) (cause : Nat) : ModeSt :=
  { mode := .boot, fsLatched := x.fsLatched, fsTimeWritten := x.fsTimeWritten, fsStoredRetry := x.fsStoredRetry, heldClear := x.heldClear,
    hrstLow := x.hrstLow, resetCause := cause, vinAbsent1ms := x.vinAbsent1ms, beaconSaved := x.beaconSaved, holdup := false }

/-- The power path of a BOOT that begins. -/
def PathSt.booted (x : PathSt) : PathSt :=
  { x with cutoffDue := false, st := .start, qualified := false, vinBlock := false, infetOn := x.inService && x.vinAbove, bat := .unknown,
           vbatKnown := false, presentRun := 0, probing := false, restHold := false, qualifiedAt := none, ntcOpen := false,
           ntcShort := false }

theorem State.bootFresh_holds {cause : Nat} {why : Reason} : (s.bootFresh cause why).modes = s.modes.booted cause ∧
    (s.bootFresh cause why).path = s.path.booted ∧ (s.bootFresh cause why).get K.RESET_CAUSE = cause := by
  unfold State.bootFresh
  lift_lets
  extract_lets src t r p m j o u e v w x
  have hw : Within (parts [.objs, .wakeEnable]) v w := .ite .refl State.put_within.sub
  have hx : Within (parts [.objs, .history, .wakeEnable, .resetCause]) v x := (hw.sub.next State.addHistory_within).next State.put_within
  have hy : Within (parts [.objs, .ints, .net, .deferred, .afterBoot, .ledger]) x
    ((x.put K.MODE_ENTERED_AT t).bump K.BOOT_COUNT).loadAccounts :=
    (Within.next (.sub (State.put_plain rfl)) (State.bump_plain rfl)).next State.loadAccounts_within
  refine ⟨?_, ?_, ?_⟩
  · rw [hy.modes, hx.modes]
    rfl
  · rw [hy.path, hx.path]
    rfl
  · rw [hy.resetCause]
    exact State.get_put_self ..

/-- With VIN in service nothing makes a SEAL of a BOOT that begins. -/
theorem State.bootStart_of_inService {cause : Nat} {why : Reason} (h : s.path.inService = true) :
    s.bootStart cause why = s.bootFresh cause why := by
  have hp : (s.bootFresh cause why).path.inService = true := by rw [State.bootFresh_holds.2.1]; exact h
  rw [State.bootStart, State.pathEval_of_inService hp, State.supplyLevels_of_inService hp]

/-! ### FAILSAFE is cleared or retried (R53) -/

theorem State.retryWords_holds {count at_ : Int} : (s.puts [(K.FS_RETRY_COUNT, count), (K.FS_RETRY_AT, at_)]).get K.FS_RETRY_COUNT = count ∧
    (s.puts [(K.FS_RETRY_COUNT, count), (K.FS_RETRY_AT, at_)]).get K.FS_RETRY_AT = at_ :=
  ⟨(State.get_put_ne _ (other := K.FS_RETRY_COUNT) (key := K.FS_RETRY_AT) (by decide) _).trans (State.get_put_self ..),
    State.get_put_self ..⟩

theorem State.retryWords_within {count at_ : Int} :
    Within (parts [.objs, .fsRetryCount, .fsRetryAt]) s (s.puts [(K.FS_RETRY_COUNT, count), (K.FS_RETRY_AT, at_)]) :=
  State.puts_keys (keys := [K.FS_RETRY_COUNT, K.FS_RETRY_AT]) rfl

theorem State.fsClear_holds {why : Reason} (hm : s.modes.mode = .failsafe) (h : s.path.inService = true) (hc : s.get K.FS_CAUSE ≠ 5) :
    (s.fsClear why).modes.mode = .idle ∧ (s.fsClear why).modes.fsLatched = false ∧ (s.fsClear why).get K.FS_RETRY_COUNT = 0 ∧
      (s.fsClear why).get K.FS_RETRY_AT = 0 ∧ (s.fsClear why).sup.quenchLatch = false := by
  unfold State.fsClear
  rw [if_pos hm]
  extract_lets u
  have hu : Within (parts [.objs, .fsRetryCount, .fsRetryAt, .modes]) s u :=
    (State.eraseLatch_within.sub.next State.retryWords_within).next State.modModes_within
  have latched : u.modes.fsLatched = false := rfl
  have words : u.get K.FS_RETRY_COUNT = 0 ∧ u.get K.FS_RETRY_AT = 0 := by
    unfold u
    rw [State.modModes_get, State.modModes_get]
    exact State.retryWords_holds
  rw [if_neg (by rw [hu.fsCause]; exact hc)]
  clear_value u
  obtain ⟨modes, latch, hw⟩ := State.enterIdle_holds (s := u) (why := why) (by rw [hu.path]; exact h)
  exact ⟨congrArg ModeSt.mode modes, (congrArg ModeSt.fsLatched modes).trans latched, hw.fsRetryCount.trans words.1,
    hw.fsRetryAt.trans words.2, latch⟩

/-- The state in which a retry acts: one more has been counted, the latch is gone. -/
def State.retried (s : State) : State :=
  (s.puts [(K.FS_RETRY_COUNT, s.get K.FS_RETRY_COUNT + 1), (K.FS_RETRY_AT, 0)]).eraseLatch.raise Ev.mode 2

theorem State.retried_within : Within (parts [.objs, .ints, .net, .modes, .fsRetryCount, .fsRetryAt]) s s.retried :=
  (State.retryWords_within.sub.next State.eraseLatch_within).next State.raise_within

theorem State.retried_holds : s.retried.modes.fsLatched = false ∧ s.retried.get K.FS_RETRY_COUNT = s.get K.FS_RETRY_COUNT + 1 ∧
    s.retried.get K.FS_RETRY_AT = 0 := by
  unfold State.retried
  refine ⟨?_, ?_, ?_⟩
  · rw [State.raise_modes]; rfl
  · rw [State.raise_within.fsRetryCount, State.eraseLatch, State.modModes_get]
    exact State.retryWords_holds.1
  · rw [State.raise_within.fsRetryAt, State.eraseLatch, State.modModes_get]
    exact State.retryWords_holds.2

theorem State.retryDue_of_failsafe (hm : s.modes.mode = .failsafe) (hh : s.modes.heldClear = none) (ha : s.get K.FS_RETRY_AT ≠ 0) :
    ∃ n, s.retryDue = if s.get K.FS_CAUSE = 5 then ({ s with now := n }).retried.bootStart 6 .fsRetry
      else ({ s with now := n }).retried.enterIdle .fsRetry := by
  refine ⟨max s.now (s.getN K.FS_RETRY_AT), ?_⟩
  have due : s.get K.FS_RETRY_AT ≤ ((max s.now (s.getN K.FS_RETRY_AT) : Nat) : Int) := by
    unfold State.getN
    omega
  generalize hu : ({ s with now := max s.now (s.getN K.FS_RETRY_AT) } : State) = u
  have get : ∀ key, u.get key = s.get key := fun key => by rw [← hu]; rfl
  have cause : u.retried.get K.FS_CAUSE = s.get K.FS_CAUSE := State.retried_within.fsCause.trans (get _)
  have acts : u.fsRetry = if u.retried.get K.FS_CAUSE = 5 then u.retried.bootStart 6 .fsRetry else u.retried.enterIdle .fsRetry := by
    unfold State.fsRetry
    rw [if_pos]
    · rfl
    · rw [get, ← hu]
      simpa [hm, ha] using due
  rw [← cause, ← acts, ← hu, State.retryDue, if_pos]
  simp [hm, hh, ha]

/-! ### SERVICE is left (R193) -/

theorem State.rail_dead (h : s.anyRailLive = false) (r : Fin 32) : (s.rail r).st.live = false := by
  unfold State.anyRailLive at h
  rw [List.any_eq_false] at h
  simpa using h (s.rail r) (by simp [State.rail])

theorem State.leaveService_of_dead (hm : s.modes.mode = .service) (hl : s.modes.serviceLeaving = false) (h : s.anyRailLive = false) :
    s.leaveService = s.modModes fun x => { x with serviceLeaving := true } := by
  unfold State.leaveService
  rw [if_pos (by simp [hm, hl])]
  refine foldl_keeps (P := fun u => u = s.modModes fun x => { x with serviceLeaving := true }) rfl fun u r hu => ?_
  subst hu
  have dead : ((s.modModes fun x => { x with serviceLeaving := true }).rail r).st.live = false := State.rail_dead h r
  exact if_neg (by rw [dead]; decide)

/-- With every rail off and VIN in service, SERVICE is left for IDLE. -/
theorem State.leaveService_finish (hm : s.modes.mode = .service) (hl : s.modes.serviceLeaving = false) (h : s.anyRailLive = false)
    (hf : s.modes.fsLatched = false) (hv : s.path.inService = true) :
    s.leaveService.finishService.modes.mode = .idle ∧ s.leaveService.finishService.modes.serviceLeaving = false ∧
      s.leaveService.finishService.rails = s.rails := by
  rw [State.leaveService_of_dead hm hl h]
  unfold State.finishService
  rw [if_pos, if_neg]
  · extract_lets u v
    have hw : Within (allBut [.path, .rails]) s (v.setMode .idle .hostRequest).idleEntry :=
      (((State.modModes_within.sub.next State.modModes_within).next State.driveFog_within).next State.setMode_within).next
        State.idleEntry_within
    have leaving : v.modes.serviceLeaving = false := rfl
    rw [State.supplyLevels_of_inService (by rw [hw.path]; exact hv), State.idleEntry_modes, State.setMode_modes]
    exact ⟨rfl, leaving, hw.rails⟩
  · show ¬ s.modes.fsLatched = true
    simp [hf]
  · show (decide (s.modes.mode = .service) && true && !s.anyRailLive) = true
    simp [hm, h]

/-! ### SERVICE from FAILSAFE (R193) -/

theorem State.enterService_failsafe (hm : s.modes.mode = .failsafe) (hc : s.get K.FS_CAUSE ≠ 5) :
    s.enterService.modes.mode = .service ∧ s.enterService.modes.serviceFromFailsafe = true ∧ s.enterService.get K.FS_RETRY_AT = 0 ∧
      s.enterService.sup.quenchLatch = false ∧ s.enterService.modes.fsLatched = s.modes.fsLatched := by
  unfold State.enterService
  rw [if_pos hm]
  extract_lets u v
  have cause : u.get K.FS_CAUSE = s.get K.FS_CAUSE := by
    unfold u
    rw [State.modModes_get, State.get_put_ne]
    decide
  have at_ : u.get K.FS_RETRY_AT = 0 := by
    unfold u
    rw [State.modModes_get, State.get_put_self]
  have hv : v = u.releaseLanterns := if_neg (by rw [cause]; exact hc)
  have hw : Within (allBut [.sup, .fsRetryAt]) v (v.setMode .service .hostRequest).refreshAux :=
    State.setMode_within.sub.next State.refreshAux_within
  have modes : (v.setMode .service .hostRequest).refreshAux.modes = { u.modes with mode := .service } := by
    rw [State.refreshAux_within.modes, State.setMode_modes, hv, State.releaseLanterns_within.modes]
  rw [modes, hw.fsRetryAt, hw.sup, hv, State.releaseLanterns_within.fsRetryAt]
  exact ⟨rfl, rfl, at_, State.releaseLanterns_quenchLatch, rfl⟩

/-! ### DORMANT is woken and left (R51, R214) -/

theorem State.noteWake_within {hit : Nat} : Within (parts [.objs, .wakeSource, .ints, .net, .deferred, .afterBoot]) s
    ((s.put K.WAKE_SOURCE hit).bump K.WAKE_COUNT) := State.put_within.sub.next State.bump_within

theorem State.noteWake_get {hit : Nat} : ((s.put K.WAKE_SOURCE hit).bump K.WAKE_COUNT).get K.WAKE_SOURCE = hit :=
  State.bump_within.wakeSource.trans (State.get_put_self ..)

/-- A wake of DORMANT is noted with its sources, and the Lanterns are released; the mode waits for the exit. -/
theorem State.wake_dormant {sources : Nat} (hm : s.modes.mode = .dormant) (hr : s.modes.heldReset = false) (hw : s.modes.waking = none)
    (hs : sources &&& s.wakeMask ≠ 0) : (s.wake sources).modes = { s.modes with waking := some (sources &&& s.wakeMask) } ∧
      (s.wake sources).get K.WAKE_SOURCE = (sources &&& s.wakeMask : Nat) ∧ (s.wake sources).sup.quenchLatch = false ∧
      (s.wake sources).auxs = s.auxs ∧ (s.wake sources).therm.guardTripped = s.therm.guardTripped := by
  generalize noted : ({ s.modes with waking := some (sources &&& s.wakeMask) } : ModeSt) = m
  unfold State.wake
  extract_lets u hit v w x y
  have hu : Within (parts [.path]) s u := .ite State.modPath_within .refl
  have mask : hit = sources &&& s.wakeMask := by
    unfold hit State.wakeMask State.hasPort
    rw [hu.modes, hu.oasis, hu.caps]
  have modes : y.modes = m := by
    rw [← noted, ← mask]
    show ({ ((u.put K.WAKE_SOURCE hit).bump K.WAKE_COUNT).modes with waking := some hit } : ModeSt) = _
    rw [State.noteWake_within.modes, hu.modes]
  have source : y.get K.WAKE_SOURCE = hit := State.noteWake_get
  have auxs : y.auxs = s.auxs := State.noteWake_within.auxs.trans hu.auxs
  have therm : y.therm = s.therm := State.noteWake_within.therm.trans hu.therm
  clear_value y
  rw [if_neg (by rw [hu.modes, hw, mask]; simpa using hs), hu.modes, hm]
  dsimp only
  rw [if_neg (by simp [hr]), State.releaseLanterns_within.modes, State.releaseLanterns_within.wakeSource, State.releaseLanterns_within.auxs,
    State.releaseLanterns_keeps (fun x : ThermSt => x.guardTripped) fun _ _ => rfl, modes, source, auxs, therm, mask]
  exact ⟨rfl, rfl, State.releaseLanterns_quenchLatch, rfl, rfl⟩

/-! ### The retained guard (R214) -/

theorem State.guardSample_first {reading : Int} (hm : s.modes.mode = .dormant) (ho : s.therm.guardOn ≠ none)
    (ht : s.therm.guardTripped = false)
    (hr : s.modes.heldReset = false) (hl : s.therm.guardLimit < reading) (hn : s.therm.guardRun = 0) :
    s.guardSample reading = { s with therm := { s.therm with guardRun := 1 } } := by
  have on : s.therm.guardOn.isSome = true := by simpa [Option.isSome_iff_ne_none] using ho
  simp [State.guardSample, hm, on, ht, hr, hl, hn]

/-- The outputs kept on open at the guard's trip. -/
theorem State.guardOpen_off (k : Fin 4) : (((s.auxOn.foldl (fun (s : State) (k : Fin 4) =>
    (s.auxOpen k).modAux k fun x => { x with forcedOff := true, heldOff := true }) s)).aux k).st = .off := by
  have turn : ∀ (u : State) (j : Fin 4), k = j ∨ (u.aux k).st = .off →
      (((u.auxOpen j).modAux j fun x => { x with forcedOff := true, heldOff := true }).aux k).st = .off := by
    intro u j h
    have ho := State.auxOpen_st (s := u) h
    by_cases hj : k = j
    · subst hj
      rw [State.aux_modAux_self]
      exact ho
    · rw [State.aux_modAux_ne _ hj]
      exact ho
  by_cases h : (s.aux k).st = .off
  · exact foldl_keeps (P := fun u : State => (u.aux k).st = .off) h fun u j hu => turn u j (.inr hu)
  · exact foldl_reaches (I := fun _ => True) (a := k) (by simp [State.auxOn, h]) trivial (fun _ _ _ => trivial)
      (fun u _ => turn u k (.inl rfl)) fun u j _ hu => turn u j (.inr hu)

/-- The second high reading opens the outputs kept on and wakes DORMANT. -/
theorem State.guardSample_trips {reading : Int} (hm : s.modes.mode = .dormant) (ho : s.therm.guardOn ≠ none)
    (ht : s.therm.guardTripped = false) (hr : s.modes.heldReset = false) (hl : s.therm.guardLimit < reading) (hn : 1 ≤ s.therm.guardRun) :
    ∃ u : State, s.guardSample reading = u.wake 0x100 ∧ u.modes = s.modes ∧ u.therm.guardTripped = true ∧ (∀ k, (u.aux k).st = .off) := by
  have on : s.therm.guardOn.isSome = true := by simpa [Option.isSome_iff_ne_none] using ho
  unfold State.guardSample
  rw [if_pos (by simp [hm, on, ht, hr])]
  lift_lets
  extract_lets n th u v
  have hn : ¬ n < 2 := by
    unfold n
    rw [if_pos hl]
    omega
  have modes : u.modes = s.modes := rfl
  clear_value u
  have off : ∀ k, (v.aux k).st = .off := State.guardOpen_off
  have hv : Within (parts [.objs, .auxs]) u v := .foldl .refl fun _ _ => State.auxOpen_within.sub.next State.modAux_within
  clear_value v
  rw [if_neg hn]
  refine ⟨_, rfl, ?_, rfl, fun k => ?_⟩
  · show v.setVpre.modes = s.modes
    rw [State.setVpre_within.modes, hv.modes, modes]
  · show (v.setVpre.aux k).st = .off
    rw [State.aux, State.setVpre_within.auxs]
    exact off k

/-! ### DORMANT is left (R51) -/

/-- The parts that a fenced tile changes while no rail may fault. -/
def fenceParts : Parts :=
  parts [.objs, .mram, .freeIdx, .deferred, .afterBoot, .ops, .ints, .phases, .tiles, .rails, .met, .mir, .net, .cfg, .links, .bootResult,
    .habState]

/-- In DORMANT and in BOOT no detector starts a SEAL. -/
theorem State.railFault_quiet {tr : Trigger} {stamp : Option Nat} {own : Option (Fin 16)} {code : GrpResult}
    (h : s.modes.mode = .dormant ∨ s.modes.mode = .boot) :
    s.railFault tr stamp own code = s := by
  rcases h with h | h <;> simp [State.railFault, State.faultMode, h]

theorem State.memberLost_quiet {r : Fin 32} {active healthy : Bool} {clamp : Int} (h : s.modes.mode = .dormant ∨ s.modes.mode = .boot) :
    Within fenceParts s (s.memberLost r active healthy clamp) := by
  unfold State.memberLost
  extract_lets u v last
  have hu : Within fenceParts s u := .ite State.modRail_within.sub .refl
  have hv : Within fenceParts s v := (hu.next State.refreshDegraded_within).next State.refreshLimiting_within
  rw [State.railFault_quiet (by rw [hv.modes]; exact h)]
  exact .ite hv (.ite (hv.next State.returnShed_within) (hv.next State.commandSpare_within))

theorem State.isolate_quiet {p : Fin 56} {why : IsoReason} (h : s.modes.mode = .dormant ∨ s.modes.mode = .boot) :
    Within fenceParts s (s.isolate p why) := by
  unfold State.isolate
  extract_lets x lead clamp keep u v w y
  have hu : Within fenceParts s u := State.modPhase_within.sub
  have hv : Within fenceParts s v := (hu.next State.leftShed_within).next (State.raise_plain (by simp))
  have hw : Within fenceParts s w := by
    unfold w
    split
    · exact hv
    · split
      · exact hv.next (State.raise_plain (by simp))
      · exact hv
  have hy : Within fenceParts s y := hw.next State.mirEvent_within
  clear_value y
  refine .ite .refl ?_
  split
  · exact hy
  · rename_i r _
    have hz : Within fenceParts s (y.leadPasses r lead) := hy.next State.leadPasses_within
    exact .ite (hz.next State.spareLost_within)
      (.ite (hz.trans (State.memberLost_quiet (by rw [hz.modes]; exact h))) (hz.next State.refreshDegraded_within))

theorem State.fence_quiet {n : Fin 8} (h : s.modes.mode = .dormant ∨ s.modes.mode = .boot) : Within fenceParts s (s.fence n) := by
  unfold State.fence
  extract_lets u v w x y
  have hw : Within fenceParts s w := ((State.modTile_within.sub.next State.modLink_within).next (State.put_plain rfl)).next
    (State.raiseLater_plain rfl)
  have hx : Within fenceParts s x := hw.next State.fenceCommit_within
  have hy : Within fenceParts s y := .ite (hx.next State.habEnd_within) hx
  clear_value y
  refine .ite .refl (foldl_keeps (P := fun z => Within fenceParts s z) hy fun z p hz => ?_)
  exact hz.trans (State.isolate_quiet (by rw [hz.modes]; exact h))

/-- In DORMANT and in BOOT the tiles that do not train are fenced, and nothing of the modes changes. -/
theorem State.fenceUntrained_quiet (h : s.modes.mode = .dormant ∨ s.modes.mode = .boot) : Within fenceParts s s.fenceUntrained := by
  unfold State.fenceUntrained
  refine foldl_keeps (P := fun z => Within fenceParts s z) .refl fun z n hz => ?_
  refine .ite ?_ hz
  unfold State.trainFence
  have hu {v} : Within fenceParts s (((z.raiseLater Ev.beam 2).put K.BOOT_RESULT v).raiseLater Ev.mode 5) :=
    ((hz.next State.raiseLater_within).next State.put_within).next State.raiseLater_within
  exact hu.trans (State.fence_quiet (by rw [hu.modes]; exact h))

theorem State.shows_setMode {m : Mode} {why : Reason} (h : m ≠ s.modes.mode) : (s.setMode m why).Shows Ev.mode 0 := by
  unfold State.setMode
  rw [if_neg h]
  exact State.raise_bit _ Ev.mode 0 rfl (by decide)

theorem State.pathTo_inService {st : PathState} : (s.pathTo st).path.inService = s.path.inService := by
  unfold State.pathTo
  extract_lets was u dis v
  have hv : v.path.inService = s.path.inService := rfl
  clear_value v
  split
  · exact hv
  · split <;> exact hv

theorem State.pathCarry_inService : s.pathCarry.path.inService = s.path.inService := by
  unfold State.pathCarry
  split
  · split
    · exact State.pathTo_inService
    · rfl
  · split
    · rfl
    · rw [State.bump_within.path, State.pathTo_inService]
  · split
    · rfl
    · rw [State.raiseLater_within.path, State.bump_within.path, State.pathTo_inService]
  · rfl

theorem State.crystalLoss_tbSource (hm : s.modes.mode = .dormant) (hw : s.modes.waking.isSome = true) (hr : s.modes.heldReset = false)
    (ht : s.get K.TB_SOURCE = 0) : s.crystalLoss.get K.TB_SOURCE = 1 := by
  have clocked : s.keeperClocked = true := by simp [State.keeperClocked, hm, hw, hr]
  rw [State.crystalLoss, if_pos (by simp [clocked, ht]), State.clockFault_within.tbSource, State.raiseLater_within.tbSource]
  exact State.get_put_self ..

/-- With VIN in service the exit of DORMANT leads to IDLE and tells WOKE. -/
theorem State.dormantExit_holds {h : Nat} {pllFail : Bool} (hm : s.modes.mode = .dormant) (hw' : s.modes.waking = some h)
    (hv : s.path.inService = true) (hr : s.modes.heldReset = false) : (s.dormantExit pllFail).modes.mode = .idle ∧
      (s.dormantExit pllFail).modes.waking = none ∧ (s.dormantExit pllFail).therm.guardOn = none ∧ (s.dormantExit pllFail).Shows Ev.mode 4 ∧
      (s.dormantExit pllFail).Shows Ev.mode 0 ∧ (pllFail = false → (s.dormantExit pllFail).get K.TB_SOURCE = 0) ∧
      (pllFail = true → s.get K.TB_SOURCE = 0 → (s.dormantExit pllFail).get K.TB_SOURCE = 1) := by
  unfold State.dormantExit
  lift_lets
  extract_lets tripped u q g v w x
  have hc : Within (parts [.objs, .mram, .freeIdx, .deferred, .afterBoot, .ops, .ints, .met, .net, .tbSource]) s
      (if pllFail then s.crystalLoss else s.put K.TB_SOURCE 0) := .ite State.crystalLoss_within.sub State.put_within.sub
  have source : u.get K.TB_SOURCE = if pllFail then s.crystalLoss.get K.TB_SOURCE else 0 := by
    unfold u
    rw [State.modModes_get, (State.fenceUntrained_quiet (.inl (by rw [hc.modes]; exact hm))).tbSource]
    split
    · rfl
    · exact State.get_put_self ..
  have hf : Within (parts [.objs, .mram, .freeIdx, .deferred, .afterBoot, .ops, .ints, .phases, .tiles, .rails, .met, .mir, .net, .cfg,
      .links, .bootResult, .habState, .tbSource]) s (State.fenceUntrained (if pllFail then s.crystalLoss else s.put K.TB_SOURCE 0)) :=
    hc.sub.next (State.fenceUntrained_quiet (.inl (by rw [hc.modes]; exact hm)))
  have modes : v.modes = { s.modes with waking := none } := congrArg (fun m : ModeSt => { m with waking := none }) hf.modes
  have path : v.path.inService = true := (congrArg PathSt.inService hf.path).trans hv
  have source' : v.get K.TB_SOURCE = u.get K.TB_SOURCE := rfl
  have guard : v.therm.guardOn = none := rfl
  clear_value v
  have shows₀ : (v.setMode .idle .wake).Shows Ev.mode 0 := State.shows_setMode (by rw [modes, hm]; decide)
  have hw : Within (parts [.objs, .ints, .net]) w x := .ite State.raiseSir_within .refl
  have hx : Within (parts [.objs, .deferred, .modes, .ints, .auxs, .seq, .net, .therm]) (v.setMode .idle .wake) x :=
    (State.idleEntry_within.sub.next State.refsDue_within).next hw
  have modes' : x.modes = { v.modes with mode := .idle, heldClear := none } := by
    rw [hw.modes, State.refsDue_within.modes, State.idleEntry_modes, State.setMode_modes]
  have guard' : x.therm.guardOn = none := by
    rw [hw.therm, State.refsDue_keeps (fun y : ThermSt => y.guardOn) (fun _ _ => rfl), State.idleEntry_within.therm,
      State.setMode_within.therm]
    exact guard
  have shows₄ : (x.raise Ev.mode 4).Shows Ev.mode 4 := State.raise_bit _ Ev.mode 4 rfl (by decide)
  have path' : (x.raise Ev.mode 4).pathCarry.path.inService = true := by
    rw [State.pathCarry_inService, State.raise_path, hx.path, State.setMode_within.path]
    exact path
  have hy : Within (parts [.objs, .deferred, .afterBoot, .ints, .path, .est, .net]) x (x.raise Ev.mode 4).pathCarry :=
    (Within.sub State.raise_within).next State.pathCarry_within
  clear_value x
  rw [hm, hw']
  dsimp only
  rw [State.pathEval_of_inService path', State.supplyLevels_of_inService path', hy.modes, modes', modes, hy.therm, hy.tbSource, hx.tbSource,
    State.setMode_within.tbSource, source', source]
  refine ⟨rfl, rfl, guard', State.pathCarry_within.shows shows₄, hy.shows (hx.shows shows₀), fun hp => ?_, fun hp ht => ?_⟩
  · rw [hp]
    rfl
  · rw [hp]
    exact State.crystalLoss_tbSource hm (by rw [hw']; rfl) hr ht

/-! ### The clauses together (O8) -/

section Requests

variable {acc : Accessor} {d : ObjDef} (hp : s.portsOpen = true) (hr : s.reachWrite acc K.MODE_REQUEST 1 = .ok d)
  (ha : s.anyRunning = false) (hl : s.modes.serviceLeaving = false)

include hr ha hl in
/-- A request for IDLE passes from FAILSAFE for an INSTALLER, from SERVICE, and where it disarms SHIP. -/
theorem State.writeModeRequest_idle
    (h : s.modes.mode = .failsafe ∧ s.installerUp acc = true ∨ s.modes.mode = .service ∨
      s.idleCond = true ∧ s.modes.shipArmed = true ∧ s.modes.mode ≠ .failsafe) :
    s.writeModeRequest acc 5 0 false = .ok (s.modeRequest 5 0 false, .done) := by
  rcases h with ⟨h₁, h₂⟩ | h₁ | ⟨h₁, h₂, h₃⟩ <;> simp [State.writeModeRequest, *]

end Requests

theorem State.modeRequest_idle_of_normal (h : s.modes.mode ≠ .service ∧ s.modes.mode ≠ .failsafe) :
    s.modeRequest 5 0 false = s.modModes fun x => { x with shipArmed := false } := by
  obtain ⟨h₁, h₂⟩ := h
  simp only [State.modeRequest]
  rw [if_neg (by decide), if_neg (by decide), if_neg (by decide), if_neg (by decide), if_neg (by decide), if_neg (by decide)]
  split
  · contradiction
  · contradiction
  · rfl

/-- The guard's own source wakes DORMANT whatever is enabled. -/
theorem State.wakeMask_guard (h : s.modes.mode = .dormant) : 0x100 &&& s.wakeMask = 0x100 := by
  have absorb : ∀ x, 0x100 &&& (0x101 ||| x) = 0x100 := fun x => by
    refine Nat.eq_of_testBit_eq fun i => ?_
    have split_ : (0x101 : Nat) = 0x100 ||| 1 := rfl
    rw [split_, Nat.testBit_and, Nat.testBit_or, Nat.testBit_or]
    cases Nat.testBit 0x100 i <;> rfl
  unfold State.wakeMask
  rw [h]
  exact absorb _

/-- A wake that is already noted takes no other. -/
theorem State.wake_waking {sources : Nat} (h : s.modes.waking ≠ none) (hb : sources.testBit 4 = false) : s.wake sources = s := by
  have some_ : s.modes.waking.isSome = true := by simpa [Option.isSome_iff_ne_none] using h
  simp [State.wake, hb, some_]

theorem State.fsCleanTime_of_run (ht : s.get K.FS_CLEAN_TIME ≠ 0) (hm : s.modes.mode = .run) (hr : s.modes.riding = false)
    (hg : s.ramping = false) (ha : s.anyRailLive = true) : s.fsCleanTime = s.put K.FS_RETRY_COUNT 0 := by
  unfold State.fsCleanTime State.shownMode
  cases hc : s.ledger.constrained <;> simp [ht, hm, hr, hg, ha, State.isNormalMode]

/-- Settles O8: each way out is the function of its event, with the power path at rest while VIN is in service. -/
theorem failsafeServiceAndDormantEnd : Obligations.FailsafeServiceAndDormantEnd := by
  refine ⟨⟨fun acc d s hp hr ha hl hv => ⟨fun hm hu hc => ?_, fun hm hd hf => ?_, fun hi hs => ?_, fun hm ho hu hs hc => ?_⟩,
    fun s hm hh ht hv => ⟨fun hc => ?_, fun hc => ?_⟩, fun s ht hm hr hg ha => ?_⟩, fun sources s hm hr hw hs => ?_,
    fun h pllFail s hm hw hv hr => ?_, fun reading s hm ho ht hr hl => ⟨fun hn => ?_, fun hn => ?_⟩⟩
  · have e := State.access_request hp (State.writeModeRequest_idle hr ha hl (.inl ⟨hm, hu⟩))
    have act : s.modeRequest 5 0 false = s.fsClear .fsClearCommand := by simp [State.modeRequest, hm]
    rw [act] at e
    have holds := State.fsClear_holds (why := .fsClearCommand) hm hv hc
    generalize s.fsClear .fsClearCommand = v at e holds
    exact ⟨_, exec_eq e, rfl, holds⟩
  · have e := State.access_request hp (State.writeModeRequest_idle hr ha hl (.inr (.inl hm)))
    have act : s.modeRequest 5 0 false = s.leaveService.finishService := by simp [State.modeRequest, hm]
    rw [act] at e
    have holds := State.leaveService_finish hm hl hd hf hv
    generalize s.leaveService.finishService = v at e holds
    exact ⟨_, exec_eq e, rfl, holds⟩
  · have hn := State.mode_of_idleCond hi
    have e := State.access_request hp (State.writeModeRequest_idle hr ha hl (.inr (.inr ⟨hi, hs, hn.2⟩)))
    rw [State.modeRequest_idle_of_normal hn] at e
    exact ⟨_, exec_eq e, rfl, rfl, rfl, rfl⟩
  · have e := State.access_request hp (State.writeModeRequest_service_of_free (woken := 0) (beaten := false) hr (.inr hm) ho ha hl hu hs)
    have act : s.modeRequest 12 0 false = s.enterService := by simp [State.modeRequest]
    rw [act] at e
    have holds := State.enterService_failsafe hm hc
    generalize s.enterService = v at e holds
    exact ⟨_, exec_eq e, rfl, holds⟩
  · obtain ⟨n, e⟩ := State.retryDue_of_failsafe hm hh ht
    rw [if_neg hc] at e
    obtain ⟨latched, count, at_⟩ := State.retried_holds (s := { s with now := n })
    have path : ({ s with now := n } : State).retried.path.inService = true := by rw [State.retried_within.path]; exact hv
    generalize ({ s with now := n } : State).retried = u at e latched count at_ path
    obtain ⟨modes, -, hw⟩ := State.enterIdle_holds (why := .fsRetry) path
    exact ⟨_, exec_eq e, congrArg ModeSt.mode modes, (congrArg ModeSt.fsLatched modes).trans latched, hw.fsRetryCount.trans count,
      hw.fsRetryAt.trans at_⟩
  · obtain ⟨n, e⟩ := State.retryDue_of_failsafe hm hh ht
    rw [if_pos hc] at e
    obtain ⟨latched, -, -⟩ := State.retried_holds (s := { s with now := n })
    have path : ({ s with now := n } : State).retried.path.inService = true := by rw [State.retried_within.path]; exact hv
    generalize ({ s with now := n } : State).retried = u at e latched path
    rw [State.bootStart_of_inService path] at e
    obtain ⟨modes, -, cause⟩ := State.bootFresh_holds (s := u) (cause := 6) (why := .fsRetry)
    exact ⟨_, exec_eq e, congrArg ModeSt.mode modes, cause, (congrArg ModeSt.fsLatched modes).trans latched⟩
  · refine ⟨_, exec_eq (State.fsCleanTime_of_run ht hm hr hg ha), State.get_put_self .., fun key hk => ?_, rfl⟩
    exact State.get_put_ne _ (by simpa using hk) _
  · obtain ⟨modes, source, latch, -, -⟩ := State.wake_dormant hm hr hw hs
    exact ⟨_, exec_eq rfl, congrArg ModeSt.waking modes, (congrArg ModeSt.mode modes).trans hm, source, latch⟩
  · exact ⟨_, exec_eq rfl, State.dormantExit_holds hm hw hv hr⟩
  · exact ⟨_, exec_eq (State.guardSample_first hm ho ht hr hl hn), rfl, ht, rfl⟩
  · obtain ⟨u, e, modes, tripped, off⟩ := State.guardSample_trips hm ho ht hr hl hn
    by_cases hw : s.modes.waking = none
    · have mask := State.wakeMask_guard (s := u) (by rw [modes]; exact hm)
      obtain ⟨noted, source, -, auxs, keeps⟩ := State.wake_dormant (s := u) (sources := 0x100) (by rw [modes]; exact hm) (by rw [modes]; exact hr)
        (by rw [modes]; exact hw) (by rw [mask]; decide)
      rw [mask] at noted source
      refine ⟨_, exec_eq e, keeps.trans tripped, fun k => ?_, fun _ => ⟨congrArg ModeSt.waking noted, source⟩, ?_⟩
      · rw [State.aux, auxs]
        exact off k
      · rw [noted, modes]
        exact hm
    · rw [State.wake_waking (by rw [modes]; exact hw) (by decide)] at e
      exact ⟨_, exec_eq e, tripped, off, fun h => absurd h hw, (congrArg ModeSt.mode modes).trans hm⟩

end Sys2Proof.Machine
end

section
set_option Elab.async false

namespace Sys2Proof.Machine

variable {s t u : State}

/-! ### Everything goes off (R180, R189) -/

/-- No rail is live and no phase is in use. -/
def State.Dark (s : State) : Prop := (∀ r, (s.rail r).st.live = false) ∧ ∀ p, (s.phase p).st.inUse = false

theorem State.Dark.congr (h : s.Dark) (hr : t.rails = s.rails) (hp : t.phases = s.phases) : t.Dark := by
  unfold State.Dark State.rail State.phase
  rw [hr, hp]
  exact h

theorem State.Dark.modRail {r : Fin 32} {f : RailSt → RailSt} (h : s.Dark) (hf : (f (s.rail r)).st.live = false) :
    (s.modRail r f).Dark := by
  refine ⟨fun q => ?_, h.2⟩
  by_cases hq : q = r
  · subst hq
    rw [State.rail_modRail_self]
    exact hf
  · rw [State.rail_modRail_ne s hq]
    exact h.1 q

theorem State.Dark.modPhase {p : Fin 56} {f : PhaseSt → PhaseSt} (h : s.Dark) (hf : (f (s.phase p)).st = (s.phase p).st) :
    (s.modPhase p f).Dark := by
  refine ⟨h.1, fun q => ?_⟩
  by_cases hq : q = p
  · subst hq
    rw [State.phase_modPhase_self, hf]
    exact h.2 q
  · rw [State.phase_modPhase_ne s hq]
    exact h.2 q

theorem State.Dark.raise {e : EventObj} {k : Nat} (h : s.Dark) : (s.raise e k).Dark :=
    h.congr (State.raise_rails ..) (State.raise_phases ..)

theorem State.Dark.listsAtRest {r : Fin 32} {ms ss : List (Fin 56)} (h : s.Dark) : (s.listsAtRest r ms ss).Dark := by
  unfold State.listsAtRest
  extract_lets set left u v st w
  have hu : u.Dark := foldl_keeps (P := State.Dark) h fun _ _ hx => hx.modPhase rfl
  have hv : v.Dark := foldl_keeps (P := State.Dark) (foldl_keeps (P := State.Dark) hu fun _ _ hx => hx.modPhase rfl) fun _ _ hx =>
    hx.modPhase rfl
  have hw : w.Dark := hv.modRail <| by
    have live : st.live = false := hv.1 r
    dsimp only
    split
    · rfl
    · split
      · rfl
      · exact live
  split
  · exact hw
  · split
    · exact hw
    · exact hw

theorem State.Dark.refreshDegraded {r : Fin 32} (h : s.Dark) : (s.refreshDegraded r).Dark := by
  unfold State.refreshDegraded
  extract_lets d was u
  have hu : u.Dark := h.modRail (h.1 r)
  split
  · exact hu.raise
  · exact hu

theorem State.Dark.refreshCapped {r : Fin 32} (h : s.Dark) : (s.refreshCapped r).Dark := by
  unfold State.refreshCapped
  extract_lets d was u
  have hu : u.Dark := h.modRail (h.1 r)
  split
  · exact hu.raise
  · exact hu

theorem State.Dark.returnAll {r : Fin 32} (h : s.Dark) : (s.returnAll r).Dark := by
  unfold State.returnAll
  exact foldl_keeps (P := State.Dark) (foldl_keeps (P := State.Dark) h fun _ _ hx => hx.modPhase rfl) fun _ _ hx => hx.modPhase rfl

theorem State.Dark.refreshLimiting {r : Fin 32} (h : s.Dark) : (s.refreshLimiting r).Dark := by
  unfold State.refreshLimiting
  extract_lets l was u v
  have hu : u.Dark := h.modRail (h.1 r)
  have hv : v.Dark := by
    unfold v
    split
    · exact (hu.returnAll.congr (State.bump_rails ..) (State.bump_phases ..)).raise
    · exact hu
  exact hv.refreshCapped

/-- A commit that lands while no rail is live switches nothing on. -/
theorem State.Dark.landLists {cm cs : List (Fin 56)} {r : Fin 32} (h : s.Dark) : (State.landLists cm cs s r).Dark := by
  unfold State.landLists
  extract_lets lead u
  have hu : u.Dark := by
    unfold u
    rw [if_neg (by rw [h.1 r]; decide)]
    exact h.listsAtRest
  exact hu.refreshDegraded.refreshLimiting

/-- No group waits for a bell. -/
def State.Still (s : State) : Prop := ∀ g, (s.group g).stage = .idle

theorem State.Still.congr (h : s.Still) (hs : t.seq = s.seq) : t.Still := by
  unfold State.Still State.group
  rw [hs]
  exact h

theorem State.Still.ignoreBell (h : s.Still) : s.ignoreBell = s := by
  unfold State.ignoreBell
  split
  · rfl
  · refine foldl_keeps (P := fun u => u = s) rfl fun u g hu => ?_
    subst hu
    rw [if_neg (by rw [h g]; decide)]

theorem State.Still.refreshCoop (h : s.Still) : Within (parts [.seq]) s s.refreshCoop := by
  unfold State.refreshCoop
  extract_lets q u
  have hu : u = s.driveFog (if q then s.coopBit 0 else s.seq.fogDrive) := State.Still.ignoreBell (s := s.driveFog _) h
  rw [hu]
  exact State.driveFog_within.next State.driveBell_within

theorem State.Dark.applyStaged {kvs : List (Nat × Int)} (h : s.Dark) (hs : s.Still) : (s.applyStaged kvs).Dark := by
  unfold State.applyStaged
  extract_lets waits u
  have hu : Within (allBut [.rails, .phases, .seq]) s u := State.puts_any.sub.next State.modCfg_within
  have dark : u.Dark := h.congr hu.rails hu.phases
  have still : u.Still := hs.congr hu.seq
  clear_value u
  have hv {l} : ((l : List (Fin 32)).foldl (fun t r => State.landLists (s.memberList r) (s.spareList r) t r) u).Dark ∧
      ((l : List (Fin 32)).foldl (fun t r => State.landLists (s.memberList r) (s.spareList r) t r) u).Still :=
    foldl_keeps (P := fun v : State => v.Dark ∧ v.Still) ⟨dark, still⟩ fun _ _ hx =>
      ⟨hx.1.landLists, hx.2.congr State.landLists_within.seq⟩
  have hw := (hv (l := listRails kvs)).2.refreshCoop
  exact hv.1.congr hw.rails hw.phases

/-- The end of a commit that is under way switches nothing on. -/
theorem State.Dark.quenchCommit (h : s.Dark) (hs : s.Still) : s.quenchCommit.Dark := by
  unfold State.quenchCommit
  extract_lets u
  have hu : u.Dark := by
    have he {v : State} {n st} (hv : v.Dark) : (v.landFsw.endCommit n st).Dark :=
      hv.congr (State.landFsw_within.sub.next State.endCommit_within : Within (allBut [.rails, .phases]) _ _).rails
        (State.landFsw_within.sub.next State.endCommit_within : Within (allBut [.rails, .phases]) _ _).phases
    unfold u
    split
    · exact h
    · exact h.congr State.abandonCommit_within.rails State.abandonCommit_within.phases
    · exact h.congr State.abandonCommit_within.rails State.abandonCommit_within.phases
    · exact he (h.applyStaged hs)
    · exact he (h.applyStaged hs)
  clear_value u
  split
  · exact hu.congr (State.modCfg_within.sub.next State.eraseMram_within : Within (allBut [.rails, .phases]) _ _).rails
      (State.modCfg_within.sub.next State.eraseMram_within : Within (allBut [.rails, .phases]) _ _).phases
  · exact hu

/-- With no commit under way nothing lands. -/
theorem State.quenchCommit_of_idle (h : s.cfg.phase = .idle) : Within (parts [.cfg, .mram]) s s.quenchCommit := by
  unfold State.quenchCommit
  rw [h]
  dsimp only
  split
  · exact State.modCfg_within.sub.next State.eraseMram_within
  · exact .refl

/-- Every rail that is built is QUENCHED. -/
theorem State.quenchRails_st (r : Fin 32) :
    (s.quenchRails.rail r).st = if (s.rail r).st = .unbuilt then .unbuilt else .quenched := by
  unfold State.quenchRails
  have turn : ∀ (u : State) (q : Fin 32), ((u.rail r).st = .unbuilt ↔ (s.rail r).st = .unbuilt) →
      ((u.quenchRail q).rail r).st = if q = r then (if (s.rail r).st = .unbuilt then .unbuilt else .quenched) else (u.rail r).st := by
    intro u q hu
    unfold State.quenchRail
    by_cases hq : q = r
    · subst hq
      by_cases hb : (u.rail q).st = .unbuilt
      · simp [hb, hu.1 hb]
      · simp [hb, mt hu.2 hb]
    · rw [if_neg hq]
      split
      · rfl
      · rw [State.rail_modRail_ne _ (Ne.symm hq)]
  refine foldl_reaches (I := fun u => ((u.rail r).st = .unbuilt ↔ (s.rail r).st = .unbuilt))
    (Q := fun u => (u.rail r).st = if (s.rail r).st = .unbuilt then .unbuilt else .quenched) (List.mem_finRange r) .rfl
    (fun u q hu => ?_) (fun u hu => ?_) fun u q hu hq => ?_
  · rw [turn u q hu]
    split
    · split <;> simp [*]
    · exact hu
  · rw [turn u r hu, if_pos rfl]
  · rw [turn u q hu, hq]
    exact ite_self _

theorem State.phaseOff_inUse {p q : Fin 56} (h : p = q ∨ (s.phase q).st.inUse = false) : ((s.phaseOff p).phase q).st.inUse = false := by
  unfold State.phaseOff
  extract_lets was
  have keeps {u : State} (hu : (u.phase q).st.inUse = false) : ((u.leftShed p was).phase q).st.inUse = false := by
    unfold State.phase
    rw [State.leftShed_within.phases]
    exact hu
  split
  · refine keeps ?_
    by_cases hq : q = p
    · subst hq
      rw [State.phase_modPhase_self]
      rfl
    · rw [State.phase_modPhase_ne s hq]
      exact h.resolve_left (Ne.symm hq)
  · rename_i hn
    rcases h with rfl | h
    · simpa [was] using hn
    · exact h

theorem State.quenchPhases_inUse (p : Fin 56) : (s.quenchPhases.phase p).st.inUse = false := by
  unfold State.quenchPhases
  exact foldl_reaches (I := fun _ => True) (Q := fun u => (u.phase p).st.inUse = false) (List.mem_finRange p) trivial
    (fun _ _ _ => trivial) (fun _ _ => State.phaseOff_inUse (.inl rfl)) fun _ _ _ h => State.phaseOff_inUse (.inr h)

theorem State.quenchAux_st (k : Fin 4) : (s.quenchAux.aux k).st = .off := by
  unfold State.quenchAux
  rw [State.aux, State.setVpre_within.auxs]
  exact foldl_reaches (I := fun _ => True) (Q := fun u => (u.aux k).st = .off) (List.mem_finRange k) trivial
    (fun _ _ _ => trivial) (fun _ _ => State.auxOpen_st (.inl rfl)) fun _ _ _ h => State.auxOpen_st (.inr h)

theorem State.group_modGroup_self {g : Fin 16} {f : GroupSt → GroupSt} : (s.modGroup g f).group g = f (s.group g) := by
  simp [State.group, State.modGroup]

theorem State.group_modGroup_ne {g j : Fin 16} {f : GroupSt → GroupSt} (h : j ≠ g) : (s.modGroup g f).group j = s.group j := by
  simp [State.group, State.modGroup, Fin.val_inj, h.symm]

theorem State.quenchGroups_still {own : Option (Fin 16)} {code : GrpResult} : (s.quenchGroups own code).Still := by
  intro g
  unfold State.quenchGroups
  refine foldl_reaches (I := fun _ => True) (Q := fun u => (u.group g).stage = .idle) (List.mem_finRange g) trivial
    (fun _ _ _ => trivial) (fun u _ => ?_) fun u j _ hu => ?_
  · exact congrArg GroupSt.stage State.group_modGroup_self
  · extract_lets x res note v w
    have hn (v : State) (o : Option Nat) : (note v o).seq = v.seq := by
      unfold note
      split
      · exact foldl_keeps (P := fun w : State => w.seq = v.seq) rfl fun _ _ hw => hw
      · rfl
    have hw : w.seq = u.seq := by
      unfold w
      split
      · exact (hn ..).trans (hn ..)
      · rw [State.setResult_within.seq]
        exact (hn ..).trans (hn ..)
    by_cases hj : g = j
    · subst hj
      exact congrArg GroupSt.stage State.group_modGroup_self
    · rw [State.group_modGroup_ne hj, State.group, hw]
      exact hu

/-- What everything-off leaves: nothing is live, in use or on, and with no commit under way every built rail is QUENCHED. -/
theorem State.everythingOff_holds {own : Option (Fin 16)} {code : GrpResult} : (s.everythingOff own code).Dark ∧
    (∀ k, ((s.everythingOff own code).aux k).st = .off) ∧
    (s.cfg.phase = .idle → ∀ r, (s.rail r).st ≠ .unbuilt → ((s.everythingOff own code).rail r).st = .quenched) := by
  unfold State.everythingOff
  extract_lets running u v w
  have hu₁ : Within (parts [.objs, .ops, .seq, .ints, .net, .phases]) s (s.quenchPhases.quenchGroups own code) :=
    State.quenchPhases_within.sub.next State.quenchGroups_within
  have hu₂ : Within (parts [.objs, .auxs, .rails]) (s.quenchPhases.quenchGroups own code) u :=
    State.quenchRails_within.sub.next State.quenchAux_within
  have rails : u.rails = (s.quenchPhases.quenchGroups own code).quenchRails.rails := State.quenchAux_within.rails
  have rail (r) : (u.rail r).st = if (s.rail r).st = .unbuilt then .unbuilt else .quenched := by
    have hr : (s.quenchPhases.quenchGroups own code).rail r = s.rail r := by unfold State.rail; rw [hu₁.rails]
    rw [State.rail, rails, ← hr]
    exact State.quenchRails_st r
  have dark : u.Dark := by
    refine ⟨fun r => ?_, fun p => ?_⟩
    · rw [rail]
      split <;> rfl
    · rw [State.phase, hu₂.phases, State.quenchGroups_within.phases]
      exact State.quenchPhases_inUse p
  have auxs (k) : (u.aux k).st = .off := State.quenchAux_st k
  have still : u.Still := State.quenchGroups_still.congr hu₂.seq
  have cfg : u.cfg = s.cfg := hu₂.cfg.trans hu₁.cfg
  clear_value u
  have hv₁ : Within (parts [.objs, .ints, .chg, .net, .freeIdx, .deferred, .afterBoot, .ops, .sec, .otp, .otpRows]) u
    u.chargerStop.closeWindow :=
    State.chargerStop_within.sub.next State.closeWindow_within
  have hv₂ : Within (allBut [.rails, .phases, .auxs]) u.chargerStop.closeWindow.quenchCommit v :=
    State.quenchDma_within.sub.next State.quenchLedger_within
  have hw : Within (allBut [.rails, .phases, .auxs]) v ((w.driveFog (w.coopBit 0)).driveBell false) :=
    (((Within.foldl .refl fun _ _ => State.freeTag_within.sub).next State.failAllOps_within).next State.driveFog_within).next
      State.driveBell_within
  refine ⟨?_, fun k => ?_, fun hc r hr => ?_⟩
  · exact ((dark.congr hv₁.rails hv₁.phases).quenchCommit (still.congr hv₁.seq)).congr (hw.rails.trans hv₂.rails)
      (hw.phases.trans hv₂.phases)
  · rw [State.aux, hw.auxs, hv₂.auxs, State.quenchCommit_within.auxs, hv₁.auxs]
    exact auxs k
  · have idle : u.chargerStop.closeWindow.cfg.phase = .idle := by rw [hv₁.cfg, cfg]; exact hc
    rw [State.rail, hw.rails, hv₂.rails, (State.quenchCommit_of_idle idle).rails, hv₁.rails]
    exact (rail r).trans (if_neg hr)

/-! ### The records of the journal leave metrology as frozen as it was -/

theorem State.noteFill_frozen : s.noteFill.met.frozen = s.met.frozen := by
  unfold State.noteFill
  extract_lets w was u
  split
  · rw [State.raiseLater_within.met]
    rfl
  · rfl

theorem State.writeRecord_frozen {kind mp : Nat} {sig : Bool} {chain payload : Bytes} :
    (s.writeRecord kind mp sig chain payload).met.frozen = s.met.frozen := by
  unfold State.writeRecord
  lift_lets
  extract_lets flags q body u
  have hu : u.met = s.met := State.writeMram_within.met
  clear_value u
  rw [State.noteFill_frozen]
  show u.met.frozen = _
  rw [hu]

theorem State.writeEvent_frozen {code mp sec frac : Nat} {data : Bytes} :
    (s.writeEvent code mp data sec frac).met.frozen = s.met.frozen := by
  unfold State.writeEvent
  extract_lets first chain q u v
  have hu : u.met.frozen = s.met.frozen := State.writeRecord_frozen
  have hv : v.met.frozen = s.met.frozen := by
    unfold v
    split <;> exact hu
  split
  · exact foldl_keeps (P := fun w : State => w.met.frozen = s.met.frozen) hv fun _ _ hw => hw
  · exact hv

theorem State.eventLost_frozen : s.eventLost.met.frozen = s.met.frozen := by
  unfold State.eventLost
  extract_lets u v
  have hu : u.met.frozen = s.met.frozen := by rw [State.bump_within.met]
  have hv : v.met.frozen = s.met.frozen := by
    unfold v
    split
    · exact foldl_keeps (P := fun w : State => w.met.frozen = s.met.frozen) hu fun _ _ hw => hw
    · exact hu
  rw [State.raiseLater_within.met]
  exact hv

theorem State.journalEvent_frozen {e : JnlEvent} {mp : Nat} {data : Bytes} : (s.journalEvent e mp data).met.frozen = s.met.frozen := by
  unfold State.journalEvent State.addRecord State.putRecord
  split
  · split
    · rfl
    · dsimp only
      split
      · exact State.writeEvent_frozen
      · exact State.eventLost_frozen
  · rfl

theorem State.habEnd_frozen {reason : Nat} : (s.habEnd reason).met.frozen = s.met.frozen := by
  unfold State.habEnd
  split
  · extract_lets u v
    have hu : u.met = s.met := (State.puts_keys (keys := [K.HAB_STATE, K.HAB_DISARM_REASON]) rfl : Within (parts [.objs, .habState]) s
      u).met
    have hv : v.met.frozen = s.met.frozen := by
      unfold v
      split
      · rw [State.journalEvent_frozen, hu]
      · rw [hu]
    rw [State.raise_met]
    exact hv
  · rfl

theorem State.habCheck_frozen : s.habCheck.met.frozen = s.met.frozen := by
  unfold State.habCheck
  split
  · exact State.habEnd_frozen
  · split
    · rfl
    · exact State.habEnd_frozen

/-! ### SEAL begins (R45, R177, R189) -/

theorem State.faultCause_triggers {tr : Trigger} {at_ : Nat} : (s.faultCause tr at_).sup.triggers = s.sup.triggers := by
  unfold State.faultCause
  split
  · rfl
  · extract_lets u v
    have hv : v.sup.triggers = s.sup.triggers := by
      have h : Within (parts ([.objs, .deferred, .afterBoot, .ints, .net] ++ Part.named)) ((u.modSup fun y =>
          { y with latchWritten := true, quenchLatch := true }).put K.FS_CAUSE 0x0D) v := State.showFault_within.sub.next State.bump_within
      rw [h.sup]
      rfl
    split
    · rw [State.countRailFault_within.sup]
      exact hv
    · exact hv

theorem State.noteCause_triggers {tr : Trigger} {at_ : Nat} : (s.noteCause tr at_).sup.triggers = s.sup.triggers := by
  unfold State.noteCause
  split
  · rfl
  · rfl
  · exact State.faultCause_triggers

theorem State.settleTriggers_modes : ∃ n, s.settleTriggers.modes = { s.modes with sealStart := n } := by
  unfold State.settleTriggers
  split
  · exact ⟨s.modes.sealStart, rfl⟩
  · rename_i p _
    extract_lets near u v
    refine ⟨p.at_, ?_⟩
    have hv : v.modes = { s.modes with sealStart := p.at_ } := rfl
    split
    · rw [State.showFault_within.modes, hv]
    · exact hv

/-- The only trigger is the primary one. -/
theorem State.settleTriggers_primary {x : TrigRec} (h : s.sup.triggers = [x]) : s.settleTriggers.sup.primary = some x.trig := by
  unfold State.settleTriggers
  have hp : primaryOf s.sup.triggers = some x := by rw [h]; rfl
  split
  · rename_i hn
    exact absurd (hn.symm.trans hp) nofun
  · rename_i p hx
    obtain rfl : x = p := Option.some.inj (hp.symm.trans hx)
    extract_lets near u v
    have hv : v.sup.primary = some x.trig := rfl
    split
    · rw [State.showFault_within.sup]
      exact hv
    · exact hv

/-- The modes' record of a SEAL that begins, before its cause is noted. -/
def ModeSt.sealBegun (x : ModeSt) (at_ : Nat) : ModeSt :=
  { x with sealMode := x.mode, mode := .seal, sealStart := at_, sealDone := false, sealCauses := {}, fsPending := false,
           serviceLeaving := false, waking := none }

/-- The modes' record once a cause of the SEAL is noted. -/
def ModeSt.caused (x : ModeSt) : Reason → ModeSt
  | .supplyLoss => { x with sealCauses := { x.sealCauses with supplyLoss := true } }
  | .hrst => { x with sealCauses := { x.sealCauses with hrst := true } }
  | _ => { x with sealCauses := { x.sealCauses with railFault := true }, fsPending := true, fsLatched := true, fsTimeWritten := false }

theorem ModeSt.caused_mode {x : ModeSt} {c : Reason} : (x.caused c).mode = x.mode ∧ (x.caused c).sealMode = x.sealMode := by
  unfold ModeSt.caused
  split <;> exact ⟨rfl, rfl⟩

theorem State.faultCause_modes {tr : Trigger} {at_ : Nat} (h : s.modes.sealCauses.railFault = false) :
    (s.faultCause tr at_).modes = s.modes.caused .railFault := by
  unfold State.faultCause
  rw [if_neg (by rw [h]; decide)]
  extract_lets u v
  have hv : v.modes = u.modes := by
    have h : Within (allBut [.modes]) u v :=
      ((State.modSup_within.sub.next State.put_within).next State.showFault_within).next State.bump_within
    exact h.modes
  split
  · rw [State.countRailFault_within.modes]
    exact hv
  · exact hv

theorem State.causeOf_cases {tr : Trigger} : causeOf tr = .supplyLoss ∨ causeOf tr = .hrst ∨ causeOf tr = .railFault := by
  unfold causeOf
  split
  · exact .inl rfl
  · split
    · exact .inr (.inl rfl)
    · exact .inr (.inr rfl)

theorem State.noteCause_modes {tr : Trigger} {at_ : Nat} (h : s.modes.sealCauses.railFault = false) :
    (s.noteCause tr at_).modes = s.modes.caused (causeOf tr) := by
  unfold State.noteCause
  rcases State.causeOf_cases (tr := tr) with e | e | e <;> rw [e]
  · rfl
  · rfl
  · exact State.faultCause_modes h

/-- SEAL has begun: everything is off, the trigger is the primary one, and of the modes' record the cause alone depends on the trigger. -/
theorem State.beginSeal_holds {tr : Trigger} {at_ : Nat} {estimated awaiting : Bool} {own : Option (Fin 16)} {code : GrpResult} :
    SealStarts s (s.beginSeal tr at_ estimated awaiting own code) ∧
    (s.beginSeal tr at_ estimated awaiting own code).sup.primary = some tr ∧
    ∃ n, (s.beginSeal tr at_ estimated awaiting own code).modes = { (s.modes.sealBegun at_).caused (causeOf tr) with sealStart := n } := by
  generalize ht : s.beginSeal tr at_ estimated awaiting own code = t
  unfold State.beginSeal at ht
  split at ht
  rename_i c s' core
  have hs : Within (parts [.freeIdx]) s s' := State.snapCore_within.of_snd core
  extract_lets a b d e m f g at ht
  have ha : Within (parts [.freeIdx, .sup]) s a := hs.sub.next State.modSup_within
  obtain ⟨dark, auxs, quenched⟩ := State.everythingOff_holds (s := a) (own := own) (code := code)
  have hb : Within (parts [.therm, .net]) (a.everythingOff own code) b := State.refsDue_within.sub.next State.canReset_within
  have hd : Within (parts [.modes]) b d := State.modModes_within
  have modes : d.modes = s.modes.sealBegun at_ := by
    show b.modes.sealBegun at_ = _
    rw [hb.modes, State.everythingOff_within.modes, ha.modes]
  have triggers : d.sup.triggers = [⟨tr, at_, estimated, awaiting⟩] := by
    rw [hd.sup, hb.sup, State.everythingOff_within.sup]
    rfl
  clear_value d
  have he : Within (allBut [.rails, .phases, .auxs]) d e :=
    (State.noteCause_within.sub.next State.settleTriggers_within).next State.mirOff_within
  have primary : e.sup.primary = some tr := by
    rw [State.mirOff_within.sup]
    exact State.settleTriggers_primary (State.noteCause_triggers.trans triggers)
  have modes' : ∃ n, e.modes = { (s.modes.sealBegun at_).caused (causeOf tr) with sealStart := n } := by
    obtain ⟨n, hn⟩ := State.settleTriggers_modes (s := d.noteCause tr at_)
    refine ⟨n, ?_⟩
    rw [State.mirOff_within.modes, hn, State.noteCause_modes (by rw [modes]; rfl), modes]
  clear_value e
  have hf : Within (parts [.met]) e f := Within.set_met
  have frozen : f.met.frozen = true := rfl
  clear_value f
  have stage : g.get K.SUP_SEAL_STAGE = 1 := (State.get_put_ne _ (other := K.SUP_SEAL_STAGE) (key := K.SUP_SEAL_CAUSE) (by decide) _).trans
    (State.get_put_self ..)
  have hg : Within (parts [.objs, .sealStage]) f g := State.puts_keys (keys := [K.SUP_SEAL_STAGE, K.SUP_SEAL_CAUSE]) rfl
  clear_value g
  have last : Within (parts [.objs, .mram, .freeIdx, .deferred, .afterBoot, .ints, .met, .net, .habState]) g t :=
    ht ▸ State.habCheck_within.sub.next State.raise_within
  have frozen' : t.met.frozen = true := by rw [← ht, State.raise_met, State.habCheck_frozen, hg.met]; exact frozen
  obtain ⟨n, modes'⟩ := modes'
  have keeps : Within (allBut [.rails, .phases, .auxs]) (a.everythingOff own code) t :=
    ((((hb.sub.next hd).next he).next hf).next hg).next last
  have sup : t.sup = e.sup := last.sup.trans (hg.sup.trans hf.sup)
  have modes'' : t.modes = e.modes := last.modes.trans (hg.modes.trans hf.modes)
  clear ht
  rw [sup, modes'', modes']
  refine ⟨⟨?_, ?_, frozen', last.sealStage.trans stage, ?_, ?_, ?_, ?_⟩, primary, n, rfl⟩
  · rw [modes'', modes']
    exact ModeSt.caused_mode.1
  · rw [modes'', modes']
    exact ModeSt.caused_mode.2
  · exact (dark.congr keeps.rails keeps.phases).1
  · intro hc r hr
    rw [State.rail, keeps.rails]
    refine quenched (by rw [ha.cfg]; exact hc) r ?_
    rw [State.rail, ha.rails]
    exact hr
  · intro k
    rw [State.aux, keeps.auxs]
    exact auxs k
  · exact (dark.congr keeps.rails keeps.phases).2

end Sys2Proof.Machine
end

section
set_option Elab.async false

namespace Sys2Proof.Machine

variable {s t u : State}

/-! ### What feeds a BOOT (R45, R222, R229) -/

theorem State.pathTo_keeps {α : Type} (g : PathSt → α) (h : ∀ x st, g { x with st := st } = g x) {st : PathState} :
    g (s.pathTo st).path = g s.path := by
  unfold State.pathTo
  extract_lets was u dis v
  have hv : g v.path = g s.path := h ..
  clear_value v
  split
  · exact hv
  · split <;> exact hv

theorem State.handOver_keeps {α : Type} (g : PathSt → α) (h : ∀ x st, g { x with st := st } = g x) : g s.handOver.path = g s.path := by
  unfold State.handOver
  rw [State.mirEvent_within.path, State.raiseLater_within.path, State.bump_within.path]
  exact State.pathTo_keeps g h

theorem State.pathEval_keeps {α : Type} (g : PathSt → α) (h : ∀ x st, g { x with st := st } = g x) : g s.pathEval.path = g s.path := by
  unfold State.pathEval
  split
  · rfl
  · have turn : g (if s.batUsable then s.handOver else s.pathTo .noSource).path = g s.path := by
      split
      · exact State.handOver_keeps g h
      · exact State.pathTo_keeps g h
    split
    · exact turn
    · exact turn
    · rfl

/-- In BOOT, with the battery unknown, the battery is usable just where BATFET closes on it. -/
theorem State.batUsable_of_unknown (hb : s.path.bat = .unknown) (hv : s.path.vbatKnown = false) : s.batUsable = s.batfetClosed := by
  unfold State.batUsable State.vbatLow
  rw [hb, hv]
  cases hc : s.batfetClosed
  · rfl
  · have open_ : s.path.cutoff = false := by
      simp only [State.batfetClosed, Bool.and_eq_true, Bool.not_eq_true'] at hc
      exact hc.1.1.2
    rw [open_]
    rfl

/-- A BOOT that has begun and evaluates its path. -/
theorem State.bootPath_holds {cause : Nat} {why : Reason} : (s.bootFresh cause why).pathEval.modes = s.modes.booted cause ∧
    (s.bootFresh cause why).pathEval.path.inService = s.path.inService ∧
    (s.bootFresh cause why).pathEval.batUsable = (!s.path.cutoff && !s.path.holdOpen && !s.path.pulseOpen) ∧
    (s.bootFresh cause why).pathEval.get K.RESET_CAUSE = cause := by
  obtain ⟨modes, path, reset⟩ := State.bootFresh_holds (s := s) (cause := cause) (why := why)
  generalize s.bootFresh cause why = u at modes path reset
  have modes' : u.pathEval.modes = s.modes.booted cause := State.pathEval_within.modes.trans modes
  have keeps {α : Type} (g : PathSt → α) (h : ∀ x st, g { x with st := st } = g x) : g u.pathEval.path = g s.path.booted :=
    (State.pathEval_keeps g h).trans (congrArg g path)
  refine ⟨modes', keeps PathSt.inService fun _ _ => rfl, ?_, State.pathEval_within.resetCause.trans reset⟩
  rw [State.batUsable_of_unknown (keeps PathSt.bat fun _ _ => rfl) (keeps PathSt.vbatKnown fun _ _ => rfl), State.batfetClosed, modes',
    keeps PathSt.cutoff fun _ _ => rfl, keeps PathSt.holdOpen fun _ _ => rfl, keeps PathSt.pulseOpen fun _ _ => rfl]
  rfl

/-- A BOOT that something feeds stays a BOOT. -/
theorem State.bootStart_fed {cause : Nat} {why : Reason} (h : s.bootFed = true) :
    (s.bootStart cause why).modes = s.modes.booted cause ∧ (s.bootStart cause why).get K.RESET_CAUSE = cause := by
  unfold State.bootStart
  obtain ⟨modes, service, battery, reset⟩ := State.bootPath_holds (s := s) (cause := cause) (why := why)
  generalize (s.bootFresh cause why).pathEval = u at modes service battery reset
  have levels : u.supplyLevels = u := by
    unfold State.supplyLevels
    split
    · rename_i hc
      simp only [Bool.and_eq_true, Bool.not_eq_true', service, modes, ModeSt.booted] at hc
      rw [State.bootFed, hc.1.1, hc.1.2, ← battery] at h
      have usable : u.batUsable = true := by simpa using h
      rw [usable, modes]
      rfl
    · rfl
  rw [levels]
  exact ⟨modes, reset⟩

theorem State.supplyEvent_of_active {tr : Trigger} (h : s.activeNotSeal = true) :
    s.supplyEvent tr = s.beginSeal tr s.now false false none .quenched := if_pos h

/-- A BOOT that nothing feeds passes into SEAL. -/
theorem State.bootStart_unfed {cause : Nat} {why : Reason} (h : s.bootFed = false) :
    (s.bootStart cause why).modes.mode = .seal ∧ (s.bootStart cause why).modes.sealMode = .boot ∧
      (s.bootStart cause why).modes.sealCauses.supplyLoss = true := by
  unfold State.bootStart
  obtain ⟨modes, service, battery, -⟩ := State.bootPath_holds (s := s) (cause := cause) (why := why)
  generalize (s.bootFresh cause why).pathEval = u at modes service battery
  simp only [State.bootFed, Bool.or_eq_false_iff, Bool.not_eq_false'] at h
  obtain ⟨⟨absent, off⟩, battery'⟩ := h
  have runs : u.keeperRuns = true := by simp [State.keeperRuns, modes, ModeSt.booted]
  have active : u.activeNotSeal = true := by simp [State.activeNotSeal, runs, modes, ModeSt.booted]
  have levels : u.supplyLevels = u.beginSeal supplyTrigger u.now false false none .quenched := by
    unfold State.supplyLevels
    rw [if_pos (by simp [modes, ModeSt.booted, absent, service, off, runs]), if_pos (by simp [battery, battery']),
      if_neg (by simp [modes, ModeSt.booted])]
    exact State.supplyEvent_of_active active
  obtain ⟨-, -, n, modes'⟩ := State.beginSeal_holds (s := u) (tr := supplyTrigger) (at_ := u.now) (estimated := false) (awaiting := false)
    (own := none) (code := .quenched)
  rw [levels, modes', modes]
  exact ⟨rfl, rfl, rfl⟩

/-! ### FAILSAFE is entered (R53) -/

theorem State.scheduleRetry_modes {fromService : Bool} : (s.scheduleRetry fromService).modes.mode = s.modes.mode ∧
    (s.scheduleRetry fromService).modes.fsLatched = s.modes.fsLatched := by
  unfold State.scheduleRetry
  split
  · extract_lets u
    split
    · rw [State.raise_modes]
      exact ⟨rfl, rfl⟩
    · exact ⟨rfl, rfl⟩
  · extract_lets n a u
    have hu : u.modes.mode = s.modes.mode ∧ u.modes.fsLatched = s.modes.fsLatched := ⟨rfl, rfl⟩
    clear_value u
    split
    · rw [State.raise_modes]
      exact hu
    · exact hu

/-- With VIN in service FAILSAFE is entered, and nothing makes of it a SEAL. -/
theorem State.enterFailsafe_holds {why : Reason} (h : s.path.inService = true) :
    (s.enterFailsafe why).modes.mode = .failsafe ∧ (s.enterFailsafe why).modes.fsLatched = s.modes.fsLatched ∧
    (s.enterFailsafe why).sup.quenchLatch = true ∧ (s.enterFailsafe why).met.frozen = false ∧
    (s.enterFailsafe why).sec.romOnly = s.sec.romOnly ∧ (s.enterFailsafe why).get K.FS_CAUSE = s.get K.FS_CAUSE ∧
    (s.enterFailsafe why).get K.BOOT_RESULT = s.get K.BOOT_RESULT := by
  unfold State.enterFailsafe
  extract_lets fromService a b c d m e f
  have ha : Within (parts [.objs, .ints, .chg, .net, .sup, .therm]) s a :=
    (State.chargerStop_within.sub.next State.modSup_within).next State.refsDue_within
  have hb : Within (parts [.links]) a b := .foldl .refl fun _ _ => State.modLink_within.sub
  have hc : Within (parts [.seq]) b c := State.driveFog_within.next State.driveBell_within
  have hac : Within (parts [.objs, .ints, .chg, .net, .sup, .therm, .links, .seq]) s c := (ha.sub.next hb).next hc
  have latch : c.sup.quenchLatch = true := by
    rw [hc.sup, hb.sup, State.refsDue_within.sup]
    rfl
  clear_value c
  have hd : Within (allBut [.path, .sup, .fsCause, .bootResult]) c d := State.setMode_within.sub.next State.modModes_within
  have modes : d.modes.mode = .failsafe ∧ d.modes.fsLatched = c.modes.fsLatched := by
    have hm : d.modes = { (c.setMode .failsafe why).modes with fsPending := false, serviceFromFailsafe := false, serviceLeaving := false } := rfl
    rw [hm, State.setMode_modes]
    exact ⟨rfl, rfl⟩
  have rom : d.sec.romOnly = c.sec.romOnly := State.setMode_sec SecSt.romOnly fun _ _ => rfl
  clear_value d
  have he : Within (parts [.met]) d e := Within.set_met
  have frozen : e.met.frozen = false := rfl
  clear_value e
  have hf : Within (parts [.objs, .modes, .ints, .net, .auxs, .fsRetryAt]) e f :=
    (State.refreshAux_within.sub.next State.raise_within).next State.scheduleRetry_within
  have modes' : f.modes.mode = .failsafe ∧ f.modes.fsLatched = s.modes.fsLatched := by
    rw [State.scheduleRetry_modes.1, State.scheduleRetry_modes.2, State.raise_modes, State.refreshAux_within.modes, he.modes]
    exact ⟨modes.1, by rw [modes.2, hac.modes]⟩
  clear_value f
  have hr : Within (allBut [.modes, .path, .met, .sec, .fsCause, .bootResult]) f f.raiseDeferred.reportSeal :=
    State.raiseDeferred_within.sub.next State.reportSeal_within
  rw [State.supplyLevels_of_inService (by rw [hr.path, hf.path, he.path, hd.path, hac.path]; exact h), hr.modes, hr.met, hr.sec, hr.fsCause,
    hr.bootResult, hf.met, hf.sec, hf.fsCause, hf.bootResult, he.sec, he.fsCause, he.bootResult, hd.fsCause, hd.bootResult, rom, hac.sec,
    hac.fsCause, hac.bootResult]
  refine ⟨modes'.1, modes'.2, ?_, frozen, rfl, rfl, rfl⟩
  rw [State.reportSeal_quenchLatch, State.raiseDeferred_within.sup, hf.sup, he.sup, hd.sup]
  exact latch

/-! ### BOOT ends (R52) -/

/-- A bit of `BOOT_RESULT` that is set after BOOT's checks is fatal from bit 4 to bit 7. -/
theorem State.bootFatal_of_bit (h : bitOf (s.get K.BOOT_RESULT) 7 = true) : s.bootFatal = true := by
  unfold State.bootFatal
  refine decide_eq_true fun h0 => ?_
  have : (s.getN K.BOOT_RESULT &&& 0xF0).testBit 7 = true := by
    rw [Nat.testBit_and]
    exact Bool.and_eq_true_iff.2 ⟨h, rfl⟩
  rw [h0] at this
  exact absurd this (by decide)

theorem State.bootFatal_iff : s.bootFatal = true ↔ s.getN K.BOOT_RESULT &&& 0xF0 ≠ 0 := decide_eq_true_iff

/-- With VIN in service BOOT ends in FAILSAFE with cause 5 where a check was fatal, in FAILSAFE where its latch is set, and otherwise in
IDLE. -/
theorem State.bootEnd_holds (h : s.path.inService = true) : s.bootEnd.get K.BOOT_RESULT = s.get K.BOOT_RESULT ∧
    (s.bootFatal = true → s.bootEnd.modes.mode = .failsafe ∧ s.bootEnd.get K.FS_CAUSE = 5 ∧ s.bootEnd.modes.fsLatched = true ∧
      s.bootEnd.sec.romOnly = s.sec.romOnly) ∧
    (s.bootFatal = false → s.modes.fsLatched = true → s.bootEnd.modes.mode = .failsafe) ∧
    (s.bootFatal = false → s.modes.fsLatched = false → s.bootEnd.modes.mode = .idle ∧ s.bootEnd.sup.quenchLatch = false) := by
  unfold State.bootEnd
  extract_lets u v woke w
  have hu : Within (parts [.objs, .deferred, .afterBoot, .ints, .net]) s u := .ite State.raiseLater_within.sub .refl
  have hv : Within (parts [.objs, .deferred, .afterBoot, .ints, .net, .path]) s v :=
    .ite ((hu.sub.next State.modPath_within).next State.raiseLater_within) hu.sub
  have service : v.path.inService = true := by
    have hx : v.path.inService = u.path.inService := by
      unfold v
      split
      · rw [State.raiseLater_within.path]
        rfl
      · rfl
    rw [hx, hu.path]
    exact h
  have fatal : v.bootFatal = s.bootFatal := by
    unfold State.bootFatal State.getN
    rw [hv.bootResult]
  clear_value v
  rw [← fatal]
  split
  · rename_i hf
    have hx : Within (parts [.objs, .fsCause, .modes]) v ((v.put K.FS_CAUSE 5).modModes fun x =>
        { x with fsLatched := true, fsTimeWritten := x.fsLatched && x.fsTimeWritten }) := State.put_within.sub.next State.modModes_within
    have cause : ((v.put K.FS_CAUSE 5).modModes fun x =>
        { x with fsLatched := true, fsTimeWritten := x.fsLatched && x.fsTimeWritten }).get K.FS_CAUSE = 5 :=
      (State.modModes_get ..).trans (State.get_put_self ..)
    obtain ⟨mode, latched, -, -, rom, cause', result⟩ := State.enterFailsafe_holds (why := .bootFault) (by rw [hx.path]; exact service)
    refine ⟨result.trans (hx.bootResult.trans hv.bootResult), fun _ => ⟨mode, cause'.trans cause, latched, ?_⟩, fun hn => absurd hf
      (by simp [hn]),
      fun hn => absurd hf (by simp [hn])⟩
    rw [rom, hx.sec, hv.sec]
  · rename_i hf
    rw [← hv.modes]
    split
    · rename_i hl
      obtain ⟨mode, -, -, -, -, -, result⟩ := State.enterFailsafe_holds (why := .bootDone) service
      exact ⟨result.trans hv.bootResult, fun hn => absurd hn hf, fun _ _ => mode, fun _ hn => absurd hl (by simp [hn])⟩
    · rename_i hl
      obtain ⟨modes, latch, hw⟩ := State.enterIdle_holds (why := .bootDone) service
      have entered : w = v.enterIdle .bootDone := rfl
      clear_value w
      rw [← entered] at modes latch hw
      have hy : Within (parts [.objs, .mram, .freeIdx, .deferred, .afterBoot, .ops, .ints, .met, .net, .hab, .habState]) w
          (if w.portsOpen then (if woke then w.raise Ev.mode 4 else w).announce else w) :=
        .ite ((Within.ite State.raise_within.sub .refl).next State.announce_within) .refl
      refine ⟨(hy.bootResult.trans hw.bootResult).trans hv.bootResult, fun hn => absurd hn hf, fun _ hn => absurd hn hl, fun _ _ =>
        ⟨?_, ?_⟩⟩
      · rw [hy.modes]
        exact congrArg ModeSt.mode modes
      · rw [hy.sup]
        exact latch

/-- In BOOT the load of the configuration starts no SEAL. -/
theorem State.bootLoad_boot (h : s.modes.mode = .boot) : Within (allBut [.modes, .path]) s s.bootLoad := by
  unfold State.bootLoad
  extract_lets a b c d
  have ha : Within (allBut [.modes, .path]) s a := (State.fenceUntrained_quiet (.inr h)).sub.next State.loadConfig_within
  have hb : Within (allBut [.modes, .path]) s b := ha.next State.bootBitIf_within
  have hc : Within (allBut [.modes, .path]) s c := (hb.next State.safeValues_within).foldl fun _ _ => State.buildRail_within.sub
  have hd : Within (allBut [.modes, .path]) s d := hc.next State.recoverJournal_within
  exact .ite (hd.next State.journalEvent_within) hd

theorem State.bootBit_holds {k : Nat} : bitOf ((s.bootBit k).get K.BOOT_RESULT) k = true := by
  unfold State.bootBit
  rw [State.get_put_self, bitOf_setBit]
  simp

/-- Firmware that fails its check sets bit 7, and the ROM alone runs. -/
theorem State.bootOtp_firmwareBad {rep : BootReport} (h : rep.firmwareBad = true) :
    bitOf ((s.bootOtp rep).get K.BOOT_RESULT) 7 = true ∧ (s.bootOtp rep).sec.romOnly = true := by
  unfold State.bootOtp
  rw [h]
  extract_lets a lc
  split
  extract_lets fs b e f
  have rom : e.sec.romOnly = true := rfl
  have fatal : (fs.any fun x => x.fatal) = true := by
    unfold fs
    simp
  have hf : Within (parts [.objs, .bootResult]) e f := State.bootBitIf_within.next State.bootBitIf_within
  have bit : bitOf (f.get K.BOOT_RESULT) 7 = true := by
    unfold f State.bootBitIf
    rw [fatal, if_pos rfl]
    exact State.bootBit_holds
  clear_value f
  split
  · rw [State.raiseLater_within.bootResult, State.raiseLater_within.sec, hf.sec]
    exact ⟨bit, rom⟩
  · rw [hf.sec]
    exact ⟨bit, rom⟩

/-- BOOT comes to its end in a state with the power path and the FAILSAFE latch as they were. -/
theorem State.bootComplete_bootEnd (rep : BootReport) (hm : s.modes.mode = .boot) (hv : s.path.inService = true) :
    ∃ u : State, s.bootComplete rep = u.bootEnd ∧ u.path.inService = true ∧ u.modes.fsLatched = s.modes.fsLatched ∧
      (rep.firmwareBad = true → bitOf (u.get K.BOOT_RESULT) 7 = true ∧ u.sec.romOnly = true) := by
  unfold State.bootComplete
  rw [if_pos hm]
  extract_lets u v
  have hu : Within (allBut [.modes, .path]) s u := State.bootOasis_within.sub.next State.bootOtp_within
  have bad (h : rep.firmwareBad = true) : bitOf (u.get K.BOOT_RESULT) 7 = true ∧ u.sec.romOnly = true := State.bootOtp_firmwareBad h
  have hx : Within (allBut [.modes, .path]) u v :=
    ((State.bootPll_within.sub.next State.bootBitIf_within).next State.bootBitIf_within).next State.bootBitIf_within
  clear_value u v
  have keeps {w : State} (hw : Within (allBut [.modes, .path]) s w) : w.path.inService = true ∧ w.modes.fsLatched = s.modes.fsLatched :=
    ⟨by rw [hw.path]; exact hv, by rw [hw.modes]⟩
  have good (hf : ¬ u.bootFatal = true) {w : State} (h : rep.firmwareBad = true) :
      bitOf (w.get K.BOOT_RESULT) 7 = true ∧ w.sec.romOnly = true :=
    absurd (State.bootFatal_of_bit (bad h).1) hf
  split
  · exact ⟨u, rfl, (keeps hu).1, (keeps hu).2, bad⟩
  · rename_i hf
    have hvv := hu.trans hx
    split
    · exact ⟨v, rfl, (keeps hvv).1, (keeps hvv).2, good hf⟩
    · have hw := hvv.trans (State.bootLoad_boot (by rw [hvv.modes]; exact hm))
      exact ⟨v.bootLoad, rfl, (keeps hw).1, (keeps hw).2, good hf⟩

/-! ### The clauses together (O9) -/

theorem State.leaveReset_of_vault (hm : s.modes.mode = .vault) (hh : s.modes.hrstLow = false) (hp : s.path.pulse = false) :
    ∃ why, s.leaveReset = s.bootStart (if s.modes.waking = none then 1 else 2) why := by
  unfold State.leaveReset
  rw [if_neg (by simp [hh, hp]), hm]
  cases hw : s.modes.waking with
  | none => exact ⟨.supplyReturn, rfl⟩
  | some hit => exact ⟨.wake, rfl⟩

/-- POR release leaves VAULT where the latch is clear. -/
theorem State.vhkUp_of_vault (hm : s.modes.mode = .vault) (hl : s.modes.vaultLatch = false) (hh : s.modes.hrstLow = false)
    (hp : s.path.pulse = false) :
    ∃ q why, s.vhkUp = ({ s with seq := q } : State).bootStart (if s.modes.waking = none then 1 else 2) why := by
  obtain ⟨why, e⟩ := State.leaveReset_of_vault (s := { s with seq := { s.seq with fogDrive := true } }) hm hh hp
  refine ⟨{ s.seq with fogDrive := true }, why, ?_⟩
  unfold State.vhkUp
  rw [hm]
  dsimp only
  rw [if_neg (by simp [hl])]
  exact e

theorem State.vhkUp_of_ship (hm : s.modes.mode = .ship) (hl : s.modes.shipLatch = false) (hh : s.modes.hrstLow = false)
    (hp : s.path.pulse = false) : ∃ q, s.vhkUp = ({ s with seq := q } : State).bootStart 3 .wake := by
  refine ⟨{ s.seq with fogDrive := true }, ?_⟩
  unfold State.vhkUp State.leaveReset
  rw [hm]
  dsimp only
  rw [if_neg (by simp [hl]), if_neg (by simp [hh, hp])]

/-- A wake source that VAULT always takes. -/
theorem State.wakeMask_vault {sources : Nat} (hm : s.modes.mode = .vault) (h : sources &&& 0x11 ≠ 0) : sources &&& s.wakeMask ≠ 0 := by
  unfold State.wakeMask
  rw [hm]
  dsimp only
  rw [Nat.and_or_distrib_left]
  exact fun h0 => h (Nat.or_eq_zero_iff.1 h0).1

/-- A wake of VAULT while the Keeper is held in reset starts a BOOT. -/
theorem State.wake_held {sources : Nat} (hm : s.modes.mode = .vault) (hl : s.modes.vaultLatch = true) (hr : s.modes.heldReset = true)
    (hw : s.modes.waking = none) (hh : s.modes.hrstLow = false) (hp : s.path.pulse = false) (hf : s.bootFed = true)
    (hs : sources &&& 0x11 ≠ 0) : ∃ u : State, s.wake sources = u.bootStart 2 .wake ∧ u.bootFed = true := by
  unfold State.wake
  extract_lets u hit v w
  have hu : u.bootFed = true ∧ u.path.pulse = false := by
    unfold u
    split
    · rename_i hc
      have cutoff : s.path.cutoff = true := (Bool.and_eq_true_iff.1 hc).2
      refine ⟨?_, hp⟩
      show (!s.modes.vinAbsent1ms || s.path.inService || _) = true
      rw [State.bootFed, cutoff] at hf
      rw [show (!s.modes.vinAbsent1ms || s.path.inService) = true by simpa using hf]
      rfl
    · exact ⟨hf, hp⟩
  have hm' : u.modes = s.modes := (.ite State.modPath_within .refl : Within (parts [.path]) s u).modes
  have mask : hit ≠ 0 := State.wakeMask_vault (by rw [hm']; exact hm) hs
  clear_value u hit
  have noted : v.modes = { u.modes with vaultLatch := false, waking := some hit } :=
    congrArg (fun m : ModeSt => { m with vaultLatch := false, waking := some hit }) State.noteWake_within.modes
  have hv : Within (parts [.objs, .wakeSource, .ints, .net, .deferred, .afterBoot, .modes]) u v :=
    State.noteWake_within.sub.next State.modModes_within
  clear_value v
  refine ⟨v, ?_, ?_⟩
  · rw [if_neg (by simp [mask, hm', hw])]
    simp only [hm', hm, hl]
    rw [if_neg (by decide)]
    exact if_pos (by simp [noted, hv.path, hu.2, hm', hr, hh])
  · rw [State.bootFed, noted, hv.path]
    exact hu.1

/-- Settles O9: each event starts a BOOT in the state it leaves, and what feeds VBUS decides whether the BOOT stays one. -/
theorem bootStartsAndEnds : Obligations.BootStartsAndEnds := by
  refine ⟨⟨fun s hm hl => ?_, fun s hm hl hh hp => ⟨fun hf => ?_, fun hf => ?_⟩, fun s hm hl hh hp hf => ?_,
    fun sources s hm hl hr hw hh hp hf hs => ?_, fun s hm hh hd hr hf => ?_, fun s hm hr hh hp hf => ?_, fun s hh hm => ?_⟩,
    fun rep s hm hv => ?_⟩
  · have e : s.vhkUp = ({ s with seq := { s.seq with fogDrive := true } } : State).modModes fun x => { x with heldReset := true } := by
      unfold State.vhkUp
      rw [hm]
      exact if_pos hl
    exact ⟨_, exec_eq e, rfl, hm, rfl, rfl⟩
  · obtain ⟨q, why, e⟩ := State.vhkUp_of_vault hm hl hh hp
    have start := State.bootStart_fed (s := { s with seq := q }) (cause := if s.modes.waking = none then 1 else 2) (why := why) hf
    generalize ({ s with seq := q } : State).bootStart (if s.modes.waking = none then 1 else 2) why = t at e start
    refine ⟨t, exec_eq e, congrArg ModeSt.mode start.1, start.2.trans ?_⟩
    split <;> rfl
  · obtain ⟨q, why, e⟩ := State.vhkUp_of_vault hm hl hh hp
    have start := State.bootStart_unfed (s := { s with seq := q }) (cause := if s.modes.waking = none then 1 else 2) (why := why) hf
    generalize ({ s with seq := q } : State).bootStart (if s.modes.waking = none then 1 else 2) why = t at e start
    exact ⟨t, exec_eq e, start⟩
  · obtain ⟨q, e⟩ := State.vhkUp_of_ship hm hl hh hp
    have start := State.bootStart_fed (s := { s with seq := q }) (cause := 3) (why := .wake) hf
    generalize ({ s with seq := q } : State).bootStart 3 .wake = t at e start
    exact ⟨t, exec_eq e, congrArg ModeSt.mode start.1, start.2⟩
  · obtain ⟨u, e, fed⟩ := State.wake_held hm hl hr hw hh hp hf hs
    have start := State.bootStart_fed (cause := 2) (why := .wake) fed
    generalize u.bootStart 2 .wake = t at e start
    exact ⟨t, exec_eq e, congrArg ModeSt.mode start.1, start.2, congrArg ModeSt.vaultLatch start.1⟩
  · have e : s.hrstRelease = (s.modModes fun x => { x with hrstLow := false }).bootStart 4 .hrst := by
      unfold State.hrstRelease
      rw [if_neg (by simp [hh])]
      extract_lets u
      rw [show u.modes.mode = .seal from hm]
      exact if_pos (by simp [u, State.modModes, hd, hr])
    have start := State.bootStart_fed (s := s.modModes fun x => { x with hrstLow := false }) (cause := 4) (why := .hrst) hf
    generalize (s.modModes fun x => { x with hrstLow := false }).bootStart 4 .hrst = t at e start
    exact ⟨t, exec_eq e, congrArg ModeSt.mode start.1, start.2, congrArg ModeSt.hrstLow start.1⟩
  · have e : s.heldResetEnds = s.bootStart 5 .supplyReturn := if_pos (by simp [hm, hr, hh, hp])
    have start := State.bootStart_fed (cause := 5) (why := .supplyReturn) hf
    generalize s.bootStart 5 .supplyReturn = t at e start
    exact ⟨t, exec_eq e, congrArg ModeSt.mode start.1, start.2, congrArg ModeSt.heldReset start.1⟩
  · have e : s.heldResetEnds = s := if_neg (by simp [hh])
    exact exec_eq e
  · obtain ⟨u, e, service, latched, bad⟩ := State.bootComplete_bootEnd rep hm hv
    obtain ⟨result, fatal, latch, done⟩ := State.bootEnd_holds service
    generalize u.bootEnd = t at e result fatal latch done
    have word : t.getN K.BOOT_RESULT = u.getN K.BOOT_RESULT := congrArg Int.toNat result
    rw [← latched]
    refine ⟨t, exec_eq e, fun hb => ?_, fun h => ?_, fun h hl => ?_, fun h hl => ?_⟩
    · obtain ⟨bit, rom⟩ := bad hb
      obtain ⟨-, -, -, rom'⟩ := fatal (State.bootFatal_of_bit bit)
      exact ⟨by rw [result]; exact bit, rom'.trans rom⟩
    · obtain ⟨mode, cause, latched', -⟩ := fatal (State.bootFatal_iff.2 (by rw [← word]; exact h))
      exact ⟨mode, cause, latched'⟩
    · exact latch (decide_eq_false (by rw [← word]; simpa using h)) hl
    · exact done (decide_eq_false (by rw [← word]; simpa using h)) hl

end Sys2Proof.Machine
end

section
set_option Elab.async false

namespace Sys2Proof.Machine

variable {s t u : State}

/-! ### Supply loss and HRST begin a SEAL (R45, R189, R392) -/

/-- What comes after the begin of a SEAL and changes nothing of what is off leaves it begun. -/
theorem SealStarts.after (h : SealStarts s t) (hw : Within (allBut [.modes, .met, .sealStage, .rails, .auxs, .phases]) t u) :
    SealStarts s u := by
  obtain ⟨mode, from_, frozen, stage, live, quenched, auxs, phases⟩ := h
  unfold SealStarts State.rail State.aux State.phase
  rw [hw.modes, hw.met, hw.sealStage, hw.rails, hw.auxs, hw.phases]
  exact ⟨mode, from_, frozen, stage, live, quenched, auxs, phases⟩

/-- A supply event while the Keeper is active and not in SEAL begins a SEAL. -/
theorem State.supplyEvent_holds {tr : Trigger} (h : s.activeNotSeal = true) : SealStarts s (s.supplyEvent tr) ∧
    (s.supplyEvent tr).sup.primary = some tr ∧
    ∃ n, (s.supplyEvent tr).modes = { (s.modes.sealBegun s.now).caused (causeOf tr) with sealStart := n } := by
  rw [State.supplyEvent_of_active h]
  exact State.beginSeal_holds

theorem State.activeNotSeal_iff : s.activeNotSeal = true ↔ s.keeperRuns = true ∧ s.modes.mode ≠ .seal := by
  simp [State.activeNotSeal]

theorem State.defer_mem {e : EventObj} {k : Nat} (h : e.key ≠ K.PP_EVENT) : (e.key, k) ∈ (s.defer e k).deferred := by
  unfold State.defer
  rw [if_neg (by simp [h])]
  split
  · rename_i hc
    simpa using hc
  · simp

theorem State.vhkWarning_holds {vhk : Nat} (h : s.activeNotSeal = true) (hh : s.modes.holdup = false) : SupplySeals s (s.vhkWarning vhk) ∧
    (s.vhkWarning vhk).modes.holdup = true ∧ (K.SUP_EVENT, 9) ∈ (s.vhkWarning vhk).deferred := by
  have runs : s.keeperRuns = true := (State.activeNotSeal_iff.1 h).1
  unfold State.vhkWarning
  rw [if_pos (by simp [runs, hh])]
  extract_lets u
  have active : u.activeNotSeal = true := h
  have from_ : ∀ v, SealStarts u v → SealStarts s v := fun v hv => hv
  have holdup : u.modes.holdup = true := rfl
  clear_value u
  obtain ⟨begun, primary, n, modes⟩ := State.supplyEvent_holds (tr := supplyTrigger) active
  change SealStarts u u.supplyLoss at begun
  change u.supplyLoss.sup.primary = _ at primary
  change u.supplyLoss.modes = _ at modes
  generalize u.supplyLoss = v at begun primary modes
  have closed : v.portsOpen = false := by simp [State.portsOpen, modes, ModeSt.caused_mode, ModeSt.sealBegun]
  have later : v.raiseLater Ev.sup 9 = v.defer Ev.sup 9 := if_neg (by simp [closed])
  have hw : Within (parts [.deferred, .afterBoot]) v (v.defer Ev.sup 9) := State.defer_within
  rw [later, SupplySeals, hw.sup, hw.modes, modes]
  exact ⟨⟨from_ _ (begun.after hw.sub), primary, rfl⟩, holdup, State.defer_mem (e := Ev.sup) (by decide)⟩

theorem State.hrstAssert_holds (h : s.activeNotSeal = true) : SealStarts s s.hrstAssert ∧ s.hrstAssert.sup.primary = some hrstTrigger ∧
    s.hrstAssert.modes.sealCauses.hrst = true ∧ s.hrstAssert.modes.hrstLow = true := by
  have runs : s.keeperRuns = true := (State.activeNotSeal_iff.1 h).1
  have act : s.hrstAssert = (s.modModes fun x => { x with hrstLow := true }).supplyEvent hrstTrigger := by
    have mode : s.modes.mode ≠ .vault ∧ s.modes.mode ≠ .ship ∧ s.modes.mode ≠ .dormant := by
      refine ⟨fun hm => ?_, fun hm => ?_, fun hm => ?_⟩ <;> simp [State.keeperRuns, hm] at runs
    unfold State.hrstAssert
    extract_lets u
    split
    · exact absurd ‹_› mode.1
    · exact absurd ‹_› mode.2.1
    · exact absurd ‹_› mode.2.2
    · rfl
  rw [act]
  have active : (s.modModes fun x => { x with hrstLow := true }).activeNotSeal = true := h
  have from_ : ∀ v, SealStarts (s.modModes fun x => { x with hrstLow := true }) v → SealStarts s v := fun v hv => hv
  have low : (s.modModes fun x => { x with hrstLow := true }).modes.hrstLow = true := rfl
  generalize (s.modModes fun x => { x with hrstLow := true }) = u at active from_ low
  obtain ⟨begun, primary, n, modes⟩ := State.supplyEvent_holds (tr := hrstTrigger) active
  rw [primary, modes]
  exact ⟨from_ _ begun, rfl, rfl, low⟩

theorem State.keeperRest_eq : s.keeperRest = { s with path := s.keeperRest.path, seq := s.keeperRest.seq } := rfl

/-- HRST low in DORMANT holds the Keeper in reset. -/
theorem State.hrstAssert_of_dormant (hm : s.modes.mode = .dormant) :
    ∃ p q, s.hrstAssert = { s with modes := { s.modes with hrstLow := true, heldReset := true, waking := none }, path := p, seq := q } := by
  unfold State.hrstAssert
  extract_lets u
  rw [show u.modes.mode = .dormant from hm]
  dsimp only
  rw [State.keeperRest_eq]
  exact ⟨(u.modModes fun x => { x with heldReset := true, waking := none }).keeperRest.path,
    (u.modModes fun x => { x with heldReset := true, waking := none }).keeperRest.seq, rfl⟩

/-! ### VHK below POR (R45, R392) -/

theorem State.loseSupply_holds : s.loseSupply.modes =
      { s.modes with mode := .vault, vaultLatch := false, heldReset := false, sealDone := false, waking := none } ∧
    s.loseSupply.seq.fogDrive = false ∧ s.loseSupply.seq.bellDrive = false ∧ s.loseSupply.rails = s.rails ∧ s.loseSupply.mram = s.mram := by
  unfold State.loseSupply
  extract_lets u v
  rw [State.refreshAux_within.modes, State.refreshAux_within.seq, State.refreshAux_within.rails, State.refreshAux_within.mram]
  exact ⟨rfl, rfl, rfl, rfl, rfl⟩

/-! ### Where a SEAL ends (R54, R190, R191) -/

theorem State.holdReset_holds : s.holdReset.modes.heldReset = true ∧ s.holdReset.modes.mode = s.modes.mode ∧
    s.holdReset.sup.reportDue = true ∧ s.holdReset.rails = s.rails := by
  unfold State.holdReset
  extract_lets u v
  have hu : Within (parts [.sup]) s u := State.modSup_within
  have due : u.sup.reportDue = true := rfl
  have hv : Within (parts [.path, .deferred, .afterBoot]) u v := .ite (State.modPath_within.sub.next State.defer_within) .refl
  clear_value v
  rw [State.refreshAux_within.modes, State.refreshAux_within.sup, State.refreshAux_within.rails]
  refine ⟨rfl, ?_, ?_, ?_⟩
  · show v.modes.mode = _
    rw [hv.modes, hu.modes]
  · show v.sup.reportDue = _
    rw [hv.sup]
    exact due
  · show v.rails = _
    rw [hv.rails, hu.rails]

/-- No session is open, opening or closing, and nothing is being signed. -/
def State.Unsigned (s : State) : Prop := (∀ m, (s.point m).sess = .none) ∧ s.met.jnl.signing = none

theorem State.Unsigned.congr (h : s.Unsigned) (hm : t.met = s.met) : t.Unsigned := by
  unfold State.Unsigned State.point
  rw [hm]
  exact h

theorem State.point_modPoint_self {m : Fin 4} {f : PointSt → PointSt} : (s.modPoint m f).point m = f (s.point m) := by
  simp [State.point, State.modPoint]

theorem State.point_modPoint_ne {m j : Fin 4} {f : PointSt → PointSt} (h : j ≠ m) : (s.modPoint m f).point j = s.point j := by
  simp [State.point, State.modPoint, Fin.val_inj, h.symm]

theorem State.Unsigned.modPoint {m : Fin 4} {f : PointSt → PointSt} (h : s.Unsigned) (hf : (f (s.point m)).sess = (s.point m).sess) :
    (s.modPoint m f).Unsigned := by
  refine ⟨fun j => ?_, h.2⟩
  by_cases hj : j = m
  · subst hj
    rw [State.point_modPoint_self, hf]
    exact h.1 j
  · rw [State.point_modPoint_ne hj]
    exact h.1 j

theorem State.Unsigned.sealStep3 (h : s.Unsigned) : s.sealStep3.Unsigned := by
  unfold State.sealStep3
  refine foldl_keeps (P := State.Unsigned) h fun u m hu => ?_
  extract_lets v
  have hv : v.Unsigned := by
    unfold v
    split
    · exact hu.modPoint rfl
    · exact hu
  refine hv.modPoint ?_
  rw [if_neg (by rw [hv.1 m]; decide)]

theorem State.Unsigned.sealOrder (h : s.Unsigned) : s.sealOrder = [] := by
  unfold State.sealOrder
  obtain ⟨none_, signing⟩ := h
  simp [none_, signing]

/-- The modes' record with the beacon's time saved. -/
def ModeSt.saved (x : ModeSt) (at_ : Option Nat) : ModeSt := { x with beaconSaved := at_ }

/-- With no session to sign the steps of a SEAL lead to its end. -/
theorem State.sealAll_of_unsigned {vhks : List Nat} {vhk : Nat} (h : s.Unsigned) : ∃ u : State, s.sealAll vhks vhk = u.sealNext ∧
    (∃ n, u.modes = s.modes.saved n) ∧ u.path = s.path ∧ u.rails = s.rails := by
  unfold State.sealAll
  extract_lets a
  have ha : Within (allBut [.modes, .path, .rails, .met]) s a := State.sealStep2_within.sub
  have unsigned : a.sealStep3.Unsigned := (h.congr ha.met).sealStep3
  rw [(h.congr ha.met).sealOrder]
  clear_value a
  have hb : Within (allBut [.modes, .path, .rails]) s a.sealStep3 := ha.sub.next State.sealStep3_within
  show ∃ u : State, (let s := a.sealStep3.modSup fun u => { u with vhk := vhk }
    let s := s.setStage 3 vhk
    let s := if 7500 ≤ vhk && !s.modes.holdup then s.sealStep4.setStage 4 vhk else s
    (s.mirTruncate.saveBeacon).sealNext) = u.sealNext ∧ _
  extract_lets b c d
  have hc : Within (allBut [.modes, .path, .rails]) s c := (hb.next State.modSup_within).next State.setStage_within
  have hd : Within (allBut [.modes, .path, .rails]) s d.mirTruncate :=
    (Within.ite ((hc.next State.sealStep4_within).next State.setStage_within) hc).next State.mirTruncate_within
  clear_value d
  refine ⟨_, rfl, ?_, ?_, ?_⟩
  · rw [← hd.modes]
    unfold State.saveBeacon
    split
    · exact ⟨d.mirTruncate.modes.beaconSaved, rfl⟩
    · exact ⟨some d.mirTruncate.now, rfl⟩
  · rw [State.saveBeacon_within.path, hd.path]
  · rw [State.saveBeacon_within.rails, hd.rails]

/-- The floor of a SEAL holds the Keeper in reset, wherever the steps have got to. -/
theorem State.sealFloor_holdReset {steps sessions : Nat} : ∃ u : State, s.sealFloor steps sessions = u.holdReset ∧
    u.modes = s.modes ∧ u.rails = s.rails := by
  have done {u : State} (h : Within (allBut [.modes, .rails]) s u) : ∃ v : State, u.holdReset = v.holdReset ∧ v.modes = s.modes ∧
    v.rails = s.rails :=
    ⟨u, rfl, h.modes, h.rails⟩
  unfold State.sealFloor
  split
  · refine done ?_
    split
    · exact State.tornWrite_within.sub
    · exact .refl
  · split
    rename_i v a e
    have ha : Within (allBut [.modes, .rails]) s a := .of_snd (State.sealStep2_within.sub.next State.fresh_within) e
    extract_lets copying b order c d
    have hb : Within (allBut [.modes, .rails]) s b := .ite (ha.next State.tornCopies_within) (ha.next State.sealStep3_within)
    have hc : Within (allBut [.modes, .rails]) s c := hb.foldl fun _ _ => State.sealSession_within.sub
    have hd : Within (allBut [.modes, .rails]) s d := (hc.foldl fun _ _ => State.sealSession_within.sub).next State.setStage_within
    clear_value b c d
    split
    · refine done ?_
      split
      · exact .ite hc (hc.next State.tornSession_within)
      · exact hc
    · exact done (.ite hd ((hd.next State.sealStep4_within).next State.setStage_within))

/-! ### The clauses together (O10) -/

theorem State.sealNext_supplyLoss (h : s.modes.sealCauses.supplyLoss = true) : s.sealNext = s.holdReset := if_pos h

/-- A SEAL with cause HRST ends in BOOT once the line is high. -/
theorem State.sealNext_hrst (hs : s.modes.sealCauses.supplyLoss = false) (h : s.modes.sealCauses.hrst = true) :
    (s.modes.hrstLow = true → s.sealNext.modes.mode = s.modes.mode ∧ s.sealNext.modes.sealDone = true) ∧
    (s.modes.hrstLow = false → ∃ u : State, s.sealNext = u.bootStart 4 .hrst ∧ u.bootFed = s.bootFed) := by
  unfold State.sealNext
  rw [if_neg (by simp [hs])]
  extract_lets u
  have hm : u.modes = s.modes := rfl
  have fed : u.bootFed = s.bootFed := rfl
  clear_value u
  rw [hm, if_pos h]
  refine ⟨fun hl => ?_, fun hl => ?_⟩
  · rw [if_pos hl]
    exact ⟨(congrArg ModeSt.mode hm : u.modes.mode = _), rfl⟩
  · rw [if_neg (by simp [hl])]
    exact ⟨u, rfl, fed⟩

/-- A SEAL with a rail fault alone ends in FAILSAFE. -/
theorem State.sealNext_railFault (hs : s.modes.sealCauses.supplyLoss = false) (h : s.modes.sealCauses.hrst = false) :
    ∃ u : State, s.sealNext = u.enterFailsafe .sealDone ∧ u.path.inService = s.path.inService := by
  unfold State.sealNext
  rw [if_neg (by simp [hs])]
  extract_lets u
  have hm : u.modes = s.modes := rfl
  have service : u.path.inService = s.path.inService := rfl
  clear_value u
  rw [hm, if_neg (by simp [h])]
  exact ⟨u, rfl, service⟩

/-- Settles O10: a supply event begins a SEAL of its own cause, and with nothing to sign the causes alone say where it ends. -/
theorem supplyAndHrstSeal : Obligations.SupplyAndHrstSeal := by
  refine ⟨⟨fun vhk s h hh => ?_, fun s h => ?_, fun s hm => ?_, fun s hm => ?_⟩,
    fun vhks vhk s hm hr hd hn hj => ?_, fun steps sessions s hm hr hd => ?_⟩
  · exact ⟨_, exec_eq rfl, State.vhkWarning_holds h hh⟩
  · exact ⟨_, exec_eq rfl, State.hrstAssert_holds h⟩
  · obtain ⟨p, q, e⟩ := State.hrstAssert_of_dormant hm
    exact ⟨_, exec_eq e, rfl, rfl, hm, rfl⟩
  · obtain ⟨q, e, rails, mram⟩ : ∃ q : State, s.vhkDown = q.loseSupply ∧ q.rails = s.rails ∧ q.mram = s.mram := by
      unfold State.vhkDown
      rcases hm with hm | hm <;> rw [hm] <;> exact ⟨_, rfl, rfl, rfl⟩
    obtain ⟨modes, fog, bell, rails', mram'⟩ := State.loseSupply_holds (s := q)
    generalize q.loseSupply = t at e modes fog bell rails' mram'
    exact ⟨t, exec_eq e, congrArg ModeSt.mode modes, congrArg ModeSt.vaultLatch modes, congrArg ModeSt.heldReset modes, fog, bell,
      rails'.trans rails, mram'.trans mram⟩
  · obtain ⟨u, e, ⟨n, modes⟩, path, rails⟩ := State.sealAll_of_unsigned (vhks := vhks) (vhk := vhk) ⟨hn, hj⟩
    have act : (if s.sealing then s.sealAll vhks vhk else s) = u.sealNext := by
      rw [if_pos (by simp [State.sealing, hm, hr, hd]), e]
    have mode : u.modes.mode = .seal := by rw [modes]; exact hm
    have fed : u.bootFed = s.bootFed := by
      unfold State.bootFed
      rw [modes, path]
      rfl
    have low : u.modes.hrstLow = s.modes.hrstLow := by rw [modes]; rfl
    have causes : u.modes.sealCauses = s.modes.sealCauses := by rw [modes]; rfl
    rw [← causes, ← fed, ← low, ← path, ← rails]
    refine ⟨fun hs => ?_, fun hs hc => ⟨fun hl hf => ?_, fun hl => ?_⟩, fun hs hc hv => ?_⟩
    · rw [State.sealNext_supplyLoss hs] at act
      obtain ⟨held, mode', due, rails'⟩ := State.holdReset_holds (s := u)
      generalize u.holdReset = t at act held mode' due rails'
      exact ⟨t, exec_eq act, held, mode'.trans mode, due, rails'⟩
    · obtain ⟨v, e', fed'⟩ := (State.sealNext_hrst hs hc).2 hl
      rw [e'] at act
      have start := State.bootStart_fed (s := v) (cause := 4) (why := .hrst) (fed'.trans hf)
      generalize v.bootStart 4 .hrst = t at act start
      exact ⟨t, exec_eq act, congrArg ModeSt.mode start.1, start.2⟩
    · obtain ⟨mode', done⟩ := (State.sealNext_hrst hs hc).1 hl
      generalize u.sealNext = t at act mode' done
      exact ⟨t, exec_eq act, mode'.trans mode, done⟩
    · obtain ⟨v, e', service⟩ := State.sealNext_railFault hs hc
      rw [e'] at act
      obtain ⟨mode', -, latch, frozen, -⟩ := State.enterFailsafe_holds (why := .sealDone) (service.trans hv)
      generalize v.enterFailsafe .sealDone = t at act mode' latch frozen
      exact ⟨t, exec_eq act, mode', latch, frozen⟩
  · obtain ⟨u, e, modes, rails⟩ := State.sealFloor_holdReset (s := s) (steps := steps) (sessions := sessions)
    have act : (if s.sealing then s.sealFloor steps sessions else s) = u.holdReset := by
      rw [if_pos (by simp [State.sealing, hm, hr, hd]), e]
    obtain ⟨held, mode', due, rails'⟩ := State.holdReset_holds (s := u)
    generalize u.holdReset = t at act held mode' due rails'
    exact ⟨t, exec_eq act, held, by rw [mode', modes]; exact hm, due, rails'.trans rails⟩

end Sys2Proof.Machine
end

section
set_option Elab.async false

namespace Sys2Proof.Machine

variable {s t u : State}

/-! ### A commit that lands while a sequence fault starts SEAL (O21) -/

/-- A Keeper in SERVICE whose first group waits for the bell, while the first stage of a commit is under way that has staged 0 for the code
of the last sequence fault. -/
def bellWhileCommitting : State :=
  let s := State.reset.modGroup 0 fun x => { x with stage := .bell }
  { s with modes := { s.modes with mode := .service }, cfg := { s.cfg with phase := .stage1, staged := [(K.SEQ_FAULT_CODE, 0)] } }

/-- Everything-off completes the commit after the fault is recorded, so that the staged value stands. -/
theorem bellTimeout_lands_staged_code : bellWhileCommitting.bellTimeout.get K.SEQ_FAULT_CODE = 0 := by decide +kernel

/-- Refutes O21: the statement asks nothing of the commit under way, and a commit that has staged the code of the last sequence fault lands
it when the fault starts SEAL. -/
theorem not_faultsStartSeal : ¬ Obligations.FaultsStartSeal := by
  intro h
  obtain ⟨-, -, bell, -⟩ := h
  obtain ⟨t, run, -, code, -⟩ := bell 0 bellWhileCommitting (by decide) (by decide)
  have e : exec .bellTimeout bellWhileCommitting = .next bellWhileCommitting.bellTimeout := rfl
  rw [← Host.Outcome.next.inj (e.symm.trans run), bellTimeout_lands_staged_code] at code
  exact absurd code (by decide)

end Sys2Proof.Machine
end

section
set_option Elab.async false

namespace Sys2Proof.Machine

variable {s t u : State}

/-! ### The battery's state after a probe (R230) -/

theorem State.abortRest_of_ne (h : s.path.st ≠ .rest) : s.abortRest = s := if_neg h

/-- Outside a rest window a swap of the battery leaves the path. -/
theorem State.swap_path (h : s.path.st ≠ .rest) : s.swap.path = s.path := by
  unfold State.swap State.swapData
  extract_lets u v w
  have hb : ((s.raise Ev.est 5).bump K.EST_SWAP_COUNT).path = s.path := by rw [State.bump_within.path, State.raise_path]
  have hu : u.path = s.path := by
    unfold u
    rw [State.abortRest_of_ne (by rw [hb]; exact h), hb]
  have hv : Within (parts [.est]) u v := State.modEst_within
  have hw : Within (parts [.objs, .est]) v w :=
    (State.puts_keys (keys := [K.EST_CAPACITY, K.EST_CYCLES, K.EST_CYCLE_RESIDUE]) rfl).sub.next State.modEst_within
  clear_value u v w
  split
  · exact hv.path.trans hu
  · refine (Within.path (F := parts [.objs, .est]) (s := v) ?_).trans (hv.path.trans hu)
    exact hw.foldl fun _ _ => State.defaultRow_within.sub.next State.modEst_within

/-- The power path with the battery's state and its run of probes that found it. -/
def PathSt.found (x : PathSt) (b : BatState) (n : Nat) : PathSt := { x with bat := b, presentRun := n }

theorem State.setBat_missing : (s.setBat .missing).path = s.path.found .missing 0 := by
  unfold State.setBat
  extract_lets old u v
  have hu : u.path = s.path.found .missing 0 := State.endPending_within.path
  clear_value u
  dsimp only
  split
  · exact hu
  · rw [State.raise_path]
    exact hu

theorem State.setBat_shorted : (s.setBat .shorted).path = s.path.found .shorted 0 := by
  unfold State.setBat
  exact State.endPending_within.path

/-- A battery that was missing counts as present at the second probe that finds it. -/
theorem State.setBat_present (h : s.path.st ≠ .rest) : (s.setBat .present).path =
    if (s.path.bat = .missing ∨ s.path.bat = .shorted) ∧ s.path.presentRun = 0 then s.path.found s.path.bat 1
    else s.path.found .present 0 := by
  unfold State.setBat
  extract_lets old u v
  have hv : v.path = s.path.found .present 0 := rfl
  have hs : v.path.st ≠ .rest := h
  clear_value v
  dsimp only
  by_cases hb : s.path.bat = .missing ∨ s.path.bat = .shorted
  · rw [if_pos (by simpa [old] using hb)]
    by_cases hr : s.path.presentRun = 0
    · rw [if_neg (by omega), if_pos ⟨hb, hr⟩]
      rfl
    · rw [if_pos (by omega), if_neg (c := _ ∧ _) fun hc => hr hc.2]
      split
      · rw [State.cyclePending_within.path, State.swap_path (by rw [State.raise_path]; exact hs), State.raise_path, hv]
      · exact hv
  · rw [if_neg (by simpa [old] using hb), if_neg (c := _ ∧ _) fun hc => hb hc.1]
    rfl

theorem State.batUnusable_of_vin (h : s.path.st = .vin) : s.batUnusable = s := by
  unfold State.batUnusable
  rw [h]

/-- What a probe's pulse tells. -/
def State.probeTells (s : State) (rise endV : Int) : BatState :=
  if 250 < rise then .missing else if endV < 400 * s.get K.PP_CELLS then .shorted else .present

/-- A probe's outcome changes nothing of the path but the battery's state and its run. -/
theorem State.setBat_keeps {α : Type} (g : PathSt → α) (hg : ∀ x b n, g (x.found b n) = g x) {f : BatState}
    (hf : f = .missing ∨ f = .shorted ∨ f = .present) (h : s.path.st ≠ .rest) : g (s.setBat f).path = g s.path := by
  rcases hf with rfl | rfl | rfl
  · rw [State.setBat_missing, hg]
  · rw [State.setBat_shorted, hg]
  · rw [State.setBat_present h]
    split <;> exact hg ..

theorem State.probeTells_cases {rise endV : Int} :
    s.probeTells rise endV = .missing ∨ s.probeTells rise endV = .shorted ∨ s.probeTells rise endV = .present := by
  unfold State.probeTells
  split
  · exact .inl rfl
  · split
    · exact .inr (.inl rfl)
    · exact .inr (.inr rfl)

/-- The power path once a probe is over. -/
def PathSt.probed (x : PathSt) : PathSt := { x with probing := false }

/-- The outcome of a probe while the path is on VIN: the battery's state alone is judged. -/
theorem State.probeResult_holds {rise endV : Int} (hp : s.path.probing = true) (hk : s.keeperRuns = true) (hb : s.batfetClosed = true)
    (hv : s.path.st = .vin) : ∃ u : State, u.path = s.path.probed ∧
      (s.probeResult rise endV).path = (State.setBat u (s.probeTells rise endV)).path ∧
      (s.probeResult rise endV).modes = s.modes ∧ (s.probeResult rise endV).rails = s.rails := by
  unfold State.probeResult
  rw [if_neg (by simp [hp])]
  extract_lets u f v
  have hu : u.path = s.path.probed := rfl
  have hm : u.modes = s.modes := rfl
  have hr : u.rails = s.rails := rfl
  have tells : f = s.probeTells rise endV := rfl
  have runs : u.keeperRuns = true := hk
  have closed : u.batfetClosed = true := hb
  have st : u.path.st = .vin := hv
  have hw : Within (parts [.objs, .deferred, .afterBoot, .ints, .path, .chg, .est, .net]) u v.chargerEval :=
    State.setBat_within.sub.next State.chargerEval_within
  have hf : f = .missing ∨ f = .shorted ∨ f = .present := tells ▸ State.probeTells_cases
  clear_value f u
  rw [if_neg (by simp [runs, closed])]
  have st' : v.chargerEval.path.st = .vin := by
    rw [State.chargerEval_within.path, State.setBat_keeps PathSt.st (fun _ _ _ => rfl) hf (by rw [st]; decide), st]
  rw [State.batUnusable_of_vin st', State.chargerEval_within.path, hw.modes, hw.rails, hm, hr, ← tells]
  exact ⟨u, hu, rfl, rfl, rfl⟩

/-! ### Rest windows (R231, R232) -/

theorem State.pathTo_st {st : PathState} : (s.pathTo st).path.st = st := by
  unfold State.pathTo
  extract_lets was u dis v
  have hv : v.path.st = st := rfl
  clear_value v
  split
  · exact hv
  · split <;> exact hv

theorem State.leaveRest_holds {st : PathState} : (s.leaveRest st).path.st = st ∧ (s.leaveRest st).path.restHold = false ∧
    (s.portsOpen = true → (s.leaveRest st).Shows Ev.pp 7) := by
  unfold State.leaveRest
  have hp : Within (parts [.path, .est]) s ((s.pathTo st).modPath fun x => { x with restHold := false }) :=
    State.pathTo_within.sub.next State.modPath_within
  rw [State.raiseLater_within.path]
  refine ⟨?_, rfl, fun ho => ?_⟩
  · exact State.pathTo_st
  · have open_ : ((s.pathTo st).modPath fun x => { x with restHold := false }).portsOpen = true := by
      unfold State.portsOpen
      rw [hp.modes]
      exact ho
    rw [State.raiseLater, if_pos open_]
    exact State.raise_bit _ Ev.pp 7 rfl (by decide)

/-! ### The push button (R53, R233, R234) -/

/-- A press wakes nothing but VAULT, SHIP and DORMANT. -/
theorem State.wake_of_portsOpen {sources : Nat} (h : s.portsOpen = true) (hb : sources.testBit 4 = false) : s.wake sources = s := by
  have mask : s.wakeMask = 0 := by
    unfold State.portsOpen at h
    unfold State.wakeMask
    split <;> simp_all
  unfold State.wake
  extract_lets u hit
  have hu : u = s := if_neg (by simp [hb])
  rw [if_pos (by simp [hit, hu, mask])]
  exact hu

theorem State.fsClearEvent_of_clear {why : Reason} (hm : s.modes.mode ≠ .failsafe) (hl : s.modes.fsLatched = false) :
    s.fsClearEvent why = s := by
  unfold State.fsClearEvent
  rw [if_neg hm, if_neg (by simp [hl])]

theorem State.raise_objectsKept {e : EventObj} {k : Nat} : ObjectsKept s (s.raise e k) (eventObjects e) := fun key hk => by
  simp only [eventObjects, List.mem_cons, List.not_mem_nil, or_false, not_or] at hk
  obtain ⟨h₁, h₂, h₃⟩ := hk
  exact State.raise_get_ne s e k h₁ h₂ h₃

/-- A wake that is noted changes the modes' record as it says, and nothing of the path, the rails or MRAM. -/
theorem State.noteWake_holds {hit : Nat} (f : ModeSt → ModeSt) :
    ((((s.put K.WAKE_SOURCE hit).bump K.WAKE_COUNT).modModes f).modes = f s.modes) ∧
    (((s.put K.WAKE_SOURCE hit).bump K.WAKE_COUNT).modModes f).get K.WAKE_SOURCE = hit ∧
    Within (parts [.objs, .wakeSource, .ints, .net, .deferred, .afterBoot, .modes]) s
      (((s.put K.WAKE_SOURCE hit).bump K.WAKE_COUNT).modModes f) :=
  ⟨congrArg f State.noteWake_within.modes, (State.modModes_get ..).trans State.noteWake_get,
    State.noteWake_within.sub.next State.modModes_within⟩

/-- A press in VAULT is noted as a wake. -/
theorem State.wake_vault {sources : Nat} (hm : s.modes.mode = .vault) (hl : s.modes.vaultLatch = true) (hr : s.modes.heldReset = false)
    (hw : s.modes.waking = none) (hb : sources.testBit 4 = false) (hs : sources &&& s.wakeMask = sources) (h0 : sources ≠ 0) :
    s.wake sources = ((s.put K.WAKE_SOURCE sources).bump K.WAKE_COUNT).modModes fun x =>
      { x with vaultLatch := false, waking := some sources } := by
  unfold State.wake
  extract_lets u hit v
  have hu : u = s := if_neg (by simp [hb])
  have hh : hit = sources := by
    unfold hit
    rw [hu, hs]
  have hv : v = ((s.put K.WAKE_SOURCE sources).bump K.WAKE_COUNT).modModes fun x =>
    { x with vaultLatch := false, waking := some sources } := by
    unfold v
    rw [hh, hu]
  have modes : v.modes = { s.modes with vaultLatch := false, waking := some sources } := by
    rw [hv]
    exact (State.noteWake_holds _).1
  clear_value u hit v
  rw [← hv, hu, hh, if_neg (by simp [h0, hw]), hm]
  dsimp only
  rw [if_neg (by simp [hl]), if_neg (by simp [modes, hr])]

/-- A long press in SHIP is noted as a wake that ends it. -/
theorem State.wake_ship (hm : s.modes.mode = .ship) (hw' : s.modes.waking = none) :
    s.wake 0x200 = ((s.put K.WAKE_SOURCE ((0x200 : Nat) : Int)).bump K.WAKE_COUNT).modModes fun x =>
      { x with shipLatch := false, waking := some 0x200 } := by
  have mask : 0x200 &&& s.wakeMask = 0x200 := by
    rw [State.wakeMask, hm]
    show 0x200 &&& 0x210 = 0x200
    decide
  unfold State.wake
  extract_lets u hit v w
  have hu : u = s := if_neg (by simp [show (0x200 : Nat).testBit 4 = false from rfl])
  have hh : hit = 0x200 := by
    unfold hit
    rw [hu, mask]
  have hw : w = ((s.put K.WAKE_SOURCE ((0x200 : Nat) : Int)).bump K.WAKE_COUNT).modModes fun x =>
    { x with shipLatch := false, waking := some 0x200 } := by
    unfold w
    rw [hh, hu]
  clear_value u hit w
  rw [← hw, hu, hh, if_neg (by simp [hw']), hm]
  rfl

theorem State.wakeMask_vault_press (hm : s.modes.mode = .vault) : 1 &&& s.wakeMask = 1 := by
  have bit : ∀ x, 1 &&& (0x11 ||| x) = 1 := fun x => by
    rw [Nat.and_or_distrib_left, Nat.one_and_eq_mod_two x]
    rcases Nat.mod_two_eq_zero_or_one x with h | h <;> rw [h]
    · rfl
    · rfl
  rw [State.wakeMask, hm]
  exact bit _

theorem State.keeperRuns_of_portsOpen (h : s.portsOpen = true) (hr : s.modes.heldReset = false) : s.keeperRuns = true := by
  unfold State.portsOpen at h
  unfold State.keeperRuns
  split <;> simp_all

/-- A short press is reported. -/
theorem State.pbShort_of_portsOpen (hp : s.path.pbPressed = true) (ho : s.portsOpen = true) (hr : s.modes.heldReset = false) :
    s.pbShort = ((s.modPath fun x => { x with pbPressed := false }).raise Ev.pp 5).fsClearEvent .fsClearPb := by
  unfold State.pbShort
  rw [if_neg (by simp [hp])]
  extract_lets u
  have runs : u.keeperRuns = true := State.keeperRuns_of_portsOpen (s := u) ho hr
  rw [if_pos runs, State.raiseLater, if_pos (show u.portsOpen = true from ho)]

/-- A long press outside SHIP opens BATFET; with the path on VIN nothing else follows. -/
theorem State.pbLong_of_vin (hm : s.modes.mode ≠ .ship) (hs : s.path.inService = true) (hv : s.path.st = .vin) :
    s.pbLong = s.modPath fun x => { x with pulse := true, pulseOpen := true, pbReset := true } := by
  unfold State.pbLong
  rw [if_neg hm]
  extract_lets u
  have st : u.path.st = .vin := hv
  have service : u.path.inService = true := hs
  split
  · rw [State.batUnusable_of_vin st, State.supplyLevels_of_inService service]
  · rfl

/-- A rest window opens. -/
theorem State.restEnter_holds (hp : s.est.pending = true) (hv : s.path.st = .vin) (ha : s.restAllowed = true) :
    s.restEnter.path.st = .rest ∧ s.restEnter.path.restHold = true ∧ s.restEnter.est.pending = false ∧ s.restEnter.Shows Ev.pp 7 ∧
      s.restEnter.modes = s.modes ∧ s.restEnter.rails = s.rails ∧ s.restEnter.chg = s.chg := by
  unfold State.restEnter
  rw [if_pos (by simp [hp, hv, ha])]
  have hu : Within (parts [.path, .est]) s (s.pathTo .rest) := State.pathTo_within
  have st : (s.pathTo .rest).path.st = .rest := State.pathTo_st
  generalize s.pathTo .rest = u at hu st
  rw [State.raise_path, State.raise_est, State.raise_modes, State.raise_rails, State.raise_chg]
  exact ⟨st, rfl, rfl, State.raise_bit _ Ev.pp 7 rfl (by decide), hu.modes, hu.rails, hu.chg⟩

/-! ### The clauses together (O35) -/

/-- Settles O35: each event of the battery path and of the button changes the records that its function names. -/
theorem batteryProbeRestAndButton : Obligations.BatteryProbeRestAndButton := by
  refine ⟨⟨fun on s hv => ?_, fun s hk hb ho hp => ?_, fun rise endV s hp hk hb hv => ?_, fun s hp hv ha => ?_, fun s hv => ?_⟩,
    fun s ho => ?_, fun s hm hl hr hw => ?_, fun s hp ho hr hl hm => ?_, fun s hp hm hr hc hv => ?_, fun s hm hw => ?_,
    fun s hm hs hv => ?_, fun s hp => ?_⟩
  · have e : ((s.modPath fun x => { x with batpathOn := on && !s.path.restHold }).modEst fun e =>
        { e with batpathSeen := e.batpathSeen || (on && !s.path.restHold) }).pathEval = _ := State.pathEval_of_inService hv
    exact ⟨_, exec_eq e, rfl, rfl, rfl⟩
  · have e : s.startProbe = _ := if_pos (by simp [hk, hb, ho, hp])
    exact ⟨_, exec_eq e, rfl, rfl, rfl, rfl⟩
  · obtain ⟨u, hu, path, modes, rails⟩ := State.probeResult_holds (rise := rise) (endV := endV) hp hk hb hv
    have rest : u.path.st ≠ .rest := by
      rw [hu]
      exact fun h => absurd (hv.symm.trans h) (by decide)
    have bat : u.path.bat = s.path.bat ∧ u.path.presentRun = s.path.presentRun := by rw [hu]; exact ⟨rfl, rfl⟩
    have probed : (s.probeResult rise endV).path.probing = false := by
      rw [path, State.setBat_keeps PathSt.probing (fun _ _ _ => rfl) State.probeTells_cases rest, hu]
      rfl
    have e : exec (.probeResult rise endV) s = .next (s.probeResult rise endV) := rfl
    generalize s.probeResult rise endV = t at e path modes rails probed
    refine ⟨t, e, probed, fun hm => ?_, fun hr hs => ?_, fun hr he => ⟨fun hc => ?_, fun hb hn => ?_⟩, modes, rails⟩
    · rw [path, State.probeTells, if_pos hm, State.setBat_missing]
      rfl
    · rw [path, State.probeTells, if_neg (by omega), if_pos hs, State.setBat_shorted]
      rfl
    · rw [path, State.probeTells, if_neg (by omega), if_neg (by omega), State.setBat_present rest, bat.1, bat.2, if_neg]
      · rfl
      · rintro ⟨h, h0⟩
        rcases hc with hc | hc
        · rw [hc] at h
          exact absurd h (by decide)
        · omega
    · rw [path, State.probeTells, if_neg (by omega), if_neg (by omega), State.setBat_present rest, bat.1, bat.2, if_pos ⟨.inl hb, hn⟩]
      exact ⟨hb, rfl⟩
  · have holds := State.restEnter_holds hp hv ha
    have e : exec .restEnter s = .next s.restEnter := rfl
    generalize s.restEnter = t at e holds
    exact ⟨t, e, holds⟩
  · have e : s.restEnd = s.leaveRest .vin := if_pos hv
    obtain ⟨st, hold, shows⟩ := State.leaveRest_holds (s := s) (st := .vin)
    have hw : Within (parts [.objs, .deferred, .afterBoot, .ints, .path, .est, .net]) s (s.leaveRest .vin) := State.leaveRest_within
    generalize s.leaveRest .vin = t at e st hold shows hw
    exact ⟨t, exec_eq e, st, hold, shows, hw.modes, hw.rails, hw.chg⟩
  · have e : s.pbPress = _ := State.wake_of_portsOpen (s := s.modPath fun x => { x with pbPressed := true }) ho (by decide)
    exact ⟨_, exec_eq e, rfl, rfl⟩
  · have e : s.pbPress = _ := State.wake_vault (s := s.modPath fun x => { x with pbPressed := true }) (sources := 1) hm hl hr hw (by decide)
      (State.wakeMask_vault_press hm) (by decide)
    obtain ⟨modes, source, hw'⟩ := State.noteWake_holds (s := s.modPath fun x => { x with pbPressed := true }) (hit := 1)
      fun x => { x with vaultLatch := false, waking := some 1 }
    have path := hw'.path
    have rails := hw'.rails
    generalize (((s.modPath fun x => { x with pbPressed := true }).put K.WAKE_SOURCE ((1 : Nat) : Int)).bump K.WAKE_COUNT).modModes
      (fun x => { x with vaultLatch := false, waking := some 1 }) = t at e modes source path rails
    exact ⟨t, exec_eq e, congrArg PathSt.pbPressed path, source, congrArg ModeSt.vaultLatch modes, congrArg ModeSt.waking modes,
      (congrArg ModeSt.mode modes).trans hm, rails⟩
  · have e := State.pbShort_of_portsOpen hp ho hr
    rw [State.fsClearEvent_of_clear (by rw [State.raise_modes]; exact hm) (by rw [State.raise_modes]; exact hl)] at e
    have shows : ((s.modPath fun x => { x with pbPressed := false }).raise Ev.pp 5).Shows Ev.pp 5 :=
      State.raise_bit _ Ev.pp 5 rfl (by decide)
    refine ⟨_, exec_eq e, ?_, shows, ?_, ?_, State.raise_objectsKept (s := s.modPath fun x => { x with pbPressed := false })⟩
    · rw [State.raise_path]
      rfl
    · rw [State.raise_modes]
      rfl
    · rw [State.raise_rails]
      rfl
  · have open_ : s.portsOpen = true := by rw [State.portsOpen, hm]
    have e := State.pbShort_of_portsOpen hp open_ hr
    generalize hu : (s.modPath fun x => { x with pbPressed := false }).raise Ev.pp 5 = u at e
    have hw : Within (parts [.objs, .path, .ints, .net]) s u := hu ▸ State.modPath_within.sub.next State.raise_within
    have path : u.path.inService = true := by rw [← hu, State.raise_path]; exact hv
    have act : u.fsClearEvent .fsClearPb = u.fsClear .fsClearPb := if_pos (by rw [hw.modes]; exact hm)
    have holds := State.fsClear_holds (why := .fsClearPb) (by rw [hw.modes]; exact hm) path (by rw [hw.fsCause]; exact hc)
    rw [act] at e
    generalize u.fsClear .fsClearPb = t at e holds
    exact ⟨t, exec_eq e, holds⟩
  · have e : s.pbLong = _ := (if_pos hm).trans (State.wake_ship hm hw)
    obtain ⟨modes, source, hw'⟩ := State.noteWake_holds (s := s) (hit := 0x200) fun x => { x with shipLatch := false, waking := some 0x200 }
    have rails := hw'.rails
    have mram := hw'.mram
    generalize ((s.put K.WAKE_SOURCE ((0x200 : Nat) : Int)).bump K.WAKE_COUNT).modModes
      (fun x => { x with shipLatch := false, waking := some 0x200 }) = t at e modes source rails mram
    exact ⟨t, exec_eq e, congrArg ModeSt.shipLatch modes, congrArg ModeSt.waking modes, source, rails, mram⟩
  · have e := State.pbLong_of_vin hm hs hv
    exact ⟨_, exec_eq e, rfl, rfl, by simp [State.batfetClosed, State.modPath], hv, rfl⟩
  · have e : s.pulseRelease = _ := if_pos hp
    exact ⟨_, exec_eq e, rfl, rfl, rfl⟩

end Sys2Proof.Machine
end

section
set_option Elab.async false

namespace Sys2Proof.Machine

variable {s t u : State}

/-! ### A capture that has ended but still waits for its rotation (O60) -/

/-- A capture that has ended takes no trigger. -/
theorem State.writeMirArm_trigger_of_ended {acc : Accessor} {d : ObjDef} (hr : s.reachWrite acc K.MIR_ARM 1 = .ok d)
    (hi : s.installerUp acc = true) (he : s.mir.ended.isNone = false) : s.writeMirArm acc 0x3C = .ok (s, .done) := by
  have idle : s.mirTrigger s.now = s := if_neg (by simp [he])
  simp [State.writeMirArm, hr, hi, idle]

/-- A Keeper in IDLE whose capture was stopped while it was armed and has not been rotated yet. -/
def armedAndStopped : State :=
  let s := State.reset
  { s with modes := { s.modes with mode := .idle }, mir := { s.mir with st := .armed, ended := some .stopped } }

/-- Refutes O60: a stop leaves an armed capture ARMED until its rotation, and the clause for the trigger by command does not ask that the
capture has not ended; such a trigger changes nothing. -/
theorem not_requestsSessionsCaptures : ¬ Obligations.RequestsSessionsCaptures := by
  intro h
  obtain ⟨-, -, -, capture, -⟩ := h
  obtain ⟨d, hr⟩ : ∃ d, armedAndStopped.reachWrite .spi K.MIR_ARM 1 = .ok d := by
    have reached : (armedAndStopped.reachWrite .spi K.MIR_ARM 1).toOption.isSome = true := by decide
    cases he : armedAndStopped.reachWrite .spi K.MIR_ARM 1 with
    | ok d => exact ⟨d, rfl⟩
    | error e =>
      rw [he] at reached
      exact absurd reached (by simp [Except.toOption])
  obtain ⟨-, -, trigger⟩ := capture .spi d armedAndStopped rfl hr rfl
  obtain ⟨t, run, -, triggered⟩ := trigger rfl
  have e : armedAndStopped.access .spi (fun s => s.writeMirArm .spi 0x3C) = { armedAndStopped with answer := .done } :=
    State.access_ok _ rfl (State.writeMirArm_trigger_of_ended hr rfl rfl)
  have run' : exec (.mirTriggerCmd .spi) armedAndStopped = .next { armedAndStopped with answer := .done } := exec_eq e
  rw [← Host.Outcome.next.inj (run'.symm.trans run)] at triggered
  exact absurd triggered (by decide)

end Sys2Proof.Machine
end

section
set_option Elab.async false

namespace Sys2Proof.Machine

variable {s t u : State}

variable {F : Parts}

/-! ### What every command keeps: the queue, the bound of the history and the canonical form -/

/-- Nothing is claimed of any part; the queue and the history's bound are kept all the same. -/
def anyPart : Parts := allBut []

theorem Within.any (h : Within F s t) : Within anyPart s t :=
  ⟨h.queue, h.bound, h.canonical, fun p hp => absurd hp (by cases p <;> decide)⟩

theorem Within.then (h : Within anyPart s t) (h' : Within F t u) : Within anyPart s u := h.trans h'.any

theorem Within.answer {x : Answer} (h : Within anyPart s t) : Within anyPart s { t with answer := x } := h.then set_answer

/-- An access that is carried out keeps the queue and the history's bound. -/
def Res.Kept (s : State) (r : Res) : Prop := ∀ t a, r = .ok (t, a) → Within anyPart s t

/-- A command that completes keeps the queue and the history's bound. -/
def Out.Kept (s : State) (o : Out) : Prop := ∀ t, o = .next t → Within anyPart s t

namespace Res.Kept

variable {r r' : Res}

theorem ok {a : Answer} (h : Within anyPart s t) : Res.Kept s (.ok (t, a)) := by
  rintro _ _ ⟨⟩
  exact h

theorem pair {p : State × Answer} (h : Within anyPart s p.1) : Res.Kept s (.ok p) := ok h

theorem error {e : Abort} : Res.Kept s (.error e) := fun _ _ h => by cases h

theorem ite {c : Prop} [Decidable c] (h : Res.Kept s r) (h' : Res.Kept s r') : Res.Kept s (if c then r else r') := by
  split
  · exact h
  · exact h'

theorem trans (h : Within anyPart s u) (k : Res.Kept u r) : Res.Kept s r := fun t a e => h.trans (k t a e)

/-- A check that refuses or passes on to the rest. -/
theorem check {α : Type} {x : Except Abort α} {f : α → Res} (h : ∀ y, Res.Kept s (f y)) :
    Res.Kept s (match x with | .error e => .error e | .ok y => f y) := by
  split
  · exact error
  · exact h _

theorem writeVia {acc : Accessor} {key n : Nat} {f : State → Res} (h : Res.Kept s (f s)) : Res.Kept s (s.writeVia acc key n f) := by
  unfold State.writeVia
  split
  · exact error
  · exact ite h error

theorem withTag {acc : Accessor} {kind : OpKind} {key : Nat} {f : State → Nat → State} (h : ∀ u n, Within anyPart u (f u n)) :
    Res.Kept s (s.withTag acc kind key f) := by
  unfold State.withTag
  split
  · exact error
  · rename_i u n e
    exact ok ((State.allocTag_some_within e).any.trans (h u n))

end Res.Kept

theorem Out.Kept.next (h : Within anyPart s t) : Out.Kept s (.next t) := by
  rintro _ ⟨⟩
  exact h

/-! The ways a port reaches an access. -/

theorem State.access_within {acc : Accessor} {f : State → Res} (h : Res.Kept s (f s)) : Within anyPart s (s.access acc f) := by
  unfold State.access
  split
  · split
    · rename_i e
      exact (h _ _ e).then Within.set_answer
    · exact State.countFull_within.any.next Within.set_answer
    · exact Within.set_answer.any
  · split
    · split <;> exact Within.set_answer.any
    · exact Within.set_answer.any

theorem State.accessBoth_within {acc : Accessor} {f : State → State × Answer} (h : Within anyPart s (f s).1) :
    Within anyPart s (s.accessBoth acc f) := by
  unfold State.accessBoth
  split
  · split
    rename_i t a e
    have ht : Within anyPart s t := h.of_fst e
    split
    · exact (ht.then State.countFull_within).then Within.set_answer
    · exact ht.then Within.set_answer
  · exact State.access_within .error

theorem State.runAccess_within {f : State → Res} (h : Res.Kept s (f s)) : Within anyPart s (s.runAccess f).1 := by
  unfold State.runAccess
  split
  · exact h _ _ ‹_›
  · exact h _ _ ‹_›
  · exact h _ _ ‹_›
  · exact h _ _ ‹_›
  · exact State.countFull_within.any
  · exact .refl

theorem State.onPort_within {q : Fin 2} {cmd n : Nat} {crcErr frameErr : Bool} {f : State → State} (h : Within anyPart s (f s)) :
    Within anyPart s (s.onPort q cmd n crcErr frameErr f) := by
  unfold State.onPort
  exact .ite h (.ite (State.deadAnswer_within.any.then State.modPort_within) (Within.refl.answer))

theorem State.request_within {q : Fin 2} {len want : Nat} {f : State → State × Nat × Nat × Bytes} (h : ∀ u, Within anyPart u (f u).1) :
    Within anyPart s (s.request q len want f) := by
  unfold State.request
  refine State.onPort_within ?_
  extract_lets st v u
  have hv : Within anyPart s v := State.frameTaken_within.any.then State.modBox_within
  have hu : Within anyPart s u := by
    refine .ite State.frameBad_within.any ?_
    split
    rename_i w code tag data e
    have hw : Within anyPart s w := hv.trans ((h v).of_fst e)
    exact .ite hw (hw.then State.modBox_within)
  exact hu.answer

theorem State.legacyFrame_within {a : Nat} {f : State → State × Answer} (h : Within anyPart s (f s).1) :
    Within anyPart s (s.legacyFrame a f) := by
  unfold State.legacyFrame
  split
  · split
    rename_i t ans e
    exact (h.of_fst e).then Within.set_answer
  · exact Within.set_answer.any

theorem State.legacyWrite_within {a code n crc : Nat} {f : State → State} (h : Within anyPart s (f s)) :
    Within anyPart s (s.legacyWrite a code n crc f) := by
  unfold State.legacyWrite
  refine State.legacyFrame_within ?_
  split
  · exact h
  · exact .refl

theorem State.answerRequest_within {i : Fin 64} {p : Partner} {func : Nat} {f : Frame} {run : State → State × Nat × Nat × Bytes}
    (h : Within anyPart s (run s).1) : Within anyPart s (s.answerRequest i p func f run) := by
  unfold State.answerRequest
  extract_lets recent at_
  split
  · exact State.sendTo_within.any
  · split
    rename_i u r e
    exact ((h.of_fst e).then State.modPartner_within).then State.replyTo_within

/-! Functions of a command's own that answer beside their state. -/

theorem State.writeLevelReq_within {acc : Accessor} {v : Nat} : Within anyPart s (s.writeLevelReq acc v).1 := by
  unfold State.writeLevelReq
  extract_lets codes u
  split
  · exact .refl
  · split
    · exact .refl
    · split
      · exact .refl
      · split
        · exact State.setLevel_within.any
        · split
          · exact .refl
          · exact State.setLevel_within.any
          · split
            · exact .refl
            · split
              · exact .refl
              · have hu : Within anyPart s u := State.modSec_within.any
                split
                split
                · exact (hu.then State.authGranted_within).then State.setLevel_within
                · exact .ite (hu.then State.authFailed_within) hu

theorem State.writeAdvance_within {acc : Accessor} {v : Nat} : Within anyPart s (s.writeAdvance acc v).1 := by
  unfold State.writeAdvance
  split
  · exact .refl
  · extract_lets target roleOk code t
    have ht : Within anyPart s t := .ite State.put_any.any .refl
    clear_value t code target
    split
    · exact ht
    · split
      · exact ht
      · split
        · exact ht
        · split
          · exact ht
          · split
            · exact ht
            · rename_i u n e
              have hu : Within anyPart s u := ht.then (State.allocTag_some_within e)
              split
              · exact ht
              · split
                · exact ht.then (State.raise_plain rfl)
                · extract_lets hash data v
                  have hv : Within anyPart s v := (hu.then State.journalEvent_within).then (State.put_plain rfl)
                  dsimp only
                  exact hv.then State.modSec_within

theorem State.restart_any {key : Nat} : Within anyPart s (s.restart key) := State.restart_within.any

theorem State.raise_any {e : EventObj} {k : Nat} : Within anyPart s (s.raise e k) := State.raise_within.any

theorem State.raiseLater_any {e : EventObj} {k : Nat} : Within anyPart s (s.raiseLater e k) := State.raiseLater_within.any

end Sys2Proof.Machine
end

section
set_option Elab.async false

namespace Sys2Proof.Machine

variable {s t u : State}

/-! ### What the reads and writes of single objects keep -/

theorem State.plainRead_kept {acc key} : Res.Kept s (s.plainRead acc key) := by
  unfold State.plainRead
  split
  · exact .error
  · exact .ite .error (.ite .error (.ite .error (.ok .refl)))

theorem State.readPeak_kept {acc p} : Res.Kept s (s.readPeak acc p) := by
  unfold State.readPeak
  split
  · exact .error
  · exact .ite (.ok (State.modPhase_within.sub.next State.restart_any)) .error

theorem State.readOffsetMax_kept {acc t} : Res.Kept s (s.readOffsetMax acc t) := by
  unfold State.readOffsetMax
  split
  · exact .error
  · exact .ite .error (.ok State.restart_any.sub)

theorem State.readJnlRec_kept {acc} : Res.Kept s (s.readJnlRec acc) := by
  unfold State.readJnlRec
  split
  · exact .error
  · extract_lets q
    exact .ite (.ok State.put_any.sub) .error

theorem State.readJnlBlock_kept {acc} : Res.Kept s (s.readJnlBlock acc) := by
  unfold State.readJnlBlock
  split
  · exact .error
  · extract_lets q n
    exact .ite (.ok State.put_any.sub) .error

theorem State.readRaw_kept {acc corrected bad} : Res.Kept s (s.readRaw acc corrected bad) := by
  unfold State.readRaw
  split
  · exact .error
  · extract_lets h
    split
    · split
      · exact .error
      · exact .ite .error (.ite .error (by
          extract_lets n
          split
          · rename_i x30 u3 e3
            have h3 : Within anyPart s u3 := State.rawBytes_within.any.of_snd e3
            exact .ok ((h3.next State.rawFindings_within).next State.setRawOffset_within)))

theorem State.readChallenge_kept {acc} : Res.Kept s (s.readChallenge acc) := by
  unfold State.readChallenge
  split
  · exact .error
  · exact .ite .error (by
      split
      · rename_i x10 u1 e1
        have h1 : Within anyPart s u1 := State.drawRandom_within.any.of_snd e1
        exact .ok (h1.next State.modSec_within)
      · rename_i u1 e1
        have h1 : Within anyPart s u1 := State.drawRandom_within.any.of_snd e1
        exact .ok h1)

theorem State.readReturnNonce_kept {acc} : Res.Kept s (s.readReturnNonce acc) := by
  unfold State.readReturnNonce
  split
  · exact .error
  · exact .ite .error (by
      split
      · rename_i x10 u1 e1
        have h1 : Within anyPart s u1 := State.drawRandom_within.any.of_snd e1
        exact .ok (h1.next State.modSec_within)
      · rename_i u1 e1
        have h1 : Within anyPart s u1 := State.drawRandom_within.any.of_snd e1
        exact .ok h1)

theorem State.writeSealed_kept {acc key data} : Res.Kept s (s.writeSealed acc key data) := by
  unfold State.writeSealed
  split
  · exact .error
  · extract_lets v
    split
    · exact .error
    · exact .ite .error (.ite .error (.ite .error (.ite .error (.ite (.ok State.addRecord_within.sub) (.ok State.applySealed_within.sub)))))

theorem State.stageValue_kept {acc d key v} : Res.Kept s (s.stageValue acc d key v) := by
  unfold State.stageValue
  extract_lets who
  exact .ite .error (.ite .error (.ite .error (.ite .error (.ok State.modCfg_within.sub))))

theorem State.pendValue_kept {d key v} : Res.Kept s (s.pendValue d key v) := by
  unfold State.pendValue
  exact .ite .error (.ite .error (.ok State.modCfg_within.sub))

theorem State.writeHabSetting_kept {acc key data} : Res.Kept s (s.writeHabSetting acc key data) := by
  unfold State.writeHabSetting
  split
  · exact .error
  · extract_lets v
    exact .ite .error (.ite .error (.ite .error (.ite .error (.ok State.put_any.sub))))

theorem State.liveValue_kept {d key v} : Res.Kept s (s.liveValue d key v) := by
  unfold State.liveValue
  exact .ite (.ok State.put_any.sub) .error

theorem State.respond_within {q} : Within anyPart s (State.respond s q) := by
  unfold State.respond
  exact State.onPort_within (Within.ite (State.deadAnswer_within.sub.next State.frameBad_within)
    ((State.frameTaken_within.sub.next State.modBox_within).next Within.set_answer))

theorem State.legacyAllOff_within : Within (parts [.objs, .deferred, .afterBoot, .ops, .ints, .rails, .seq, .net]) s
    (State.legacyAllOff s) := by
  unfold State.legacyAllOff
  exact Within.ite Within.refl ((Within.refl.foldl fun _ _ => Within.ite Within.refl (by
    split
    · rename_i u2 x21 e2
      refine .have_ (t := u2) ((State.groupCommand_some_within e2).sub) fun h2 => ?_
      exact h2.next State.releaseDependants_within
    · exact State.countFull_within.sub)).next State.legacyAccepted_within)

theorem State.legacyGroup_within {n up} : Within (parts [.objs, .deferred, .afterBoot, .ops, .ints, .rails, .seq, .net]) s
    (State.legacyGroup s n up) := by
  unfold State.legacyGroup
  exact Within.ite Within.refl (by
    split
    · rename_i u1 x11 e1
      refine .have_ (t := u1) ((State.groupCommand_some_within e1).sub) fun h1 => ?_
      exact ((h1.next State.releaseDependants_within).next Within.set_seq).next State.legacyAccepted_within
    · exact State.countFull_within.sub)

theorem State.setRawPart_within {h v} : Within (parts [.nvm]) s (State.setRawPart s h v) := by
  unfold State.setRawPart
  exact State.modNvm_within.sub

theorem State.changeTime_kept {acc sec frac source adj} : Res.Kept s (s.changeTime acc sec frac source adj) := by
  unfold State.changeTime
  extract_lets isSet data s13 s14 s15
  have h13 : Within anyPart s s13 := State.modOasis_within.sub
  have h14 : Within anyPart s s14 := h13.next State.journalEvent_within
  have h15 : Within anyPart s s15 := Within.ite (h14.next State.modJnl_within) h14
  exact .ite .error (.ok (((h15.next State.put_any).next State.raise_any).next State.alarmCheck_within))

theorem State.lockPw_kept {acc v} : Res.Kept s (s.lockPw acc v) := by
  unfold State.lockPw
  exact .writeVia (.ite (.ok State.endUnlocks_within.sub) .error)

theorem State.refuseTime_kept {result a} : Res.Kept s (s.refuseTime result a) := by
  unfold State.refuseTime
  exact .ok State.put_any.sub

theorem State.setPw_kept {acc data} : Res.Kept s (s.setPw acc data) := by
  unfold State.setPw
  split
  · exact .error
  · exact .ite .error (by
      split
      · exact .ite .error .error
      · exact .ite .error (.ite .error (.ite .error (by
          extract_lets s11
          have h11 : Within anyPart s s11 := State.modPw_within.sub
          exact .ok (h11.next State.endUnlocks_within)))))

theorem State.writeAbort_kept {acc v} : Res.Kept s (s.writeAbort acc v) := by
  unfold State.writeAbort
  split
  · exact .error
  · extract_lets e
    exact .ite .error (.ite .error
      (.ite .error (.ite (.ok State.put_any.sub) (.ite (.ok .refl) (.ok (State.setOp_within.sub.next State.abortActs_within))))))

theorem State.writeAuxEn_kept {acc k v} : Res.Kept s (s.writeAuxEn acc k v) := by
  unfold State.writeAuxEn
  exact .writeVia (.ite .error (.ite .error (by
    extract_lets s21 s22
    have h21 : Within anyPart s s21 := State.put_any.sub
    have h22 : Within anyPart s s22 := Within.ite (h21.next State.modAux_within) (h21.next State.modAux_within)
    exact .ok (h22.next State.refreshAux_within))))

theorem State.writeAuxVset_kept {acc k mv} : Res.Kept s (s.writeAuxVset acc k mv) := by
  unfold State.writeAuxVset
  exact .writeVia (.ite .error (by
    extract_lets s21 s22
    have h21 : Within anyPart s s21 := State.put_any.sub
    have h22 : Within anyPart s s22 := Within.ite h21 (h21.next State.auxRamp_within)
    exact .ok (h22.next State.setVpre_within)))

theorem State.writeCalSet_kept {acc v} : Res.Kept s (s.writeCalSet acc v) := by
  unfold State.writeCalSet
  exact .writeVia (by
    split
    · exact State.refuseTime_kept
    · exact State.changeTime_kept)

theorem State.writeCapFloor_kept {r v} : Res.Kept s (s.writeCapFloor r v) := by
  unfold State.writeCapFloor
  exact .ite .error (.ite .error (.ok State.put_any.sub))

theorem State.writeChatterClear_kept {acc v} : Res.Kept s (s.writeChatterClear acc v) := by
  unfold State.writeChatterClear
  exact .writeVia (.ite .error (.ite .error (.ok (Within.refl.foldl fun _ _ => State.put_any.sub))))

theorem State.writeChgEn_kept {acc v} : Res.Kept s (s.writeChgEn acc v) := by
  unfold State.writeChgEn
  exact .writeVia (.ite .error (.ok ((State.put_any.sub.next State.chargerEval_within).next State.hostContact_within)))

theorem State.writeChgStart_kept {acc v} : Res.Kept s (s.writeChgStart acc v) := by
  unfold State.writeChgStart
  exact .writeVia (.ite .error
    (.ite .error (.ok ((State.cyclePending_within.sub.next State.chargerEval_within).next State.hostContact_within))))

theorem State.writeCommit_kept {acc v} : Res.Kept s (s.writeCommit acc v) := by
  unfold State.writeCommit
  exact .writeVia (by
    extract_lets who
    exact .ite .error (.ite .error (.ite .error (.ite (.ok State.discardStaging_within.sub) (.withTag (fun _ _ => by
      extract_lets s41
      refine .have_ (t := s41) State.put_any.sub fun h41 => ?_
      exact Within.ite ((h41.next State.put_any).next State.finish_within) (h41.next State.modCfg_within)))))))

theorem State.writeDescSelect_kept {acc v} : Res.Kept s (s.writeDescSelect acc v) := by
  unfold State.writeDescSelect
  exact .ok Within.set_ports.sub

theorem State.writeDmaDesc_kept {acc c data} : Res.Kept s (s.writeDmaDesc acc c data) := by
  unfold State.writeDmaDesc
  split
  · exact .error
  · exact .ite .error (.ite .error (.ite .error (.ok State.put_any.sub)))

theorem State.writeDmaStart_kept {acc c v} : Res.Kept s (s.writeDmaStart acc c v) := by
  unfold State.writeDmaStart
  split
  · exact .error
  · extract_lets d h
    exact .ite .error (.ite .error
      (.ite .error (.ite .error
      (.ite .error (.ite (.ok State.modChannel_within.sub) (.withTag (fun _ _ => State.modChannel_within.sub.next State.puts_any)))))))

theorem State.writeEClear_kept {acc v} : Res.Kept s (s.writeEClear acc v) := by
  unfold State.writeEClear
  exact .writeVia (.ite .error (.ite .error (by
    extract_lets s21
    have h21 : Within anyPart s s21 := Within.refl.foldl fun _ _ => State.put_any.sub
    exact .ok (h21.next State.modLedger_within))))

theorem State.writeErase_kept {acc v} : Res.Kept s (s.writeErase acc v) := by
  unfold State.writeErase
  exact .writeVia (.ite .error (.ite .error (.ite .error (.ok (State.voidSlot_within.sub.next State.voidSlot_within)))))

theorem State.writeEvict_kept {acc v} : Res.Kept s (s.writeEvict acc v) := by
  unfold State.writeEvict
  exact .writeVia (by
    split
    · exact .ok (State.netBegin_within.sub.next State.evict_within)
    · exact .error)

theorem State.writeGrpCmd_kept {acc g v} : Res.Kept s (s.writeGrpCmd acc g v) := by
  unfold State.writeGrpCmd
  exact .writeVia (.ite .error (.ite .error (.ite .error (by
    split
    · rename_i u2 x21 e2
      have h2 : Within anyPart s u2 := (State.groupCommand_some_within e2).sub
      exact .ok (h2.next State.releaseDependants_within)
    · exact .error))))

theorem State.writeHabArm_kept {acc v} : Res.Kept s (s.writeHabArm acc v) := by
  unfold State.writeHabArm
  split
  · exact .error
  · extract_lets target s12 s13
    have h12 : Within anyPart s s12 :=
      ((State.puts_keys (keys := [K.HAB_STATE, K.HAB_COUNT, K.HAB_SEEN, K.HAB_DISARM_REASON]) rfl).sub).next State.modHab_within
    have h13 : Within anyPart s s13 := Within.ite (h12.next State.journalEvent_within) h12
    exact .ite .error (.ite .error
      (.ite .error (.ite (.ok State.habEnd_within.sub) (.ite .error (.ite .error (.ite .error (.ok (h13.next State.raise_any))))))))

theorem State.writeHalt_kept {acc v} : Res.Kept s (s.writeHalt acc v) := by
  unfold State.writeHalt
  split
  · exact .error
  · extract_lets cell
    exact .ite .error (.ite .error (.ite .error (.ok State.modSec_within.sub)))

theorem State.writeIlimSet_kept {r v} : Res.Kept s (s.writeIlimSet r v) := by
  unfold State.writeIlimSet
  exact .ite .error (.ite .error (.ok (State.put_any.sub.next State.refreshLimiting_within)))

theorem State.writeImage_kept {acc data} : Res.Kept s (s.writeImage acc data) := by
  unfold State.writeImage
  split
  · exact .error
  · exact .ite .error (.ite .error (.ite .error (.ite .error (by
      split
      · exact .ok State.put_any.sub
      · extract_lets head
        exact .ok (State.modCfg_within.sub.next State.voidSlot_within)))))

theorem State.writeImpRow_kept {acc r data} : Res.Kept s (s.writeImpRow acc r data) := by
  unfold State.writeImpRow
  exact .writeVia (.ite .error (.ok (State.setRow_within.sub.next State.rowWrite_within)))

theorem State.writeInstallerPw_kept {acc data} : Res.Kept s (s.writeInstallerPw acc data) := by
  unfold State.writeInstallerPw
  split
  · exact .error
  · exact .ite .error (.ite .error (.ite .error (.ite .error (.ok (State.modNet_within.sub.next State.dropRole_within)))))

theorem State.writeIpre_kept {v} : Res.Kept s (s.writeIpre v) := by
  unfold State.writeIpre
  exact .ite (.ok State.put_any.sub) .error

theorem State.writeJnlAck_kept {acc v} : Res.Kept s (s.writeJnlAck acc v) := by
  unfold State.writeJnlAck
  exact .writeVia (.ite .error (.ite .error (.ok ((State.modJnl_within.sub.next State.writeHeader_within).next State.noteFill_within))))

theorem State.writeJnlInit_kept {acc v} : Res.Kept s (s.writeJnlInit acc v) := by
  unfold State.writeJnlInit
  split
  · exact .error
  · exact .ite .error (.ite .error (.ite .error (.ite .error (by
      extract_lets q s12 s13
      have h12 : Within anyPart s s12 := State.modJnl_within.sub
      have h13 : Within anyPart s s13 := h12.next State.writeEvent_within
      exact .ok h13))))

theorem State.writeLearnReset_kept {acc v} : Res.Kept s (s.writeLearnReset acc v) := by
  unfold State.writeLearnReset
  exact .writeVia (.ite .error (.ite .error (.ok (State.swapData_within.sub.next State.coreWrite_within))))

theorem State.writeMask_kept {acc v} : Res.Kept s (s.writeMask acc v) := by
  unfold State.writeMask
  split
  · exact .error
  · split
    · exact .ok State.modPartner_within.sub
    · exact .error

theorem State.writeMetEClear_kept {acc v} : Res.Kept s (s.writeMetEClear acc v) := by
  unfold State.writeMetEClear
  split
  · exact .error
  · exact .ite .error (.ite .error (.ite .error (.ite .error (.ok (Within.refl.foldl fun _ _ => State.modPoint_within.sub)))))

theorem State.writeMirArm_kept {acc v} : Res.Kept s (s.writeMirArm acc v) := by
  unfold State.writeMirArm
  split
  · exact .error
  · exact .ite .error (.ite .error (.ite (by
      split
      · exact .error
      · extract_lets __src s12
        have h12 : Within anyPart s s12 := Within.set_ints.sub
        exact .ok (h12.next State.modMir_within)) (.ite (.ok (Within.ite State.mirEnd_within.sub Within.refl))
          (.ite (.ok State.mirTrigger_within.sub) .error))))

theorem State.writeMirSetting_kept {d key v} : Res.Kept s (s.writeMirSetting d key v) := by
  unfold State.writeMirSetting
  exact .ite .error (.ite .error (.ok State.put_any.sub))

theorem State.writeModeRequest_kept {acc v woken beaten} : Res.Kept s (s.writeModeRequest acc v woken beaten) := by
  unfold State.writeModeRequest
  split
  · exact .error
  · extract_lets fs
    exact .ite .error (.ite .error (.ite .error (.ite .error (.ite .error (.ite .error (.ite .error (.ok State.modeRequest_within.sub)))))))

theorem State.writeOtpData_kept {acc v} : Res.Kept s (s.writeOtpData acc v) := by
  unfold State.writeOtpData
  split
  · exact .error
  · extract_lets r
    split
    · exact .error
    · exact .ite .error (.ite .error (.ite .error (.withTag (fun _ _ => State.modOtp_within.sub.next State.put_any))))

theorem State.writeOtpReburn_kept {acc v} : Res.Kept s (s.writeOtpReburn acc v) := by
  unfold State.writeOtpReburn
  split
  · exact .error
  · exact .ite .error (.ite .error (.ite .error (.ite .error (.withTag (fun _ _ => State.modOtp_within.sub.next State.put_any)))))

theorem State.writeOtpRow_kept {acc v} : Res.Kept s (s.writeOtpRow acc v) := by
  unfold State.writeOtpRow
  exact .ite (.ok State.modOtp_within.sub) .error

theorem State.writeOtpWindow_kept {acc v} : Res.Kept s (s.writeOtpWindow acc v) := by
  unfold State.writeOtpWindow
  split
  · exact .error
  · exact .ite .error (.ite (.ok State.closeWindow_within.sub) (.ite .error (.ite .error (.ite .error (by
      extract_lets s11
      have h11 : Within anyPart s s11 := State.modOtp_within.sub.next State.raise_any
      exact .ok (Within.ite (h11.next State.destroySeed_within) h11))))))

theorem State.writePhClearIso_kept {acc p v} : Res.Kept s (s.writePhClearIso acc p v) := by
  unfold State.writePhClearIso
  exact .writeVia (by
    extract_lets x up modeOk s24
    have h24 : Within anyPart s s24 := State.modPhase_within.sub
    exact .ite .error (.ite .error (.ite .error (.ok (by
      split
      · exact h24.next State.refreshDegraded_within
      · exact h24)))))

theorem State.writePhIsolate_kept {acc p v} : Res.Kept s (s.writePhIsolate acc p v) := by
  unfold State.writePhIsolate
  exact .writeVia (.ite .error (.ite .error (.ite .error (.ok (Within.ite State.declare_within.sub State.isolate_within.sub)))))

theorem State.writePrio_kept {g v} : Res.Kept s (s.writePrio g v) := by
  unfold State.writePrio
  exact .ite .error (.ok (State.put_any.sub.next State.noteRelease_within))

theorem State.writeProof_kept {acc data} : Res.Kept s (s.writeProof acc data) := by
  unfold State.writeProof
  split
  · exact .error
  · exact .ite .error (.ite .error (.ok State.modSec_within.sub))

theorem State.writePwReset_kept {acc v} : Res.Kept s (s.writePwReset acc v) := by
  unfold State.writePwReset
  split
  · exact .error
  · extract_lets user names s13
    have h13 : Within anyPart s s13 := State.eraseMram_within.sub
    exact .ite .error (.ite .error (.ite .error (.ite .error (.ok (h13.next State.modNvm_within)))))

theorem State.writeRailCtrl_kept {acc r v} : Res.Kept s (s.writeRailCtrl acc r v) := by
  unfold State.writeRailCtrl
  exact .writeVia (by
    extract_lets st
    exact .ite .error (.ite .error
      (.ite .error (.ite (.ok State.sendRail_within.sub) (.ok (Within.ite Within.refl State.sendRail_within.sub))))))

theorem State.writeRailVset_kept {acc r mv} : Res.Kept s (s.writeRailVset acc r mv) := by
  unfold State.writeRailVset
  exact .writeVia (.ite .error (.ite .error (.ite .error (by
    split
    · exact .ok (State.put_any.sub.next State.sendRail_within)
    · exact .ok (State.put_any.sub.next State.sendRail_within)
    · exact .ok (State.put_any.sub.next State.sendRail_within)
    · exact .withTag (fun _ _ => State.puts_any.sub.next State.sendVoltage_within)
    · exact .ok State.put_any.sub))))

theorem State.writeRaw_kept {acc data} : Res.Kept s (s.writeRaw acc data) := by
  unfold State.writeRaw
  split
  · exact .error
  · extract_lets h
    split
    · split
      · exact .error
      · exact .ite .error (.ite .error (.ite .error (.ite .error (.ok (State.writeMram_within.sub.next State.setRawOffset_within)))))

theorem State.writeRawPos_kept {acc isOffset v} : Res.Kept s (s.writeRawPos acc isOffset v) := by
  unfold State.writeRawPos
  extract_lets key h
  exact .writeVia (.ite (by
    split
    · exact .ite (.ok State.setRawOffset_within.sub) .error
    · exact .error) (.ite (.ok State.setRawPart_within.sub) .error))

theorem State.writeRestAbort_kept {acc v} : Res.Kept s (s.writeRestAbort acc v) := by
  unfold State.writeRestAbort
  exact .writeVia (.ite .error (.ok State.abortRest_within.sub))

theorem State.writeReturnToken_kept {data} : Res.Kept s (s.writeReturnToken data) := by
  unfold State.writeReturnToken
  exact .ok State.modSec_within.sub

theorem State.writeRtcAdjust_kept {acc v} : Res.Kept s (s.writeRtcAdjust acc v) := by
  unfold State.writeRtcAdjust
  exact .writeVia (by
    extract_lets t
    exact .ite State.refuseTime_kept (.ite State.refuseTime_kept (.ite State.refuseTime_kept State.changeTime_kept)))

theorem State.writeRtcAlarm_kept {acc v} : Res.Kept s (s.writeRtcAlarm acc v) := by
  unfold State.writeRtcAlarm
  exact .writeVia (.ok (State.put_any.sub.next State.alarmCheck_within))

theorem State.writeRtcSet_kept {acc v} : Res.Kept s (s.writeRtcSet acc v) := by
  unfold State.writeRtcSet
  exact .writeVia (.ite State.refuseTime_kept State.changeTime_kept)

theorem State.writeSave_kept {acc v} : Res.Kept s (s.writeSave acc v) := by
  unfold State.writeSave
  exact .writeVia (.ite .error (.ite .error (.withTag (fun _ _ => State.modCfg_within.sub.next State.voidSlot_within))))

theorem State.writeSensorReset_kept {acc v} : Res.Kept s (s.writeSensorReset acc v) := by
  unfold State.writeSensorReset
  exact .writeVia (.ite .error (.ite .error (.ite .error (.ok (Within.refl.foldl fun _ _ => by
    extract_lets s31
    refine .have_ (t := s31) State.modTherm_within.sub fun h31 => ?_
    exact Within.ite h31 (h31.next State.modTherm_within))))))

theorem State.writeSessCmd_kept {acc m v} : Res.Kept s (s.writeSessCmd acc m v) := by
  unfold State.writeSessCmd
  exact .writeVia (.ite .error
    (.ite .error (.ite (.withTag (fun _ _ => State.openSession_within.sub)) (.ite (.withTag (fun _ _ => State.closeCommand_within.sub))
    .error))))

theorem State.writeShed_kept {p isHi v} : Res.Kept s (s.writeShed p isHi v) := by
  unfold State.writeShed
  exact .ite (.ok State.put_any.sub) .error

theorem State.writeSnapClear_kept {acc v} : Res.Kept s (s.writeSnapClear acc v) := by
  unfold State.writeSnapClear
  exact .writeVia (.ite .error (.ite .error (.ok State.eraseMram_within.sub)))

theorem State.writeSnapTake_kept {acc v} : Res.Kept s (s.writeSnapTake acc v) := by
  unfold State.writeSnapTake
  exact .writeVia (.ite .error (.ite .error (.ok State.snapNow_within.sub)))

theorem State.writeSupQuench_kept {acc v} : Res.Kept s (s.writeSupQuench acc v) := by
  unfold State.writeSupQuench
  exact .writeVia (.ite .error (.ite .error (.ite .error (.ok State.railFault_within.sub))))

theorem State.writeTamperClear_kept {acc v} : Res.Kept s (s.writeTamperClear acc v) := by
  unfold State.writeTamperClear
  exact .writeVia (.ite .error (.ok (State.put_any.sub.next State.modOasis_within)))

theorem State.writeThreshold_kept {v} : Res.Kept s (s.writeThreshold v) := by
  unfold State.writeThreshold
  exact .ite .error (.ok (State.put_any.sub.next State.noteRelease_within))

theorem State.writeTlm_kept {d m key v} : Res.Kept s (s.writeTlm d m key v) := by
  unfold State.writeTlm
  exact .ite .error (.ite .error (.ok State.put_any.sub))

theorem State.writeTlmEn_kept {acc m v} : Res.Kept s (s.writeTlmEn acc m v) := by
  unfold State.writeTlmEn
  exact .writeVia (.ite .error (.ite (.ok State.put_any.sub) (by
    split
    · exact .error
    · exact .ok State.put_any.sub)))

theorem State.writeToken_kept {acc data} : Res.Kept s (s.writeToken acc data) := by
  unfold State.writeToken
  split
  · exact .error
  · split
    · exact .ok State.modPartner_within.sub
    · exact .error

theorem State.writeWarnLevel_kept {acc data} : Res.Kept s (s.writeWarnLevel acc data) := by
  unfold State.writeWarnLevel
  split
  · exact .error
  · extract_lets v
    exact .ite .error (.ite .error (.ok (State.put_any.sub.next State.noteFill_within)))

theorem State.writeWdKick_kept {acc v} : Res.Kept s (s.writeWdKick acc v) := by
  unfold State.writeWdKick
  exact .writeVia (.ite .error (.ok State.hostContact_within.sub))

theorem State.writeWinMap_kept {j v} : Res.Kept s (s.writeWinMap j v) := by
  unfold State.writeWinMap
  split
  · exact .error
  · exact .ok State.put_any.sub

end Sys2Proof.Machine
end

section
set_option Elab.async false

namespace Sys2Proof.Machine

variable {s t u : State}

/-! ### What a read or a write of any object keeps -/

theorem State.readDropped_kept {acc} : Res.Kept s (s.readDropped acc) := by
  unfold State.readDropped
  split
  · exact .error
  · rename_i u a e
    exact .ok ((State.plainRead_kept _ _ e).then State.modNet_within)

theorem State.readOverrange_kept {acc m} : Res.Kept s (s.readOverrange acc m) := by
  unfold State.readOverrange
  split
  · exact .error
  · rename_i u a e
    exact .ok ((State.plainRead_kept _ _ e).then State.modPoint_within)

/-- Every reader of its own keeps the queue and the history's bound. -/
theorem State.readers_kept : ∀ x ∈ State.readers, ∀ s acc u, Res.Kept s (x.2 s acc u) := by
  unfold State.readers
  simp only [List.forall_mem_cons]
  exact ⟨fun _ _ _ => State.readDropped_kept, fun _ _ _ => State.readOverrange_kept, fun _ _ _ => State.readPeak_kept,
    fun _ _ _ => State.readOffsetMax_kept, fun _ _ _ => State.readJnlRec_kept, fun _ _ _ => State.readJnlBlock_kept,
    fun _ _ _ => State.readRaw_kept, fun _ _ _ => State.readChallenge_kept, fun _ _ _ => State.readReturnNonce_kept, nofun⟩

theorem State.readObject_kept {acc key} : Res.Kept s (s.readObject acc key) := by
  unfold State.readObject
  split
  · exact State.plainRead_kept
  · split
    · rename_i x e
      exact .ite (State.readers_kept x (List.mem_of_find?_eq_some e) _ _ _) State.plainRead_kept
    · exact State.plainRead_kept

theorem State.presentPw_within {acc data r} (h : s.presentPw acc data = .ok (t, r)) : Within anyPart s t := by
  unfold State.presentPw at h
  split at h
  · cases h
  · split at h
    · cases h
    · split at h
      · cases h
      · split at h
        · cases h
        · split at h
          · cases h
            exact .refl
          · split at h <;> cases h
            · exact State.modPw_within.any.then State.modNvm_within
            · exact State.pwFailed_within.any

theorem State.presentRes_kept {acc data} : Res.Kept s (s.presentRes acc data) := by
  unfold State.presentRes
  split
  · rename_i u e
    exact .ok (State.presentPw_within e)
  · rename_i u a e
    exact .ok (State.presentPw_within e)
  · exact .error

theorem State.clearDone_within {key mask} : Within anyPart s (s.clearDone key mask) := by
  unfold State.clearDone
  exact State.clearBits_within.any

theorem State.writeWakeEnable_within {v} : Within anyPart s (s.writeWakeEnable v) := by
  unfold State.writeWakeEnable
  exact State.put_any.any

/-- A writer of its own keeps the queue and the history's bound. -/
def Writer.Kept (w : State.Writer) : Prop := ∀ s acc u j d key bs, Res.Kept s (w s acc u j d key bs)

theorem State.writersPower_kept : ∀ x ∈ State.writersPower, Writer.Kept x.2 := by
  unfold State.writersPower Writer.Kept
  simp only [List.forall_mem_cons, State.write_]
  exact ⟨fun _ _ _ _ _ _ _ => State.writeModeRequest_kept, fun _ _ _ _ _ _ _ => .ok State.writeWakeEnable_within.any,
    fun _ _ _ _ _ _ _ => State.writePhClearIso_kept, fun _ _ _ _ _ _ _ => State.writePhIsolate_kept,
    fun _ _ _ _ _ _ _ => State.writeShed_kept, fun _ _ _ _ _ _ _ => State.writeShed_kept, fun _ _ _ _ _ _ _ => State.writeRailVset_kept,
    fun _ _ _ _ _ _ _ => State.writeIlimSet_kept, fun _ _ _ _ _ _ _ => State.writeRailCtrl_kept,
    fun _ _ _ _ _ _ _ => State.writeAuxVset_kept, fun _ _ _ _ _ _ _ => State.writeAuxEn_kept,
    fun _ _ _ _ _ _ _ => State.writeCapFloor_kept, fun _ _ _ _ _ _ _ => State.writeEClear_kept,
    fun _ _ _ _ _ _ _ => State.writeGrpCmd_kept, fun _ _ _ _ _ _ _ => State.writeChatterClear_kept,
    fun _ _ _ _ _ _ _ => State.writeSupQuench_kept, fun _ _ _ _ _ _ _ => State.writeSnapTake_kept,
    fun _ _ _ _ _ _ _ => State.writeSnapClear_kept, fun _ _ _ _ _ _ _ => State.writeSensorReset_kept,
    fun _ _ _ _ _ _ _ => .ok State.clearBits_within.any, nofun⟩

theorem State.writersHub_kept : ∀ x ∈ State.writersHub, Writer.Kept x.2 := by
  unfold State.writersHub Writer.Kept
  simp only [List.forall_mem_cons, State.write_]
  exact ⟨fun _ _ _ _ _ _ _ => State.writeChgEn_kept, fun _ _ _ _ _ _ _ => State.writeChgStart_kept,
    fun _ _ _ _ _ _ _ => State.writeIpre_kept, fun _ _ _ _ _ _ _ => State.writeWdKick_kept,
    fun _ _ _ _ _ _ _ => State.writeRestAbort_kept, fun _ _ _ _ _ _ _ => State.writeImpRow_kept,
    fun _ _ _ _ _ _ _ => State.writeLearnReset_kept, fun _ _ _ _ _ _ _ => State.writeMetEClear_kept,
    fun _ _ _ _ _ _ _ => State.writeSessCmd_kept, fun _ _ _ _ _ _ _ => State.writeWarnLevel_kept,
    fun _ _ _ _ _ _ _ => State.writeJnlAck_kept, fun _ _ _ _ _ _ _ => State.writeJnlInit_kept,
    fun _ _ _ _ _ _ _ => State.writeHabArm_kept, fun _ _ _ _ _ _ _ => State.writeInstallerPw_kept,
    fun _ _ _ _ _ _ _ => State.writeToken_kept, fun _ _ _ _ _ _ _ => State.writeEvict_kept, fun _ _ _ _ _ _ _ => State.writeMask_kept,
    fun _ _ _ _ _ _ _ => State.writeTlmEn_kept, fun _ _ _ _ _ _ _ => State.writeTlm_kept, fun _ _ _ _ _ _ _ => State.writeTlm_kept,
    fun _ _ _ _ _ _ _ => State.writeTlm_kept, fun _ _ _ _ _ _ _ => State.writeTlm_kept, fun _ _ _ _ _ _ _ => State.writeTlm_kept, nofun⟩

theorem State.writersKeeper_kept : ∀ x ∈ State.writersKeeper, Writer.Kept x.2 := by
  unfold State.writersKeeper Writer.Kept
  simp only [List.forall_mem_cons, State.write_]
  exact ⟨fun _ _ _ _ _ _ _ => State.writeDescSelect_kept, fun _ _ _ _ _ _ _ => State.writeCommit_kept,
    fun _ _ _ _ _ _ _ => State.writeSave_kept, fun _ _ _ _ _ _ _ => State.writeErase_kept, fun _ _ _ _ _ _ _ => State.writeImage_kept,
    fun _ _ _ _ _ _ _ => State.writeWinMap_kept, fun _ _ _ _ _ _ _ => State.writeAbort_kept,
    fun _ _ _ _ _ _ _ => .ok State.clearDone_within.any, fun _ _ _ _ _ _ _ => .ok State.clearDone_within.any,
    fun _ _ _ _ _ _ _ => State.writePrio_kept, fun _ _ _ _ _ _ _ => State.writeThreshold_kept,
    fun _ _ _ _ _ _ _ => State.writeRawPos_kept, fun _ _ _ _ _ _ _ => State.writeRawPos_kept, fun _ _ _ _ _ _ _ => State.writeRaw_kept,
    fun _ _ _ _ _ _ _ => State.presentRes_kept, fun _ _ _ _ _ _ _ => State.setPw_kept, fun _ _ _ _ _ _ _ => State.lockPw_kept,
    fun _ _ _ _ _ _ _ => State.writePwReset_kept, fun _ _ _ _ _ _ _ => State.writeDmaDesc_kept,
    fun _ _ _ _ _ _ _ => State.writeDmaStart_kept, fun _ _ _ _ _ _ _ => State.writeMirSetting_kept,
    fun _ _ _ _ _ _ _ => State.writeMirSetting_kept, fun _ _ _ _ _ _ _ => State.writeMirSetting_kept,
    fun _ _ _ _ _ _ _ => State.writeMirSetting_kept, fun _ _ _ _ _ _ _ => State.writeMirSetting_kept,
    fun _ _ _ _ _ _ _ => State.writeMirSetting_kept, fun _ _ _ _ _ _ _ => State.writeMirSetting_kept,
    fun _ _ _ _ _ _ _ => State.writeMirArm_kept, fun _ _ _ _ _ _ _ => State.writeOtpRow_kept,
    fun _ _ _ _ _ _ _ => State.writeOtpData_kept, fun _ _ _ _ _ _ _ => State.writeOtpWindow_kept,
    fun _ _ _ _ _ _ _ => State.writeOtpReburn_kept, fun _ _ _ _ _ _ _ => .pair State.writeAdvance_within,
    fun _ _ _ _ _ _ _ => State.writeReturnToken_kept, fun _ _ _ _ _ _ _ => .pair State.writeLevelReq_within,
    fun _ _ _ _ _ _ _ => State.writeProof_kept, fun _ _ _ _ _ _ _ => State.writeHalt_kept, fun _ _ _ _ _ _ _ => State.writeRtcSet_kept,
    fun _ _ _ _ _ _ _ => State.writeRtcAdjust_kept, fun _ _ _ _ _ _ _ => State.writeCalSet_kept,
    fun _ _ _ _ _ _ _ => State.writeRtcAlarm_kept, fun _ _ _ _ _ _ _ => .ok State.put_any.any,
    fun _ _ _ _ _ _ _ => State.writeTamperClear_kept, nofun⟩

theorem State.applyWrite_kept {acc d key bs} : Res.Kept s (s.applyWrite acc d key bs) := by
  unfold State.applyWrite
  extract_lets v
  refine .ite (.ok .refl) ?_
  split
  · exact State.writeSealed_kept
  · exact State.stageValue_kept
  · exact State.pendValue_kept
  · split
    · rename_i x e
      refine List.forall_mem_append.2 ⟨List.forall_mem_append.2 ⟨State.writersPower_kept, State.writersHub_kept⟩, State.writersKeeper_kept⟩
        x (List.mem_of_find?_eq_some e) _ _ _ _ _ _ _
    · split
      · split
        · exact .ok State.clearEvents_within.any
        · exact .error
      · split
        · exact .ok State.setEnable_within.any
        · exact .error
      · exact .ite State.writeHabSetting_kept State.liveValue_kept

theorem State.writeObject_kept {acc key bs} : Res.Kept s (s.writeObject acc key bs) := by
  unfold State.writeObject
  split
  · exact .error
  · extract_lets r
    have hr : Res.Kept s r := by
      refine .ite State.applyWrite_kept ?_
      split
      · exact .error
      · exact .ite .error State.applyWrite_kept
    clear_value r
    split
    · exact .ok (.ite ((hr _ _ rfl).then State.hostContact_within) (hr _ _ rfl))
    · exact .error

theorem State.boxRead_within {q key offset len} : Within anyPart s (s.boxRead q key offset len).1 := by
  unfold State.boxRead
  split
  · have h := State.runAccess_within (s := s) (f := fun s => s.readObject (portAcc q) key) State.readObject_kept
    split
    · rename_i u x bs e
      have hu : Within anyPart s u := h.of_fst e
      split
      · exact hu
      · split
        · exact State.answerRevoked_within.any
        · dsimp only
          exact (hu.then State.openSegments_within).then State.modBox_within
    · exact h
  · split
    · exact State.answerRevoked_within.any
    · split
      · split
        · dsimp only
          exact .ite State.closeSegments_within.any .refl
        · exact .refl
      · exact .refl

theorem State.blockInit_within {i p f} : Within anyPart s (s.blockInit i p f) := by
  unfold State.blockInit
  extract_lets total refuse begin_
  have hrefuse : ∀ u code, Within anyPart u (refuse u code) := fun u code => State.sendTo_within.any
  have hbegin : ∀ u b, Within anyPart u (begin_ u b) := fun u b =>
    (State.openChannel_within.any.then State.modPartner_within).then State.sendTo_within
  clear_value refuse begin_
  split
  · cases p.block with
    | none => exact .refl
    | some b => exact State.abortBlock_within.any
  · split
    · split
      · exact hrefuse _ _
      · exact .ite (hrefuse _ _) (hbegin _ _)
      · exact hrefuse _ _
    · refine .ite (hrefuse _ _) ?_
      split
      · exact hrefuse _ _
      · refine .ite (hrefuse _ _) ?_
        split
        · rename_i u x bs e
          have hu : Within anyPart s u := (State.runAccess_within State.readObject_kept).of_fst e
          exact .ite ((hu.trans (hbegin _ _)).then State.pumpBlock_within) (hrefuse _ _)
        · exact hrefuse _ _
      · exact hrefuse _ _

theorem State.accessPw_within {acc data} : Within anyPart s (s.accessPw acc data) := by
  unfold State.accessPw
  split
  · split
    · rename_i u e
      exact (State.presentPw_within e).answer
    · rename_i u a e
      exact (State.presentPw_within e).answer
    · exact Within.refl.answer
  · exact State.access_within .error

theorem State.boxEnd_within {q key offset bs} : Within anyPart s (s.boxEnd q key offset bs).1 := by
  unfold State.boxEnd
  split
  · exact State.answerRevoked_within.any
  · split
    · extract_lets u
      have hu : Within anyPart s u := State.closeSegments_within.any
      split
      · exact hu.trans (State.runAccess_within State.writeObject_kept)
      · exact hu
    · exact .refl

theorem State.blockEnd_within {i p f} : Within anyPart s (s.blockEnd i p f) := by
  unfold State.blockEnd
  split
  · refine .ite .refl (.ite State.abortBlock_within.any ?_)
    extract_lets u v
    have hu : Within anyPart s u := State.endBlock_within.any
    have hv : Within anyPart s v := hu.then State.sendTo_within
    clear_value u v
    split
    · split
      rename_i w r e
      exact (hv.trans ((State.runAccess_within State.writeObject_kept).of_fst e)).then State.replyTo_within
    · exact hu.then State.sendTo_within
  · exact .refl

end Sys2Proof.Machine
end

section
set_option Elab.async false

namespace Sys2Proof.Machine

variable {s t u : State}

/-! ### What each command keeps -/

theorem State.readReq_within {i p f} : Within anyPart s (State.readReq s i p f) := by
  unfold State.readReq
  exact State.answerRequest_within (State.runAccess_within (by
    split
    · exact .error
    · exact State.readObject_kept))

theorem State.writeReq_within {i p f} : Within anyPart s (State.writeReq s i p f) := by
  unfold State.writeReq
  exact Within.ite Within.refl (State.answerRequest_within (State.runAccess_within (by
    split
    · exact .error
    · exact State.writeObject_kept)))

theorem State.partnerFrame_within {i p func f} : Within anyPart s (State.partnerFrame s i p func f) := by
  unfold State.partnerFrame
  split
  · exact State.hail_within.sub
  · exact State.evict_within.sub
  · exact State.readReq_within.sub
  · exact State.writeReq_within.sub
  · exact State.endBlock_within.sub
  · exact State.blockInit_within.sub
  · exact State.blockSeg_within.sub
  · exact State.blockAcked_within.sub
  · exact State.blockEnd_within.sub
  · exact State.eventAck_within.sub
  · exact State.authReq_within.sub
  · exact State.authResponse_within.sub
  · exact Within.refl

theorem State.frameIn_within {func f} : Within anyPart s (State.frameIn s func f) := by
  unfold State.frameIn
  exact Within.ite Within.refl (Within.ite ((Within.ite State.hailAck_within.sub Within.refl).next State.noteConflict_within)
    (Within.ite Within.refl (Within.ite (by
    split
    · extract_lets s11
      refine .have_ (t := s11) State.heard_within.sub fun h11 => ?_
      split
      · exact h11.next State.partnerFrame_within
      · exact h11
    · exact State.strangerFrame_within.sub) (Within.ite (by
    split
    · exact State.heard_within.sub
    · exact Within.refl) Within.refl))))

theorem State.frameThrough_within {x} : Within anyPart s (State.frameThrough s x) := by
  unfold State.frameThrough
  extract_lets s11
  refine .have_ (t := s11) ((State.countPort_within).sub.next State.canReceived_within) fun h11 => ?_
  split
  · exact h11.next State.frameIn_within
  · exact h11.next State.badFrame_within

theorem State.arrives_within {x} : Within anyPart s (State.arrives s x) := by
  unfold State.arrives
  extract_lets s11
  refine .have_ (t := s11) State.netBegin_within.sub fun h11 => ?_
  exact Within.ite h11 (by
    split
    · rename_i x20 u2 e2
      refine .have_ (t := u2) (.of_snd (h11.next State.habItem_within) e2) fun h2 => ?_
      exact Within.ite h2 (Within.ite ((h2.next (State.countPort_within)).next State.canBadFrame_within) (by
        split
        · exact Within.ite (((h2.next State.modNet_within).next State.frameThrough_within).next State.frameThrough_within)
            (h2.next State.frameThrough_within)
        · exact Within.ite (h2.next State.modNet_within) (h2.next State.frameThrough_within))))

theorem State.boxWrite_within {q key offset bs} : Within anyPart s (State.boxWrite s q key offset bs).1 := by
  unfold State.boxWrite
  exact State.runAccess_within (by
    split
    · exact .error
    · exact State.writeObject_kept)

theorem State.frameActs_within {q cmd n x} : Within anyPart s (State.frameActs s q cmd n x) := by
  unfold State.frameActs
  split
  · exact State.deadAnswer_within.sub.next State.frameBad_within
  · exact State.deadAnswer_within.sub.next State.frameBad_within
  · exact Within.ite State.claim_within.sub (Within.ite State.tbLow_within.sub State.winRead_within.sub)
  · exact Within.ite State.complete_within.sub State.winThreshold_within.sub
  · exact State.request_within (fun _ => State.boxRead_within.sub)
  · exact State.request_within (fun _ => by
      split
      · exact State.boxWrite_within.sub
      · split
        · exact State.boxSeg_within.sub
        · exact State.boxEnd_within.sub)
  · exact State.respond_within.sub

theorem State.portFrame_within {q bs cut reads} : Within anyPart s (State.portFrame s q bs cut reads) := by
  unfold State.portFrame
  exact State.onPort_within (by
    extract_lets s21 s22
    refine .have_ (t := s21) State.frameActs_within.sub fun h21 => ?_
    refine .have_ (t := s22) (h21.next Within.set_answer) fun h22 => ?_
    exact Within.ite h21 (Within.ite (h22.next State.frameBad_within) h22))

theorem State.received_within {func f} : Within anyPart s (State.received s func f) := by
  unfold State.received
  exact State.arrives_within.sub

theorem execAbort_kept {f} : Out.Kept s (execAbort f s) := .next State.received_within.sub

theorem execAckTimer_kept {t atTile} : Out.Kept s (execAckTimer t atTile s) := .next State.acknowledge_within.sub

theorem execAuthLockoutExpiry_kept {k} : Out.Kept s (execAuthLockoutExpiry k s) := .next State.modNet_within.sub

theorem execAuthReq_kept {f rng} : Out.Kept s (execAuthReq f rng s) := .next (State.rngTested_within.sub.next State.received_within)

theorem execAuthResponse_kept {f} : Out.Kept s (execAuthResponse f s) := .next State.received_within.sub

theorem execAuxEnWrite_kept {acc k on} : Out.Kept s (execAuxEnWrite acc k on s) := .next (State.access_within State.writeAuxEn_kept)

theorem execAuxOcDwellExpired_kept {k} : Out.Kept s (execAuxOcDwellExpired k s) := .next State.auxOverCurrent_within.sub

theorem execAuxRampDone_kept {k v} : Out.Kept s (execAuxRampDone k v s) := .next State.auxRampDone_within.sub

theorem execAuxUv_kept {k v} : Out.Kept s (execAuxUv k v s) := .next State.auxLow_within.sub

theorem execAuxVsetWrite_kept {acc k mv} : Out.Kept s (execAuxVsetWrite acc k mv s) := .next (State.access_within State.writeAuxVset_kept)

theorem execBatpathOnChange_kept {on} : Out.Kept s (execBatpathOnChange on s) :=
    .next ((State.modPath_within.sub.next State.modEst_within).next State.pathEval_within)

theorem execBatteryProbe_kept : Out.Kept s (execBatteryProbe s) := .next State.startProbe_within.sub

theorem execBatteryUnusable_kept : Out.Kept s (execBatteryUnusable s) := .next (Within.ite State.batUnusable_within.sub Within.refl)

theorem execBeamTimeOffsetMaxRead_kept {acc t} : Out.Kept s (execBeamTimeOffsetMaxRead acc t s) :=
    .next (State.access_within State.readOffsetMax_kept)

theorem execBellHoldEnd_kept : Out.Kept s (execBellHoldEnd s) := .next State.bellGo_within.sub

theorem execBellRing_kept : Out.Kept s (execBellRing s) := .next State.bellRing_within.sub

theorem execBellTimeout_kept : Out.Kept s (execBellTimeout s) := .next State.bellTimeout_within.sub

theorem execBidChange_kept : Out.Kept s (execBidChange s) := .next State.bidChange_within.sub

theorem execBlockAck_kept {f} : Out.Kept s (execBlockAck f s) := .next State.received_within.sub

theorem execBlockEnd_kept {f} : Out.Kept s (execBlockEnd f s) := .next State.received_within.sub

theorem execBlockInit_kept {f} : Out.Kept s (execBlockInit f s) := .next State.received_within.sub

theorem execBlockSeg_kept {f} : Out.Kept s (execBlockSeg f s) := .next State.received_within.sub

theorem execBlockSilence_kept {slot} : Out.Kept s (execBlockSilence slot s) :=
    .next (State.netBegin_within.sub.next State.revokeBlock_within)

theorem execBootClassWrite_kept {acc key data} : Out.Kept s (execBootClassWrite acc key data s) :=
    .next (State.access_within State.writeObject_kept)

theorem execBootComplete_kept {rep} : Out.Kept s (execBootComplete rep s) := .next State.bootComplete_within.sub

theorem execBusClearRepeat_kept : Out.Kept s (execBusClearRepeat s) := .next (Within.ite State.startBusClear_within.sub Within.refl)

theorem execBusClearSample_kept {sdaLow} : Out.Kept s (execBusClearSample sdaLow s) := .next State.busClearDone_within.sub

theorem execBye_kept {f} : Out.Kept s (execBye f s) := .next State.received_within.sub

theorem execCalSet_kept {acc v} : Out.Kept s (execCalSet acc v s) := .next (State.access_within State.writeCalSet_kept)

theorem execCalibrationWrite_kept {acc key data} : Out.Kept s (execCalibrationWrite acc key data s) :=
    .next (State.access_within State.writeSealed_kept)

theorem execCanBusOff_kept {port} : Out.Kept s (execCanBusOff port s) := .next State.canOff_within.sub

theorem execCanBusRecovered_kept {port} : Out.Kept s (execCanBusRecovered port s) :=
    .next (Within.ite (State.modCan_within.sub.next State.raise_any) Within.refl)

theorem execCanErrorPassive_kept {port txErr rxErr} : Out.Kept s (execCanErrorPassive port txErr rxErr s) := .next (Within.ite (by
  extract_lets x11 s12
  refine .have_ (t := s12) State.modCan_within.sub fun h12 => ?_
  exact Within.ite (h12.next State.raise_any) h12) Within.refl)

theorem execCellLow_kept : Out.Kept s (execCellLow s) := .next State.cellLow_within.sub

theorem execCfFault_kept {p atPrebiasEnd} : Out.Kept s (execCfFault p atPrebiasEnd s) :=
    .next (Within.ite State.declare_within.sub Within.refl)

theorem execCfgCommit_kept {acc} : Out.Kept s (execCfgCommit acc s) := .next (State.access_within State.writeCommit_kept)

theorem execCfgDiscard_kept {acc} : Out.Kept s (execCfgDiscard acc s) := .next (State.access_within State.writeCommit_kept)

theorem execCfgErase_kept {acc} : Out.Kept s (execCfgErase acc s) := .next (State.access_within State.writeErase_kept)

theorem execCfgImageWrite_kept {acc data} : Out.Kept s (execCfgImageWrite acc data s) := .next (State.access_within State.writeImage_kept)

theorem execCfgSave_kept {acc} : Out.Kept s (execCfgSave acc s) := .next (State.access_within State.writeSave_kept)

theorem execCfgSaveDone_kept : Out.Kept s (execCfgSaveDone s) := .next State.saveDone_within.sub

theorem execChannelLeaseRevoke_kept {c} : Out.Kept s (execChannelLeaseRevoke c s) := .next State.revokeChannel_within.sub

theorem execChargerCycle_kept {current voltage} : Out.Kept s (execChargerCycle current voltage s) := .next State.chargerCycle_within.sub

theorem execChgEnWrite_kept {acc v} : Out.Kept s (execChgEnWrite acc v s) := .next (State.access_within State.writeChgEn_kept)

theorem execChgOvCheck_kept {v} : Out.Kept s (execChgOvCheck v s) := .next State.ovCheck_within.sub

theorem execChgOvStop_kept {v} : Out.Kept s (execChgOvStop v s) := .next State.ovStopped_within.sub

theorem execChgStart_kept {acc} : Out.Kept s (execChgStart acc s) := .next (State.access_within State.writeChgStart_kept)

theorem execChgTermination_kept : Out.Kept s (execChgTermination s) := .next State.terminate_within.sub

theorem execChgTimerExpiry_kept : Out.Kept s (execChgTimerExpiry s) := .next State.timerExpiry_within.sub

theorem execChgWatchdogExpiry_kept : Out.Kept s (execChgWatchdogExpiry s) := .next State.wdExpiry_within.sub

theorem execChgWdKick_kept {acc} : Out.Kept s (execChgWdKick acc s) := .next (State.access_within State.writeWdKick_kept)

theorem execCoilOpen_kept {r} : Out.Kept s (execCoilOpen r s) := .next (Within.ite State.raise_any.sub Within.refl)

theorem execCoilPullInElapsed_kept {r} : Out.Kept s (execCoilPullInElapsed r s) := .next (Within.ite State.enterUp_within.sub Within.refl)

theorem execCoilReleaseEnd_kept {r} : Out.Kept s (execCoilReleaseEnd r s) := .next (Within.ite State.enterOff_within.sub Within.refl)

theorem execCommitAckTimeout_kept : Out.Kept s (execCommitAckTimeout s) := .next (Within.ite State.refuseCommit_within.sub Within.refl)

theorem execCommitChecksDone_kept : Out.Kept s (execCommitChecksDone s) := .next State.checksDone_within.sub

theorem execCommitStageApply_kept : Out.Kept s (execCommitStageApply s) := .next State.stageApply_within.sub

theorem execConfidenceExpired_kept : Out.Kept s (execConfidenceExpired s) := .next State.confidenceExpired_within.sub

theorem execCoreRecordWrite_kept : Out.Kept s (execCoreRecordWrite s) := .next (Within.ite State.coreWrite_within.sub Within.refl)

theorem execCounterLowRead_kept {reader key high} : Out.Kept s (execCounterLowRead reader key high s) := .next (by
  split
  · exact Within.ite (State.onPort_within (Within.ite State.winRead_within.sub State.tbLow_within.sub)) Within.refl
  · exact Within.ite (State.onPort_within (Within.ite State.winRead_within.sub State.tbLow_within.sub)) Within.refl
  · exact Within.ite State.partRead_within.sub Within.set_answer.sub)

theorem execCrystalLoss_kept : Out.Kept s (execCrystalLoss s) := .next State.crystalLoss_within.sub

theorem execCutInstant_kept {b samples} : Out.Kept s (execCutInstant b samples s) := .next (Within.ite State.cut_within.sub Within.refl)

theorem execDbgChallenge_kept {acc rng} : Out.Kept s (execDbgChallenge acc rng s) :=
    .next (State.access_within (.trans State.rngTested_within.sub State.readChallenge_kept))

theorem execDbgHaltCmd_kept {acc} : Out.Kept s (execDbgHaltCmd acc s) := .next (State.access_within State.writeHalt_kept)

theorem execDbgLevelReq_kept {acc level} : Out.Kept s (execDbgLevelReq acc level s) :=
    .next (State.accessBoth_within State.writeLevelReq_within.sub)

theorem execDbgProof_kept {acc data} : Out.Kept s (execDbgProof acc data s) := .next (State.access_within State.writeProof_kept)

theorem execDbgResumeCmd_kept {acc} : Out.Kept s (execDbgResumeCmd acc s) := .next (State.access_within State.writeHalt_kept)

theorem execDebugIdleTimeout_kept : Out.Kept s (execDebugIdleTimeout s) := .next State.setLevel_within.sub

theorem execDischargeDone_kept {r v} : Out.Kept s (execDischargeDone r v s) := .next (Within.ite State.enterOff_within.sub Within.refl)

theorem execDischargeSlow_kept {r} : Out.Kept s (execDischargeSlow r s) :=
    .next (Within.ite (State.raise_any.sub.next State.enterOff_within) Within.refl)

theorem execDmaDone_kept {c} : Out.Kept s (execDmaDone c s) := .next State.dmaDone_within.sub

theorem execDmaGrantTimeout_kept {c} : Out.Kept s (execDmaGrantTimeout c s) := .next (Within.ite State.busError_within.sub Within.refl)

theorem execDmaRetry_kept {c} : Out.Kept s (execDmaRetry c s) :=
    .next ((State.netBegin_within.sub.next State.dmaRetry_within).next State.settleBlocks_within)

theorem execDmaStart_kept {acc c} : Out.Kept s (execDmaStart acc c s) := .next (State.access_within State.writeDmaStart_kept)

theorem execDormantExitDone_kept {pllFail} : Out.Kept s (execDormantExitDone pllFail s) := .next State.dormantExit_within.sub

theorem execDownLinkLost_kept {t} : Out.Kept s (execDownLinkLost t s) := .next State.downLinkLost_within.sub

theorem execEstFrestAbort_kept {acc} : Out.Kept s (execEstFrestAbort acc s) := .next (State.access_within State.writeRestAbort_kept)

theorem execEstImpRowWrite_kept {acc r data} : Out.Kept s (execEstImpRowWrite acc r data s) :=
    .next (State.access_within State.writeImpRow_kept)

theorem execEstLearnReset_kept {acc} : Out.Kept s (execEstLearnReset acc s) := .next (State.access_within State.writeLearnReset_kept)

theorem execEventAck_kept {f} : Out.Kept s (execEventAck f s) := .next State.received_within.sub

theorem execEventResend_kept {slot counter} : Out.Kept s (execEventResend slot counter s) :=
    .next (State.netBegin_within.sub.next State.resendEvent_within)

theorem execFailsafeRetry_kept : Out.Kept s (execFailsafeRetry s) := .next State.retryDue_within.sub

theorem execFastCapsInForce_kept : Out.Kept s (execFastCapsInForce s) := .next State.fastInForce_within.sub

theorem execFastEstimate_kept : Out.Kept s (execFastEstimate s) := .next State.fastStep_within.sub

theorem execFlitAcknak_kept {t up payload} : Out.Kept s (execFlitAcknak t up payload s) := .next State.flit_within.sub

theorem execFlitBad_kept {t up word} : Out.Kept s (execFlitBad t up word s) := .next State.badFlit_within.sub

theorem execFlitCommand_kept {t up seq ack samples} : Out.Kept s (execFlitCommand t up seq ack samples s) := .next State.flit_within.sub

theorem execFlitSample_kept {t seq samples} : Out.Kept s (execFlitSample t seq samples s) := .next State.flit_within.sub

theorem execFlitStatus_kept {t seq frame samples} : Out.Kept s (execFlitStatus t seq frame samples s) := .next State.flit_within.sub

theorem execFlitTime_kept {t seq b clocks} : Out.Kept s (execFlitTime t seq b clocks s) := .next State.flit_within.sub

theorem execFlitTrain_kept {t mask failedStep} : Out.Kept s (execFlitTrain t mask failedStep s) := .next (Within.ite Within.refl (by
  split
  · exact State.beginTraining_within.sub
  · exact State.exchangeVersions_within.sub
  · exact Within.ite Within.refl State.attemptFailed_within.sub
  · exact Within.refl))

theorem execFlitUrgent_kept {t seq body} : Out.Kept s (execFlitUrgent t seq body s) := .next (by
  split
  · exact State.flit_within.sub
  · exact State.flit_within.sub
  · exact State.flit_within.sub)

theorem execFogLowRecognised_kept : Out.Kept s (execFogLowRecognised s) := .next State.fogRecognised_within.sub

theorem execFogReleased_kept : Out.Kept s (execFogReleased s) := .next State.fogReleased_within.sub

theorem execForcedRestRequest_kept : Out.Kept s (execForcedRestRequest s) := .next State.restRequest_within.sub

theorem execForcedRestRetry_kept : Out.Kept s (execForcedRestRetry s) := .next State.restRetry_within.sub

theorem execFrameCrc_kept {port id bytes} : Out.Kept s (execFrameCrc port id bytes s) :=
    .next (Within.ite State.netBegin_within.sub State.arrives_within.sub)

theorem execFsCleanTimeReached_kept : Out.Kept s (execFsCleanTimeReached s) := .next State.fsCleanTime_within.sub

theorem execGroupGatesOpen_kept {g} : Out.Kept s (execGroupGatesOpen g s) := .next State.gateTick_within.sub

theorem execGrpCmdPowerDown_kept {acc g} : Out.Kept s (execGrpCmdPowerDown acc g s) := .next (State.access_within State.writeGrpCmd_kept)

theorem execGrpCmdPowerUp_kept {acc g} : Out.Kept s (execGrpCmdPowerUp acc g s) := .next (State.access_within State.writeGrpCmd_kept)

theorem execHabArmCmd_kept {acc} : Out.Kept s (execHabArmCmd acc s) := .next (State.access_within State.writeHabArm_kept)

theorem execHabDisarmCmd_kept {acc} : Out.Kept s (execHabDisarmCmd acc s) := .next (State.access_within State.writeHabArm_kept)

theorem execHailReq_kept {f} : Out.Kept s (execHailReq f s) := .next State.received_within.sub

theorem execHeartbeat_kept {f} : Out.Kept s (execHeartbeat f s) := .next State.received_within.sub

theorem execHeartbeatBroadcast_kept : Out.Kept s (execHeartbeatBroadcast s) := .next State.heartbeat_within.sub

theorem execHeldResetRelease_kept : Out.Kept s (execHeldResetRelease s) := .next State.heldResetEnds_within.sub

theorem execHoldupWarning_kept {vhk} : Out.Kept s (execHoldupWarning vhk s) := .next State.vhkWarning_within.sub

theorem execHrstAssert_kept : Out.Kept s (execHrstAssert s) := .next State.hrstAssert_within.sub

theorem execHrstRelease_kept : Out.Kept s (execHrstRelease s) := .next State.hrstRelease_within.sub

theorem execInputRestored_kept {m current} : Out.Kept s (execInputRestored m current s) :=
    .next (Within.ite (State.modPoint_within.sub.next State.raiseLater_any) Within.refl)

theorem execInputStuck_kept {m current} : Out.Kept s (execInputStuck m current s) :=
    .next (Within.ite ((State.modPoint_within.sub.next State.raise_any).next State.journalEvent_within) Within.refl)

theorem execIntClaim_kept {port} : Out.Kept s (execIntClaim port s) := .next (State.onPort_within State.claim_within.sub)

theorem execIntComplete_kept {port n} : Out.Kept s (execIntComplete port n s) := .next (State.onPort_within State.complete_within.sub)

theorem execIntReleaseHoldEnd_kept : Out.Kept s (execIntReleaseHoldEnd s) := .next Within.set_ints.sub

theorem execJnlAckWrite_kept {acc v} : Out.Kept s (execJnlAckWrite acc v s) := .next (State.access_within State.writeJnlAck_kept)

theorem execJnlInit_kept {acc} : Out.Kept s (execJnlInit acc s) := .next (State.access_within State.writeJnlInit_kept)

theorem execJnlReadBlock_kept {acc} : Out.Kept s (execJnlReadBlock acc s) := .next (State.access_within State.readJnlBlock_kept)

theorem execJnlReadRec_kept {acc} : Out.Kept s (execJnlReadRec acc s) := .next (State.access_within State.readJnlRec_kept)

theorem execLanternVbusUvlo_kept {t} : Out.Kept s (execLanternVbusUvlo t s) :=
    .next (Within.ite (State.modTile_within.sub.foldl fun _ _ => State.modPhase_within.sub) Within.refl)

theorem execLanternVbusUvloRelease_kept {t} : Out.Kept s (execLanternVbusUvloRelease t s) :=
    .next (Within.ite (State.modTile_within.sub.foldl fun _ _ => State.modPhase_within.sub) Within.refl)

theorem execLcAdvance_kept {acc target rng} : Out.Kept s (execLcAdvance acc target rng s) :=
    .next (State.accessBoth_within (State.rngTested_within.sub.next State.writeAdvance_within))

theorem execLcReturnNonce_kept {acc rng} : Out.Kept s (execLcReturnNonce acc rng s) :=
    .next (State.access_within (.trans State.rngTested_within.sub State.readReturnNonce_kept))

theorem execLedgerAccountCopy_kept : Out.Kept s (execLedgerAccountCopy s) := .next (Within.ite State.saveAccounts_within.sub Within.refl)

theorem execLedgerCapApply_kept {r} : Out.Kept s (execLedgerCapApply r s) := .next State.capTick_within.sub

theorem execLedgerEClear_kept {acc} : Out.Kept s (execLedgerEClear acc s) := .next (State.access_within State.writeEClear_kept)

theorem execLegacyAllOff_kept {a crc} : Out.Kept s (execLegacyAllOff a crc s) :=
    .next (State.legacyWrite_within State.legacyAllOff_within.sub)

theorem execLegacyFaultClear_kept {a crc} : Out.Kept s (execLegacyFaultClear a crc s) :=
    .next (State.legacyWrite_within State.legacyClear_within.sub)

theorem execLegacyIdRead_kept {a} : Out.Kept s (execLegacyIdRead a s) := .next (State.legacyFrame_within State.legacyAccepted_within.sub)

theorem execLegacyPoll_kept {k reply} : Out.Kept s (execLegacyPoll k reply s) := .next (Within.ite State.legacyReply_within.sub Within.refl)

theorem execLegacyRetry_kept {k reply} : Out.Kept s (execLegacyRetry k reply s) :=
    .next (Within.ite State.legacyReply_within.sub Within.refl)

theorem execLegacyStageDown_kept {a n crc} : Out.Kept s (execLegacyStageDown a n crc s) :=
    .next (State.legacyWrite_within State.legacyGroup_within.sub)

theorem execLegacyStageGo_kept {a n crc} : Out.Kept s (execLegacyStageGo a n crc s) :=
    .next (State.legacyWrite_within State.legacyGroup_within.sub)

theorem execLegacyStatusRead_kept {a} : Out.Kept s (execLegacyStatusRead a s) :=
    .next (State.legacyFrame_within State.legacyAccepted_within.sub)

theorem execLifecycleTransitionDone_kept : Out.Kept s (execLifecycleTransitionDone s) := .next State.transitionDone_within.sub

theorem execLinkClockLost_kept {t} : Out.Kept s (execLinkClockLost t s) := .next State.linkLost_within.sub

theorem execLinkSilent_kept {t} : Out.Kept s (execLinkSilent t s) := .next State.linkLost_within.sub

theorem execLinkTrained_kept {t mask echoes turnaround} : Out.Kept s (execLinkTrained t mask echoes turnaround s) :=
    .next State.linkTrained_within.sub

theorem execLongPressBatfetRelease_kept : Out.Kept s (execLongPressBatfetRelease s) := .next State.pulseRelease_within.sub

theorem execLossHigh_kept : Out.Kept s (execLossHigh s) := .next State.auxLossHigh_within.sub

theorem execMailboxResponseReady_kept {port} : Out.Kept s (execMailboxResponseReady port s) :=
    .next (Within.ite State.modBox_within.sub Within.refl)

theorem execManagementTick_kept {ms} : Out.Kept s (execManagementTick ms s) := .next State.managementTick_within.sub

theorem execMetEClear_kept {acc} : Out.Kept s (execMetEClear acc s) := .next (State.access_within State.writeMetEClear_kept)

theorem execMeteringSample_kept {m bitsV bitsI} : Out.Kept s (execMeteringSample m bitsV bitsI s) := .next State.meteringSample_within.sub

theorem execMirArmCmd_kept {acc} : Out.Kept s (execMirArmCmd acc s) := .next (State.access_within State.writeMirArm_kept)

theorem execMirStopCmd_kept {acc} : Out.Kept s (execMirStopCmd acc s) := .next (State.access_within State.writeMirArm_kept)

theorem execMirTriggerCmd_kept {acc} : Out.Kept s (execMirTriggerCmd acc s) := .next (State.access_within State.writeMirArm_kept)

theorem execMirageFrame_kept {values} : Out.Kept s (execMirageFrame values s) := .next (Within.ite State.mirFrame_within.sub Within.refl)

theorem execMiragePostFull_kept : Out.Kept s (execMiragePostFull s) := .next (Within.ite State.mirEnd_within.sub Within.refl)

theorem execMirageRotationDone_kept : Out.Kept s (execMirageRotationDone s) := .next (Within.ite State.mirRotated_within.sub Within.refl)

theorem execMirageTrigger_kept {kind arg before after} : Out.Kept s (execMirageTrigger kind arg before after s) :=
    .next (Within.ite Within.refl (Within.ite State.mirSource_within.sub (Within.ite State.mirEvent_within.sub Within.refl)))

theorem execModeRequestDormant_kept {acc woken beaten} : Out.Kept s (execModeRequestDormant acc woken beaten s) :=
    .next (State.access_within State.writeModeRequest_kept)

theorem execModeRequestIdle_kept {acc} : Out.Kept s (execModeRequestIdle acc s) := .next (State.access_within State.writeModeRequest_kept)

theorem execModeRequestService_kept {acc beaten} : Out.Kept s (execModeRequestService acc beaten s) :=
    .next (State.access_within State.writeModeRequest_kept)

theorem execModeRequestShip_kept {acc beaten} : Out.Kept s (execModeRequestShip acc beaten s) :=
    .next (State.access_within State.writeModeRequest_kept)

theorem execModeRequestVault_kept {acc woken beaten} : Out.Kept s (execModeRequestVault acc woken beaten s) :=
    .next (State.access_within State.writeModeRequest_kept)

theorem execModelDiverge_kept {t} : Out.Kept s (execModelDiverge t s) := .next State.modelDiverge_within.sub

theorem execMpOverrangeCountRead_kept {acc m} : Out.Kept s (execMpOverrangeCountRead acc m s) := .next (State.access_within (by
  split
  · exact .error
  · exact .ok State.modPoint_within.sub))

theorem execMpSessionClose_kept {acc m} : Out.Kept s (execMpSessionClose acc m s) := .next (State.access_within State.writeSessCmd_kept)

theorem execMpSessionOpen_kept {acc m} : Out.Kept s (execMpSessionOpen acc m s) := .next (State.access_within State.writeSessCmd_kept)

theorem execMramLeaseRevoke_kept {c} : Out.Kept s (execMramLeaseRevoke c s) := .next (Within.ite (by
  split
  · exact Within.ite ((State.netBegin_within.sub.next State.revokeHost_within).next State.settleBlocks_within) Within.refl
  · exact (State.leaseRevoked_within).sub.next Within.set_est) Within.refl)

theorem execMramPortGrant_kept {ue fix} : Out.Kept s (execMramPortGrant ue fix s) := .next State.grantPort_within.sub

theorem execMramPwLock_kept {acc} : Out.Kept s (execMramPwLock acc s) := .next (State.access_within State.lockPw_kept)

theorem execMramPwPresent_kept {acc data} : Out.Kept s (execMramPwPresent acc data s) := .next State.accessPw_within.sub

theorem execMramPwReset_kept {acc} : Out.Kept s (execMramPwReset acc s) := .next (State.access_within State.writePwReset_kept)

theorem execMramPwSet_kept {acc data} : Out.Kept s (execMramPwSet acc data s) := .next (State.access_within State.setPw_kept)

theorem execMramRawRead_kept {acc corrected bad} : Out.Kept s (execMramRawRead acc corrected bad s) :=
    .next (State.access_within State.readRaw_kept)

theorem execMramRawWrite_kept {acc data} : Out.Kept s (execMramRawWrite acc data s) := .next (State.access_within State.writeRaw_kept)

theorem execNetEventsDroppedRead_kept {acc} : Out.Kept s (execNetEventsDroppedRead acc s) :=
    .next (State.access_within State.readDropped_kept)

theorem execNetEvict_kept {acc slot} : Out.Kept s (execNetEvict acc slot s) := .next (State.access_within State.writeEvict_kept)

theorem execNetInstallerPw_kept {acc data} : Out.Kept s (execNetInstallerPw acc data s) :=
    .next (State.access_within State.writeInstallerPw_kept)

theorem execOasisDomainLost_kept : Out.Kept s (execOasisDomainLost s) := .next State.oasisLost_within.sub

theorem execOasisDomainReturn_kept {vbk vcell voas} : Out.Kept s (execOasisDomainReturn vbk vcell voas s) :=
    .next State.oasisReturn_within.sub

theorem execOasisReservoir_kept {vbk vcell voas} : Out.Kept s (execOasisReservoir vbk vcell voas s) := .next State.oasisGap_within.sub

theorem execOasisSupplySwitch_kept {vbk vcell voas} : Out.Kept s (execOasisSupplySwitch vbk vcell voas s) :=
    .next State.oasisSwitch_within.sub

theorem execObjectRequestRead_kept {port key offset len} : Out.Kept s (execObjectRequestRead port key offset len s) :=
    .next (Within.ite (State.onPort_within (State.deadAnswer_within.sub.next State.frameBad_within))
    (State.request_within (fun _ => State.boxRead_within.sub)))

theorem execObjectRequestWrite_kept {port key offset data} : Out.Kept s (execObjectRequestWrite port key offset data s) :=
    .next (State.request_within (fun _ => State.boxWrite_within.sub))

theorem execObjectRequestWriteEnd_kept {port key offset data} : Out.Kept s (execObjectRequestWriteEnd port key offset data s) :=
    .next (State.request_within (fun _ => State.boxEnd_within.sub))

theorem execObjectRequestWriteSeg_kept {port key offset data} : Out.Kept s (execObjectRequestWriteSeg port key offset data s) :=
    .next (State.request_within (fun _ => State.boxSeg_within.sub))

theorem execObjectResponse_kept {port} : Out.Kept s (execObjectResponse port s) := .next State.respond_within.sub

theorem execObjectWrite_kept {acc key data} : Out.Kept s (execObjectWrite acc key data s) :=
    .next (State.access_within State.writeObject_kept)

theorem execOcDwellExpired_kept {r stamp} : Out.Kept s (execOcDwellExpired r stamp s) := .next State.ocExpired_within.sub

theorem execOffDelayElapsed_kept {r} : Out.Kept s (execOffDelayElapsed r s) := .next State.endOffDelay_within.sub

theorem execOnDelayElapsed_kept {r} : Out.Kept s (execOnDelayElapsed r s) := .next (Within.ite State.enterPrebias_within.sub Within.refl)

theorem execOpAbort_kept {acc tag} : Out.Kept s (execOpAbort acc tag s) := .next (State.access_within State.writeAbort_kept)

theorem execOpenPhase_kept {p} : Out.Kept s (execOpenPhase p s) := .next (Within.ite State.declare_within.sub Within.refl)

theorem execOtpBurnDone_kept {rep} : Out.Kept s (execOtpBurnDone rep s) := .next State.burnDone_within.sub

theorem execOtpDataWrite_kept {acc v} : Out.Kept s (execOtpDataWrite acc v s) := .next (State.access_within State.writeOtpData_kept)

theorem execOtpReburn_kept {acc} : Out.Kept s (execOtpReburn acc s) := .next (State.access_within State.writeOtpReburn_kept)

theorem execOtpWindowClose_kept {acc} : Out.Kept s (execOtpWindowClose acc s) := .next (State.access_within State.writeOtpWindow_kept)

theorem execOtpWindowIdle_kept : Out.Kept s (execOtpWindowIdle s) := .next State.closeWindow_within.sub

theorem execOtpWindowOpen_kept {acc} : Out.Kept s (execOtpWindowOpen acc s) := .next (State.access_within State.writeOtpWindow_kept)

theorem execPartnerSilent_kept {slot} : Out.Kept s (execPartnerSilent slot s) :=
    .next (Within.ite (State.netBegin_within.sub.next State.evict_within) State.netBegin_within.sub)

theorem execPbLongPress_kept : Out.Kept s (execPbLongPress s) := .next State.pbLong_within.sub

theorem execPbPress_kept : Out.Kept s (execPbPress s) := .next State.pbPress_within.sub

theorem execPbShortPress_kept : Out.Kept s (execPbShortPress s) := .next State.pbShort_within.sub

theorem execPgLossTrip_kept {r stamp} : Out.Kept s (execPgLossTrip r stamp s) := .next State.pgLoss_within.sub

theorem execPgQualified_kept {r} : Out.Kept s (execPgQualified r s) := .next State.pgQualified_within.sub

theorem execPgSample_kept {r v} : Out.Kept s (execPgSample r v s) := .next State.pgSample_within.sub

theorem execPhClearIso_kept {acc p} : Out.Kept s (execPhClearIso acc p s) := .next (State.access_within State.writePhClearIso_kept)

theorem execPhIPeakRead_kept {acc p} : Out.Kept s (execPhIPeakRead acc p s) := .next (State.access_within State.readPeak_kept)

theorem execPhIsolate_kept {acc p} : Out.Kept s (execPhIsolate acc p s) := .next (State.access_within State.writePhIsolate_kept)

theorem execPhaseIsolationEdge_kept {p} : Out.Kept s (execPhaseIsolationEdge p s) :=
    .next (Within.ite Within.refl State.tileIsolates_within.sub)

theorem execPhaseOcTrip_kept {p readings stamp} : Out.Kept s (execPhaseOcTrip p readings stamp s) := .next State.phaseOc_within.sub

theorem execPllLockLost_kept : Out.Kept s (execPllLockLost s) := .next (Within.ite State.clockFault_within.sub Within.refl)

theorem execPoolAverageForm_kept {r} : Out.Kept s (execPoolAverageForm r s) := .next State.poolAverage_within.sub

theorem execPrebiasComplete_kept {p inp} : Out.Kept s (execPrebiasComplete p inp s) := .next State.prebiasDone_within.sub

theorem execPrebiasTimeout_kept {p} : Out.Kept s (execPrebiasTimeout p s) := .next (Within.ite State.tileIsolates_within.sub Within.refl)

theorem execPrechargeQualified_kept : Out.Kept s (execPrechargeQualified s) := .next State.prechargeDone_within.sub

theorem execProbeResult_kept {rise endV} : Out.Kept s (execProbeResult rise endV s) := .next State.probeResult_within.sub

theorem execPwLockoutExpiry_kept {i} : Out.Kept s (execPwLockoutExpiry i s) := .next State.modPw_within.sub

theorem execRailAbortApply_kept {r} : Out.Kept s (execRailAbortApply r s) := .next State.abortTick_within.sub

theorem execRailCtrlPowerDown_kept {acc r} : Out.Kept s (execRailCtrlPowerDown acc r s) :=
    .next (State.access_within State.writeRailCtrl_kept)

theorem execRailCtrlPowerUp_kept {acc r} : Out.Kept s (execRailCtrlPowerUp acc r s) := .next (State.access_within State.writeRailCtrl_kept)

theorem execRailOvTrip_kept {r t v stamp} : Out.Kept s (execRailOvTrip r t v stamp s) := .next State.railOv_within.sub

theorem execRailPowerDownApply_kept {r} : Out.Kept s (execRailPowerDownApply r s) := .next State.powerDownTick_within.sub

theorem execRailPowerUpApply_kept {r} : Out.Kept s (execRailPowerUpApply r s) := .next State.powerUpTick_within.sub

theorem execRailUvTrip_kept {r v stamp} : Out.Kept s (execRailUvTrip r v stamp s) := .next State.railUv_within.sub

theorem execRailVoltageApply_kept {r} : Out.Kept s (execRailVoltageApply r s) := .next State.voltageTick_within.sub

theorem execRailVsetWrite_kept {acc r mv} : Out.Kept s (execRailVsetWrite acc r mv s) :=
    .next (State.access_within State.writeRailVset_kept)

theorem execRampUpStart_kept {r v0} : Out.Kept s (execRampUpStart r v0 s) := .next State.rampStart_within.sub

theorem execRateSlow_kept {t} : Out.Kept s (execRateSlow t s) := .next State.rateSlow_within.sub

theorem execReadReq_kept {f} : Out.Kept s (execReadReq f s) := .next State.received_within.sub

theorem execRechargeThreshold_kept : Out.Kept s (execRechargeThreshold s) := .next State.recharge_within.sub

theorem execReferenceAtTarget_kept {r} : Out.Kept s (execReferenceAtTarget r s) := .next State.referenceReached_within.sub

theorem execReferenceBelowFloor_kept {r} : Out.Kept s (execReferenceBelowFloor r s) :=
    .next (Within.ite State.enterDischarge_within.sub Within.refl)

theorem execRegisterCopy_kept : Out.Kept s (execRegisterCopy s) :=
    .next (Within.ite (Within.refl.foldl fun _ _ => Within.ite State.copyRegisters_within.sub Within.refl) Within.refl)

theorem execRestAnchor_kept : Out.Kept s (execRestAnchor s) := .next (Within.ite State.restAnchor_within.sub Within.refl)

theorem execRestEnter_kept : Out.Kept s (execRestEnter s) := .next State.restEnter_within.sub

theorem execRestWindowEnd_kept : Out.Kept s (execRestWindowEnd s) := .next State.restEnd_within.sub

theorem execRoleIdleTimeout_kept {slot} : Out.Kept s (execRoleIdleTimeout slot s) := .next State.modPartner_within.sub

theorem execRtcAdjust_kept {acc v} : Out.Kept s (execRtcAdjust acc v s) := .next (State.access_within State.writeRtcAdjust_kept)

theorem execRtcAlarmWrite_kept {acc v} : Out.Kept s (execRtcAlarmWrite acc v s) := .next (State.access_within State.writeRtcAlarm_kept)

theorem execRtcCrystalReturn_kept : Out.Kept s (execRtcCrystalReturn s) := .next State.modOasis_within.sub

theorem execRtcOscFault_kept : Out.Kept s (execRtcOscFault s) := .next State.oscFault_within.sub

theorem execRtcSecond_kept : Out.Kept s (execRtcSecond s) := .next State.rtcSecond_within.sub

theorem execRtcSetSeconds_kept {acc v} : Out.Kept s (execRtcSetSeconds acc v s) := .next (State.access_within State.writeRtcSet_kept)

theorem execSclStretchTimeout_kept : Out.Kept s (execSclStretchTimeout s) :=
    .next (Within.ite ((State.leaseRevoked_within).sub.next State.startBusClear_within) Within.refl)

theorem execScrubBatch_kept {weak corrected bad} : Out.Kept s (execScrubBatch weak corrected bad s) := .next (Within.ite (by
  split
  · rename_i u1 x11 e1
    refine .have_ (t := u1) (.of_fst State.drainRewrites_within.sub e1) fun h1 => ?_
    extract_lets x21 s22 s23 s24 s25 x26 s27
    refine .have_ (t := s22) (h1.foldl fun _ _ => State.bump_any.sub.next State.raise_any) fun h22 => ?_
    refine .have_ (t := s23) (h22.foldl fun _ _ => State.bump_any.sub) fun h23 => ?_
    refine .have_ (t := s24) (Within.ite h23 (h23.next State.raise_any)) fun h24 => ?_
    refine .have_ (t := s25) (h24.foldl fun _ _ => State.uncorrectable_within.sub) fun h25 => ?_
    refine .have_ (t := s27) (h25.next State.put_any) fun h27 => ?_
    exact Within.ite ((h27.next State.bump_any).next State.raise_any) h27) Within.refl)

theorem execSealDone_kept {vhks vhk} : Out.Kept s (execSealDone vhks vhk s) := .next (Within.ite State.sealAll_within.sub Within.refl)

theorem execSealingFloorReached_kept {steps sessions} : Out.Kept s (execSealingFloorReached steps sessions s) :=
    .next (Within.ite State.sealFloor_within.sub Within.refl)

theorem execSegmentSilence_kept {port} : Out.Kept s (execSegmentSilence port s) := .next State.revokeSegments_within.sub

theorem execSenseDisagree_kept {r t v lead} : Out.Kept s (execSenseDisagree r t v lead s) := .next State.senseDisagree_within.sub

theorem execSenseOpenCode_kept {p left} : Out.Kept s (execSenseOpenCode p left s) := .next State.senseOpen_within.sub

theorem execSenseTestOutcome_kept {p reading stamp} : Out.Kept s (execSenseTestOutcome p reading stamp s) :=
    .next State.senseOutcome_within.sub

theorem execSensorBroken_kept : Out.Kept s (execSensorBroken s) := .next State.crossCheck_within.sub

theorem execSensorSample_kept {t rs} : Out.Kept s (execSensorSample t rs s) := .next State.sensorSample_within.sub

theorem execSeqChatterClear_kept {acc} : Out.Kept s (execSeqChatterClear acc s) := .next (State.access_within State.writeChatterClear_kept)

theorem execSessionCloseInstant_kept {m} : Out.Kept s (execSessionCloseInstant m s) :=
    .next (Within.ite (State.modPoint_within.sub.next State.addRecord_within) Within.refl)

theorem execSessionOpenInstant_kept {m} : Out.Kept s (execSessionOpenInstant m s) :=
    .next (Within.ite State.addRecord_within.sub Within.refl)

theorem execSessionSigned_kept {m} : Out.Kept s (execSessionSigned m s) := .next (Within.ite State.signatureDone_within.sub Within.refl)

theorem execShedDwellExpired_kept {r} : Out.Kept s (execShedDwellExpired r s) := .next State.shedStep_within.sub

theorem execSirSensorReset_kept {acc} : Out.Kept s (execSirSensorReset acc s) := .next (State.access_within State.writeSensorReset_kept)

theorem execSiroccoUpdate_kept : Out.Kept s (execSiroccoUpdate s) := .next State.siroccoStep_within.sub

theorem execSpareCheckDone_kept {p finding} : Out.Kept s (execSpareCheckDone p finding s) := .next State.spareChecked_within.sub

theorem execSpiFrameInvalid_kept {port bytes cut reads} : Out.Kept s (execSpiFrameInvalid port bytes cut reads s) :=
    .next State.portFrame_within.sub

theorem execStageTimeout_kept : Out.Kept s (execStageTimeout s) := .next State.stageTimeout_within.sub

theorem execStagedWrite_kept {acc key data} : Out.Kept s (execStagedWrite acc key data s) :=
    .next (State.access_within State.writeObject_kept)

theorem execStepComplete_kept {g} : Out.Kept s (execStepComplete g s) := .next State.stepDone_within.sub

theorem execStepDelayElapsed_kept {g} : Out.Kept s (execStepDelayElapsed g s) := .next State.stepGo_within.sub

theorem execStepOffDelayElapsed_kept {g} : Out.Kept s (execStepOffDelayElapsed g s) := .next State.stepOff_within.sub

theorem execStepRailsDown_kept {g} : Out.Kept s (execStepRailsDown g s) := .next State.stepFallen_within.sub

theorem execStepTimeout_kept {g} : Out.Kept s (execStepTimeout g s) := .next State.stepTimeout_within.sub

theorem execStuckSessionFault_kept {m} : Out.Kept s (execStuckSessionFault m s) :=
    .next (Within.ite State.closeSession_within.sub Within.refl)

theorem execSupQuench_kept {acc} : Out.Kept s (execSupQuench acc s) := .next (State.access_within State.writeSupQuench_kept)

theorem execSupSnapClear_kept {acc} : Out.Kept s (execSupSnapClear acc s) := .next (State.access_within State.writeSnapClear_kept)

theorem execSupSnapTake_kept {acc} : Out.Kept s (execSupSnapTake acc s) := .next (State.access_within State.writeSnapTake_kept)

theorem execSwitchbackDone_kept : Out.Kept s (execSwitchbackDone s) := .next State.switchbackDone_within.sub

theorem execSwitchingCycleEdge_kept {p inp} : Out.Kept s (execSwitchingCycleEdge p inp s) := .next State.cycleEdge_within.sub

theorem execSyncinEdge_kept {periodNs} : Out.Kept s (execSyncinEdge periodNs s) := .next (Within.ite State.syncEdge_within.sub Within.refl)

theorem execSyncinTimeout_kept : Out.Kept s (execSyncinTimeout s) := .next (Within.ite State.frameInternal_within.sub Within.refl)

theorem execTagReservationExpiry_kept {t} : Out.Kept s (execTagReservationExpiry t s) := .next State.freeTag_within.sub

theorem execTamper_kept : Out.Kept s (execTamper s) := .next State.tamper_within.sub

theorem execTamperClear_kept {acc} : Out.Kept s (execTamperClear acc s) := .next (State.access_within State.writeTamperClear_kept)

theorem execTbLoRead_kept {port} : Out.Kept s (execTbLoRead port s) := .next (State.onPort_within State.tbLow_within.sub)

theorem execTelemetrySend_kept : Out.Kept s (execTelemetrySend s) := .next State.telemetry_within.sub

theorem execTempLimitModel_kept : Out.Kept s (execTempLimitModel s) := .next State.decideTrip_within.sub

theorem execTempLimitSensor_kept : Out.Kept s (execTempLimitSensor s) := .next State.decideTrip_within.sub

theorem execTestNLow_kept : Out.Kept s (execTestNLow s) :=
    .next (Within.ite State.modSec_within.sub (Within.ite Within.refl (State.modSec_within.sub.next State.raiseLater_any)))

theorem execThermalGuardSample_kept {reading} : Out.Kept s (execThermalGuardSample reading s) := .next State.guardSample_within.sub

theorem execTimeFlitTick_kept : Out.Kept s (execTimeFlitTick s) :=
    .next (Within.ite (State.timeTo_within.sub.next State.readyAll_within) Within.refl)

theorem execTlmEnWrite_kept {acc m v} : Out.Kept s (execTlmEnWrite acc m v s) := .next (State.access_within State.writeTlmEn_kept)

theorem execTrainingDeadline_kept {t step} : Out.Kept s (execTrainingDeadline t step s) :=
    .next (Within.ite (State.put_any.sub.next State.trainFence_within) Within.refl)

theorem execTriggerStampTimeout_kept : Out.Kept s (execTriggerStampTimeout s) := .next State.modSup_within.sub

theorem execTwBusRecovered_kept : Out.Kept s (execTwBusRecovered s) :=
    .next (Within.ite (Within.set_bus.sub.next State.raiseLater_any) Within.refl)

theorem execTwStretchLimit_kept {reads} : Out.Kept s (execTwStretchLimit reads s) :=
    .next (Within.ite (State.frameBad_within.sub.next Within.set_answer) Within.set_answer.sub)

theorem execTwTimeout_kept : Out.Kept s (execTwTimeout s) :=
    .next (Within.ite ((State.bump_any.sub.next State.raise_any).next Within.set_answer) Within.set_answer.sub)

theorem execUnlockIdleExpiry_kept {holder part} : Out.Kept s (execUnlockIdleExpiry holder part s) :=
    .next (Within.ite Within.refl State.endUnlocks_within.sub)

theorem execVbatCutoff_kept {v} : Out.Kept s (execVbatCutoff v s) := .next State.vbatCutoff_within.sub

theorem execVhkBelowPor_kept : Out.Kept s (execVhkBelowPor s) := .next State.vhkDown_within.sub

theorem execVhkPorRelease_kept : Out.Kept s (execVhkPorRelease s) := .next State.vhkUp_within.sub

theorem execVinAbsent1ms_kept : Out.Kept s (execVinAbsent1ms s) := .next State.vinGone_within.sub

theorem execVinComparatorTrip_kept {high} : Out.Kept s (execVinComparatorTrip high s) := .next State.vinTrip_within.sub

theorem execVinInService_kept {above} : Out.Kept s (execVinInService above s) := .next State.vinInService_within.sub

theorem execVinQualified_kept : Out.Kept s (execVinQualified s) := .next State.vinQualified_within.sub

theorem execVinWindowEnter_kept : Out.Kept s (execVinWindowEnter s) := .next State.windowEnter_within.sub

theorem execVinWindowExit_kept : Out.Kept s (execVinWindowExit s) := .next State.windowExit_within.sub

theorem execVqpsLeftWindow_kept : Out.Kept s (execVqpsLeftWindow s) := .next (State.modOtp_within.sub.next State.closeWindow_within)

theorem execWakeEvent_kept {sources} : Out.Kept s (execWakeEvent sources s) := .next State.wake_within.sub

theorem execWakeInput_kept : Out.Kept s (execWakeInput s) := .next (Within.ite State.raiseLater_any.sub Within.refl)

theorem execWriteReq_kept {f} : Out.Kept s (execWriteReq f s) := .next State.received_within.sub

/-- Every command keeps the queue of waiting commands and the bound of the mode history. -/
theorem exec_kept (c : Instr) : Out.Kept s (exec c s) := by
  cases c with
  | vhkPorRelease => exact execVhkPorRelease_kept
  | vhkBelowPor => exact execVhkBelowPor_kept
  | holdupWarning => exact execHoldupWarning_kept
  | hrstAssert => exact execHrstAssert_kept
  | hrstRelease => exact execHrstRelease_kept
  | bootComplete => exact execBootComplete_kept
  | modeRequestVault => exact execModeRequestVault_kept
  | modeRequestShip => exact execModeRequestShip_kept
  | modeRequestDormant => exact execModeRequestDormant_kept
  | modeRequestIdle => exact execModeRequestIdle_kept
  | modeRequestService => exact execModeRequestService_kept
  | wakeEvent => exact execWakeEvent_kept
  | dormantExitDone => exact execDormantExitDone_kept
  | vinAbsent1ms => exact execVinAbsent1ms_kept
  | batteryUnusable => exact execBatteryUnusable_kept
  | heldResetRelease => exact execHeldResetRelease_kept
  | failsafeRetry => exact execFailsafeRetry_kept
  | fsCleanTimeReached => exact execFsCleanTimeReached_kept
  | sealDone => exact execSealDone_kept
  | managementTick => exact execManagementTick_kept
  | syncinEdge => exact execSyncinEdge_kept
  | syncinTimeout => exact execSyncinTimeout_kept
  | switchingCycleEdge => exact execSwitchingCycleEdge_kept
  | poolAverageForm => exact execPoolAverageForm_kept
  | senseOpenCode => exact execSenseOpenCode_kept
  | senseTestOutcome => exact execSenseTestOutcome_kept
  | openPhase => exact execOpenPhase_kept
  | cfFault => exact execCfFault_kept
  | prebiasTimeout => exact execPrebiasTimeout_kept
  | prebiasComplete => exact execPrebiasComplete_kept
  | phaseIsolationEdge => exact execPhaseIsolationEdge_kept
  | spareCheckDone => exact execSpareCheckDone_kept
  | phClearIso => exact execPhClearIso_kept
  | phIsolate => exact execPhIsolate_kept
  | shedDwellExpired => exact execShedDwellExpired_kept
  | phIPeakRead => exact execPhIPeakRead_kept
  | lanternVbusUvlo => exact execLanternVbusUvlo_kept
  | railVsetWrite => exact execRailVsetWrite_kept
  | railCtrlPowerUp => exact execRailCtrlPowerUp_kept
  | railCtrlPowerDown => exact execRailCtrlPowerDown_kept
  | railPowerUpApply => exact execRailPowerUpApply_kept
  | railPowerDownApply => exact execRailPowerDownApply_kept
  | railVoltageApply => exact execRailVoltageApply_kept
  | railAbortApply => exact execRailAbortApply_kept
  | onDelayElapsed => exact execOnDelayElapsed_kept
  | rampUpStart => exact execRampUpStart_kept
  | referenceAtTarget => exact execReferenceAtTarget_kept
  | offDelayElapsed => exact execOffDelayElapsed_kept
  | referenceBelowFloor => exact execReferenceBelowFloor_kept
  | dischargeDone => exact execDischargeDone_kept
  | dischargeSlow => exact execDischargeSlow_kept
  | coilPullInElapsed => exact execCoilPullInElapsed_kept
  | coilReleaseEnd => exact execCoilReleaseEnd_kept
  | coilOpen => exact execCoilOpen_kept
  | ocDwellExpired => exact execOcDwellExpired_kept
  | auxEnWrite => exact execAuxEnWrite_kept
  | auxVsetWrite => exact execAuxVsetWrite_kept
  | auxRampDone => exact execAuxRampDone_kept
  | auxOcDwellExpired => exact execAuxOcDwellExpired_kept
  | auxUv => exact execAuxUv_kept
  | lossHigh => exact execLossHigh_kept
  | fastEstimate => exact execFastEstimate_kept
  | fastCapsInForce => exact execFastCapsInForce_kept
  | ledgerEClear => exact execLedgerEClear_kept
  | ledgerAccountCopy => exact execLedgerAccountCopy_kept
  | grpCmdPowerUp => exact execGrpCmdPowerUp_kept
  | grpCmdPowerDown => exact execGrpCmdPowerDown_kept
  | groupGatesOpen => exact execGroupGatesOpen_kept
  | stepDelayElapsed => exact execStepDelayElapsed_kept
  | stepComplete => exact execStepComplete_kept
  | stepTimeout => exact execStepTimeout_kept
  | pgSample => exact execPgSample_kept
  | pgQualified => exact execPgQualified_kept
  | stepOffDelayElapsed => exact execStepOffDelayElapsed_kept
  | stepRailsDown => exact execStepRailsDown_kept
  | seqChatterClear => exact execSeqChatterClear_kept
  | fogLowRecognised => exact execFogLowRecognised_kept
  | fogReleased => exact execFogReleased_kept
  | bellRing => exact execBellRing_kept
  | bellHoldEnd => exact execBellHoldEnd_kept
  | bellTimeout => exact execBellTimeout_kept
  | legacyPoll => exact execLegacyPoll_kept
  | legacyRetry => exact execLegacyRetry_kept
  | legacyStageGo => exact execLegacyStageGo_kept
  | legacyStageDown => exact execLegacyStageDown_kept
  | legacyStatusRead => exact execLegacyStatusRead_kept
  | legacyIdRead => exact execLegacyIdRead_kept
  | legacyAllOff => exact execLegacyAllOff_kept
  | legacyFaultClear => exact execLegacyFaultClear_kept
  | railOvTrip => exact execRailOvTrip_kept
  | railUvTrip => exact execRailUvTrip_kept
  | pgLossTrip => exact execPgLossTrip_kept
  | phaseOcTrip => exact execPhaseOcTrip_kept
  | triggerStampTimeout => exact execTriggerStampTimeout_kept
  | sealingFloorReached => exact execSealingFloorReached_kept
  | senseDisagree => exact execSenseDisagree_kept
  | supQuench => exact execSupQuench_kept
  | supSnapTake => exact execSupSnapTake_kept
  | supSnapClear => exact execSupSnapClear_kept
  | mramLeaseRevoke => exact execMramLeaseRevoke_kept
  | channelLeaseRevoke => exact execChannelLeaseRevoke_kept
  | tagReservationExpiry => exact execTagReservationExpiry_kept
  | sclStretchTimeout => exact execSclStretchTimeout_kept
  | busClearSample => exact execBusClearSample_kept
  | busClearRepeat => exact execBusClearRepeat_kept
  | twBusRecovered => exact execTwBusRecovered_kept
  | siroccoUpdate => exact execSiroccoUpdate_kept
  | tempLimitModel => exact execTempLimitModel_kept
  | sensorSample => exact execSensorSample_kept
  | tempLimitSensor => exact execTempLimitSensor_kept
  | sensorBroken => exact execSensorBroken_kept
  | rateSlow => exact execRateSlow_kept
  | modelDiverge => exact execModelDiverge_kept
  | sirSensorReset => exact execSirSensorReset_kept
  | thermalGuardSample => exact execThermalGuardSample_kept
  | vinComparatorTrip => exact execVinComparatorTrip_kept
  | vinWindowEnter => exact execVinWindowEnter_kept
  | vinWindowExit => exact execVinWindowExit_kept
  | vinQualified => exact execVinQualified_kept
  | switchbackDone => exact execSwitchbackDone_kept
  | restEnter => exact execRestEnter_kept
  | restWindowEnd => exact execRestWindowEnd_kept
  | vbatCutoff => exact execVbatCutoff_kept
  | batteryProbe => exact execBatteryProbe_kept
  | probeResult => exact execProbeResult_kept
  | chargerCycle => exact execChargerCycle_kept
  | chgEnWrite => exact execChgEnWrite_kept
  | chgStart => exact execChgStart_kept
  | chgWdKick => exact execChgWdKick_kept
  | chgWatchdogExpiry => exact execChgWatchdogExpiry_kept
  | prechargeQualified => exact execPrechargeQualified_kept
  | chgTermination => exact execChgTermination_kept
  | rechargeThreshold => exact execRechargeThreshold_kept
  | chgTimerExpiry => exact execChgTimerExpiry_kept
  | chgOvStop => exact execChgOvStop_kept
  | chgOvCheck => exact execChgOvCheck_kept
  | pbPress => exact execPbPress_kept
  | pbShortPress => exact execPbShortPress_kept
  | pbLongPress => exact execPbLongPress_kept
  | longPressBatfetRelease => exact execLongPressBatfetRelease_kept
  | restAnchor => exact execRestAnchor_kept
  | confidenceExpired => exact execConfidenceExpired_kept
  | forcedRestRequest => exact execForcedRestRequest_kept
  | forcedRestRetry => exact execForcedRestRetry_kept
  | bidChange => exact execBidChange_kept
  | estImpRowWrite => exact execEstImpRowWrite_kept
  | estLearnReset => exact execEstLearnReset_kept
  | estFrestAbort => exact execEstFrestAbort_kept
  | coreRecordWrite => exact execCoreRecordWrite_kept
  | meteringSample => exact execMeteringSample_kept
  | inputStuck => exact execInputStuck_kept
  | inputRestored => exact execInputRestored_kept
  | stuckSessionFault => exact execStuckSessionFault_kept
  | pllLockLost => exact execPllLockLost_kept
  | mpSessionOpen => exact execMpSessionOpen_kept
  | mpSessionClose => exact execMpSessionClose_kept
  | sessionOpenInstant => exact execSessionOpenInstant_kept
  | sessionCloseInstant => exact execSessionCloseInstant_kept
  | sessionSigned => exact execSessionSigned_kept
  | registerCopy => exact execRegisterCopy_kept
  | metEClear => exact execMetEClear_kept
  | calibrationWrite => exact execCalibrationWrite_kept
  | jnlAckWrite => exact execJnlAckWrite_kept
  | jnlReadRec => exact execJnlReadRec_kept
  | jnlReadBlock => exact execJnlReadBlock_kept
  | jnlInit => exact execJnlInit_kept
  | flitStatus => exact execFlitStatus_kept
  | flitSample => exact execFlitSample_kept
  | flitAcknak => exact execFlitAcknak_kept
  | flitTime => exact execFlitTime_kept
  | flitCommand => exact execFlitCommand_kept
  | flitTrain => exact execFlitTrain_kept
  | flitUrgent => exact execFlitUrgent_kept
  | flitBad => exact execFlitBad_kept
  | ackTimer => exact execAckTimer_kept
  | linkSilent => exact execLinkSilent_kept
  | linkClockLost => exact execLinkClockLost_kept
  | downLinkLost => exact execDownLinkLost_kept
  | linkTrained => exact execLinkTrained_kept
  | trainingDeadline => exact execTrainingDeadline_kept
  | timeFlitTick => exact execTimeFlitTick_kept
  | crystalLoss => exact execCrystalLoss_kept
  | cutInstant => exact execCutInstant_kept
  | habArmCmd => exact execHabArmCmd_kept
  | habDisarmCmd => exact execHabDisarmCmd_kept
  | beamTimeOffsetMaxRead => exact execBeamTimeOffsetMaxRead_kept
  | hailReq => exact execHailReq_kept
  | bye => exact execBye_kept
  | heartbeat => exact execHeartbeat_kept
  | readReq => exact execReadReq_kept
  | writeReq => exact execWriteReq_kept
  | abort => exact execAbort_kept
  | blockInit => exact execBlockInit_kept
  | blockSeg => exact execBlockSeg_kept
  | blockAck => exact execBlockAck_kept
  | blockEnd => exact execBlockEnd_kept
  | eventAck => exact execEventAck_kept
  | authReq => exact execAuthReq_kept
  | authResponse => exact execAuthResponse_kept
  | frameCrc => exact execFrameCrc_kept
  | heartbeatBroadcast => exact execHeartbeatBroadcast_kept
  | eventResend => exact execEventResend_kept
  | telemetrySend => exact execTelemetrySend_kept
  | partnerSilent => exact execPartnerSilent_kept
  | blockSilence => exact execBlockSilence_kept
  | canBusOff => exact execCanBusOff_kept
  | canBusRecovered => exact execCanBusRecovered_kept
  | canErrorPassive => exact execCanErrorPassive_kept
  | netEvict => exact execNetEvict_kept
  | netInstallerPw => exact execNetInstallerPw_kept
  | tlmEnWrite => exact execTlmEnWrite_kept
  | roleIdleTimeout => exact execRoleIdleTimeout_kept
  | authLockoutExpiry => exact execAuthLockoutExpiry_kept
  | objectWrite => exact execObjectWrite_kept
  | stagedWrite => exact execStagedWrite_kept
  | bootClassWrite => exact execBootClassWrite_kept
  | cfgCommit => exact execCfgCommit_kept
  | cfgDiscard => exact execCfgDiscard_kept
  | stageTimeout => exact execStageTimeout_kept
  | commitChecksDone => exact execCommitChecksDone_kept
  | commitAckTimeout => exact execCommitAckTimeout_kept
  | commitStageApply => exact execCommitStageApply_kept
  | cfgSave => exact execCfgSave_kept
  | cfgSaveDone => exact execCfgSaveDone_kept
  | cfgErase => exact execCfgErase_kept
  | cfgImageWrite => exact execCfgImageWrite_kept
  | spiFrameInvalid => exact execSpiFrameInvalid_kept
  | intClaim => exact execIntClaim_kept
  | intComplete => exact execIntComplete_kept
  | tbLoRead => exact execTbLoRead_kept
  | counterLowRead => exact execCounterLowRead_kept
  | objectRequestRead => exact execObjectRequestRead_kept
  | objectRequestWrite => exact execObjectRequestWrite_kept
  | objectRequestWriteSeg => exact execObjectRequestWriteSeg_kept
  | objectRequestWriteEnd => exact execObjectRequestWriteEnd_kept
  | mailboxResponseReady => exact execMailboxResponseReady_kept
  | objectResponse => exact execObjectResponse_kept
  | segmentSilence => exact execSegmentSilence_kept
  | twStretchLimit => exact execTwStretchLimit_kept
  | twTimeout => exact execTwTimeout_kept
  | opAbort => exact execOpAbort_kept
  | mramRawRead => exact execMramRawRead_kept
  | mramRawWrite => exact execMramRawWrite_kept
  | mramPwPresent => exact execMramPwPresent_kept
  | mramPwSet => exact execMramPwSet_kept
  | mramPwLock => exact execMramPwLock_kept
  | mramPwReset => exact execMramPwReset_kept
  | unlockIdleExpiry => exact execUnlockIdleExpiry_kept
  | pwLockoutExpiry => exact execPwLockoutExpiry_kept
  | mramPortGrant => exact execMramPortGrant_kept
  | scrubBatch => exact execScrubBatch_kept
  | dmaStart => exact execDmaStart_kept
  | dmaRetry => exact execDmaRetry_kept
  | dmaDone => exact execDmaDone_kept
  | mirArmCmd => exact execMirArmCmd_kept
  | mirStopCmd => exact execMirStopCmd_kept
  | mirTriggerCmd => exact execMirTriggerCmd_kept
  | mirageFrame => exact execMirageFrame_kept
  | mirageTrigger => exact execMirageTrigger_kept
  | miragePostFull => exact execMiragePostFull_kept
  | mirageRotationDone => exact execMirageRotationDone_kept
  | otpWindowOpen => exact execOtpWindowOpen_kept
  | otpWindowClose => exact execOtpWindowClose_kept
  | otpWindowIdle => exact execOtpWindowIdle_kept
  | vqpsLeftWindow => exact execVqpsLeftWindow_kept
  | otpDataWrite => exact execOtpDataWrite_kept
  | otpBurnDone => exact execOtpBurnDone_kept
  | otpReburn => exact execOtpReburn_kept
  | lcAdvance => exact execLcAdvance_kept
  | lifecycleTransitionDone => exact execLifecycleTransitionDone_kept
  | lcReturnNonce => exact execLcReturnNonce_kept
  | dbgChallenge => exact execDbgChallenge_kept
  | dbgProof => exact execDbgProof_kept
  | dbgLevelReq => exact execDbgLevelReq_kept
  | dbgHaltCmd => exact execDbgHaltCmd_kept
  | dbgResumeCmd => exact execDbgResumeCmd_kept
  | debugIdleTimeout => exact execDebugIdleTimeout_kept
  | testNLow => exact execTestNLow_kept
  | rtcSecond => exact execRtcSecond_kept
  | rtcSetSeconds => exact execRtcSetSeconds_kept
  | calSet => exact execCalSet_kept
  | rtcAdjust => exact execRtcAdjust_kept
  | rtcAlarmWrite => exact execRtcAlarmWrite_kept
  | rtcOscFault => exact execRtcOscFault_kept
  | rtcCrystalReturn => exact execRtcCrystalReturn_kept
  | oasisSupplySwitch => exact execOasisSupplySwitch_kept
  | oasisReservoir => exact execOasisReservoir_kept
  | oasisDomainLost => exact execOasisDomainLost_kept
  | oasisDomainReturn => exact execOasisDomainReturn_kept
  | tamper => exact execTamper_kept
  | tamperClear => exact execTamperClear_kept
  | wakeInput => exact execWakeInput_kept
  | cellLow => exact execCellLow_kept
  | vinInService => exact execVinInService_kept
  | lanternVbusUvloRelease => exact execLanternVbusUvloRelease_kept
  | intReleaseHoldEnd => exact execIntReleaseHoldEnd_kept
  | dmaGrantTimeout => exact execDmaGrantTimeout_kept
  | ledgerCapApply => exact execLedgerCapApply_kept
  | batpathOnChange => exact execBatpathOnChange_kept
  | mpOverrangeCountRead => exact execMpOverrangeCountRead_kept
  | netEventsDroppedRead => exact execNetEventsDroppedRead_kept

theorem State.idle_within : Within anyPart s s.idle := by
  unfold State.idle
  exact .ite Within.set_now.any .refl

/-- A step takes the queue's front and keeps the rest. -/
theorem step_kept : Out.Kept { s with pending := s.pending.drop 1 } (Machine.step s) := by
  unfold Machine.step
  split
  · rename_i e
    have hs : { s with pending := s.pending.drop 1 } = s := by
      cases s
      simp_all
    rw [hs]
    exact .next State.idle_within
  · rename_i c rest e
    rw [e]
    exact exec_kept c

/-- Settles O5: every command keeps the queue and the history's bound (`exec_kept`), and a step carries out the queue's front. -/
theorem queueAndHistoryAreKept : Obligations.QueueAndHistoryAreKept := by
  unfold Obligations.QueueAndHistoryAreKept
  refine ⟨⟨?_, ?_⟩, ?_⟩
  · exact fun c s t h => (exec_kept c t h).queue
  · exact fun s t h => (step_kept t h).queue
  · exact fun s t hs h => (step_kept t h).bound hs

end Sys2Proof.Machine
end

section
set_option Elab.async false

namespace Sys2Proof.Machine

/-! ### A shed that the peak limit calls off (O17) -/

/-- A rail whose only member, ACTIVE, is to go to SHED at its next cycle edge. -/
def aboutToShed : State :=
  (State.reset.modPhase 5 fun x => { x with st := .active, rail := some 3, next := some .shed }).modRail 3 fun x => { x with members := [5] }

/-- A cycle that ended at the peak limit. -/
def peakCycle : CycleInput := { volts := [(0, 0)], currents := [(0, 0)], vbus := 48000, vcf := 24000, peak := true, demand := 0 }

/-- The peak limit calls off a shed that is still to come (R85), in the very cycle at whose end it was due. -/
theorem peakCycle_keeps_active : ((aboutToShed.cycleEdge 5 peakCycle).phase 5).st = .active := by decide +kernel

/-- Refutes O17: the clause for the edge of a member that is to be shed does not ask that its last cycle ended below the peak limit; a cycle
that ended at it calls the shed off, and the member stays ACTIVE. -/
theorem not_frameLockoutAndShedding : ¬ Obligations.FrameLockoutAndShedding := by
  intro h
  obtain ⟨-, -, -, -, shed, -⟩ := h
  obtain ⟨t, run, st, -⟩ := shed 5 3 peakCycle aboutToShed (by decide) (by decide) (by decide) (by decide) (by decide)
  have e : exec (.switchingCycleEdge 5 peakCycle) aboutToShed = .next (aboutToShed.cycleEdge 5 peakCycle) := rfl
  rw [← Host.Outcome.next.inj (e.symm.trans run), peakCycle_keeps_active] at st
  exact absurd st (by decide)

/-! ### A tile that has lost its down link (O18) -/

/-- An ACTIVE member of a tile that has found its down link lost. -/
def downLostMember : State :=
  ((State.reset.modPhase 5 fun x => { x with st := .active, rail := some 3 }).modRail 3 fun x => { x with members := [5] }).modLink 1
    fun l => { l with downLost := true }

/-- A cycle that ended below the peak limit. -/
def quietCycle : CycleInput := { peakCycle with peak := false }

/-- A quotient is not below the one that is rounded down. -/
theorem ediv_le_quot {a b : Int} (hb : b ≠ 0) : a / b ≤ quot a b := by
  unfold quot
  rw [if_neg hb]
  split
  · exact le_rfl
  · split
    · exact Int.le_add_one le_rfl
    · exact le_rfl

/-- The on-time minimum is no vanishing duty: f_sw is at least 250 kHz (R60, R64). -/
theorem State.dutyLo_pos {s : State} {p : Fin 56} : 0 < s.dutyLo p := by
  have hf : 250000 ≤ s.fsw p := le_max_left _ _
  have hq : (1 : Int) ≤ (if isBus p then 40 else 20) * s.fsw p * 65536 / 1000000000 :=
    Int.le_ediv_of_mul_le (by decide) (by split <;> omega)
  exact lt_of_lt_of_le (Int.lt_of_lt_of_le Int.zero_lt_one hq) (ediv_le_quot (by decide))

/-- The cycle edge opens the switches of a tile that has found its down link lost (R305). -/
theorem downLost_opens_at_edge : ((downLostMember.cycleEdge 5 quietCycle).phase 5).duty = 0 := by decide +kernel

/-- Refutes O18: the clause for the edge of an ACTIVE member asks that its tile is not under the lockout, but not that its down link stands;
where that is lost the edge opens the switches, and the duty 0 lies below the on-time minimum. -/
theorem not_cycleEdgeAndPoolAverage : ¬ Obligations.CycleEdgeAndPoolAverage := by
  intro h
  obtain ⟨active, -⟩ := h
  obtain ⟨t, run, -, -, -, -, -, -, duty, -⟩ := active 5 3 quietCycle downLostMember (by decide) (by decide) (by decide) (by decide)
  have e : exec (.switchingCycleEdge 5 quietCycle) downLostMember = .next (downLostMember.cycleEdge 5 quietCycle) := rfl
  have least := duty (by decide)
  rw [← Host.Outcome.next.inj (e.symm.trans run), downLost_opens_at_edge] at least
  exact absurd least (not_le.2 State.dutyLo_pos)

end Sys2Proof.Machine
end

section
/-! What the moves of the phases leave of a phase, and of one that is isolated. -/

set_option Elab.async false

namespace Sys2Proof.Machine

variable {s t u : State} {F : Parts} {p q : Fin 56} {r : Fin 32}

/-! ### A unit of a part that stays -/

theorem State.phase_congr (h : t.phases = s.phases) : t.phase p = s.phase p := by unfold State.phase; rw [h]

theorem State.rail_congr (h : t.rails = s.rails) : t.rail r = s.rail r := by unfold State.rail; rw [h]

theorem State.tile_congr {n : Fin 8} (h : t.tiles = s.tiles) : t.tile n = s.tile n := by unfold State.tile; rw [h]

theorem State.link_congr {n : Fin 8} (h : t.links = s.links) : t.link n = s.link n := by unfold State.link; rw [h]

/-! ### What the moves leave of a phase (R80, R85, R109) -/

/-- What a change of one phase leaves as it is of that phase, it leaves of every phase. -/
theorem State.modPhase_phase_keeps {α : Type} (g : PhaseSt → α) {f : PhaseSt → PhaseSt} (h : ∀ x, g (f x) = g x) :
    g ((s.modPhase q f).phase p) = g (s.phase p) := by
  by_cases hp : p = q
  · rw [hp, State.phase_modPhase_self, h]
  · rw [State.phase_modPhase_ne s hp]

/-- Shed members that return have a decision for their next cycle edge, and nothing else changes. -/
theorem State.returnShed_phase_keeps {α : Type} (g : PhaseSt → α) (h : ∀ x n, g { x with next := n } = g x) {n : Nat} :
    g ((s.returnShed r n).phase p) = g (s.phase p) :=
  foldl_keeps (P := fun v : State => g (v.phase p) = g (s.phase p)) rfl fun _ _ hv => (State.modPhase_phase_keeps g fun _ => h ..).trans hv

theorem State.returnAll_phase_keeps {α : Type} (g : PhaseSt → α) (h : ∀ x n, g { x with next := n } = g x) :
    g ((s.returnAll r).phase p) = g (s.phase p) :=
  foldl_keeps (P := fun v : State => g (v.phase p) = g (s.phase p))
    (foldl_keeps (P := fun v : State => g (v.phase p) = g (s.phase p)) rfl fun _ _ hv =>
      (State.modPhase_phase_keeps g fun _ => h ..).trans hv)
    fun _ _ hv => (State.modPhase_phase_keeps g fun _ => h ..).trans hv

theorem State.refreshLimiting_phase_keeps {α : Type} (g : PhaseSt → α) (h : ∀ x n, g { x with next := n } = g x) :
    g ((s.refreshLimiting r).phase p) = g (s.phase p) := by
  unfold State.refreshLimiting
  extract_lets l was u v
  have hu : u.phases = s.phases := rfl
  have hv : g (v.phase p) = g (s.phase p) := by
    unfold v
    split
    · rw [State.phase_congr (State.raise_phases ..), State.phase_congr (State.bump_phases ..), State.returnAll_phase_keeps g h,
        State.phase_congr hu]
    · rw [State.phase_congr hu]
  rw [State.phase_congr State.refreshCapped_within.phases, hv]

/-- A spare that is commanded joins, and nothing else changes. -/
theorem State.commandSpare_phase_keeps {α : Type} (g : PhaseSt → α) (h : ∀ x n, g { x with joining := n } = g x) :
    g ((s.commandSpare r).phase p) = g (s.phase p) := by
  unfold State.commandSpare
  split
  · exact State.modPhase_phase_keeps g fun _ => h ..
  · rfl

/-- A phase moves to its slot, and nothing else changes. -/
theorem State.setSlot_phase_keeps {α : Type} (g : PhaseSt → α) (h : ∀ x n, g { x with slot := n } = g x) :
    g ((s.setSlot q).phase p) = g (s.phase p) := by
  unfold State.setSlot
  split
  · exact State.modPhase_phase_keeps g fun _ => h ..
  · rfl

/-! ### An isolated phase stays so (R79, R82) -/

/-- What an isolation leaves with a phase: its reason, its time, the stored record and open switches. -/
def PhaseSt.isolation (x : PhaseSt) : IsoReason × Nat × Option (IsoReason × Nat) × Int := (x.isoReason, x.isoAt, x.stored, x.duty)

/-- Where phase `p` is ISOLATED in `s` it is so in `t`, with what its isolation left. -/
def IsoKept (p : Fin 56) (s t : State) : Prop :=
  (s.phase p).st = .isolated → (t.phase p).st = .isolated ∧ (t.phase p).isolation = (s.phase p).isolation

namespace IsoKept

theorem of_phase (h : t.phase p = s.phase p) : IsoKept p s t := fun hi => by rw [h]; exact ⟨hi, rfl⟩

theorem refl : IsoKept p s s := of_phase rfl

theorem trans (h : IsoKept p s t) (h' : IsoKept p t u) : IsoKept p s u := fun hi => by
  obtain ⟨st, iso⟩ := h hi
  obtain ⟨st', iso'⟩ := h' st
  exact ⟨st', iso'.trans iso⟩

/-- A function that changes no phase. -/
theorem next (h : IsoKept p s t) (h' : Within F t u) (hF : F.testBit Part.phases.ctorIdx = false := by rfl) : IsoKept p s u :=
  h.trans (of_phase (State.phase_congr (h'.phases hF)))

theorem ite {c : Prop} [Decidable c] (h : IsoKept p s t) (h' : IsoKept p s u) : IsoKept p s (if c then t else u) := by
  split
  · exact h
  · exact h'

theorem foldl {α : Type} {f : State → α → State} {l : List α} (h0 : IsoKept p s t) (h : ∀ u x, IsoKept p u (f u x)) :
    IsoKept p s (l.foldl f t) := foldl_keeps h0 fun u x hu => hu.trans (h u x)

/-- What leaves the state and the record of every phase. -/
theorem of_keeps (h : ∀ {α : Type} (g : PhaseSt → α), (∀ x n j, g { x with next := n, joining := j } = g x) →
    g (t.phase p) = g (s.phase p)) : IsoKept p s t := fun hi =>
  ⟨(h PhaseSt.st fun _ _ _ => rfl).trans hi, h PhaseSt.isolation fun _ _ _ => rfl⟩

theorem modPhase {f : PhaseSt → PhaseSt} (h : ∀ x, x.st = .isolated → (f x).st = .isolated ∧ (f x).isolation = x.isolation) :
    IsoKept p s (s.modPhase q f) := by
  by_cases hp : p = q
  · intro hi
    rw [hp] at hi
    rw [hp, State.phase_modPhase_self]
    exact h _ hi
  · exact of_phase (State.phase_modPhase_ne s hp f)

end IsoKept

theorem State.modPhase_rail_isoKept {x : Option (Fin 32)} {y : PhRole} :
    IsoKept p s (s.modPhase q fun z => { z with rail := x, role := y }) := IsoKept.modPhase fun _ h => ⟨h, rfl⟩

/-- Only a phase in use goes to OFF. -/
theorem State.phaseOff_isoKept : IsoKept p s (s.phaseOff q) := by
  unfold State.phaseOff
  extract_lets was
  split
  · rename_i hu
    refine IsoKept.next (fun hi => ?_) State.leftShed_within
    have hp : p ≠ q := by
      rintro rfl
      simp [was, hi, PhState.inUse] at hu
    rw [State.phase_modPhase_ne s hp]
    exact ⟨hi, rfl⟩
  · exact .refl

/-- Only an OFF phase enters PREBIAS. -/
theorem State.phasePrebias_isoKept {role : PhRole} : IsoKept p s (s.phasePrebias r role q) := by
  unfold State.phasePrebias
  split
  · rename_i ho
    intro hi
    have hp : p ≠ q := by
      rintro rfl
      rw [hi] at ho
      cases ho
    rw [State.phase_modPhase_ne s hp]
    exact ⟨hi, rfl⟩
  · exact .refl

theorem State.commandSpare_isoKept : IsoKept p s (s.commandSpare r) :=
  IsoKept.of_keeps fun g h => State.commandSpare_phase_keeps g fun x n => h x x.next n

theorem State.returnShed_isoKept {n : Nat} : IsoKept p s (s.returnShed r n) :=
  IsoKept.of_keeps fun g h => State.returnShed_phase_keeps g fun x n => h x n x.joining

theorem State.refreshLimiting_isoKept : IsoKept p s (s.refreshLimiting r) :=
  IsoKept.of_keeps fun g h => State.refreshLimiting_phase_keeps g fun x n => h x n x.joining

/-! ### A commit that lands leaves what is isolated (R81, R96) -/

theorem State.dropPhase_isoKept : IsoKept p s (s.dropPhase q) := State.phaseOff_isoKept.trans State.modPhase_rail_isoKept

theorem State.landMember_isoKept {wasSpare : Bool} : IsoKept p s (s.landMember r wasSpare q) := by
  unfold State.landMember
  refine .ite (IsoKept.modPhase fun _ h => ⟨h, rfl⟩) ?_
  extract_lets v
  have hv : IsoKept p s v := State.phaseOff_isoKept.trans State.modPhase_rail_isoKept
  exact .ite (hv.trans State.phasePrebias_isoKept) hv

theorem State.landSpare_isoKept : IsoKept p s (s.landSpare r q) := by
  unfold State.landSpare
  extract_lets v
  have hv : IsoKept p s v := State.phaseOff_isoKept.trans State.modPhase_rail_isoKept
  exact .ite (hv.trans State.phasePrebias_isoKept) hv

theorem State.landLive_isoKept {cm cs nm ns : List (Fin 56)} : IsoKept p s (s.landLive r cm cs nm ns) := by
  unfold State.landLive
  extract_lets om os newM newS gone ms ss u v
  have hu : IsoKept p s u := IsoKept.refl.next State.modRail_within
  have hv : IsoKept p s v := hu.foldl fun _ _ =>
    .ite State.landMember_isoKept (.ite State.landSpare_isoKept (.ite State.dropPhase_isoKept .refl))
  exact hv.foldl fun _ _ => State.commandSpare_isoKept

theorem State.listsAtRest_isoKept {ms ss : List (Fin 56)} : IsoKept p s (s.listsAtRest r ms ss) := by
  unfold State.listsAtRest
  extract_lets set left u v st w
  have hu : IsoKept p s u := IsoKept.refl.foldl fun _ _ => State.modPhase_rail_isoKept
  have hv : IsoKept p s v := (hu.foldl fun _ _ => State.modPhase_rail_isoKept).foldl fun _ _ => State.modPhase_rail_isoKept
  have hw : IsoKept p s w := hv.next State.modRail_within
  exact .ite (hw.next State.put_any) (.ite (hw.next State.put_any) hw)

theorem State.landLists_isoKept {cm cs : List (Fin 56)} : IsoKept p s (State.landLists cm cs s r) := by
  unfold State.landLists
  extract_lets lead v
  have hv : IsoKept p s v := .ite (State.landLive_isoKept.next State.leadPasses_within) State.listsAtRest_isoKept
  exact (hv.next State.refreshDegraded_within).trans State.refreshLimiting_isoKept

theorem State.applyStaged_isoKept {kvs : List (Nat × Int)} : IsoKept p s (s.applyStaged kvs) := by
  unfold State.applyStaged
  extract_lets waits v
  have hv : IsoKept p s v := (IsoKept.refl.next State.puts_any).next State.modCfg_within
  exact (hv.foldl fun _ _ => State.landLists_isoKept).next State.refreshCoop_within

theorem State.quenchCommit_isoKept : IsoKept p s s.quenchCommit := by
  unfold State.quenchCommit
  extract_lets v
  have hv : IsoKept p s v := by
    have lands {n st} : IsoKept p s ((s.applyStaged s.cfg.staged).landFsw.endCommit n st) :=
      (State.applyStaged_isoKept.next State.landFsw_within).next State.endCommit_within
    unfold v
    split
    · exact .refl
    · exact IsoKept.refl.next State.abandonCommit_within
    · exact IsoKept.refl.next State.abandonCommit_within
    · exact lands
    · exact lands
  split
  · exact (hv.next State.modCfg_within).next State.eraseMram_within
  · exact hv

/-! ### A rail fault leaves what is isolated (R84, R180) -/

theorem State.everythingOff_isoKept {own : Option (Fin 16)} {code : GrpResult} : IsoKept p s (s.everythingOff own code) := by
  unfold State.everythingOff
  extract_lets running v w x
  have hv : IsoKept p s v := (((IsoKept.refl.foldl fun _ _ => State.phaseOff_isoKept).next State.quenchGroups_within).next
    State.quenchRails_within).next State.quenchAux_within
  have hw : IsoKept p s w := ((((hv.next State.chargerStop_within).next State.closeWindow_within).trans State.quenchCommit_isoKept).next
    State.quenchDma_within).next State.quenchLedger_within
  have hx : IsoKept p s x := (hw.foldl fun _ _ => IsoKept.refl.next State.freeTag_within).next State.failAllOps_within
  exact (hx.next State.driveFog_within).next State.driveBell_within

theorem State.beginSeal_isoKept {tr : Trigger} {at_ : Nat} {estimated awaiting : Bool} {own : Option (Fin 16)} {code : GrpResult} :
    IsoKept p s (s.beginSeal tr at_ estimated awaiting own code) := by
  unfold State.beginSeal
  split
  rename_i c v core
  have hv : IsoKept p s v := IsoKept.refl.next (State.snapCore_within.of_snd core)
  exact (((((((((((hv.next State.modSup_within).trans State.everythingOff_isoKept).next State.refsDue_within).next
    State.canReset_within).next State.modModes_within).next State.noteCause_within).next State.settleTriggers_within).next
    State.mirOff_within).next Within.set_met).next State.puts_any).next State.habCheck_within).next State.raise_within (by rfl)

theorem State.railFault_isoKept {tr : Trigger} {stamp : Option Nat} {own : Option (Fin 16)} {code : GrpResult} :
    IsoKept p s (s.railFault tr stamp own code) := by
  unfold State.railFault
  exact .ite State.beginSeal_isoKept (.ite ((IsoKept.refl.next State.laterTrigger_within).next State.put_any) .refl)

theorem State.memberLost_isoKept {wasActive wasHealthy : Bool} {clamp : Int} :
    IsoKept p s (s.memberLost r wasActive wasHealthy clamp) := by
  unfold State.memberLost
  extract_lets v w last
  have hv : IsoKept p s v := .ite (IsoKept.refl.next State.modRail_within) .refl
  have hw : IsoKept p s w := (hv.next State.refreshDegraded_within).trans State.refreshLimiting_isoKept
  exact .ite (hw.trans State.railFault_isoKept) (.ite (hw.trans State.returnShed_isoKept) (hw.trans State.commandSpare_isoKept))

theorem State.spareLost_isoKept {wasJoining : Bool} : IsoKept p s (s.spareLost r q wasJoining) := by
  unfold State.spareLost
  extract_lets v w
  have hw : IsoKept p s w := (IsoKept.refl.next State.modRail_within).next State.noteSpares_within
  exact .ite (hw.trans State.commandSpare_isoKept) hw

end Sys2Proof.Machine
end

section
/-! Findings, isolations and joining phases. -/

set_option Elab.async false

namespace Sys2Proof.Machine

variable {s t u : State} {F : Parts} {p q : Fin 56} {r : Fin 32}

/-! ### What the moves leave of the other phases and rails -/

namespace OtherPhasesKept

theorem modPhase {f : PhaseSt → PhaseSt} : OtherPhasesKept p s (s.modPhase p f) := fun _ hq => State.phase_modPhase_ne s hq f

/-- A function that changes no phase. -/
theorem next (h : OtherPhasesKept p s t) (h' : Within F t u) (hF : F.testBit Part.phases.ctorIdx = false := by rfl) :
    OtherPhasesKept p s u := fun q hq => (State.phase_congr (h'.phases hF)).trans (h q hq)

end OtherPhasesKept

namespace OtherRailsKept

theorem refl : OtherRailsKept r s s := fun _ _ => rfl

theorem trans (h : OtherRailsKept r s t) (h' : OtherRailsKept r t u) : OtherRailsKept r s u := fun q hq => (h' q hq).trans (h q hq)

theorem modRail {f : RailSt → RailSt} : OtherRailsKept r s (s.modRail r f) := fun _ hq => State.rail_modRail_ne s hq f

/-- A function that changes no rail. -/
theorem next (h : OtherRailsKept r s t) (h' : Within F t u) (hF : F.testBit Part.rails.ctorIdx = false := by rfl) :
    OtherRailsKept r s u := fun q hq => (State.rail_congr (h'.rails hF)).trans (h q hq)

theorem ite {c : Prop} [Decidable c] (h : OtherRailsKept r s t) (h' : OtherRailsKept r s u) : OtherRailsKept r s (if c then t else u) := by
  split
  · exact h
  · exact h'

end OtherRailsKept

theorem State.refreshDegraded_otherRails : OtherRailsKept r s (s.refreshDegraded r) := by
  unfold State.refreshDegraded
  extract_lets d was u
  have hu : OtherRailsKept r s u := .modRail
  exact .ite (hu.next (State.raise_plain (by simp))) hu

theorem State.refreshLimiting_otherRails : OtherRailsKept r s (s.refreshLimiting r) := by
  unfold State.refreshLimiting State.refreshCapped
  extract_lets l was u v c was' w
  have hu : OtherRailsKept r s u := .modRail
  have hv : OtherRailsKept r s v :=
    .ite (((hu.next State.returnAll_within).next (State.bump_plain (by simp))).next (State.raise_plain (by simp))) hu
  have hw : OtherRailsKept r s w := hv.trans .modRail
  exact .ite (hw.next (State.raise_plain (by simp))) hw

/-- The lists in use of a rail. -/
def RailSt.lists (x : RailSt) : List (Fin 56) × List (Fin 56) := (x.members, x.spares)

theorem State.refreshDegraded_lists : ((s.refreshDegraded r).rail r).lists = (s.rail r).lists := by
  unfold State.refreshDegraded
  extract_lets d was u
  have hu : (u.rail r).lists = (s.rail r).lists := by rw [State.rail_modRail_self]; rfl
  split
  · rw [State.rail_congr (State.raise_rails ..), hu]
  · exact hu

theorem State.refreshLimiting_lists : ((s.refreshLimiting r).rail r).lists = (s.rail r).lists := by
  unfold State.refreshLimiting State.refreshCapped
  extract_lets l was u v c was' w
  have hu : (u.rail r).lists = (s.rail r).lists := by rw [State.rail_modRail_self]; rfl
  have hv : (v.rail r).lists = (s.rail r).lists := by
    unfold v
    split
    · rw [State.rail_congr (State.raise_rails ..), State.rail_congr (State.bump_rails ..), State.rail_congr State.returnAll_within.rails, hu]
    · exact hu
  have hw : (w.rail r).lists = (s.rail r).lists := by rw [State.rail_modRail_self]; exact hv
  split
  · rw [State.rail_congr (State.raise_rails ..), hw]
  · exact hw

/-! ### An isolation (R79, R82) -/

/-- From `s` to `t` phase `p` is isolated for `why`: its switches are open, the reason and the time are recorded, and the record is stored
unless the phase was fenced or non-legal writes are blocked. -/
structure Isolates (p : Fin 56) (why : IsoReason) (s t : State) : Prop where
  st : (t.phase p).st = .isolated
  reason : (t.phase p).isoReason = why
  since : (t.phase p).isoAt = s.now
  stored : s.modes.holdup = false → why ≠ .fenced → (t.phase p).stored = some (why, s.now)
  blocked : s.modes.holdup = true → (t.phase p).stored = (s.phase p).stored
  opened : (t.phase p).duty = 0

/-- An isolation that is done, as long as it is kept. -/
theorem Isolates.kept {why : IsoReason} (h : Isolates p why s t) (h' : IsoKept p t u) : Isolates p why s u := by
  obtain ⟨st, iso⟩ := h' h.st
  simp only [PhaseSt.isolation, Prod.mk.injEq] at iso
  obtain ⟨reason, since, stored, duty⟩ := iso
  exact ⟨st, reason.trans h.reason, since.trans h.since, fun hh hw => stored.trans (h.stored hh hw), fun hh => stored.trans (h.blocked hh),
    duty.trans h.opened⟩

theorem State.isolate_holds {why : IsoReason} (h : (s.phase p).st ≠ .isolated) : Isolates p why s (s.isolate p why) := by
  unfold State.isolate
  rw [if_neg h]
  extract_lets lead clamp keep u v w y
  have hu : Isolates p why s u := by
    have hx : u.phase p = { (s.phase p).opened .isolated with
        isoReason := why, isoAt := s.now, stored := if keep then some (why, s.now) else (s.phase p).stored } :=
      State.phase_modPhase_self ..
    have keeps : (u.phase p).stored = if keep then some (why, s.now) else (s.phase p).stored := by rw [hx]
    refine ⟨?_, ?_, ?_, fun hh hw => ?_, fun hh => ?_, ?_⟩
    · rw [hx]; rfl
    · rw [hx]
    · rw [hx]
    · rw [keeps, if_pos (by simp [keep, hh, hw])]
    · rw [keeps, if_neg (by simp [keep, hh])]
    · rw [hx]; rfl
  have hv : Isolates p why s v := hu.kept ((IsoKept.refl.next State.leftShed_within).next (State.raise_plain (by simp)))
  have hw : Isolates p why s w := hv.kept <| by
    unfold w
    refine .ite .refl ?_
    split
    · exact IsoKept.refl.next (State.raise_plain (by simp))
    · exact .refl
  have hy : Isolates p why s y := hw.kept (IsoKept.refl.next State.mirEvent_within)
  split
  · exact hy
  · extract_lets z
    have hz : Isolates p why s z := hy.kept (IsoKept.refl.next State.leadPasses_within)
    exact hz.kept (.ite State.spareLost_isoKept (.ite State.memberLost_isoKept (IsoKept.refl.next State.refreshDegraded_within)))

/-- The notice that goes up leaves the phase as it is. -/
theorem State.tileIsolates_holds {why : IsoReason} (h : (s.phase p).st ≠ .isolated) : Isolates p why s (s.tileIsolates p why) :=
  (State.isolate_holds h).kept (IsoKept.refl.next State.ready_within)

/-! ### Phases join (R81, R84) -/

/-- What a member that completes its prebias is. -/
def PhaseSt.joined (x : PhaseSt) (offset duty : Int) : PhaseSt := { x with offset := offset, st := .active, trim := 0, duty := duty }

/-- What a spare that completes its prebias is. -/
def PhaseSt.standsBy (x : PhaseSt) (offset : Int) : PhaseSt := { x with offset := offset, st := .spare }

/-- A member that completes its prebias switches, whatever its slot and a decision for its next cycle edge. -/
theorem State.prebiasDone_member {α : Type} (g : PhaseSt → α) (hg : ∀ x n k, g { x with next := n, slot := k } = g x) {inp : PrebiasInput}
    (hs : (s.phase p).st = .prebias) (hd : (s.phase p).declared = .none) (hr : (s.phase p).rail = some r) (ho : (s.phase p).role ≠ .spare) :
    g ((s.prebiasDone p inp).phase p) = g ((s.phase p).joined inp.offset (s.firstDuty p inp)) := by
  simp only [State.prebiasDone, hs, hd, hr, if_neg ho]
  rw [State.refreshLimiting_phase_keeps g fun x n => hg x n x.slot, State.phase_congr State.refreshDegraded_within.phases,
    State.setSlot_phase_keeps g fun x k => hg x x.next k, State.phase_modPhase_self, State.phase_modPhase_self]
  rfl

/-- A spare that completes its prebias stands by, or joins at once. -/
theorem State.prebiasDone_spare {α : Type} (g : PhaseSt → α) (hg : ∀ x b, g { x with joining := b } = g x) {inp : PrebiasInput}
    (hs : (s.phase p).st = .prebias) (hd : (s.phase p).declared = .none) (hr : (s.phase p).rail = some r) (ho : (s.phase p).role = .spare) :
    g ((s.prebiasDone p inp).phase p) = g ((s.phase p).standsBy inp.offset) := by
  simp only [State.prebiasDone, hs, hd, hr, if_pos ho]
  split
  · rw [State.commandSpare_phase_keeps g hg, State.phase_modPhase_self, State.phase_modPhase_self]
    rfl
  · rw [State.phase_modPhase_self, State.phase_modPhase_self]
    rfl

/-- The first duty of a member under its tile's lockout is 0, and otherwise not below the on-time minimum (R84, R491). -/
theorem State.firstDuty_of_uvlo {inp : PrebiasInput} (h : (s.tile (tileOf p)).uvlo = true) : s.firstDuty p inp = 0 := if_pos h

theorem State.dutyLo_le_firstDuty {inp : PrebiasInput} (h : (s.tile (tileOf p)).uvlo = false) : s.dutyLo p ≤ s.firstDuty p inp := by
  unfold State.firstDuty
  rw [if_neg (by simp [h])]
  exact le_max_left _ _

/-- A spare whose check passes is an ACTIVE member, and of the rails its own alone changes. -/
theorem State.spareJoins_holds : ((s.spareJoins r p).phase p).st = .active ∧ ((s.spareJoins r p).phase p).role = .member ∧
    ((s.spareJoins r p).phase p).trim = 0 ∧ p ∈ ((s.spareJoins r p).rail r).members ∧ p ∉ ((s.spareJoins r p).rail r).spares ∧
    OtherRailsKept r s (s.spareJoins r p) := by
  unfold State.spareJoins
  extract_lets u v w
  have hw : Within (parts [.objs, .ints, .net, .phases]) v w :=
    (State.setSlot_within.sub.next (State.raise_plain (by simp))).next State.noteSpares_within
  have phase {α : Type} (g : PhaseSt → α) (hg : ∀ x n k, g { x with next := n, slot := k } = g x) :
      g (((w.refreshDegraded r).refreshLimiting r).phase p) = g (v.phase p) := by
    rw [State.refreshLimiting_phase_keeps g fun x n => hg x n x.slot, State.phase_congr State.refreshDegraded_within.phases]
    unfold w
    rw [State.phase_congr State.noteSpares_within.phases, State.phase_congr (State.raise_phases ..),
      State.setSlot_phase_keeps g fun x k => hg x x.next k]
  have hv : v.phase p = { s.phase p with st := .active, role := .member, joining := false, trim := 0, openCount := 0, avg := none } :=
    State.phase_modPhase_self ..
  have lists : (((w.refreshDegraded r).refreshLimiting r).rail r).lists = (u.rail r).lists := by
    rw [State.refreshLimiting_lists, State.refreshDegraded_lists, State.rail_congr hw.rails]
    rfl
  simp only [RailSt.lists, Prod.mk.injEq, u, State.rail_modRail_self] at lists
  obtain ⟨members, spares⟩ := lists
  refine ⟨?_, ?_, ?_, ?_, ?_, ?_⟩
  · rw [phase PhaseSt.st fun _ _ _ => rfl, hv]
  · rw [phase PhaseSt.role fun _ _ _ => rfl, hv]
  · rw [phase PhaseSt.trim fun _ _ _ => rfl, hv]
  · rw [members]
    split
    · exact List.contains_iff_mem.1 ‹_›
    · simp
  · rw [spares]
    simp
  · have hu : OtherRailsKept r s u := .modRail
    exact (((hu.next State.modPhase_within).next hw).trans State.refreshDegraded_otherRails).trans State.refreshLimiting_otherRails

theorem State.spareChecked_of_joining {why : IsoReason} (hr : (s.phase p).rail = some r) (hs : (s.phase p).st = .spare)
    (hj : (s.phase p).joining = true) : s.spareChecked p why = if why = .none then s.spareJoins r p else s.isolate p why := by
  simp only [State.spareChecked, hr, hs, hj, decide_true, Bool.and_self, if_true]

/-- Settles O20: each isolation is one of `State.isolate_holds`, which all that follows keeps; a phase that joins keeps what it joined
with through the rail's flags. -/
theorem isolationAndJoining : Obligations.IsolationAndJoining := by
  refine ⟨⟨fun p s hs => ?_, fun p s hs hd => ?_, fun p r why s hr hs hj hw => ?_⟩, fun p r inp s hs hd hr => ?_, fun p r s hr hs hj => ?_⟩
  · have hi {why} : Isolates p why s (s.tileIsolates p why) := State.tileIsolates_holds (by rw [hs]; decide)
    refine ⟨_, exec_eq (if_pos hs), hi.st, fun hd => ?_, fun hd => ?_, hi.since, hi.opened⟩
    · rw [hi.reason, if_pos hd]
      exact ⟨rfl, fun hh => hi.stored hh (by decide)⟩
    · rw [hi.reason, if_neg hd]
  · have hi : Isolates p (s.phase p).declared s (s.tileIsolates p (s.phase p).declared) := State.tileIsolates_holds hs
    exact ⟨_, exec_eq (if_neg hd), hi.st, hi.reason, hi.since, hi.stored, hi.blocked⟩
  · have hi : Isolates p why s (s.isolate p why) := State.isolate_holds (by rw [hs]; decide)
    exact ⟨_, exec_eq ((State.spareChecked_of_joining hr hs hj).trans (if_neg hw)), hi.st, hi.reason⟩
  · refine ⟨s.prebiasDone p inp, rfl, ?_, fun ho => ⟨?_, ?_, fun hv => ?_, fun hv => ?_⟩, fun ho => ?_⟩
    · by_cases ho : (s.phase p).role = .spare
      · rw [State.prebiasDone_spare PhaseSt.offset (fun _ _ => rfl) hs hd hr ho]
        rfl
      · rw [State.prebiasDone_member PhaseSt.offset (fun _ _ _ => rfl) hs hd hr ho]
        rfl
    · rw [State.prebiasDone_member PhaseSt.st (fun _ _ _ => rfl) hs hd hr ho]
      rfl
    · rw [State.prebiasDone_member PhaseSt.trim (fun _ _ _ => rfl) hs hd hr ho]
      rfl
    · rw [State.prebiasDone_member PhaseSt.duty (fun _ _ _ => rfl) hs hd hr ho]
      exact State.firstDuty_of_uvlo hv
    · rw [State.prebiasDone_member PhaseSt.duty (fun _ _ _ => rfl) hs hd hr ho]
      exact State.dutyLo_le_firstDuty hv
    · rw [State.prebiasDone_spare PhaseSt.st (fun _ _ => rfl) hs hd hr ho]
      rfl
  · exact ⟨_, exec_eq ((State.spareChecked_of_joining hr hs hj).trans (if_pos rfl)), State.spareJoins_holds⟩

end Sys2Proof.Machine
end

section
/-! The findings of a phase (R73, R75–R79). -/

set_option Elab.async false

namespace Sys2Proof.Machine

variable {s t u : State} {p q : Fin 56} {r : Fin 32}

/-! ### What changes but a few parts is the state with those parts -/

/-- A state is its parts and its queue. -/
theorem State.eq_of_same (hq : t.pending = s.pending) (h : ∀ x : Part, x.same s t) : t = s := by
  cases s
  cases t
  rw [State.mk.injEq]
  exact ⟨hq, h .objs, h .published, h .mram, h .now, h .freeIdx, h .answer, h .deferred, h .afterBoot, h .caps, h .modes, h .history, h .ops,
    h .ints, h .phases, h .tiles, h .frame, h .rails, h .auxs, h .seq, h .bus, h .sup, h .path, h .chg, h .est, h .met, h .therm, h .nvm,
    h .dma, h .mir, h .net, h .cfg, h .ports, h .links, h .hab, h .oasis, h .ledger, h .sec, h .otp⟩

/-- The parts that a finding or a flit may change; what single objects hold is no part of a state besides its objects. -/
def phaseParts : Parts := parts [.objs, .ints, .net, .deferred, .phases, .links, .cfg] ||| parts Part.named

/-- `s` with these parts of `t`. -/
def State.withPhaseParts (s t : State) : State :=
  { s with objs := t.objs, ints := t.ints, net := t.net, deferred := t.deferred, phases := t.phases, links := t.links, cfg := t.cfg }

theorem Within.eq_withPhaseParts (h : Within phaseParts s t) : t = s.withPhaseParts t := by
  have keep (x : Part) (hx : phaseParts.testBit x.ctorIdx = false) (k : x.same s t → x.same (s.withPhaseParts t) t) :
      x.same (s.withPhaseParts t) t := k (h.same x hx)
  refine State.eq_of_same h.queue fun x => ?_
  cases x
  case objs | ints | net | deferred | phases | links | cfg => rfl
  case events => exact fun _ _ _ hj => hj
  case wakeSource | wakeEnable | fsRetryCount | fsRetryAt | fsCause | resetCause | tbSource | bootResult | sealStage | faultShown | seqFault
      | habState => exact fun _ _ => rfl
  all_goals exact keep _ rfl id

/-- A finding changes no link and no commit. -/
theorem Within.eq_ofFinding (h : Within (parts [.objs, .ints, .net, .deferred, .phases]) s t) :
    t = { s with phases := t.phases, objs := t.objs, ints := t.ints, net := t.net, deferred := t.deferred } := by
  have e := (h.sub (F := phaseParts)).eq_withPhaseParts
  rw [State.withPhaseParts, h.links, h.cfg] at e
  exact e

/-- A part that stays after all. -/
theorem Within.afterBoot_kept {F : Parts} (h : Within (F ||| parts [.afterBoot]) s t) (hb : t.afterBoot = s.afterBoot) : Within F s t := by
  refine ⟨h.queue, h.bound, h.canonical, fun x hx => ?_⟩
  cases x
  case afterBoot => exact hb
  all_goals exact h.same _ (by rw [Nat.testBit_or, hx]; rfl)

/-! ### An event of a present phase, and the count of its polarity tests -/

/-- The objects of a present phase are present (R3). -/
theorem State.absent_PH_EVENT (h : s.phasePresent p = true) : s.absent (Ev.phase p).key = false := by
  have hi : K.PH_EVENT p / 256 = 0x3811 + 0x20 * p := by simp only [K.PH_EVENT]; omega
  have hu : (0x3811 + 0x20 * p.val - 0x3800) / 0x20 = p := by omega
  unfold State.absent
  rw [show (Ev.phase p).key = K.PH_EVENT p from rfl]
  simp only [hi, hu, h]
  rw [if_pos (by simp; omega)]
  rfl

theorem State.raise_phase_shows {k : Nat} (h : s.phasePresent p = true) : (s.raise (Ev.phase p) k).Shows (Ev.phase p) k :=
  State.raise_bit _ _ _ (State.absent_PH_EVENT h) (by simp only [Ev.phase, K.PH_EVENT, K.NET_EVENTS_DROPPED]; omega)

/-- An event that waits, but for one of `PP_EVENT`, leaves what waits for the next BOOT. -/
theorem State.raiseLater_afterBoot {e : EventObj} {k : Nat} (h : e.key ≠ K.PP_EVENT) : (s.raiseLater e k).afterBoot = s.afterBoot := by
  unfold State.raiseLater
  split
  · exact State.raise_afterBoot ..
  · unfold State.defer
    rw [if_neg (by simp [h])]
    split <;> rfl

/-- So does a count whose saturation is no event of `PP_EVENT`. -/
theorem State.bump_afterBoot {key : Nat} (h : ∀ b ∈ satBit key, b.1.key ≠ K.PP_EVENT) : (s.bump key).afterBoot = s.afterBoot := by
  have ha : (s.addSat key 1).1.afterBoot = s.afterBoot := State.addSat_fst_afterBoot ..
  unfold State.bump
  split
  · rename_i v hv
    rw [hv] at ha
    exact ha
  · rename_i v hv
    rw [hv] at ha
    split
    · rename_i e k hb
      exact (State.raiseLater_afterBoot (h (e, k) hb)).trans ha
    · exact ha

theorem State.satBit_PH_SENSE_TESTS : ∀ p : Fin 56, ∀ b ∈ State.satBit (K.PH_SENSE_TESTS p), b.1.key ≠ K.PP_EVENT := by decide +kernel

/-! ### A sense-open code starts a polarity test (R73) -/

/-- A phase whose bias is reversed for a polarity test. -/
def PhaseSt.tested (x : PhaseSt) : PhaseSt := { x with testing := true, frozen := true, testDone := false }

theorem State.senseOpen_of_code {left : Bool} (hu : (s.phase p).st.inUse = true) (ht : (s.phase p).testing = false)
    (hl : (s.phase p).testDone = false ∨ left = true) (hd : (s.phase p).declared = .none) :
    s.senseOpen p left = (s.modPhase p PhaseSt.tested).bump (K.PH_SENSE_TESTS p) := by
  unfold State.senseOpen
  exact if_pos (by simpa [hu, ht, hd] using hl)

theorem State.senseTest_within :
    Within (parts [.objs, .ints, .net, .deferred, .phases]) s ((s.modPhase p PhaseSt.tested).bump (K.PH_SENSE_TESTS p)) :=
  State.modPhase_within.sub.next <|
    ((State.bump_plain (by simp)).sub (by decide)).afterBoot_kept (F := parts [.objs, .ints, .net, .deferred, .phases])
      (State.bump_afterBoot (State.satBit_PH_SENSE_TESTS p))

/-! ### A finding is declared (R73, R76–R79) -/

/-- A phase with a declared finding. -/
def PhaseSt.found (x : PhaseSt) (why : IsoReason) : PhaseSt := { x with declared := why, testing := false }

/-- The members that a rail can use depend on its list and on the states of the phases alone. -/
theorem State.usableMembers_congr (hr : t.rails = s.rails) (hp : ∀ q, (t.phase q).st = (s.phase q).st) :
    t.usableMembers r = s.usableMembers r := by
  simp only [State.usableMembers, State.rail_congr hr, hp]

/-- Where the finding is a sense loss, the rail of the phase goes on with another member (R76). -/
def State.railOutlives (s : State) (p : Fin 56) (why : IsoReason) : Prop :=
  why = .senseLoss → ∀ r, (s.phase p).rail = some r → s.usableMembers r ≠ [p]

theorem State.declare_of_event {why : IsoReason} {k : Nat} (hu : (s.phase p).st.inUse = true) (hd : (s.phase p).declared = .none)
    (hk : isoEventBit why = some k) (hl : s.railOutlives p why) :
    s.declare p why = (s.modPhase p (·.found why)).raise (Ev.phase p) k := by
  unfold State.declare
  rw [if_pos (by simp [hu, hd])]
  simp only [hk]
  split
  · rename_i r hr
    refine if_neg fun h => ?_
    obtain ⟨hw, h⟩ : why = .senseLoss ∧ _ = [p] := by simpa using h
    refine hl hw r hr (Eq.trans (State.usableMembers_congr ?_ fun q => ?_).symm h)
    · rw [State.raise_rails]
      rfl
    · rw [State.phase_congr (State.raise_phases ..)]
      exact State.modPhase_phase_keeps PhaseSt.st fun _ => rfl
  · rfl

/-- A finding without an event of its own: a write of `PH_ISOLATE`. -/
theorem State.declare_host (hu : (s.phase p).st.inUse = true) (hd : (s.phase p).declared = .none) :
    s.declare p .host = s.modPhase p (·.found .host) := by
  unfold State.declare
  rw [if_pos (by simp [hu, hd])]
  simp only [isoEventBit]
  split <;> rfl

/-- A finding with an event is declared, the event shows, and neither another phase nor another object changes. -/
structure Declares (p : Fin 56) (why : IsoReason) (k : Nat) (s t : State) : Prop where
  declared : (t.phase p).declared = why
  testing : (t.phase p).testing = false
  shows : t.Shows (Ev.phase p) k
  phases : OtherPhasesKept p s t
  objects : ObjectsKept s t (eventObjects (Ev.phase p))

theorem State.declare_holds {why : IsoReason} {k : Nat} (hu : (s.phase p).st.inUse = true) (hd : (s.phase p).declared = .none)
    (hp : s.phasePresent p = true) (hk : isoEventBit why = some k) (hl : s.railOutlives p why) : Declares p why k s (s.declare p why) := by
  rw [State.declare_of_event hu hd hk hl]
  have here : ((s.modPhase p (·.found why)).raise (Ev.phase p) k).phase p = (s.phase p).found why := by
    rw [State.phase_congr (State.raise_phases ..), State.phase_modPhase_self]
  refine ⟨?_, ?_, State.raise_phase_shows hp, OtherPhasesKept.modPhase.next (State.raise_plain (by simp)), State.raise_objectsKept⟩
  · rw [here]
    rfl
  · rw [here]
    rfl

/-- Settles O19: a finding is declared by `State.declare_holds`; a phase that is off is isolated by `State.isolate_holds`. -/
theorem phaseFindings : Obligations.PhaseFindings := by
  refine ⟨⟨fun p left s hu ht hl hd => ?_, fun p reading stamp s ht hlo hhi => ?_, fun p reading stamp s ht hr hu hd hp hl => ?_⟩,
    fun p s ha hd hp => ?_, fun p atEnd s hb hu he hd hp => ?_, fun acc p s hadm hi hm hd => ?_⟩
  · have here : ((s.modPhase p PhaseSt.tested).bump (K.PH_SENSE_TESTS p)).phase p = (s.phase p).tested := by
      rw [State.phase_congr (State.bump_phases ..), State.phase_modPhase_self]
    refine ⟨_, exec_eq (State.senseOpen_of_code hu ht hl hd), ?_, ?_, ?_,
      OtherPhasesKept.modPhase.next (State.bump_plain (by simp)), State.senseTest_within.eq_ofFinding⟩ <;> rw [here] <;> rfl
  · have e : s.senseOutcome p reading stamp = s.modPhase p fun x => { x with testing := false } := by
      unfold State.senseOutcome
      rw [if_pos ht, if_neg (by omega)]
      exact if_neg (by omega)
    refine ⟨_, exec_eq e, ?_, .modPhase, rfl⟩
    rw [State.phase_modPhase_self]
  · have e : s.senseOutcome p reading stamp = s.declare p .senseLoss := by
      unfold State.senseOutcome
      rw [if_pos ht, if_pos hr]
    have h := State.declare_holds (why := .senseLoss) hu hd hp rfl fun _ => hl
    exact ⟨_, exec_eq e, h.declared, h.testing, h.shows, h.phases⟩
  · have h := State.declare_holds (why := .openPhase) (by rw [ha]; rfl) hd hp rfl nofun
    exact ⟨_, exec_eq (if_pos ha), h.declared, h.shows, h.phases, h.objects⟩
  · have h := State.declare_holds (why := .cfFault) hu hd hp rfl nofun
    have e : (if !isBus p && (decide ((s.phase p).st = .prebias) == atEnd) then s.declare p .cfFault else s) = s.declare p .cfFault :=
      if_pos (by simp [hb, he])
    exact ⟨_, exec_eq e, h.declared, h.shows, h.phases, h.objects⟩
  · obtain ⟨hopen, d, hreach, hrole⟩ := hadm
    have hf : s.writePhIsolate acc p 0xA5 = .ok (if (s.phase p).st.inUse then s.declare p .host else s.isolate p .host, .done) := by
      unfold State.writePhIsolate
      rw [State.writeVia_ok _ hreach hrole]
      simp [hi, hm]
    refine ⟨_, exec_eq (State.access_ok _ hopen hf), rfl, fun hu => ?_, fun hoff => ?_⟩
    · rw [if_pos hu, State.declare_host hu hd]
      have here : (s.modPhase p (·.found .host)).phase p = (s.phase p).found .host := State.phase_modPhase_self ..
      refine ⟨?_, ?_, fun q hq => ?_⟩
      · exact congrArg PhaseSt.declared here
      · exact (congrArg PhaseSt.st here).trans rfl
      · exact (State.phase_congr rfl).trans (State.phase_modPhase_ne s hq (·.found .host))
    · have h : Isolates p .host s (s.isolate p .host) := State.isolate_holds (by rw [hoff]; decide)
      rw [if_neg (by rw [hoff]; decide)]
      exact ⟨h.st, h.reason⟩

end Sys2Proof.Machine
end

section
/-! Flits in sequence (R79, R300, R303, R310). -/

set_option Elab.async false

namespace Sys2Proof.Machine

variable {s t u : State} {p : Fin 56} {n m : Fin 8} {f : Flit}

/-! ### What changes links and little else is the state with those -/

theorem Within.eq_links_objs (h : Within (parts [.objs, .links] ||| parts Part.named) s t) :
    t = { s with links := t.links, objs := t.objs } := by
  have e := (h.sub (F := phaseParts)).eq_withPhaseParts
  rw [State.withPhaseParts, h.same .ints rfl, h.same .net rfl, h.same .deferred rfl, h.same .phases rfl, h.same .cfg rfl] at e
  exact e

theorem Within.eq_links (h : Within (parts [.links]) s t) : t = { s with links := t.links } := by
  have e := (h.sub (F := parts [.objs, .links] ||| parts Part.named)).eq_links_objs
  rw [h.same .objs rfl] at e
  exact e

theorem Within.eq_links_cfg (h : Within (parts [.links, .cfg]) s t) : t = { s with links := t.links, cfg := t.cfg } := by
  have e := (h.sub (F := phaseParts)).eq_withPhaseParts
  rw [State.withPhaseParts, h.same .objs rfl, h.same .ints rfl, h.same .net rfl, h.same .deferred rfl, h.same .phases rfl] at e
  exact e

/-! ### A flit in sequence is accepted (R303) -/

/-- What a direction of a link is once the expected SEQ has arrived, but for its transmitters and what waits for an acknowledgement. -/
def LinkSt.accepted (l : LinkSt) (up : Bool) : LinkSt :=
  if up then { l with rxUp := (l.rxUp + 1) % 32, failsUp := 0, waitUp := false }
  else { l with rxDown := (l.rxDown + 1) % 32, failsDown := 0, waitDown := false }

/-- A fact of a link that its transmitters and its unacknowledged flits do not bear on. -/
def LinkSt.Unsent {α : Type} (g : LinkSt → α) : Prop := ∀ l a b x y, g { l with unacked := a, unackedDown := b, txUp := x, txDown := y } = g l

theorem State.modLink_link_keeps {α : Type} (g : LinkSt → α) {f : LinkSt → LinkSt} (h : ∀ l, g (f l) = g l) :
    g ((s.modLink n f).link m) = g (s.link m) := by
  by_cases hm : m = n
  · rw [hm, State.link_modLink_self, h]
  · rw [State.link_modLink_ne _ hm]

theorem State.flitSent_link_keeps {α : Type} (g : LinkSt → α) (h : LinkSt.Unsent g) : g ((s.flitSent n f).link m) = g (s.link m) := by
  unfold State.flitSent
  split
  · rfl
  · refine State.modLink_link_keeps g fun l => ?_
    split
    · exact h l l.unacked l.unackedDown _ l.txDown
    · exact h l l.unacked l.unackedDown l.txUp _

theorem State.acknowledge_link_keeps {α : Type} (g : LinkSt → α) (h : LinkSt.Unsent g) {up nak : Bool} :
    g ((s.acknowledge n up nak).link m) = g (s.link m) := by
  unfold State.acknowledge
  split
  · rfl
  · refine State.modLink_link_keeps g fun l => ?_
    split
    · exact h l _ l.unackedDown l.txUp _
    · exact h l l.unacked _ _ l.txDown

/-- What a link does with a flit of the expected SEQ before it is delivered. -/
def State.accepts (s : State) (n : Fin 8) (f : Flit) : State := (s.flitSent n f).linkAccept n f.up

theorem State.accepts_within : Within (parts [.links]) s (s.accepts n f) := State.flitSent_within.trans State.linkAccept_within

theorem LinkSt.Unsent.accepted {α : Type} {g : LinkSt → α} (h : LinkSt.Unsent g) (up : Bool) : LinkSt.Unsent fun l => g (l.accepted up) := by
  intro l a b x y
  cases up
  · exact h (l.accepted false) a b x y
  · exact h (l.accepted true) a b x y

theorem State.accepts_link_keeps {α : Type} (g : LinkSt → α) (h : LinkSt.Unsent g) :
    g ((s.accepts n f).link n) = g ((s.link n).accepted f.up) := by
  unfold State.accepts State.linkAccept
  extract_lets due u
  have hu : g (u.link n) = g ((s.link n).accepted f.up) := by
    refine Eq.trans ?_ (State.flitSent_link_keeps (n := n) (f := f) (fun l => g (l.accepted f.up)) (h.accepted f.up))
    unfold u
    rw [State.link_modLink_self]
    unfold LinkSt.accepted
    split
    · exact h { (s.flitSent n f).link n with rxUp := _, failsUp := 0, waitUp := false } _ _ _ _
    · exact h { (s.flitSent n f).link n with rxDown := _, failsDown := 0, waitDown := false } _ _ _ _
  split
  · exact (State.acknowledge_link_keeps g h).trans hu
  · exact hu

/-- The other links stay. -/
theorem State.accepts_link_ne (hm : m ≠ n) : (s.accepts n f).link m = s.link m := by
  have hs : (s.flitSent n f).link m = s.link m := by
    unfold State.flitSent
    split
    · rfl
    · exact State.link_modLink_ne _ hm _
  unfold State.accepts State.linkAccept
  extract_lets due u
  have hu : u.link m = s.link m := (State.link_modLink_ne _ hm _).trans hs
  split
  · unfold State.acknowledge
    split
    · exact hu
    · exact (State.link_modLink_ne _ hm _).trans hu
  · exact hu

/-- A sequenced flit of the expected SEQ on a link that is up, with no Haboob run, is accepted and delivered. -/
theorem State.flit_of_expected (ha : s.habArmed = false) (hh : s.hab.held = none) (hl : (s.link n).st = .up) (ht : f.body.type ≠ 3)
    (hq : f.seq = if f.up then (s.link n).rxUp else (s.link n).rxDown) : s.flit n f = (s.accepts n f).deliver n f.up f.body := by
  have hst : ((s.flitSent n f).link n).st = .up := (State.flitSent_link_keeps LinkSt.st fun _ _ _ _ _ => rfl).trans hl
  have hx : f.seq = ((s.flitSent n f).linkExpects n f.up).1 := by
    unfold State.linkExpects
    rw [hq]
    split
    · exact (State.flitSent_link_keeps LinkSt.rxUp fun _ _ _ _ _ => rfl).symm
    · exact (State.flitSent_link_keeps LinkSt.rxDown fun _ _ _ _ _ => rfl).symm
  have idle {target size : Nat} : (s.flitSent n f).habItem target size = (false, s.flitSent n f) := by
    unfold State.habItem
    rw [State.flitSent_within.habArmed, ha]
    rfl
  have held : (s.flitSent n f).hab.held = none := by rw [State.flitSent_within.same .hab rfl, hh]
  unfold State.flit
  rw [if_neg (by simp [hl])]
  simp only [idle, ite_self, held, Bool.false_eq_true, if_false]
  unfold State.arrive
  rw [if_neg (by simp [hst])]
  simp only [if_neg ht, if_pos hx]
  rfl

/-- The SEQ of the flit that the Keeper takes is counted, and no failure stands. -/
theorem State.accepts_up (hf : f.up = true) : ((s.accepts n f).link n).rxUp = ((s.link n).rxUp + 1) % 32 ∧
    ((s.accepts n f).link n).failsUp = 0 := by
  rw [State.accepts_link_keeps LinkSt.rxUp fun _ _ _ _ _ => rfl, State.accepts_link_keeps LinkSt.failsUp fun _ _ _ _ _ => rfl, hf]
  exact ⟨rfl, rfl⟩

theorem State.accepts_down (hf : f.up = false) : ((s.accepts n f).link n).rxDown = ((s.link n).rxDown + 1) % 32 := by
  rw [State.accepts_link_keeps LinkSt.rxDown fun _ _ _ _ _ => rfl, hf]
  rfl

theorem State.accepts_get {key : Nat} : (s.accepts n f).get key = s.get key := by
  unfold State.get
  rw [State.accepts_within.same .objs rfl]

/-! ### A measured value is stored (R313) -/

theorem State.takeSamples_one {x : Sample} (h : s.takes x.key = true) : s.takeSamples [x] = s.put x.key x.value := if_pos h

theorem State.takes_congr {key : Nat} (h : t.tiles = s.tiles) : t.takes key = s.takes key := by
  simp only [State.takes, State.tile_congr h]

/-! ### The follower takes a TIME flit (R310) -/

/-- The link of a tile that takes a TIME flit, with the calibrated delay of the link. -/
def LinkSt.followed (l : LinkSt) (delay : Int) (b clocks : Nat) : LinkSt :=
  let l := l.advance clocks
  let err := b * tickParts + delay - l.follower
  let mag : Int := err.natAbs
  let far := !l.locked && decide (100 * tickParts < mag)
  let by_ := if far then err else quot err 4
  let l := { l with follower := l.follower + max 0 by_, owed := l.owed + min 0 by_, rate := if far then l.rate else l.rate + quot err 64 }
  let good := if mag ≤ tickParts then l.goodRun + 1 else 0
  let off := if 2 * tickParts < mag then l.offRun + 1 else 0
  let locked := if 8 ≤ good then true else if 2 ≤ off then false else l.locked
  { l with err := err, exchanged := true, goodRun := good, offRun := off, locked := locked }

theorem State.followTime_link {b clocks : Nat} :
    (s.followTime n b clocks).link n = (s.link n).followed (quot (s.get (K.BEAM_DELAY_DOWN n) * tickParts) 100) b clocks :=
  State.link_modLink_self ..

theorem LinkSt.followed_rxDown {l : LinkSt} {d : Int} {b c : Nat} : (l.followed d b c).rxDown = l.rxDown := rfl

theorem LinkSt.followed_exchanged {l : LinkSt} {d : Int} {b c : Nat} : (l.followed d b c).exchanged = true := rfl

theorem LinkSt.followed_err {l : LinkSt} {d : Int} {b c : Nat} : (l.followed d b c).err = b * tickParts + d - (l.advance c).follower := rfl

/-- The follower never runs backwards. -/
theorem LinkSt.follower_le_advance {l : LinkSt} {c : Nat} : l.follower ≤ (l.advance c).follower := by
  unfold LinkSt.advance
  extract_lets fwd paid
  have : -fwd ≤ paid := le_max_left ..
  change l.follower ≤ l.follower + fwd + paid
  omega

theorem LinkSt.follower_le_followed {l : LinkSt} {d : Int} {b c : Nat} : l.follower ≤ (l.followed d b c).follower := by
  unfold LinkSt.followed
  extract_lets l' err mag far by_ l''
  have h : l.follower ≤ l'.follower := LinkSt.follower_le_advance
  have h' : (0 : Int) ≤ max 0 by_ := le_max_left ..
  change l.follower ≤ l'.follower + max 0 by_
  omega

/-! ### The Keeper reads a STATUS frame (R310, R319) -/

/-- The offset that a tile reports in ns. -/
def LinkSt.offset (l : LinkSt) : Int := clampInt (-32767) 32767 (roundAway (l.err * 10) tickParts)

/-- The link of a tile whose STATUS frame is read. -/
def LinkSt.read (l : LinkSt) : LinkSt :=
  { l with exchanged := false, shown := l.locked, downFails := 0,
           farRun := if !l.exchanged then l.farRun else if decide (200 < l.offset.natAbs) then l.farRun + 1 else 0 }

theorem LinkSt.farRun_read_le {l : LinkSt} : l.read.farRun ≤ l.farRun + 1 := by
  unfold LinkSt.read
  dsimp only
  split
  · omega
  · split <;> omega

/-- The Keeper reads the offset and LOCKED; the note that its loss was reported is all that may follow on the link. -/
theorem State.readStatus_link :
    (∃ b, (s.readStatus n).link n = { (s.link n).read with lostLock := b }) ∧ ∀ m, m ≠ n → (s.readStatus n).link m = s.link m := by
  unfold State.readStatus
  extract_lets l ns far u v w x
  have hv : v.links = s.links := by
    unfold v
    split <;> rfl
  have hx : x.links = w.links := foldl_keeps (P := fun y : State => y.links = w.links) rfl fun _ _ hy => (State.bump_links ..).trans hy
  have here : x.link n = (s.link n).read := by
    rw [State.link_congr hx, State.link_modLink_self, State.link_congr hv]
    rfl
  have others {m : Fin 8} (hm : m ≠ n) : x.link m = s.link m := by
    rw [State.link_congr hx, State.link_modLink_ne _ hm, State.link_congr hv]
  have noted {b : Bool} {k : Nat} : ((x.modLink n fun y => { y with lostLock := b }).raise Ev.beam k).link n =
      { (s.link n).read with lostLock := b } := by
    rw [State.link_congr (State.raise_links ..), State.link_modLink_self, here]
  have noted_others {m : Fin 8} {b : Bool} {k : Nat} (hm : m ≠ n) :
      ((x.modLink n fun y => { y with lostLock := b }).raise Ev.beam k).link m = s.link m := by
    rw [State.link_congr (State.raise_links ..), State.link_modLink_ne _ hm, others hm]
  split
  · exact ⟨⟨true, noted⟩, fun _ => noted_others⟩
  · split
    · exact ⟨⟨false, noted⟩, fun _ => noted_others⟩
    · exact ⟨⟨(s.link n).read.lostLock, here⟩, fun _ => others⟩

/-- The tile with the frame that its STATUS flit carries. -/
def TileSt.framed (x : TileSt) (f : TileFrame) : TileSt :=
  { x with frameAt := some f.at_, frameVbus := f.vbus, frameI := f.currents, frameV := f.volts }

/-- A STATUS flit without values is read, and loses no link whose clock was off for fewer than seven exchanges in a row. -/
theorem State.deliver_status {f : TileFrame} (h : (s.link n).farRun < 7) :
    s.deliver n true (.status f []) = (s.modTile n (·.framed f)).readStatus n := by
  obtain ⟨⟨b, link⟩, -⟩ := State.readStatus_link (s := s.modTile n (·.framed f)) (n := n)
  have far : (((s.modTile n (·.framed f)).readStatus n).link n).farRun ≤ (s.link n).farRun + 1 := by
    rw [link]
    exact LinkSt.farRun_read_le
  have near : ¬ 8 ≤ (((s.modTile n (·.framed f)).readStatus n).link n).farRun := by omega
  exact if_neg near

/-- A count leaves every object but its own, those of events and the events lost. -/
theorem State.bump_get_ne {key other : Nat} (h : other ≠ key) (he : State.evOfKey other = none) (h₁ : other ≠ K.NET_EVENTS_DROPPED)
    (h₂ : other ≠ K.NET_EVENT) : (s.bump key).get other = s.get other := by
  have ha : (s.addSat key 1).1.get other = s.get other := State.get_put_ne _ h _
  unfold State.bump
  split
  · rename_i v hv
    rw [hv] at ha
    exact ha
  · rename_i v hv
    rw [hv] at ha
    split
    · rename_i e k hb
      obtain ⟨key', hk'⟩ := State.satBit_evOfKey hb
      have hne : other ≠ e.key := by
        rintro rfl
        rw [State.evOfKey_key hk', hk'] at he
        exact absurd he nofun
      refine Eq.trans ?_ ha
      unfold State.raiseLater
      split
      · exact State.raise_get_ne _ e k hne h₁ h₂
      · unfold State.get
        rw [State.defer_within.same .objs rfl]
    · exact ha

/-- BEAM_TIME_OFFSET is no event object. -/
theorem State.evOfKey_BEAM_TIME_OFFSET : ∀ n : Fin 8, State.evOfKey (K.BEAM_TIME_OFFSET n) = none := by decide +kernel

theorem State.readStatus_offset : (s.readStatus n).get (K.BEAM_TIME_OFFSET n) = (s.link n).offset := by
  have dropped : K.BEAM_TIME_OFFSET n ≠ K.NET_EVENTS_DROPPED := by simp only [K.BEAM_TIME_OFFSET, K.NET_EVENTS_DROPPED]; omega
  have queued : K.BEAM_TIME_OFFSET n ≠ K.NET_EVENT := by simp only [K.BEAM_TIME_OFFSET, K.NET_EVENT]; omega
  have raised {y : State} {k : Nat} : (y.raise Ev.beam k).get (K.BEAM_TIME_OFFSET n) = y.get (K.BEAM_TIME_OFFSET n) :=
    State.raise_get_ne _ _ _ (by simp only [Ev.beam, K.BEAM_TIME_OFFSET, K.BEAM_EVENT]; omega) dropped queued
  unfold State.readStatus
  extract_lets l ns far u v w x
  have hu : u.get (K.BEAM_TIME_OFFSET n) = (s.link n).offset := State.get_put_self ..
  have hv : v.get (K.BEAM_TIME_OFFSET n) = (s.link n).offset := by
    unfold v
    split
    · rw [State.get_put_ne _ (by simp only [K.BEAM_TIME_OFFSET, K.BEAM_TIME_OFFSET_MAX]; omega), hu]
    · exact hu
  have hx : x.get (K.BEAM_TIME_OFFSET n) = (s.link n).offset :=
    foldl_keeps (P := fun y : State => y.get (K.BEAM_TIME_OFFSET n) = (s.link n).offset) hv fun _ _ hy =>
      (State.bump_get_ne (by simp only [K.BEAM_TIME_OFFSET, K.BEAM_CRC_DOWN]; omega) (State.evOfKey_BEAM_TIME_OFFSET n) dropped queued).trans hy
  split
  · exact raised.trans hx
  · split
    · exact raised.trans hx
    · exact hx

/-! ### A tile acknowledges a prepare (R362) -/

theorem State.puts_objs_congr {kvs : List (Nat × Int)} (h : t.objs = s.objs) : (t.puts kvs).objs = (s.puts kvs).objs := by
  induction kvs generalizing s t with
  | nil => exact h
  | cons kv kvs ih => exact ih (congrArg (Store.put (Dict.default kv.1) kv.1 kv.2) h)

theorem State.get_congr {key : Nat} (h : t.objs = s.objs) : t.get key = s.get key := by unfold State.get; rw [h]

theorem State.tileAcks_congr (ho : t.objs = s.objs) (hc : t.cfg = s.cfg) (hp : t.phases = s.phases)
    (hl : (t.link n).locked = (s.link n).locked) : t.tileAcks n = s.tileAcks n := by
  simp only [State.tileAcks, State.memberList, State.spareList, State.get_congr (State.puts_objs_congr ho), State.get_congr ho, hc, hl,
    State.phase_congr hp]

/-! ### The triggers of a SEAL are ordered anew (R183) -/

/-- A fault that is shown leaves when SEAL was entered. -/
theorem State.showFault_entered {tr : Trigger} {at_ : Nat} : (s.showFault tr at_).get K.MODE_ENTERED_AT = s.get K.MODE_ENTERED_AT := by
  unfold State.showFault
  simp only [State.puts, List.foldl_cons, List.foldl_nil]
  iterate 5 rw [State.get_put_ne _ (by decide)]

theorem State.settleTriggers_triggers : s.settleTriggers.sup.triggers = s.sup.triggers := by
  unfold State.settleTriggers
  split
  · rfl
  · extract_lets near u v
    split
    · rw [State.showFault_within.sup]
      rfl
    · rfl

/-- A trigger that is alone is the primary, and its T that of SEAL. -/
structure Settled (x : TrigRec) (t : State) : Prop where
  primary : t.sup.primary = some x.trig
  primaryAt : t.sup.primaryAt = x.at_
  awaiting : t.sup.awaitingStamp = x.awaiting
  estimated : t.sup.estimated = x.estimated
  sealStart : t.modes.sealStart = x.at_
  entered : t.get K.MODE_ENTERED_AT = x.at_

theorem State.settleTriggers_single {x : TrigRec} (h : s.sup.triggers = [x]) : Settled x s.settleTriggers := by
  have hp : primaryOf s.sup.triggers = some x := by rw [h]; rfl
  unfold State.settleTriggers
  split
  · rename_i hn
    exact absurd (hn.symm.trans hp) nofun
  rename_i y hy
  obtain rfl : x = y := Option.some.inj (hp.symm.trans hy)
  extract_lets near u v
  have awaited : s.sup.triggers.any (fun x => x.awaiting) = x.awaiting := by simp [h]
  have hv : Settled x v := ⟨rfl, rfl, awaited, rfl, rfl, State.get_put_self ..⟩
  split
  · rename_i f _
    have sup : (v.showFault f.trig f.at_).sup = v.sup := State.showFault_within.sup
    have modes : (v.showFault f.trig f.at_).modes = v.modes := State.showFault_within.modes
    exact ⟨(congrArg SupSt.primary sup).trans hv.primary, (congrArg SupSt.primaryAt sup).trans hv.primaryAt,
      (congrArg SupSt.awaitingStamp sup).trans hv.awaiting, (congrArg SupSt.estimated sup).trans hv.estimated,
      (congrArg ModeSt.sealStart modes).trans hv.sealStart, State.showFault_entered.trans hv.entered⟩
  · exact hv

/-- The first trigger of a tile that awaits its stamp takes it (R183, R321). -/
theorem State.takeStamp_first {x : TrigRec} {xs : List TrigRec} {at_ : Nat} (hl : (s.link n).st = .up) (hk : (s.link n).locked = true)
    (hm : s.modes.mode = .seal) (hs : s.sup.slot = none) (ht : s.sup.triggers = x :: xs) (hx : x.awaiting = true)
    (hn : x.trig.tile = n.val) : s.takeStamp n at_ =
      (s.modSup fun u => { u with triggers := { x with at_ := at_, estimated := false, awaiting := false } :: xs }).settleTriggers := by
  have first : stampFirst n at_ s.sup.triggers = { x with at_ := at_, estimated := false, awaiting := false } :: xs := by
    rw [ht]
    exact if_pos (by simp [hx, hn])
  unfold State.takeStamp
  rw [if_pos (by simp [hm, hs, State.stamps, hl, hk])]
  simp only [State.modSup, first]

/-! ### What each flit does (R300) -/

/-- Settles O37: a flit of the expected SEQ is accepted and delivered, by `State.flit_of_expected`; acceptance moves its link alone. -/
theorem flitsAndNotices : Obligations.FlitsAndNotices := by
  refine ⟨⟨fun n x s ha hh hl hx => ?_, fun n b clocks s ha hh hl => ?_, fun n f s ha hh hl hf => ?_, fun n s ha hh hl hk hp hn => ?_,
    fun n at_ x xs s ha hh hl hk hm hs ht hx hn => ?_⟩, fun n p why s ha hh hl hp hi => ?_⟩
  · have e := State.flit_of_expected (f := ⟨true, (s.link n).rxUp, .sample [x]⟩) ha hh hl nofun rfl
    obtain ⟨hrx, hfails⟩ := State.accepts_up (s := s) (n := n) (f := ⟨true, (s.link n).rxUp, .sample [x]⟩) rfl
    refine ⟨_, exec_eq (e.trans (State.takeSamples_one ((State.takes_congr State.accepts_within.tiles).trans hx))), hrx, hfails,
      State.get_put_self .., fun key hkey => ?_, fun m hm => State.accepts_link_ne hm,
      ((State.accepts_within.sub).next State.put_any).eq_links_objs⟩
    rw [State.get_put_ne _ (by simpa using hkey), State.accepts_get]
  · let f : Flit := ⟨false, (s.link n).rxDown, .time b clocks⟩
    have e := State.flit_of_expected (f := f) ha hh hl nofun rfl
    have link : ((s.accepts n f).followTime n b clocks).link n =
        ((s.accepts n f).link n).followed (quot (s.get (K.BEAM_DELAY_DOWN n) * tickParts) 100) b clocks := by
      rw [State.followTime_link, State.accepts_get]
    refine ⟨_, exec_eq e, ?_, ?_, ?_, ?_, fun m hm => (State.link_modLink_ne _ hm _).trans (State.accepts_link_ne hm),
      (State.accepts_within.trans State.followTime_within).eq_links⟩
    · exact (congrArg LinkSt.rxDown link).trans (LinkSt.followed_rxDown.trans (State.accepts_down rfl))
    · refine (congrArg LinkSt.err link).trans (LinkSt.followed_err.trans ?_)
      rw [State.accepts_link_keeps (fun l => (l.advance clocks).follower) fun _ _ _ _ _ => rfl]
      rfl
    · have kept : ((s.accepts n f).link n).follower = (s.link n).follower :=
        State.accepts_link_keeps LinkSt.follower fun _ _ _ _ _ => rfl
      exact (kept.symm.le.trans LinkSt.follower_le_followed).trans (congrArg LinkSt.follower link).symm.le
    · exact congrArg LinkSt.exchanged link
  · let g : Flit := ⟨true, (s.link n).rxUp, .status f []⟩
    obtain ⟨⟨b, link⟩, others⟩ := State.readStatus_link (s := (s.accepts n g).modTile n (·.framed f)) (n := n)
    have near : ((s.accepts n g).link n).farRun < 7 := (State.accepts_link_keeps LinkSt.farRun fun _ _ _ _ _ => rfl).trans_lt hf
    have seq : ((s.accepts n g).link n).rxUp = ((s.link n).rxUp + 1) % 32 := (State.accepts_up rfl).1
    have offset : ((s.accepts n g).link n).offset = (s.link n).offset := State.accepts_link_keeps LinkSt.offset fun _ _ _ _ _ => rfl
    have locked : ((s.accepts n g).link n).locked = (s.link n).locked := State.accepts_link_keeps LinkSt.locked fun _ _ _ _ _ => rfl
    have e := (State.flit_of_expected (f := g) ha hh hl nofun rfl).trans (State.deliver_status near)
    have tile : (((s.accepts n g).modTile n (·.framed f)).readStatus n).tile n = ((s.accepts n g).tile n).framed f :=
      (State.tile_congr State.readStatus_within.tiles).trans (State.tile_modTile_self ..)
    refine ⟨_, exec_eq e, congrArg TileSt.frameAt tile, congrArg TileSt.frameVbus tile, ?_, ?_, ?_, ?_,
      fun m hm => (others m hm).trans (State.accepts_link_ne hm)⟩
    · exact (congrArg LinkSt.rxUp link).trans seq
    · exact State.readStatus_offset.trans offset
    · exact (congrArg LinkSt.shown link).trans locked
    · exact congrArg LinkSt.exchanged link
  · let f : Flit := ⟨true, (s.link n).rxUp, .command [] true⟩
    have cfg : (s.accepts n f).cfg = s.cfg := State.accepts_within.cfg
    have acks : (s.accepts n f).tileAcks n = s.tileAcks n := State.tileAcks_congr (State.accepts_within.same .objs rfl) cfg
      State.accepts_within.phases (State.accepts_link_keeps LinkSt.locked fun _ _ _ _ _ => rfl)
    have e : s.flit n f = (s.accepts n f).modCfg fun c => { c with acked := c.acked ||| 2 ^ n.val, ackAt := (s.accepts n f).now } :=
      (State.flit_of_expected (f := f) ha hh hl nofun rfl).trans (if_pos (by simp [acks, cfg, hk, hp, hn]))
    exact ⟨_, exec_eq e, congrArg (fun c => c.acked ||| 2 ^ n.val) cfg, (State.accepts_up rfl).1,
      (State.accepts_within.sub.next State.modCfg_within).eq_links_cfg⟩
  · let f : Flit := ⟨true, (s.link n).rxUp, .stamp at_⟩
    have up : ((s.accepts n f).link n).st = .up := (State.accepts_link_keeps LinkSt.st fun _ _ _ _ _ => rfl).trans hl
    have locked : ((s.accepts n f).link n).locked = true := (State.accepts_link_keeps LinkSt.locked fun _ _ _ _ _ => rfl).trans hk
    have sup : (s.accepts n f).sup = s.sup := State.accepts_within.sup
    have modes : (s.accepts n f).modes = s.modes := State.accepts_within.modes
    have e := (State.flit_of_expected (f := f) ha hh hl nofun rfl).trans
      (State.takeStamp_first up locked (modes ▸ hm) (sup ▸ hs) (sup ▸ ht) hx hn)
    refine ⟨_, exec_eq e, State.settleTriggers_triggers, fun hxs => ?_⟩
    subst hxs
    obtain ⟨primary, primaryAt, awaiting, estimated, sealStart, entered⟩ := State.settleTriggers_single
      (s := (s.accepts n f).modSup fun u => { u with triggers := [{ x with at_ := at_, estimated := false, awaiting := false }] }) rfl
    exact ⟨primary, primaryAt, awaiting, estimated, sealStart, entered⟩
  · let f : Flit := ⟨true, (s.link n).rxUp, .isolation p why⟩
    have phase : (s.accepts n f).phase p = s.phase p := State.phase_congr State.accepts_within.phases
    have h : Isolates p why (s.accepts n f) ((s.accepts n f).isolate p why) := State.isolate_holds (phase ▸ hi)
    have e := (State.flit_of_expected (f := f) ha hh hl nofun rfl).trans (if_pos hp)
    exact ⟨_, exec_eq e, h.st, h.reason, h.since.trans (State.accepts_within.same .now rfl)⟩

end Sys2Proof.Machine
end

section
/-! Rails and AUX outputs: their events, and the parts that their commands may change. -/

set_option Elab.async false

namespace Sys2Proof.Machine

variable {s t u : State} {F : Parts} {r : Fin 32}

/-! ### Events of rails and AUX outputs -/

/-- What lies between the network's objects and those of the phases belongs to no unit that a part may lack (R3). -/
theorem State.absent_of_range {key : Nat} (lo : 0x120600 ≤ key) (hi : key < 0x380000) : s.absent key = false := by
  have lo' : 0x1206 ≤ key / 256 := by omega
  have hi' : key / 256 < 0x3800 := by omega
  unfold State.absent
  generalize key / 256 = i at lo' hi'
  iterate 8 rw [if_neg (by simp; omega)]
  rw [if_neg (by omega), if_neg (by simp; omega)]

theorem State.absent_RAIL_EVENT : s.absent (Ev.rail r).key = false :=
  State.absent_of_range (by simp only [Ev.rail_key, K.RAIL_EVENT]; omega) (by simp only [Ev.rail_key, K.RAIL_EVENT]; omega)

theorem State.absent_AUX_EVENT {k : Fin 4} : s.absent (Ev.aux k).key = false :=
  State.absent_of_range (by simp only [Ev.aux_key, K.AUX_EVENT]; omega) (by simp only [Ev.aux_key, K.AUX_EVENT]; omega)

/-- The events of rails and AUX outputs are not the count of lost events. -/
theorem Ev.rail_key_ne_dropped : (Ev.rail r).key ≠ K.NET_EVENTS_DROPPED := by
  simp only [Ev.rail_key, K.RAIL_EVENT, K.NET_EVENTS_DROPPED]
  omega

theorem Ev.aux_key_ne_dropped {k : Fin 4} : (Ev.aux k).key ≠ K.NET_EVENTS_DROPPED := by
  simp only [Ev.aux_key, K.AUX_EVENT, K.NET_EVENTS_DROPPED]
  omega

theorem State.raise_rail_shows {k : Nat} : (s.raise (Ev.rail r) k).Shows (Ev.rail r) k :=
  State.raise_bit _ _ _ State.absent_RAIL_EVENT Ev.rail_key_ne_dropped

theorem State.raise_aux_shows {j : Fin 4} {k : Nat} : (s.raise (Ev.aux j) k).Shows (Ev.aux j) k :=
  State.raise_bit _ _ _ State.absent_AUX_EVENT Ev.aux_key_ne_dropped

/-- An event clears no bit of an event object. -/
theorem State.raise_keeps_shows {e d : EventObj} {j k : Nat} (hd : d.key ≠ K.NET_EVENTS_DROPPED) (h : s.Shows d j) :
    (s.raise e k).Shows d j :=
  State.countDrops_mono _ _ _ _ hd (s.raiseHeard_mono e k d.key j h)

/-- A bit that shows stays while the objects do. -/
theorem State.Shows.congr {e : EventObj} {k : Nat} (h : s.Shows e k) (ho : t.get e.key = s.get e.key) : t.Shows e k := by
  unfold State.Shows
  rw [ho]
  exact h

theorem State.aux_congr {k : Fin 4} (h : t.auxs = s.auxs) : t.aux k = s.aux k := by unfold State.aux; rw [h]

/-! ### A state that changes in a few parts is the state with those -/

/-- The parts that a command of a rail or an AUX output may change. -/
def powerParts : Parts := parts [.objs, .ints, .net, .answer, .phases, .rails, .auxs]

/-- `s` with these parts of `t`. -/
def State.withPowerParts (s t : State) : State :=
  { s with objs := t.objs, ints := t.ints, net := t.net, answer := t.answer, phases := t.phases, rails := t.rails, auxs := t.auxs }

theorem Within.eq_withPowerParts (h : Within powerParts s t) : t = s.withPowerParts t := by
  have keep (x : Part) (hx : powerParts.testBit x.ctorIdx = false) (k : x.same s t → x.same (s.withPowerParts t) t) :
      x.same (s.withPowerParts t) t := k (h.same x hx)
  refine State.eq_of_same h.queue fun x => ?_
  cases x
  case objs | ints | net | answer | phases | rails | auxs => rfl
  case events => exact fun _ _ _ hj => hj
  case wakeSource | wakeEnable | fsRetryCount | fsRetryAt | fsCause | resetCause | tbSource | bootResult | sealStage | faultShown | seqFault
      | habState => exact fun _ _ => rfl
  all_goals exact keep _ rfl id

/-- An event, or several, is all that happens. -/
theorem Within.reportsOnly (h : Within (parts [.objs, .ints, .net]) s t) : ReportsOnly s t := by
  have e := (h.sub (F := powerParts)).eq_withPowerParts
  rw [State.withPowerParts, h.same .answer rfl, h.phases, h.rails, h.auxs] at e
  exact e

/-- A rail and its phases change, and events say so. -/
theorem Within.eq_withRails (h : Within (parts [.objs, .ints, .phases, .rails, .net]) s t) :
    t = { s with rails := t.rails, phases := t.phases, objs := t.objs, ints := t.ints, net := t.net } := by
  have e := (h.sub (F := powerParts)).eq_withPowerParts
  rw [State.withPowerParts, h.same .answer rfl, h.auxs] at e
  exact e

/-- Objects and AUX outputs change. -/
theorem Within.eq_withAuxs (h : Within (parts [.objs, .auxs]) s t) : t = { s with objs := t.objs, auxs := t.auxs } := by
  have e := (h.sub (F := powerParts)).eq_withPowerParts
  rw [State.withPowerParts, h.same .answer rfl, h.phases, h.rails, h.same .ints rfl, h.same .net rfl] at e
  exact e

end Sys2Proof.Machine
end

section
/-! The power-up and the power-down chain of a rail (R105–R107). -/

set_option Elab.async false

namespace Sys2Proof.Machine

variable {s t u : State} {F : Parts} {p q : Fin 56} {r : Fin 32}

/-! ### A command at its apply tick leaves the rail's queue (R98) -/

/-- Rail `r` with a command taken off its queue. -/
def State.dropCmd (s : State) (r : Fin 32) (c : RailCmd) : State := s.modRail r fun x => { x with cmds := x.cmds.erase c }

theorem State.dropCmd_rail {c : RailCmd} : (s.dropCmd r c).rail r = { s.rail r with cmds := (s.rail r).cmds.erase c } :=
  State.rail_modRail_self ..

theorem State.takeCmd_of_find {c : RailCmd} {f : RailCmd → Bool} (h : (s.rail r).cmds.find? f = some c) :
    s.takeCmd r f = some (c, s.dropCmd r c) := by
  unfold State.takeCmd
  rw [h]
  rfl

/-- A search that accepts one command alone finds it. -/
theorem find_of_mem {c : RailCmd} {l : List RailCmd} {f : RailCmd → Bool} (h : c ∈ l) (hf : ∀ d, f d = true ↔ d = c) :
    l.find? f = some c := by
  induction l with
  | nil => cases h
  | cons d l ih =>
    by_cases hd : d = c
    · rw [List.find?_cons_of_pos ((hf d).2 hd), hd]
    · rw [List.find?_cons_of_neg fun h => hd ((hf d).1 h)]
      exact ih ((List.mem_cons.1 h).resolve_left (Ne.symm hd))

theorem State.powerUpTick_of_mem (h : RailCmd.up ∈ (s.rail r).cmds) : s.powerUpTick r = (s.dropCmd r .up).applyPowerUp r := by
  unfold State.powerUpTick
  rw [State.takeCmd_of_find (find_of_mem h fun d => by cases d <;> simp)]

theorem State.powerDownTick_of_mem (h : RailCmd.down ∈ (s.rail r).cmds) :
    s.powerDownTick r = (s.dropCmd r .down).applyPowerDown r := by
  unfold State.powerDownTick
  rw [State.takeCmd_of_find (find_of_mem h fun d => by cases d <;> simp)]

/-- What a change of a rail leaves of it after a command left its queue. -/
theorem State.dropCmd_modRail {c : RailCmd} {f : RailSt → RailSt} :
    ((s.dropCmd r c).modRail r f).rail r = f { s.rail r with cmds := (s.rail r).cmds.erase c } := by
  rw [State.rail_modRail_self, State.dropCmd_rail]

theorem State.dropCmd_otherRails {c : RailCmd} : OtherRailsKept r s (s.dropCmd r c) := .modRail

/-! ### A rail is up (R107) -/

/-- A rail that has come up. -/
def RailSt.risen (x : RailSt) (st : RailState) : RailSt :=
  { x with st := st, armed := x.armed || decide (st = .up), badRun := x.badRun && !decide (st = .up) }

/-- A rail is up, and says so; nothing else changes. -/
structure ComesUp (r : Fin 32) (st : RailState) (s t : State) : Prop where
  rail : t.rail r = (s.rail r).risen st
  shows : t.Shows (Ev.rail r) 1
  rails : OtherRailsKept r s t
  objects : ObjectsKept s t (eventObjects (Ev.rail r))

theorem State.enterUp_holds {st : RailState} : ComesUp r st s (s.enterUp r st) where
  rail := by
    unfold State.enterUp
    rw [State.rail_congr (State.raise_rails ..), State.rail_modRail_self]
    rfl
  shows := State.raise_rail_shows
  rails := OtherRailsKept.modRail.next (State.raise_plain (by simp))
  objects := State.raise_objectsKept

theorem State.referenceReached_of_rampUp (hm : (s.rail r).moving = true) (hs : (s.rail r).st = .rampUp) :
    s.referenceReached r =
      (s.modRail r fun x => { x with ref := { x.ref with v0 := x.ref.target, t0 := s.now }, moving := false }).enterUp r .up := by
  unfold State.referenceReached
  rw [if_pos hm]
  simp only [State.rail_modRail_self, hs]

/-! ### PREBIAS (R84, R105) -/

theorem State.phasePrebias_self {role : PhRole} (h : (s.phase p).st = .off) :
    ((s.phasePrebias r role p).phase p) = (s.phase p).prebiased r role := by
  unfold State.phasePrebias
  rw [if_pos h, State.phase_modPhase_self]

theorem State.phasePrebias_ne {role : PhRole} (h : p = q → (s.phase p).st ≠ .off) :
    (s.phasePrebias r role q).phase p = s.phase p := by
  unfold State.phasePrebias
  split
  · rename_i ho
    exact State.phase_modPhase_ne s (by rintro rfl; exact h rfl ho) _
  · rfl

/-- Every OFF member goes to PREBIAS. -/
theorem State.enterPrebias_member (hp : p ∈ (s.rail r).members) (ho : (s.phase p).st = .off) :
    ((s.enterPrebias r).phase p).st = .prebias := by
  have hk {v : State} {x : Fin 56} (hv : (v.phase p).st = .prebias) : ((v.phasePrebias r .member x).phase p).st = .prebias := by
    rw [State.phasePrebias_ne fun _ => by rw [hv]; decide]
    exact hv
  refine foldl_reaches (I := fun v => (v.phase p).st = .off ∨ (v.phase p).st = .prebias) (Q := fun v => (v.phase p).st = .prebias)
    hp (.inl ho) (fun v x hv => ?_) (fun v hv => ?_) fun _ _ _ => hk
  · rcases hv with hv | hv
    · by_cases hx : p = x
      · subst hx
        rw [State.phasePrebias_self hv]
        exact .inr rfl
      · rw [State.phasePrebias_ne fun h => absurd h hx]
        exact .inl hv
    · exact .inr (hk hv)
  · rcases hv with hv | hv
    · rw [State.phasePrebias_self hv]
      rfl
    · exact hk hv

/-- Phases that are not among those listed, or are not OFF, stay. -/
theorem State.forPhases_prebias_other {role : PhRole} {l : List (Fin 56)} (h : p ∉ l ∨ (s.phase p).st ≠ .off) :
    (s.forPhases l (State.phasePrebias · r role)).phase p = s.phase p := by
  induction l generalizing s with
  | nil => rfl
  | cons q l ih =>
    have hq : (s.phasePrebias r role q).phase p = s.phase p :=
      State.phasePrebias_ne fun e => h.resolve_left fun hp => hp (e ▸ List.mem_cons_self)
    rw [← hq] at h ⊢
    exact ih (h.imp_left fun hp hl => hp (List.mem_cons_of_mem _ hl))

/-! ### The chain of R105 -/

/-- A rail that waits its on delay with the stored target. -/
def RailSt.poweredUp (x : RailSt) (vset : Int) : RailSt :=
  { x with st := .onDelay, upStatus := .running, everQualified := false, ref := { target := vset * 1000 } }

theorem State.applyPowerUp_of_off (h : (s.rail r).st = .off) :
    s.applyPowerUp r = s.modRail r (·.poweredUp (s.get (K.RAIL_VSET r))) := if_pos h

/-- A rail whose ramp starts from `v` µV. -/
def RailSt.ramped (x : RailSt) (now : Nat) (v slew : Int) : RailSt :=
  { x with st := .rampUp, ref := { v0 := v, t0 := now, target := x.ref.target, slew := slew }, moving := decide (v ≠ x.ref.target) }

/-- A coil rail whose pull-in starts. -/
def RailSt.pulledIn (x : RailSt) : RailSt := { x with st := .pullIn, coilR := 0, compliance := false, armed := true, badRun := false }

/-- The prebias of a rail is over. -/
def State.prebiasOver (s : State) (r : Fin 32) : Prop :=
  (s.rail r).st = .prebias ∧ (∀ p ∈ (s.rail r).members, (s.phase p).st ≠ .prebias) ∧ s.activeMembers r ≠ []

theorem State.rampStart_of_prebiasOver {v0 : Int} (h : s.prebiasOver r) (h0 : 0 ≤ v0) (ht : v0 * 1000 < (s.rail r).ref.target) :
    s.rampStart r v0 = s.modRail r fun x =>
      if s.coilMode r then x.pulledIn else x.ramped s.now (v0 * 1000) (s.get (K.RAIL_SLEW_ON r)) := by
  obtain ⟨hs, hm, ha⟩ := h
  have hb : ((s.rail r).members.any fun p => decide ((s.phase p).st = .prebias)) = false := by simpa using hm
  have hv : clampInt 0 (s.rail r).ref.target (v0 * 1000) = v0 * 1000 := by unfold clampInt; omega
  unfold State.rampStart
  rw [if_neg (by simp [hs, hb, ha])]
  split
  · rfl
  · simp only [hv]
    exact if_neg (by omega)

/-- Settles O13: each command of the chain changes its rail as the equation of its move says. -/
theorem railPowerUpChain : Obligations.RailPowerUpChain := by
  refine ⟨fun r s hc hs => ?_, fun r s hs => ?_, fun r v0 s hs hm ha h0 ht => ?_, fun r s hm hs => ?_⟩
  · have hu : ((s.dropCmd r .up).rail r).st = .off := by rw [State.dropCmd_rail]; exact hs
    refine ⟨_, exec_eq ((State.powerUpTick_of_mem hc).trans (State.applyPowerUp_of_off hu)), ?_, ?_, ?_,
      State.dropCmd_otherRails.trans .modRail, rfl⟩ <;> rw [State.dropCmd_modRail] <;> rfl
  · refine ⟨_, exec_eq (if_pos hs), ?_, fun p => State.enterPrebias_member, fun p => State.forPhases_prebias_other, ?_, ?_⟩
    · rw [State.enterPrebias, State.rail_modRail_self]
    · exact (OtherRailsKept.refl.next (F := parts [.phases]) (.foldl .refl fun _ _ => State.phasePrebias_within)).trans .modRail
    · have h := State.enterPrebias_within (s := s) (r := r)
      have e := (h.sub (F := parts [.objs, .ints, .phases, .rails, .net])).eq_withRails
      rw [h.same .objs rfl, h.same .ints rfl, h.same .net rfl] at e
      exact e
  · refine ⟨_, exec_eq (State.rampStart_of_prebiasOver ⟨hs, hm, ha⟩ h0 ht), .modRail, rfl, fun hc => ?_, fun hc => ?_⟩
    · rw [State.rail_modRail_self, hc]
      exact ⟨rfl, rfl, decide_eq_true (ne_of_lt ht), rfl⟩
    · rw [State.rail_modRail_self, hc]
      exact ⟨rfl, rfl, rfl⟩
  · have h := State.enterUp_holds (r := r) (st := .up)
      (s := s.modRail r fun x => { x with ref := { x.ref with v0 := x.ref.target, t0 := s.now }, moving := false })
    refine ⟨_, exec_eq (State.referenceReached_of_rampUp hm hs), ?_, ?_, ?_, h.shows, OtherRailsKept.modRail.trans h.rails, h.objects⟩ <;>
      rw [h.rail, State.rail_modRail_self] <;> rfl

end Sys2Proof.Machine
end

section
/-! The power-down chain of a rail (R106, R107). -/

set_option Elab.async false

namespace Sys2Proof.Machine

variable {s t u : State} {F : Parts} {p q : Fin 56} {r : Fin 32}

/-! ### Phases go to OFF (R84) -/

/-- A phase that is not ISOLATED goes to OFF; every other phase keeps its state. -/
theorem State.phaseOff_st : ((s.phaseOff q).phase p).st =
    if p = q ∧ (s.phase p).st ≠ .isolated then .off else (s.phase p).st := by
  unfold State.phaseOff
  extract_lets was
  by_cases hp : p = q
  · subst hp
    by_cases hu : (s.phase p).st.inUse = true
    · have hi : (s.phase p).st ≠ .isolated := fun h => by rw [h] at hu; cases hu
      rw [if_pos hu, if_pos ⟨rfl, hi⟩, State.phase_congr State.leftShed_within.phases, State.phase_modPhase_self]
      rfl
    · rw [if_neg hu]
      cases hs : (s.phase p).st <;> simp_all [PhState.inUse]
  · rw [if_neg (c := p = q ∧ _) fun h => hp h.1]
    split
    · rw [State.phase_congr State.leftShed_within.phases, State.phase_modPhase_ne s hp]
    · rfl

/-- Members and spares of a rail that are not ISOLATED go to OFF. -/
theorem State.railPhasesOff_st (hp : p ∈ (s.rail r).members) (hi : (s.phase p).st ≠ .isolated) :
    ((s.railPhasesOff r).phase p).st = .off := by
  refine foldl_reaches (I := fun v => (v.phase p).st ≠ .isolated) (Q := fun v => (v.phase p).st = .off)
    (List.mem_append_left _ hp) hi (fun v x hv => ?_) (fun v hv => ?_) fun v x _ hv => ?_
  · rw [State.phaseOff_st]
    split
    · decide
    · exact hv
  · rw [State.phaseOff_st, if_pos ⟨rfl, hv⟩]
  · rw [State.phaseOff_st, hv, ite_self]

theorem State.railPhasesOff_keeps_shows {e : EventObj} {k : Nat} (he : e.key ≠ K.NET_EVENTS_DROPPED) (h : s.Shows e k) :
    (s.railPhasesOff r).Shows e k := by
  refine foldl_keeps (P := fun v : State => v.Shows e k) h fun v x hv => ?_
  unfold State.phaseOff State.leftShed
  extract_lets was
  split
  · split
    · exact State.raise_keeps_shows he hv
    · exact hv
  · exact hv

/-! ### DISCHARGE and OFF (R106, R107) -/

/-- A rail in DISCHARGE. -/
def RailSt.discharging (x : RailSt) (now : Nat) : RailSt :=
  { x.holdRef now with st := .discharge, limiting := false, capped := false, dwellFrom := none, pglFrom := none }

theorem State.enterDischarge_rail : (s.enterDischarge r).rail r = (s.rail r).discharging s.now := by
  unfold State.enterDischarge
  rw [State.rail_modRail_self, State.rail_congr State.railPhasesOff_within.rails]
  rfl

theorem State.enterDischarge_otherRails : OtherRailsKept r s (s.enterDischarge r) :=
  (OtherRailsKept.refl.next State.railPhasesOff_within).trans .modRail

theorem State.enterDischarge_member (hp : p ∈ (s.rail r).members) (hi : (s.phase p).st ≠ .isolated) :
    ((s.enterDischarge r).phase p).st = .off := State.railPhasesOff_st hp hi

/-- A rail in OFF. -/
def RailSt.emptied (x : RailSt) : RailSt :=
  { x with st := .off, ref := {}, moving := false, coilR := 0, limiting := false, capped := false, compliance := false,
           pg := false, armed := false, qualified := false, badRun := false, everQualified := false, shedHold := none,
           deferredUp := false, dwellFrom := none, pglFrom := none }

/-- A rail is OFF and says so, and its members with it; a power-up that waited for that may be on its way to its tiles. -/
structure TurnsOff (r : Fin 32) (s t : State) : Prop where
  st : (t.rail r).st = .off
  pg : (t.rail r).pg = false
  shows : t.Shows (Ev.rail r) 2
  earlier : ∀ k, s.Shows (Ev.rail r) k → t.Shows (Ev.rail r) k
  members : ∀ p ∈ (s.rail r).members, (s.phase p).st ≠ .isolated → (t.phase p).st = .off
  rails : OtherRailsKept r s t

theorem State.enterOff_holds : TurnsOff r s (s.enterOff r) := by
  unfold State.enterOff
  extract_lets again u v
  have hv : TurnsOff r s v := by
    have here : v.rail r = (s.rail r).emptied := by
      rw [State.rail_congr (State.raise_rails ..), State.rail_modRail_self, State.rail_congr State.railPhasesOff_within.rails]
      rfl
    refine ⟨?_, ?_, State.raise_rail_shows, fun k hk => ?_, fun p hp hi => ?_, ?_⟩
    · rw [here]
      rfl
    · rw [here]
      rfl
    · exact State.raise_keeps_shows Ev.rail_key_ne_dropped (State.railPhasesOff_keeps_shows Ev.rail_key_ne_dropped hk)
    · rw [State.phase_congr (State.raise_phases ..)]
      exact State.railPhasesOff_st hp hi
    · exact ((OtherRailsKept.refl.next State.railPhasesOff_within).trans .modRail).next (State.raise_plain (by simp))
  split
  · refine ⟨?_, ?_, hv.shows, hv.earlier, hv.members, hv.rails.trans .modRail⟩
    · exact (congrArg RailSt.st (State.rail_modRail_self ..)).trans hv.st
    · exact (congrArg RailSt.pg (State.rail_modRail_self ..)).trans hv.pg
  · exact hv

/-! ### A power-down at its apply tick (R102, R106) -/

/-- A rail without its open voltage transition and the accepted ones. -/
def RailSt.voltDropped (x : RailSt) : RailSt :=
  { x with tag := none, cmds := x.cmds.filter fun c => match c with | .volt _ (some _) => false | _ => true }

theorem State.abortVoltage_rails : (s.abortVoltage r).rails = (s.modRail r RailSt.voltDropped).rails := by
  unfold State.abortVoltage
  extract_lets ts u
  exact (Within.foldl .refl fun _ _ => State.loseAbort_within.trans State.finish_within : Within _ u _).rails

theorem State.applyPowerDown_of_up (h : (s.rail r).st = .up ∨ (s.rail r).st = .hold) :
    s.applyPowerDown r = (s.abortVoltage r).modRail r fun x => { x.holdRef s.now with st := .offDelay, armed := false } := by
  unfold State.applyPowerDown
  rcases h with h | h <;> simp only [h]

/-! A power-down is done state by state: one equation per branch of `applyPowerDown`. -/

theorem State.applyPowerDown_of_pullIn (h : (s.rail r).st = .pullIn) :
    s.applyPowerDown r = s.modRail r fun x => { x with st := .discharge, armed := false } := by
  simp only [State.applyPowerDown, h]

/-- A rail that ramps down. -/
def RailSt.rampedDown (x : RailSt) (now : Nat) (slew : Int) : RailSt := { x.moveRef now 0 slew with st := .rampDown }

theorem State.applyPowerDown_of_rampUp (h : (s.rail r).st = .rampUp) (hd : s.get (K.RAIL_DOWN_MODE r) ≠ 1) :
    s.applyPowerDown r = s.modRail r fun x => { x.rampedDown s.now (s.get (K.RAIL_SLEW_OFF r)) with armed := false } := by
  simp only [State.applyPowerDown, h, hd]
  rfl

theorem State.applyPowerDown_of_onDelay (h : (s.rail r).st = .onDelay) : s.applyPowerDown r = s.enterOff r := by
  simp only [State.applyPowerDown, h]

theorem State.applyPowerDown_to_discharge (h : (s.rail r).st = .prebias ∨ ((s.rail r).st = .rampUp ∧ s.get (K.RAIL_DOWN_MODE r) = 1)) :
    s.applyPowerDown r = s.enterDischarge r := by
  rcases h with h | ⟨h, hd⟩
  · simp only [State.applyPowerDown, h]
  · simp only [State.applyPowerDown, h, hd, decide_true, if_true]

/-- The end of an off delay releases a coil, coasts, or starts the tracked ramp. -/
theorem State.endOffDelay_of_offDelay (h : (s.rail r).st = .offDelay) : s.endOffDelay r =
    if s.coilMode r then s.modRail r fun x => { x with st := .discharge }
    else if s.get (K.RAIL_DOWN_MODE r) = 1 then s.enterDischarge r
    else s.modRail r (·.rampedDown s.now (s.get (K.RAIL_SLEW_OFF r))) := if_pos h

/-- Settles O14: each command of the chain changes its rail as the equation of its move says, and OFF is `State.enterOff_holds`. -/
theorem railPowerDownChain : Obligations.RailPowerDownChain := by
  have dropped (r : Fin 32) (s : State) : ((s.dropCmd r .down).rail r).st = (s.rail r).st := by rw [State.dropCmd_rail]
  have drop (r : Fin 32) (s : State) : Within (parts [.objs, .ints, .phases, .rails, .net]) s (s.dropCmd r .down) := State.modRail_within.sub
  refine ⟨fun r s hc hs => ?_, fun r s hc hs => ?_, fun r s hc hs hd => ?_, fun r s hc => ⟨fun hs => ?_, fun hs => ?_⟩, fun r s hs => ?_,
    fun r s hs hf => ?_, fun r v s hs hm hv => ?_, fun r s hs hm => ?_⟩
  · have e := State.applyPowerDown_of_up (s := s.dropCmd r .down) (r := r) (by rw [dropped]; exact hs)
    have here : ((s.dropCmd r .down).abortVoltage r).rail r = ((s.dropCmd r .down).rail r).voltDropped :=
      (State.rail_congr State.abortVoltage_rails).trans (State.rail_modRail_self ..)
    have others : OtherRailsKept r (s.dropCmd r .down) ((s.dropCmd r .down).abortVoltage r) := fun q hq =>
      (State.rail_congr State.abortVoltage_rails).trans (State.rail_modRail_ne _ hq _)
    refine ⟨_, exec_eq ((State.powerDownTick_of_mem hc).trans e), ?_, ?_, ?_, ?_, (State.dropCmd_otherRails.trans others).trans .modRail⟩ <;>
      rw [State.rail_modRail_self, here, State.dropCmd_rail] <;> rfl
  · have e := State.applyPowerDown_of_pullIn ((dropped r s).trans hs)
    refine ⟨_, exec_eq ((State.powerDownTick_of_mem hc).trans e), ?_, ?_, State.dropCmd_otherRails.trans .modRail, rfl⟩ <;>
      rw [State.dropCmd_modRail]
  · have e := State.applyPowerDown_of_rampUp ((dropped r s).trans hs) hd
    refine ⟨_, exec_eq ((State.powerDownTick_of_mem hc).trans e), ?_, ?_, ?_, State.dropCmd_otherRails.trans .modRail, rfl⟩ <;>
      rw [State.dropCmd_modRail] <;> rfl
  · have h := State.enterOff_holds (s := s.dropCmd r .down) (r := r)
    exact ⟨_, exec_eq ((State.powerDownTick_of_mem hc).trans (State.applyPowerDown_of_onDelay ((dropped r s).trans hs))), h.st, h.shows,
      State.dropCmd_otherRails.trans h.rails⟩
  · have e := State.applyPowerDown_to_discharge (s := s.dropCmd r .down) (r := r) (by rw [dropped]; exact hs)
    refine ⟨_, exec_eq ((State.powerDownTick_of_mem hc).trans e), ?_, ?_, State.dropCmd_otherRails.trans State.enterDischarge_otherRails,
      ((drop r s).trans State.enterDischarge_within).eq_withRails⟩ <;> rw [State.enterDischarge_rail] <;> rfl
  · refine ⟨_, exec_eq (State.endOffDelay_of_offDelay hs), ?_, ?_, ?_⟩
    · exact .ite .modRail (.ite State.enterDischarge_otherRails .modRail)
    · by_cases hm : s.coilMode r = true
      · rw [if_pos hm, if_pos (.inl hm), State.rail_modRail_self]
      · by_cases hd : s.get (K.RAIL_DOWN_MODE r) = 1
        · rw [if_neg hm, if_pos hd, if_pos (.inr hd), State.enterDischarge_rail]
          rfl
        · rw [if_neg hm, if_neg hd, if_neg (by simp [hm, hd]), State.rail_modRail_self]
          rfl
    · have h : Within (parts [.objs, .ints, .phases, .rails, .net]) s (if s.coilMode r then s.modRail r fun x => { x with st := .discharge }
          else if s.get (K.RAIL_DOWN_MODE r) = 1 then s.enterDischarge r
          else s.modRail r (·.rampedDown s.now (s.get (K.RAIL_SLEW_OFF r)))) :=
        .ite State.modRail_within.sub (.ite State.enterDischarge_within State.modRail_within.sub)
      exact h.eq_withRails
  · refine ⟨_, exec_eq (if_pos ?_), ?_, ?_, fun p => State.enterDischarge_member, State.enterDischarge_otherRails,
      State.enterDischarge_within.eq_withRails⟩
    · simp only [State.belowFloor, State.floorOf, hs, decide_true, Bool.true_and]
      exact decide_eq_true hf
    · rw [State.enterDischarge_rail]; rfl
    · rw [State.enterDischarge_rail]; rfl
  · have h := State.enterOff_holds (s := s) (r := r)
    refine ⟨_, exec_eq (if_pos ?_), h.st, h.pg, h.shows, h.members, h.rails⟩
    simp [State.discharging, hs, hm, hv]
  · have h := State.enterOff_holds (s := s.raise (Ev.rail r) 8) (r := r)
    refine ⟨_, exec_eq (if_pos ?_), h.st, h.shows, h.earlier 8 State.raise_rail_shows,
      (OtherRailsKept.refl.next (State.raise_plain (by simp))).trans h.rails⟩
    simp [State.discharging, hs, hm]

end Sys2Proof.Machine
end

section
/-! Commands of a rail from a port, and its voltage transitions (R100–R102, R118, R406). -/

set_option Elab.async false

namespace Sys2Proof.Machine

variable {s t u : State} {F : Parts} {p q : Fin 56} {r : Fin 32} {g j : Nat}

/-! ### The entry of a tag (R403–R406) -/

theorem State.op_congr (h : t.ops = s.ops) : t.op g = s.op g := by unfold State.op; rw [h]

theorem State.op_setOp_self {e : OpEntry} (h : g < 128) : (s.setOp g e).op g = e := by
  simp [State.op, State.setOp, Vector.getD, h]

theorem State.op_setOp_ne {e : OpEntry} (h : g ≠ j) : (s.setOp j e).op g = s.op g := by
  simp only [State.op, State.setOp, Vector.getD, Vector.toArray_setIfInBounds, Array.getD_eq_getD_getElem?,
    Array.getElem?_setIfInBounds_ne (Ne.symm h)]

theorem State.loseAbort_op_self (hg : g < 128) (ha : (s.op g).abort = .requested) :
    (s.loseAbort g).op g = { s.op g with abort := .lost } := by
  unfold State.loseAbort
  extract_lets e u v
  rw [if_pos ha, State.op_congr (State.raise_ops ..), State.op_congr (State.bump_ops ..)]
  exact State.op_setOp_self hg

theorem State.loseAbort_op_ne (h : g ≠ j) : (s.loseAbort j).op g = s.op g := by
  unfold State.loseAbort
  extract_lets e u v
  split
  · rw [State.op_congr (State.raise_ops ..), State.op_congr (State.bump_ops ..)]
    exact State.op_setOp_ne h
  · rfl

/-- An operation that is over stays as it ended. -/
theorem State.finishOne_of_closed {st : OpStatus} {a b : Nat} (h : (s.op j).status.isOpen = false) : s.finishOne j st a b = s := by
  unfold State.finishOne
  exact if_neg (by simp [h])

theorem State.finishOne_op_ne {st : OpStatus} {a b : Nat} (h : g ≠ j) : (s.finishOne j st a b).op g = s.op g := by
  unfold State.finishOne
  extract_lets e u v
  have hu : u.op g = s.op g := by
    unfold u
    split
    · split
      · exact State.op_setOp_ne h
      · rfl
    · exact State.loseAbort_op_ne h
  split
  · rw [State.op_congr (State.reportOp_ops ..), State.op_setOp_ne h, hu]
  · rfl

/-- The final entry of an operation whose abort is requested: the abort has won where it ends ABORTED, and is lost otherwise. -/
def OpEntry.decided (e : OpEntry) (now : Nat) (st : OpStatus) (result code : Nat) : OpEntry :=
  { e with abort := if st = .aborted then .won else .lost, status := st, finalAt := now, result := result, abortCode := code }

theorem State.finishOne_op_self {st : OpStatus} {a b : Nat} (hg : g < 128) (ho : (s.op g).status.isOpen = true)
    (ha : (s.op g).abort = .requested) : (s.finishOne g st a b).op g = (s.op g).decided s.now st a b := by
  unfold State.finishOne
  extract_lets e u v e'
  have hn : u.now = s.now := by
    unfold u
    split
    · rfl
    · exact State.loseAbort_now ..
  have hu : u.op g = { s.op g with abort := if st = .aborted then .won else .lost } := by
    unfold u
    split
    · exact State.op_setOp_self hg
    · exact State.loseAbort_op_self hg ha
  rw [if_pos ho, State.op_congr (State.reportOp_ops ..), State.op_setOp_self hg]
  unfold e' v
  rw [hu, hn]
  rfl

/-- What joins an operation ends with it, and leaves the entry with which it ended. -/
theorem State.finish_op_self {st : OpStatus} {a b : Nat} (hg : g < 128) (ho : (s.op g).status.isOpen = true)
    (ha : (s.op g).abort = .requested) (hs : st.isOpen = false) : (s.finish g st a b).op g = (s.op g).decided s.now st a b := by
  refine foldl_keeps (P := fun v : State => v.op g = (s.op g).decided s.now st a b) (State.finishOne_op_self hg ho ha) fun v j hv => ?_
  split
  · by_cases hj : g = j
    · subst hj
      rw [State.finishOne_of_closed (by rw [hv]; exact hs), hv]
    · rw [State.finishOne_op_ne hj, hv]
  · exact hv

/-! ### The objects that an operation writes as it ends (R405, R406, R412) -/

/-- The objects of operations, and those that count events lost by a partner's full queue. -/
def opObjects : List Nat :=
  [K.OP_ABORT_LAST, K.OP_ABORT_LOST, K.OP_DONE_MAP_LO, K.OP_DONE_MAP_HI] ++ eventObjects Ev.op

/-- An object that no operation writes as it ends: none of operations, and no event object, of which one may show a saturated count. -/
def OpSpares (key : Nat) : Prop := key ∉ opObjects ∧ State.evOfKey key = none

theorem State.raise_op_get {key k : Nat} (h : OpSpares key) : (s.raise Ev.op k).get key = s.get key :=
  State.raise_objectsKept key fun hk => h.1 (List.mem_append_right _ hk)

theorem State.loseAbort_get {key : Nat} (h : OpSpares key) : (s.loseAbort j).get key = s.get key := by
  obtain ⟨hk, he⟩ := id h
  simp only [opObjects, eventObjects, List.mem_append, List.mem_cons, List.not_mem_nil, or_false, not_or] at hk
  obtain ⟨⟨hlast, hlost, -, -⟩, -, hdropped, hnet⟩ := hk
  unfold State.loseAbort
  extract_lets e u v
  split
  · rw [State.raise_op_get h, State.bump_get_ne hlost he hdropped hnet]
    exact State.get_put_ne _ hlast _
  · rfl

theorem State.reportOp_get {key : Nat} {e : OpEntry} (h : OpSpares key) : (s.reportOp j e).get key = s.get key := by
  obtain ⟨hk, -⟩ := id h
  simp only [opObjects, List.mem_append, List.mem_cons, List.not_mem_nil, or_false, not_or] at hk
  obtain ⟨⟨-, -, hlo, hhi⟩, -⟩ := hk
  unfold State.reportOp
  extract_lets u v
  have hu : u.get key = s.get key := by
    unfold u
    split
    · exact State.get_put_ne _ hlo _
    · exact State.get_put_ne _ hhi _
  have hv : v.get key = s.get key := by
    unfold v
    split <;> rw [State.raise_op_get h, hu]
  split
  · exact hv
  · rw [State.raise_op_get h, hv]

theorem State.finishOne_get {key : Nat} {st : OpStatus} {a b : Nat} (h : OpSpares key) :
    (s.finishOne j st a b).get key = s.get key := by
  have hlast : key ≠ K.OP_ABORT_LAST := fun e => h.1 (e ▸ List.mem_cons_self)
  unfold State.finishOne
  extract_lets e u v
  have hu : u.get key = s.get key := by
    unfold u
    split
    · split
      · exact State.get_put_ne _ hlast _
      · rfl
    · exact State.loseAbort_get h
  split
  · rw [State.reportOp_get h]
    exact hu
  · rfl

theorem State.finish_get {key : Nat} {st : OpStatus} {a b : Nat} (h : OpSpares key) : (s.finish j st a b).get key = s.get key := by
  refine foldl_keeps (P := fun v : State => v.get key = s.get key) (State.finishOne_get h) fun v j hv => ?_
  split
  · rw [State.finishOne_get h, hv]
  · exact hv

theorem RAIL_VSET_opSpares : OpSpares (K.RAIL_VSET r) := by
  refine ⟨?_, ?_⟩
  · simp only [opObjects, eventObjects, Ev.op, List.mem_append, List.mem_cons, List.not_mem_nil, or_false, K.RAIL_VSET, K.OP_ABORT_LAST,
      K.OP_ABORT_LOST, K.OP_DONE_MAP_LO, K.OP_DONE_MAP_HI, K.OP_EVENT, K.NET_EVENTS_DROPPED, K.NET_EVENT]
    omega
  · revert r
    decide +kernel

/-! ### A new operation (R403) -/

theorem State.nextTag_lt (h : s.nextTag = some g) : g < 128 := by
  obtain ⟨k, -, hk⟩ := List.mem_map.1 (List.mem_of_find?_eq_some h)
  omega

theorem State.allocTag_of_next {kind : OpKind} {by_ : Issuer} {key : Nat} (h : s.nextTag = some g) :
    ∃ v, s.allocTag kind by_ key = some (v, g) ∧
      v.op g = { status := .running, kind := kind, issuer := by_, key := key, acceptedAt := s.now, reserved := true } := by
  unfold State.allocTag
  rw [h]
  refine ⟨_, rfl, ?_⟩
  extract_lets low
  split
  · rw [State.op_congr (State.raise_ops ..)]
    exact State.op_setOp_self (State.nextTag_lt h)
  · exact State.op_setOp_self (State.nextTag_lt h)

/-! ### Writes of `RAIL_CTRL` (R118, R193) -/

variable {acc : Accessor}

theorem State.writeRailCtrl_eq {v : Nat} (ha : s.Admits acc (K.RAIL_CTRL r) 1) (hi : s.installerUp acc = true) :
    s.writeRailCtrl acc r v =
      if s.modes.mode ≠ .service || s.modes.serviceLeaving || (s.rail r).st = .unbuilt ||
        (v = 1 && ((s.rail r).st ≠ .off || s.sup.quenchLatch)) then .error .modeForbids
      else if 1 < v then .error .outOfRange
      else if v = 1 then .ok (s.sendRail r .up, .done)
      else .ok (if (s.rail r).st = .off then s else s.sendRail r .down, .done) := by
  obtain ⟨-, d, hreach, hrole⟩ := ha
  unfold State.writeRailCtrl
  rw [State.writeVia_ok _ hreach hrole]
  exact if_neg (by simp [hi])

theorem State.sendRail_cmds {c : RailCmd} : ((s.sendRail r c).rail r).cmds = (s.rail r).cmds ++ [c] :=
  congrArg RailSt.cmds (State.rail_modRail_self ..)

theorem State.sendRail_otherRails {c : RailCmd} : OtherRailsKept r s (s.sendRail r c) := .modRail

/-! ### Writes of `RAIL_VSET` (R100) -/

/-- `RAIL_VSET` may take the value: the rail is built, the limits hold, and none of them is staged. -/
structure State.Takes (s : State) (acc : Accessor) (r : Fin 32) (mv : Nat) : Prop where
  admits : s.Admits acc (K.RAIL_VSET r) 2
  built : (s.rail r).st ≠ .unbuilt
  least : s.get (K.RAIL_VMIN r) ≤ mv
  most : (mv : Int) ≤ s.get (K.RAIL_VMAX r)
  free : s.commitStages [K.RAIL_VMIN r, K.RAIL_VMAX r] = false

/-- Where the rail rests, the write stores the value. -/
theorem State.writeRailVset_of_rest {mv : Nat} (h : s.Takes acc r mv) (hs : (s.rail r).st ∉ [.onDelay, .prebias, .rampUp, .up]) :
    s.writeRailVset acc r mv = .ok (s.put (K.RAIL_VSET r) mv, .done) := by
  obtain ⟨⟨-, d, hreach, hrole⟩, built, least, most, free⟩ := h
  unfold State.writeRailVset
  rw [State.writeVia_ok _ hreach hrole]
  simp only [if_neg built]
  rw [if_neg (by simp; omega), if_neg (by simp [free])]
  split <;> simp_all

/-- Where the rail comes up, the command goes to its tiles without a tag. -/
theorem State.writeRailVset_of_rising {mv : Nat} (h : s.Takes acc r mv) (hs : (s.rail r).st ∈ [.onDelay, .prebias, .rampUp]) :
    s.writeRailVset acc r mv = .ok ((s.put (K.RAIL_VSET r) mv).sendRail r (.volt mv none), .done) := by
  obtain ⟨⟨-, d, hreach, hrole⟩, built, least, most, free⟩ := h
  unfold State.writeRailVset
  rw [State.writeVia_ok _ hreach hrole]
  simp only [if_neg built]
  rw [if_neg (by simp; omega), if_neg (by simp [free])]
  split <;> simp_all

/-- Where the rail is up, a tagged transition starts. -/
theorem State.writeRailVset_of_up {mv : Nat} (h : s.Takes acc r mv) (hs : (s.rail r).st = .up) :
    s.writeRailVset acc r mv = s.withTag acc .railVoltage (K.RAIL_VSET r) fun s t =>
      (s.puts [(K.RAIL_VSET r, mv), (K.RAIL_VSET_TAG r, t)]).sendVoltage r mv (some t) := by
  obtain ⟨⟨-, d, hreach, hrole⟩, built, least, most, free⟩ := h
  unfold State.writeRailVset
  rw [State.writeVia_ok _ hreach hrole]
  simp only [if_neg built]
  rw [if_neg (by simp; omega), if_neg (by simp [free])]
  simp only [hs]

theorem State.sendVoltage_cmds {mv : Int} {tag : Option Nat} :
    ((s.sendVoltage r mv tag).rail r).cmds = (s.rail r).cmds ++ [.volt mv tag] := by
  unfold State.sendVoltage
  rw [State.rail_modRail_self, State.rail_congr State.returnAll_within.rails]
  exact State.sendRail_cmds

theorem State.sendVoltage_otherRails {mv : Int} {tag : Option Nat} : OtherRailsKept r s (s.sendVoltage r mv tag) :=
  (State.sendRail_otherRails.next State.returnAll_within).trans .modRail

/-- A tagged voltage transition starts (R100, R101): its tag is `g`, its target is stored, and its command is on its way. -/
structure StartsTransition (r : Fin 32) (mv g : Nat) (s t : State) : Prop where
  vset : t.get (K.RAIL_VSET r) = mv
  tag : t.get (K.RAIL_VSET_TAG r) = g
  cmds : (t.rail r).cmds = (s.rail r).cmds ++ [.volt mv (some g)]
  status : (t.op g).status = .running
  kind : (t.op g).kind = .railVoltage
  key : (t.op g).key = K.RAIL_VSET r
  rails : OtherRailsKept r s t

theorem State.writeRailVset_starts {mv : Nat} (h : s.Takes acc r mv) (hs : (s.rail r).st = .up) (hg : s.nextTag = some g) :
    ∃ t, s.writeRailVset acc r mv = .ok (t, .tag g) ∧ StartsTransition r mv g s t := by
  obtain ⟨v, hv, entry⟩ := State.allocTag_of_next (kind := .railVoltage) (by_ := s.issuerOf acc) (key := K.RAIL_VSET r) hg
  refine ⟨(v.puts [(K.RAIL_VSET r, mv), (K.RAIL_VSET_TAG r, g)]).sendVoltage r mv (some g), ?_, ?_⟩
  · rw [State.writeRailVset_of_up h hs, State.withTag, hv]
  · have alloc := State.allocTag_some_within hv
    have sent (x : State) : Within (parts [.phases, .rails]) x (x.sendVoltage r mv (some g)) := State.sendVoltage_within
    have op : ((v.puts [(K.RAIL_VSET r, mv), (K.RAIL_VSET_TAG r, g)]).sendVoltage r mv (some g)).op g = v.op g :=
      State.op_congr ((sent _).ops.trans (State.puts_ops ..))
    have puts : (v.puts [(K.RAIL_VSET r, (mv : Int)), (K.RAIL_VSET_TAG r, (g : Int))]).rails = s.rails :=
      (State.puts_rails ..).trans alloc.rails
    refine ⟨?_, ?_, ?_, ?_, ?_, ?_, ?_⟩
    · rw [State.get_congr ((sent _).same .objs rfl)]
      exact (State.get_put_ne _ (by simp) _).trans (State.get_put_self ..)
    · rw [State.get_congr ((sent _).same .objs rfl)]
      exact State.get_put_self ..
    · rw [State.sendVoltage_cmds, State.rail_congr puts]
    · rw [op, entry]
    · rw [op, entry]
    · rw [op, entry]
    · exact fun q hq => (State.sendVoltage_otherRails q hq).trans (State.rail_congr puts)

/-! ### A voltage command at its apply tick (R101) -/

theorem State.voltageTick_of_one {mv : Int} {tag : Option Nat} (h : (s.rail r).cmds = [.volt mv tag]) :
    s.voltageTick r = (s.dropCmd r (.volt mv tag)).applyVoltage r mv tag := by
  unfold State.voltageTick
  rw [State.takeCmd_of_find (c := .volt mv tag) (by rw [h]; rfl)]

theorem State.abortTick_of_one (h : (s.rail r).cmds = [.abort g]) :
    s.abortTick r = (s.dropCmd r (.abort g)).applyVoltAbort r g := by
  unfold State.abortTick
  rw [State.takeCmd_of_find (c := .abort g) (by rw [h]; rfl)]

/-- The only command of a rail leaves its queue empty. -/
theorem State.dropCmd_one {c : RailCmd} (h : (s.rail r).cmds = [c]) : (s.dropCmd r c).rail r = { s.rail r with cmds := [] } := by
  rw [State.dropCmd_rail, h, List.erase_cons_head]

/-- A rail that ramps up, with its reference on the way to a new target. -/
def State.retarget (s : State) (r : Fin 32) (mv : Int) : State :=
  (s.dropCmd r (.volt mv none)).modRail r (·.moveRef s.now (mv * 1000) (s.get (K.RAIL_SLEW_ON r)))

theorem State.retarget_rail {mv : Int} (h : (s.rail r).cmds = [.volt mv none]) :
    (s.retarget r mv).rail r = { s.rail r with cmds := [] }.moveRef s.now (mv * 1000) (s.get (K.RAIL_SLEW_ON r)) := by
  unfold State.retarget
  rw [State.rail_modRail_self, State.dropCmd_one h]

theorem State.retarget_otherRails {mv : Int} : OtherRailsKept r s (s.retarget r mv) := State.dropCmd_otherRails.trans .modRail

/-- The ramp is over where its reference stands at the new target. -/
theorem State.voltageTick_of_rampUp {mv : Int} (hc : (s.rail r).cmds = [.volt mv none]) (hs : (s.rail r).st = .rampUp) :
    s.voltageTick r = if (s.rail r).refAt s.now = mv * 1000 then (s.retarget r mv).enterUp r .up else s.retarget r mv := by
  have here : ((s.dropCmd r (.volt mv none)).rail r).st = .rampUp := by rw [State.dropCmd_one hc]; exact hs
  have moving : ((s.retarget r mv).rail r).moving = decide ((s.rail r).refAt s.now ≠ mv * 1000) := by
    rw [State.retarget_rail hc]
    rfl
  rw [State.voltageTick_of_one hc, State.applyVoltage]
  simp only [here]
  change (if ((s.retarget r mv).rail r).moving = true then s.retarget r mv else (s.retarget r mv).enterUp r .up) = _
  rw [moving]
  by_cases hr : (s.rail r).refAt s.now = mv * 1000 <;> simp [hr]

/-! ### An abort at its apply tick (R102, R406) -/

/-- A rail whose reference is held at `v` µV and that has no open transition. -/
def RailSt.heldAt (x : RailSt) (now : Nat) (v : Int) : RailSt :=
  { x.holdRef now with tag := none, ref := { v0 := v, t0 := now, target := v, slew := 0 }, moving := false }

/-- The open transition of rail `r` has tag `g`, and its abort is requested. -/
structure State.AbortDue (s : State) (r : Fin 32) (g : Nat) : Prop where
  tag : (s.rail r).tag = some g
  tagged : g < 128
  running : (s.op g).status = .running
  requested : (s.op g).abort = .requested

theorem State.AbortDue.isOpen (h : s.AbortDue r g) : (s.op g).status.isOpen = true := by rw [h.running]; rfl

theorem State.AbortDue.dropCmd {c : RailCmd} (h : s.AbortDue r g) : (s.dropCmd r c).AbortDue r g :=
  ⟨by rw [State.dropCmd_rail]; exact h.tag, h.tagged, h.running, h.requested⟩

/-- The transition has ended with a status, the rail has none any more, and the other rails are as they were. -/
structure EndsTransition (r : Fin 32) (g : Nat) (st : OpStatus) (v0 vset : Int) (s t : State) : Prop where
  moving : (t.rail r).moving = false
  tag : (t.rail r).tag = none
  v0 : (t.rail r).ref.v0 = v0
  vset : t.get (K.RAIL_VSET r) = vset
  status : (t.op g).status = st
  abort : (t.op g).abort = if st = .aborted then .won else .lost
  rails : OtherRailsKept r s t

/-- The abort holds the reference. -/
theorem State.applyVoltAbort_holds (h : s.AbortDue r g) (hm : (s.rail r).moving = false ∨ (s.rail r).refAt s.now ≠ (s.rail r).ref.target) :
    EndsTransition r g .aborted ((s.rail r).refAt s.now) ((s.rail r).refAt s.now / 1000) s (s.applyVoltAbort r g) := by
  have e : s.applyVoltAbort r g = ((s.modRail r (·.heldAt s.now ((s.rail r).refAt s.now))).put (K.RAIL_VSET r)
      ((s.rail r).refAt s.now / 1000)).finish g .aborted := by
    unfold State.applyVoltAbort
    rw [if_pos (by simp [h.tag, h.isOpen])]
    exact if_neg (by rcases hm with hm | hm <;> simp [hm])
  rw [e]
  generalize (s.rail r).refAt s.now = v
  set u := (s.modRail r (·.heldAt s.now v)).put (K.RAIL_VSET r) (v / 1000)
  have rails : (u.finish g .aborted).rails = (s.modRail r (·.heldAt s.now v)).rails := State.finish_rails ..
  have here : (u.finish g .aborted).rail r = (s.rail r).heldAt s.now v := (State.rail_congr rails).trans (State.rail_modRail_self ..)
  have op : (u.finish g .aborted).op g = (s.op g).decided s.now .aborted 0 0 :=
    State.finish_op_self h.tagged h.isOpen h.requested rfl
  refine ⟨?_, ?_, ?_, (State.finish_get RAIL_VSET_opSpares).trans (State.get_put_self ..), ?_, ?_, fun q hq => ?_⟩
  · rw [here]; rfl
  · rw [here]; rfl
  · rw [here]; rfl
  · rw [op]; rfl
  · rw [op]; rfl
  · exact (State.rail_congr rails).trans (State.rail_modRail_ne s hq _)

/-- A rail whose reference has stopped at its target. -/
def RailSt.arrived (x : RailSt) (now : Nat) : RailSt :=
  { x with ref := { x.ref with v0 := x.ref.target, t0 := now }, moving := false }

/-- Done wins where the reference stands at its target. -/
theorem State.applyVoltAbort_done (h : s.AbortDue r g) (hs : (s.rail r).st = .up) (hm : (s.rail r).moving = true)
    (hr : (s.rail r).refAt s.now = (s.rail r).ref.target) :
    EndsTransition r g .completed (s.rail r).ref.target (s.get (K.RAIL_VSET r)) s (s.applyVoltAbort r g) := by
  have e : s.applyVoltAbort r g =
      ((s.modRail r (·.arrived s.now)).finish g .completed).modRail r fun x => { x with tag := none } := by
    unfold State.applyVoltAbort
    rw [if_pos (by simp [h.tag, h.isOpen])]
    refine (if_pos (by simp [hm, hr])).trans ((if_pos hm).trans ?_)
    simp only [State.rail_modRail_self, hs, h.tag]
    rfl
  rw [e]
  set u := s.modRail r (·.arrived s.now)
  have here : ((u.finish g .completed).modRail r fun x => { x with tag := none }).rail r =
      { (s.rail r).arrived s.now with tag := none } := by
    rw [State.rail_modRail_self, State.rail_congr (State.finish_rails ..), State.rail_modRail_self]
  have op : ((u.finish g .completed).modRail r fun x => { x with tag := none }).op g = (s.op g).decided s.now .completed 0 0 :=
    (State.op_congr (State.modRail_ops ..)).trans (State.finish_op_self (s := u) h.tagged h.isOpen h.requested rfl)
  have vset : ((u.finish g .completed).modRail r fun x => { x with tag := none }).get (K.RAIL_VSET r) = s.get (K.RAIL_VSET r) := by
    rw [State.modRail_get, State.finish_get RAIL_VSET_opSpares, State.modRail_get]
  refine ⟨?_, ?_, ?_, vset, ?_, ?_, fun q hq => ?_⟩
  · rw [here]; rfl
  · rw [here]
  · rw [here]; rfl
  · rw [op]; rfl
  · rw [op]; rfl
  · exact ((State.rail_modRail_ne _ hq _).trans (State.rail_congr (State.finish_rails ..))).trans (State.rail_modRail_ne s hq _)

/-- Settles O12: a write sends or stores as its equation says; a voltage command moves the reference, and an abort ends the operation by
`State.finish_op_self`. -/
theorem railCommandsAndVoltage : Obligations.RailCommandsAndVoltage := by
  refine ⟨⟨fun acc r s ha hi hm hl hs hq => ?_, fun acc r s ha hi hm hl hb hs => ?_⟩, fun acc r s ha hi => ⟨fun hm => ?_, fun h => ?_⟩,
    fun acc r mv s ha hb hmin hmax hc hg => ?_, fun r mv s hc hs hr => ?_, fun r mv s hc hs hr => ?_,
    fun r g s hc ht hg hrun hreq => ⟨fun hs hm hr => ?_, fun hm => ?_⟩⟩
  · have hf : s.writeRailCtrl acc r 1 = .ok (s.sendRail r .up, .done) := by
      rw [State.writeRailCtrl_eq ha hi, if_neg (by simp [hm, hl, hs, hq])]
      rfl
    exact ⟨{ s.sendRail r .up with answer := .done }, exec_eq (State.access_ok _ ha.1 hf), State.sendRail_cmds, rfl,
      State.sendRail_otherRails, rfl⟩
  · have hf : s.writeRailCtrl acc r 0 = .ok (s.sendRail r .down, .done) := by
      rw [State.writeRailCtrl_eq ha hi, if_neg (by simp [hm, hl, hb]), if_neg (by decide), if_neg (by decide), if_neg hs]
    exact ⟨{ s.sendRail r .down with answer := .done }, exec_eq (State.access_ok _ ha.1 hf), State.sendRail_cmds, rfl,
      State.sendRail_otherRails, rfl⟩
  · have hf (v : Nat) : s.writeRailCtrl acc r v = .error .modeForbids := by
      rw [State.writeRailCtrl_eq ha hi, if_pos (by simp [hm])]
    exact ⟨exec_eq (State.access_error _ ha.1 (hf 1) (by decide)), exec_eq (State.access_error _ ha.1 (hf 0) (by decide))⟩
  · have hf : s.writeRailCtrl acc r 1 = .error .modeForbids := by
      rw [State.writeRailCtrl_eq ha hi, if_pos (by rcases h with h | h <;> simp [h])]
    exact exec_eq (State.access_error _ ha.1 hf (by decide))
  · have h : s.Takes acc r mv := ⟨ha, hb, hmin, hmax, hc⟩
    by_cases hup : (s.rail r).st = .up
    · obtain ⟨g, hg⟩ := Option.ne_none_iff_exists'.1 hg
      obtain ⟨t, hf, ht⟩ := State.writeRailVset_starts h hup hg
      exact ⟨{ t with answer := .tag g }, exec_eq (State.access_ok _ ha.1 hf), ht.vset, ht.rails,
        fun _ => ⟨g, hg, rfl, ht.tag, ht.cmds, ht.status, ht.kind, ht.key⟩, fun hoff => by rw [hoff] at hup; cases hup⟩
    · by_cases hrise : (s.rail r).st ∈ [.onDelay, .prebias, .rampUp]
      · refine ⟨_, exec_eq (State.access_ok _ ha.1 (State.writeRailVset_of_rising h hrise)), State.get_put_self .., ?_,
          fun hs => absurd hs hup, fun hs => ?_⟩
        · exact fun q hq => State.sendRail_otherRails (s := s.put (K.RAIL_VSET r) mv) q hq
        · rw [hs] at hrise
          exact absurd hrise (by decide)
      · refine ⟨{ s.put (K.RAIL_VSET r) mv with answer := .done }, exec_eq (State.access_ok _ ha.1 (State.writeRailVset_of_rest h ?_)),
          State.get_put_self .., fun _ _ => rfl,
          fun hs => absurd hs hup, fun _ => ⟨rfl, rfl, fun key hk => State.get_put_ne _ (by simpa using hk) _⟩⟩
        simp only [List.mem_cons, List.not_mem_nil, or_false] at hrise ⊢
        tauto
  · refine ⟨_, exec_eq ((State.voltageTick_of_rampUp hc hs).trans (if_neg hr)), ?_, ?_, ?_, ?_, ?_, ?_, State.retarget_otherRails, rfl⟩ <;>
      rw [State.retarget_rail hc]
    · exact hs
    all_goals rfl
  · have h : ComesUp r .up (s.retarget r mv) _ := State.enterUp_holds
    refine ⟨_, exec_eq ((State.voltageTick_of_rampUp hc hs).trans (if_pos hr)), ?_, ?_, ?_, ?_, h.shows,
      State.retarget_otherRails.trans h.rails, h.objects⟩ <;> rw [h.rail, State.retarget_rail hc]
    · rfl
    · exact decide_eq_false (not_not.2 hr)
    · exact hr
    · rfl
  · have one := State.dropCmd_one hc
    have due : s.AbortDue r g := ⟨ht, hg, hrun, hreq⟩
    have h := State.applyVoltAbort_done (due.dropCmd (c := .abort g)) (by rw [one]; exact hs) (by rw [one]; exact hm) (by rw [one]; exact hr)
    refine ⟨_, exec_eq (State.abortTick_of_one hc), h.moving, h.tag, h.v0.trans ?_, h.vset, h.status, h.abort,
      State.dropCmd_otherRails.trans h.rails⟩
    rw [one]
  · have one := State.dropCmd_one hc
    have due : s.AbortDue r g := ⟨ht, hg, hrun, hreq⟩
    have same : ((s.dropCmd r (.abort g)).rail r).refAt s.now = (s.rail r).refAt s.now := by rw [one]; rfl
    have h := State.applyVoltAbort_holds (due.dropCmd (c := .abort g)) (by rw [one]; exact hm)
    exact ⟨_, exec_eq (State.abortTick_of_one hc), h.moving, h.tag, h.v0.trans same, h.vset.trans (congrArg (· / 1000) same), h.status,
      h.abort, State.dropCmd_otherRails.trans h.rails⟩

end Sys2Proof.Machine
end

section
/-! Coil rails and the AUX outputs (R113–R117, R178). -/

set_option Elab.async false

namespace Sys2Proof.Machine

variable {s t u : State} {F : Parts} {r : Fin 32} {j k : Fin 4}

/-! ### Objects of the AUX outputs -/

/-- An object that no move of an AUX output writes. -/
def AuxSpares (key : Nat) : Prop := (∀ j : Fin 4, key ≠ K.AUX_I j ∧ key ≠ K.AUX_LOSS j) ∧ key ≠ K.AUX_VPRE

theorem AUX_EN_auxSpares : AuxSpares (K.AUX_EN k) :=
  ⟨fun j => by simp only [K.AUX_EN, K.AUX_I, K.AUX_LOSS]; omega, by simp only [K.AUX_EN, K.AUX_VPRE]; omega⟩

theorem AUX_EVENT_auxSpares : AuxSpares (Ev.aux k).key :=
  ⟨fun j => by simp only [Ev.aux, K.AUX_EVENT, K.AUX_I, K.AUX_LOSS]; omega, by simp only [Ev.aux, K.AUX_EVENT, K.AUX_VPRE]; omega⟩

theorem SUP_EVENT_auxSpares : AuxSpares Ev.sup.key :=
  ⟨fun j => by simp only [Ev.sup, K.SUP_EVENT, K.AUX_I, K.AUX_LOSS]; omega, by decide⟩

theorem State.auxOpen_get {key : Nat} (h : AuxSpares key) : (s.auxOpen k).get key = s.get key := by
  obtain ⟨hi, hl⟩ := h.1 k
  exact (State.get_put_ne _ hl _).trans (State.get_put_ne _ hi _)

theorem State.setVpre_get {key : Nat} (h : AuxSpares key) : s.setVpre.get key = s.get key := State.get_put_ne _ h.2 _

/-! ### Outputs go on and off (R44, R116) -/

/-- What a change of one output leaves as it is of that output, it leaves of every output. -/
theorem State.modAux_aux_keeps {α : Type} (g : AuxSt → α) {f : AuxSt → AuxSt} (h : ∀ x, g (f x) = g x) :
    g ((s.modAux k f).aux j) = g (s.aux j) := by
  by_cases hj : j = k
  · rw [hj, State.aux_modAux_self, h]
  · rw [State.aux_modAux_ne s hj]

/-- What holds an output off: nothing that its ramp or its opening changes. -/
def AuxSt.holds (x : AuxSt) : Bool × Bool × Bool := (x.autoOff, x.forcedOff, x.heldOff)

theorem State.auxOpen_aux : (s.auxOpen k).auxs = (s.modAux k fun x => { x with st := .off, ramp := false, pg := false }).auxs :=
  State.puts_auxs ..

/-- One output is brought to what it is asked to be. -/
def State.turnAux (s : State) (k : Fin 4) : State :=
  let on := decide ((s.aux k).st ≠ .off)
  if s.auxWanted k && !on then s.auxRamp k
  else if !s.auxWanted k && on then s.auxOpen k
  else s

theorem State.refreshAux_eq : s.refreshAux = ((List.finRange 4).foldl State.turnAux s).setVpre := rfl

theorem State.turnAux_modes : (s.turnAux k).modes = s.modes := by
  unfold State.turnAux
  exact (Within.ite State.auxRamp_within.sub (.ite State.auxOpen_within .refl) : Within (parts [.objs, .auxs]) s _).modes

theorem State.turnAux_get {key : Nat} (h : AuxSpares key) : (s.turnAux k).get key = s.get key := by
  unfold State.turnAux
  extract_lets on
  split
  · rfl
  · split
    · exact State.auxOpen_get h
    · rfl

/-- A turn of an output leaves what holds it off. -/
theorem State.turnAux_holds : ((s.turnAux k).aux j).holds = (s.aux j).holds := by
  unfold State.turnAux
  extract_lets on
  split
  · exact State.modAux_aux_keeps AuxSt.holds fun _ => rfl
  · split
    · rw [State.aux_congr State.auxOpen_aux]
      exact State.modAux_aux_keeps AuxSt.holds fun _ => rfl
    · rfl

theorem State.refreshAux_get {key : Nat} (h : AuxSpares key) : s.refreshAux.get key = s.get key := by
  rw [State.refreshAux_eq, State.setVpre_get h]
  exact foldl_keeps (P := fun v : State => v.get key = s.get key) rfl fun v x hv => (State.turnAux_get h).trans hv

/-- An output that is asked for by `AUX_EN` where the outputs run (R44, R116, R178). -/
structure State.Enables (s : State) (k : Fin 4) : Prop where
  mode : s.auxMode = true
  awake : s.modes.mode ≠ .dormant
  enabled : s.flag (K.AUX_EN k) = true
  forced : (s.aux k).forcedOff = false
  held : (s.aux k).heldOff = false

theorem State.Enables.wanted (h : s.Enables k) : s.auxWanted k = true := by
  unfold State.auxWanted State.auxAsked
  rw [if_neg h.awake]
  simp [h.mode, h.enabled, h.forced, h.held]

theorem State.Enables.turnAux (h : s.Enables k) : (s.turnAux j).Enables k := by
  have modes := State.turnAux_modes (s := s) (k := j)
  have holds := State.turnAux_holds (s := s) (k := j) (j := k)
  simp only [AuxSt.holds, Prod.mk.injEq] at holds
  obtain ⟨-, forced, held⟩ := holds
  refine ⟨?_, ?_, ?_, ?_, ?_⟩
  · rw [State.auxMode, modes]
    exact h.mode
  · rw [modes]
    exact h.awake
  · rw [State.flag, State.turnAux_get AUX_EN_auxSpares]
    exact h.enabled
  · rw [forced, h.forced]
  · rw [held, h.held]

theorem State.turnAux_on (h : s.Enables k) : ((s.turnAux k).aux k).st ≠ .off := by
  unfold State.turnAux
  rw [h.wanted]
  by_cases ho : (s.aux k).st = .off
  · simp [ho, State.auxRamp]
  · simp [ho]

theorem State.turnAux_aux_ne (h : j ≠ k) : (s.turnAux k).aux j = s.aux j := by
  unfold State.turnAux
  extract_lets on
  split
  · exact State.aux_modAux_ne s h _
  · split
    · exact (State.aux_congr State.auxOpen_aux).trans (State.aux_modAux_ne s h _)
    · rfl

/-- An output that is enabled is on. -/
theorem State.refreshAux_on (h : s.Enables k) : (s.refreshAux.aux k).st ≠ .off := by
  rw [State.refreshAux_eq, State.aux_congr State.setVpre_within.auxs]
  refine foldl_reaches (I := fun v => v.Enables k) (Q := fun v => (v.aux k).st ≠ .off) (List.mem_finRange k) h
    (fun _ _ => State.Enables.turnAux) (fun _ => State.turnAux_on) fun v j hv hk => ?_
  by_cases hj : k = j
  · subst hj
    exact State.turnAux_on hv
  · rw [State.turnAux_aux_ne hj]
    exact hk

/-! ### VPRE (R115) -/

theorem le_foldl_max {x a : Int} {l : List Int} (h : x ∈ l ∨ x ≤ a) : x ≤ l.foldl max a := by
  induction l generalizing a with
  | nil => exact h.resolve_left List.not_mem_nil
  | cons y l ih =>
    refine ih ?_
    rcases h with h | h
    · rcases List.mem_cons.1 h with rfl | h
      · exact .inr (le_max_right ..)
      · exact .inl h
    · exact .inr (h.trans (le_max_left ..))

theorem State.setVpre_get_vpre :
    s.setVpre.get K.AUX_VPRE = max 1200 ((s.auxOn.map fun k : Fin 4 => s.get (K.AUX_VSET k)).foldl max 0 + 400) := by
  unfold State.setVpre
  rw [State.get_put_self]
  simp [← List.map_eq_flatMap, Function.comp_def]

theorem State.vpre_ge : 1200 ≤ s.setVpre.get K.AUX_VPRE := by
  rw [State.setVpre_get_vpre]
  omega

/-- VPRE lies 400 mV above the set voltage of each output that is on. -/
theorem State.vset_le_vpre (h : (s.aux k).st ≠ .off) : s.get (K.AUX_VSET k) + 400 ≤ s.setVpre.get K.AUX_VPRE := by
  have hk : k ∈ s.auxOn := List.mem_filter.2 ⟨List.mem_finRange k, by simp [h]⟩
  have hm : s.get (K.AUX_VSET k) ≤ (s.auxOn.map fun k : Fin 4 => s.get (K.AUX_VSET k)).foldl max 0 :=
    le_foldl_max (.inl (List.mem_map_of_mem hk))
  rw [State.setVpre_get_vpre]
  omega

/-! ### The writes (R116) -/

variable {acc : Accessor}

/-- The output after a write of `AUX_EN`. -/
def AuxSt.asked (x : AuxSt) (on : Bool) : AuxSt :=
  if on then { x with forcedOff := false, heldOff := false } else { x with autoOff := true }

theorem State.writeAuxEn_ok {on : Bool} (ha : s.Admits acc (K.AUX_EN k) 1) (hm : s.modes.mode ≠ .failsafe) :
    s.writeAuxEn acc k on.toNat = .ok (((s.put (K.AUX_EN k) on.toNat).modAux k (·.asked on)).refreshAux, .done) := by
  obtain ⟨-, d, hreach, hrole⟩ := ha
  unfold State.writeAuxEn
  rw [State.writeVia_ok _ hreach hrole]
  cases on <;> simp [hm, AuxSt.asked]

theorem State.auxMode_of_portsOpen (h : s.portsOpen = true) (hm : s.modes.mode ≠ .failsafe) :
    s.auxMode = true ∧ s.modes.mode ≠ .dormant := by
  unfold State.portsOpen at h
  unfold State.auxMode
  cases hs : s.modes.mode <;> simp_all

/-- The write stores the value, and an output that it enables is on. -/
theorem State.writeAuxEn_holds {on : Bool} (ha : s.Admits acc (K.AUX_EN k) 1) (hm : s.modes.mode ≠ .failsafe) :
    ∃ t, s.writeAuxEn acc k on.toNat = .ok (t, .done) ∧ t.get (K.AUX_EN k) = on.toNat ∧ (on = true → (t.aux k).st ≠ .off) ∧
      Within (parts [.objs, .auxs]) s t := by
  refine ⟨_, State.writeAuxEn_ok ha hm, ?_, fun ho => ?_, ?_⟩
  · rw [State.refreshAux_get AUX_EN_auxSpares, State.modAux_get, State.get_put_self]
  · obtain ⟨mode, awake⟩ := State.auxMode_of_portsOpen ha.1 hm
    subst ho
    refine State.refreshAux_on ⟨?_, ?_, ?_, ?_, ?_⟩
    · exact mode
    · exact awake
    · rw [State.flag, State.modAux_get, State.get_put_self]
      rfl
    · rw [State.aux_modAux_self]
      rfl
    · rw [State.aux_modAux_self]
      rfl
  · exact ((State.put_plain (keyParts_of_range (by unfold K.AUX_EN; omega))).sub.next State.modAux_within).next State.refreshAux_within

theorem State.writeAuxVset_ok {mv : Nat} (ha : s.Admits acc (K.AUX_VSET k) 2) (hlo : 800 ≤ mv) (hhi : mv ≤ 3300) (hs : mv % 50 = 0) :
    s.writeAuxVset acc k mv = .ok
      ((if (s.aux k).st = .off then s.put (K.AUX_VSET k) mv else (s.put (K.AUX_VSET k) mv).auxRamp k).setVpre, .done) := by
  obtain ⟨-, d, hreach, hrole⟩ := ha
  unfold State.writeAuxVset
  rw [State.writeVia_ok _ hreach hrole]
  exact if_neg (by simp [hs]; omega)

/-- The write stores the value, and nothing else but VPRE; an output that is on moves there. -/
structure MovesAux (k : Fin 4) (mv : Nat) (s t : State) : Prop where
  vset : t.get (K.AUX_VSET k) = mv
  on : (s.aux k).st ≠ .off → (t.aux k).st = .ramping ∧ mv + 400 ≤ t.get K.AUX_VPRE
  vpre : 1200 ≤ t.get K.AUX_VPRE
  others : ∀ j, j ≠ k → t.aux j = s.aux j
  objects : ObjectsKept s t [K.AUX_VSET k, K.AUX_VPRE]
  parts : Within (parts [.objs, .auxs]) s t

theorem State.moveAux_holds {mv : Nat} :
    MovesAux k mv s (if (s.aux k).st = .off then s.put (K.AUX_VSET k) mv else (s.put (K.AUX_VSET k) mv).auxRamp k).setVpre := by
  have hp : Within (Sys2Proof.Machine.parts [.objs, .auxs]) s (s.put (K.AUX_VSET k) mv) :=
    (State.put_plain (keyParts_of_range (by unfold K.AUX_VSET; omega))).sub
  have set {u : State} (hu : u.objs = (s.put (K.AUX_VSET k) mv).objs) : u.setVpre.get (K.AUX_VSET k) = mv := by
    rw [State.setVpre, State.get_put_ne _ (by simp only [K.AUX_VSET, K.AUX_VPRE]; omega), State.get_congr hu, State.get_put_self]
  have kept {u : State} (hu : u.objs = (s.put (K.AUX_VSET k) mv).objs) : ObjectsKept s u.setVpre [K.AUX_VSET k, K.AUX_VPRE] := by
    intro key hk
    simp only [List.mem_cons, List.not_mem_nil, or_false, not_or] at hk
    rw [State.setVpre, State.get_put_ne _ hk.2, State.get_congr hu, State.get_put_ne _ hk.1]
  split
  · rename_i ho
    exact ⟨set rfl, fun h => absurd ho h, State.vpre_ge, fun _ _ => rfl, kept rfl, hp.next State.setVpre_within⟩
  · refine ⟨set rfl, fun _ => ⟨?_, ?_⟩, State.vpre_ge, fun j hj => ?_, kept rfl, (hp.next State.auxRamp_within).next State.setVpre_within⟩
    · rw [State.aux_congr State.setVpre_within.auxs, State.auxRamp, State.aux_modAux_self]
    · have h := State.vset_le_vpre (s := (s.put (K.AUX_VSET k) mv).auxRamp k) (k := k) (by rw [State.auxRamp, State.aux_modAux_self]; nofun)
      rwa [State.auxRamp, State.modAux_get, State.get_put_self] at h
    · rw [State.aux_congr State.setVpre_within.auxs, State.auxRamp, State.aux_modAux_ne _ hj]
      rfl

/-! ### PG of an output (R116) -/

/-- An output past its ramp declares PG at 95 % of its set voltage, and nothing else of the outputs changes. -/
structure JudgesPg (k : Fin 4) (v : Int) (s t : State) : Prop where
  st : (t.aux k).st = (s.aux k).st
  ramp : (t.aux k).ramp = (s.aux k).ramp
  pg : (s.aux k).st = .on ∨ (s.aux k).st = .limit ∧ (s.aux k).ramp = false → (s.aux k).pg = false →
    95 * s.get (K.AUX_VSET k) ≤ 100 * v → (t.aux k).pg = true ∧ t.Shows (Ev.aux k) 0
  others : ∀ j, j ≠ k → t.aux j = s.aux j
  objects : ObjectsKept s t (eventObjects (Ev.aux k))

theorem State.auxPg_holds {v : Int} : JudgesPg k v s (s.auxPg k v) := by
  unfold State.auxPg
  extract_lets x
  split
  · have here : ((s.modAux k fun x => { x with pg := true }).raise (Ev.aux k) 0).aux k = { s.aux k with pg := true } := by
      rw [State.aux_congr (State.raise_auxs ..), State.aux_modAux_self]
    refine ⟨by rw [here], by rw [here], fun _ _ _ => ⟨by rw [here], State.raise_aux_shows⟩, fun j hj => ?_, State.raise_objectsKept⟩
    rw [State.aux_congr (State.raise_auxs ..), State.aux_modAux_ne s hj]
  · rename_i hn
    refine ⟨rfl, rfl, fun hp hg hv => absurd ?_ hn, fun _ _ => rfl, fun _ _ => rfl⟩
    rcases hp with hp | ⟨hp, hr⟩
    · simp [x, hp, hg, hv]
    · simp [x, hp, hr, hg, hv]

/-! ### LOSS_HIGH (R115) -/

theorem State.auxLossSum_eq : s.auxLossSum =
    s.get (K.AUX_LOSS 0) + s.get (K.AUX_LOSS 1) + s.get (K.AUX_LOSS 2) + s.get (K.AUX_LOSS 3) := by
  simp [State.auxLossSum, List.finRange_succ, add_assoc]

theorem State.auxLossHigh_shows (h : 600 < s.auxLossSum) (hk : (s.aux k).st ≠ .off) : s.auxLossHigh.Shows (Ev.aux k) 4 := by
  unfold State.auxLossHigh
  rw [if_neg (not_le.2 h)]
  exact foldl_reaches (I := fun _ => True) (Q := fun v => v.Shows (Ev.aux k) 4)
    (List.mem_filter.2 ⟨List.mem_finRange k, by simp [hk]⟩) trivial (fun _ _ _ => trivial) (fun _ _ => State.raise_aux_shows)
    fun _ _ _ => State.raise_keeps_shows Ev.aux_key_ne_dropped

/-! ### An AUX over-current in IDLE (R117, R178) -/

/-- An output that a fault in IDLE has opened and keeps off. -/
def AuxSt.shut (x : AuxSt) : Prop := x.st = .off ∧ x.forcedOff = true ∧ x.autoOff = true

theorem State.idleFault_shut {tr : Trigger} {thermal : Bool} : ((s.idleFault tr thermal).aux k).shut := by
  unfold State.idleFault
  extract_lets u
  rw [State.aux_congr State.setVpre_within.auxs]
  refine foldl_reaches (I := fun _ => True) (Q := fun v => (v.aux k).shut) (List.mem_finRange k) trivial (fun _ _ _ => trivial)
    (fun v _ => ?_) fun v j _ hv => ?_
  · rw [State.aux_modAux_self, State.aux_congr State.auxOpen_aux, State.aux_modAux_self]
    exact ⟨rfl, rfl, rfl⟩
  · by_cases hj : k = j
    · subst hj
      rw [State.aux_modAux_self, State.aux_congr State.auxOpen_aux, State.aux_modAux_self]
      exact ⟨rfl, rfl, rfl⟩
    · rw [State.aux_modAux_ne _ hj, State.aux_congr State.auxOpen_aux, State.aux_modAux_ne _ hj]
      exact hv

/-- The moves of the outputs after the snapshot leave what shows. -/
theorem State.idleFault_shows {tr : Trigger} {thermal : Bool} {e : EventObj} {b : Nat} (he : AuxSpares e.key)
    (h : (s.snapNow tr false).Shows e b) : (s.idleFault tr thermal).Shows e b := by
  unfold State.idleFault
  extract_lets u
  refine State.Shows.congr ?_ (State.setVpre_get he)
  exact foldl_keeps (P := fun v : State => v.Shows e b) h fun v j hv => hv.congr (State.auxOpen_get he)

theorem State.snapNow_shows {tr : Trigger} {manual : Bool} : (s.snapNow tr manual).Shows Ev.sup 1 :=
  State.raise_bit _ Ev.sup 1 rfl (by decide)

theorem State.writeSnap_get {key : Nat} {c : SnapCore} {at_ : Nat} {tr : Trigger} {est : Bool} {rec : Bytes} {secs : List (Nat × Trigger)}
    (h : key ≠ K.SUP_SNAP_SEQ) : (s.writeSnap c at_ tr est rec secs).1.get key = s.get key := by
  unfold State.writeSnap
  exact (State.get_put_ne _ h _).trans (State.get_congr (State.writeMram_within.same .objs rfl))

/-- A snapshot clears no bit of an event object. -/
theorem State.snapNow_keeps_shows {tr : Trigger} {manual : Bool} {e : EventObj} {b : Nat} (he : e.key ≠ K.SUP_SNAP_SEQ)
    (hd : e.key ≠ K.NET_EVENTS_DROPPED) (h : s.Shows e b) : (s.snapNow tr manual).Shows e b := by
  unfold State.snapNow
  split
  rename_i c u core
  have hu : u.get e.key = s.get e.key := State.get_congr ((State.snapCore_within.of_snd core).same .objs rfl)
  exact State.raise_keeps_shows hd (h.congr ((State.writeSnap_get he).trans hu))

theorem State.auxOverCurrent_of_idle (hm : s.modes.mode = .idle) (hr : s.ramping = false) (hl : s.anyRailLive = false)
    (hk : (s.aux k).st ≠ .off) :
    s.auxOverCurrent k = ((s.raise (Ev.aux k) 3).idleFault ⟨0x07, .aux, k.val, 0⟩ false).raise Ev.sup 8 := by
  have hf : (s.raise (Ev.aux k) 3).faultMode = false := by
    simp only [State.faultMode, State.ramping, State.anyRailLive, State.raise_modes, State.raise_seq, State.raise_rails, hm]
    exact Bool.or_eq_false_iff.2 ⟨hr, hl⟩
  unfold State.auxOverCurrent
  rw [if_neg hk]
  simp only [hf, State.raise_modes, hm, if_true, Bool.false_eq_true, if_false]

/-! ### The clauses together (O15) -/

/-- Settles O15: coil rails come up and go off as the chains have it; the outputs by the equations of their writes. -/
theorem coilRailsAndAuxOutputs : Obligations.CoilRailsAndAuxOutputs := by
  refine ⟨⟨fun r s hs => ?_, fun r s hs hm => ?_, fun r s hs hm hc hi => ?_⟩,
    ⟨fun acc k on s ha hm => ?_, fun acc k mv s ha hlo hhi hv => ?_, fun k v s hs => ?_, fun k v s hs hr hp => ?_, fun k v s hs hv => ?_,
      fun s hs => ?_⟩, fun k s hm hr hl hk => ?_⟩
  · have h := State.enterUp_holds (s := s) (r := r) (st := .hold)
    refine ⟨_, exec_eq (if_pos hs), ?_, h.shows, h.rails, h.objects⟩
    rw [h.rail]
    rfl
  · have h := State.enterOff_holds (s := s) (r := r)
    refine ⟨_, exec_eq (if_pos ?_), h.st, h.shows, h.rails⟩
    simp [State.coilRelease, hs, hm]
  · refine ⟨_, exec_eq (if_pos ?_), State.raise_rail_shows, (State.raise_plain (by simp)).reportsOnly, State.raise_objectsKept⟩
    simp [State.coilIsOpen, hs, hm, hc, hi]
  · obtain ⟨t, hf, en, on, parts⟩ := State.writeAuxEn_holds (on := on) ha hm
    exact ⟨{ t with answer := .done }, exec_eq (State.access_ok _ ha.1 hf), en, rfl, on,
      congrArg (fun x : State => { x with answer := .done }) parts.eq_withAuxs⟩
  · have h := State.moveAux_holds (s := s) (k := k) (mv := mv)
    have hf := State.writeAuxVset_ok ha hlo hhi hv
    generalize State.setVpre _ = t at h hf
    exact ⟨{ t with answer := .done }, exec_eq (State.access_ok _ ha.1 hf), h.vset, rfl,
      fun ho => ⟨(h.on ho).1, (h.on ho).2, h.vpre⟩, h.others, h.objects,
      congrArg (fun x : State => { x with answer := .done }) h.parts.eq_withAuxs⟩
  · have h := State.auxPg_holds (s := s.modAux k fun x => { x with st := .on }) (k := k) (v := v)
    have e : s.auxRampDone k v = (s.modAux k fun x => { x with st := .on }).auxPg k v := by simp only [State.auxRampDone, hs]
    refine ⟨_, exec_eq e, ?_, fun hp hv => h.pg (.inl ?_) ?_ hv, h.objects, fun j hj => ?_⟩
    · rw [h.st, State.aux_modAux_self]
    · rw [State.aux_modAux_self]
    · rw [State.aux_modAux_self, hp]
    · rw [h.others j hj, State.aux_modAux_ne s hj]
  · have h := State.auxPg_holds (s := s.modAux k fun x => { x with ramp := false }) (k := k) (v := v)
    have e : s.auxRampDone k v = (s.modAux k fun x => { x with ramp := false }).auxPg k v := by simp only [State.auxRampDone, hs, hr]
    refine ⟨_, exec_eq e, ?_, ?_, h.pg (.inr ?_) ?_, fun j hj => ?_⟩
    · rw [h.st, State.aux_modAux_self, hs]
    · rw [h.ramp, State.aux_modAux_self]
    · rw [State.aux_modAux_self]
      exact ⟨hs, rfl⟩
    · rw [State.aux_modAux_self, hp]
    · rw [h.others j hj, State.aux_modAux_ne s hj]
  · refine ⟨_, exec_eq (if_pos ?_), State.raise_aux_shows, (State.raise_plain (by simp)).reportsOnly, State.raise_objectsKept⟩
    simp [hs, hv]
  · rw [← State.auxLossSum_eq] at hs
    exact ⟨_, rfl, fun k hk => State.auxLossHigh_shows hs hk, State.auxLossHigh_within.reportsOnly⟩
  · refine ⟨_, exec_eq (State.auxOverCurrent_of_idle hm hr hl hk), ?_, ?_, fun j => ?_, ?_, ?_, State.raise_bit _ Ev.sup 8 rfl (by decide)⟩
    · rw [State.raise_modes, State.idleFault_within.modes, State.raise_modes]
    · rw [State.raise_rails, State.idleFault_within.rails, State.raise_rails]
    · rw [State.aux_congr (State.raise_auxs ..)]
      exact State.idleFault_shut
    · exact State.raise_keeps_shows Ev.aux_key_ne_dropped (State.idleFault_shows AUX_EVENT_auxSpares
        (State.snapNow_keeps_shows (by simp only [Ev.aux, K.AUX_EVENT, K.SUP_SNAP_SEQ]; omega) Ev.aux_key_ne_dropped State.raise_aux_shows))
    · exact State.raise_keeps_shows (by decide) (State.idleFault_shows SUP_EVENT_auxSpares State.snapNow_shows)

end Sys2Proof.Machine
end

section
/-! The ledger: its fast limit, its caps on rails, and the energy accounts (R133–R140). -/

set_option Elab.async false

namespace Sys2Proof.Machine

variable {s t u : State} {F : Parts} {q r : Fin 32}

/-! ### A state that changes in what the ledger moves is the state with that -/

/-- The parts that caps on rails and the accounts may change, and the answer. -/
def capParts : Parts := parts [.objs, .ints, .net, .answer, .rails, .ledger]

/-- `s` with these parts of `t`. -/
def State.withCapParts (s t : State) : State :=
  { s with objs := t.objs, ints := t.ints, net := t.net, answer := t.answer, rails := t.rails, ledger := t.ledger }

theorem Within.eq_withCapParts (h : Within capParts s t) : t = s.withCapParts t := by
  have keep (x : Part) (hx : capParts.testBit x.ctorIdx = false) (k : x.same s t → x.same (s.withCapParts t) t) :
      x.same (s.withCapParts t) t := k (h.same x hx)
  refine State.eq_of_same h.queue fun x => ?_
  cases x
  case objs | ints | net | answer | rails | ledger => rfl
  case events => exact fun _ _ _ hj => hj
  case wakeSource | wakeEnable | fsRetryCount | fsRetryAt | fsCause | resetCause | tbSource | bootResult | sealStage | faultShown | seqFault
      | habState => exact fun _ _ => rfl
  all_goals exact keep _ rfl id

/-- The ledger, its caps on rails, and events change. -/
theorem Within.eq_withCaps (h : Within (parts [.objs, .ints, .rails, .net, .ledger]) s t) :
    t = { s with ledger := t.ledger, rails := t.rails, objs := t.objs, ints := t.ints, net := t.net } := by
  have e := (h.sub (F := capParts)).eq_withCapParts
  rw [State.withCapParts, h.same .answer rfl] at e
  exact e

/-- The ledger and its accounts change, for an access that answers. -/
theorem Within.eq_withAccounts (h : Within (parts [.objs, .ledger, .answer]) s t) :
    t = { s with objs := t.objs, ledger := t.ledger, answer := t.answer } := by
  have e := (h.sub (F := capParts)).eq_withCapParts
  rw [State.withCapParts, h.rails, h.same .ints rfl, h.same .net rfl] at e
  exact e

/-! ### Events that stay (R396, R409) -/

theorem State.raise_ledger_shows {k : Nat} : (s.raise Ev.ledger k).Shows Ev.ledger k := State.raise_bit _ Ev.ledger k rfl (by decide)

/-- An event that may have to wait clears no bit of an event object. -/
theorem State.raiseLater_keeps_shows {e d : EventObj} {j k : Nat} (hd : d.key ≠ K.NET_EVENTS_DROPPED) (h : s.Shows d j) :
    (s.raiseLater e k).Shows d j := by
  unfold State.raiseLater
  split
  · exact State.raise_keeps_shows hd h
  · exact h.congr (State.get_congr (State.defer_within.same .objs rfl))

/-- A count clears no bit of an event object. -/
theorem State.bump_keeps_shows {e : EventObj} {j key : Nat} (hk : e.key ≠ key) (hd : e.key ≠ K.NET_EVENTS_DROPPED) (h : s.Shows e j) :
    (s.bump key).Shows e j := by
  have ha : (s.addSat key 1).1.Shows e j := h.congr (State.get_put_ne _ hk _)
  unfold State.bump
  split
  · rename_i v hv
    rw [hv] at ha
    exact ha
  · rename_i v hv
    rw [hv] at ha
    split
    · exact State.raiseLater_keeps_shows hd ha
    · exact ha

/-! ### A fast trip (R137) -/

/-- What stands through a trip once LEDGER_FAST has been raised: the event, and the estimate that tripped. -/
structure Tripping (e : Int) (s : State) : Prop where
  lastFast : s.ledger.lastFast = e
  shows : s.Shows Ev.ledger 5

namespace Tripping

variable {e : Int}

theorem raise {d : EventObj} {k : Nat} (h : Tripping e s) : Tripping e (s.raise d k) :=
  ⟨by rw [State.raise_ledger, h.lastFast], State.raise_keeps_shows (by decide) h.shows⟩

theorem ite {c : Prop} [Decidable c] (h : Tripping e s) (h' : Tripping e t) : Tripping e (if c then s else t) := by
  split
  · exact h
  · exact h'

/-- A change of state that leaves the objects and the estimate. -/
theorem next (h : Tripping e s) (hl : t.ledger.lastFast = s.ledger.lastFast) (ho : t.objs = s.objs) : Tripping e t :=
  ⟨hl.trans h.lastFast, h.shows.congr (State.get_congr ho)⟩

theorem setChargerCap {c pre : Int} (h : Tripping e s) : Tripping e (s.setChargerCap c pre) :=
  (h.ite h.raise).next rfl rfl

theorem chargerStop (h : Tripping e s) : Tripping e s.chargerStop := by
  have stop : Tripping e (((s.modChg fun c => { c with st := .suspended }).raise Ev.chg 2).raise Ev.chg 9) :=
    (h.next (t := s.modChg fun c => { c with st := .suspended }) rfl rfl).raise.raise
  unfold State.chargerStop
  split
  · exact stop
  · exact stop
  · exact stop
  · exact h

theorem fastLoad {a : State × Int} {x : State.Load} (h : Tripping e a.1) : Tripping e (State.fastLoad a x).1 := by
  obtain ⟨v, excess⟩ := a
  unfold State.fastLoad
  dsimp only
  split
  · exact h
  split
  · dsimp only
    exact (Tripping.ite h h.raise).next rfl rfl
  · exact h

end Tripping

/-- What the ledger shows of its caps is written to objects of its own. -/
theorem State.showLedger_get {key : Nat} (hr : ∀ q : Fin 32, key ≠ K.LEDGER_RAIL_ACTION q ∧ key ≠ K.LEDGER_RAIL_CAP q)
    (hc : key ≠ K.LEDGER_CHG_CAP) : s.showLedger.get key = s.get key := by
  unfold State.showLedger
  extract_lets u v held
  have hu : u.get key = s.get key := foldl_keeps (P := fun v : State => v.get key = s.get key) rfl fun v q hv =>
    (State.get_put_ne _ (hr q).2 _).trans ((State.get_put_ne _ (hr q).1 _).trans hv)
  exact (State.get_put_ne _ hc _).trans hu

/-- Of the ledger itself only its constraint is set. -/
theorem State.showLedger_ledger : ∃ b, s.showLedger.ledger = { s.ledger with constrained := b } := by
  unfold State.showLedger
  extract_lets u v held
  have hv : v.ledger = s.ledger :=
    ((Within.refl.foldl fun _ _ => (State.puts_plain (by simp)).sub).next State.put_within :
      Within (parts [.objs]) s v).same .ledger rfl
  exact ⟨held, congrArg (fun l : LedgerSt => { l with constrained := held }) hv⟩

theorem LEDGER_EVENT_ne_shown : ∀ q : Fin 32, Ev.ledger.key ≠ K.LEDGER_RAIL_ACTION q ∧ Ev.ledger.key ≠ K.LEDGER_RAIL_CAP q := by
  intro q
  simp only [Ev.ledger, K.LEDGER_EVENT, K.LEDGER_RAIL_ACTION, K.LEDGER_RAIL_CAP]
  omega

/-- A trip raises LEDGER_FAST, suspends the comparison and starts its count anew; the estimate stands. -/
structure Trips (s t : State) : Prop where
  lastFast : t.ledger.lastFast = s.ledger.lastFast
  tripped : t.ledger.tripped = true
  suspended : t.ledger.suspended = true
  highRun : t.ledger.highRun = 0
  shows : t.Shows Ev.ledger 5

theorem State.fastTrip_holds {excess : Int} : Trips s (s.fastTrip excess) := by
  unfold State.fastTrip
  extract_lets u
  have hu : Tripping s.ledger.lastFast u :=
    ⟨by rw [State.bump_ledger, State.raise_ledger], State.bump_keeps_shows (by decide) (by decide) State.raise_ledger_shows⟩
  split
  next v n ev =>
  have hv : Tripping s.ledger.lastFast v := by
    split at ev
    · cases ev
      exact ((hu.next (t := { u with chg := { u.chg with fastStop := true } }) rfl rfl).setChargerCap).chargerStop
    · cases ev
      exact hu
  split
  next w left ew =>
  have hw : Tripping s.ledger.lastFast w := by
    have h := foldl_keeps (P := fun a : State × Int => Tripping s.ledger.lastFast a.1) (f := State.fastLoad) (l := v.reductionOrder)
      (b := (v, n)) hv fun _ _ h => h.fastLoad
    rwa [ew] at h
  extract_lets x
  have hx : Tripping s.ledger.lastFast x := hw.raise.ite hw
  generalize hy : (x.modLedger fun l =>
    { l with highRun := 0, suspended := true, tripped := true, short := l.short || decide (0 < left) }) = y
  have hshow : y.showLedger.Shows Ev.ledger 5 := by
    subst hy
    exact hx.shows.congr (State.showLedger_get LEDGER_EVENT_ne_shown (by decide))
  obtain ⟨b, hb⟩ := State.showLedger_ledger (s := y)
  subst hy
  exact ⟨by rw [hb]; exact hx.lastFast, by rw [hb]; rfl, by rw [hb]; rfl, by rw [hb]; rfl, hshow⟩

/-! ### The fast estimate (R136) -/

/-- The estimate is taken. -/
def State.estimated (s : State) : State :=
  s.modLedger fun l => { l with lastFast := s.fastEstimate, maxFast := max l.maxFast s.fastEstimate }

/-- The modes in which the fast limit runs. -/
def State.fastRuns (s : State) : Prop := s.activeNotSeal = true ∧ s.modes.mode ≠ .boot ∧ s.modes.mode ≠ .failsafe

theorem State.fastStep_of_runs (h : s.fastRuns) : s.fastStep =
    if s.ledger.suspended || s.fastEstimate - s.fastThreshold ≤ 0 then s.estimated.modLedger fun l => { l with highRun := 0 }
    else if 1 ≤ s.ledger.highRun then s.estimated.fastTrip (s.fastEstimate - s.fastThreshold)
    else s.estimated.modLedger fun l => { l with highRun := 1 } := by
  obtain ⟨ha, hb, hf⟩ := h
  unfold State.fastStep
  rw [if_pos (by simp [ha, hb, hf])]
  rfl

/-- An estimate that is not compared, or not over the threshold, ends the run. -/
theorem State.fastStep_of_calm (h : s.fastRuns) (hc : s.ledger.suspended = true ∨ s.fastEstimate ≤ s.fastThreshold) :
    s.fastStep = s.estimated.modLedger fun l => { l with highRun := 0 } := by
  rw [State.fastStep_of_runs h, if_pos]
  simpa using hc

/-- The first estimate over the threshold waits for a second. -/
theorem State.fastStep_of_first (h : s.fastRuns) (hs : s.ledger.suspended = false) (he : s.fastThreshold < s.fastEstimate)
    (hn : s.ledger.highRun = 0) : s.fastStep = s.estimated.modLedger fun l => { l with highRun := 1 } := by
  rw [State.fastStep_of_runs h, if_neg (by simp [hs, he]), if_neg (by simp [hn])]

/-- The second in a row trips. -/
theorem State.fastStep_of_second (h : s.fastRuns) (hs : s.ledger.suspended = false) (he : s.fastThreshold < s.fastEstimate)
    (hn : 1 ≤ s.ledger.highRun) : s.fastStep = s.estimated.fastTrip (s.fastEstimate - s.fastThreshold) := by
  rw [State.fastStep_of_runs h, if_neg (by simp [hs, he]), if_pos hn]

/-- Whatever comes of it, the estimate is the last one. -/
theorem State.fastStep_lastFast (h : s.fastRuns) : s.fastStep.ledger.lastFast = s.fastEstimate := by
  by_cases hc : s.ledger.suspended = true ∨ s.fastEstimate ≤ s.fastThreshold
  · rw [State.fastStep_of_calm h hc]
    rfl
  · simp only [not_or, Bool.not_eq_true, not_le] at hc
    obtain ⟨hs, he⟩ := hc
    rcases Nat.eq_zero_or_pos s.ledger.highRun with hn | hn
    · rw [State.fastStep_of_first h hs he hn]
      rfl
    · rw [State.fastStep_of_second h hs he hn]
      exact State.fastTrip_holds.lastFast

/-! ### A rail's caps are in force (R110, R111, R137) -/

/-- CAPPED and the dwell timer follow the caps; nothing else of the rail changes. -/
theorem State.refreshCapped_rail : ∃ c d, (s.refreshCapped r).rail r = { s.rail r with capped := c, dwellFrom := d } := by
  unfold State.refreshCapped
  extract_lets c was v
  have hv : v.rail r = { s.rail r with
      capped := c, dwellFrom := if (s.rail r).limiting && !c then some ((s.rail r).dwellFrom.getD s.now) else none } :=
    State.rail_modRail_self ..
  refine ⟨_, _, Eq.trans ?_ hv⟩
  split
  · exact State.rail_congr (State.raise_rails ..)
  · rfl

theorem State.refreshCapped_otherRails : OtherRailsKept r s (s.refreshCapped r) := by
  unfold State.refreshCapped
  extract_lets c was v
  have hv : OtherRailsKept r s v := .modRail
  exact .ite (hv.next (State.raise_plain (by simp))) hv

theorem State.refreshCapped_objectsKept : ObjectsKept s (s.refreshCapped r) (eventObjects (Ev.rail r)) := by
  unfold State.refreshCapped
  extract_lets c was v
  split
  · exact State.raise_objectsKept (s := v)
  · exact fun _ _ => rfl

/-- The fast cap that was sent to a rail is in force there. -/
def RailSt.forced (x : RailSt) (c : Int) : RailSt := { x with fastSent := none, fastCap := some (min c (x.fastCap.getD c)) }

/-- The fast cap that was sent to rail `r`, if any, is in force. -/
def State.forceFast (s : State) (r : Fin 32) : State :=
  match (s.rail r).fastSent with
  | some c => (s.modRail r fun x => x.forced c).refreshCapped r
  | none => s

theorem State.fastInForce_eq :
    s.fastInForce = ((List.finRange 32).foldl State.forceFast s).modLedger fun l => { l with suspended := l.short } := rfl

theorem State.forceFast_of_none (h : (s.rail r).fastSent = none) : s.forceFast r = s := by
  unfold State.forceFast
  rw [h]

theorem State.forceFast_of_some {c : Int} (h : (s.rail r).fastSent = some c) :
    s.forceFast r = (s.modRail r fun x => x.forced c).refreshCapped r := by
  unfold State.forceFast
  rw [h]

theorem State.forceFast_within : Within (parts [.objs, .ints, .rails, .net]) s (s.forceFast r) := by
  unfold State.forceFast
  split
  · exact State.modRail_within.sub.next State.refreshCapped_within
  · exact .refl

theorem State.forceFast_otherRails : OtherRailsKept r s (s.forceFast r) := by
  unfold State.forceFast
  split
  · exact OtherRailsKept.modRail.trans State.refreshCapped_otherRails
  · exact .refl

/-- The rail `x` has become `y`, in which the fast cap `c` is in force beside what it had. -/
structure InForce (c : Int) (x y : RailSt) : Prop where
  fastCap : y.fastCap = some (min c (x.fastCap.getD c))
  fastSent : y.fastSent = none
  cap : y.cap = x.cap
  st : y.st = x.st

theorem State.forceFast_holds {c : Int} (h : (s.rail r).fastSent = some c) : InForce c (s.rail r) ((s.forceFast r).rail r) := by
  rw [State.forceFast_of_some h]
  obtain ⟨b, d, e⟩ := State.refreshCapped_rail (s := s.modRail r fun x => x.forced c) (r := r)
  rw [e, State.rail_modRail_self]
  exact ⟨rfl, rfl, rfl, rfl⟩

/-- A rail that no fast cap was sent to stays as it is. -/
theorem State.forceFasts_keep {l : List (Fin 32)} (h : (s.rail r).fastSent = none) : (l.foldl State.forceFast s).rail r = s.rail r :=
  foldl_keeps (P := fun u : State => u.rail r = s.rail r) rfl fun u q hu => by
    by_cases hq : r = q
    · subst hq
      rw [State.forceFast_of_none (by rw [hu, h]), hu]
    · rw [State.forceFast_otherRails r hq, hu]

/-- A rail that a fast cap was sent to has it in force from its turn on. -/
theorem State.forceFasts_hold {l : List (Fin 32)} {c : Int} (hr : r ∈ l) (h : (s.rail r).fastSent = some c) :
    InForce c (s.rail r) ((l.foldl State.forceFast s).rail r) := by
  have after (u : State) (q : Fin 32) (hu : InForce c (s.rail r) (u.rail r)) : InForce c (s.rail r) ((u.forceFast q).rail r) := by
    by_cases hq : r = q
    · subst hq
      rwa [State.forceFast_of_none hu.fastSent]
    · rwa [State.forceFast_otherRails r hq]
  have turn (u : State) (hu : u.rail r = s.rail r ∨ InForce c (s.rail r) (u.rail r)) :
      InForce c (s.rail r) ((u.forceFast r).rail r) := by
    rcases hu with hu | hu
    · rw [← hu]
      exact State.forceFast_holds (by rw [hu, h])
    · exact after u r hu
  refine foldl_reaches (I := fun u => u.rail r = s.rail r ∨ InForce c (s.rail r) (u.rail r))
    (Q := fun u => InForce c (s.rail r) (u.rail r)) hr (.inl rfl) (fun u q hu => ?_) turn fun u q _ hu => after u q hu
  by_cases hq : r = q
  · subst hq
    exact .inr (turn u hu)
  · rwa [State.forceFast_otherRails r hq]

theorem State.fastInForce_rail : s.fastInForce.rail r = ((List.finRange 32).foldl State.forceFast s).rail r := by
  rw [State.fastInForce_eq]
  exact State.rail_congr (State.modLedger_rails ..)

/-- The comparison resumes unless the caps fell short. -/
theorem State.fastInForce_suspended : s.fastInForce.ledger.suspended = s.ledger.short := by
  have forced : Within (parts [.objs, .ints, .rails, .net]) s ((List.finRange 32).foldl State.forceFast s) :=
    Within.refl.foldl fun _ _ => State.forceFast_within
  rw [State.fastInForce_eq]
  generalize (List.finRange 32).foldl State.forceFast s = u at forced ⊢
  exact congrArg LedgerSt.short (forced.same .ledger rfl)

/-! ### A ledger cap at its apply tick (R133) -/

/-- A rail under a ledger cap; with the last one on its way ends the fast cap that it replaces. -/
def RailSt.ledgerCapped (x : RailSt) (c : Option Int) (last : Bool) : RailSt :=
  { x with cap := c, fastCap := if last then none else x.fastCap, fastSent := if last then none else x.fastSent }

theorem State.capTick_of_only {c : Option Int} (h : (s.rail r).cmds = [.cap c]) : s.capTick r =
    ((s.dropCmd r (.cap c)).modRail r fun x => x.ledgerCapped c s.ledger.fast[r].isNone).refreshCapped r := by
  have left : ((s.dropCmd r (.cap c)).rail r).cmds = [] := by rw [State.dropCmd_rail, h]; simp
  unfold State.capTick
  rw [State.takeCmd_of_find (c := .cap c) (by rw [h]; rfl)]
  simp only [left, List.any_nil, Bool.not_false, Bool.and_true]
  rfl

/-- A ledger cap has arrived at its rail, and nothing else waits there. -/
structure CapsRail (r : Fin 32) (c : Option Int) (s t : State) : Prop where
  rail : ∃ b d, t.rail r =
    { ({ s.rail r with cmds := [] } : RailSt).ledgerCapped c s.ledger.fast[r].isNone with capped := b, dwellFrom := d }
  rails : OtherRailsKept r s t
  objects : ObjectsKept s t (eventObjects (Ev.rail r))

theorem State.capTick_holds {c : Option Int} (h : (s.rail r).cmds = [.cap c]) : CapsRail r c s (s.capTick r) := by
  rw [State.capTick_of_only h]
  refine ⟨?_, (State.dropCmd_otherRails.trans .modRail).trans State.refreshCapped_otherRails,
    State.refreshCapped_objectsKept (s := (s.dropCmd r (.cap c)).modRail r fun x => x.ledgerCapped c s.ledger.fast[r].isNone)⟩
  obtain ⟨b, d, e⟩ := State.refreshCapped_rail
    (s := (s.dropCmd r (.cap c)).modRail r fun x => x.ledgerCapped c s.ledger.fast[r].isNone) (r := r)
  refine ⟨b, d, e.trans ?_⟩
  rw [State.dropCmd_modRail, h, List.erase_cons_head]

/-! ### The accounts (R140) -/

/-- The objects listed are zeroed, and no other object is written. -/
theorem State.clear_get {l : List Nat} {key : Nat} :
    (l.foldl (fun s k => s.put k 0) s).get key = if key ∈ l then 0 else s.get key := by
  induction l generalizing s with
  | nil => simp
  | cons k l ih =>
    rw [List.foldl_cons, ih]
    by_cases hk : key = k
    · subst hk
      simp
    · simp [hk, State.get_put_ne s hk]

/-- Every account is zeroed with its residue. -/
def State.accountsCleared (s : State) : State :=
  (State.accounts.foldl (fun s k => s.put k 0) s).modLedger fun l => { l with residues := List.replicate 40 0 }

theorem State.accountsCleared_get {key : Nat} : s.accountsCleared.get key = if key ∈ State.accounts then 0 else s.get key :=
  (State.modLedger_get ..).trans State.clear_get

theorem State.accountsCleared_within : Within (parts [.objs, .ledger]) s s.accountsCleared := by
  unfold State.accountsCleared
  have plain : ∀ k ∈ State.accounts, keyParts k = 0 := by decide +kernel
  exact (Within.foldl_mem .refl fun _ k hk => (State.put_plain (plain k hk)).sub).next State.modLedger_within

theorem State.writeEClear_ok {acc : Accessor} (ha : s.Admits acc K.LEDGER_E_CLEAR 1) (hi : s.installerUp acc = true) :
    s.writeEClear acc 0x5A = .ok (s.accountsCleared, .done) := by
  obtain ⟨-, d, hd, ho⟩ := ha
  unfold State.writeEClear
  rw [State.writeVia_ok s hd ho]
  simp [hi, State.accountsCleared]

/-! ### The clauses together (O16) -/

/-- Settles O16: an estimate does what its equation says and a trip is `State.fastTrip_holds`; caps come in force rail by rail. -/
theorem ledgerFastLimitAndAccounts : Obligations.LedgerFastLimitAndAccounts := by
  refine ⟨fun s ha hb hf => ?_, fun s => ?_, fun acc s ha hi => ?_, fun s hk hh => ?_, fun r c s hc => ?_⟩
  · have runs : s.fastRuns := ⟨ha, hb, hf⟩
    have h := State.fastStep_within (s := s)
    refine ⟨_, rfl, State.fastStep_lastFast runs, h.modes, h.mram, h.otp, h.met, fun hc => ?_, fun he hs hn => ?_, fun he hs hn => ?_⟩
    · rw [State.fastStep_of_calm runs (.inr hc)]
      exact ⟨rfl, rfl⟩
    · rw [State.fastStep_of_first runs hs he hn]
      exact ⟨rfl, rfl⟩
    · rw [State.fastStep_of_second runs hs he hn]
      have trip := State.fastTrip_holds (s := s.estimated) (excess := s.fastEstimate - s.fastThreshold)
      exact ⟨trip.tripped, trip.suspended, trip.highRun, trip.shows⟩
  · refine ⟨s.fastInForce, rfl, State.fastInForce_suspended, fun r c hc => ?_, fun r hr => ?_, State.fastInForce_within.eq_withCaps⟩
    · rw [State.fastInForce_rail]
      obtain ⟨fastCap, fastSent, cap, st⟩ := State.forceFasts_hold (List.mem_finRange r) hc
      exact ⟨fastCap, fastSent, cap, st⟩
    · rw [State.fastInForce_rail, State.forceFasts_keep hr]
  · have parts := State.accountsCleared_within (s := s)
    have get (key : Nat) := State.accountsCleared_get (s := s) (key := key)
    have residues : s.accountsCleared.ledger.residues = List.replicate 40 0 := rfl
    have ok := State.writeEClear_ok ha hi
    generalize s.accountsCleared = t at parts get residues ok
    exact ⟨{ t with answer := .done }, exec_eq (State.access_ok _ ha.1 ok), rfl, fun k hk => (get k).trans (if_pos hk), residues,
      fun k hk => (get k).trans (if_neg hk), (parts.sub.next Within.set_answer).eq_withAccounts⟩
  · refine ⟨s.saveAccounts, exec_eq (if_pos ?_), rfl, rfl⟩
    rw [hk, hh]
    rfl
  · have h := State.capTick_holds hc
    obtain ⟨b, d, e⟩ := h.rail
    refine ⟨_, rfl, by rw [e]; rfl, by rw [e]; rfl, ?_, by rw [e]; rfl, h.rails, h.objects⟩
    rw [e]
    simp [RailSt.ledgerCapped]

end Sys2Proof.Machine
end

section
/-! The management tick: a measured value that a commit under way overwrites (O56). -/

set_option Elab.async false

namespace Sys2Proof.Machine

/-- A Keeper in SERVICE whose VIN has been absent for 1 ms and whose battery is cut off, while the first stage of a commit is under way that
has staged 5 mV for `PP_VIN`. -/
def unfedWhileCommitting : State :=
  { State.reset with
    modes := { State.reset.modes with mode := .service, vinAbsent1ms := true }, path := { State.reset.path with cutoff := true },
    cfg := { State.reset.cfg with phase := .stage1, staged := [(K.PP_VIN, 5)] } }

/-- The tick finds the supply lost after it took up 0 mV, and everything-off completes the commit, so that the staged value stands. -/
theorem managementTick_lands_staged_vin : (unfedWhileCommitting.managementTick [.obj K.PP_VIN 0]).get K.PP_VIN = 5 := by decide +kernel

/-- Refutes O56: the statement asks nothing of the commit under way, and a commit that has staged `PP_VIN` lands it when the tick finds the
supply lost and SEAL starts. -/
theorem not_managementTick : ¬ Obligations.ManagementTick := by
  intro h
  obtain ⟨-, takes⟩ := h
  obtain ⟨t, run, -, vin⟩ := takes 0 unfedWhileCommitting (by decide) (by decide) (by decide) (by decide)
  have e : exec (.managementTick [.obj K.PP_VIN 0]) unfedWhileCommitting =
    .next (unfedWhileCommitting.managementTick [.obj K.PP_VIN 0]) := rfl
  rw [← Host.Outcome.next.inj (e.symm.trans run), managementTick_lands_staged_vin] at vin
  exact absurd vin (by decide)

end Sys2Proof.Machine
end

section
/-! Group commands and PG samples: what two statements leave out (O23, O25). -/

set_option Elab.async false

namespace Sys2Proof.Machine

/-! ### A group whose power-down meets a rail that the ledger has shed (O23) -/

/-- Group 3 is UP, and the ledger has shed rail 3, which its step 2 names: the step's value sets rail bit 3, group 3 and VALID. -/
def upWithShedRail : State :=
  (((State.reset.modModes fun x => { x with mode := .run }).modGroup 3 fun x => { x with st := .up, sentSteps := [2] }).modRail 3
    fun x => { x with st := .off, shed := true }).put (K.SEQ_STEP 2) (8 + 0x83 * 2 ^ 32)

/-- The dictionary's row of `GRP_CMD`. -/
def groupCmdRow : ObjDef :=
  { index := 0x2101, units := 16, stride := 0x8, subLo := 0x1, subHi := 0x1, type := .u8, access := .wo, cls := .live, size := 1,
    role := .hostOrInstaller }

theorem upWithShedRail_admits : upWithShedRail.Admits .spi (K.GRP_CMD 3) 1 :=
  ⟨by decide, groupCmdRow, by decide +kernel, by decide⟩

/-- The power-down takes the shed marks of the group's rails (R133). -/
theorem powerDown_unmarks_shed_rail :
    ((upWithShedRail.access .spi fun s => s.writeGrpCmd .spi 3 0).rail 3).shed = false := by decide +kernel

/-- Refutes O23: the clause for the power-down of an UP group keeps every rail as it was, but does not ask that none is shed; the
power-down takes the shed marks of the group's rails. -/
theorem not_groupCommandsTakeATag : ¬ Obligations.GroupCommandsTakeATag := by
  intro h
  obtain ⟨-, down⟩ := h
  obtain ⟨t, run, -, -, -, -, -, idle, -⟩ := down .spi 3 0 2 upWithShedRail upWithShedRail_admits (by decide) (by decide)
    (by decide +kernel) (by decide) (by decide +kernel) (by decide) (by decide)
  obtain ⟨-, -, rails⟩ := idle (by decide)
  have e : exec (.grpCmdPowerDown .spi 3) upWithShedRail = .next (upWithShedRail.access .spi fun s => s.writeGrpCmd .spi 3 0) := rfl
  have marked : (upWithShedRail.rail 3).shed = true := by decide
  rw [← State.rail_congr rails, ← Host.Outcome.next.inj (e.symm.trans run), powerDown_unmarks_shed_rail] at marked
  exact absurd marked (by decide)

/-! ### A chatter count that saturates while the ports are closed (O25) -/

/-- A rail whose qualifier is armed and whose chatter count is one short of its end, in VAULT, where the ports are closed. -/
def chatteringInVault : State := (State.reset.modRail 3 fun x => { x with armed := true }).put (K.SEQ_PG_CHATTER 3) 65534

/-- The count saturates, and COUNTER_SAT waits until the ports open (R201, R409). -/
theorem pgSample_defers_saturation : (chatteringInVault.pgSample 3 0).deferred = [(K.SEQ_EVENT, 10)] := by decide +kernel

/-- Refutes O25: the clause for a PG sample lets objects, rails, sources and partners change, but does not ask that the ports are open;
where they are closed, the chatter count's saturation joins the events that wait. -/
theorem not_powerGoodAndSharedLines : ¬ Obligations.PowerGoodAndSharedLines := by
  intro h
  obtain ⟨⟨sample, -⟩, -⟩ := h
  obtain ⟨t, run, -, -, -, frame⟩ := sample 3 0 chatteringInVault
  have e : exec (.pgSample 3 0) chatteringInVault = .next (chatteringInVault.pgSample 3 0) := rfl
  have same : t.deferred = [] := by rw [frame]; rfl
  rw [← Host.Outcome.next.inj (e.symm.trans run), pgSample_defers_saturation] at same
  exact absurd same (List.cons_ne_nil _ _)

end Sys2Proof.Machine
end

section
/-! The sequencer's groups and legacy slaves: the state's rules for them, and what their moves leave as it was. -/

set_option Elab.async false

namespace Sys2Proof.Machine

variable {s t u : State} {F : Parts} {g h : Fin 16} {i j : Fin 8} {key : Nat}

/-! ### A group, a slave and a step of a part that stays -/

theorem State.group_congr (e : t.seq = s.seq) : t.group g = s.group g := by unfold State.group; rw [e]

theorem State.slave_congr (e : t.seq = s.seq) : t.slave j = s.slave j := by unfold State.slave; rw [e]

theorem State.slave_modSlave_self {f : SlaveSt → SlaveSt} : (s.modSlave j f).slave j = f (s.slave j) := by
  simp [State.slave, State.modSlave]

theorem State.slave_modSlave_ne {f : SlaveSt → SlaveSt} (h : i ≠ j) : (s.modSlave j f).slave i = s.slave i := by
  simp [State.slave, State.modSlave, Fin.val_inj, h.symm]

/-- The step table lies in objects of its own. -/
theorem State.step_of_get (e : ∀ key, 0x220000 ≤ key → t.get key = s.get key) (n : Nat) : t.step n = s.step n := by
  unfold State.step State.getN
  rw [e _ (by simp only [K.SEQ_STEP]; omega)]

theorem State.step_congr (e : t.objs = s.objs) (n : Nat) : t.step n = s.step n := State.step_of_get (fun _ _ => State.get_congr e) n

theorem State.groupSteps_congr (e : t.objs = s.objs) : t.groupSteps g = s.groupSteps g := by
  simp only [State.groupSteps, State.step_congr e]

theorem Step.railList_nodup {k : Step} : k.railList.Nodup := (List.nodup_finRange 32).filter _

theorem Step.slaveList_nodup {k : Step} : k.slaveList.Nodup := (List.nodup_finRange 8).filter _

/-! ### A fold over units that changes each unit by itself -/

theorem foldl_each {σ ι β : Type} [DecidableEq ι] {get : σ → ι → β} {f : σ → ι → σ} {F : β → β}
    (self : ∀ s i, get (f s i) i = F (get s i)) (others : ∀ s i j, j ≠ i → get (f s i) j = get s j) {l : List ι} (hl : l.Nodup)
    (s : σ) (j : ι) : get (l.foldl f s) j = if j ∈ l then F (get s j) else get s j := by
  induction l generalizing s with
  | nil => rfl
  | cons i l ih =>
    obtain ⟨hi, hl⟩ := List.nodup_cons.1 hl
    rw [List.foldl_cons, ih hl]
    by_cases hj : j = i
    · subst hj
      rw [if_neg hi, if_pos List.mem_cons_self, self]
    · simp only [List.mem_cons, hj, false_or, others s i j hj]

/-! ### A state that changes in what the sequencer moves is the state with that -/

/-- The parts that the sequencer may change without a report. -/
def seqParts : Parts := parts [.objs, .ops, .rails, .seq, .bus]

/-- `s` with these parts of `t`. -/
def State.withSeqParts (s t : State) : State := { s with objs := t.objs, ops := t.ops, rails := t.rails, seq := t.seq, bus := t.bus }

theorem Within.eq_withSeqParts (w : Within seqParts s t) : t = s.withSeqParts t := by
  have keep (x : Part) (hx : seqParts.testBit x.ctorIdx = false) (k : x.same s t → x.same (s.withSeqParts t) t) :
      x.same (s.withSeqParts t) t := k (w.same x hx)
  refine State.eq_of_same w.queue fun x => ?_
  cases x
  case objs | ops | rails | seq | bus => rfl
  case events => exact fun _ _ _ hj => hj
  case wakeSource | wakeEnable | fsRetryCount | fsRetryAt | fsCause | resetCause | tbSource | bootResult | sealStage | faultShown | seqFault
      | habState => exact fun _ _ => rfl
  all_goals exact keep _ rfl id

/-- Groups and slaves alone change. -/
theorem Within.eq_withSeq (w : Within (parts [.seq]) s t) : t = { s with seq := t.seq } := by
  have e := (w.sub (F := seqParts)).eq_withSeqParts
  rw [State.withSeqParts, w.same .objs rfl, w.ops, w.rails, w.same .bus rfl] at e
  exact e

/-- Groups and operations change. -/
theorem Within.eq_withSeqOps (w : Within (parts [.seq, .ops]) s t) : t = { s with seq := t.seq, ops := t.ops } := by
  have e := (w.sub (F := seqParts)).eq_withSeqParts
  rw [State.withSeqParts, w.same .objs rfl, w.rails, w.same .bus rfl] at e
  exact e

/-- Groups, slaves and rails change. -/
theorem Within.eq_withSeqRails (w : Within (parts [.seq, .rails]) s t) : t = { s with seq := t.seq, rails := t.rails } := by
  have e := (w.sub (F := seqParts)).eq_withSeqParts
  rw [State.withSeqParts, w.same .objs rfl, w.ops, w.same .bus rfl] at e
  exact e

/-- A transaction changes slaves and the bus. -/
theorem Within.eq_withBus (w : Within (parts [.seq, .bus]) s t) : t = { s with seq := t.seq, bus := t.bus } := by
  have e := (w.sub (F := seqParts)).eq_withSeqParts
  rw [State.withSeqParts, w.same .objs rfl, w.ops, w.rails] at e
  exact e

/-- A transaction that brings a value changes objects as well. -/
theorem Within.eq_withReply (w : Within (parts [.seq, .objs, .bus]) s t) : t = { s with seq := t.seq, objs := t.objs, bus := t.bus } := by
  have e := (w.sub (F := seqParts)).eq_withSeqParts
  rw [State.withSeqParts, w.ops, w.rails] at e
  exact e

/-! ### A group that stands while others move -/

theorem State.raise_seq_shows {n : Nat} : (s.raise Ev.seq n).Shows Ev.seq n := State.raise_bit _ Ev.seq n rfl (by decide)

/-- From `s` to `t` group `g` and its result stay as they were. -/
structure GroupStands (g : Fin 16) (s t : State) : Prop where
  group : t.group g = s.group g
  result : t.get (K.GRP_RESULT g) = s.get (K.GRP_RESULT g)

theorem GRP_RESULT_opSpares : OpSpares (K.GRP_RESULT g) := by
  refine ⟨?_, ?_⟩
  · simp only [opObjects, eventObjects, Ev.op, List.mem_append, List.mem_cons, List.not_mem_nil, or_false, K.GRP_RESULT, K.OP_ABORT_LAST,
      K.OP_ABORT_LOST, K.OP_DONE_MAP_LO, K.OP_DONE_MAP_HI, K.OP_EVENT, K.NET_EVENTS_DROPPED, K.NET_EVENT]
    omega
  · revert g
    decide +kernel

theorem State.finish?_get {st : OpStatus} {tag : Option Nat} {a b : Nat} (hk : OpSpares key) :
    (s.finish? tag st a b).get key = s.get key := by
  unfold State.finish?
  split
  · exact State.finish_get hk
  · rfl

/-- The result of a group is no event object, and none of those that count lost events. -/
theorem GRP_RESULT_ne_event : K.GRP_RESULT g ∉ eventObjects Ev.seq := by
  simp only [eventObjects, Ev.seq, List.mem_cons, List.not_mem_nil, or_false, K.GRP_RESULT, K.SEQ_EVENT, K.NET_EVENTS_DROPPED, K.NET_EVENT]
  omega

namespace GroupStands

theorem refl : GroupStands g s s := ⟨rfl, rfl⟩

theorem trans (a : GroupStands g s t) (b : GroupStands g t u) : GroupStands g s u :=
  ⟨b.group.trans a.group, b.result.trans a.result⟩

theorem ite {c : Prop} [Decidable c] (a : GroupStands g s t) (b : GroupStands g s u) : GroupStands g s (if c then t else u) := by
  split
  · exact a
  · exact b

theorem foldl {α : Type} {f : State → α → State} {l : List α} (a : GroupStands g s t) (b : ∀ u x, GroupStands g u (f u x)) :
    GroupStands g s (l.foldl f t) := foldl_keeps a fun u x hu => hu.trans (b u x)

/-- A function that changes neither groups nor objects. -/
theorem next (a : GroupStands g s t) (w : Within F t u) (hF : F.testBit Part.seq.ctorIdx = false := by rfl)
    (hO : F.testBit Part.objs.ctorIdx = false := by rfl) : GroupStands g s u :=
  a.trans ⟨State.group_congr (w.seq hF), State.get_congr (w.same .objs hO)⟩

theorem modGroup {f : GroupSt → GroupSt} (ne : g ≠ h) : GroupStands g s (s.modGroup h f) := ⟨State.group_modGroup_ne ne, rfl⟩

theorem raiseSeq {n : Nat} : GroupStands g s (s.raise Ev.seq n) :=
  ⟨State.group_congr (State.raise_seq ..), State.raise_objectsKept _ GRP_RESULT_ne_event⟩

theorem setResult {r : GrpResult} (ne : g ≠ h) : GroupStands g s (s.setResult h r) :=
  ⟨rfl, State.get_put_ne _ (by simp only [K.GRP_RESULT]; omega) _⟩

theorem finish? {st : OpStatus} {tag : Option Nat} {a b : Nat} : GroupStands g s (s.finish? tag st a b) :=
  ⟨State.group_congr (State.finish?_seq ..), State.finish?_get GRP_RESULT_opSpares⟩

theorem groupFallen (ne : g ≠ h) : GroupStands g s (s.groupFallen h) := by
  unfold State.groupFallen
  extract_lets x res v y
  have hv : GroupStands g s v := (setResult ne).trans finish?
  exact .ite (hv.trans (modGroup ne)) ((hv.trans (modGroup ne)).trans raiseSeq)

theorem sendStepDown {n : Nat} (ne : g ≠ h) : GroupStands g s (s.sendStepDown h n) := by
  unfold State.sendStepDown
  extract_lets st v w
  have hv : GroupStands g s v := .foldl .refl fun x r => by
    extract_lets y
    have hy : GroupStands g x y := .next .refl State.modRail_within
    exact .ite hy (hy.next State.sendRail_within)
  have hw : GroupStands g s w := .foldl hv fun x k => .ite raiseSeq ⟨rfl, rfl⟩
  exact hw.trans (modGroup ne)

/-- A group that starts FALLING moves alone. -/
theorem startFalling (ne : g ≠ h) : GroupStands g s (s.startFalling h) := by
  unfold State.startFalling
  extract_lets x v w
  have hd : GroupStands g s (if x.stage = .bell || x.stage = .rung then s.driveBell true else s) := .ite ⟨rfl, rfl⟩ .refl
  have hw : GroupStands g s w := (hd.next State.dropShed_within).trans (modGroup ne)
  unfold State.fallNext
  split
  · exact hw.trans (groupFallen ne)
  · exact .ite (hw.trans (sendStepDown ne)) (hw.trans (modGroup ne))

end GroupStands

/-! ### Groups that wait for their dependants (R148) -/

/-- No group waits for its dependants. -/
def State.NoneWaits (s : State) : Prop := ∀ h, (s.group h).stage ≠ .dependants

theorem State.releaseDependants_of_none (none : s.NoneWaits) : s.releaseDependants = s := by
  have e : ((List.finRange 16).find? fun h => decide ((s.group h).stage = .dependants) && (s.dependants h).isEmpty) = Option.none := by
    simp [none _]
  unfold State.releaseDependants State.releaseWave
  rw [e]

theorem GroupStands.releaseWave {n : Nat} (idle : (s.group g).stage ≠ .dependants) : GroupStands g s (State.releaseWave n s) := by
  induction n generalizing s with
  | zero => exact .refl
  | succ n ih =>
    unfold State.releaseWave
    split
    · rename_i h found
      have ne : g ≠ h := by
        rintro rfl
        simpa [idle] using List.find?_some found
      have moved : GroupStands g s (s.startFalling h) := .startFalling ne
      exact moved.trans (ih (by rw [moved.group]; exact idle))
    · exact .refl

/-- A group that does not wait for dependants stands while others are released. -/
theorem GroupStands.releaseDependants (idle : (s.group g).stage ≠ .dependants) : GroupStands g s s.releaseDependants :=
  GroupStands.releaseWave idle

end Sys2Proof.Machine
end

section
/-! The steps of a rising and of a falling group (R147–R157, R163). -/

set_option Elab.async false

namespace Sys2Proof.Machine

variable {s t u : State} {g : Fin 16} {j : Fin 8} {r : Fin 32} {k n : Nat}

/-! ### The gates of a HELD group (R147) -/

theorem foldl_eq_self {σ α : Type} {f : σ → α → σ} {l : List α} {b : σ} (fixed : ∀ a ∈ l, f b a = b) : l.foldl f b = b := by
  induction l with
  | nil => rfl
  | cons a l ih =>
    rw [List.foldl_cons, fixed a List.mem_cons_self]
    exact ih fun x hx => fixed x (List.mem_cons_of_mem _ hx)

/-- A HELD group below which none is HELD is the only one that the tick's gates concern. -/
theorem State.gateTick_of_first (first : ∀ h, h < g → (s.group h).st ≠ .held) :
    s.gateTick g = (s.gateOne g).releaseDependants := by
  have upTo : ((List.finRange 16).filter fun h => decide (h ≤ g)) = ((List.finRange 16).filter fun h => decide (h < g)) ++ [g] := by
    clear first
    revert g
    decide
  have below : ((List.finRange 16).filter fun h => decide (h < g)).foldl State.gateOne s = s :=
    foldl_eq_self fun h hh => if_neg (first h (by simpa using hh))
  unfold State.gateTick
  rw [upTo, List.foldl_append, below]
  rfl

theorem State.gateOne_of_closed (held : (s.group g).st = .held) (closed : s.closedGate g ≠ .none) :
    s.gateOne g = s.modGroup g fun x => { x with wait := s.closedGate g } := by
  unfold State.gateOne
  rw [if_pos held]
  exact if_neg closed

theorem State.gateOne_of_open (held : (s.group g).st = .held) (opened : s.closedGate g = .none) : s.gateOne g = s.startRising g := by
  unfold State.gateOne
  rw [if_pos held]
  exact if_pos opened

/-! ### A rising group takes up a step (R151) -/

/-- The search for a group's next step after one. -/
def State.nextStep (s : State) (g : Fin 16) (done : Option Nat) : Option Nat :=
  (s.groupSteps g).find? fun k => done.all fun d => decide (d < k)

/-- A group that asks for the admission of a step. -/
def GroupSt.asks (x : GroupSt) (k : Nat) (bare : Bool) : GroupSt :=
  { x with cur := some k, stage := .asking, admitted := bare, deferred := false, wait := if bare then .stepDelay else .ledger }

theorem State.riseNext_of_last {done : Option Nat} (last : s.nextStep g done = none) : s.riseNext g done = s.groupUp g := by
  unfold State.riseNext
  extract_lets next
  have e : next = none := by
    rw [← last]
    cases done <;> rfl
  clear_value next
  subst e
  rfl

theorem State.riseNext_of_step {done : Option Nat} (next : s.nextStep g done = some k)
    (built : ∀ r ∈ (s.step k).railList, (s.rail r).st ≠ .unbuilt) :
    s.riseNext g done = s.modGroup g (·.asks k (s.step k).railList.isEmpty) := by
  unfold State.riseNext
  extract_lets next'
  have e : next' = some k := by
    rw [← next]
    cases done <;> rfl
  clear_value next'
  subst e
  refine if_neg ?_
  simpa [State.rail] using built

theorem State.nextStep_none : s.nextStep g none = (s.groupSteps g).head? := by
  unfold State.nextStep
  cases s.groupSteps g <;> rfl

/-- A group that starts RISING with its first step. -/
def GroupSt.startsUp (x : GroupSt) (k : Nat) (bare : Bool) : GroupSt :=
  { x with st := .rising, wait := .none, sentSteps := [], reversing := false, reverseStep := none, unbuilt := false }.asks k bare

/-- A group that starts RISING with its first step: its latched tag runs, and it asks for the step's admission. -/
theorem State.startRising_holds (first : (s.groupSteps g).head? = some k)
    (built : ∀ r ∈ (s.step k).railList, (s.rail r).st ≠ .unbuilt) :
    (∃ bare, (s.startRising g).group g = (s.group g).startsUp k bare) ∧
      (∀ h, h ≠ g → (s.startRising g).group h = s.group h) ∧ Within (parts [.seq, .ops]) s (s.startRising g) := by
  unfold State.startRising
  extract_lets v w
  have hv : Within (parts [.ops]) s v := by
    unfold v
    split
    · exact State.releaseTag_within
    · exact .refl
  have hw : Within (parts [.seq, .ops]) s w := hv.sub.next State.modGroup_within
  have next : w.nextStep g none = some k := by
    rw [State.nextStep_none, State.groupSteps_congr (hw.same .objs rfl), first]
  rw [State.riseNext_of_step next (by
    intro r hr
    rw [State.step_congr (hw.same .objs rfl)] at hr
    rw [State.rail_congr hw.rails]
    exact built r hr)]
  refine ⟨⟨(w.step k).railList.isEmpty, ?_⟩, fun h hh => ?_, hw.next State.modGroup_within⟩
  · rw [State.group_modGroup_self, State.group_modGroup_self, State.group_congr hv.seq]
    rfl
  · rw [State.group_modGroup_ne hh, State.group_modGroup_ne hh, State.group_congr hv.seq]

/-- From `s` to `t` group `g` has come UP, its result says so, and GROUP_UP shows. -/
structure ComesUpGroup (g : Fin 16) (s t : State) : Prop where
  group : t.group g = { s.group g with st := .up, tag := none, stage := .idle, cur := none, wait := .none }
  shows : t.Shows Ev.seq 0
  result : t.get (K.GRP_RESULT g) = GrpResult.upDone.code

theorem State.groupUp_holds : ComesUpGroup g s (s.groupUp g) := by
  unfold State.groupUp
  extract_lets x v w
  have hw : w.seq = v.seq := State.finish?_seq ..
  have result : w.get (K.GRP_RESULT g) = GrpResult.upDone.code := (State.finish?_get GRP_RESULT_opSpares).trans (State.get_put_self ..)
  obtain ⟨-, noEvent⟩ := GRP_RESULT_opSpares (g := g)
  refine ⟨?_, State.raise_seq_shows, ?_⟩
  · rw [State.group_congr (State.raise_seq ..), State.group_congr (State.bump_seq ..), State.group_congr hw]
    exact State.group_modGroup_self
  · rw [State.raise_objectsKept _ GRP_RESULT_ne_event, State.bump_get_ne _ noEvent _ _, result] <;>
      simp only [K.GRP_RESULT, K.GRP_UP_COUNT, K.NET_EVENTS_DROPPED, K.NET_EVENT, ne_eq] <;> omega

/-! ### The commands of a step (R151, R155, R165) -/

/-- A rail to which a rising step sends what it needs. -/
def RailSt.steppedUp (x : RailSt) : RailSt :=
  let x := { x with chatterSeen := false, qualified := false }
  match x.st with
  | .off => { x with cmds := x.cmds ++ [.up] }
  | .up => { x with armed := true, badRun := false }
  | .unbuilt => x
  | _ => { x with deferredUp := true }

/-- A slave that is owed STAGE_GO, after an ID_READ where it is lost. -/
def SlaveSt.steppedUp (x : SlaveSt) (stage : Nat) : SlaveSt :=
  { x with done := false, owed := x.owed ++ ((if x.lost then [.idRead] else []) ++ [.stageGo stage]) }

/-- A group whose step has been sent. -/
def GroupSt.sends (x : GroupSt) (k : Nat) (wait : GrpWait) : GroupSt :=
  { x with stage := .sent, sentSteps := k :: x.sentSteps, wait := wait }

/-- From `s` to `t` the commands of step `k` have gone to its rails and slaves, and group `g` waits for them. -/
structure SendsUp (g : Fin 16) (k : Nat) (s t : State) : Prop where
  stage : (t.group g).stage = .sent
  sent : (t.group g).sentSteps = k :: (s.group g).sentSteps
  groups : ∀ h, h ≠ g → t.group h = s.group h
  rails : ∀ r, t.rail r = if r ∈ (s.step k).railList then (s.rail r).steppedUp else s.rail r
  slaves : ∀ j, t.slave j = if j ∈ (s.step k).slaveList then (s.slave j).steppedUp (s.step k).stage else s.slave j

/-- What a change of a rail is counts on the rail as it stands alone. -/
theorem State.modRail_eq {f f' : RailSt → RailSt} (e : f (s.rail r) = f' (s.rail r)) : s.modRail r f = s.modRail r f' :=
  congrArg (fun x => { s with rails := s.rails.set r x }) e

theorem State.modRail_modRail {f f' : RailSt → RailSt} : (s.modRail r f).modRail r f' = s.modRail r fun x => f' (f x) := by
  simp [State.modRail]

theorem State.modSlave_modSlave {f f' : SlaveSt → SlaveSt} : (s.modSlave j f).modSlave j f' = s.modSlave j fun x => f' (f x) := by
  simp [State.modSlave]

/-- What a rising step sends changes its rails, its slaves and the group, each by itself. -/
theorem State.sendStepUp_eq : ∃ wait, s.sendStepUp g k =
    ((s.step k).slaveList.foldl (fun x j => x.modSlave j (·.steppedUp (s.step k).stage))
      ((s.step k).railList.foldl (fun x r => x.modRail r RailSt.steppedUp) s)).modGroup g (·.sends k wait) := by
  unfold State.sendStepUp
  extract_lets st v w
  have hv : v = st.railList.foldl (fun x r => x.modRail r RailSt.steppedUp) s := by
    unfold v
    congr 1
    funext x r
    dsimp only
    simp only [State.rail_modRail_self, State.sendRail, State.modRail_modRail]
    split <;> exact State.modRail_eq (by simp [RailSt.steppedUp, *])
  have hw : w = st.slaveList.foldl (fun x j => x.modSlave j (·.steppedUp st.stage)) v := by
    unfold w
    congr 1
    funext x j
    exact State.modSlave_modSlave
  rw [hw, hv]
  exact ⟨_, rfl⟩

theorem State.sendStepUp_holds : SendsUp g k s (s.sendStepUp g k) := by
  obtain ⟨wait, e⟩ := State.sendStepUp_eq (s := s) (g := g) (k := k)
  rw [e]
  set v := (s.step k).railList.foldl (fun x r => x.modRail r RailSt.steppedUp) s with hv
  set w := (s.step k).slaveList.foldl (fun x j => x.modSlave j (·.steppedUp (s.step k).stage)) v with hw
  have within_v : Within (parts [.rails]) s v := .foldl .refl fun _ _ => State.modRail_within.sub
  have within_w : Within (parts [.seq]) v w := .foldl .refl fun _ _ => State.modSlave_within.sub
  have groups (h : Fin 16) : w.group h = s.group h :=
    (foldl_keeps (P := fun x : State => x.group h = v.group h) (f := fun x j => x.modSlave j (·.steppedUp (s.step k).stage)) rfl
      fun _ _ hx => hx).trans (State.group_congr within_v.seq)
  have here : (w.modGroup g (·.sends k wait)).group g = (s.group g).sends k wait := by rw [State.group_modGroup_self, groups]
  refine ⟨?_, ?_, fun h hh => (State.group_modGroup_ne hh).trans (groups h), fun r => ?_, fun j => ?_⟩
  · rw [here]
    rfl
  · rw [here]
    rfl
  · refine (State.rail_congr within_w.rails).trans ?_
    exact foldl_each (get := State.rail) (fun _ _ => State.rail_modRail_self ..) (fun _ _ _ h => State.rail_modRail_ne _ h _)
      Step.railList_nodup s r
  · rw [← State.slave_congr within_v.seq]
    exact foldl_each (get := State.slave) (fun _ _ => State.slave_modSlave_self) (fun _ _ _ h => State.slave_modSlave_ne h)
      Step.slaveList_nodup v j

/-- The end of a step's delay sends its commands, unless the bus is STUCK and the step needs it. -/
theorem State.stepGo_of_admitted (st : (s.group g).st = .rising) (stage : (s.group g).stage = .asking) (cur : (s.group g).cur = some k)
    (admitted : (s.group g).admitted = true) (bus : s.bus.stuck = false ∨ (s.step k).slaveList = []) :
    s.stepGo g = s.sendStepUp g k := by
  have w : Within (parts [.rails, .seq]) s (s.sendStepUp g k) := State.sendStepUp_within
  have bus' : ((s.sendStepUp g k).bus.stuck && !((s.sendStepUp g k).step k).slaveList.isEmpty) = false := by
    rw [w.same .bus rfl, State.step_congr (w.same .objs rfl)]
    rcases bus with b | b <;> simp [b]
  simp only [State.stepGo, st, stage, cur, admitted, if_true, bus']
  rfl

/-- A rail to which a falling step sends what it needs. -/
def RailSt.steppedDown (x : RailSt) : RailSt :=
  let x := { x with shed := false, deferredUp := false }
  if (x.st = .off && !x.cmds.contains .up) || x.st = .unbuilt then x else { x with cmds := x.cmds ++ [.down] }

/-- A slave that is owed STAGE_DOWN, unless it is lost. -/
def SlaveSt.steppedDown (x : SlaveSt) (stage : Nat) : SlaveSt :=
  if x.lost then x else { x with owed := x.owed ++ [.stageDown stage] }

/-- The power-down of a slave's stage is owed, or its loss is reported again (R165). -/
def State.stepDownSlave (s : State) (stage : Nat) (j : Fin 8) : State :=
  if (s.slave j).lost then s.raise Ev.seq 8 else s.oweSlave j [.stageDown stage]

theorem State.stepDownSlave_self {stage : Nat} : (s.stepDownSlave stage j).slave j = (s.slave j).steppedDown stage := by
  unfold State.stepDownSlave SlaveSt.steppedDown
  split
  · exact State.slave_congr (State.raise_seq ..)
  · exact State.slave_modSlave_self

theorem State.stepDownSlave_ne {stage : Nat} {i : Fin 8} (ne : i ≠ j) : (s.stepDownSlave stage j).slave i = s.slave i := by
  unfold State.stepDownSlave
  split
  · exact State.slave_congr (State.raise_seq ..)
  · exact State.slave_modSlave_ne ne

theorem State.stepDownSlave_group {stage : Nat} : (s.stepDownSlave stage j).group g = s.group g := by
  unfold State.stepDownSlave
  split
  · exact State.group_congr (State.raise_seq ..)
  · rfl

/-- What a falling step sends changes its rails, its slaves and the group, each by itself. -/
theorem State.sendStepDown_eq : s.sendStepDown g k =
    ((s.step k).slaveList.foldl (fun x j => x.stepDownSlave (s.step k).stage j)
      ((s.step k).railList.foldl (fun x r => x.modRail r RailSt.steppedDown) s)).modGroup g fun x =>
        { x with stage := .downSent, wait := .railsDown, cur := some k } := by
  unfold State.sendStepDown
  extract_lets st v w
  have hv : v = st.railList.foldl (fun x r => x.modRail r RailSt.steppedDown) s := by
    unfold v
    congr 1
    funext x r
    dsimp only
    simp only [State.rail_modRail_self, State.sendRail, State.modRail_modRail]
    split
    · exact State.modRail_eq (if_pos ‹_›).symm
    · exact State.modRail_eq (if_neg ‹_›).symm
  rw [← hv]
  rfl

/-- From `s` to `t` the power-downs of step `k` have gone to its rails and slaves, and group `g` waits for them. -/
structure SendsDown (g : Fin 16) (k : Nat) (s t : State) : Prop where
  stage : (t.group g).stage = .downSent
  st : (t.group g).st = (s.group g).st
  groups : ∀ h, h ≠ g → t.group h = s.group h
  rails : ∀ r, t.rail r = if r ∈ (s.step k).railList then (s.rail r).steppedDown else s.rail r
  slaves : ∀ j, t.slave j = if j ∈ (s.step k).slaveList then (s.slave j).steppedDown (s.step k).stage else s.slave j

theorem State.sendStepDown_holds : SendsDown g k s (s.sendStepDown g k) := by
  rw [State.sendStepDown_eq]
  set v := (s.step k).railList.foldl (fun x r => x.modRail r RailSt.steppedDown) s with hv
  set w := (s.step k).slaveList.foldl (fun x j => x.stepDownSlave (s.step k).stage j) v with hw
  have within_v : Within (parts [.rails]) s v := .foldl .refl fun _ _ => State.modRail_within.sub
  have within_w : Within (parts [.objs, .ints, .net, .seq]) v w :=
    .foldl .refl fun _ _ => .ite State.raise_within.sub State.oweSlave_within.sub
  have groups (h : Fin 16) : w.group h = s.group h :=
    (foldl_keeps (P := fun x : State => x.group h = v.group h) rfl fun _ _ hx => State.stepDownSlave_group.trans hx).trans
      (State.group_congr within_v.seq)
  refine ⟨?_, ?_, fun h hh => (State.group_modGroup_ne hh).trans (groups h), fun r => ?_, fun j => ?_⟩
  · rw [State.group_modGroup_self]
  · rw [State.group_modGroup_self, groups]
  · refine (State.rail_congr within_w.rails).trans ?_
    exact foldl_each (get := State.rail) (fun _ _ => State.rail_modRail_self ..) (fun _ _ _ h => State.rail_modRail_ne _ h _)
      Step.railList_nodup s r
  · rw [← State.slave_congr within_v.seq]
    exact foldl_each (get := State.slave) (F := (·.steppedDown (s.step k).stage)) (fun _ _ => State.stepDownSlave_self)
      (fun _ _ _ h => State.stepDownSlave_ne h) Step.slaveList_nodup v j

/-! ### The end of a step (R151, R155, R163) -/

theorem State.stepDone_of_met (st : (s.group g).st = .rising) (stage : (s.group g).stage = .sent) (cur : (s.group g).cur = some k)
    (met : s.stepMet (s.step k) = true) : s.stepDone g =
      if (s.step k).bellUp && s.coopBit 2 then s.bellPoint g else (s.riseNext g (some k)).releaseDependants := by
  simp only [State.stepDone, st, stage, cur, met, if_true]

theorem State.stepFallen_of_down (st : (s.group g).st = .falling) (stage : (s.group g).stage = .downSent) (cur : (s.group g).cur = some k)
    (down : s.stepDown (s.step k) = true) :
    s.stepFallen g = if (s.step k).bellDown && s.coopBit 2 then s.bellPoint g else s.fallOn g := by
  simp only [State.stepFallen, st, stage, cur, down, if_true]

theorem State.stepOff_of_delay (st : (s.group g).st = .falling) (stage : (s.group g).stage = .offDelay)
    (cur : (s.group g).cur = some k) : s.stepOff g = s.sendStepDown g k := by
  simp only [State.stepOff, st, stage, cur]

theorem State.bellPoint_group : (s.bellPoint g).group g = { s.group g with stage := .bell, wait := .bell } := State.group_modGroup_self

theorem State.bellPoint_bellDrive : (s.bellPoint g).seq.bellDrive = false := rfl

/-- From `s` to `t` group `g`, with no power-up latched, has come DOWN, and GROUP_DOWN shows. -/
structure ComesDown (g : Fin 16) (s t : State) : Prop where
  st : (t.group g).st = .down
  stage : (t.group g).stage = .idle
  downAt : (t.group g).downAt = some s.now
  shows : t.Shows Ev.seq 1

theorem State.groupFallen_holds (unlatched : (s.group g).latched = false) : ComesDown g s (s.groupFallen g) := by
  unfold State.groupFallen
  extract_lets x res v z y
  have now : v.now = s.now := State.finish?_now ..
  have here : (((v.modGroup g fun _ => { y with st := .down, tag := none, wait := .none }).raise Ev.seq 1).group g) =
      { y with st := .down, tag := none, wait := .none } := by
    rw [State.group_congr (State.raise_seq ..), State.group_modGroup_self]
  rw [if_neg (by simp [x, unlatched])]
  refine ⟨?_, ?_, ?_, State.raise_seq_shows⟩ <;> rw [here]
  exact congrArg some now

/-- The last step of a falling group leaves it DOWN. -/
theorem State.fallOn_of_last (one : (s.group g).sentSteps = [k]) (unlatched : (s.group g).latched = false) :
    ComesDown g s (s.fallOn g) := by
  set v := s.modGroup g fun x => { x with sentSteps := x.sentSteps.drop 1, stage := .idle } with hv
  have here : v.group g = { s.group g with sentSteps := [], stage := .idle } := by
    rw [hv, State.group_modGroup_self, one]
    rfl
  have fallen : v.fallNext g = v.groupFallen g := by
    unfold State.fallNext
    simp only [here]
  have down : ComesDown g s (v.groupFallen g) := by
    obtain ⟨st, stage, downAt, shows⟩ := State.groupFallen_holds (s := v) (g := g) (by rw [here]; exact unlatched)
    exact ⟨st, stage, downAt, shows⟩
  have e : s.fallOn g = (v.groupFallen g).releaseDependants := by rw [← fallen]; rfl
  have stands : GroupStands g (v.groupFallen g) (v.groupFallen g).releaseDependants :=
    .releaseDependants (by rw [down.stage]; decide)
  rw [e]
  exact ⟨by rw [stands.group]; exact down.st, by rw [stands.group]; exact down.stage, by rw [stands.group]; exact down.downAt,
    State.releaseDependants_within.shows down.shows⟩

/-! ### The clauses together (O24) -/

/-- Settles O24: the commands of a step go to each rail and slave by itself, and a group that has moved stands while others are released. -/
theorem groupsRiseAndFall : Obligations.GroupsRiseAndFall := by
  refine ⟨⟨fun g s held closed first none => ?_, fun g k s held opened head built first none => ?_,
    fun g k s st stage cur admitted bus => ?_, fun g k s st stage cur met => ?_⟩, fun g k s st stage cur => ?_,
    fun g k s st stage cur down => ?_⟩
  · have waits : s.gateOne g = s.modGroup g fun x => { x with wait := s.closedGate g } := State.gateOne_of_closed held closed
    have here : (s.gateOne g).group g = { s.group g with wait := s.closedGate g } := by rw [waits, State.group_modGroup_self]
    have others (h : Fin 16) (hh : h ≠ g) : (s.gateOne g).group h = s.group h := by rw [waits, State.group_modGroup_ne hh]
    have e : s.gateTick g = s.gateOne g := by
      rw [State.gateTick_of_first first]
      refine State.releaseDependants_of_none fun h => ?_
      by_cases hh : h = g
      · rw [hh, here]
        exact none g
      · rw [others h hh]
        exact none h
    refine ⟨_, exec_eq e, ?_, ?_, others, by rw [waits]; rfl⟩
    · rw [here]
      exact held
    · rw [here]
  · obtain ⟨⟨bare, here⟩, others, within⟩ := State.startRising_holds head built
    have e : s.gateTick g = s.startRising g := by
      rw [State.gateTick_of_first first, State.gateOne_of_open held opened]
      refine State.releaseDependants_of_none fun h => ?_
      by_cases hh : h = g
      · rw [hh, here]
        exact nofun
      · rw [others h hh]
        exact none h hh
    refine ⟨_, exec_eq e, ?_, ?_, ?_, ?_, others, within.eq_withSeqOps⟩ <;> rw [here] <;> rfl
  · obtain ⟨stage', sent, groups, rails, slaves⟩ := State.sendStepUp_holds (s := s) (g := g) (k := k)
    refine ⟨_, exec_eq (State.stepGo_of_admitted st stage cur admitted bus), stage', sent, fun r hr off => ?_, fun r hr => ?_, groups,
      fun j hj => ?_, State.sendStepUp_within.sub.eq_withSeqRails⟩
    · rw [rails, if_pos hr]
      simp [RailSt.steppedUp, off]
    · rw [rails, if_neg hr]
    · rw [slaves, if_pos hj]
      exact ⟨rfl, rfl⟩
  · refine ⟨_, exec_eq (State.stepDone_of_met st stage cur met), fun up coop => ?_, fun quiet last => ?_, fun j quiet next built => ?_⟩
    · rw [if_pos (by simp [up, coop]), State.bellPoint_group]
      exact ⟨rfl, st, State.bellPoint_bellDrive⟩
    · rw [if_neg (by rcases quiet with q | q <;> simp [q]),
        State.riseNext_of_last (List.find?_eq_none.2 fun i hi => by simpa using last i hi)]
      obtain ⟨here, shows, result⟩ := State.groupUp_holds (s := s) (g := g)
      have stands : GroupStands g (s.groupUp g) (s.groupUp g).releaseDependants := .releaseDependants (by rw [here]; exact nofun)
      exact ⟨by rw [stands.group, here], State.releaseDependants_within.shows shows, stands.result.trans result⟩
    · rw [if_neg (by rcases quiet with q | q <;> simp [q]), State.riseNext_of_step (done := some k) next built]
      have here {b : Bool} : (s.modGroup g (·.asks j b)).group g = (s.group g).asks j b := State.group_modGroup_self
      rw [(GroupStands.releaseDependants (by rw [here]; exact nofun)).group, here]
      exact ⟨rfl, rfl⟩
  · obtain ⟨stage', st', groups, rails, slaves⟩ := State.sendStepDown_holds (s := s) (g := g) (k := k)
    refine ⟨_, exec_eq (State.stepOff_of_delay st stage cur), stage', st'.trans st, fun r hr off built => ?_, fun r hr => ?_, groups,
      fun j hj here => ?_, State.sendStepDown_within.mram, State.sendStepDown_within.modes⟩
    · rw [rails, if_pos hr]
      simp [RailSt.steppedDown, off, built]
    · rw [rails, if_neg hr]
    · rw [slaves, if_pos hj]
      simp [SlaveSt.steppedDown, here]
  · refine ⟨_, exec_eq (State.stepFallen_of_down st stage cur down), fun bell coop => ?_, fun quiet one unlatched => ?_⟩
    · rw [if_pos (by simp [bell, coop]), State.bellPoint_group]
      exact ⟨rfl, State.bellPoint_bellDrive⟩
    · rw [if_neg (by rcases quiet with q | q <;> simp [q])]
      obtain ⟨fell, -, downAt, shows⟩ := State.fallOn_of_last one unlatched
      exact ⟨fell, downAt, shows⟩

end Sys2Proof.Machine
end

section
/-! The legacy master: its transactions with slaves (R164, R165). -/

set_option Elab.async false

namespace Sys2Proof.Machine

variable {s t u : State} {f : LegFrame} {k j : Fin 8} {g : Fin 16}

/-! ### The bytes of a reply (R164) -/

theorem LegFrame.reads_statusRead {a : Nat} {b : Byte} : LegFrame.statusRead.reads a (replyBytes a 0x20 [b]) = some [b] := by
  simp [LegFrame.reads, replyBytes]

theorem LegFrame.reads_idRead {a : Nat} {b₀ b₁ b₂ : Byte} :
    LegFrame.idRead.reads a (replyBytes a 0x01 [b₀, b₁, b₂]) = some [b₀, b₁, b₂] := by
  simp [LegFrame.reads, replyBytes]

theorem ofLE_single {b : Byte} : ofLE [b] = b.toNat := by simp [ofLE]

/-! ### A transaction ends (R165) -/

/-- The bus shows the frame that the master has sent to slave `k`. -/
def State.sending (s : State) (k : Fin 8) (f : LegFrame) : State := { s with bus := { s.bus with sent := f.bytes (0x58 + k.val) } }

theorem State.sending_within : Within (parts [.bus]) s (s.sending k f) := .set_bus

theorem State.legacyReply_nack (runs : s.legacyRun k = some f) : s.legacyReply k .nack = (s.sending k f).slaveFails k := by
  unfold State.legacyReply
  rw [runs]
  rfl

theorem State.legacyReply_unread {bs : Bytes} (runs : s.legacyRun k = some f) (bad : f.reads (0x58 + k.val) bs = none) :
    s.legacyReply k (.data bs) = (s.sending k f).slaveFails k := by
  unfold State.legacyReply
  simp only [runs, bad]
  rfl

theorem State.legacyReply_read {bs d : Bytes} (runs : s.legacyRun k = some f) (good : f.reads (0x58 + k.val) bs = some d) :
    s.legacyReply k (.data bs) = (s.sending k f).legacyDone k f d := by
  unfold State.legacyReply
  simp only [runs, good]
  rfl

theorem State.legacyRun_owed {rest : List LegFrame} (owed : (s.slave k).owed = f :: rest) : s.legacyRun k = some f := by
  unfold State.legacyRun
  rw [owed]

theorem State.legacyRun_status (owed : (s.slave k).owed = []) (named : s.stepNames k = true) (here : (s.slave k).lost = false) :
    s.legacyRun k = some .statusRead := by
  unfold State.legacyRun
  rw [owed]
  simp [named, here]

/-- A slave that a rising step waits for is named by a running step. -/
theorem State.stepNames_of_slaveGroup (named : s.slaveGroup k = some g) : s.stepNames k = true := by
  have rising := List.find?_some named
  unfold State.stepNames
  refine List.any_eq_true.2 ⟨g, List.mem_finRange g, ?_⟩
  dsimp only at rising ⊢
  rw [Bool.and_eq_true] at rising ⊢
  obtain ⟨sent, names⟩ := rising
  exact ⟨by rw [sent, Bool.true_or], names⟩

/-- Which group waits for a slave depends on the groups and the step table alone. -/
theorem State.slaveGroup_congr (groups : ∀ g, t.group g = s.group g) (steps : ∀ n, t.step n = s.step n) :
    t.slaveGroup k = s.slaveGroup k := by
  simp only [State.slaveGroup, groups, steps]

/-- A slave after a transaction that is complete. -/
def SlaveSt.served (x : SlaveSt) : SlaveSt := { x with fails := 0, retry := false, owed := x.owed.drop 1 }

/-- A slave after a transaction that has failed. -/
def SlaveSt.failed (x : SlaveSt) : SlaveSt := { x with fails := x.fails + 1, retry := true }

/-- A slave that is lost. -/
def SlaveSt.gone (x : SlaveSt) : SlaveSt := { x with lost := true, fails := 0, retry := false, done := false, owed := [] }

theorem State.slaveFails_of_few (few : (s.slave k).fails < 2) : s.slaveFails k = s.modSlave k SlaveSt.failed := by
  unfold State.slaveFails
  exact if_neg (by omega)

theorem State.slaveFails_of_third (third : 2 ≤ (s.slave k).fails) : s.slaveFails k = s.loseSlave k := by
  unfold State.slaveFails
  exact if_pos third

/-- The failed attempt leaves a retry due, and nothing but the slave and the bus changes. -/
theorem State.sending_fails (few : (s.slave k).fails < 2) :
    (((s.sending k f).slaveFails k).slave k).fails = (s.slave k).fails + 1 ∧ (((s.sending k f).slaveFails k).slave k).retry = true ∧
      (∀ j, j ≠ k → ((s.sending k f).slaveFails k).slave j = s.slave j) ∧
      (s.sending k f).slaveFails k =
        { s with seq := ((s.sending k f).slaveFails k).seq, bus := ((s.sending k f).slaveFails k).bus } := by
  rw [State.slaveFails_of_few (s := s.sending k f) few]
  have here : ((s.sending k f).modSlave k SlaveSt.failed).slave k = (s.slave k).failed := State.slave_modSlave_self
  refine ⟨by rw [here]; rfl, by rw [here]; rfl, fun j hj => State.slave_modSlave_ne (s := s.sending k f) hj, rfl⟩

/-! ### A status byte (R164) -/

/-- The state in which a slave's byte is put down. -/
def State.noted (s : State) (k : Fin 8) (b : Byte) : State := s.put (K.SEQ_LEGACY_STATUS k) (b.toNat : Int)

theorem State.noted_objectsKept {b : Byte} : ObjectsKept s (s.noted k b) [K.SEQ_LEGACY_STATUS k] := fun _ hk =>
  State.get_put_ne _ (by simpa using hk) _

theorem State.noted_within {b : Byte} : Within (parts [.objs]) s (s.noted k b) :=
  State.put_plain (keyParts_SEQ_LEGACY_STATUS (k.castLE (by decide)))

theorem State.noted_step {b : Byte} (n : Nat) : (s.noted k b).step n = s.step n :=
  State.step_of_get (fun key hk => State.noted_objectsKept key (by simp only [List.mem_singleton, K.SEQ_LEGACY_STATUS]; omega)) n

theorem State.noted_slaveGroup {b : Byte} : (s.noted k b).slaveGroup k = s.slaveGroup k :=
  State.slaveGroup_congr (fun _ => rfl) State.noted_step

theorem State.put_status {b : Byte} : s.put (K.SEQ_LEGACY_STATUS k) ((ofLE [b] % 256 : Nat) : Int) = s.noted k b := by
  rw [ofLE_single, Nat.mod_eq_of_lt b.isLt]
  rfl

/-- A status byte of a slave that no rising step waits for is put down. -/
theorem State.slaveStatus_of_unnamed {b : Byte} (none : s.slaveGroup k = none) : s.slaveStatus k (ofLE [b]) = s.noted k b := by
  unfold State.slaveStatus
  rw [State.put_status]
  simp only [State.noted_slaveGroup, none]

/-- STAGE_DONE of the stage that a rising step waits for, without a fault, is put down for the slave as well. -/
theorem State.slaveStatus_of_stage {n : Nat} {b : Byte} (named : s.slaveGroup k = some g) (cur : (s.group g).cur = some n)
    (sound : b.toNat.testBit 1 = false) (done : b.toNat.testBit 0 = true) (stage : b.toNat / 16 = (s.step n).stage) :
    s.slaveStatus k (ofLE [b]) = (s.noted k b).modSlave k fun x => { x with done := true } := by
  have cur' : ((s.noted k b).group g).cur = some n := cur
  have stage' : b.toNat / 16 % 16 = (s.step n).stage := by omega
  unfold State.slaveStatus
  rw [State.put_status]
  simp only [State.noted_slaveGroup, named, ofLE_single, sound, done, cur', State.noted_step]
  simp [stage']

/-- The state in which slave `k` has completed a transaction. -/
def State.serving (s : State) (k : Fin 8) (f : LegFrame) : State := (s.sending k f).modSlave k SlaveSt.served

theorem State.serving_slave : (s.serving k f).slave k = (s.slave k).served := State.slave_modSlave_self (s := s.sending k f)

theorem State.serving_slave_ne (ne : j ≠ k) : (s.serving k f).slave j = s.slave j := State.slave_modSlave_ne (s := s.sending k f) ne

theorem State.serving_within : Within (parts [.seq, .bus]) s (s.serving k f) := State.sending_within.sub.next State.modSlave_within

theorem State.legacyDone_status {b : Byte} :
    (s.sending k .statusRead).legacyDone k .statusRead [b] = (s.serving k .statusRead).slaveStatus k (ofLE [b]) := rfl

/-! ### A slave is lost, or put to use again (R165) -/

/-- The state in which slave `k` is lost, and its bit and LEGACY_LOST say so. -/
def State.lostSlave (s : State) (k : Fin 8) : State :=
  ((s.modSlave k SlaveSt.gone).put K.SEQ_LEGACY_LOST (setBit (s.get K.SEQ_LEGACY_LOST) k)).raise Ev.seq 8

theorem State.lostSlave_slave : (s.lostSlave k).slave k = (s.slave k).gone :=
  (State.slave_congr (State.raise_seq ..)).trans (State.slave_modSlave_self (s := s))

theorem State.lostSlave_slave_ne (ne : j ≠ k) : (s.lostSlave k).slave j = s.slave j :=
  (State.slave_congr (State.raise_seq ..)).trans (State.slave_modSlave_ne (s := s) ne)

theorem State.lostSlave_shows : (s.lostSlave k).Shows Ev.seq 8 := State.raise_seq_shows

theorem State.lostSlave_get : bitOf ((s.lostSlave k).get K.SEQ_LEGACY_LOST) k = true := by
  unfold State.lostSlave
  rw [State.raise_objectsKept _ (by decide), State.get_put_self, bitOf_setBit]
  simp

theorem State.lostSlave_within : Within (parts [.objs, .ints, .seq, .net]) s (s.lostSlave k) :=
  (State.modSlave_within.sub.next State.put_within).next State.raise_within

theorem State.lostSlave_slaveGroup : (s.lostSlave k).slaveGroup k = s.slaveGroup k := by
  refine State.slaveGroup_congr (fun _ => (State.group_congr (State.raise_seq ..)).trans rfl) (State.step_of_get fun key hk => ?_)
  have event : key ∉ eventObjects Ev.seq := by
    simp only [eventObjects, Ev.seq, List.mem_cons, List.not_mem_nil, or_false, K.SEQ_EVENT, K.NET_EVENTS_DROPPED, K.NET_EVENT]
    omega
  exact (State.raise_objectsKept key event).trans (State.get_put_ne _ (by simp only [K.SEQ_LEGACY_LOST]; omega) _)

theorem State.loseSlave_of_unnamed (none : s.slaveGroup k = none) : s.loseSlave k = s.lostSlave k := by
  have none' : (s.lostSlave k).slaveGroup k = Option.none := State.lostSlave_slaveGroup.trans none
  unfold State.loseSlave
  extract_lets v w
  change (match (s.lostSlave k).slaveGroup k with | some _ => _ | .none => _) = _
  rw [none']
  rfl

/-- The state in which the answer to an ID_READ has put slave `k` to use. -/
def State.identified (s : State) (k : Fin 8) : State :=
  ((s.serving k .idRead).modSlave k fun x => { x with lost := false }).put K.SEQ_LEGACY_LOST
    ((s.getN K.SEQ_LEGACY_LOST &&& (0xFF ^^^ 2 ^ k.val) : Nat) : Int)

theorem State.legacyDone_identity {ver : Byte} :
    (s.sending k .idRead).legacyDone k .idRead [0x10#8, 0x44#8, ver] = s.identified k := rfl

theorem State.identified_slave : (s.identified k).slave k = { (s.slave k).served with lost := false } := by
  rw [← State.serving_slave (f := .idRead)]
  exact State.slave_modSlave_self (s := s.serving k .idRead) (f := fun x => { x with lost := false })

theorem State.identified_objectsKept : ObjectsKept s (s.identified k) [K.SEQ_LEGACY_LOST] := fun _ hk =>
  State.get_put_ne _ (by simpa using hk) _

theorem State.identified_within : Within (parts [.seq, .objs, .bus]) s (s.identified k) :=
  (State.serving_within.sub.next State.modSlave_within).next State.put_within

/-! ### What a transaction's end does (R165) -/

theorem exec_legacyPoll {r : LegacyReply} (polls : s.masterPolls k = true) (first : (s.slave k).retry = false) :
    exec (.legacyPoll k r) s = .next (s.legacyReply k r) := by
  have e : (if s.masterPolls k && !(s.slave k).retry then s.legacyReply k r else s) = s.legacyReply k r :=
    if_pos (by simp [polls, first])
  exact exec_eq e

theorem exec_legacyRetry {r : LegacyReply} (polls : s.masterPolls k = true) (again : (s.slave k).retry = true) :
    exec (.legacyRetry k r) s = .next (s.legacyReply k r) := by
  have e : (if s.masterPolls k && (s.slave k).retry then s.legacyReply k r else s) = s.legacyReply k r :=
    if_pos (by simp [polls, again])
  exact exec_eq e

/-- STATUS_READ of a slave that no rising step waits for puts its byte down. -/
theorem exec_legacyPoll_unnamed {b : Byte} (polls : s.masterPolls k = true) (first : (s.slave k).retry = false)
    (runs : s.legacyRun k = some .statusRead) (none : s.slaveGroup k = none) :
    exec (.legacyPoll k (.data (replyBytes (0x58 + k.val) 0x20 [b]))) s = .next ((s.serving k .statusRead).noted k b) := by
  rw [exec_legacyPoll polls first, State.legacyReply_read runs LegFrame.reads_statusRead, State.legacyDone_status,
    State.slaveStatus_of_unnamed (s := s.serving k .statusRead) none]

/-- STATUS_READ that brings the stage a rising step waits for puts that down as well. -/
theorem exec_legacyPoll_stage {b : Byte} {n : Nat} (polls : s.masterPolls k = true) (first : (s.slave k).retry = false)
    (runs : s.legacyRun k = some .statusRead) (named : s.slaveGroup k = some g) (cur : (s.group g).cur = some n)
    (sound : b.toNat.testBit 1 = false) (done : b.toNat.testBit 0 = true) (stage : b.toNat / 16 = (s.step n).stage) :
    exec (.legacyPoll k (.data (replyBytes (0x58 + k.val) 0x20 [b]))) s =
      .next (((s.serving k .statusRead).noted k b).modSlave k fun x => { x with done := true }) := by
  rw [exec_legacyPoll polls first, State.legacyReply_read runs LegFrame.reads_statusRead, State.legacyDone_status,
    State.slaveStatus_of_stage (s := s.serving k .statusRead) named cur sound done stage]

/-- The third failure in a row loses a slave that no rising step waits for. -/
theorem exec_legacyRetry_third (polls : s.masterPolls k = true) (again : (s.slave k).retry = true) (third : 2 ≤ (s.slave k).fails)
    (runs : s.legacyRun k = some f) (none : s.slaveGroup k = none) :
    exec (.legacyRetry k .nack) s = .next ((s.sending k f).lostSlave k) := by
  rw [exec_legacyRetry polls again, State.legacyReply_nack runs, State.slaveFails_of_third (s := s.sending k f) third,
    State.loseSlave_of_unnamed (s := s.sending k f) none]

/-- An ID_READ that answers 0x4410. -/
theorem exec_legacyRetry_identity {ver : Byte} {rest : List LegFrame} (polls : s.masterPolls k = true)
    (again : (s.slave k).retry = true) (owed : (s.slave k).owed = .idRead :: rest) :
    exec (.legacyRetry k (.data (replyBytes (0x58 + k.val) 0x01 [0x10#8, 0x44#8, ver]))) s = .next (s.identified k) := by
  rw [exec_legacyRetry polls again, State.legacyReply_read (State.legacyRun_owed owed) LegFrame.reads_idRead,
    State.legacyDone_identity]

end Sys2Proof.Machine
end

section
/-! The legacy slave: its frames, its group commands and what it answers (R144, R156, R164, R167). -/

set_option Elab.async false

namespace Sys2Proof.Machine

variable {s t u v : State} {g : Fin 16} {n k a code crc : Nat}

/-! ### Frames (R164, R167) -/

theorem State.legacyFrame_of_slave {f : State → State × Answer} (slave : s.legacySlave = true) :
    s.legacyFrame legacyAddr f = { (f s).1 with answer := (f s).2 } := by
  unfold State.legacyFrame
  exact if_pos (by simp [slave])

/-- A frame for another target, or one outside slave mode, is not answered. -/
theorem State.legacyFrame_silent {f : State → State × Answer} (other : s.legacySlave = false ∨ a ≠ legacyAddr) :
    s.legacyFrame a f = { s with answer := .silent } := by
  unfold State.legacyFrame
  exact if_neg (by rcases other with o | o <;> simp [o])

theorem writeFrame_eq_iff {b : Byte} :
    writeFrame a code n = [addressByte a false, BitVec.ofNat 8 code, BitVec.ofNat 8 n, b] ↔
      legacyCrc [addressByte a false, BitVec.ofNat 8 code, BitVec.ofNat 8 n] = b := by
  simp [writeFrame]

/-- The frame's own CRC is accepted. -/
theorem State.legacyWrite_accepts {f : State → State} (slave : s.legacySlave = true) :
    s.legacyWrite legacyAddr code n (slaveCrc code n) f = { f s with answer := .done } := by
  have good : writeFrame legacyAddr code n =
      [addressByte legacyAddr false, BitVec.ofNat 8 code, BitVec.ofNat 8 n, BitVec.ofNat 8 (slaveCrc code n)] := by
    rw [writeFrame_eq_iff, slaveCrc, BitVec.ofNat_toNat, BitVec.setWidth_eq]
  unfold State.legacyWrite
  rw [State.legacyFrame_of_slave slave]
  simp only [if_pos good]

/-- Any other CRC discards the frame. -/
theorem State.legacyWrite_discards {f : State → State} {e : Nat} (he : 0 < e) (hb : e < 256) :
    s.legacyWrite legacyAddr code n (slaveCrc code n + e) f = { s with answer := .silent } := by
  have bad : ¬ writeFrame legacyAddr code n =
      [addressByte legacyAddr false, BitVec.ofNat 8 code, BitVec.ofNat 8 n, BitVec.ofNat 8 (slaveCrc code n + e)] := by
    rw [writeFrame_eq_iff, slaveCrc]
    generalize legacyCrc _ = c
    intro h
    have same := congrArg BitVec.toNat h
    rw [BitVec.toNat_ofNat] at same
    omega
  unfold State.legacyWrite
  by_cases slave : s.legacySlave = true
  · rw [State.legacyFrame_of_slave slave]
    simp only [if_neg bad]
  · exact State.legacyFrame_silent (.inl (by simpa using slave))

theorem State.legacyWrite_silent {f : State → State} (other : s.legacySlave = false ∨ a ≠ legacyAddr) :
    s.legacyWrite a code n crc f = { s with answer := .silent } := State.legacyFrame_silent other

/-! ### An accepted command is counted and reported (R167) -/

theorem State.legacyAccepted_shows : s.legacyAccepted.Shows Ev.seq 9 := State.raise_seq_shows

/-- A count below its end rises by one. -/
theorem State.bump_of_below {key : Nat} {d : ObjDef} (row : Dict.find key = some d) (below : s.get key + 1 < 2 ^ (8 * d.size) - 1) :
    s.bump key = s.put key (s.get key + 1) := by
  have one : s.addSat key 1 = (s.put key (s.get key + 1), false) := by
    unfold State.addSat
    simp only [row]
    have least : min ((2 : Int) ^ (8 * d.size) - 1) (s.get key + ((1 : Nat) : Int)) = s.get key + 1 := min_eq_right (by omega)
    rw [least]
    simp only [Prod.mk.injEq, true_and, Bool.and_eq_false_iff, decide_eq_false_iff_not]
    omega
  unfold State.bump
  rw [one]

/-- The dictionary's row of `SEQ_LEGACY_CMD_COUNT`. -/
def legacyCountRow : ObjDef :=
  { index := 0x21A0, subLo := 0x6, subHi := 0x6, type := .u32, access := .ro, size := 4, kind := .counter 0x2183 0x0 10 }

theorem State.legacyAccepted_get (below : s.get K.SEQ_LEGACY_CMD_COUNT < 4294967294) :
    s.legacyAccepted.get K.SEQ_LEGACY_CMD_COUNT = s.get K.SEQ_LEGACY_CMD_COUNT + 1 := by
  have row : Dict.find K.SEQ_LEGACY_CMD_COUNT = some legacyCountRow := by decide +kernel
  have size : (2 : Int) ^ (8 * legacyCountRow.size) - 1 = 4294967295 := by decide
  unfold State.legacyAccepted
  rw [State.raise_objectsKept _ (by decide), State.bump_of_below row (by omega), State.get_put_self]

theorem State.legacyAllOff_of_down (mode : s.groupMode = true) (down : ∀ g, (s.group g).st = .down) :
    s.legacyAllOff = s.legacyAccepted := by
  have skip : (List.finRange 16).foldl (fun (s : State) (g : Fin 16) =>
      if (s.group g).st = .down then s
      else match s.groupCommand g false .host with
        | some (t, _) => t.releaseDependants
        | none => s.countFull) s = s := foldl_eq_self fun g _ => if_pos (down g)
  unfold State.legacyAllOff
  rw [if_neg (by simp [mode])]
  exact congrArg State.legacyAccepted skip

/-! ### A group command takes a tag (R144, R145, R156) -/

/-- From `s` to `t` a group command of some kind has taken tag `n`, and nothing but objects, operations and reports has changed. -/
structure TakesTag (n : Nat) (kind : OpKind) (s t : State) : Prop where
  entry : (t.op n).kind = kind ∧ (t.op n).joined = none
  within : Within (parts [.objs, .ops, .ints, .net]) s t
  objects : ∀ g, t.get (K.GRP_AFTER g) = s.get (K.GRP_AFTER g)

theorem State.allocTag_objectsKept {kind : OpKind} {by_ : Issuer} {key : Nat} (h : s.allocTag kind by_ key = some (t, n)) :
    ObjectsKept s t (eventObjects Ev.op) := by
  unfold State.allocTag at h
  split at h
  · cases h
  · cases h
    intro key hk
    dsimp only
    split
    · exact (State.raise_objectsKept key hk).trans rfl
    · rfl

theorem State.takesTag_of_next (next : s.nextTag = some n) (kind : OpKind) (by_ : Issuer) (g : Fin 16) :
    ∃ t, s.allocTag kind by_ (K.GRP_CMD g) = some (t, n) ∧ TakesTag n kind s (t.put (K.GRP_TAG g) n) := by
  obtain ⟨t, alloc, entry⟩ := State.allocTag_of_next (kind := kind) (by_ := by_) (key := K.GRP_CMD g) next
  refine ⟨t, alloc, ?_, (State.allocTag_some_within alloc).sub.next (State.put_plain ?_), fun h => ?_⟩
  · have same : (t.put (K.GRP_TAG g) n).op n = t.op n := rfl
    rw [same, entry]
    exact ⟨rfl, rfl⟩
  · exact keyParts_of_range (by simp only [K.GRP_TAG]; omega)
  · refine (State.get_put_ne _ (by simp only [K.GRP_AFTER, K.GRP_TAG]; omega) _).trans (State.allocTag_objectsKept alloc _ ?_)
    simp only [eventObjects, Ev.op, List.mem_cons, List.not_mem_nil, or_false, K.GRP_AFTER, K.OP_EVENT, K.NET_EVENTS_DROPPED, K.NET_EVENT]
    omega

/-- A DOWN group whose power-up waits for the next management tick. -/
def GroupSt.awaits (x : GroupSt) (n : Nat) : GroupSt := { x with waiting := true, latchTag := some n }

theorem State.groupCommand_up (next : s.nextTag = some n) (down : (s.group g).st = .down) (fresh : (s.group g).waiting = false)
    (by_ : Issuer) : ∃ t, s.groupCommand g true by_ = some (t.modGroup g (·.awaits n), n) ∧ TakesTag n .groupUp s t := by
  obtain ⟨t, alloc, takes⟩ := State.takesTag_of_next next .groupUp by_ g
  refine ⟨t.put (K.GRP_TAG g) n, ?_, takes⟩
  have here : (t.put (K.GRP_TAG g) n).group g = s.group g := State.group_congr takes.within.seq
  unfold State.groupCommand
  simp only [if_true, alloc, State.powerUp, here, State.joinUp, down, fresh]
  rfl

/-- The groups that hang on one depend on `GRP_AFTER` and on the groups. -/
theorem State.dependants_congr (after : ∀ h, t.get (K.GRP_AFTER h) = s.get (K.GRP_AFTER h))
    (groups : ∀ h, (t.group h).st = (s.group h).st) :
    t.dependants g = s.dependants g := by
  simp only [State.dependants, after, groups]

theorem State.modGroup_modGroup {f f' : GroupSt → GroupSt} : (s.modGroup g f).modGroup g f' = s.modGroup g fun x => f' (f x) := by
  simp [State.modGroup]

/-- A group that starts FALLING from UP with the off delay of step `k`. -/
def GroupSt.startsDown (x : GroupSt) (k : Nat) : GroupSt :=
  { x with st := .falling, admitted := false, deferred := false, reverseStep := none, stage := .offDelay, wait := .stepDelay, cur := some k }

theorem State.startFalling_of_up (up : (s.group g).st = .up) (idle : (s.group g).stage = .idle)
    (last : (s.group g).sentSteps.head? = some k) : s.startFalling g = (s.dropShed g).modGroup g (·.startsDown k) := by
  obtain ⟨rest, sent⟩ : ∃ rest, (s.group g).sentSteps = k :: rest := by
    cases e : (s.group g).sentSteps with
    | nil =>
      rw [e] at last
      cases last
    | cons i rest =>
      rw [e] at last
      cases last
      exact ⟨rest, rfl⟩
  have here : (s.dropShed g).group g = s.group g := State.group_congr State.dropShed_within.seq
  unfold State.startFalling State.fallNext
  simp only [idle, up, reduceCtorEq, decide_false, Bool.or_self, Bool.false_eq_true, if_false, here, sent, State.group_modGroup_self,
    State.modGroup_modGroup]
  rfl

/-- From `s` to `t` group `g` has started FALLING under tag `n` with the off delay of step `k`, and the other groups stand. -/
structure StartsDown (g : Fin 16) (n k : Nat) (s t : State) : Prop where
  group : t.group g = { s.group g with tag := some n }.startsDown k
  others : ∀ h, h ≠ g → t.group h = s.group h
  within : Within (parts [.rails, .seq]) s t

theorem State.downOne_of_up (up : (s.group g).st = .up) (idle : (s.group g).stage = .idle)
    (last : (s.group g).sentSteps.head? = some k) (alone : s.dependants g = []) : StartsDown g n k s (s.downOne g (some n)) := by
  set v := (s.modGroup g fun y => { y with tag := some n }).dropShed g with hv
  have seq : v.seq = (s.modGroup g fun y => { y with tag := some n }).seq := State.dropShed_within.seq
  have here : v.group g = { s.group g with tag := some n } := (State.group_congr seq).trans State.group_modGroup_self
  have others (h : Fin 16) (hh : h ≠ g) : v.group h = s.group h := (State.group_congr seq).trans (State.group_modGroup_ne hh)
  have within : Within (parts [.rails, .seq]) s v := State.modGroup_within.sub.next State.dropShed_within
  have alone' : v.dependants g = [] := by
    rw [← alone]
    refine State.dependants_congr (fun h => State.get_congr (within.same .objs rfl)) fun h => ?_
    by_cases hh : h = g
    · rw [hh, here]
    · rw [others h hh]
  have starts : v.startFalling g = (v.dropShed g).modGroup g (·.startsDown k) :=
    State.startFalling_of_up (by rw [here]; exact up) (by rw [here]; exact idle) (by rw [here]; exact last)
  have e : s.downOne g (some n) = (v.dropShed g).modGroup g (·.startsDown k) := by
    unfold State.downOne
    simp only [up, Option.isNone_some, Bool.and_false, Bool.false_eq_true, if_false]
    refine Eq.trans (if_pos ?_) starts
    exact List.isEmpty_iff.2 alone'
  have seq' : (v.dropShed g).seq = v.seq := State.dropShed_within.seq
  rw [e]
  refine ⟨?_, fun h hh => ?_, (within.next State.dropShed_within).next State.modGroup_within⟩
  · rw [State.group_modGroup_self, State.group_congr seq', here]
  · rw [State.group_modGroup_ne hh, State.group_congr seq', others h hh]

theorem State.groupCommand_down (next : s.nextTag = some n) (up : (s.group g).st = .up) (idle : (s.group g).stage = .idle)
    (last : (s.group g).sentSteps.head? = some k) (alone : s.dependants g = []) (by_ : Issuer) :
    ∃ t u, s.groupCommand g false by_ = some (u, n) ∧ TakesTag n .groupDown s t ∧ StartsDown g n k t u := by
  obtain ⟨v, alloc, takes⟩ := State.takesTag_of_next next .groupDown by_ g
  set t := v.put (K.GRP_TAG g) n with ht
  have groups (h : Fin 16) : t.group h = s.group h := State.group_congr takes.within.seq
  have alone' : t.dependants g = [] := by rw [State.dependants_congr takes.objects fun h => by rw [groups], alone]
  obtain ⟨-, joined⟩ := takes.entry
  refine ⟨t, t.downOne g (some n), ?_, takes, State.downOne_of_up ?_ ?_ ?_ alone'⟩
  · unfold State.groupCommand State.powerDown
    simp only [Bool.false_eq_true, if_false, alloc, ← ht, groups, up, idle, reduceCtorEq, decide_false, Bool.or_self, joined,
      Option.isSome_none, alone']
    rfl
  · rw [groups, up]
  · rw [groups, idle]
  · rw [groups, last]

/-! ### STAGE_GO and STAGE_DOWN (R167) -/

/-- The state in which the slave has noted its last group command. -/
def State.commands (s : State) (g : Fin 16) (up : Bool) : State :=
  { s with seq := { s.seq with lastGroup := g.val, lastGo := up, commanded := true } }

theorem State.legacyGroup_of_command {up : Bool} (mode : s.groupMode = true) (taken : s.groupCommand g up .host = some (t, n))
    (none : t.NoneWaits) : s.legacyGroup g up = (t.commands g up).legacyAccepted := by
  unfold State.legacyGroup
  rw [if_neg (by simp [mode]), taken]
  dsimp only
  rw [State.releaseDependants_of_none none]
  rfl

/-- What a group command leaves, the slave's note of it and the count leave as it is. -/
theorem State.commands_accepted {up : Bool} : (∀ h, (t.commands g up).legacyAccepted.group h = t.group h) ∧
    (t.commands g up).legacyAccepted.seq = (t.commands g up).seq ∧ (t.commands g up).legacyAccepted.rails = t.rails ∧
    (t.commands g up).legacyAccepted.ops = t.ops := by
  have within : Within (parts [.objs, .deferred, .afterBoot, .ints, .net]) (t.commands g up) (t.commands g up).legacyAccepted :=
    State.legacyAccepted_within
  exact ⟨fun h => (State.group_congr within.seq).trans rfl, within.seq, within.rails, within.ops⟩

/-- From `s` to `t` the slave has passed on a command of kind `kind` to group `g`, under tag `n`. -/
structure Commands (g : Fin 16) (n : Nat) (up : Bool) (kind : OpKind) (s t : State) : Prop where
  lastGroup : t.seq.lastGroup = g.val
  lastGo : t.seq.lastGo = up
  commanded : t.seq.commanded = true
  kind : (t.op n).kind = kind
  others : ∀ h, h ≠ g → t.group h = s.group h

/-- STAGE_GO of a DOWN group. -/
theorem State.legacyGroup_go (mode : s.groupMode = true) (next : s.nextTag = some n) (none : s.NoneWaits)
    (down : (s.group g).st = .down) (fresh : (s.group g).waiting = false) :
    Commands g n true .groupUp s (s.legacyGroup g true) ∧ ((s.legacyGroup g true).group g).waiting = true ∧
      (s.legacyGroup g true).rails = s.rails := by
  obtain ⟨t, taken, takes⟩ := State.groupCommand_up next down fresh .host
  set u := t.modGroup g (·.awaits n) with hu
  have groups (h : Fin 16) : t.group h = s.group h := State.group_congr takes.within.seq
  have here : u.group g = (s.group g).awaits n := by rw [hu, State.group_modGroup_self, groups]
  have others (h : Fin 16) (hh : h ≠ g) : u.group h = s.group h := by rw [hu, State.group_modGroup_ne hh, groups]
  have none' : u.NoneWaits := fun h => by
    by_cases hh : h = g
    · rw [hh, here]
      exact none g
    · rw [others h hh]
      exact none h
  obtain ⟨groups', seq, rails, ops⟩ := State.commands_accepted (t := u) (g := g) (up := true)
  rw [State.legacyGroup_of_command mode taken none']
  refine ⟨⟨?_, ?_, ?_, ?_, fun h hh => (groups' h).trans (others h hh)⟩, ?_, rails.trans takes.within.rails⟩
  · rw [seq]; rfl
  · rw [seq]; rfl
  · rw [seq]; rfl
  · rw [State.op_congr ops]
    exact takes.entry.1
  · rw [groups', here]
    rfl

/-- STAGE_DOWN of an UP group on which no other hangs. -/
theorem State.legacyGroup_down (mode : s.groupMode = true) (next : s.nextTag = some n) (none : s.NoneWaits)
    (up : (s.group g).st = .up) (idle : (s.group g).stage = .idle) (last : (s.group g).sentSteps.head? = some k)
    (alone : s.dependants g = []) :
    Commands g n false .groupDown s (s.legacyGroup g false) ∧ ((s.legacyGroup g false).group g).st = .falling := by
  obtain ⟨t, u, taken, takes, here, others, within⟩ := State.groupCommand_down next up idle last alone .host
  have groups (h : Fin 16) : t.group h = s.group h := State.group_congr takes.within.seq
  have none' : u.NoneWaits := fun h => by
    by_cases hh : h = g
    · rw [hh, here]
      exact nofun
    · rw [others h hh, groups]
      exact none h
  obtain ⟨groups', seq, -, ops⟩ := State.commands_accepted (t := u) (g := g) (up := false)
  rw [State.legacyGroup_of_command mode taken none']
  refine ⟨⟨?_, ?_, ?_, ?_, fun h hh => (groups' h).trans ((others h hh).trans (groups h))⟩, ?_⟩
  · rw [seq]; rfl
  · rw [seq]; rfl
  · rw [seq]; rfl
  · rw [State.op_congr ops, State.op_congr within.ops]
    exact takes.entry.1
  · rw [groups', here]
    rfl

/-! ### FAULT_CLEAR (R53, R167) -/

theorem State.legacyClear_of_allowed (allowed : s.flag K.SEQ_LEGACY_ALLOW_CLEAR = true) (failsafe : s.modes.mode = .failsafe)
    (cause : s.get K.FS_CAUSE ≠ 5) (vin : s.path.inService = true) :
    s.legacyClear.modes.mode = .idle ∧ s.legacyClear.modes.fsLatched = false := by
  have accepted : Within (parts [.objs, .deferred, .afterBoot, .ints, .net]) s s.legacyAccepted := State.legacyAccepted_within
  have e : s.legacyClear = s.legacyAccepted.fsClear .fsClearCommand := if_pos allowed
  rw [e]
  generalize s.legacyAccepted = t at accepted
  have h := State.fsClear_holds (s := t) (why := .fsClearCommand) (by rw [accepted.modes, failsafe]) (by rw [accepted.path, vin])
    (by rw [accepted.fsCause]; exact cause)
  obtain ⟨mode, latched, -⟩ := h
  exact ⟨mode, latched⟩

/-! ### What the slave answers at its address (R167) -/

theorem exec_legacyStatusRead_of_slave (slave : s.legacySlave = true) : exec (.legacyStatusRead State.legacyAddr) s =
    .next { s.legacyAccepted with answer := .data (replyBytes State.legacyAddr 0x20 (toLE 1 s.legacyStatus)) } :=
  exec_eq (State.legacyFrame_of_slave slave)

theorem exec_legacyIdRead_of_slave (slave : s.legacySlave = true) : exec (.legacyIdRead State.legacyAddr) s =
    .next { s.legacyAccepted with answer := .data (replyBytes State.legacyAddr 0x01 [0x10#8, 0x44#8, 0x68#8]) } :=
  exec_eq (State.legacyFrame_of_slave slave)

theorem exec_legacyStageGo_of_slave (slave : s.legacySlave = true) :
    exec (.legacyStageGo State.legacyAddr g (slaveCrc 0x10 g)) s = .next { s.legacyGroup g true with answer := .done } :=
  exec_eq (State.legacyWrite_accepts (f := fun s => s.legacyGroup g true) slave)

theorem exec_legacyStageDown_of_slave (slave : s.legacySlave = true) :
    exec (.legacyStageDown State.legacyAddr g (slaveCrc 0x11 g)) s = .next { s.legacyGroup g false with answer := .done } :=
  exec_eq (State.legacyWrite_accepts (f := fun s => s.legacyGroup g false) slave)

/-! ### The clauses together (O26) -/

/-- Settles O26: a transaction does what its reply brings, and the slave answers at its own address the frames whose CRC is right. -/
theorem legacyMasterAndSlave : Obligations.LegacyMasterAndSlave := by
  refine ⟨⟨fun k b s polls first owed named here none => ?_, fun k g n b s polls first owed here named cur sound done stage => ?_,
      fun k f s polls first few runs => ⟨?_, fun bs bad => ?_⟩, fun k s polls again third runs none => ?_,
      fun k ver rest s polls again owed => ?_⟩, fun s slave below => ?_,
    fun g n s slave mode next none => ⟨fun down fresh => ?_, fun k alone up idle last => ?_⟩, fun g e s he hb => ?_,
    fun g a crc s other => ?_⟩
  · have slave : ((s.serving k .statusRead).noted k b).slave k = (s.slave k).served := State.serving_slave
    refine ⟨_, exec_legacyPoll_unnamed polls first (State.legacyRun_status owed named here) none, State.get_put_self .., ?_, ?_,
      fun j hj => State.serving_slave_ne hj, State.noted_objectsKept, (State.serving_within.sub.next State.noted_within).eq_withReply⟩
    · rw [slave]; rfl
    · rw [slave]; exact here
  · have runs := State.legacyRun_status owed (State.stepNames_of_slaveGroup named) here
    refine ⟨_, exec_legacyPoll_stage polls first runs named cur sound done stage, ?_, State.get_put_self .., fun j hj => ?_,
      ((State.serving_within.sub.next State.noted_within).next State.modSlave_within).eq_withReply⟩
    · rw [State.slave_modSlave_self]
    · exact (State.slave_modSlave_ne hj).trans (State.serving_slave_ne hj)
  · exact ⟨_, (exec_legacyPoll polls first).trans (congrArg _ (State.legacyReply_nack runs)), State.sending_fails few⟩
  · exact ⟨_, (exec_legacyPoll polls first).trans (congrArg _ (State.legacyReply_unread runs bad)), State.sending_fails few⟩
  · obtain ⟨f, runs⟩ := Option.ne_none_iff_exists'.1 runs
    have within : Within (parts [.objs, .ints, .seq, .net, .bus]) s ((s.sending k f).lostSlave k) :=
      State.sending_within.sub.next State.lostSlave_within
    refine ⟨_, exec_legacyRetry_third polls again third runs none, ?_, State.lostSlave_get, State.lostSlave_shows,
      fun j hj => State.lostSlave_slave_ne hj, within.modes, within.rails⟩
    rw [State.lostSlave_slave]
    rfl
  · refine ⟨_, exec_legacyRetry_identity polls again owed, ?_, ?_, ?_, ?_, State.identified_objectsKept,
      State.identified_within.eq_withReply⟩ <;> rw [State.identified_slave]
    · rfl
    · rfl
    · exact congrArg (List.drop 1) owed
  · have accepted : Within (parts [.objs, .deferred, .afterBoot, .ints, .net]) s s.legacyAccepted := State.legacyAccepted_within
    have counted := State.legacyAccepted_get below
    refine ⟨⟨{ s.legacyAccepted with answer := .data (replyBytes State.legacyAddr 0x20 (toLE 1 s.legacyStatus)) },
        exec_legacyStatusRead_of_slave slave, rfl, accepted.seq, accepted.rails, counted, State.legacyAccepted_shows⟩,
      ⟨{ s.legacyAccepted with answer := .data (replyBytes State.legacyAddr 0x01 [0x10#8, 0x44#8, 0x68#8]) },
        exec_legacyIdRead_of_slave slave, rfl, accepted.seq, accepted.rails, counted, State.legacyAccepted_shows⟩,
      fun mode down => ?_, fun allowed failsafe cause vin => ?_, fun barred => exec_eq ?_⟩
    · refine ⟨{ s.legacyAccepted with answer := .done }, exec_eq ?_, rfl, accepted.seq, accepted.rails, counted,
        State.legacyAccepted_shows⟩
      rw [← State.legacyAllOff_of_down mode down]
      exact State.legacyWrite_accepts slave
    · obtain ⟨mode, latched⟩ := State.legacyClear_of_allowed allowed failsafe cause vin
      exact ⟨{ s.legacyClear with answer := .done }, exec_eq (State.legacyWrite_accepts slave), rfl, mode, latched⟩
    · have e : s.legacyClear = s := if_neg (by simp [barred])
      rw [State.legacyWrite_accepts slave, e]
  · obtain ⟨⟨lastGroup, lastGo, commanded, kind, others⟩, waiting, rails⟩ := State.legacyGroup_go mode next none down fresh
    exact ⟨{ s.legacyGroup g true with answer := .done }, exec_legacyStageGo_of_slave slave, rfl, waiting, lastGroup, lastGo,
      commanded, kind, rails, others⟩
  · obtain ⟨⟨lastGroup, lastGo, commanded, kind, others⟩, st⟩ := State.legacyGroup_down mode next none up idle last alone
    exact ⟨{ s.legacyGroup g false with answer := .done }, exec_legacyStageDown_of_slave slave, rfl, st, lastGroup, lastGo,
      commanded, kind, others⟩
  · exact ⟨exec_eq (State.legacyWrite_discards he hb), exec_eq (State.legacyWrite_discards he hb),
      exec_eq (State.legacyWrite_discards (n := 0) he hb), exec_eq (State.legacyWrite_discards (n := 0) he hb)⟩
  · exact ⟨exec_eq (State.legacyWrite_silent other), exec_eq (State.legacyWrite_silent other), exec_eq (State.legacyFrame_silent other),
      exec_eq (State.legacyFrame_silent other), exec_eq (State.legacyWrite_silent other), exec_eq (State.legacyWrite_silent other)⟩

end Sys2Proof.Machine
end

section
/-! A lease that is revoked, the reservation of a tag, and aborts of operations (R194, R195, R403, R406, R408). -/

set_option Elab.async false

namespace Sys2Proof.Machine

variable {s t : State} {acc : Accessor} {d : ObjDef} {g v : Nat} {r : Fin 32}

/-! ### A lease is revoked (R194, R195) -/

/-- An event that may have to wait writes the objects of an event. -/
theorem State.raiseLater_objectsKept {e : EventObj} {k : Nat} : ObjectsKept s (s.raiseLater e k) (eventObjects e) := fun key hk => by
  unfold State.raiseLater
  split
  · exact State.raise_objectsKept key hk
  · exact State.get_congr (State.defer_within.same .objs rfl)

/-- Where the ports are open an event is raised at once. -/
theorem State.raiseLater_of_open {e : EventObj} {k : Nat} (hp : s.portsOpen = true) : s.raiseLater e k = s.raise e k := if_pos hp

/-- A sum below the end of its counter is exact. -/
theorem State.addSat_get_self {key n : Nat} (size : (Dict.find key).map ObjDef.size = some n) (below : s.get key < 2 ^ (8 * n) - 1) :
    (s.addSat key 1).1.get key = s.get key + 1 := by
  obtain ⟨d, row, rfl⟩ := Option.map_eq_some_iff.1 size
  simp only [State.addSat, row, State.get_put_self]
  exact min_eq_right (by omega)

/-- A count below its end rises by one also where that saturates it, which an event reports (R409). -/
theorem State.bump_get_self {key n : Nat} (size : (Dict.find key).map ObjDef.size = some n) (plain : State.evOfKey key = none)
    (dropped : key ≠ K.NET_EVENTS_DROPPED) (queued : key ≠ K.NET_EVENT) (below : s.get key < 2 ^ (8 * n) - 1) :
    (s.bump key).get key = s.get key + 1 := by
  have one := State.addSat_get_self size below
  unfold State.bump
  split
  · rename_i u hu
    rwa [hu] at one
  · rename_i u hu
    rw [hu] at one
    split
    · rename_i e k hb
      obtain ⟨key', hk'⟩ := State.satBit_evOfKey hb
      have other : key ≠ e.key := by
        rintro rfl
        rw [State.evOfKey_key hk', hk'] at plain
        exact absurd plain nofun
      exact (State.raiseLater_objectsKept key (by simp [eventObjects, other, dropped, queued])).trans one
    · exact one

theorem State.portsOpen_congr (h : t.modes = s.modes) : t.portsOpen = s.portsOpen := by
  unfold State.portsOpen
  rw [h]

/-- Where the ports are open LEASE_REVOKED shows at once. -/
theorem State.leaseRevoked_shows {row : Nat} (hp : s.portsOpen = true) : (s.leaseRevoked row).Shows Ev.sup 4 := by
  have hp' : (s.bump (K.SUP_LEASE_REVOKES row)).portsOpen = true := (State.portsOpen_congr (State.bump_modes ..)).trans hp
  unfold State.leaseRevoked
  rw [State.raiseLater_of_open hp']
  exact State.raise_bit _ Ev.sup 4 rfl (by decide)

/-- The reservations that have ended are counted (R195). -/
theorem State.leaseRevoked_tags_get (below : s.get (K.SUP_LEASE_REVOKES 4) < 0xFFFFFFFF) :
    (s.leaseRevoked 4).get (K.SUP_LEASE_REVOKES 4) = s.get (K.SUP_LEASE_REVOKES 4) + 1 :=
  (State.raiseLater_objectsKept _ (by decide)).trans
    (State.bump_get_self (n := 4) (by decide +kernel) (by decide +kernel) (by decide) (by decide) below)

/-- The end of a reservation waits with the events of the next entry, not with those of the next BOOT. -/
theorem State.leaseRevoked_tags_eq : s.leaseRevoked 4 =
    { s with objs := (s.leaseRevoked 4).objs, ints := (s.leaseRevoked 4).ints, net := (s.leaseRevoked 4).net,
             deferred := (s.leaseRevoked 4).deferred } := by
  have sat : ∀ b ∈ State.satBit (K.SUP_LEASE_REVOKES 4), b.1.key ≠ K.PP_EVENT := by decide +kernel
  have kept : (s.leaseRevoked 4).afterBoot = s.afterBoot := (State.raiseLater_afterBoot (by decide)).trans (State.bump_afterBoot sat)
  have within : Within (parts [.objs, .ints, .net, .deferred, .phases]) s (s.leaseRevoked 4) :=
    ((State.leaseRevoked_within (row := 4)).sub (F := parts [.objs, .ints, .net, .deferred, .phases] ||| parts [.afterBoot])).afterBoot_kept
      kept
  have e := within.eq_ofFinding
  rwa [(State.leaseRevoked_within (row := 4)).phases] at e

/-! ### The reservation of a tag ends (R403) -/

/-- The entry of a tag that is free again. -/
def OpEntry.freed (e : OpEntry) : OpEntry := { e with reserved := false }

theorem State.freeTag_of_ended (reserved : (s.op g).reserved = true) (ended : (s.op g).status.isOpen = false) :
    s.freeTag g = (s.setOp g (s.op g).freed).leaseRevoked 4 := by
  unfold State.freeTag
  exact if_pos (by simp [reserved, ended])

theorem State.leaseRevoked_op {row : Nat} {h : Nat} : (s.leaseRevoked row).op h = s.op h :=
  State.op_congr ((State.raiseLater_ops ..).trans (State.bump_ops ..))

/-! ### `OP_ABORT` (R407, R408) -/

/-- A write of `OP_ABORT` that passes the checks up to the tag. -/
theorem State.writeAbort_eq (reach : s.reachWrite acc K.OP_ABORT 1 = .ok d) (hv : v < 128) :
    s.writeAbort acc v =
      if (s.op v).issuer ≠ s.issuerOf acc && !s.installerUp acc then .error .roleDenied
      else if !State.abortable (s.op v).kind then .error .modeForbids
      else if !(s.op v).status.isOpen then .ok (s.put K.OP_ABORT_LAST ((v : Int) + 0x300), .done)
      else if (s.op v).abort = .requested then .ok (s, .done)
      else .ok ((s.setOp v { s.op v with abort := .requested }).abortActs v, .done) := by
  unfold State.writeAbort
  rw [reach]
  exact if_neg (by omega)

/-- What only one element of a list meets is found there. -/
theorem find?_of_unique {α : Type} {a : α} {l : List α} {f : α → Bool} (mem : a ∈ l) (unique : ∀ b, f b = true ↔ b = a) :
    l.find? f = some a := by
  obtain ⟨b, found⟩ := Option.isSome_iff_exists.1 (List.find?_isSome.2 ⟨a, mem, (unique a).2 rfl⟩)
  rwa [(unique b).1 (List.find?_some found)] at found

/-- The rail whose target started a transition is the unit of its key. -/
theorem unitOfKey_RAIL_VSET : State.unitOfKey (K.RAIL_VSET r) 0x3000 0x20 = r := by
  simp only [State.unitOfKey, K.RAIL_VSET]
  omega

theorem find_rail_of_key {key : Nat} (h : key = K.RAIL_VSET r) :
    (List.finRange 32).find? (fun q => decide (q.val = State.unitOfKey key 0x3000 0x20)) = some r :=
  find?_of_unique (List.mem_finRange r) fun q => by rw [h, unitOfKey_RAIL_VSET, decide_eq_true_iff, Fin.ext_iff]

theorem State.abortActs_of_voltage (kind : (s.op v).kind = .railVoltage) (key : (s.op v).key = K.RAIL_VSET r) :
    s.abortActs v = s.sendRail r (.abort v) := by
  rw [State.abortActs, find_rail_of_key key, kind]

/-- The entry of an operation whose abort is requested. -/
def OpEntry.aborting (e : OpEntry) : OpEntry := { e with abort := .requested }

/-- An accepted abort of an open voltage transition goes to the tiles of its rail. -/
theorem State.abort_sends (hv : v < 128) (kind : (s.op v).kind = .railVoltage) (key : (s.op v).key = K.RAIL_VSET r) :
    (s.setOp v (s.op v).aborting).abortActs v = (s.setOp v (s.op v).aborting).sendRail r (.abort v) := by
  have entry : (s.setOp v (s.op v).aborting).op v = (s.op v).aborting := State.op_setOp_self hv
  exact State.abortActs_of_voltage (by rw [entry]; exact kind) (by rw [entry]; exact key)

/-- Settles O11: each outcome of an abort is one branch of the write, and the end of a reservation is the revocation of a lease. -/
theorem abortsAndTags : Obligations.AbortsAndTags := by
  refine ⟨fun acc v d s hp reach hv => ⟨fun stranger low => ?_, fun party kind ended => ?_, fun r party kind key isOpen fresh => ?_⟩,
    fun g s reserved ended => ?_⟩
  · refine exec_eq (State.access_error s hp (f := fun s => s.writeAbort acc v) ?_ (by decide))
    rw [State.writeAbort_eq reach hv, if_pos (by simp [stranger, low])]
  · have write : s.writeAbort acc v = .ok (s.put K.OP_ABORT_LAST ((v : Int) + 0x300), .done) := by
      rw [State.writeAbort_eq reach hv, if_neg (by rcases party with h | h <;> simp [h]), if_neg (by simp [kind, State.abortable]),
        if_pos (by simp [ended])]
    have last : (s.put K.OP_ABORT_LAST ((v : Int) + 0x300)).get K.OP_ABORT_LAST = v + 0x300 := State.get_put_self ..
    have kept : ObjectsKept s (s.put K.OP_ABORT_LAST ((v : Int) + 0x300)) [K.OP_ABORT_LAST] :=
      fun key hk => State.get_put_ne _ (by simpa using hk) _
    have frame : s.put K.OP_ABORT_LAST ((v : Int) + 0x300) = { s with objs := (s.put K.OP_ABORT_LAST ((v : Int) + 0x300)).objs } := rfl
    generalize s.put K.OP_ABORT_LAST ((v : Int) + 0x300) = u at write last kept frame
    exact ⟨_, exec_eq (State.access_ok s hp (f := fun s => s.writeAbort acc v) write), rfl, last, kept,
      congrArg (fun w : State => { w with answer := .done }) frame⟩
  · have write : s.writeAbort acc v = .ok ((s.setOp v (s.op v).aborting).sendRail r (.abort v), .done) := by
      rw [State.writeAbort_eq reach hv, if_neg (by rcases party with h | h <;> simp [h]), if_neg (by simp [kind, State.abortable]),
        if_neg (by simp [isOpen]), if_neg fresh]
      exact congrArg (fun u => Except.ok (u, Answer.done)) (State.abort_sends hv kind key)
    set u := (s.setOp v (s.op v).aborting).sendRail r (.abort v)
    have entry (a : Answer) : ({ u with answer := a } : State).op v = (s.op v).aborting := State.op_setOp_self hv
    refine ⟨_, exec_eq (State.access_ok s hp (f := fun s => s.writeAbort acc v) write), rfl, by rw [entry]; rfl, by rw [entry]; rfl,
      State.sendRail_cmds, State.sendRail_otherRails (s := s.setOp v (s.op v).aborting), rfl⟩
  · have e := State.leaseRevoked_tags_eq (s := s.setOp g (s.op g).freed)
    have here : ((s.setOp g (s.op g).freed).leaseRevoked 4).op g = (s.op g).freed :=
      State.leaseRevoked_op.trans (State.op_setOp_self g.isLt)
    refine ⟨_, exec_eq (State.freeTag_of_ended reserved ended), by rw [here]; rfl, by rw [here]; rfl, fun h hh => ?_, fun below => ?_,
      fun hp => ?_, ?_⟩
    · exact State.leaseRevoked_op.trans (State.op_setOp_ne (by simpa [Fin.ext_iff] using hh))
    · exact State.leaseRevoked_tags_get (s := s.setOp g (s.op g).freed) below
    · exact State.leaseRevoked_shows (s := s.setOp g (s.op g).freed) hp
    · have ops : ((s.setOp g (s.op g).freed).leaseRevoked 4).ops = (s.setOp g (s.op g).freed).ops := by rw [e]
      rw [ops]
      exact e

end Sys2Proof.Machine
end

section
/-! Reports of the supervision, and the snapshots of MRAM's partition 2 (R176, R183–R188, R199). -/

set_option Elab.async false

namespace Sys2Proof.Machine

variable {s t : State} {acc : Accessor} {n a : Nat}

/-! ### The lengths of a snapshot's entries (R186–R188) -/

theorem length_flatMap_of_equal {α β : Type} {l : List α} {f : α → List β} (h : ∀ x ∈ l, (f x).length = n) :
    (l.flatMap f).length = l.length * n := by
  rw [List.length_flatMap, List.map_congr_left h, List.map_const', List.sum_replicate, smul_eq_mul]

@[simp] theorem State.leInt_length {v : Int} : (State.leInt n v).length = n := toLE_length ..

/-- What the snapshot freezes has the lengths of R187 and R188. -/
structure SnapCore.Sized (c : SnapCore) : Prop where
  rails : c.rails.length = 32
  rail : ∀ x ∈ c.rails, x.head.length = 3 ∧ x.tail.length = 26
  phases : c.phases.length = 56
  phase : ∀ x, some x ∈ c.phases → x.head.length = 12 ∧ x.tail.length = 10
  tiles : c.tiles.length = 8
  tile : ∀ x ∈ c.tiles, x.head.length = 22
  rest : c.rest.length = 892

theorem State.snapRail_length {r : Fin 32} {v : Int} : (s.snapRail r v).head.length = 3 ∧ (s.snapRail r v).tail.length = 26 := by
  simp [State.snapRail]

theorem State.snapPhase_length {p : Fin 56} {smp age : Int} {x : SnapPhase} (h : s.snapPhase p smp age = some x) :
    x.head.length = 12 ∧ x.tail.length = 10 := by
  unfold State.snapPhase at h
  split at h
  · cases h
  · cases h
    simp

theorem State.snapTile_length {k : Fin 8} {vbus age at_ : Int} : (s.snapTile k vbus age at_).head.length = 22 := by
  have sensors : ((List.finRange 4).flatMap fun j => State.leInt 2 (s.sensorShown k j)).length = 8 := by
    rw [length_flatMap_of_equal fun _ _ => State.leInt_length, List.length_finRange]
  simp [State.snapTile, sensors]

theorem State.snapAux_length {k : Fin 4} {v i : Int} : (s.snapAux k v i).length = 16 := by simp [State.snapAux]

theorem State.snapSystem_length : s.snapSystem.length = 64 := by simp [State.snapSystem]

theorem State.snapMp_length {m : Fin 4} : (s.snapMp m).length = 16 := by simp [State.snapMp]

theorem State.snapCore_sized : s.snapCore.1.Sized := by
  unfold State.snapCore
  iterate 4 split
  rename_i fk u _
  have auxs : ((List.finRange 4).flatMap fun k => u.snapAux k (fk.getD (2 * k.val) 0) (fk.getD (2 * k.val + 1) 0)).length = 64 := by
    rw [length_flatMap_of_equal fun _ _ => State.snapAux_length, List.length_finRange]
  have points : ((List.finRange 4).flatMap u.snapMp).length = 64 := by
    rw [length_flatMap_of_equal fun _ _ => State.snapMp_length, List.length_finRange]
  refine ⟨by simp, fun x hx => ?_, by simp, fun x hx => ?_, by simp, fun x hx => ?_, ?_⟩
  · obtain ⟨r, -, rfl⟩ := List.mem_map.1 hx
    exact State.snapRail_length
  · obtain ⟨p, -, hp⟩ := List.mem_map.1 hx
    exact State.snapPhase_length hp
  · obtain ⟨k, -, rfl⟩ := List.mem_map.1 hx
    exact State.snapTile_length
  · simp only [List.length_append, auxs, points, State.snapSystem_length, toLE_length]

/-! ### The length of a slot (R185–R188) -/

theorem State.railEntry_length {x : SnapRail} (h : x.head.length = 3 ∧ x.tail.length = 26) : (s.railEntry a x).length = 32 := by
  simp [State.railEntry, h]

theorem State.phaseEntry_length {p : Fin 56} {x : Option SnapPhase}
    (h : ∀ y, x = some y → y.head.length = 12 ∧ y.tail.length = 10) : (s.phaseEntry a p x).length = 32 := by
  unfold State.phaseEntry
  split
  · simp
  · simp [h _ rfl]
  · simp [h _ rfl]

theorem State.tileEntry_length {x : SnapTile} (h : x.head.length = 22) : (State.tileEntry a x).length = 32 := by
  unfold State.tileEntry
  split <;> simp [h]

theorem State.snapBody_length {c : SnapCore} (h : c.Sized) : (s.snapBody c a).length = 3964 := by
  have rails : (c.rails.flatMap (s.railEntry a)).length = 1024 := by
    rw [length_flatMap_of_equal fun x hx => State.railEntry_length (h.rail x hx), h.rails]
  have phases : (((List.finRange 56).zip c.phases).flatMap fun x => s.phaseEntry a x.1 x.2).length = 1792 := by
    rw [length_flatMap_of_equal fun x hx => State.phaseEntry_length fun y hy => h.phase y (hy ▸ (List.of_mem_zip hx).2),
      List.length_zip, h.phases, List.length_finRange, min_self]
  have tiles : (c.tiles.flatMap (State.tileEntry a)).length = 256 := by
    rw [length_flatMap_of_equal fun x hx => State.tileEntry_length (h.tile x hx), h.tiles]
  simp only [State.snapBody, List.length_append, rails, phases, tiles, h.rest]

theorem State.sealRecord_length {c : SnapCore} {causes stage flags vhkEnd signed duration : Nat} :
    (State.sealRecord c causes stage flags vhkEnd signed duration).length = 32 := by
  simp [State.sealRecord]

theorem State.secondaryBytes_length {ts : List (Nat × Trigger)} : (State.secondaryBytes ts).length = 64 := by
  unfold State.secondaryBytes
  rw [length_flatMap_of_equal (n := 8), List.length_range]
  intro k _
  split <;> simp

/-! ### A snapshot takes one slot (R185) -/

/-- Which slot is next depends on MRAM alone. -/
theorem State.snapSlot_congr (h : t.mram = s.mram) : t.snapSlot = s.snapSlot := by
  have read : t.readMram = s.readMram := funext₂ fun _ _ => by simp only [State.readMram, State.mramByte, h]
  have seqs : t.snapSeqOf = s.snapSeqOf := by
    unfold State.snapSeqOf
    rw [read]
  unfold State.snapSlot
  rw [seqs]

theorem State.writeSnap_mramByte {c : SnapCore} {at_ : Nat} {tr : Trigger} {est : Bool} {rec : Bytes} {secs : List (Nat × Trigger)}
    (sized : c.Sized) (record : rec.length = 32) (outside : a < State.snapAddr s.snapSlot ∨ State.snapAddr s.snapSlot + 4096 ≤ a) :
    (s.writeSnap c at_ tr est rec secs).1.mramByte a = s.mramByte a := by
  unfold State.writeSnap
  extract_lets k q head rest u
  rw [State.mramByte_congr (State.put_mram ..)]
  refine State.mramByte_writeMram_ne s ?_
  have slot : (head ++ rec ++ rest ++ toLE 4 (crc32 (head ++ rest))).length = 4096 := by
    simp only [head, rest, List.length_append, List.length_cons, List.length_nil, toLE_length, record, State.snapBody_length sized,
      State.secondaryBytes_length]
  rw [slot]
  exact outside

/-- A snapshot outside SEAL takes the next sequence number, and writes its slot alone. -/
theorem State.snapNow_holds {tr : Trigger} {manual : Bool} :
    (s.snapNow tr manual).get K.SUP_SNAP_SEQ = s.getN K.SUP_SNAP_SEQ + 1 ∧
    ∀ a, a < State.snapAddr s.snapSlot ∨ State.snapAddr s.snapSlot + 4096 ≤ a → (s.snapNow tr manual).mramByte a = s.mramByte a := by
  have sized := State.snapCore_sized (s := s)
  unfold State.snapNow
  split
  rename_i c u core
  have w : Within (parts [.freeIdx]) s u := State.snapCore_within.of_snd core
  rw [core] at sized
  extract_lets flags
  split
  rename_i v k wrote
  have seq : v.get K.SUP_SNAP_SEQ = s.getN K.SUP_SNAP_SEQ + 1 := by
    have e := congrArg (fun x : State × Nat => x.1.get K.SUP_SNAP_SEQ) wrote
    refine e.symm.trans ((State.get_put_self ..).trans ?_)
    rw [State.getN, State.get_congr (w.same .objs rfl)]
    rfl
  refine ⟨(State.raise_objectsKept _ (by decide)).trans seq, fun a outside => ?_⟩
  have kept := State.writeSnap_mramByte (s := u) (at_ := u.now) (tr := tr) (est := false) (secs := [])
    (rec := State.sealRecord c 0 0 flags 0 0 0) sized State.sealRecord_length (by rwa [State.snapSlot_congr w.mram])
  rw [wrote] at kept
  exact (State.mramByte_congr (State.raise_mram ..)).trans (kept.trans (State.mramByte_congr w.mram))

/-! ### MRAM is erased (R199) -/

theorem Store.lookup_filter {σ : Type} {k : Nat} {m : List (Nat × σ)} {f : Nat → Bool} :
    Store.lookup k (m.filter fun c => f c.1) = if f k then Store.lookup k m else none := by
  induction m with
  | nil => simp [Store.lookup]
  | cons c m ih =>
    by_cases here : c.1 = k <;> by_cases keep : f c.1 = true <;> simp_all [Store.lookup]

/-- Bytes that are erased read as 0, the others as before. -/
theorem State.eraseMram_mramByte {b len : Nat} :
    (s.eraseMram a len).mramByte b = if b < a ∨ a + len ≤ b then s.mramByte b else 0 := by
  have e : Store.lookup b (s.eraseMram a len).mram = if b < a ∨ a + len ≤ b then Store.lookup b s.mram else none := by
    simpa [State.eraseMram] using Store.lookup_filter (k := b) (m := s.mram) (f := fun x => x < a || a + len ≤ x)
  unfold State.mramByte
  rw [e]
  split <;> rfl

/-- Settles O22: the two reports are one event and one flag, a snapshot fills a slot of 4,096 bytes, and the erasure covers partition 2. -/
theorem supervisionReportsAndSnapshots : Obligations.SupervisionReportsAndSnapshots := by
  refine ⟨fun r n v lead s holds off => ?_, fun s => ⟨_, rfl, rfl, rfl, rfl, rfl⟩, fun acc s ⟨hp, d, reach, role⟩ free => ?_,
    fun acc s ⟨hp, d, reach, role⟩ installer => ?_⟩
  · have e : s.senseDisagree r n v lead = s.raise Ev.sup 7 := by
      have member : ((s.activeMembers r).any fun p => decide (tileOf p = n)) = true := by simpa using holds
      unfold State.senseDisagree
      exact if_pos (by rw [member, decide_eq_true off]; rfl)
    exact ⟨_, exec_eq e, State.raise_bit _ Ev.sup 7 rfl (by decide), (State.raise_plain (by decide)).reportsOnly, State.raise_objectsKept⟩
  · have write : s.writeSnapTake acc 0x5A = .ok (s.snapNow ⟨0x00, .none, 0xFF, 0⟩ true, .done) := by
      unfold State.writeSnapTake
      rw [State.writeVia_ok _ reach role]
      simp [free]
    obtain ⟨seq, outside⟩ := State.snapNow_holds (s := s) (tr := ⟨0x00, .none, 0xFF, 0⟩) (manual := true)
    have within := State.snapNow_within (s := s) (tr := ⟨0x00, .none, 0xFF, 0⟩) (manual := true)
    have taken := State.snapNow_shows (s := s) (tr := ⟨0x00, .none, 0xFF, 0⟩) (manual := true)
    generalize s.snapNow _ true = u at write seq outside within taken
    exact ⟨_, exec_eq (State.access_ok s hp (f := fun s => s.writeSnapTake acc 0x5A) write), rfl, seq, taken, within.modes, within.rails,
      outside⟩
  · have write : s.writeSnapClear acc 0x5A = .ok (s.eraseMram 0x182000 0x8000, .done) := by
      unfold State.writeSnapClear
      rw [State.writeVia_ok _ reach role]
      simp [installer]
    have byte (a : Nat) := State.eraseMram_mramByte (s := s) (a := 0x182000) (len := 0x8000) (b := a)
    refine ⟨_, exec_eq (State.access_ok s hp (f := fun s => s.writeSnapClear acc 0x5A) write), rfl, fun a lo hi => ?_, fun a out => ?_,
      rfl⟩
    · exact (byte a).trans (if_neg (by omega))
    · exact (byte a).trans (if_pos (by omega))

end Sys2Proof.Machine
end

section
/-! The bus clear of the two-wire port: what its statement leaves out (R165, R197, R364). -/

set_option Elab.async false

namespace Sys2Proof.Machine

/-! ### A commit that lands while a bus clear ends with SDA low (O27) -/

/-- A legacy master in SERVICE whose first group's running step waits for slave 0, at the end of a bus clear, while the first stage of a
commit is under way that has staged 0 for the events of the supervision. -/
def clearingWhileCommitting : State :=
  let s := (State.reset.puts [(K.SEQ_LEGACY_MODE, 1), (K.SEQ_LEGACY_SLAVES, 1), (K.SEQ_STEP 0, 2 ^ 112)]).modGroup 0 fun x =>
    { x with st := .rising, stage := .sent, cur := some 0 }
  { s with modes := { s.modes with mode := .service }, bus := { s.bus with clearing := true },
           cfg := { s.cfg with phase := .stage1, staged := [(K.SUP_EVENT, 0)] } }

/-- The loss of the slave faults the step, and everything-off lands the staged events after TWO_WIRE_STUCK was raised. -/
theorem busClearDone_lands_staged_events : bitOf ((clearingWhileCommitting.busClearDone true).get K.SUP_EVENT) 5 = false := by
  decide +kernel

/-- Refutes O27, which speaks of every state: it asks nothing of a commit under way, and one that has staged the events of the supervision
lands them when the stuck bus loses a slave that a running step names. -/
theorem not_twoWireBusClear : ¬ Obligations.TwoWireBusClear := by
  intro h
  obtain ⟨-, sample, -⟩ := h
  obtain ⟨t, run, -, -, stuck, -⟩ := sample true clearingWhileCommitting rfl
  have e : exec (.busClearSample true) clearingWhileCommitting = .next (clearingWhileCommitting.busClearDone true) := rfl
  have shown := stuck rfl (by decide)
  rw [← Host.Outcome.next.inj (e.symm.trans run), State.Shows] at shown
  exact absurd (busClearDone_lands_staged_events.symm.trans shown) (by decide)

end Sys2Proof.Machine
end

section
/-! DMA channels: what their statement leaves out (R194, R195, R285, R317, R318, R333). -/

set_option Elab.async false

namespace Sys2Proof.Machine

variable {s t : State}

/-! ### The end of a Haboob run that was armed in SEALED is journalled (R285, R318) -/

/-- A record's kind is the first byte of its slot (R283). -/
theorem State.writeRecord_kind {kind mp : Nat} {u : Bool} {chain payload : Bytes} :
    (s.writeRecord kind mp u chain payload).mramByte (jnlAddr s.met.jnl.next) = BitVec.ofNat 8 kind := by
  have slot : jnlAddr s.met.jnl.next < mramSize := by
    unfold jnlAddr mramSize
    omega
  unfold State.writeRecord
  extract_lets flags q body v
  rw [State.mramByte_congr ((State.noteFill_within.mram.trans State.writeHeader_within.mram).trans (State.modJnl_mram ..))]
  simp only [v, body, toLE, List.cons_append, State.writeMram]
  rw [if_pos slot, State.mramByte_writeMram_ne _ (.inl (Nat.lt_succ_self _))]
  exact Store.getD_put_self

/-- The journal takes an EVENT record at once: the part has a journal, no signature is under way, and there is room (R280, R286). -/
def State.takesEvent (s : State) : Prop := s.hasMetering = true ∧ s.met.jnl.signing = none ∧ s.eventRoom = true

theorem State.takesEvent_congr (caps : t.caps = s.caps) (met : t.met = s.met) (h : s.takesEvent) : t.takesEvent := by
  unfold State.takesEvent State.hasMetering State.eventRoom State.openSessions State.jnlFree State.jnlUsed State.point at *
  rwa [caps, met]

theorem State.journalEvent_haboobUse {mp : Nat} {data : Bytes} (takes : s.takesEvent) :
    (s.journalEvent .haboobUse mp data).mramByte (jnlAddr s.met.jnl.next) = 4 := by
  obtain ⟨metering, unsigned, room⟩ := takes
  unfold State.journalEvent State.addRecord
  rw [if_pos metering, if_neg (by simp [unsigned])]
  unfold State.putRecord
  simp only [if_pos room]
  exact State.writeRecord_kind

theorem State.habEnd_journals {reason : Nat} (armed : s.habArmed = true) (sealed : s.hab.sealed = true) (takes : s.takesEvent) :
    (s.habEnd reason).mramByte (jnlAddr s.met.jnl.next) = 4 := by
  have shut : Within (parts [.objs] ||| parts Part.named) s (s.puts [(K.HAB_STATE, 2), (K.HAB_DISARM_REASON, (reason : Int))]) :=
    State.puts_any
  unfold State.habEnd
  extract_lets u v
  have run : u.hab.sealed = true := (congrArg HabSt.sealed shut.hab).trans sealed
  rw [if_pos armed, State.mramByte_congr (State.raise_mram ..), ← congrArg (fun m : MetSt => jnlAddr m.jnl.next) shut.met]
  simp only [v, if_pos run]
  exact State.journalEvent_haboobUse (State.takesEvent_congr shut.caps shut.met takes)

/-! ### The last injection of a run ends it (R317) -/

theorem State.habItem_last {target size : Nat} (armed : s.habArmed = true) (aimed : s.get K.HAB_TARGET = target)
    (pattern : s.get K.HAB_MODE ≠ 0)
    (selected : (s.getN K.HAB_PATTERN).testBit (s.hab.item % max 1 (s.getN K.HAB_PATTERN_LEN)) = true)
    (limit : s.get K.HAB_LIMIT = 1) (count : s.get K.HAB_COUNT = 0) :
    ∃ v : State, (s.habItem target size).2 = v.habEnd 1 ∧ v.habArmed = true ∧ v.hab.sealed = s.hab.sealed ∧ v.met = s.met ∧
      v.caps = s.caps := by
  unfold State.habItem
  rw [if_pos (by simp [armed, aimed])]
  extract_lets n prob x u hit act w
  have seen (key : Nat) (h : key ≠ K.HAB_SEEN) : u.get key = s.get key := State.get_put_ne _ h _
  have counted (key : Nat) (h : key ≠ K.HAB_COUNT) : w.get key = u.get key := State.get_put_ne _ h _
  have hits : hit = true := by
    have sure : prob = false := decide_eq_false pattern
    simp only [hit, sure, State.getN, seen K.HAB_PATTERN (by decide), seen K.HAB_PATTERN_LEN (by decide)]
    exact selected
  have one : w.get K.HAB_COUNT = 1 := by
    refine (State.addSat_get_self (n := 4) (by decide +kernel) ?_).trans ?_
    · rw [seen _ (by decide), count]
      decide
    · rw [seen _ (by decide), count]
      rfl
  rw [if_pos hits]
  refine ⟨w, if_pos ?_, ?_, ?_, rfl, rfl⟩
  · have last : w.get K.HAB_LIMIT = 1 := (counted _ (by decide)).trans ((seen _ (by decide)).trans limit)
    simp [last, one]
  · unfold State.habArmed at armed ⊢
    rwa [counted _ (by decide), seen _ (by decide)]
  · change HabSt.sealed (if act = 1 || act = 2 then _ else _) = _
    split <;> rfl

/-! ### What a frame that is sent does to MRAM, and which block transfers are settled (R316, R333) -/

/-- Nothing of a frame that is sent reaches MRAM but the end of a Haboob run. -/
theorem State.netSend_mram {port func dst xid : Nat} {content : Bytes} : ∃ size,
    (s.netSend port func dst xid content).mram =
      (((s.countPort port 0).canSent port).habItem (if port = 0 then 0x41 else 0x43) size).2.mram := by
  unfold State.netSend
  extract_lets u id f
  refine ⟨8 * (f.body.length + 4), ?_⟩
  split
  rename_i hit v item
  have ends : v.mram = ((u.habItem (if port = 0 then 0x41 else 0x43) (8 * (f.body.length + 4))).2).mram := by rw [item]
  refine Eq.trans ?_ ends
  extract_lets act held
  clear_value held
  split
  · rfl
  rename_i fate w _
  have sent : w.mram = v.mram := State.wireOut_within.mram
  split
  · split
    · exact (State.wireOut_within.mram.trans (State.modNet_mram ..)).trans sent
    · exact sent
  · exact sent

/-- Where the partner of the last slot alone has a transfer that lost its channel, and its port is up, the ABORT is what is sent. -/
theorem State.settleBlocks_last {p : Partner} {b : BlockXfer} {e : Abort} (others : ∀ i : Fin 64, i ≠ 63 → s.partner i = none)
    (last : s.partner 63 = some p) (block : p.block = some b) (lost : b.lost = some e) (up : s.portUp p.port = true) :
    s.settleBlocks = (s.modPartner 63 fun p => { p with block := none }).sendTo p 0x0B b.xid (State.abortBody b.key e) := by
  unfold State.settleBlocks
  rw [List.finRange_succ_last, List.foldl_append, foldl_eq_self (l := List.map _ _)]
  · rw [List.foldl_cons, List.foldl_nil, show (Fin.last 63 : Fin 64) = 63 from rfl]
    simp only [last, block, lost, if_pos up]
  · intro i mem
    obtain ⟨j, -, rfl⟩ := List.mem_map.1 mem
    rw [others j.castSucc (Fin.ne_of_lt (Fin.castSucc_lt_last j))]

/-! ### A revoked transfer whose ABORT ends a run (O31) -/

/-- A block transfer of the partner at node 5 over channel 3. -/
def transferOnThree : BlockXfer := { write := true, key := K.PP_TVINQ, total := 4, xid := 1, channel := 3 }

/-- A SEALED part in SERVICE with debug level CONTROL: a Haboob run, whose first item is its last injection, is armed on the frames of CAN
port A, over which a partner in the last slot runs a block transfer. -/
def transferUnderHaboob : State :=
  let s := State.reset.puts [(K.HAB_STATE, 1), (K.HAB_TARGET, 0x41), (K.HAB_MODE, 1), (K.HAB_PATTERN, 1), (K.HAB_PATTERN_LEN, 1),
    (K.HAB_LIMIT, 1)]
  { s with modes := { s.modes with mode := .service }, sec := { s.sec with lifecycle := .sealed, level := .control },
           hab := { s.hab with sealed := true }, dma := s.dma.set 3 { st := .running },
           net := { s.net with partners := s.net.partners.set 63 (some { port := 0, node := 5, block := some transferOnThree }) } }

/-- The state in which the revocation has halted channel 3, with the ABORT still to be sent. -/
def transferRevoked : State := transferUnderHaboob.netBegin.revokeHost 3 2

/-- The state in which the ABORT is about to leave port A. -/
def abortLeaves : State := ((transferRevoked.modPartner 63 fun p => { p with block := none }).countPort 0 0).canSent 0

theorem transferRevoked_partners : (∀ i : Fin 64, i ≠ 63 → transferRevoked.partner i = none) ∧
    transferRevoked.partner 63 = some { port := 0, node := 5, block := some { transferOnThree with lost := some .leaseRevoked } } ∧
    transferRevoked.portUp 0 = true := by decide +kernel

theorem abortLeaves_hab : abortLeaves.habArmed = true ∧ abortLeaves.get K.HAB_TARGET = 0x41 ∧ abortLeaves.get K.HAB_MODE ≠ 0 ∧
    (abortLeaves.getN K.HAB_PATTERN).testBit (abortLeaves.hab.item % max 1 (abortLeaves.getN K.HAB_PATTERN_LEN)) = true ∧
    abortLeaves.get K.HAB_LIMIT = 1 ∧ abortLeaves.get K.HAB_COUNT = 0 ∧ abortLeaves.hab.sealed = true := by decide +kernel

theorem abortLeaves_journal : abortLeaves.hasMetering = true ∧ abortLeaves.met.jnl.signing = none ∧ abortLeaves.eventRoom = true ∧
    abortLeaves.met.jnl.next = 2 := by decide +kernel

/-- The ABORT is the last injection of the run, whose end is journalled in the second slot of the ring. -/
theorem transferRevoked_journals : transferRevoked.settleBlocks.mramByte (jnlAddr 2) = 4 := by
  obtain ⟨others, last, up⟩ := transferRevoked_partners
  obtain ⟨armed, aimed, pattern, selected, limit, count, sealed⟩ := abortLeaves_hab
  obtain ⟨metering, unsigned, room, next⟩ := abortLeaves_journal
  rw [State.settleBlocks_last others last rfl rfl up]
  obtain ⟨size, sent⟩ := State.netSend_mram (s := transferRevoked.modPartner 63 fun p => { p with block := none }) (port := 0)
    (func := 0x0B) (dst := 5) (xid := 1) (content := State.abortBody K.PP_TVINQ .leaseRevoked)
  obtain ⟨v, item, armed', sealed', met, caps⟩ :=
    State.habItem_last (s := abortLeaves) (size := size) armed aimed pattern selected limit count
  have kind := State.habEnd_journals (reason := 1) armed' (sealed'.trans sealed)
    (State.takesEvent_congr caps met ⟨metering, unsigned, room⟩)
  rw [met, next] at kind
  exact (State.mramByte_congr (sent.trans (congrArg State.mram item))).trans kind

/-- Where the Keeper runs, a running channel whose holder loses the port halts, and what it carried is settled (R194, R333). -/
theorem exec_mramLeaseRevoke_running {c : Fin 8} (runs : s.keeperRuns = true) (running : (s.channel c).st = .running) :
    exec (.mramLeaseRevoke (some c)) s = .next (s.netBegin.revokeHost c 2).settleBlocks :=
  exec_eq ((if_pos runs).trans (if_pos running))

/-- Refutes O31: the statement keeps MRAM where a revocation halts a channel, but the transfer over it ends with an ABORT frame, and that
frame may be the last injection of a Haboob run, whose end a SEALED part journals. -/
theorem not_dmaChannels : ¬ Obligations.DmaChannels := by
  intro h
  obtain ⟨-, ⟨-, -, -, -, revoked, -⟩, -⟩ := h
  have runs : transferUnderHaboob.keeperRuns = true := by decide +kernel
  have running : (transferUnderHaboob.channel 3).st = .running := by decide +kernel
  obtain ⟨t, run, -, -, -, -, mram⟩ := revoked 3 transferUnderHaboob runs running
  have e : exec (.mramLeaseRevoke (some 3)) transferUnderHaboob = .next transferRevoked.settleBlocks :=
    exec_mramLeaseRevoke_running runs running
  have kept := State.mramByte_congr (a := jnlAddr 2) mram
  rw [← Host.Outcome.next.inj (e.symm.trans run), transferRevoked_journals] at kept
  have empty : transferUnderHaboob.mramByte (jnlAddr 2) = 0 := by decide +kernel
  exact absurd (kept.trans empty) (by decide)

end Sys2Proof.Machine
end

section
/-! A rail fault starts SEAL: its cause, its latches and the fault's words (R47, R177, R182, R189, R193). -/

set_option Elab.async false

namespace Sys2Proof.Machine

variable {s t : State} {F : Parts} {tr : Trigger} {at_ : Nat}

/-! ### `SUP_FAULT_*` name the fault (R193) -/

/-- The fault's words name the trigger. -/
def State.NamesFault (s : State) (tr : Trigger) : Prop :=
  s.get K.SUP_FAULT_CODE = tr.code ∧ s.get K.SUP_FAULT_KIND = tr.kind.code ∧ s.get K.SUP_FAULT_INDEX = tr.index ∧
    s.get K.SUP_FAULT_TILE = tr.tile

theorem State.showFault_names : (s.showFault tr at_).NamesFault tr := by
  simp [State.NamesFault, State.showFault, State.puts, State.get_put_ne]

theorem Within.namesFault (w : Within F s t) (h : s.NamesFault tr) (hF : F.testBit Part.faultShown.ctorIdx = false := by rfl) :
    t.NamesFault tr := by
  have kept : ∀ key ∈ Part.faultShown.keys, t.get key = s.get key := w.same .faultShown hF
  obtain ⟨code, kind, index, tile⟩ := h
  exact ⟨(kept _ (by decide)).trans code, (kept _ (by decide)).trans kind, (kept _ (by decide)).trans index,
    (kept _ (by decide)).trans tile⟩

/-- A rail fault that is the only trigger is the fault's source. -/
theorem State.settleTriggers_names {x : TrigRec} (only : s.sup.triggers = [x]) (rail : causeOf x.trig = .railFault) :
    s.settleTriggers.NamesFault x.trig := by
  unfold State.settleTriggers
  split
  · rename_i none_
    rw [only] at none_
    exact absurd none_ nofun
  · extract_lets near u v
    have source : v.faultSource = some x := by
      have triggers : v.sup.triggers = [x] := only
      simp [State.faultSource, triggers, rail, State.primaryOf]
    rw [source]
    exact State.showFault_names

theorem State.settleTriggers_quenchLatch : s.settleTriggers.sup.quenchLatch = s.sup.quenchLatch := by
  unfold State.settleTriggers
  split
  · rfl
  · extract_lets near u v
    have latch : v.sup.quenchLatch = s.sup.quenchLatch := rfl
    split
    · rw [State.showFault_within.sup]
      exact latch
    · exact latch

/-! ### The first rail fault of a SEAL (R47, R182, R189) -/

theorem State.noteCause_of_railFault (rail : causeOf tr = .railFault) : s.noteCause tr at_ = s.faultCause tr at_ := by
  unfold State.noteCause
  rw [rail]

/-- Before the snapshot is written the first rail fault sets the quench latch and the cause of FAILSAFE, and counts for no rail. -/
theorem State.faultCause_latches (first : s.modes.sealCauses.railFault = false) (early : s.sup.slot = none) :
    (s.faultCause tr at_).sup.quenchLatch = true ∧ (s.faultCause tr at_).get K.FS_CAUSE = 0x0D := by
  unfold State.faultCause
  rw [if_neg (by rw [first]; decide)]
  extract_lets u v
  have w : Within (parts [.objs, .faultShown, .deferred, .afterBoot, .ints, .net])
      ((u.modSup fun x => { x with latchWritten := true, quenchLatch := true }).put K.FS_CAUSE 0x0D) v :=
    State.showFault_within.sub.next State.bump_within
  have early' : v.sup.slot = none := by
    rw [w.sup]
    exact early
  rw [if_neg (by rw [early']; decide), w.sup, w.fsCause]
  exact ⟨rfl, State.get_put_self ..⟩

/-- SEAL has begun for a rail fault: the quench latch is set, and the fault's words and the cause of FAILSAFE show it. -/
theorem State.beginSeal_latches {estimated awaiting : Bool} {own : Option (Fin 16)} {code : GrpResult} (rail : causeOf tr = .railFault) :
    (s.beginSeal tr at_ estimated awaiting own code).sup.quenchLatch = true ∧
      (s.beginSeal tr at_ estimated awaiting own code).get K.FS_CAUSE = 0x0D ∧
      (s.beginSeal tr at_ estimated awaiting own code).NamesFault tr := by
  generalize ht : s.beginSeal tr at_ estimated awaiting own code = t
  unfold State.beginSeal at ht
  split at ht
  rename_i c s' core
  extract_lets a b d e f g at ht
  have sup : d.sup = a.sup :=
    (((State.everythingOff_within.sub.next State.refsDue_within).next State.canReset_within).next State.modModes_within :
      Within (allBut [.sup]) a d).sup
  have triggers : d.sup.triggers = [⟨tr, at_, estimated, awaiting⟩] := by
    rw [sup]
    rfl
  have early : d.sup.slot = none := by
    rw [sup]
    rfl
  have first : d.modes.sealCauses.railFault = false := rfl
  clear_value d
  obtain ⟨latch, cause⟩ := State.faultCause_latches (tr := tr) (at_ := at_) first early
  rw [← State.noteCause_of_railFault rail] at latch cause
  have names : (d.noteCause tr at_).settleTriggers.NamesFault tr :=
    State.settleTriggers_names (State.noteCause_triggers.trans triggers) rail
  have last : Within (allBut [.sup, .fsCause, .faultShown]) (d.noteCause tr at_).settleTriggers t :=
    ht ▸ (((State.mirOff_within.sub.next Within.set_met).next (State.puts_keys (keys := [K.SUP_SEAL_STAGE, K.SUP_SEAL_CAUSE]) rfl)).next
      State.habCheck_within).next State.raise_within
  exact ⟨by rw [last.sup, State.settleTriggers_quenchLatch, latch], by rw [last.fsCause, State.settleTriggers_within.fsCause, cause],
    last.namesFault names⟩

/-- In a mode in which a rail fault leads to SEAL it starts one (R45, R177). -/
theorem State.railFault_faultSeals {stamp : Option Nat} {own : Option (Fin 16)} {code : GrpResult} (mode : s.faultMode = true)
    (rail : causeOf tr = .railFault) : FaultSeals s (s.railFault tr stamp own code) tr := by
  unfold State.railFault
  rw [if_pos mode]
  obtain ⟨starts, primary, n, modes⟩ := State.beginSeal_holds (s := s) (tr := tr) (at_ := stamp.getD (s.now - 15))
    (estimated := stamp.isNone) (awaiting := stamp.isNone) (own := own) (code := code)
  obtain ⟨latch, cause, names⟩ := State.beginSeal_latches (s := s) (at_ := stamp.getD (s.now - 15)) (estimated := stamp.isNone)
    (awaiting := stamp.isNone) (own := own) (code := code) rail
  rw [rail] at modes
  refine ⟨starts, latch, primary, ?_, ?_, ?_, cause, names⟩ <;> rw [modes] <;> rfl

end Sys2Proof.Machine
end

section
/-! Sirocco: the reports of a tile, and what the moves of one tile leave of its network and of the others (R202–R211). -/

set_option Elab.async false

namespace Sys2Proof.Machine

variable {s t u : State} {m n : Fin 8} {j k : Fin 4} {p : Fin 56} {α : Type} {g : ThermTile → α}

/-! ### Tiles and sensors of a state that has changed -/

theorem State.thermTile_congr (h : t.therm = s.therm) : t.thermTile n = s.thermTile n := by unfold State.thermTile; rw [h]

@[simp] theorem State.thermTile_modTherm_self {f : ThermTile → ThermTile} : (s.modTherm n f).thermTile n = f (s.thermTile n) := by
  simp [State.thermTile, State.modTherm]

theorem State.thermTile_modTherm_ne {f : ThermTile → ThermTile} (h : m ≠ n) : (s.modTherm n f).thermTile m = s.thermTile m := by
  simp [State.thermTile, State.modTherm, Fin.val_inj, h.symm]

theorem State.sensor_congr (h : (t.thermTile n).sensors = (s.thermTile n).sensors) : t.sensor n k = s.sensor n k := by
  unfold State.sensor
  rw [h]

@[simp] theorem State.sensor_modSensor_self {f : SensorSt → SensorSt} : (s.modSensor n k f).sensor n k = f (s.sensor n k) := by
  simp [State.sensor, State.modSensor]

theorem State.sensor_modSensor_ne {f : SensorSt → SensorSt} (h : (m, j) ≠ (n, k)) : (s.modSensor n k f).sensor m j = s.sensor m j := by
  by_cases hm : m = n
  · subst hm
    have hj : ¬ k = j := fun e => h (by rw [e])
    simp [State.sensor, State.modSensor, Fin.val_inj, hj]
  · unfold State.sensor State.modSensor
    rw [State.thermTile_modTherm_ne hm]

/-! ### What a move of one tile leaves -/

/-- From `s` to `t` the network of no tile but `n` changes, and of that one nothing that `g` reads. -/
structure ThermKept (g : ThermTile → α) (n : Fin 8) (s t : State) : Prop where
  others : ∀ m, m ≠ n → t.thermTile m = s.thermTile m
  here : g (t.thermTile n) = g (s.thermTile n)

namespace ThermKept

theorem next (h : ThermKept g n s t) (h' : ThermKept g n t u) : ThermKept g n s u :=
  ⟨fun m hm => (h'.others m hm).trans (h.others m hm), h'.here.trans h.here⟩

/-- What changes no network. -/
theorem of_therm (h : t.therm = s.therm) : ThermKept g n s t :=
  ⟨fun _ _ => State.thermTile_congr h, congrArg g (State.thermTile_congr h)⟩

theorem refl : ThermKept g n s s := of_therm rfl

theorem ite {c : Prop} [Decidable c] (h : ThermKept g n s t) (h' : ThermKept g n s u) : ThermKept g n s (if c then t else u) := by
  split
  · exact h
  · exact h'

theorem modTherm {f : ThermTile → ThermTile} (h : g (f (s.thermTile n)) = g (s.thermTile n)) : ThermKept g n s (s.modTherm n f) :=
  ⟨fun _ hm => State.thermTile_modTherm_ne hm, by rw [State.thermTile_modTherm_self, h]⟩

theorem foldl {ι : Type} {f : State → ι → State} {l : List ι} (h : ∀ u i, ThermKept g n u (f u i)) : ThermKept g n s (l.foldl f s) :=
  foldl_keeps (P := ThermKept g n s) refl fun _ _ hu => hu.next (h _ _)

theorem only (h : ThermKept g n s t) : ThermKept (fun _ => ()) n s t := ⟨h.others, rfl⟩

theorem every (h : ThermKept g n s t) (m : Fin 8) : g (t.thermTile m) = g (s.thermTile m) := by
  by_cases hm : m = n
  · rw [hm, h.here]
  · rw [h.others m hm]

theorem sensor (h : ThermKept ThermTile.sensors n s t) : t.sensor m k = s.sensor m k := State.sensor_congr (h.every m)

end ThermKept

/-! ### Events of Sirocco (R218, R220) -/

theorem State.raiseSir_therm {i : Nat} : (s.raiseSir n i).therm = s.therm := State.raise_therm ..

theorem State.raiseSir_shows {i : Nat} : (s.raiseSir n i).Shows Ev.sir i := State.raise_bit _ Ev.sir i rfl (by decide)

/-- An event of Sirocco clears no bit of an event object; besides those it writes only `SIR_EVENT_TILES`. -/
theorem State.raiseSir_keeps_shows {e : EventObj} {i b : Nat} (named : e.key ≠ K.SIR_EVENT_TILES) (hd : e.key ≠ K.NET_EVENTS_DROPPED)
    (h : s.Shows e b) : (s.raiseSir n i).Shows e b :=
  State.raise_keeps_shows hd (h.congr (State.get_put_ne _ named _))

theorem State.raiseSir_objectsKept {i : Nat} : ObjectsKept s (s.raiseSir n i) (K.SIR_EVENT_TILES :: eventObjects Ev.sir) :=
  fun key hk => by
    obtain ⟨named, event⟩ := not_or.1 (List.mem_cons.not.1 hk)
    exact (State.raise_objectsKept key event).trans (State.get_put_ne _ named _)

/-! ### WARN, the rate and the objects shown (R210, R211, R217) -/

/-- The network's lags and temperatures and the sensors of a tile: all that the limits and the shown values leave. -/
def ThermTile.core (x : ThermTile) : Vector Int 4 × Int × Int × Vector SensorSt 4 := (x.dt, x.tj, x.tref, x.sensors)

theorem ThermKept.sensors_of_core (h : ThermKept ThermTile.core n s t) : ThermKept ThermTile.sensors n s t :=
  ⟨h.others, congrArg (fun x => x.2.2.2) h.here⟩

theorem State.warnStep_core : ThermKept ThermTile.core n s (s.warnStep n) := by
  have turn (w : Bool) : ThermKept ThermTile.core n s (s.modTherm n fun x => { x with warn := w }) := .modTherm rfl
  unfold State.warnStep
  extract_lets w vs v
  exact .ite (.ite (.ite (turn false) ((turn false).next (.of_therm State.raiseSir_therm))) .refl)
    (.ite ((turn true).next (.of_therm State.raiseSir_therm)) .refl)

theorem State.setRate_core {fast : Bool} : ThermKept ThermTile.core n s (s.setRate n fast) := by
  unfold State.setRate
  exact .modTherm rfl

theorem State.rateStep_core : ThermKept ThermTile.core n s (s.rateStep n) := by
  unfold State.rateStep
  extract_lets w vs v
  have low : ThermKept ThermTile.core n s v := .modTherm rfl
  exact .ite ((low.next State.setRate_core).next (.of_therm State.raiseSir_therm)) low

theorem State.showTile_core : ThermKept ThermTile.core n s (s.showTile n) := by
  unfold State.showTile
  exact .modTherm rfl

theorem State.rearm_thermTile : s.rearm.thermTile n = s.thermTile n := by
  unfold State.rearm
  split <;> rfl

theorem State.rearm_core : ThermKept g n s s.rearm := ⟨fun _ _ => State.rearm_thermTile, congrArg g State.rearm_thermTile⟩

/-! ### A tile leaves fast rate, and diverges (R209, R210) -/

theorem State.rateSlow_of_low (runs : s.siroccoRuns = true) (fast : (s.thermTile n).fast = true) (low : (s.thermTile n).low = true) :
    s.rateSlow n = (s.setRate n false).raiseSir n 3 := if_pos (by simp [runs, fast, low])

theorem State.modelDiverge_of_far (runs : s.siroccoRuns = true) (far : (s.thermTile n).far = true)
    (calm : (s.thermTile n).diverge = false) :
    s.modelDiverge n = (s.modTherm n fun x => { x with diverge := true }).raiseSir n 6 := if_pos (by simp [runs, far, calm])

/-- What moves a tile alone and then reports it. -/
theorem State.modTherm_raiseSir_holds {f : ThermTile → ThermTile} {i : Nat} :
    ((s.modTherm n f).raiseSir n i).thermTile n = f (s.thermTile n) ∧ ((s.modTherm n f).raiseSir n i).Shows Ev.sir i ∧
      (∀ m, m ≠ n → ((s.modTherm n f).raiseSir n i).thermTile m = s.thermTile m) ∧
      ObjectsKept s ((s.modTherm n f).raiseSir n i) (K.SIR_EVENT_TILES :: eventObjects Ev.sir) :=
  ⟨(State.thermTile_congr State.raiseSir_therm).trans State.thermTile_modTherm_self, State.raiseSir_shows,
    fun _ hm => (State.thermTile_congr State.raiseSir_therm).trans (State.thermTile_modTherm_ne hm), State.raiseSir_objectsKept⟩

end Sys2Proof.Machine
end

section
/-! TEMP_LIMIT: which trip is recorded, and what it does where rails may be up and in IDLE (R211–R213). -/

set_option Elab.async false

namespace Sys2Proof.Machine

variable {s t : State} {m n : Fin 8} {k : Fin 4} {p : Fin 56} {kind : FaultKind} {i : Nat}

/-! ### The first of a sorted list -/

theorem exists_split_of_sorted {N : Nat} {l : List (Fin N)} {a : Fin N} (sorted : l.Pairwise (· < ·)) (ha : a ∈ l) :
    ∃ below above, l = below ++ a :: above ∧ ∀ b ∈ below, b < a := by
  obtain ⟨below, above, rfl⟩ := List.append_of_mem ha
  exact ⟨below, above, rfl, fun b hb => (List.pairwise_append.1 sorted).2.2 b hb a List.mem_cons_self⟩

theorem head?_filter_of_first {N : Nat} {l : List (Fin N)} {a : Fin N} {c : Fin N → Bool} (sorted : l.Pairwise (· < ·)) (ha : a ∈ l)
    (here : c a = true) (before : ∀ b, b < a → c b = false) : (l.filter c).head? = some a := by
  obtain ⟨below, above, rfl, less⟩ := exists_split_of_sorted sorted ha
  rw [List.filter_append, List.filter_eq_nil_iff.2 fun b hb => by simp [before b (less b hb)], List.nil_append,
    List.filter_cons_of_pos here, List.head?_cons]

/-! ### The trips of a tile (R211, R212) -/

theorem State.mem_tilePhases : p ∈ tilePhases n ↔ tileOf p = n := by simp [tilePhases]

theorem State.tilePhases_sorted : (tilePhases n).Pairwise (· < ·) := (List.pairwise_lt_finRange 56).filter _

theorem tileOf_ne_zero : tileOf p ≠ 0 := by simp [tileOf, Fin.ext_iff]

theorem State.sensorsOf_sorted : (sensorsOf n).Pairwise (· < ·) := by
  unfold sensorsOf
  split <;> decide

theorem State.modelTrips_keeper (hot : 10 ≤ (s.thermTile 0).hotRun) : s.modelTrips 0 = [(0, .keeper, 0)] := by
  simp [State.modelTrips, hot]

/-- A tile none of whose phases is hot, and tile 0 with a junction that is not, have no trip of the model. -/
theorem State.modelTrips_eq_nil (junction : n = 0 → (s.thermTile 0).hotRun < 10) (spots : ∀ q, tileOf q = n → (s.phase q).hotRun < 10) :
    s.modelTrips n = [] := by
  unfold State.modelTrips
  split
  · rename_i h0
    exact if_neg (not_le.2 (junction h0))
  · rw [List.map_eq_nil_iff, List.filter_eq_nil_iff]
    intro q hq
    simpa using spots q (State.mem_tilePhases.1 hq)

/-- The model's trip of a tile with one hot phase. -/
theorem State.modelTrips_head (hot : 10 ≤ (s.phase p).hotRun) (others : ∀ q, q ≠ p → (s.phase q).hotRun < 10) :
    (s.modelTrips (tileOf p)).head? = some (tileOf p, .phase, p.val) := by
  unfold State.modelTrips
  rw [if_neg tileOf_ne_zero, List.head?_map, head?_filter_of_first State.tilePhases_sorted (State.mem_tilePhases.2 rfl) (by simpa using hot)
    fun q hq => by simpa using others q hq.ne]
  rfl

theorem State.validSensors_sorted : (s.validSensors n).Pairwise (· < ·) := State.sensorsOf_sorted.filter _

/-- The sensors' trip of a tile is that of its first hot sensor. -/
theorem State.sensorTrips_head (valid : k ∈ s.validSensors n) (hot : 2 ≤ (s.sensor n k).hotRun)
    (first : ∀ j, j < k → (s.sensor n j).hotRun < 2) : (s.sensorTrips n).head? = some (n, .keeper, 0x10 + k.val) := by
  unfold State.sensorTrips
  rw [List.head?_map, head?_filter_of_first State.validSensors_sorted valid (by simpa using hot) fun j hj => by simpa using first j hj]
  rfl

/-! ### The trip that is recorded (R212) -/

/-- The lowest tile's trip is recorded, and of one tile the model's before a sensor's. -/
theorem State.firstTrip_eq (model : ∀ m, m < n → s.modelTrips m = []) (sensors : ∀ m, m < n → s.sensorTrips m = [])
    (here : (s.modelTrips n ++ s.sensorTrips n).head? = some (n, kind, i)) : s.firstTrip = some (n, kind, i) := by
  unfold State.firstTrip
  obtain ⟨below, above, split_, less⟩ := exists_split_of_sorted (List.pairwise_lt_finRange 8) (List.mem_finRange n)
  have quiet : below.flatMap (fun m => s.modelTrips m ++ s.sensorTrips m) = [] :=
    List.flatMap_eq_nil_iff.2 fun m hm => by rw [model m (less m hm), sensors m (less m hm), List.nil_append]
  rw [split_, List.flatMap_append, quiet, List.nil_append, List.flatMap_cons, List.head?_append, here]
  rfl

/-- Where a trip of the kind stands, the one that is recorded is carried out. -/
theorem State.decideTrip_eq {trips : Fin 8 → List (Fin 8 × FaultKind × Nat)} (runs : s.siroccoRuns = true) (stands : trips m ≠ [])
    (first : s.firstTrip = some (n, kind, i)) : s.decideTrip trips = s.tempTrip n kind i := by
  unfold State.decideTrip
  have some_ : ((List.finRange 8).flatMap trips).isEmpty = false := by
    rw [List.isEmpty_eq_false_iff, ne_eq, List.flatMap_eq_nil_iff]
    exact fun none_ => stands (none_ m (List.mem_finRange m))
  rw [if_neg (by simp [runs, some_]), first]

/-! ### What a trip does (R213) -/

theorem State.tempTrip_faultSeals (mode : s.faultMode = true) : FaultSeals s (s.tempTrip n kind i) ⟨0x09, kind, i, n.val⟩ := by
  unfold State.tempTrip
  extract_lets tr
  rw [if_pos mode]
  exact State.railFault_faultSeals mode rfl

theorem State.faultMode_of_idle (idle : s.modes.mode = .idle) (still : s.ramping = false) (dead : s.anyRailLive = false) :
    s.faultMode = false := by
  simp [State.faultMode, idle, still, dead]

theorem State.chargerStop_charging : s.chargerStop.charging = false := by
  have suspended : (((s.modChg fun c => { c with st := .suspended }).raise Ev.chg 2).raise Ev.chg 9).charging = false := by
    rw [State.charging, State.raise_chg, State.raise_chg]
    rfl
  unfold State.chargerStop
  split
  · exact suspended
  · exact suspended
  · exact suspended
  · unfold State.charging
    split <;> simp_all

/-- A trip in IDLE opens every output and stops the charger, and neither the mode nor a rail changes. -/
theorem State.tempTrip_idle (idle : s.modes.mode = .idle) (still : s.ramping = false) (dead : s.anyRailLive = false)
    (armed : s.therm.shutIdle = false) : (s.tempTrip n kind i).therm.shutIdle = true ∧ (s.tempTrip n kind i).modes = s.modes ∧
      (s.tempTrip n kind i).rails = s.rails ∧ (s.tempTrip n kind i).charging = false ∧ (∀ j, ((s.tempTrip n kind i).aux j).st = .off) ∧
      (s.tempTrip n kind i).Shows Ev.sir 7 := by
  unfold State.tempTrip
  rw [State.faultMode_of_idle idle still dead]
  extract_lets tr v x
  rw [if_neg (by decide), if_pos (by simp [idle, armed])]
  have stopped : v.charging = false := State.chargerStop_charging
  have opened : ∀ j, (v.aux j).st = .off := fun j => by
    rw [State.aux_congr State.chargerStop_within.auxs]
    exact State.idleFault_shut.1
  have kept : Within (parts [.objs, .mram, .freeIdx, .ints, .auxs, .net, .chg]) s v :=
    State.idleFault_within.sub.next State.chargerStop_within
  clear_value x v
  have last {u : State} : Within (parts [.objs, .ints, .net]) u (u.raiseSir n 7) := State.raiseSir_within
  refine ⟨?_, ?_, ?_, ?_, fun j => ?_, State.raiseSir_shows⟩
  · rw [last.therm]
  · rw [last.modes]
    exact kept.modes
  · rw [last.rails]
    exact kept.rails
  · rw [State.charging, last.chg]
    exact stopped
  · rw [State.aux_congr last.auxs]
    exact opened j

end Sys2Proof.Machine
end

section
/-! The sensors of a tile: a sample, a sensor that breaks, and the reset (R206–R209, R218). -/

set_option Elab.async false

namespace Sys2Proof.Machine

variable {s t u : State} {m n : Fin 8} {j k : Fin 4} {acc : Accessor} {α : Type}

theorem State.modSensor_only {f : SensorSt → SensorSt} : ThermKept (fun _ => ()) n s (s.modSensor n k f) := .modTherm rfl

/-- What a change of one sensor leaves as it is of that sensor, it leaves of every sensor. -/
theorem State.modSensor_sensor_keeps (g : SensorSt → α) {f : SensorSt → SensorSt} (h : ∀ x, g (f x) = g x) :
    g ((s.modSensor n k f).sensor m j) = g (s.sensor m j) := by
  by_cases e : (m, j) = (n, k)
  · obtain ⟨rfl, rfl⟩ := Prod.mk.inj e
    rw [State.sensor_modSensor_self, h]
  · rw [State.sensor_modSensor_ne e]

theorem State.modSensors_sensor_keeps (g : SensorSt → α) {f : Fin 4 → SensorSt → SensorSt} {l : List (Fin 4)}
    (h : ∀ i x, g (f i x) = g x) : g ((l.foldl (fun (v : State) i => v.modSensor n i (f i)) s).sensor m j) = g (s.sensor m j) :=
  foldl_keeps (P := fun v : State => g (v.sensor m j) = g (s.sensor m j)) rfl fun _ i hv => (State.modSensor_sensor_keeps g (h i)).trans hv

/-! ### A sensor breaks (R206, R208, R209) -/

variable {st : SensorState}

/-- Besides the sensor itself no sensor changes. -/
theorem State.breakSensor_sensors :
    ThermKept ThermTile.sensors n (s.modSensor n k fun x => { x with st := st, disRun := 0, hotRun := 0 }) (s.breakSensor n k st) := by
  unfold State.breakSensor
  extract_lets u v
  have counted : ThermKept ThermTile.sensors n u v := .of_therm ((State.bump_therm ..).trans State.raiseSir_therm)
  have lost : ThermKept ThermTile.sensors n v (v.modTherm n fun x => { x with lost := true }) := .modTherm rfl
  exact .ite ((counted.next lost).next (.of_therm State.raiseSir_therm)) counted

theorem State.breakSensor_sensor_self :
    (s.breakSensor n k st).sensor n k = { s.sensor n k with st := st, disRun := 0, hotRun := 0 } :=
  State.breakSensor_sensors.sensor.trans State.sensor_modSensor_self

theorem State.breakSensor_sensor_ne (h : (m, j) ≠ (n, k)) : (s.breakSensor n k st).sensor m j = s.sensor m j :=
  State.breakSensor_sensors.sensor.trans (State.sensor_modSensor_ne h)

theorem State.breakSensor_only : ThermKept (fun _ => ()) n s (s.breakSensor n k st) :=
  State.modSensor_only.next State.breakSensor_sensors.only

theorem State.breakSensor_shows : (s.breakSensor n k st).Shows Ev.sir 4 := by
  unfold State.breakSensor
  extract_lets u v
  have broken : v.Shows Ev.sir 4 := State.bump_keeps_shows (by decide) (by decide) State.raiseSir_shows
  split
  · exact State.raiseSir_keeps_shows (by decide) (by decide) (broken.congr rfl)
  · exact broken

/-! ### A sample (R206–R208) -/

/-- The state of a sensor after a reading: a valid one outside its range is broken (R206). -/
def SensorState.classed (x : SensorState) (v : Int) : SensorState :=
  if x = .valid then if v < -5500 then .opened else if 17500 < v then .short else .valid else x

theorem State.takeReading_sensor_self {v : Int} : ((s.takeReading n k v).sensor n k).reading = some v ∧
    ((s.takeReading n k v).sensor n k).st = (s.sensor n k).st.classed v := by
  unfold State.takeReading
  extract_lets u
  have reading : (u.sensor n k).reading = some v := by simp [u]
  have st : (u.sensor n k).st = (s.sensor n k).st := by simp [u]
  clear_value u
  rw [← st, SensorState.classed]
  by_cases valid : (u.sensor n k).st = .valid
  · rw [if_neg (not_not.2 valid), if_pos valid]
    split
    · rw [State.breakSensor_sensor_self]
      exact ⟨reading, rfl⟩
    · split
      · rw [State.breakSensor_sensor_self]
        exact ⟨reading, rfl⟩
      · exact ⟨reading, valid⟩
  · rw [if_pos valid, if_neg valid]
    exact ⟨reading, rfl⟩

theorem State.takeReading_sensor_ne {v : Int} (h : j ≠ k) : (s.takeReading n k v).sensor n j = s.sensor n j := by
  have other : (n, j) ≠ (n, k) := fun e => h (Prod.mk.inj e).2
  unfold State.takeReading
  extract_lets u
  have taken : u.sensor n j = s.sensor n j := State.sensor_modSensor_ne other
  split
  · exact taken
  · split
    · exact (State.breakSensor_sensor_ne other).trans taken
    · split
      · exact (State.breakSensor_sensor_ne other).trans taken
      · exact taken

theorem State.takeReading_only {v : Int} : ThermKept (fun _ => ()) n s (s.takeReading n k v) := by
  unfold State.takeReading
  extract_lets u
  have taken : ThermKept (fun _ => ()) n s u := State.modSensor_only
  exact .ite taken (.ite (taken.next State.breakSensor_only) (.ite (taken.next State.breakSensor_only) taken))

/-- Every sensor of a list takes its reading in. -/
theorem State.takeReadings_sensor {rs : Vector Int 4} {l : List (Fin 4)} (nodup : l.Nodup) (mem : k ∈ l) :
    ((l.foldl (fun (v : State) j => v.takeReading n j rs[j]) s).sensor n k).reading = some rs[k] ∧
      ((l.foldl (fun (v : State) j => v.takeReading n j rs[j]) s).sensor n k).st = (s.sensor n k).st.classed rs[k] := by
  have each := foldl_each (get := fun (v : State) (j : Fin 4) => (rs[j], (v.sensor n j).reading, (v.sensor n j).st))
    (f := fun v j => v.takeReading n j rs[j]) (F := fun x => (x.1, some x.1, x.2.2.classed x.1))
    (fun v j => by rw [State.takeReading_sensor_self.1, State.takeReading_sensor_self.2])
    (fun v i j h => by rw [State.takeReading_sensor_ne h]) nodup s k
  rw [if_pos mem] at each
  obtain ⟨-, reading, st⟩ := by simpa only [Prod.mk.injEq] using each
  exact ⟨reading, st⟩

theorem State.correctRef_sensors : ThermKept ThermTile.sensors n s (s.correctRef n) := by
  unfold State.correctRef
  extract_lets ks x
  refine .ite .refl ?_
  split
  · exact (ThermKept.modTherm rfl).next (.foldl fun _ _ => .of_therm rfl)
  · exact .modTherm rfl
  · exact .modTherm rfl

/-- A sample takes every reading of its tile in, and no network of another tile changes. -/
theorem State.sensorSample_holds {rs : Vector Int 4} (runs : s.siroccoRuns = true) (on : n = 0 ∨ s.tilePowered n = true) :
    (∀ k ∈ sensorsOf n, ((s.sensorSample n rs).sensor n k).reading = some rs[k] ∧
      ((s.sensorSample n rs).sensor n k).st = (s.sensor n k).st.classed rs[k]) ∧
      ∀ m, m ≠ n → (s.sensorSample n rs).thermTile m = s.thermTile m := by
  unfold State.sensorSample
  rw [if_pos (by simpa [runs] using on)]
  extract_lets u bad v w
  have taken : ∀ k ∈ sensorsOf n, (u.sensor n k).reading = some rs[k] ∧ (u.sensor n k).st = (s.sensor n k).st.classed rs[k] :=
    fun k hk => State.takeReadings_sensor (State.sensorsOf_sorted.imp fun h => h.ne) hk
  have only : ThermKept (fun _ => ()) n s u := .foldl fun _ _ => State.takeReading_only
  clear_value u
  have counted : ∀ j, ((v.sensor n j).reading, (v.sensor n j).st) = ((u.sensor n j).reading, (u.sensor n j).st) := fun j =>
    State.modSensors_sensor_keeps (fun x => (x.reading, x.st)) fun _ _ => rfl
  have only' : ThermKept (fun _ => ()) n u v := .foldl fun _ _ => State.modSensor_only
  clear_value v
  have limits : ThermKept ThermTile.sensors n w ((w.warnStep n).rateStep n).rearm :=
    ((State.warnStep_core.next State.rateStep_core).next State.rearm_core).sensors_of_core
  have last : ThermKept ThermTile.sensors n v ((w.warnStep n).rateStep n).rearm := State.correctRef_sensors.next limits
  refine ⟨fun k hk => ?_, fun m hm => (last.others m hm).trans ((only'.others m hm).trans (only.others m hm))⟩
  obtain ⟨reading, st⟩ := Prod.mk.inj (counted k)
  rw [last.sensor, reading, st]
  exact taken k hk

/-! ### The cross-check (R208) -/

/-- One declaration of the cross-check. -/
def State.checkSensor (s : State) (x : Fin 8 × Fin 4) : State :=
  if (s.sensor x.1 x.2).st = .valid && 8 ≤ (s.sensor x.1 x.2).disRun && s.disagrees x.1 x.2 then s.breakSensor x.1 x.2 .disagree else s

theorem State.checkSensor_of_due (valid : (s.sensor n k).st = .valid) (due : 8 ≤ (s.sensor n k).disRun)
    (far : s.disagrees n k = true) : s.checkSensor (n, k) = s.breakSensor n k .disagree := if_pos (by simp [valid, due, far])

theorem State.checkSensor_of_calm (calm : (s.sensor n k).disRun < 8) : s.checkSensor (n, k) = s := if_neg (by simp [calm])

/-- Where no sensor trips, the declarations are made in turn. -/
theorem State.crossCheck_of_cool (runs : s.siroccoRuns = true) (cool : ∀ m, s.sensorTrips m = []) :
    s.crossCheck = ((List.finRange 8).flatMap fun m => (sensorsOf m).map fun j => (m, j)).foldl State.checkSensor s := by
  have none_ : ((List.finRange 8).flatMap s.sensorTrips).isEmpty = true := by
    rw [List.isEmpty_iff, List.flatMap_eq_nil_iff]
    exact fun m _ => cool m
  exact if_pos (by simp [runs, none_])

/-- The one sensor that has disagreed for 8 samples is broken. -/
theorem State.crossCheck_of_one (runs : s.siroccoRuns = true) (cool : ∀ m, s.sensorTrips m = []) (mem : k ∈ sensorsOf n)
    (valid : (s.sensor n k).st = .valid) (due : 8 ≤ (s.sensor n k).disRun) (far : s.disagrees n k = true)
    (others : ∀ m j, (m, j) ≠ (n, k) → (s.sensor m j).disRun < 8) : s.crossCheck = s.breakSensor n k .disagree := by
  have listed : (n, k) ∈ (List.finRange 8).flatMap fun m => (sensorsOf m).map fun j => (m, j) :=
    List.mem_flatMap.2 ⟨n, List.mem_finRange n, List.mem_map_of_mem mem⟩
  obtain ⟨before, after, split_, fresh⟩ := List.eq_append_cons_of_mem listed
  have start : before.foldl State.checkSensor s = s :=
    foldl_eq_self fun x hx => State.checkSensor_of_calm (others x.1 x.2 fun e => fresh (e ▸ hx))
  have rest : after.foldl State.checkSensor (s.breakSensor n k .disagree) = s.breakSensor n k .disagree := by
    refine foldl_eq_self fun x _ => State.checkSensor_of_calm ?_
    by_cases here : (x.1, x.2) = (n, k)
    · obtain ⟨tile, number⟩ := Prod.mk.inj here
      rw [tile, number, State.breakSensor_sensor_self]
      exact Nat.zero_lt_succ 7
    · rw [State.breakSensor_sensor_ne here]
      exact others x.1 x.2 here
  rw [State.crossCheck_of_cool runs cool, split_, List.foldl_append, List.foldl_cons, start, State.checkSensor_of_due valid due far, rest]

/-! ### The reset (R218) -/

/-- A reset makes a sensor that disagreed valid. -/
def SensorSt.reset (x : SensorSt) : SensorSt := if x.st = .disagree then { x with st := .valid, disRun := 0 } else x

/-- The reset of one tile's sensors. -/
def State.resetTile (s : State) (n : Fin 8) : State :=
  let v := s.modTherm n fun x => { x with sensors := x.sensors.map SensorSt.reset }
  if (v.validSensors n).isEmpty then v else v.modTherm n fun x => { x with lost := false }

theorem State.resetTile_sensors_self : ((s.resetTile n).thermTile n).sensors = (s.thermTile n).sensors.map SensorSt.reset := by
  unfold State.resetTile
  extract_lets v
  have reset : (v.thermTile n).sensors = (s.thermTile n).sensors.map SensorSt.reset := by
    simp only [v, State.thermTile_modTherm_self]
  split
  · exact reset
  · rw [State.thermTile_modTherm_self]
    exact reset

theorem State.resetTile_thermTile_ne (h : m ≠ n) : (s.resetTile n).thermTile m = s.thermTile m := by
  unfold State.resetTile
  extract_lets v
  have other : v.thermTile m = s.thermTile m := State.thermTile_modTherm_ne h
  split
  · exact other
  · exact (State.thermTile_modTherm_ne h).trans other

/-- In SERVICE the write resets every tile. -/
theorem State.writeSensorReset_ok (admits : s.Admits acc K.SIR_SENSOR_RESET 1) (role : s.installerUp acc = true)
    (service : s.modes.mode = .service) : s.writeSensorReset acc 0x5A = .ok ((List.finRange 8).foldl State.resetTile s, .done) := by
  obtain ⟨-, d, reach, granted⟩ := admits
  unfold State.writeSensorReset
  rw [State.writeVia_ok _ reach granted, if_neg (by simp [role]), if_neg (by simp [service]), if_neg (by decide)]
  rfl

theorem State.resetTiles_sensor : ((List.finRange 8).foldl State.resetTile s).sensor n k = (s.sensor n k).reset := by
  have each := foldl_each (get := fun (v : State) (m : Fin 8) => (v.thermTile m).sensors) (f := State.resetTile)
    (F := fun x => x.map SensorSt.reset) (fun _ _ => State.resetTile_sensors_self)
    (fun _ _ _ h => congrArg ThermTile.sensors (State.resetTile_thermTile_ne h)) (List.nodup_finRange 8) s n
  rw [if_pos (List.mem_finRange n)] at each
  unfold State.sensor
  rw [each]
  simp

theorem State.resetTiles_eq : (List.finRange 8).foldl State.resetTile s =
    { s with therm := ((List.finRange 8).foldl State.resetTile s).therm } := by
  refine foldl_keeps (P := fun u : State => u = { s with therm := u.therm }) rfl fun u m hu => ?_
  have step : u.resetTile m = { u with therm := (u.resetTile m).therm } := by
    unfold State.resetTile
    extract_lets v
    split <;> rfl
  exact step.trans (congrArg (fun x : State => { x with therm := (u.resetTile m).therm }) hu)

end Sys2Proof.Machine
end

section
/-! An update: every lag of every fitted tile and its junction advance (R203, R204, R217). -/

set_option Elab.async false

namespace Sys2Proof.Machine

variable {s t u v : State} {m n : Fin 8} {p q : Fin 56} {α : Type}

/-! ### What an update leaves of a phase -/

/-- What the hot spot's advance leaves as it is of a phase. -/
theorem State.hotStep_phase_keeps (g : PhaseSt → α) (h : ∀ x hs run, g { x with hs := hs, hotRun := run } = g x) :
    g ((s.hotStep q).phase p) = g (s.phase p) := by
  unfold State.hotStep
  split
  exact State.modPhase_phase_keeps g fun _ => h ..

theorem State.tileStep_phase_keeps (g : PhaseSt → α) (h : ∀ x hs run, g { x with hs := hs, hotRun := run } = g x) :
    g ((s.tileStep n).phase p) = g (s.phase p) := by
  unfold State.tileStep
  split
  extract_lets power dt tj hot v w hs
  exact foldl_keeps (P := fun x : State => g (x.phase p) = g (s.phase p)) rfl fun _ _ hx => (State.hotStep_phase_keeps g h).trans hx

/-- What a phase has gathered for the next update (R203). -/
def PhaseSt.interval (x : PhaseSt) : Int × Nat × Nat := (x.thSum, x.thAct, x.thN)

theorem State.intervalLoss_congr (objs : t.objs = s.objs) (interval : (t.phase p).interval = (s.phase p).interval) :
    t.intervalLoss p = s.intervalLoss p := by
  simp only [PhaseSt.interval, Prod.mk.injEq] at interval
  obtain ⟨sum, act, count⟩ := interval
  simp only [State.intervalLoss, State.fullLoss, State.get_congr objs, sum, act, count]

/-- The input of a tile's network depends on what its phases have gathered, and on nothing that an update moves. -/
theorem State.tileInput_congr (w : Within (parts [.phases, .therm]) s t) (interval : ∀ p, (t.phase p).interval = (s.phase p).interval) :
    t.tileInput n = s.tileInput n := by
  have objs : t.objs = s.objs := w.same .objs rfl
  have powered : t.tilePowered n = s.tilePowered n := by
    simp only [State.tilePowered, State.quenchDown, State.tileFitted, State.tile, w.modes, w.sup, w.tiles, w.caps]
  have losses : t.intervalLoss = s.intervalLoss := funext fun p => State.intervalLoss_congr objs (interval p)
  simp only [State.tileInput, State.get_congr objs, powered, losses]

/-! ### One tile advances (R204) -/

/-- From `s` to `t` every lag of tile `n` advances, and the junction is the reference plus the rises; the reference stays. -/
structure State.AdvancesTile (n : Fin 8) (s t : State) : Prop where
  dt : ∀ i : Fin 4, (t.thermTile n).dt[i] = lag (s.thermTile n).dt[i] (s.tileInput n)
    (s.get (if n = 0 then K.SIR_KEEPER_R i else K.SIR_LANTERN_R i)) (s.getN (if n = 0 then K.SIR_KEEPER_TAU i else K.SIR_LANTERN_TAU i))
  tj : (t.thermTile n).tj = (s.thermTile n).tref + (t.thermTile n).dt.toList.sum
  tref : (t.thermTile n).tref = (s.thermTile n).tref

/-- An advance starts from a state that reads the same for the tile, and lasts while its network's core does. -/
theorem State.AdvancesTile.congr (h : State.AdvancesTile n t u) (tile : t.thermTile n = s.thermTile n)
    (input : t.tileInput n = s.tileInput n) (objs : t.objs = s.objs) (after : (v.thermTile n).core = (u.thermTile n).core) :
    State.AdvancesTile n s v := by
  simp only [ThermTile.core, Prod.mk.injEq] at after
  obtain ⟨dt, tj, tref, -⟩ := after
  obtain ⟨dt', tj', tref'⟩ := h
  simp only [State.getN, State.get_congr objs, tile, input] at dt' tj' tref'
  exact ⟨by rw [dt]; exact dt', by rw [tj, dt]; exact tj', by rw [tref]; exact tref'⟩

theorem State.tileStep_advances : State.AdvancesTile n s (s.tileStep n) := by
  unfold State.tileStep
  split
  rename_i r tau keys
  extract_lets power dt tj hot v w hs
  have keys' : (∀ i, r i = if n = 0 then K.SIR_KEEPER_R i else K.SIR_LANTERN_R i) ∧
      ∀ i, tau i = if n = 0 then K.SIR_KEEPER_TAU i else K.SIR_LANTERN_TAU i := by
    by_cases keeper : n = 0
    · rw [if_pos keeper] at keys
      obtain ⟨rfl, rfl⟩ := Prod.mk.inj keys
      simp [keeper]
    · rw [if_neg keeper] at keys
      obtain ⟨rfl, rfl⟩ := Prod.mk.inj keys
      simp [keeper]
  have spots : Within (parts [.phases]) v w := Within.refl.foldl fun _ _ => State.hotStep_within
  have tile : ((w.modTherm n fun x => { x with tmax := tj + hs.foldl max 0 }).thermTile n).core = (v.thermTile n).core := by
    rw [State.thermTile_modTherm_self, State.thermTile_congr spots.therm]
    rfl
  have advanced : State.AdvancesTile n s v := by
    obtain ⟨hr, htau⟩ := keys'
    refine ⟨fun i => ?_, ?_, ?_⟩
    · rw [← hr, ← htau]
      simp [v, dt, power]
    · simp [v, tj]
    · simp [v]
  exact advanced.congr rfl rfl rfl tile

theorem State.tileStep_only : ThermKept (fun _ => ()) n s (s.tileStep n) := by
  unfold State.tileStep
  split
  extract_lets power dt tj hot v w hs
  have lags : ThermKept (fun _ => ()) n s v := .modTherm rfl
  have spots : ThermKept (fun _ => ()) n v w := .foldl fun _ _ => .of_therm State.hotStep_within.therm
  exact (lags.next spots).next (.modTherm rfl)

/-! ### The tiles in turn -/

/-- Moves of the tiles of a list, each of which concerns its own tile alone. -/
theorem ThermKept.tiles {g : ThermTile → α} {f : State → Fin 8 → State} {l : List (Fin 8)} (h : ∀ u m, ThermKept g m u (f u m)) :
    (∀ m, g ((l.foldl f s).thermTile m) = g (s.thermTile m)) ∧ ∀ m, m ∉ l → (l.foldl f s).thermTile m = s.thermTile m :=
  ⟨fun m => foldl_keeps (P := fun u : State => g (u.thermTile m) = g (s.thermTile m)) rfl fun u i hu => ((h u i).every m).trans hu,
    fun m hm => foldl_keeps_mem (P := fun u : State => u.thermTile m = s.thermTile m) rfl
      fun u i hi hu => ((h u i).others m fun e => hm (e ▸ hi)).trans hu⟩

/-- Each tile in its turn advances as from the start: the turns before leave its network and its input, those after leave its network. -/
theorem State.tileSteps_advance {l : List (Fin 8)} (nodup : l.Nodup) (mem : n ∈ l) : State.AdvancesTile n s (l.foldl State.tileStep s) := by
  obtain ⟨before, after, rfl⟩ := List.append_of_mem mem
  obtain ⟨-, nodup', apart⟩ := List.nodup_append'.1 nodup
  have notBefore : n ∉ before := fun h => apart h List.mem_cons_self
  have notAfter : n ∉ after := (List.nodup_cons.1 nodup').1
  rw [List.foldl_append, List.foldl_cons]
  have w : Within (parts [.phases, .therm]) s (before.foldl State.tileStep s) := Within.refl.foldl fun _ _ => State.tileStep_within
  have interval (p : Fin 56) : ((before.foldl State.tileStep s).phase p).interval = (s.phase p).interval :=
    foldl_keeps (P := fun u : State => (u.phase p).interval = (s.phase p).interval) rfl
      fun _ _ hu => (State.tileStep_phase_keeps PhaseSt.interval fun _ _ _ => rfl).trans hu
  refine State.tileStep_advances.congr ((ThermKept.tiles fun _ _ => State.tileStep_only).2 n notBefore)
    (State.tileInput_congr w interval) (w.same .objs rfl) ?_
  rw [(ThermKept.tiles fun _ _ => State.tileStep_only).2 n notAfter]

/-! ### The whole update -/

/-- What a phase has gathered is used up (R203). -/
def PhaseSt.restarted (x : PhaseSt) : PhaseSt := { x with thSum := 0, thAct := 0, thN := 0 }

theorem State.restartPhases_phase : ((List.finRange 56).foldl (fun (u : State) q => u.modPhase q PhaseSt.restarted) s).phase p =
    (s.phase p).restarted :=
  (foldl_each (get := State.phase) (f := fun u q => u.modPhase q PhaseSt.restarted) (F := PhaseSt.restarted)
    (fun u q => State.phase_modPhase_self u q _) (fun u _ _ h => State.phase_modPhase_ne u h _) (List.nodup_finRange 56) s p).trans
    (if_pos (List.mem_finRange p))

/-- Every fitted tile advances, and no other; what the phases have gathered starts anew. -/
theorem State.siroccoStep_holds (runs : s.siroccoRuns = true) :
    (∀ n : Fin 8, s.tileFitted n = true → State.AdvancesTile n s s.siroccoStep) ∧
      (∀ n : Fin 8, s.tileFitted n = false → s.siroccoStep.thermTile n = s.thermTile n) ∧
      ∀ p, (s.siroccoStep.phase p).thN = 0 ∧ (s.siroccoStep.phase p).st = (s.phase p).st := by
  unfold State.siroccoStep
  rw [if_pos runs]
  extract_lets ts a b c d
  have advance : ∀ n ∈ ts, State.AdvancesTile n s a := fun n hn => State.tileSteps_advance ((List.nodup_finRange 8).filter _) hn
  have rest : ∀ n, n ∉ ts → a.thermTile n = s.thermTile n := (ThermKept.tiles fun _ _ => State.tileStep_only).2
  have phases (p : Fin 56) : (a.phase p).st = (s.phase p).st :=
    foldl_keeps (P := fun u : State => (u.phase p).st = (s.phase p).st) rfl
      fun _ _ hu => (State.tileStep_phase_keeps PhaseSt.st fun _ _ _ => rfl).trans hu
  have limits : (∀ n, (b.thermTile n).core = (a.thermTile n).core) ∧ ∀ n, n ∉ ts → b.thermTile n = a.thermTile n :=
    ThermKept.tiles fun _ _ => State.warnStep_core.next State.rateStep_core
  have shown : (∀ n, (c.thermTile n).core = (b.thermTile n).core) ∧ ∀ n, n ∉ ts → c.thermTile n = b.thermTile n :=
    ThermKept.tiles fun _ _ => State.showTile_core
  have kept : Within (parts [.objs, .ints, .net, .therm]) a c :=
    (Within.refl.foldl fun _ _ => State.warnStep_within.sub.next State.rateStep_within).foldl fun _ _ => State.showTile_within.sub
  have restarted (p : Fin 56) : d.phase p = (c.phase p).restarted := State.restartPhases_phase
  have last : Within (parts [.phases]) c d := Within.refl.foldl fun _ _ => State.modPhase_within
  clear_value d c b a
  have thermTile (n : Fin 8) : d.rearm.thermTile n = c.thermTile n := State.rearm_thermTile.trans (State.thermTile_congr last.therm)
  refine ⟨fun n hn => ?_, fun n hn => ?_, fun p => ?_⟩
  · refine (advance n (by simp [ts, hn])).congr rfl rfl rfl ?_
    rw [thermTile, shown.1, limits.1]
  · have out : n ∉ ts := by simp [ts, hn]
    rw [thermTile, shown.2 n out, limits.2 n out, rest n out]
  · rw [State.phase_congr State.rearm_within.phases, restarted]
    exact ⟨rfl, (congrArg PhaseSt.st (State.phase_congr kept.phases)).trans (phases p)⟩

end Sys2Proof.Machine
end

section
/-! The thermal model and its limits (R204–R218). -/

set_option Elab.async false

namespace Sys2Proof.Machine

variable {s : State} {n : Fin 8} {k : Fin 4} {p : Fin 56}

/-! ### The trip that is recorded of those that stand (R211, R212) -/

/-- Tile 0's junction trips before everything else. -/
theorem State.decideTrip_keeper (runs : s.siroccoRuns = true) (hot : 10 ≤ (s.thermTile 0).hotRun) :
    s.decideTrip s.modelTrips = s.tempTrip 0 .keeper 0 := by
  have here := State.modelTrips_keeper hot
  refine State.decideTrip_eq (m := 0) runs (by rw [here]; nofun)
    (State.firstTrip_eq (fun m hm => absurd hm (Fin.not_lt_zero m)) (fun m hm => absurd hm (Fin.not_lt_zero m)) ?_)
  rw [here]
  rfl

/-- The one hot phase trips where no sensor of a lower tile does. -/
theorem State.decideTrip_phase (runs : s.siroccoRuns = true) (junction : (s.thermTile 0).hotRun < 10) (hot : 10 ≤ (s.phase p).hotRun)
    (others : ∀ q, q ≠ p → (s.phase q).hotRun < 10) (sensors : ∀ m, m < tileOf p → s.sensorTrips m = []) :
    s.decideTrip s.modelTrips = s.tempTrip (tileOf p) .phase p.val := by
  have here := State.modelTrips_head hot others
  have stands : s.modelTrips (tileOf p) ≠ [] := fun none_ => by rw [none_] at here; exact absurd here nofun
  have model (m : Fin 8) (hm : m < tileOf p) : s.modelTrips m = [] :=
    State.modelTrips_eq_nil (fun _ => junction) fun q hq => others q fun e => hm.ne (by rw [← hq, e])
  exact State.decideTrip_eq runs stands (State.firstTrip_eq model sensors (by rw [List.head?_append, here]; rfl))

/-- The first hot sensor trips where the model of its tile and of the lower ones has no trip. -/
theorem State.decideTrip_sensor (runs : s.siroccoRuns = true) (valid : k ∈ s.validSensors n) (hot : 2 ≤ (s.sensor n k).hotRun)
    (first : ∀ j, j < k → (s.sensor n j).hotRun < 2) (model : ∀ m, m ≤ n → s.modelTrips m = [])
    (sensors : ∀ m, m < n → s.sensorTrips m = []) : s.decideTrip s.sensorTrips = s.tempTrip n .keeper (0x10 + k.val) := by
  have here := State.sensorTrips_head valid hot first
  have stands : s.sensorTrips n ≠ [] := fun none_ => by rw [none_] at here; exact absurd here nofun
  exact State.decideTrip_eq runs stands
    (State.firstTrip_eq (fun m hm => model m hm.le) sensors (by rw [model n le_rfl, List.nil_append, here]))

/-! ### The clauses together (O29) -/

/-- Settles O29: an update and a sample move each tile by itself, and a trip is a rail fault or opens the outputs in IDLE. -/
theorem thermalModelAndLimits : Obligations.ThermalModelAndLimits := by
  refine ⟨⟨fun s runs => ?_, fun n rs s runs on => ?_, fun n k s runs cool mem valid due far others => ?_, fun n s runs fast low => ?_,
    fun n s runs far calm => ?_, fun acc s admits role service => ?_⟩,
    fun s runs mode hot => ?_, fun p s runs mode junction hot others sensors => ?_,
    fun n k s runs mode valid hot first model sensors => ?_, fun s runs idle still dead armed hot => ?_⟩
  · obtain ⟨fitted, unfitted, phases⟩ := State.siroccoStep_holds runs
    have w := State.siroccoStep_within (s := s)
    exact ⟨_, rfl, fun n hn => ⟨(fitted n hn).dt, (fitted n hn).tj, (fitted n hn).tref⟩, unfitted, phases, w.rails, w.modes, w.mram⟩
  · obtain ⟨sensors, others⟩ := State.sensorSample_holds (rs := rs) runs on
    have w := State.sensorSample_within (s := s) (t := n) (rs := rs)
    refine ⟨_, rfl, fun k hk => ⟨(sensors k hk).1, fun valid => ?_⟩, others, w.rails, w.modes, w.mram⟩
    rw [(sensors k hk).2, valid]
    rfl
  · have w := State.breakSensor_within (s := s) (t := n) (k := k) (st := .disagree)
    refine ⟨_, exec_eq (State.crossCheck_of_one runs cool mem valid due far others), ?_, State.breakSensor_shows,
      fun m j h => State.breakSensor_sensor_ne h, w.rails, w.modes⟩
    rw [State.breakSensor_sensor_self]
  · obtain ⟨tile, shows, others, objects⟩ := State.modTherm_raiseSir_holds (s := s) (n := n) (i := 3)
      (f := fun x => { x with fast := false, rateWas := s.samplesFast n, rateFrom := s.nextMs })
    exact ⟨_, exec_eq (State.rateSlow_of_low runs fast low), congrArg ThermTile.fast tile, shows, others, objects⟩
  · obtain ⟨tile, shows, others, objects⟩ := State.modTherm_raiseSir_holds (s := s) (n := n) (i := 6)
      (f := fun x => { x with diverge := true })
    exact ⟨_, exec_eq (State.modelDiverge_of_far runs far calm), congrArg ThermTile.diverge tile, shows, others, objects⟩
  · have reset (n : Fin 8) (k : Fin 4) : ((List.finRange 8).foldl State.resetTile s).sensor n k = (s.sensor n k).reset :=
      State.resetTiles_sensor
    have e := State.resetTiles_eq (s := s)
    have ok := State.writeSensorReset_ok admits role service
    generalize (List.finRange 8).foldl State.resetTile s = t at reset e ok
    refine ⟨{ t with answer := .done }, exec_eq (State.access_ok _ admits.1 ok), rfl, fun n k broken => ?_, fun n k whole => ?_,
      congrArg (fun x : State => { x with answer := .done }) e⟩
    · change (t.sensor n k).st = _ ∧ (t.sensor n k).disRun = _
      rw [reset, SensorSt.reset, if_pos broken]
      exact ⟨rfl, rfl⟩
    · exact (reset n k).trans (if_neg whole)
  · exact ⟨_, exec_eq (State.decideTrip_keeper runs hot), State.tempTrip_faultSeals mode⟩
  · exact ⟨_, exec_eq (State.decideTrip_phase runs junction hot others sensors), State.tempTrip_faultSeals mode⟩
  · exact ⟨_, exec_eq (State.decideTrip_sensor runs valid hot first model sensors), State.tempTrip_faultSeals mode⟩
  · exact ⟨_, exec_eq (State.decideTrip_keeper runs hot), State.tempTrip_idle idle still dead armed⟩

end Sys2Proof.Machine
end
